-- ==== Sys2Proof/Word.lean ====
section
/-!
DEFINITION. The word types, and the form in which the manual names a register field.
-/

namespace Sys2Proof

/-- A register word: every register location is 32 bits wide (R39). -/
abbrev Word := BitVec 32

/-- A byte of SRAM, of the store, of a frame. -/
abbrev Byte := BitVec 8

namespace Machine

/-- A field of a register: the byte address of the word (for a table entry, its address in the shadow view, R40), the
lowest bit, the width, and whether it is configuration, which the block reads from the live configuration (R49, R53).
A field wider than its word goes on in the next word. -/
structure Ref where
  addr : Nat
  lo : Nat
  w : Nat
  cfg : Bool
  deriving DecidableEq, Repr

end Machine

end Sys2Proof
end

