-- ==== Sys2Proof/Syntax.lean ====
section
/-!
DEFINITION. The commands the node takes (spec/opcode_table.json, one constructor for each row): writes and frames of its
requesters, events at its pins and on its links, and the ends of the activities it starts. An operand that is a reading
of the world (a sample code, a voltage, a frame's bytes) comes with the command.
-/

namespace Sys2Proof

/-- Who asks for a register access (R39): the host port, an authenticated party over the bus with its node address, its
role (1 operator, 2 engineer, 3 service, 4 vendor recovery, R390) and whether it is the system master (R79), or the
recorded pair partner over the Uhliz link. -/
inductive Requester where
  | host
  | remote (nid role : Nat) (master : Bool)
  | pair
  deriving DecidableEq, Repr

/-- A frame on a bus (R359): base or extended identifier, remote, FD, bit rate switch, error state indicator, DLC, payload. -/
structure CanFrame where
  id : Nat
  xtd : Bool
  rtr : Bool
  fdf : Bool
  brs : Bool
  esi : Bool
  dlc : Nat
  data : List Byte
  deriving DecidableEq, Repr

/-- How a protocol error counts under the error confinement of ISO 11898-1 (R364). -/
inductive BusErrorKind where
  /-- A receiver detects an error: its counter rises by 1. -/
  | receiving
  /-- A receiver finds the bit after its error flag dominant: by 8. -/
  | receiverDominant
  /-- A transmitter sends an error flag: by 8. -/
  | transmitting
  /-- An error-passive transmitter sees an acknowledgement error and no dominant bit in its passive flag: no change. -/
  | quietAck
  /-- A stuff error in arbitration on a recessive stuff bit that is monitored dominant: no change. -/
  | arbitrationStuff
  /-- A bit error while an active error flag or an overload flag is sent: by 8. -/
  | flagBit
  /-- The 14th consecutive dominant bit after an active flag, the 8th after a passive one, and each 8 more: by 8. -/
  | dominantRun
  /-- A recessive res bit (R359). -/
  | protocolException
  deriving DecidableEq, Repr

/-- How a transmission attempt ends. -/
inductive TxOutcome where
  | sent | lost | error
  deriving DecidableEq, Repr

/-- The commands: one constructor per row of the opcode table. -/
inductive Instr where
  -- the host port and the page header (R39 to R79)
  /-- READ: address, length, the host's CRC, and how many bytes of data left the port before CSn rose (R47). -/
  | hostRead (addr len crc taken : Nat)
  /-- READ4. -/
  | hostRead4 (addr len crc taken : Nat)
  /-- WRITE: address, length, data, the host's CRC. -/
  | hostWrite (addr len : Nat) (data : List Byte) (crc : Nat)
  /-- WRITE4. -/
  | hostWrite4 (addr len : Nat) (data : List Byte) (crc : Nat)
  /-- RESET frame: address field, length field, the host's CRC. -/
  | hostResetFrame (addr len crc : Nat)
  /-- A frame whose command byte R66 does not list. -/
  | unknownCommandFrame (command : Byte)
  /-- CSn rises before the host's CRC is complete. -/
  | hostFrameCutShort
  /-- No status is ready 100 µs after the host's last CRC bit; the frame's address field. -/
  | hostStatusTimeout (addr : Nat)
  /-- A write of one word to a register or table word. -/
  | registerWrite (req : Requester) (addr : Nat) (value : Word)
  /-- Key 0xC0A1 to COMMIT of a page. -/
  | commitNextLap (req : Requester) (page : Nat)
  /-- Key 0xC0A2. -/
  | commitImmediate (req : Requester) (page : Nat)
  /-- Key 0xC0A0. -/
  | commitCancel (req : Requester) (page : Nat)
  /-- The check that a commit started ends. -/
  | commitCheckEnd (page : Nat)
  /-- 1 to CTL.revert. -/
  | ctlRevert (req : Requester) (page : Nat)
  /-- A write of CTL.enable. -/
  | ctlEnableWrite (req : Requester) (page : Nat) (enable : Bool)
  /-- A write of CTL.qreq. -/
  | quiesceRequest (req : Requester) (page : Nat) (qreq : Bool)
  /-- QTIMEOUT of a page runs out without STAT.idle. -/
  | quiesceTimeout (page : Nat)
  /-- 1 to CTL.breset. -/
  | blockResetRequest (req : Requester) (page : Nat)
  /-- LOCK with key 0xA5C3 and bit 0 set. -/
  | lockWrite (req : Requester) (page : Nat)
  /-- SYS.CFGOWNER.owner written by the owner. -/
  | cfgOwnerHandover (req : Requester) (owner : Nat)
  /-- SYS.CFGOWNER with key 0x5A, from the host port. -/
  | cfgOwnerReclaim (owner : Nat)
  /-- SYS.IMGSW op 0x1. -/
  | imageSwitchRequest (req : Requester) (imgB : Bool)
  /-- SYS.IMGSW op 0x2. -/
  | imageSwitchCancel (req : Requester)
  /-- The checks of R566 end. -/
  | imageSwitchCheckEnd
  -- laps (R29, R538 to R541)
  /-- A due boundary is taken; the module temperature in mK, if its sensor is valid (R163), and by how many µs the
  boundary comes after its grid point. -/
  | lapBoundary (modT : Option Int) (late : Nat)
  /-- CTL.enable of LAP is set: boundary 0 of a new grid. -/
  | lapEnable (req : Requester) (modT : Option Int)
  /-- CTL.enable of LAP is cleared. -/
  | lapDisable (req : Requester)
  -- banks, pins and excitation (R80 to R118)
  /-- The slot of a context starts. -/
  | slotStart (bank ctx : Nat)
  /-- The burn-out term of a thermocouple ends with this voltage across its legs, in µV. -/
  | burnoutCheckEnd (bank ctx : Nat) (microvolts : Int)
  /-- A burn-out test of a sense wire ends: of SNS− (else SNS+), and the difference from its EXC pin in µV. -/
  | senseCheckEnd (bank ctx : Nat) (negative : Bool) (microvolts : Int)
  /-- The settling delay of a phase ends. -/
  | settleEnd (bank ctx : Nat)
  /-- An output period of the lane ends: the sample code, the spare's code of the same period, and whether the input
  overloads (R83). -/
  | sampleOut (bank ctx : Nat) (code spareCode : Int) (overload : Bool)
  /-- The slot of a context ends. -/
  | slotEnd (bank ctx : Nat)
  /-- The source steered to a context reaches its compliance. -/
  | sourceCompliance (bank ctx : Nat)
  /-- The excitation monitor finds a change in a context's phase, `elapsed` µs after its slot start; in listen mode, whether
  the partner's excitation is absent (R337). -/
  | excitationChange (bank ctx elapsed : Nat) (absent : Bool)
  /-- The bridge supply current exceeds 25 mA. -/
  | bridgeOvercurrent (bank : Nat)
  /-- A pin leaves the operating window. -/
  | pinWindowFault (bank pin : Nat)
  /-- The fixed offset of the main phase in the slot of a context. -/
  | mainPhaseStart (bank ctx : Nat)
  -- the arithmetic pipeline (R119 to R158)
  /-- ARITH takes the head of its queue. -/
  | recordFormation
  /-- 1 to ARITH.TESTCTL.start, with the channel. -/
  | testRecordStart (req : Requester) (ch : Nat)
  -- calibration (R159 to R204)
  /-- The reference monitor run ends with the deviations of REF0/REF1, REF0/REF2, REF1/REF2 and RR0/RR1 in 10^-9. -/
  | referenceMonitorEnd (dev01 dev02 dev12 rrdev : Int)
  /-- A reference conversion of a bank ends with its 32 codes. -/
  | referenceConversionEnd (bank : Nat) (codes : List Int) (overload : Bool)
  /-- A reference conversion made for R178 ends: the sums of the live modulator's and of the spare's 32 codes. -/
  | overlapReferenceEnd (bank : Nat) (liveSum spareSum : Int)
  /-- CAL.CMD op 0x1. -/
  | reinstateChannel (req : Requester) (ch : Nat)
  /-- CAL.CMD op 0x2. -/
  | reinstateModulator (req : Requester) (bank modulator : Nat)
  /-- CAL.CMD op 0x3. -/
  | reinstateReference (req : Requester) (ref : Nat)
  /-- CAL.CMD op 0x4. -/
  | retireChannelCommand (req : Requester) (ch : Nat)
  /-- 1 to CAL.FCALCTL.start. -/
  | fieldCalStart (req : Requester)
  /-- The 64 conversions end with this measured value, in 10^-6 of the unit of FCALVAL, or a conversion overloads or
  opens. -/
  | fieldCalRunEnd (measured : Int) (conversionFault : Bool)
  /-- 1 to CAL.FCALCTL.accept with key 0xFCA1. -/
  | fieldCalAccept (req : Requester)
  /-- 1 to CAL.FCALCTL.abort. -/
  | fieldCalAbort (req : Requester)
  /-- The store copy being written is read back: whether it verifies. -/
  | calStoreCopyVerified (verified : Bool)
  -- alarms (R205 to R252)
  /-- ALM evaluates the lap; the fabric cycles the evaluation takes (R205). -/
  | almEvaluation (cycles : Nat)
  /-- A flash edge of STIME. -/
  | lampFlashEdge
  /-- ALM.CMD op 0x1. -/
  | acknowledge (req : Requester) (ctx : Nat)
  /-- ALM.CMD op 0x2. -/
  | acknowledgeGroup (req : Requester) (group : Nat)
  /-- ALM.CMD op 0x3. -/
  | acknowledgeAll (req : Requester)
  /-- ALM.CMD op 0x4. -/
  | shelve (req : Requester) (ctx : Nat)
  /-- ALM.CMD op 0x5. -/
  | unshelve (req : Requester) (ctx : Nat)
  /-- ALM.CMD op 0x6. -/
  | outOfService (req : Requester) (ctx : Nat)
  /-- ALM.CMD op 0x7. -/
  | returnToService (req : Requester) (ctx : Nat)
  /-- ALM.CMD op 0x8. -/
  | latchReset (req : Requester) (ctx : Nat)
  /-- ALM.CMD op 0x9. -/
  | silenceHorn (req : Requester) (group : Nat)
  /-- ALM.CMD op 0xA. -/
  | resetFirstOut (req : Requester) (group : Nat)
  /-- ALM.CMD op 0xB. -/
  | rescanCommand (req : Requester)
  /-- ALM.CMD op 0xC. -/
  | clearFalseStarts (req : Requester) (ctx : Nat)
  /-- A rising edge of a group's acknowledge input. -/
  | groupAckInput (group : Nat)
  /-- ALM.NQREL is written. -/
  | nqRelease (req : Requester) (index : Nat)
  -- engineer call (R253 to R272)
  /-- CALL.CMD op 0x1, at a call point. -/
  | callAcknowledge (req : Requester) (cp : Nat)
  /-- CALL.CMD op 0x2: from a call point, to an engineer. -/
  | dutyOffer (req : Requester) (cp eng : Nat)
  /-- CALL.CMD op 0x3, at a call point. -/
  | dutyConfirm (req : Requester) (cp : Nat)
  /-- CALL.CMD op 0x4. -/
  | offerCancel (req : Requester)
  /-- CALL.CMD op 0x5. -/
  | personnelArm (req : Requester)
  /-- CALL.CMD op 0x6. -/
  | personnelDisarm (req : Requester)
  /-- CALL.CMD op 0x7. -/
  | personnelReset (req : Requester)
  /-- A rising edge of a call point's ack_pin. -/
  | callPointAckInput (cp : Nat)
  /-- An edge of arm_pin. -/
  | armPinChange (rising : Bool)
  /-- A rising edge of reset_pin, or of the acknowledge input of a watch call point. -/
  | resetPinEdge (watch : Option Nat)
  /-- An offer has not been confirmed within relay_to. -/
  | offerTimeout
  /-- A TML call point has been silent for cp_timeout. -/
  | callPointLost (cp : Nat)
  /-- A node that is not master sends its demand. -/
  | demandSend
  /-- A received demand has not been refreshed for 3 s. -/
  | demandStale (nid : Nat)
  -- loop channels (R273 to R293)
  /-- A readback sample in nA, with the terminal voltage in mV and whether the stage's range is left (R276). -/
  | readbackSample (u : Nat) (rb tv : Int) (saturated : Bool)
  /-- win ms into a lap. -/
  | loopWindowEnd (u : Nat)
  /-- UIO.SETu is written. -/
  | loopSetWrite (req : Requester) (u : Nat) (value : Int)
  /-- The temperature of a loop stage crosses a limit of R284. -/
  | stageThermal (u : Nat) (celsius : Int)
  -- digital pins and the jacket link (R294 to R322)
  /-- A filter sample of an input. -/
  | inputSample (pin : Nat) (r : Bool)
  /-- An output trips: by temperature, else by its current limit. -/
  | outputTrip (pin : Nat) (thermal : Bool)
  /-- A tripped output may restart. -/
  | outputRestart (pin : Nat)
  /-- The test source's voltage at an off output. -/
  | wireBreakTest (pin millivolts : Nat)
  /-- An on output has been below ol_ma for 10 ms. -/
  | openLoadConfirm (pin : Nat)
  /-- An off output has been above 10.0 V for ext_ms. -/
  | extdrvConfirm (pin : Nat)
  /-- A pin's state has differed from the expected one for ext_ms. -/
  | disagreeConfirm (pin : Nat)
  /-- The clearing condition of a flag has held (R302): 0 OPEN, 1 EXTDRV, 2 DISAGREE, 3 SHORT. -/
  | outputFlagClear (pin flag : Nat)
  /-- A word of DIO.OUTSET is written. -/
  | outsetWrite (req : Requester) (index : Nat) (value : Word)
  /-- The mean of VFIELD, and the temperature of the field-side die in °C. -/
  | vfieldMeasure (millivolts : Nat) (die : Int)
  /-- A slot of the jacket link begins. -/
  | jacketDownstreamFrame
  /-- The field end's frame reaches the logic end, with the bits that noise inverts. -/
  | jacketUpstreamFrame (noise : List Byte)
  /-- The logic end's frame reaches the field end, with the bits that noise inverts. -/
  | jacketFrameAtField (noise : List Byte)
  /-- A frame is missing, at the field end or at the logic end. -/
  | jacketFrameMissing (atField : Bool)
  -- the pair (R323 to R358)
  /-- 1 ms passes. -/
  | leaseSend
  /-- A LEASE on a lane. -/
  | leaseReceived (lane : Nat) (payload : List Byte)
  /-- A LAPMARK on a lane. -/
  | lapmarkReceived (lane : Nat) (payload : List Byte)
  /-- The source entries change, or 1 s passes. -/
  | excrepSend
  /-- An EXCREP. -/
  | excrepReceived (lane : Nat) (payload : List Byte)
  /-- A DIGEST. -/
  | digestReceived (lane : Nat) (payload : List Byte)
  /-- 1 ms passes after a slot end without the holder's DIGEST. -/
  | digestWaitTimeout (ch : Nat)
  /-- A MIRROR_END, with the payloads of the MIRROR frames of the lap. -/
  | mirrorEndReceived (lane : Nat) (payload : List Byte) (mirrors : List (List Byte))
  /-- A CMDFWD. -/
  | cmdfwdReceived (lane : Nat) (payload : List Byte)
  /-- A CMDRES. -/
  | cmdresReceived (lane : Nat) (payload : List Byte)
  /-- 100 ms pass without the CMDRES of the oldest forwarded command. -/
  | cmdresTimeout
  /-- The CFGFWD frames of one commit. -/
  | cfgfwdReceived (lane : Nat) (payloads : List (List Byte))
  /-- A REGACC. -/
  | regaccReceived (lane : Nat) (payload : List Byte)
  /-- An IMAGE frame. -/
  | imageFrameReceived (lane : Nat) (payload : List Byte)
  /-- An EVALDONE. -/
  | evaldoneReceived (lane : Nat) (payload : List Byte)
  /-- 2 ms pass without EVALDONE. -/
  | evaldoneTimeout
  /-- A lane has had no good frame for 3 ms. -/
  | laneDown (lane : Nat)
  /-- A frame with a wrong CRC or a reserved type. -/
  | uhlizFrameError (lane : Nat)
  /-- start_ms pass without a sign of the partner. -/
  | pairStartTimeout
  /-- The lease expires; whether the partner is silent under the 12 ms rule of R348. -/
  | takeover (silent : Bool)
  /-- 20 ms pass without LEASE and pair presence. -/
  | partnerLost
  /-- BUS0 and BUS1 have been unusable for 20 ms. -/
  | batonRelease
  /-- PAIR.CMD op 0x1. -/
  | plannedHandover (req : Requester)
  /-- PAIR.CMD op 0x2. -/
  | resynchronise (req : Requester)
  /-- An offer is not accepted 1 ms before its boundary. -/
  | handoverOfferLapse
  /-- 3 ms pass after the boundary without a claim of the new holder. -/
  | handoverNoClaim
  /-- 5 ms pass. -/
  | pairPresenceSend
  -- bus ports (R359 to R385)
  /-- A frame received without error, by how many µs its start of frame lies back. -/
  | canFrameReceived (port : Nat) (frame : CanFrame) (age : Nat)
  /-- 1 to TXCMDk.req. -/
  | txRequest (req : Requester) (port buffer : Nat)
  /-- 1 to TXCMDk.cancel. -/
  | txCancel (req : Requester) (port buffer : Nat)
  /-- A frame may begin on the bus. -/
  | txAttemptStart (port : Nat)
  /-- The attempt in progress ends; the measured loop delay of R363, if one was taken. -/
  | txAttemptEnd (port : Nat) (outcome : TxOutcome) (delay : Option Nat)
  /-- A protocol error, with its code of R364 and whether it lies in the data phase. -/
  | busError (port : Nat) (kind : BusErrorKind) (code : Nat) (dataPhase : Bool)
  /-- The pause of R366 ends. -/
  | soloPauseEnd (port : Nat)
  /-- CMD.recover with key 0xB5. -/
  | busRecover (req : Requester) (port : Nat)
  /-- 128 sequences of 11 recessive bits have passed. -/
  | busRecoveryComplete (port : Nat)
  /-- 11 consecutive recessive bits have passed. -/
  | integrationComplete (port : Nat)
  /-- RXRELq is written. -/
  | rxRelease (req : Requester) (port queue index : Nat)
  /-- RXD is dominant on wake_n pacer ticks while COMM is off. -/
  | busWake (port : Nat)
  -- the message layer and system time (R386 to R415)
  /-- MSG takes the oldest notification entry. -/
  | notificationConsume
  /-- The TML consumer takes the oldest entry of a receive queue. -/
  | tmlFrameAccept (port queue : Nat)
  /-- The oldest accepted COMMAND is applied. -/
  | commandMessage
  /-- The oldest accepted COMMAND, which names a block of R395. -/
  | unknownBlockCommand
  /-- The oldest accepted CALL_ACK. -/
  | callAckMessage
  /-- The oldest accepted CP_PRESENCE. -/
  | cpPresenceMessage
  /-- The oldest accepted DEMAND. -/
  | demandMessage
  /-- The oldest accepted PAIR_PRESENCE. -/
  | pairPresenceMessage
  /-- The oldest accepted REG_REQ fragment. -/
  | regReqFragment
  /-- 100 ms pass after fragment 0 of the request of a source. -/
  | regReqTimeout (source : Nat)
  /-- A HEALTH message is due. -/
  | healthSend
  /-- A PAIR_STATUS message is due. -/
  | pairStatusSend
  /-- A CALL message is due. -/
  | callMessageSend
  /-- sync_ms pass at a time source. -/
  | syncSend
  /-- The start of frame of a SYNC has been captured. -/
  | followUpSend
  /-- The oldest accepted SYNC or FOLLOW_UP. -/
  | syncPairReceived
  /-- loss_s pass without an accepted pair. -/
  | timeHoldover
  /-- TSYNC.CMD set. -/
  | timeSetCommand (req : Requester)
  -- memory, translation and DMA streams (R416 to R448)
  /-- The SRAM initialisation ends; whether the retention partition was kept. -/
  | sramInitDone (kept : Bool)
  /-- The scrubber reads the next word and finds: 0 no error, 1 a single-bit error, 2 an uncorrectable one. -/
  | scrubStep (finding : Nat)
  /-- SCTLs op start. -/
  | dmaStart (req : Requester) (stream : Nat)
  /-- SCTLs op restart. -/
  | dmaRestart (req : Requester) (stream : Nat)
  /-- SCTLs op abort. -/
  | dmaAbort (req : Requester) (stream : Nat)
  /-- A burst of the active stream ends. -/
  | dmaBurstEnd
  /-- DMA.RRREL is written. -/
  | resultRingRelease (req : Requester) (index : Nat)
  /-- NVM.CMD op 0x1. -/
  | nvmProgram (req : Requester)
  /-- NVM.CMD op 0x2. -/
  | nvmErase (req : Requester)
  /-- NVM.CMD op 0x3. -/
  | nvmCrc (req : Requester)
  /-- NVM.CMD op 0x4. -/
  | nvmAbort (req : Requester)
  /-- The running store command ends; whether the array took the data. -/
  | nvmCommandEnd (taken : Bool)
  -- the event recorder (R449 to R467)
  /-- REC.CMD op 0x1. -/
  | newLeg (req : Requester)
  /-- REC.CMD op 0x2, with a channel or 0x3FF. -/
  | histogramClear (req : Requester) (arg : Nat)
  /-- REC.CMD op 0x3. -/
  | archiveAcknowledge (req : Requester)
  /-- REC.CMD op 0x4. -/
  | clearLog (req : Requester)
  /-- REC.CMD op 0x5. -/
  | writeRecord (req : Requester)
  /-- REC.CMD op 0x6. -/
  | captureBase (req : Requester)
  /-- A write of REC.HSEL. -/
  | hselWrite (req : Requester) (ch : Nat)
  /-- The last page of a base is read back: whether it verifies. -/
  | baseVerified (verified : Bool)
  /-- A page of staged records is programmed: whether the store took it. -/
  | stagedRecordProgram (taken : Bool)
  /-- refill_ms of a rate class passes. -/
  | tokenRefill (cls : Nat)
  /-- summ_s seconds of suppression pass. -/
  | summaryInterval (cls : Nat)
  -- calendar clock and backup memory (R468 to R484)
  /-- The tick with which RTC.SUBSEC carries into SEC. -/
  | rtcSecondCarry
  /-- A requester reads a time register (R483: 0 SUBSEC, 1 SEC to 8 CENT). -/
  | rtcTimeRead (req : Requester) (index : Nat)
  /-- 328 pacer ticks pass since the freeze of a class. -/
  | rtcFreezeTimeout (req : Requester)
  /-- RTC.CMD op 0x1 and the first pacer tick after it. -/
  | rtcSet (req : Requester)
  /-- RTC.CMD op 0x2 and the first pacer tick after it. -/
  | rtcAdd1h (req : Requester)
  /-- RTC.CMD op 0x3 and the first pacer tick after it. -/
  | rtcSub1h (req : Requester)
  /-- RTC.CMD op 0x4 and the first pacer tick after it. -/
  | rtcShift (req : Requester) (back : Bool) (n : Nat)
  /-- RTC.CMD op 0x5. -/
  | rtcReleaseFreeze (req : Requester)
  /-- The pacer crystal stops for more than 4 ms. -/
  | pacerStop
  /-- The crystal has run for 1 s. -/
  | pacerRecovered
  /-- VDDIO or VBAT appears while neither was present. -/
  | bkpPowerUp
  /-- VBAT falls below 2.0 V while VDDIO is present. -/
  | vbatLow
  -- keys, tamper and images (R485 to R503)
  /-- KEYV.CMD op 0x1. -/
  | keyLoad (req : Requester) (slot : Nat)
  /-- KEYV.CMD op 0x2. -/
  | keyClear (req : Requester) (slot : Nat)
  /-- KEYV.CMD op 0x3. -/
  | vaultErase (req : Requester)
  /-- SEC.CMD op 0x1. -/
  | identityGenerate (req : Requester)
  /-- SEC.CMD op 0x2. -/
  | attest (req : Requester)
  /-- The signature is formed. -/
  | attestDone
  /-- SEC.CMD op 0x3. -/
  | verifyImageA (req : Requester)
  /-- SEC.CMD op 0x4. -/
  | verifyImageB (req : Requester)
  /-- The image check in progress ends. -/
  | imageVerifyEnd
  /-- A tamper source of R493 is detected, or is no longer present. -/
  | tamperDetect (source : Nat) (present : Bool)
  /-- 1 to TAMP.STAT.alarm. -/
  | securityAlarmClear (req : Requester)
  -- power (R504 to R533)
  /-- A sample of VMON in mV. -/
  | vmonSample (millivolts : Nat)
  /-- VDDC falls below the warning threshold, or rises above it again. -/
  | coreRailWarning (present : Bool)
  /-- PWR.CMD op 0x1. -/
  | stowCommand (req : Requester)
  /-- S7 has written the core-state image. -/
  | coreStateSaved
  /-- The conditions of R522 for leaving Shed 4 hold, or a wake source ended Stow. -/
  | restoration
  /-- VDDA falls below 4.60 V. -/
  | vddaLow
  /-- VDDA rises above 4.70 V. -/
  | vddaRecover
  /-- Power-good of a domain does not come within 100 µs. -/
  | domainPowerGoodTimeout (domain : Nat)
  /-- The 1 ms mean of the logic-side power. -/
  | governorCheck (milliwatts : Nat)
  -- clocks, sleep and reset (R534 to R563)
  /-- The HFXO fails, or the sprint PLL loses lock. -/
  | clockFailure (pll : Bool)
  /-- The APLL loses lock, or locks again. -/
  | apllUnlock (locked : Bool)
  /-- A second of Run or Doze ends: STIME passed in 32,768 pacer ticks, less 10^6 µs, in 10^-9. -/
  | pacerCalibration (ppb : Int)
  /-- The idle node gates its core branch. -/
  | dozeEntry
  /-- The idle node with the conditions of R543. -/
  | napEntry
  /-- lead × 100 µs before the next grid point; whether Run is reached after the grid point. -/
  | lapWake (late : Bool)
  /-- A wake source of R544 asserts. -/
  | wakeEvent (source : Nat)
  /-- AON comes up from the logic rails: the power-on source. -/
  | powerOnReset
  /-- VDDC, or VDDIO, falls below its brown-out threshold. -/
  | brownOut (vddio : Bool)
  /-- RSTn is driven low; its release is RESET_RELEASE. -/
  | rstnPin
  /-- A rail passes its 10 % point out of order. -/
  | sequenceViolation
  /-- A due boundary has not been taken within sup_s. -/
  | supervisorTrip
  /-- RST.CMD op 0x1. -/
  | nodeResetCommand (req : Requester)
  /-- RST.CMD op 0x2. -/
  | fullResetCommand (req : Requester)
  /-- RST.CMD op 0x3. -/
  | domainResetCommand (req : Requester) (domain : Nat)
  /-- The last source releases: how many of the eleven domains in the order of R549 have a good clock. -/
  | resetRelease (good : Nat)
  /-- 1 s passes after an abandoned release. -/
  | releaseRetry (good : Nat)
  /-- BYPASS or an unsupported code is selected, and a bit is shifted. -/
  | jtagBypass
  /-- IDCODE. -/
  | jtagIdcode
  /-- SAMPLE/PRELOAD: the pins sampled and the cells loaded. -/
  | jtagSamplePreload (sample preload : Nat)
  /-- EXTEST. -/
  | jtagExtest
  /-- TMS resets the TAP. -/
  | jtagTapReset
  /-- The operating time reaches all ones. -/
  | operatingTimeStuck
  deriving DecidableEq, Repr

end Sys2Proof
end

