-- ==== Sys2Proof/Decode.lean ====
section
/-!
DEFINITION. The commands that words of spec/opcode_table.json spell: no row of the table has bits, so none does.
-/

namespace Sys2Proof

/-- The command that `nbits` bits with the value `w` spell: none, because every row of the opcode table has 0 bits.
(DESIGN CHOICE, notes/assumptions/7.md.) -/
def decodeTableWord (_nbits _w : Nat) : Option Instr := none

end Sys2Proof
end

