-- ==== Sys2Proof/Machine/RegMap.lean ====
section
/-!
DEFINITION. The names of the registers and of their fields: one constant per register and per field of the
spec's register tables (R41, R76, R118, R158, R204, R252, R272, R293, R322, R325, R358, R385, R411, R414, R442,
R444, R446, R448, R466, R483, R484, R501 to R503, R533, R560 to R563 and the table entries of R87, R128, R210,
R234, R256, R257, R291, R295, R402, R451, R462), under the manual's own notation PAGE.REGISTER.field.
The parameter n is the page's number among its like (bank, port), k an entry or transmit buffer, i an array index.
An index counts modulo how many there are, so that a name never reaches beyond its own registers.
-/

namespace Sys2Proof.Machine

-- SYS (R18)
def SYS.NODEID : Ref := ⟨0x40, 0, 32, false⟩
def SYS.NODEID.variant : Ref := ⟨0x40, 12, 2, false⟩
def SYS.NODEID.pairpos : Ref := ⟨0x40, 10, 1, false⟩
def SYS.NODEID.segment : Ref := ⟨0x40, 5, 5, false⟩
def SYS.NODEID.position : Ref := ⟨0x40, 0, 5, false⟩
def SYS.CFGOWNER : Ref := ⟨0x44, 0, 32, false⟩
def SYS.CFGOWNER.key : Ref := ⟨0x44, 8, 8, false⟩
def SYS.CFGOWNER.owner : Ref := ⟨0x44, 0, 2, false⟩
-- HOST (R76)
def HOST.CFG : Ref := ⟨0x60040, 0, 32, false⟩
def HOST.CFG.faultn_en : Ref := ⟨0x60040, 1, 1, false⟩
def HOST.CFG.irqn_en : Ref := ⟨0x60040, 0, 1, false⟩
def HOST.CRCERR : Ref := ⟨0x60044, 0, 32, false⟩
def HOST.CRCERR.count : Ref := ⟨0x60044, 0, 32, false⟩
def HOST.FRAMES : Ref := ⟨0x60048, 0, 32, false⟩
def HOST.FRAMES.count : Ref := ⟨0x60048, 0, 32, false⟩
def HOST.CNTOVF : Ref := ⟨0x6004C, 0, 32, false⟩
def HOST.CNTOVF.crcerr : Ref := ⟨0x6004C, 0, 1, false⟩
def HOST.LASTERR : Ref := ⟨0x60050, 0, 32, false⟩
def HOST.LASTERR.status : Ref := ⟨0x60050, 0, 8, false⟩
def HOST.LASTADDR : Ref := ⟨0x60054, 0, 32, false⟩
def HOST.LASTADDR.addr : Ref := ⟨0x60054, 0, 32, false⟩
def HOST.IRQSUM (i : Nat) : Ref := ⟨0x60060 + 4 * (i % 8), 0, 32, false⟩
def HOST.IRQSUM.page (i : Nat) : Ref := ⟨0x60060 + 4 * (i % 8), 0, 32, false⟩
def HOST.FAULTSUM (i : Nat) : Ref := ⟨0x60080 + 4 * (i % 8), 0, 32, false⟩
def HOST.FAULTSUM.page (i : Nat) : Ref := ⟨0x60080 + 4 * (i % 8), 0, 32, false⟩
-- AFE (R118)
def AFE.BANKCFG (n : Nat) : Ref := ⟨0x8040 + 0x1000 * (n % 8), 0, 32, true⟩
def AFE.BANKCFG.bridge_n (n : Nat) : Ref := ⟨0x8040 + 0x1000 * (n % 8), 16, 9, true⟩
def AFE.BANKCFG.bridge_p (n : Nat) : Ref := ⟨0x8040 + 0x1000 * (n % 8), 1, 9, true⟩
def AFE.BANKCFG.bridge_en (n : Nat) : Ref := ⟨0x8040 + 0x1000 * (n % 8), 0, 1, true⟩
def AFE.MODE (n : Nat) : Ref := ⟨0x8048 + 0x1000 * (n % 8), 0, 32, false⟩
def AFE.MODE.excown (n : Nat) : Ref := ⟨0x8048 + 0x1000 * (n % 8), 1, 1, false⟩
def AFE.MODE.listen (n : Nat) : Ref := ⟨0x8048 + 0x1000 * (n % 8), 0, 1, false⟩
def AFE.LANEMAP (n : Nat) : Ref := ⟨0x804C + 0x1000 * (n % 8), 0, 32, false⟩
def AFE.LANEMAP.retired (n : Nat) : Ref := ⟨0x804C + 0x1000 * (n % 8), 24, 5, false⟩
def AFE.LANEMAP.live (n : Nat) : Ref := ⟨0x804C + 0x1000 * (n % 8), 20, 3, false⟩
def AFE.LANEMAP.spare (n : Nat) : Ref := ⟨0x804C + 0x1000 * (n % 8), 16, 3, false⟩
def AFE.LANEMAP.lanes (n : Nat) : Ref := ⟨0x804C + 0x1000 * (n % 8), 0, 16, false⟩
def AFE.SCHEDEND (n : Nat) : Ref := ⟨0x8050 + 0x1000 * (n % 8), 0, 32, false⟩
def AFE.SCHEDEND.us (n : Nat) : Ref := ⟨0x8050 + 0x1000 * (n % 8), 0, 32, false⟩
def AFE.LAPUSED (n : Nat) : Ref := ⟨0x8054 + 0x1000 * (n % 8), 0, 32, false⟩
def AFE.LAPUSED.us (n : Nat) : Ref := ⟨0x8054 + 0x1000 * (n % 8), 0, 32, false⟩
def AFE.CHOPEN (n : Nat) : Ref := ⟨0x8060 + 0x1000 * (n % 8), 0, 32, false⟩
def AFE.CHOPEN.ctx (n : Nat) : Ref := ⟨0x8060 + 0x1000 * (n % 8), 0, 20, false⟩
def AFE.CHSHORT (n : Nat) : Ref := ⟨0x8064 + 0x1000 * (n % 8), 0, 32, false⟩
def AFE.CHSHORT.ctx (n : Nat) : Ref := ⟨0x8064 + 0x1000 * (n % 8), 0, 20, false⟩
def AFE.CHRESTART (n : Nat) : Ref := ⟨0x8068 + 0x1000 * (n % 8), 0, 32, false⟩
def AFE.CHRESTART.ctx (n : Nat) : Ref := ⟨0x8068 + 0x1000 * (n % 8), 0, 20, false⟩
def AFE.CHABORT (n : Nat) : Ref := ⟨0x806C + 0x1000 * (n % 8), 0, 32, false⟩
def AFE.CHABORT.ctx (n : Nat) : Ref := ⟨0x806C + 0x1000 * (n % 8), 0, 20, false⟩
def AFE.PINFLT0 (n : Nat) : Ref := ⟨0x8070 + 0x1000 * (n % 8), 0, 32, false⟩
def AFE.PINFLT0.pin (n : Nat) : Ref := ⟨0x8070 + 0x1000 * (n % 8), 0, 32, false⟩
def AFE.PINFLT1 (n : Nat) : Ref := ⟨0x8074 + 0x1000 * (n % 8), 0, 32, false⟩
def AFE.PINFLT1.pin (n : Nat) : Ref := ⟨0x8074 + 0x1000 * (n % 8), 0, 16, false⟩
def AFE.RESTARTCNT (n : Nat) : Ref := ⟨0x8080 + 0x1000 * (n % 8), 0, 32, false⟩
def AFE.RESTARTCNT.count (n : Nat) : Ref := ⟨0x8080 + 0x1000 * (n % 8), 0, 32, false⟩
def AFE.OPENCNT (n : Nat) : Ref := ⟨0x8084 + 0x1000 * (n % 8), 0, 32, false⟩
def AFE.OPENCNT.count (n : Nat) : Ref := ⟨0x8084 + 0x1000 * (n % 8), 0, 32, false⟩
def AFE.LEADREJCNT (n : Nat) : Ref := ⟨0x8088 + 0x1000 * (n % 8), 0, 32, false⟩
def AFE.LEADREJCNT.count (n : Nat) : Ref := ⟨0x8088 + 0x1000 * (n % 8), 0, 32, false⟩
def AFE.BOCNT (n : Nat) : Ref := ⟨0x808C + 0x1000 * (n % 8), 0, 32, false⟩
def AFE.BOCNT.count (n : Nat) : Ref := ⟨0x808C + 0x1000 * (n % 8), 0, 32, false⟩
def AFE.CNTOVF (n : Nat) : Ref := ⟨0x8090 + 0x1000 * (n % 8), 0, 32, false⟩
def AFE.CNTOVF.bo (n : Nat) : Ref := ⟨0x8090 + 0x1000 * (n % 8), 3, 1, false⟩
def AFE.CNTOVF.leadrej (n : Nat) : Ref := ⟨0x8090 + 0x1000 * (n % 8), 2, 1, false⟩
def AFE.CNTOVF.open_ (n : Nat) : Ref := ⟨0x8090 + 0x1000 * (n % 8), 1, 1, false⟩
def AFE.CNTOVF.restart (n : Nat) : Ref := ⟨0x8090 + 0x1000 * (n % 8), 0, 1, false⟩
def AFE.LEADR (n : Nat) (i : Nat) : Ref := ⟨0x8100 + 0x1000 * (n % 8) + 4 * (i % 20), 0, 32, false⟩
def AFE.LEADR.f_uohm (n : Nat) (i : Nat) : Ref := ⟨0x8100 + 0x1000 * (n % 8) + 4 * (i % 20), 0, 32, false⟩
-- ARITH (R158)
def ARITH.CFG : Ref := ⟨0x11040, 0, 32, true⟩
def ARITH.CFG.covk : Ref := ⟨0x11040, 16, 16, true⟩
def ARITH.CFG.mod_u : Ref := ⟨0x11040, 0, 16, true⟩
def ARITH.CJSRC (i : Nat) : Ref := ⟨0x11044 + 4 * (i % 8), 0, 32, true⟩
def ARITH.CJSRC.ch (i : Nat) : Ref := ⟨0x11044 + 4 * (i % 8), 0, 10, true⟩
def ARITH.MODT : Ref := ⟨0x11080, 0, 32, false⟩
def ARITH.MODT.valid : Ref := ⟨0x11080, 31, 1, false⟩
def ARITH.MODT.temp_mk : Ref := ⟨0x11080, 0, 24, false⟩
def ARITH.TESTCTL : Ref := ⟨0x11090, 0, 32, false⟩
def ARITH.TESTCTL.start : Ref := ⟨0x11090, 31, 1, false⟩
def ARITH.TESTCTL.busy : Ref := ⟨0x11090, 30, 1, false⟩
def ARITH.TESTCTL.ch : Ref := ⟨0x11090, 0, 10, false⟩
def ARITH.TESTCODE : Ref := ⟨0x11094, 0, 32, false⟩
def ARITH.TESTCODE.code : Ref := ⟨0x11094, 0, 24, false⟩
def ARITH.TESTREC (i : Nat) : Ref := ⟨0x11098 + 4 * (i % 4), 0, 32, false⟩
def ARITH.TESTREC.bytes (i : Nat) : Ref := ⟨0x11098 + 4 * (i % 4), 0, 32, false⟩
def ARITH.SATCNT : Ref := ⟨0x110B0, 0, 32, false⟩
def ARITH.SATCNT.count : Ref := ⟨0x110B0, 0, 32, false⟩
def ARITH.DOMCNT : Ref := ⟨0x110B4, 0, 32, false⟩
def ARITH.DOMCNT.count : Ref := ⟨0x110B4, 0, 32, false⟩
def ARITH.NE43CNT : Ref := ⟨0x110B8, 0, 32, false⟩
def ARITH.NE43CNT.count : Ref := ⟨0x110B8, 0, 32, false⟩
def ARITH.CJFBCNT : Ref := ⟨0x110BC, 0, 32, false⟩
def ARITH.CJFBCNT.count : Ref := ⟨0x110BC, 0, 32, false⟩
def ARITH.DROPCNT : Ref := ⟨0x110C0, 0, 32, false⟩
def ARITH.DROPCNT.count : Ref := ⟨0x110C0, 0, 32, false⟩
def ARITH.ITERCNT : Ref := ⟨0x110C4, 0, 32, false⟩
def ARITH.ITERCNT.count : Ref := ⟨0x110C4, 0, 32, false⟩
def ARITH.CNTOVF : Ref := ⟨0x110C8, 0, 32, false⟩
def ARITH.CNTOVF.iter : Ref := ⟨0x110C8, 5, 1, false⟩
def ARITH.CNTOVF.drop : Ref := ⟨0x110C8, 4, 1, false⟩
def ARITH.CNTOVF.cjfb : Ref := ⟨0x110C8, 3, 1, false⟩
def ARITH.CNTOVF.ne43 : Ref := ⟨0x110C8, 2, 1, false⟩
def ARITH.CNTOVF.dom : Ref := ⟨0x110C8, 1, 1, false⟩
def ARITH.CNTOVF.sat : Ref := ⟨0x110C8, 0, 1, false⟩
def ARITH.NE43FLT (i : Nat) : Ref := ⟨0x110D0 + 4 * (i % 5), 0, 32, false⟩
def ARITH.NE43FLT.ch (i : Nat) : Ref := ⟨0x110D0 + 4 * (i % 5), 0, 32, false⟩
def ARITH.QMAX : Ref := ⟨0x110F0, 0, 32, false⟩
def ARITH.QMAX.entries : Ref := ⟨0x110F0, 0, 7, false⟩
-- CAL (R204)
def CAL.CFG : Ref := ⟨0x10040, 0, 32, true⟩
def CAL.CFG.persist : Ref := ⟨0x10040, 24, 8, true⟩
def CAL.CFG.ovl_ppm : Ref := ⟨0x10040, 16, 8, true⟩
def CAL.CFG.gstep : Ref := ⟨0x10040, 8, 8, true⟩
def CAL.CFG.sigmax : Ref := ⟨0x10040, 0, 8, true⟩
def CAL.CFG2 : Ref := ⟨0x10044, 0, 32, true⟩
def CAL.CFG2.stale_s : Ref := ⟨0x10044, 16, 16, true⟩
def CAL.CFG2.dfloor : Ref := ⟨0x10044, 0, 16, true⟩
def CAL.CFG3 : Ref := ⟨0x10048, 0, 32, true⟩
def CAL.CFG3.rrfail_u : Ref := ⟨0x10048, 16, 16, true⟩
def CAL.CFG3.drift_log : Ref := ⟨0x10048, 8, 8, true⟩
def CAL.STRIDE (i : Nat) : Ref := ⟨0x10050 + 4 * (i % 8), 0, 32, true⟩
def CAL.STRIDE.period_ms (i : Nat) : Ref := ⟨0x10050 + 4 * (i % 8), 0, 24, true⟩
def CAL.REFSTAT : Ref := ⟨0x10080, 0, 32, false⟩
def CAL.REFSTAT.rr_fail : Ref := ⟨0x10080, 5, 1, false⟩
def CAL.REFSTAT.refloss : Ref := ⟨0x10080, 4, 1, false⟩
def CAL.REFSTAT.ambig : Ref := ⟨0x10080, 3, 1, false⟩
def CAL.REFSTAT.failed : Ref := ⟨0x10080, 0, 3, false⟩
def CAL.REFDEV (i : Nat) : Ref := ⟨0x10084 + 4 * (i % 3), 0, 32, false⟩
def CAL.REFDEV.ppb (i : Nat) : Ref := ⟨0x10084 + 4 * (i % 3), 0, 32, false⟩
def CAL.RRDEV : Ref := ⟨0x10090, 0, 32, false⟩
def CAL.RRDEV.ppb : Ref := ⟨0x10090, 0, 32, false⟩
def CAL.CMD : Ref := ⟨0x100A0, 0, 32, false⟩
def CAL.CMD.key : Ref := ⟨0x100A0, 24, 8, false⟩
def CAL.CMD.op : Ref := ⟨0x100A0, 20, 4, false⟩
def CAL.CMD.bank : Ref := ⟨0x100A0, 10, 3, false⟩
def CAL.CMD.arg : Ref := ⟨0x100A0, 0, 10, false⟩
def CAL.CMDSTAT : Ref := ⟨0x100A4, 0, 32, false⟩
def CAL.CMDSTAT.busy : Ref := ⟨0x100A4, 2, 1, false⟩
def CAL.CMDSTAT.state : Ref := ⟨0x100A4, 0, 2, false⟩
def CAL.FCALCFG : Ref := ⟨0x100B0, 0, 32, false⟩
def CAL.FCALCFG.bank : Ref := ⟨0x100B0, 28, 3, false⟩
def CAL.FCALCFG.kind : Ref := ⟨0x100B0, 24, 2, false⟩
def CAL.FCALCFG.gain : Ref := ⟨0x100B0, 16, 3, false⟩
def CAL.FCALPINS : Ref := ⟨0x100B4, 0, 32, false⟩
def CAL.FCALPINS.exc_p : Ref := ⟨0x100B4, 24, 6, false⟩
def CAL.FCALPINS.exc_n : Ref := ⟨0x100B4, 16, 6, false⟩
def CAL.FCALPINS.sns_p : Ref := ⟨0x100B4, 8, 6, false⟩
def CAL.FCALPINS.sns_n : Ref := ⟨0x100B4, 0, 6, false⟩
def CAL.FCALVAL : Ref := ⟨0x100B8, 0, 32, false⟩
def CAL.FCALVAL.value : Ref := ⟨0x100B8, 0, 32, false⟩
def CAL.FCALCTL : Ref := ⟨0x100BC, 0, 32, false⟩
def CAL.FCALCTL.key : Ref := ⟨0x100BC, 16, 16, false⟩
def CAL.FCALCTL.accept : Ref := ⟨0x100BC, 2, 1, false⟩
def CAL.FCALCTL.abort : Ref := ⟨0x100BC, 1, 1, false⟩
def CAL.FCALCTL.start : Ref := ⟨0x100BC, 0, 1, false⟩
def CAL.FCALSTAT : Ref := ⟨0x100C0, 0, 32, false⟩
def CAL.FCALSTAT.reason : Ref := ⟨0x100C0, 8, 8, false⟩
def CAL.FCALSTAT.already_done : Ref := ⟨0x100C0, 4, 1, false⟩
def CAL.FCALSTAT.state : Ref := ⟨0x100C0, 0, 4, false⟩
def CAL.FCALRES : Ref := ⟨0x100C4, 0, 32, false⟩
def CAL.FCALRES.ppb : Ref := ⟨0x100C4, 0, 32, false⟩
def CAL.FCALCERT (i : Nat) : Ref := ⟨0x100C8 + 4 * (i % 4), 0, 32, false⟩
def CAL.FCALCERT.bytes (i : Nat) : Ref := ⟨0x100C8 + 4 * (i % 4), 0, 32, false⟩
def CAL.BANKSTAT (i : Nat) : Ref := ⟨0x100E0 + 4 * (i % 8), 0, 32, false⟩
def CAL.BANKSTAT.srcfail (i : Nat) : Ref := ⟨0x100E0 + 4 * (i % 8), 19, 2, false⟩
def CAL.BANKSTAT.forced (i : Nat) : Ref := ⟨0x100E0 + 4 * (i % 8), 18, 1, false⟩
def CAL.BANKSTAT.stale (i : Nat) : Ref := ⟨0x100E0 + 4 * (i % 8), 17, 1, false⟩
def CAL.BANKSTAT.initial (i : Nat) : Ref := ⟨0x100E0 + 4 * (i % 8), 16, 1, false⟩
def CAL.BANKSTAT.outcome (i : Nat) : Ref := ⟨0x100E0 + 4 * (i % 8), 12, 3, false⟩
def CAL.BANKSTAT.phase (i : Nat) : Ref := ⟨0x100E0 + 4 * (i % 8), 8, 3, false⟩
def CAL.BANKSTAT.target (i : Nat) : Ref := ⟨0x100E0 + 4 * (i % 8), 4, 2, false⟩
def CAL.BANKSTAT.mode (i : Nat) : Ref := ⟨0x100E0 + 4 * (i % 8), 0, 3, false⟩
def CAL.OVLDIFF (i : Nat) : Ref := ⟨0x10100 + 4 * (i % 8), 0, 32, false⟩
def CAL.OVLDIFF.ppb (i : Nat) : Ref := ⟨0x10100 + 4 * (i % 8), 0, 32, false⟩
def CAL.MODFAIL (i : Nat) : Ref := ⟨0x10120 + 4 * (i % 8), 0, 32, false⟩
def CAL.MODFAIL.count (i : Nat) : Ref := ⟨0x10120 + 4 * (i % 8), 0, 15, false⟩
def CAL.TERMSEL : Ref := ⟨0x10140, 0, 32, false⟩
def CAL.TERMSEL.unstrided : Ref := ⟨0x10140, 31, 1, false⟩
def CAL.TERMSEL.kind : Ref := ⟨0x10140, 14, 2, false⟩
def CAL.TERMSEL.bank : Ref := ⟨0x10140, 11, 3, false⟩
def CAL.TERMSEL.item : Ref := ⟨0x10140, 0, 7, false⟩
def CAL.TERM (i : Nat) : Ref := ⟨0x10144 + 4 * (i % 8), 0, 32, false⟩
def CAL.TERM.term (i : Nat) : Ref := ⟨0x10144 + 4 * (i % 8), 0, 32, false⟩
def CAL.STRIDEOK : Ref := ⟨0x10180, 0, 32, false⟩
def CAL.STRIDEOK.count : Ref := ⟨0x10180, 0, 32, false⟩
def CAL.STRIDEFAIL : Ref := ⟨0x10184, 0, 32, false⟩
def CAL.STRIDEFAIL.count : Ref := ⟨0x10184, 0, 32, false⟩
def CAL.DEFERCNT : Ref := ⟨0x10188, 0, 32, false⟩
def CAL.DEFERCNT.count : Ref := ⟨0x10188, 0, 32, false⟩
def CAL.GAPCNT : Ref := ⟨0x1018C, 0, 32, false⟩
def CAL.GAPCNT.count : Ref := ⟨0x1018C, 0, 32, false⟩
def CAL.REPEATCNT : Ref := ⟨0x10190, 0, 32, false⟩
def CAL.REPEATCNT.count : Ref := ⟨0x10190, 0, 32, false⟩
def CAL.CNTOVF : Ref := ⟨0x10194, 0, 32, false⟩
def CAL.CNTOVF.repeat : Ref := ⟨0x10194, 3, 1, false⟩
def CAL.CNTOVF.gap : Ref := ⟨0x10194, 2, 1, false⟩
def CAL.CNTOVF.defer : Ref := ⟨0x10194, 1, 1, false⟩
def CAL.CNTOVF.fail : Ref := ⟨0x10194, 0, 1, false⟩
def CAL.STORESTAT : Ref := ⟨0x101A0, 0, 32, false⟩
def CAL.STORESTAT.valid : Ref := ⟨0x101A0, 0, 2, false⟩
def CAL.STORESEQ : Ref := ⟨0x101A4, 0, 32, false⟩
def CAL.STORESEQ.seq : Ref := ⟨0x101A4, 0, 32, false⟩
def CAL.SUBST (i : Nat) : Ref := ⟨0x10400 + 4 * (i % 80), 0, 32, true⟩
def CAL.SUBST.odd (i : Nat) : Ref := ⟨0x10400 + 4 * (i % 80), 16, 10, true⟩
def CAL.SUBST.even (i : Nat) : Ref := ⟨0x10400 + 4 * (i % 80), 0, 10, true⟩
def CAL.HEALTH (i : Nat) : Ref := ⟨0x10600 + 4 * (i % 40), 0, 32, false⟩
def CAL.HEALTH.counters (i : Nat) : Ref := ⟨0x10600 + 4 * (i % 40), 0, 32, false⟩
def CAL.RETIRED (i : Nat) : Ref := ⟨0x106A0 + 4 * (i % 5), 0, 32, false⟩
def CAL.RETIRED.ch (i : Nat) : Ref := ⟨0x106A0 + 4 * (i % 5), 0, 32, false⟩
-- ALM (R252)
def ALM.CFG : Ref := ⟨0x20040, 0, 32, true⟩
def ALM.CFG.consumer : Ref := ⟨0x20040, 24, 1, true⟩
def ALM.CFG.flood_quiet : Ref := ⟨0x20040, 16, 8, true⟩
def ALM.CFG.flood_on : Ref := ⟨0x20040, 8, 8, true⟩
def ALM.CFG.flood_off : Ref := ⟨0x20040, 0, 8, true⟩
def ALM.NQBASE : Ref := ⟨0x20044, 0, 32, true⟩
def ALM.NQBASE.base : Ref := ⟨0x20044, 13, 19, true⟩
def ALM.NQPROD : Ref := ⟨0x20100, 0, 32, false⟩
def ALM.NQPROD.index : Ref := ⟨0x20100, 0, 9, false⟩
def ALM.NQREL : Ref := ⟨0x20104, 0, 32, false⟩
def ALM.NQREL.index : Ref := ⟨0x20104, 0, 9, false⟩
def ALM.NQSTAT : Ref := ⟨0x20108, 0, 32, false⟩
def ALM.NQSTAT.flood : Ref := ⟨0x20108, 31, 1, false⟩
def ALM.NQSTAT.rescan : Ref := ⟨0x20108, 30, 1, false⟩
def ALM.NQSTAT.occupancy : Ref := ⟨0x20108, 0, 9, false⟩
def ALM.NQSEQ : Ref := ⟨0x2010C, 0, 32, false⟩
def ALM.NQSEQ.seq : Ref := ⟨0x2010C, 0, 16, false⟩
def ALM.NQDROP : Ref := ⟨0x20110, 0, 32, false⟩
def ALM.NQDROP.count : Ref := ⟨0x20110, 0, 32, false⟩
def ALM.FLOODCNT : Ref := ⟨0x20114, 0, 32, false⟩
def ALM.FLOODCNT.count : Ref := ⟨0x20114, 0, 32, false⟩
def ALM.PAIRDIFF : Ref := ⟨0x20118, 0, 32, false⟩
def ALM.PAIRDIFF.count : Ref := ⟨0x20118, 0, 32, false⟩
def ALM.CNTOVF : Ref := ⟨0x2011C, 0, 32, false⟩
def ALM.CNTOVF.pair : Ref := ⟨0x2011C, 2, 1, false⟩
def ALM.CNTOVF.flood : Ref := ⟨0x2011C, 1, 1, false⟩
def ALM.CNTOVF.nqdrop : Ref := ⟨0x2011C, 0, 1, false⟩
def ALM.CMD : Ref := ⟨0x20120, 0, 32, false⟩
def ALM.CMD.key : Ref := ⟨0x20120, 24, 8, false⟩
def ALM.CMD.op : Ref := ⟨0x20120, 20, 4, false⟩
def ALM.CMD.target : Ref := ⟨0x20120, 0, 10, false⟩
def ALM.CMDARG : Ref := ⟨0x20124, 0, 32, false⟩
def ALM.CMDARG.occ_chk : Ref := ⟨0x20124, 31, 1, false⟩
def ALM.CMDARG.occ : Ref := ⟨0x20124, 17, 8, false⟩
def ALM.CMDARG.duration : Ref := ⟨0x20124, 0, 17, false⟩
def ALM.CMDSTAT : Ref := ⟨0x20128, 0, 32, false⟩
def ALM.CMDSTAT.reason : Ref := ⟨0x20128, 8, 8, false⟩
def ALM.CMDSTAT.state : Ref := ⟨0x20128, 0, 3, false⟩
def ALM.EVALLAP : Ref := ⟨0x20130, 0, 32, false⟩
def ALM.EVALLAP.lap : Ref := ⟨0x20130, 0, 32, false⟩
def ALM.EVALTIME : Ref := ⟨0x20134, 0, 32, false⟩
def ALM.EVALTIME.cycles : Ref := ⟨0x20134, 0, 16, false⟩
def ALM.SHEDLVL : Ref := ⟨0x20138, 0, 32, false⟩
def ALM.SHEDLVL.level : Ref := ⟨0x20138, 0, 3, false⟩
def ALM.SUPACT : Ref := ⟨0x2013C, 0, 32, false⟩
def ALM.SUPACT.cond : Ref := ⟨0x2013C, 0, 32, false⟩
def ALM.QMAP (i : Nat) : Ref := ⟨0x20200 + 4 * (i % 32), 0, 32, false⟩
def ALM.QMAP.q (i : Nat) : Ref := ⟨0x20200 + 4 * (i % 32), 0, 32, false⟩
def ALM.UNACK (i : Nat) : Ref := ⟨0x20280 + 4 * (i % 32), 0, 32, false⟩
def ALM.UNACK.unack (i : Nat) : Ref := ⟨0x20280 + 4 * (i % 32), 0, 32, false⟩
def ALM.MEANSET (i : Nat) : Ref := ⟨0x20400 + 4 * (i % 80), 0, 32, true⟩
def ALM.MEANSET.members (i : Nat) : Ref := ⟨0x20400 + 4 * (i % 80), 0, 32, true⟩
def ALM.SUPA (i : Nat) : Ref := ⟨0x20700 + 8 * (i % 32), 0, 32, true⟩
def ALM.SUPA.enable (i : Nat) : Ref := ⟨0x20700 + 8 * (i % 32), 31, 1, true⟩
def ALM.SUPA.kind (i : Nat) : Ref := ⟨0x20700 + 8 * (i % 32), 30, 1, true⟩
def ALM.SUPA.invert (i : Nat) : Ref := ⟨0x20700 + 8 * (i % 32), 29, 1, true⟩
def ALM.SUPA.source (i : Nat) : Ref := ⟨0x20700 + 8 * (i % 32), 0, 10, true⟩
def ALM.SUPB (i : Nat) : Ref := ⟨0x20704 + 8 * (i % 32), 0, 32, true⟩
def ALM.SUPB.release (i : Nat) : Ref := ⟨0x20704 + 8 * (i % 32), 0, 19, true⟩
-- CALL (R272)
def CALL.CFG : Ref := ⟨0x28040, 0, 32, true⟩
def CALL.CFG.call_cat : Ref := ⟨0x28040, 28, 4, true⟩
def CALL.CFG.master : Ref := ⟨0x28040, 27, 1, true⟩
def CALL.CFG.cp_timeout : Ref := ⟨0x28040, 16, 8, true⟩
def CALL.CFG.officer_pin : Ref := ⟨0x28040, 8, 6, true⟩
def CALL.GRPMASK (i : Nat) : Ref := ⟨0x28044 + 4 * (i % 2), 0, 32, true⟩
def CALL.GRPMASK.groups (i : Nat) : Ref := ⟨0x28044 + 4 * (i % 2), 0, 32, true⟩
def CALL.TIMES : Ref := ⟨0x2804C, 0, 32, true⟩
def CALL.TIMES.t2 : Ref := ⟨0x2804C, 16, 16, true⟩
def CALL.TIMES.t1 : Ref := ⟨0x2804C, 0, 16, true⟩
def CALL.TIMES2 : Ref := ⟨0x28050, 0, 32, true⟩
def CALL.TIMES2.t3 : Ref := ⟨0x28050, 16, 16, true⟩
def CALL.TIMES2.relay_to : Ref := ⟨0x28050, 8, 8, true⟩
def CALL.PERS : Ref := ⟨0x28054, 0, 32, true⟩
def CALL.PERS.enable : Ref := ⟨0x28054, 31, 1, true⟩
def CALL.PERS.arm_pin : Ref := ⟨0x28054, 24, 6, true⟩
def CALL.PERS.reset_pin : Ref := ⟨0x28054, 16, 6, true⟩
def CALL.PERS.interval : Ref := ⟨0x28054, 0, 16, true⟩
def CALL.PERS2 : Ref := ⟨0x28058, 0, 32, true⟩
def CALL.PERS2.prewarn : Ref := ⟨0x28058, 16, 16, true⟩
def CALL.PERS2.prewarn_pin : Ref := ⟨0x28058, 8, 6, true⟩
def CALL.DUTYCFG : Ref := ⟨0x2805C, 0, 32, true⟩
def CALL.DUTYCFG.duty : Ref := ⟨0x2805C, 0, 4, true⟩
def CALL.STATE : Ref := ⟨0x28100, 0, 32, false⟩
def CALL.STATE.stage : Ref := ⟨0x28100, 29, 3, false⟩
def CALL.STATE.demand : Ref := ⟨0x28100, 28, 1, false⟩
def CALL.STATE.pers : Ref := ⟨0x28100, 26, 2, false⟩
def CALL.STATE.relay_pend : Ref := ⟨0x28100, 25, 1, false⟩
def CALL.STATE.officer : Ref := ⟨0x28100, 24, 1, false⟩
def CALL.STATE.relay_tgt : Ref := ⟨0x28100, 20, 4, false⟩
def CALL.STATE.duty : Ref := ⟨0x28100, 16, 4, false⟩
def CALL.TCALL : Ref := ⟨0x28104, 0, 64, false⟩
def CALL.TCALL.t_call : Ref := ⟨0x28104, 0, 48, false⟩
def CALL.CPDRIVE : Ref := ⟨0x2810C, 0, 32, false⟩
def CALL.CPDRIVE.cp : Ref := ⟨0x2810C, 0, 32, false⟩
def CALL.CPLOST : Ref := ⟨0x28110, 0, 32, false⟩
def CALL.CPLOST.cp : Ref := ⟨0x28110, 0, 32, false⟩
def CALL.CMD : Ref := ⟨0x28114, 0, 32, false⟩
def CALL.CMD.key : Ref := ⟨0x28114, 24, 8, false⟩
def CALL.CMD.op : Ref := ⟨0x28114, 20, 4, false⟩
def CALL.CMD.cp : Ref := ⟨0x28114, 5, 5, false⟩
def CALL.CMD.eng : Ref := ⟨0x28114, 0, 4, false⟩
def CALL.CMDSTAT : Ref := ⟨0x28118, 0, 32, false⟩
def CALL.CMDSTAT.reason : Ref := ⟨0x28118, 8, 8, false⟩
def CALL.CMDSTAT.state : Ref := ⟨0x28118, 0, 3, false⟩
def CALL.CALLCNT : Ref := ⟨0x28120, 0, 32, false⟩
def CALL.CALLCNT.count : Ref := ⟨0x28120, 0, 32, false⟩
def CALL.OFFCNT : Ref := ⟨0x28124, 0, 32, false⟩
def CALL.OFFCNT.count : Ref := ⟨0x28124, 0, 32, false⟩
def CALL.CNTOVF : Ref := ⟨0x28128, 0, 32, false⟩
def CALL.CNTOVF.off : Ref := ⟨0x28128, 1, 1, false⟩
def CALL.CNTOVF.call : Ref := ⟨0x28128, 0, 1, false⟩
-- UIO (R293)
def UIO.CFG : Ref := ⟨0x18040, 0, 32, true⟩
def UIO.CFG.win : Ref := ⟨0x18040, 24, 8, true⟩
def UIO.CFG.settle_ms : Ref := ⟨0x18040, 16, 8, true⟩
def UIO.CFG.fault_ms : Ref := ⟨0x18040, 0, 16, true⟩
def UIO.SET (i : Nat) : Ref := ⟨0x18080 + 4 * (i % 8), 0, 32, false⟩
def UIO.SET.set_ (i : Nat) : Ref := ⟨0x18080 + 4 * (i % 8), 0, 32, false⟩
def UIO.OUT (i : Nat) : Ref := ⟨0x180A0 + 4 * (i % 8), 0, 32, false⟩
def UIO.OUT.out (i : Nat) : Ref := ⟨0x180A0 + 4 * (i % 8), 0, 32, false⟩
def UIO.RB (i : Nat) : Ref := ⟨0x180C0 + 4 * (i % 8), 0, 32, false⟩
def UIO.RB.rb (i : Nat) : Ref := ⟨0x180C0 + 4 * (i % 8), 0, 32, false⟩
def UIO.TV (i : Nat) : Ref := ⟨0x180E0 + 4 * (i % 8), 0, 32, false⟩
def UIO.TV.tv (i : Nat) : Ref := ⟨0x180E0 + 4 * (i % 8), 0, 32, false⟩
def UIO.STAT (i : Nat) : Ref := ⟨0x18100 + 4 * (i % 8), 0, 32, false⟩
def UIO.STAT.row (i : Nat) : Ref := ⟨0x18100 + 4 * (i % 8), 28, 4, false⟩
def UIO.STAT.failact (i : Nat) : Ref := ⟨0x18100 + 4 * (i % 8), 20, 1, false⟩
def UIO.STAT.thermal (i : Nat) : Ref := ⟨0x18100 + 4 * (i % 8), 19, 1, false⟩
def UIO.STAT.outflt (i : Nat) : Ref := ⟨0x18100 + 4 * (i % 8), 18, 1, false⟩
def UIO.STAT.loop_low (i : Nat) : Ref := ⟨0x18100 + 4 * (i % 8), 17, 1, false⟩
def UIO.STAT.compliance (i : Nat) : Ref := ⟨0x18100 + 4 * (i % 8), 16, 1, false⟩
def UIO.STAT.code (i : Nat) : Ref := ⟨0x18100 + 4 * (i % 8), 0, 16, false⟩
def UIO.OUTFLTCNT : Ref := ⟨0x18140, 0, 32, false⟩
def UIO.OUTFLTCNT.count : Ref := ⟨0x18140, 0, 32, false⟩
def UIO.COMPCNT : Ref := ⟨0x18144, 0, 32, false⟩
def UIO.COMPCNT.count : Ref := ⟨0x18144, 0, 32, false⟩
def UIO.LOWCNT : Ref := ⟨0x18148, 0, 32, false⟩
def UIO.LOWCNT.count : Ref := ⟨0x18148, 0, 32, false⟩
def UIO.CNTOVF : Ref := ⟨0x1814C, 0, 32, false⟩
def UIO.CNTOVF.low : Ref := ⟨0x1814C, 2, 1, false⟩
def UIO.CNTOVF.comp : Ref := ⟨0x1814C, 1, 1, false⟩
def UIO.CNTOVF.outflt : Ref := ⟨0x1814C, 0, 1, false⟩
-- DIO (R322)
def DIO.CFG : Ref := ⟨0x19040, 0, 32, true⟩
def DIO.CFG.ext_ms : Ref := ⟨0x19040, 24, 8, true⟩
def DIO.CFG.ol_ma : Ref := ⟨0x19040, 16, 8, true⟩
def DIO.OUTSET (i : Nat) : Ref := ⟨0x19080 + 4 * (i % 2), 0, 32, false⟩
def DIO.OUTSET.set_ (i : Nat) : Ref := ⟨0x19080 + 4 * (i % 2), 0, 32, false⟩
def DIO.STATE (i : Nat) : Ref := ⟨0x19088 + 4 * (i % 2), 0, 32, false⟩
def DIO.STATE.state (i : Nat) : Ref := ⟨0x19088 + 4 * (i % 2), 0, 32, false⟩
def DIO.VALID (i : Nat) : Ref := ⟨0x19090 + 4 * (i % 2), 0, 32, false⟩
def DIO.VALID.valid (i : Nat) : Ref := ⟨0x19090 + 4 * (i % 2), 0, 32, false⟩
def DIO.DRIVE (i : Nat) : Ref := ⟨0x19098 + 4 * (i % 2), 0, 32, false⟩
def DIO.DRIVE.drive (i : Nat) : Ref := ⟨0x19098 + 4 * (i % 2), 0, 32, false⟩
def DIO.SHORT (i : Nat) : Ref := ⟨0x190A0 + 4 * (i % 2), 0, 32, false⟩
def DIO.SHORT.flag (i : Nat) : Ref := ⟨0x190A0 + 4 * (i % 2), 0, 32, false⟩
def DIO.THERM (i : Nat) : Ref := ⟨0x190A8 + 4 * (i % 2), 0, 32, false⟩
def DIO.THERM.flag (i : Nat) : Ref := ⟨0x190A8 + 4 * (i % 2), 0, 32, false⟩
def DIO.OPEN (i : Nat) : Ref := ⟨0x190B0 + 4 * (i % 2), 0, 32, false⟩
def DIO.OPEN.flag (i : Nat) : Ref := ⟨0x190B0 + 4 * (i % 2), 0, 32, false⟩
def DIO.EXTDRV (i : Nat) : Ref := ⟨0x190B8 + 4 * (i % 2), 0, 32, false⟩
def DIO.EXTDRV.flag (i : Nat) : Ref := ⟨0x190B8 + 4 * (i % 2), 0, 32, false⟩
def DIO.DISAGREE (i : Nat) : Ref := ⟨0x190C0 + 4 * (i % 2), 0, 32, false⟩
def DIO.DISAGREE.flag (i : Nat) : Ref := ⟨0x190C0 + 4 * (i % 2), 0, 32, false⟩
def DIO.VFIELD : Ref := ⟨0x190D0, 0, 32, false⟩
def DIO.VFIELD.state : Ref := ⟨0x190D0, 30, 2, false⟩
def DIO.VFIELD.mv : Ref := ⟨0x190D0, 0, 16, false⟩
def DIO.TRIPCNT : Ref := ⟨0x190E0, 0, 32, false⟩
def DIO.TRIPCNT.count : Ref := ⟨0x190E0, 0, 32, false⟩
def DIO.EXTCNT : Ref := ⟨0x190E4, 0, 32, false⟩
def DIO.EXTCNT.count : Ref := ⟨0x190E4, 0, 32, false⟩
def DIO.DISCNT : Ref := ⟨0x190E8, 0, 32, false⟩
def DIO.DISCNT.count : Ref := ⟨0x190E8, 0, 32, false⟩
def DIO.CNTOVF : Ref := ⟨0x190EC, 0, 32, false⟩
def DIO.CNTOVF.dis : Ref := ⟨0x190EC, 2, 1, false⟩
def DIO.CNTOVF.ext : Ref := ⟨0x190EC, 1, 1, false⟩
def DIO.CNTOVF.trip : Ref := ⟨0x190EC, 0, 1, false⟩
def DIO.STAMP (i : Nat) : Ref := ⟨0x19100 + 8 * (i % 48), 0, 64, false⟩
def DIO.STAMP.stime (i : Nat) : Ref := ⟨0x19100 + 8 * (i % 48), 0, 48, false⟩
-- JKT (R325)
def JKT.STAT : Ref := ⟨0x1A040, 0, 32, false⟩
def JKT.STAT.consec : Ref := ⟨0x1A040, 8, 8, false⟩
def JKT.STAT.fdegraded : Ref := ⟨0x1A040, 7, 1, false⟩
def JKT.STAT.failact : Ref := ⟨0x1A040, 6, 1, false⟩
def JKT.STAT.hold : Ref := ⟨0x1A040, 4, 2, false⟩
def JKT.STAT.link : Ref := ⟨0x1A040, 0, 3, false⟩
def JKT.ERRCNT : Ref := ⟨0x1A044, 0, 32, false⟩
def JKT.ERRCNT.count : Ref := ⟨0x1A044, 0, 32, false⟩
def JKT.RETRYCNT : Ref := ⟨0x1A048, 0, 32, false⟩
def JKT.RETRYCNT.count : Ref := ⟨0x1A048, 0, 32, false⟩
def JKT.FAULTCNT : Ref := ⟨0x1A04C, 0, 32, false⟩
def JKT.FAULTCNT.count : Ref := ⟨0x1A04C, 0, 32, false⟩
def JKT.LATECNT : Ref := ⟨0x1A050, 0, 32, false⟩
def JKT.LATECNT.count : Ref := ⟨0x1A050, 0, 32, false⟩
def JKT.CNTOVF : Ref := ⟨0x1A054, 0, 32, false⟩
def JKT.CNTOVF.late : Ref := ⟨0x1A054, 3, 1, false⟩
def JKT.CNTOVF.fault : Ref := ⟨0x1A054, 2, 1, false⟩
def JKT.CNTOVF.retry : Ref := ⟨0x1A054, 1, 1, false⟩
def JKT.CNTOVF.err : Ref := ⟨0x1A054, 0, 1, false⟩
def JKT.FERR : Ref := ⟨0x1A058, 0, 32, false⟩
def JKT.FERR.count : Ref := ⟨0x1A058, 0, 16, false⟩
def JKT.CFGCRC : Ref := ⟨0x1A05C, 0, 32, false⟩
def JKT.CFGCRC.crc : Ref := ⟨0x1A05C, 0, 32, false⟩
def JKT.ECHOCRC : Ref := ⟨0x1A060, 0, 32, false⟩
def JKT.ECHOCRC.crc : Ref := ⟨0x1A060, 0, 32, false⟩
def JKT.FTIME : Ref := ⟨0x1A064, 0, 32, false⟩
def JKT.FTIME.us : Ref := ⟨0x1A064, 0, 32, false⟩
-- PAIR (R358)
def PAIR.CFG : Ref := ⟨0x38040, 0, 32, true⟩
def PAIR.CFG.enable : Ref := ⟨0x38040, 31, 1, true⟩
def PAIR.CFG.follow : Ref := ⟨0x38040, 30, 1, true⟩
def PAIR.CFG.auto_ho : Ref := ⟨0x38040, 29, 1, true⟩
def PAIR.CFG.partner : Ref := ⟨0x38040, 16, 10, true⟩
def PAIR.CFG.margin : Ref := ⟨0x38040, 8, 8, true⟩
def PAIR.CFG.xchk_n : Ref := ⟨0x38040, 0, 8, true⟩
def PAIR.CFG2 : Ref := ⟨0x38044, 0, 32, true⟩
def PAIR.CFG2.start_ms : Ref := ⟨0x38044, 16, 16, true⟩
def PAIR.CFG2.xtol : Ref := ⟨0x38044, 8, 8, true⟩
def PAIR.STAT : Ref := ⟨0x38080, 0, 32, false⟩
def PAIR.STAT.role : Ref := ⟨0x38080, 29, 3, false⟩
def PAIR.STAT.partner : Ref := ⟨0x38080, 27, 2, false⟩
def PAIR.STAT.lanes : Ref := ⟨0x38080, 25, 2, false⟩
def PAIR.STAT.link : Ref := ⟨0x38080, 24, 1, false⟩
def PAIR.STAT.ready : Ref := ⟨0x38080, 23, 1, false⟩
def PAIR.STAT.ho_pend : Ref := ⟨0x38080, 22, 1, false⟩
def PAIR.STAT.cfgdiff : Ref := ⟨0x38080, 21, 1, false⟩
def PAIR.STAT.aligned : Ref := ⟨0x38080, 20, 1, false⟩
def PAIR.STAT.evidence : Ref := ⟨0x38080, 18, 2, false⟩
def PAIR.STAT.score : Ref := ⟨0x38080, 8, 8, false⟩
def PAIR.STAT.pscore : Ref := ⟨0x38080, 0, 8, false⟩
def PAIR.LEASESEQ : Ref := ⟨0x38084, 0, 32, false⟩
def PAIR.LEASESEQ.seq : Ref := ⟨0x38084, 0, 32, false⟩
def PAIR.LEASEAGE : Ref := ⟨0x38088, 0, 32, false⟩
def PAIR.LEASEAGE.age : Ref := ⟨0x38088, 0, 16, false⟩
def PAIR.HOLAP : Ref := ⟨0x3808C, 0, 32, false⟩
def PAIR.HOLAP.lap : Ref := ⟨0x3808C, 0, 32, false⟩
def PAIR.DIGEST : Ref := ⟨0x38090, 0, 32, false⟩
def PAIR.DIGEST.crc : Ref := ⟨0x38090, 0, 32, false⟩
def PAIR.PDIGEST : Ref := ⟨0x38094, 0, 32, false⟩
def PAIR.PDIGEST.crc : Ref := ⟨0x38094, 0, 32, false⟩
def PAIR.CMD : Ref := ⟨0x380A0, 0, 32, false⟩
def PAIR.CMD.key : Ref := ⟨0x380A0, 24, 8, false⟩
def PAIR.CMD.op : Ref := ⟨0x380A0, 20, 4, false⟩
def PAIR.CMDSTAT : Ref := ⟨0x380A4, 0, 32, false⟩
def PAIR.CMDSTAT.reason : Ref := ⟨0x380A4, 8, 8, false⟩
def PAIR.CMDSTAT.state : Ref := ⟨0x380A4, 0, 3, false⟩
def PAIR.LANEERR0 : Ref := ⟨0x380C0, 0, 32, false⟩
def PAIR.LANEERR0.count : Ref := ⟨0x380C0, 0, 32, false⟩
def PAIR.LANEERR1 : Ref := ⟨0x380C4, 0, 32, false⟩
def PAIR.LANEERR1.count : Ref := ⟨0x380C4, 0, 32, false⟩
def PAIR.TAKEOVERCNT : Ref := ⟨0x380C8, 0, 32, false⟩
def PAIR.TAKEOVERCNT.count : Ref := ⟨0x380C8, 0, 32, false⟩
def PAIR.HANDOVERCNT : Ref := ⟨0x380CC, 0, 32, false⟩
def PAIR.HANDOVERCNT.count : Ref := ⟨0x380CC, 0, 32, false⟩
def PAIR.SPLITCNT : Ref := ⟨0x380D0, 0, 32, false⟩
def PAIR.SPLITCNT.count : Ref := ⟨0x380D0, 0, 32, false⟩
def PAIR.MIRRORMISS : Ref := ⟨0x380D4, 0, 32, false⟩
def PAIR.MIRRORMISS.count : Ref := ⟨0x380D4, 0, 32, false⟩
def PAIR.XDISCNT : Ref := ⟨0x380D8, 0, 32, false⟩
def PAIR.XDISCNT.count : Ref := ⟨0x380D8, 0, 32, false⟩
def PAIR.CNTOVF : Ref := ⟨0x380DC, 0, 32, false⟩
def PAIR.CNTOVF.xdis : Ref := ⟨0x380DC, 5, 1, false⟩
def PAIR.CNTOVF.mirror : Ref := ⟨0x380DC, 4, 1, false⟩
def PAIR.CNTOVF.split : Ref := ⟨0x380DC, 3, 1, false⟩
def PAIR.CNTOVF.take : Ref := ⟨0x380DC, 2, 1, false⟩
def PAIR.CNTOVF.err1 : Ref := ⟨0x380DC, 1, 1, false⟩
def PAIR.CNTOVF.err0 : Ref := ⟨0x380DC, 0, 1, false⟩
def PAIR.XFAIL (i : Nat) : Ref := ⟨0x38100 + 4 * (i % 5), 0, 32, false⟩
def PAIR.XFAIL.ch (i : Nat) : Ref := ⟨0x38100 + 4 * (i % 5), 0, 32, false⟩
-- BUS (R385)
def BUS.CFG (n : Nat) : Ref := ⟨0x30040 + 0x1000 * (n % 4), 0, 32, true⟩
def BUS.CFG.mode (n : Nat) : Ref := ⟨0x30040 + 0x1000 * (n % 4), 30, 2, true⟩
def BUS.CFG.pex (n : Nat) : Ref := ⟨0x30040 + 0x1000 * (n % 4), 29, 1, true⟩
def BUS.CFG.boauto (n : Nat) : Ref := ⟨0x30040 + 0x1000 * (n % 4), 28, 1, true⟩
def BUS.CFG.txprio (n : Nat) : Ref := ⟨0x30040 + 0x1000 * (n % 4), 27, 1, true⟩
def BUS.CFG.nomatch (n : Nat) : Ref := ⟨0x30040 + 0x1000 * (n % 4), 25, 2, true⟩
def BUS.CFG.selfrx (n : Nat) : Ref := ⟨0x30040 + 0x1000 * (n % 4), 24, 1, true⟩
def BUS.CFG.txown (n : Nat) : Ref := ⟨0x30040 + 0x1000 * (n % 4), 21, 3, true⟩
def BUS.CFG.solo_pause (n : Nat) : Ref := ⟨0x30040 + 0x1000 * (n % 4), 0, 16, true⟩
def BUS.NBT (n : Nat) : Ref := ⟨0x30044 + 0x1000 * (n % 4), 0, 32, true⟩
def BUS.NBT.tseg1 (n : Nat) : Ref := ⟨0x30044 + 0x1000 * (n % 4), 24, 8, true⟩
def BUS.NBT.tseg2 (n : Nat) : Ref := ⟨0x30044 + 0x1000 * (n % 4), 17, 7, true⟩
def BUS.NBT.sjw (n : Nat) : Ref := ⟨0x30044 + 0x1000 * (n % 4), 10, 7, true⟩
def BUS.NBT.brp (n : Nat) : Ref := ⟨0x30044 + 0x1000 * (n % 4), 0, 5, true⟩
def BUS.DBT (n : Nat) : Ref := ⟨0x30048 + 0x1000 * (n % 4), 0, 32, true⟩
def BUS.DBT.tseg1 (n : Nat) : Ref := ⟨0x30048 + 0x1000 * (n % 4), 24, 5, true⟩
def BUS.DBT.tseg2 (n : Nat) : Ref := ⟨0x30048 + 0x1000 * (n % 4), 16, 4, true⟩
def BUS.DBT.sjw (n : Nat) : Ref := ⟨0x30048 + 0x1000 * (n % 4), 8, 4, true⟩
def BUS.DBT.brp (n : Nat) : Ref := ⟨0x30048 + 0x1000 * (n % 4), 0, 5, true⟩
def BUS.TDC (n : Nat) : Ref := ⟨0x3004C + 0x1000 * (n % 4), 0, 32, true⟩
def BUS.TDC.en (n : Nat) : Ref := ⟨0x3004C + 0x1000 * (n % 4), 31, 1, true⟩
def BUS.TDC.offset (n : Nat) : Ref := ⟨0x3004C + 0x1000 * (n % 4), 0, 7, true⟩
def BUS.RXQ (n : Nat) (i : Nat) : Ref := ⟨0x30050 + 0x1000 * (n % 4) + 4 * (i % 2), 0, 32, true⟩
def BUS.RXQ.base (n : Nat) (i : Nat) : Ref := ⟨0x30050 + 0x1000 * (n % 4) + 4 * (i % 2), 12, 20, true⟩
def BUS.RXQ.consumer (n : Nat) (i : Nat) : Ref := ⟨0x30050 + 0x1000 * (n % 4) + 4 * (i % 2), 0, 1, true⟩
def BUS.WAKE (n : Nat) : Ref := ⟨0x30058 + 0x1000 * (n % 4), 0, 32, true⟩
def BUS.WAKE.wake_en (n : Nat) : Ref := ⟨0x30058 + 0x1000 * (n % 4), 31, 1, true⟩
def BUS.WAKE.wake_n (n : Nat) : Ref := ⟨0x30058 + 0x1000 * (n % 4), 0, 4, true⟩
def BUS.FMATCH (n : Nat) (i : Nat) : Ref := ⟨0x30080 + 0x1000 * (n % 4) + 8 * (i % 32), 0, 32, true⟩
def BUS.FMATCH.enable (n : Nat) (i : Nat) : Ref := ⟨0x30080 + 0x1000 * (n % 4) + 8 * (i % 32), 31, 1, true⟩
def BUS.FMATCH.type_ (n : Nat) (i : Nat) : Ref := ⟨0x30080 + 0x1000 * (n % 4) + 8 * (i % 32), 29, 2, true⟩
def BUS.FMATCH.id (n : Nat) (i : Nat) : Ref := ⟨0x30080 + 0x1000 * (n % 4) + 8 * (i % 32), 0, 29, true⟩
def BUS.FMASK (n : Nat) (i : Nat) : Ref := ⟨0x30084 + 0x1000 * (n % 4) + 8 * (i % 32), 0, 32, true⟩
def BUS.FMASK.target (n : Nat) (i : Nat) : Ref := ⟨0x30084 + 0x1000 * (n % 4) + 8 * (i % 32), 29, 2, true⟩
def BUS.FMASK.mask (n : Nat) (i : Nat) : Ref := ⟨0x30084 + 0x1000 * (n % 4) + 8 * (i % 32), 0, 29, true⟩
def BUS.STATE (n : Nat) : Ref := ⟨0x30200 + 0x1000 * (n % 4), 0, 32, false⟩
def BUS.STATE.state (n : Nat) : Ref := ⟨0x30200 + 0x1000 * (n % 4), 29, 3, false⟩
def BUS.STATE.solo (n : Nat) : Ref := ⟨0x30200 + 0x1000 * (n % 4), 28, 1, false⟩
def BUS.STATE.ewarn (n : Nat) : Ref := ⟨0x30200 + 0x1000 * (n % 4), 27, 1, false⟩
def BUS.STATE.shedstop (n : Nat) : Ref := ⟨0x30200 + 0x1000 * (n % 4), 26, 1, false⟩
def BUS.STATE.tdcv (n : Nat) : Ref := ⟨0x30200 + 0x1000 * (n % 4), 16, 7, false⟩
def BUS.STATE.recov (n : Nat) : Ref := ⟨0x30200 + 0x1000 * (n % 4), 8, 8, false⟩
def BUS.STATE.ackseq (n : Nat) : Ref := ⟨0x30200 + 0x1000 * (n % 4), 0, 8, false⟩
def BUS.ERRCNT (n : Nat) : Ref := ⟨0x30204 + 0x1000 * (n % 4), 0, 32, false⟩
def BUS.ERRCNT.rp (n : Nat) : Ref := ⟨0x30204 + 0x1000 * (n % 4), 16, 1, false⟩
def BUS.ERRCNT.rec (n : Nat) : Ref := ⟨0x30204 + 0x1000 * (n % 4), 8, 8, false⟩
def BUS.ERRCNT.tec (n : Nat) : Ref := ⟨0x30204 + 0x1000 * (n % 4), 0, 8, false⟩
def BUS.LASTERR (n : Nat) : Ref := ⟨0x30208 + 0x1000 * (n % 4), 0, 32, false⟩
def BUS.LASTERR.dphase (n : Nat) : Ref := ⟨0x30208 + 0x1000 * (n % 4), 7, 1, false⟩
def BUS.LASTERR.code (n : Nat) : Ref := ⟨0x30208 + 0x1000 * (n % 4), 0, 4, false⟩
def BUS.TSC (n : Nat) : Ref := ⟨0x3020C + 0x1000 * (n % 4), 0, 32, false⟩
def BUS.TSC.us (n : Nat) : Ref := ⟨0x3020C + 0x1000 * (n % 4), 0, 32, false⟩
def BUS.LAPTSC (n : Nat) : Ref := ⟨0x30210 + 0x1000 * (n % 4), 0, 32, false⟩
def BUS.LAPTSC.us (n : Nat) : Ref := ⟨0x30210 + 0x1000 * (n % 4), 0, 32, false⟩
def BUS.LAPSTIME (n : Nat) : Ref := ⟨0x30214 + 0x1000 * (n % 4), 0, 64, false⟩
def BUS.LAPSTIME.stime (n : Nat) : Ref := ⟨0x30214 + 0x1000 * (n % 4), 0, 48, false⟩
def BUS.RXPROD (n : Nat) (i : Nat) : Ref := ⟨0x30220 + 0x1000 * (n % 4) + 8 * (i % 2), 0, 32, false⟩
def BUS.RXPROD.index (n : Nat) (i : Nat) : Ref := ⟨0x30220 + 0x1000 * (n % 4) + 8 * (i % 2), 0, 6, false⟩
def BUS.RXREL (n : Nat) (i : Nat) : Ref := ⟨0x30224 + 0x1000 * (n % 4) + 8 * (i % 2), 0, 32, false⟩
def BUS.RXREL.index (n : Nat) (i : Nat) : Ref := ⟨0x30224 + 0x1000 * (n % 4) + 8 * (i % 2), 0, 6, false⟩
def BUS.RXDROP (n : Nat) (i : Nat) : Ref := ⟨0x30230 + 0x1000 * (n % 4) + 4 * (i % 2), 0, 32, false⟩
def BUS.RXDROP.count (n : Nat) (i : Nat) : Ref := ⟨0x30230 + 0x1000 * (n % 4) + 4 * (i % 2), 0, 32, false⟩
def BUS.BUSOFFCNT (n : Nat) : Ref := ⟨0x30238 + 0x1000 * (n % 4), 0, 32, false⟩
def BUS.BUSOFFCNT.count (n : Nat) : Ref := ⟨0x30238 + 0x1000 * (n % 4), 0, 32, false⟩
def BUS.TXRETRY (n : Nat) : Ref := ⟨0x3023C + 0x1000 * (n % 4), 0, 32, false⟩
def BUS.TXRETRY.count (n : Nat) : Ref := ⟨0x3023C + 0x1000 * (n % 4), 0, 32, false⟩
def BUS.ERRFRM (n : Nat) : Ref := ⟨0x30240 + 0x1000 * (n % 4), 0, 32, false⟩
def BUS.ERRFRM.count (n : Nat) : Ref := ⟨0x30240 + 0x1000 * (n % 4), 0, 32, false⟩
def BUS.CNTOVF (n : Nat) : Ref := ⟨0x30244 + 0x1000 * (n % 4), 0, 32, false⟩
def BUS.CNTOVF.errfrm (n : Nat) : Ref := ⟨0x30244 + 0x1000 * (n % 4), 4, 1, false⟩
def BUS.CNTOVF.retry (n : Nat) : Ref := ⟨0x30244 + 0x1000 * (n % 4), 3, 1, false⟩
def BUS.CNTOVF.busoff (n : Nat) : Ref := ⟨0x30244 + 0x1000 * (n % 4), 2, 1, false⟩
def BUS.CNTOVF.drop1 (n : Nat) : Ref := ⟨0x30244 + 0x1000 * (n % 4), 1, 1, false⟩
def BUS.CNTOVF.drop0 (n : Nat) : Ref := ⟨0x30244 + 0x1000 * (n % 4), 0, 1, false⟩
def BUS.CMD (n : Nat) : Ref := ⟨0x30250 + 0x1000 * (n % 4), 0, 32, false⟩
def BUS.CMD.key (n : Nat) : Ref := ⟨0x30250 + 0x1000 * (n % 4), 24, 8, false⟩
def BUS.CMD.recover (n : Nat) : Ref := ⟨0x30250 + 0x1000 * (n % 4), 0, 1, false⟩
def BUS.TXID (n : Nat) (k : Nat) : Ref := ⟨0x30300 + 0x1000 * (n % 4) + 0x60 * (k % 3), 0, 32, false⟩
def BUS.TXID.rtr (n : Nat) (k : Nat) : Ref := ⟨0x30300 + 0x1000 * (n % 4) + 0x60 * (k % 3), 30, 1, false⟩
def BUS.TXID.xtd (n : Nat) (k : Nat) : Ref := ⟨0x30300 + 0x1000 * (n % 4) + 0x60 * (k % 3), 29, 1, false⟩
def BUS.TXID.id (n : Nat) (k : Nat) : Ref := ⟨0x30300 + 0x1000 * (n % 4) + 0x60 * (k % 3), 0, 29, false⟩
def BUS.TXCTL (n : Nat) (k : Nat) : Ref := ⟨0x30304 + 0x1000 * (n % 4) + 0x60 * (k % 3), 0, 32, false⟩
def BUS.TXCTL.oneshot (n : Nat) (k : Nat) : Ref := ⟨0x30304 + 0x1000 * (n % 4) + 0x60 * (k % 3), 7, 1, false⟩
def BUS.TXCTL.brs (n : Nat) (k : Nat) : Ref := ⟨0x30304 + 0x1000 * (n % 4) + 0x60 * (k % 3), 6, 1, false⟩
def BUS.TXCTL.fdf (n : Nat) (k : Nat) : Ref := ⟨0x30304 + 0x1000 * (n % 4) + 0x60 * (k % 3), 5, 1, false⟩
def BUS.TXCTL.dlc (n : Nat) (k : Nat) : Ref := ⟨0x30304 + 0x1000 * (n % 4) + 0x60 * (k % 3), 0, 4, false⟩
def BUS.TXDATA (n : Nat) (k : Nat) (i : Nat) : Ref := ⟨0x30308 + 0x1000 * (n % 4) + 0x60 * (k % 3) + 4 * (i % 16), 0, 32, false⟩
def BUS.TXDATA.data (n : Nat) (k : Nat) (i : Nat) : Ref := ⟨0x30308 + 0x1000 * (n % 4) + 0x60 * (k % 3) + 4 * (i % 16), 0, 32, false⟩
def BUS.TXSTAT (n : Nat) (k : Nat) : Ref := ⟨0x30348 + 0x1000 * (n % 4) + 0x60 * (k % 3), 0, 32, false⟩
def BUS.TXSTAT.attempts (n : Nat) (k : Nat) : Ref := ⟨0x30348 + 0x1000 * (n % 4) + 0x60 * (k % 3), 8, 8, false⟩
def BUS.TXSTAT.cancel_late (n : Nat) (k : Nat) : Ref := ⟨0x30348 + 0x1000 * (n % 4) + 0x60 * (k % 3), 3, 1, false⟩
def BUS.TXSTAT.state (n : Nat) (k : Nat) : Ref := ⟨0x30348 + 0x1000 * (n % 4) + 0x60 * (k % 3), 0, 3, false⟩
def BUS.TXTSC (n : Nat) (k : Nat) : Ref := ⟨0x3034C + 0x1000 * (n % 4) + 0x60 * (k % 3), 0, 32, false⟩
def BUS.TXTSC.us (n : Nat) (k : Nat) : Ref := ⟨0x3034C + 0x1000 * (n % 4) + 0x60 * (k % 3), 0, 32, false⟩
def BUS.TXCMD (n : Nat) (k : Nat) : Ref := ⟨0x30350 + 0x1000 * (n % 4) + 0x60 * (k % 3), 0, 32, false⟩
def BUS.TXCMD.cancel (n : Nat) (k : Nat) : Ref := ⟨0x30350 + 0x1000 * (n % 4) + 0x60 * (k % 3), 1, 1, false⟩
def BUS.TXCMD.req (n : Nat) (k : Nat) : Ref := ⟨0x30350 + 0x1000 * (n % 4) + 0x60 * (k % 3), 0, 1, false⟩
-- MSG (R411)
def MSG.CFG : Ref := ⟨0x34040, 0, 32, true⟩
def MSG.CFG.recpush : Ref := ⟨0x34040, 31, 1, true⟩
def MSG.CFG.valpub : Ref := ⟨0x34040, 30, 1, true⟩
def MSG.CFG.valdiv : Ref := ⟨0x34040, 16, 8, true⟩
def MSG.CFG.master_nid : Ref := ⟨0x34040, 0, 10, true⟩
def MSG.PORTCFG : Ref := ⟨0x34044, 0, 32, true⟩
def MSG.PORTCFG.use0 : Ref := ⟨0x34044, 0, 2, true⟩
def MSG.PORTCFG.use1 : Ref := ⟨0x34044, 8, 2, true⟩
def MSG.PORTCFG.use2 : Ref := ⟨0x34044, 16, 2, true⟩
def MSG.PORTCFG.use3 : Ref := ⟨0x34044, 24, 2, true⟩
def MSG.PANELMASK : Ref := ⟨0x34048, 0, 32, true⟩
def MSG.PANELMASK.bus3 : Ref := ⟨0x34048, 8, 8, true⟩
def MSG.PANELMASK.bus2 : Ref := ⟨0x34048, 0, 8, true⟩
def MSG.AUTHCFG : Ref := ⟨0x3404C, 0, 32, true⟩
def MSG.AUTHCFG.fwin : Ref := ⟨0x3404C, 16, 16, true⟩
def MSG.AUTHCFG.auth_req : Ref := ⟨0x3404C, 15, 1, true⟩
def MSG.KEYSEL : Ref := ⟨0x34050, 0, 32, true⟩
def MSG.KEYSEL.vendor : Ref := ⟨0x34050, 12, 3, true⟩
def MSG.KEYSEL.service : Ref := ⟨0x34050, 9, 3, true⟩
def MSG.KEYSEL.engineer : Ref := ⟨0x34050, 6, 3, true⟩
def MSG.KEYSEL.operator : Ref := ⟨0x34050, 3, 3, true⟩
def MSG.KEYSEL.system : Ref := ⟨0x34050, 0, 3, true⟩
def MSG.VALMASK (i : Nat) : Ref := ⟨0x34054 + 4 * (i % 5), 0, 32, true⟩
def MSG.VALMASK.ch (i : Nat) : Ref := ⟨0x34054 + 4 * (i % 5), 0, 32, true⟩
def MSG.VALMASK5 : Ref := ⟨0x34068, 0, 32, true⟩
def MSG.VALMASK5.loop : Ref := ⟨0x34068, 0, 8, true⟩
def MSG.STAT : Ref := ⟨0x34100, 0, 32, false⟩
def MSG.STAT.dupaddr : Ref := ⟨0x34100, 31, 1, false⟩
def MSG.STAT.unauth : Ref := ⟨0x34100, 30, 1, false⟩
def MSG.AUTHFAIL : Ref := ⟨0x34104, 0, 32, false⟩
def MSG.AUTHFAIL.count : Ref := ⟨0x34104, 0, 32, false⟩
def MSG.ROLEFAIL : Ref := ⟨0x34108, 0, 32, false⟩
def MSG.ROLEFAIL.count : Ref := ⟨0x34108, 0, 32, false⟩
def MSG.FRAGDROP : Ref := ⟨0x3410C, 0, 32, false⟩
def MSG.FRAGDROP.count : Ref := ⟨0x3410C, 0, 32, false⟩
def MSG.TXDROP : Ref := ⟨0x34110, 0, 32, false⟩
def MSG.TXDROP.count : Ref := ⟨0x34110, 0, 32, false⟩
def MSG.DUPCNT : Ref := ⟨0x34114, 0, 32, false⟩
def MSG.DUPCNT.count : Ref := ⟨0x34114, 0, 32, false⟩
def MSG.TXCNT : Ref := ⟨0x34118, 0, 32, false⟩
def MSG.TXCNT.count : Ref := ⟨0x34118, 0, 32, false⟩
def MSG.RXCNT : Ref := ⟨0x3411C, 0, 32, false⟩
def MSG.RXCNT.count : Ref := ⟨0x3411C, 0, 32, false⟩
def MSG.FWDCNT : Ref := ⟨0x34120, 0, 32, false⟩
def MSG.FWDCNT.count : Ref := ⟨0x34120, 0, 32, false⟩
def MSG.CNTOVF : Ref := ⟨0x34124, 0, 32, false⟩
def MSG.CNTOVF.txdrop : Ref := ⟨0x34124, 3, 1, false⟩
def MSG.CNTOVF.frag : Ref := ⟨0x34124, 2, 1, false⟩
def MSG.CNTOVF.role : Ref := ⟨0x34124, 1, 1, false⟩
def MSG.CNTOVF.auth : Ref := ⟨0x34124, 0, 1, false⟩
def MSG.LASTREJ : Ref := ⟨0x34128, 0, 32, false⟩
def MSG.LASTREJ.source : Ref := ⟨0x34128, 16, 10, false⟩
def MSG.LASTREJ.type_ : Ref := ⟨0x34128, 8, 8, false⟩
def MSG.LASTREJ.reason : Ref := ⟨0x34128, 0, 8, false⟩
-- TSYNC (R414)
def TSYNC.CFG : Ref := ⟨0x35040, 0, 32, true⟩
def TSYNC.CFG.role : Ref := ⟨0x35040, 30, 2, true⟩
def TSYNC.CFG.pref : Ref := ⟨0x35040, 29, 1, true⟩
def TSYNC.CFG.sync_ms : Ref := ⟨0x35040, 16, 13, true⟩
def TSYNC.CFG.loss_s : Ref := ⟨0x35040, 8, 8, true⟩
def TSYNC.CFG2 : Ref := ⟨0x35044, 0, 32, true⟩
def TSYNC.CFG2.step_us : Ref := ⟨0x35044, 16, 16, true⟩
def TSYNC.STATE : Ref := ⟨0x35080, 0, 32, false⟩
def TSYNC.STATE.state : Ref := ⟨0x35080, 29, 3, false⟩
def TSYNC.STATE.hops : Ref := ⟨0x35080, 27, 2, false⟩
def TSYNC.STATE.net : Ref := ⟨0x35080, 26, 1, false⟩
def TSYNC.STATE.srcnid : Ref := ⟨0x35080, 16, 10, false⟩
def TSYNC.OFFSET : Ref := ⟨0x35084, 0, 32, false⟩
def TSYNC.OFFSET.us : Ref := ⟨0x35084, 0, 32, false⟩
def TSYNC.FREQ : Ref := ⟨0x35088, 0, 32, false⟩
def TSYNC.FREQ.ppb : Ref := ⟨0x35088, 0, 32, false⟩
def TSYNC.ADJ : Ref := ⟨0x3508C, 0, 32, false⟩
def TSYNC.ADJ.ppb : Ref := ⟨0x3508C, 0, 32, false⟩
def TSYNC.STIME : Ref := ⟨0x35090, 0, 64, false⟩
def TSYNC.STIME.us : Ref := ⟨0x35090, 0, 64, false⟩
def TSYNC.SETTIME : Ref := ⟨0x35098, 0, 64, false⟩
def TSYNC.SETTIME.us : Ref := ⟨0x35098, 0, 64, false⟩
def TSYNC.CMD : Ref := ⟨0x350A0, 0, 32, false⟩
def TSYNC.CMD.key : Ref := ⟨0x350A0, 24, 8, false⟩
def TSYNC.CMD.set_ : Ref := ⟨0x350A0, 0, 1, false⟩
def TSYNC.SYNCCNT : Ref := ⟨0x350A4, 0, 32, false⟩
def TSYNC.SYNCCNT.count : Ref := ⟨0x350A4, 0, 32, false⟩
def TSYNC.STEPCNT : Ref := ⟨0x350A8, 0, 32, false⟩
def TSYNC.STEPCNT.count : Ref := ⟨0x350A8, 0, 32, false⟩
def TSYNC.CNTOVF : Ref := ⟨0x350AC, 0, 32, false⟩
def TSYNC.CNTOVF.step : Ref := ⟨0x350AC, 0, 1, false⟩
-- MEM (R442)
def MEM.SCRUBCFG : Ref := ⟨0x40040, 0, 32, true⟩
def MEM.SCRUBCFG.en : Ref := ⟨0x40040, 31, 1, true⟩
def MEM.SCRUBCFG.pass_s : Ref := ⟨0x40040, 0, 16, true⟩
def MEM.INFO : Ref := ⟨0x40080, 0, 32, false⟩
def MEM.INFO.init_done : Ref := ⟨0x40080, 31, 1, false⟩
def MEM.INFO.retvalid : Ref := ⟨0x40080, 30, 1, false⟩
def MEM.SCRUBPOS : Ref := ⟨0x40084, 0, 32, false⟩
def MEM.SCRUBPOS.word : Ref := ⟨0x40084, 0, 19, false⟩
def MEM.PASSCNT : Ref := ⟨0x40088, 0, 32, false⟩
def MEM.PASSCNT.count : Ref := ⟨0x40088, 0, 32, false⟩
def MEM.CECNT : Ref := ⟨0x4008C, 0, 32, false⟩
def MEM.CECNT.count : Ref := ⟨0x4008C, 0, 32, false⟩
def MEM.UECNT : Ref := ⟨0x40090, 0, 32, false⟩
def MEM.UECNT.count : Ref := ⟨0x40090, 0, 32, false⟩
def MEM.CEADDR : Ref := ⟨0x40094, 0, 32, false⟩
def MEM.CEADDR.addr : Ref := ⟨0x40094, 0, 32, false⟩
def MEM.UEADDR : Ref := ⟨0x40098, 0, 32, false⟩
def MEM.UEADDR.addr : Ref := ⟨0x40098, 0, 32, false⟩
def MEM.CNTOVF : Ref := ⟨0x4009C, 0, 32, false⟩
def MEM.CNTOVF.ue : Ref := ⟨0x4009C, 1, 1, false⟩
def MEM.CNTOVF.ce : Ref := ⟨0x4009C, 0, 1, false⟩
-- MPTU (R444)
def MPTU.WIN (i : Nat) : Ref := ⟨0x41040 + 4 * (i % 32), 0, 32, true⟩
def MPTU.WIN.enable (i : Nat) : Ref := ⟨0x41040 + 4 * (i % 32), 31, 1, true⟩
def MPTU.WIN.size (i : Nat) : Ref := ⟨0x41040 + 4 * (i % 32), 28, 3, true⟩
def MPTU.WIN.ext (i : Nat) : Ref := ⟨0x41040 + 4 * (i % 32), 16, 6, true⟩
def MPTU.WIN.phys (i : Nat) : Ref := ⟨0x41040 + 4 * (i % 32), 8, 6, true⟩
def MPTU.WIN.perm (i : Nat) : Ref := ⟨0x41040 + 4 * (i % 32), 0, 6, true⟩
def MPTU.TAG (i : Nat) : Ref := ⟨0x41100 + 4 * (i % 128), 0, 32, true⟩
def MPTU.TAG.tags (i : Nat) : Ref := ⟨0x41100 + 4 * (i % 128), 0, 32, true⟩
def MPTU.VIOL : Ref := ⟨0x41400, 0, 32, false⟩
def MPTU.VIOL.class_ : Ref := ⟨0x41400, 30, 2, false⟩
def MPTU.VIOL.write : Ref := ⟨0x41400, 29, 1, false⟩
def MPTU.VIOL.reason : Ref := ⟨0x41400, 26, 3, false⟩
def MPTU.VIOLADDR : Ref := ⟨0x41404, 0, 32, false⟩
def MPTU.VIOLADDR.addr : Ref := ⟨0x41404, 0, 32, false⟩
def MPTU.VIOLCNT : Ref := ⟨0x41408, 0, 32, false⟩
def MPTU.VIOLCNT.count : Ref := ⟨0x41408, 0, 32, false⟩
def MPTU.CNTOVF : Ref := ⟨0x4140C, 0, 32, false⟩
def MPTU.CNTOVF.viol : Ref := ⟨0x4140C, 0, 1, false⟩
-- DMA (R446)
def DMA.CFG : Ref := ⟨0x42040, 0, 32, true⟩
def DMA.CFG.rr_en : Ref := ⟨0x42040, 31, 1, true⟩
def DMA.CFG.rr_n : Ref := ⟨0x42040, 0, 5, true⟩
def DMA.RRBASE : Ref := ⟨0x42044, 0, 32, true⟩
def DMA.RRBASE.base : Ref := ⟨0x42044, 12, 20, true⟩
def DMA.RRPROD : Ref := ⟨0x42080, 0, 32, false⟩
def DMA.RRPROD.index : Ref := ⟨0x42080, 0, 32, false⟩
def DMA.RRREL : Ref := ⟨0x42084, 0, 32, false⟩
def DMA.RRREL.index : Ref := ⟨0x42084, 0, 32, false⟩
def DMA.RRDROP : Ref := ⟨0x42088, 0, 32, false⟩
def DMA.RRDROP.count : Ref := ⟨0x42088, 0, 32, false⟩
def DMA.BFAULTCNT : Ref := ⟨0x4208C, 0, 32, false⟩
def DMA.BFAULTCNT.count : Ref := ⟨0x4208C, 0, 32, false⟩
def DMA.CNTOVF : Ref := ⟨0x42090, 0, 32, false⟩
def DMA.CNTOVF.bfault : Ref := ⟨0x42090, 1, 1, false⟩
def DMA.CNTOVF.rrdrop : Ref := ⟨0x42090, 0, 1, false⟩
def DMA.DONE (i : Nat) : Ref := ⟨0x42094 + 4 * (i % 2), 0, 32, false⟩
def DMA.DONE.s (i : Nat) : Ref := ⟨0x42094 + 4 * (i % 2), 0, 32, false⟩
def DMA.HALT (i : Nat) : Ref := ⟨0x4209C + 4 * (i % 2), 0, 32, false⟩
def DMA.HALT.s (i : Nat) : Ref := ⟨0x4209C + 4 * (i % 2), 0, 32, false⟩
def DMA.ACTIVE : Ref := ⟨0x420A4, 0, 32, false⟩
def DMA.ACTIVE.busy : Ref := ⟨0x420A4, 31, 1, false⟩
def DMA.ACTIVE.stream : Ref := ⟨0x420A4, 0, 6, false⟩
def DMA.SCFG (i : Nat) : Ref := ⟨0x42100 + 4 * (i % 64), 0, 32, true⟩
def DMA.SCFG.enable (i : Nat) : Ref := ⟨0x42100 + 4 * (i % 64), 31, 1, true⟩
def DMA.SCFG.remote (i : Nat) : Ref := ⟨0x42100 + 4 * (i % 64), 30, 1, true⟩
def DMA.SCFG.level (i : Nat) : Ref := ⟨0x42100 + 4 * (i % 64), 28, 2, true⟩
def DMA.SHEAD (i : Nat) : Ref := ⟨0x42400 + 16 * (i % 64), 0, 32, false⟩
def DMA.SHEAD.desc (i : Nat) : Ref := ⟨0x42400 + 16 * (i % 64), 5, 27, false⟩
def DMA.SRESD (i : Nat) : Ref := ⟨0x42404 + 16 * (i % 64), 0, 32, false⟩
def DMA.SRESD.desc (i : Nat) : Ref := ⟨0x42404 + 16 * (i % 64), 0, 32, false⟩
def DMA.SRESO (i : Nat) : Ref := ⟨0x42408 + 16 * (i % 64), 0, 32, false⟩
def DMA.SRESO.offset (i : Nat) : Ref := ⟨0x42408 + 16 * (i % 64), 0, 24, false⟩
def DMA.SCTL (i : Nat) : Ref := ⟨0x4240C + 16 * (i % 64), 0, 32, false⟩
def DMA.SCTL.key (i : Nat) : Ref := ⟨0x4240C + 16 * (i % 64), 24, 8, false⟩
def DMA.SCTL.op (i : Nat) : Ref := ⟨0x4240C + 16 * (i % 64), 21, 3, false⟩
def DMA.SCTL.code (i : Nat) : Ref := ⟨0x4240C + 16 * (i % 64), 8, 8, false⟩
def DMA.SCTL.already_done (i : Nat) : Ref := ⟨0x4240C + 16 * (i % 64), 7, 1, false⟩
def DMA.SCTL.refused (i : Nat) : Ref := ⟨0x4240C + 16 * (i % 64), 6, 1, false⟩
def DMA.SCTL.state (i : Nat) : Ref := ⟨0x4240C + 16 * (i % 64), 0, 3, false⟩
-- NVM (R448)
def NVM.CFG : Ref := ⟨0x48040, 0, 32, true⟩
def NVM.CFG.defer : Ref := ⟨0x48040, 0, 1, true⟩
def NVM.WPROT : Ref := ⟨0x48080, 0, 32, false⟩
def NVM.WPROT.img_b : Ref := ⟨0x48080, 1, 1, false⟩
def NVM.WPROT.img_a : Ref := ⟨0x48080, 0, 1, false⟩
def NVM.CMD : Ref := ⟨0x48084, 0, 32, false⟩
def NVM.CMD.key : Ref := ⟨0x48084, 24, 8, false⟩
def NVM.CMD.op : Ref := ⟨0x48084, 20, 4, false⟩
def NVM.SRCADDR : Ref := ⟨0x48088, 0, 32, false⟩
def NVM.SRCADDR.addr : Ref := ⟨0x48088, 0, 32, false⟩
def NVM.ADDR : Ref := ⟨0x4808C, 0, 32, false⟩
def NVM.ADDR.offset : Ref := ⟨0x4808C, 0, 25, false⟩
def NVM.LEN : Ref := ⟨0x48090, 0, 32, false⟩
def NVM.LEN.bytes : Ref := ⟨0x48090, 0, 26, false⟩
def NVM.CMDSTAT : Ref := ⟨0x48094, 0, 32, false⟩
def NVM.CMDSTAT.reason : Ref := ⟨0x48094, 8, 8, false⟩
def NVM.CMDSTAT.already_done : Ref := ⟨0x48094, 4, 1, false⟩
def NVM.CMDSTAT.state : Ref := ⟨0x48094, 0, 4, false⟩
def NVM.RESULT : Ref := ⟨0x48098, 0, 32, false⟩
def NVM.RESULT.crc : Ref := ⟨0x48098, 0, 32, false⟩
def NVM.ECCCNT : Ref := ⟨0x4809C, 0, 32, false⟩
def NVM.ECCCNT.count : Ref := ⟨0x4809C, 0, 32, false⟩
def NVM.UECNT : Ref := ⟨0x480A0, 0, 32, false⟩
def NVM.UECNT.count : Ref := ⟨0x480A0, 0, 32, false⟩
def NVM.CNTOVF : Ref := ⟨0x480A4, 0, 32, false⟩
def NVM.CNTOVF.ue : Ref := ⟨0x480A4, 1, 1, false⟩
def NVM.CNTOVF.ecc : Ref := ⟨0x480A4, 0, 1, false⟩
-- REC (R466)
def REC.CFG : Ref := ⟨0x49040, 0, 32, true⟩
def REC.CFG.snap_s : Ref := ⟨0x49040, 16, 16, true⟩
def REC.CFG.snap_min_s : Ref := ⟨0x49040, 0, 16, true⟩
def REC.CFG2 : Ref := ⟨0x49044, 0, 32, true⟩
def REC.CFG2.rec_pages : Ref := ⟨0x49044, 24, 4, true⟩
def REC.CFG2.summ_s : Ref := ⟨0x49044, 16, 8, true⟩
def REC.CFG2.rec_ms : Ref := ⟨0x49044, 0, 16, true⟩
def REC.WORKBASE : Ref := ⟨0x49048, 0, 32, true⟩
def REC.WORKBASE.base : Ref := ⟨0x49048, 16, 16, true⟩
def REC.COPYBASE : Ref := ⟨0x4904C, 0, 32, true⟩
def REC.COPYBASE.base : Ref := ⟨0x4904C, 12, 20, true⟩
def REC.STAT : Ref := ⟨0x49080, 0, 32, false⟩
def REC.STAT.logfull : Ref := ⟨0x49080, 31, 1, false⟩
def REC.STAT.clearing : Ref := ⟨0x49080, 30, 1, false⟩
def REC.STAT.shortfall : Ref := ⟨0x49080, 29, 1, false⟩
def REC.STAT.archived : Ref := ⟨0x49080, 28, 1, false⟩
def REC.STAT.restore : Ref := ⟨0x49080, 26, 2, false⟩
def REC.STAT.snapping : Ref := ⟨0x49080, 25, 1, false⟩
def REC.STAT.pc_ovf : Ref := ⟨0x49080, 24, 1, false⟩
def REC.LOGSEQ : Ref := ⟨0x49084, 0, 32, false⟩
def REC.LOGSEQ.seq : Ref := ⟨0x49084, 0, 32, false⟩
def REC.LOGSTART : Ref := ⟨0x49088, 0, 32, false⟩
def REC.LOGSTART.offset : Ref := ⟨0x49088, 0, 25, false⟩
def REC.LOGEND : Ref := ⟨0x4908C, 0, 32, false⟩
def REC.LOGEND.offset : Ref := ⟨0x4908C, 0, 25, false⟩
def REC.OPTIME : Ref := ⟨0x49090, 0, 64, false⟩
def REC.OPTIME.ms : Ref := ⟨0x49090, 0, 40, false⟩
def REC.PWRCYC : Ref := ⟨0x49098, 0, 32, false⟩
def REC.PWRCYC.count : Ref := ⟨0x49098, 0, 24, false⟩
def REC.LEG : Ref := ⟨0x4909C, 0, 32, false⟩
def REC.LEG.leg : Ref := ⟨0x4909C, 0, 16, false⟩
def REC.SNAPSEQ : Ref := ⟨0x490A0, 0, 32, false⟩
def REC.SNAPSEQ.seq : Ref := ⟨0x490A0, 0, 32, false⟩
def REC.CMD : Ref := ⟨0x490A4, 0, 32, false⟩
def REC.CMD.key : Ref := ⟨0x490A4, 24, 8, false⟩
def REC.CMD.op : Ref := ⟨0x490A4, 20, 4, false⟩
def REC.CMD.arg : Ref := ⟨0x490A4, 0, 10, false⟩
def REC.CMDARG : Ref := ⟨0x490A8, 0, 32, false⟩
def REC.CMDARG.seq : Ref := ⟨0x490A8, 0, 32, false⟩
def REC.ARCCRC : Ref := ⟨0x490AC, 0, 32, false⟩
def REC.ARCCRC.crc : Ref := ⟨0x490AC, 0, 32, false⟩
def REC.CMDSTAT : Ref := ⟨0x490B0, 0, 32, false⟩
def REC.CMDSTAT.reason : Ref := ⟨0x490B0, 8, 8, false⟩
def REC.CMDSTAT.state : Ref := ⟨0x490B0, 0, 3, false⟩
def REC.WRCTL : Ref := ⟨0x490B4, 0, 32, false⟩
def REC.WRCTL.k : Ref := ⟨0x490B4, 16, 4, false⟩
def REC.WRCTL.code : Ref := ⟨0x490B4, 0, 16, false⟩
def REC.STAGEDROP : Ref := ⟨0x490B8, 0, 32, false⟩
def REC.STAGEDROP.count : Ref := ⟨0x490B8, 0, 32, false⟩
def REC.LOGDROP : Ref := ⟨0x490BC, 0, 32, false⟩
def REC.LOGDROP.count : Ref := ⟨0x490BC, 0, 32, false⟩
def REC.CNTOVF : Ref := ⟨0x490C0, 0, 32, false⟩
def REC.CNTOVF.stage : Ref := ⟨0x490C0, 0, 1, false⟩
def REC.HSEL : Ref := ⟨0x490C4, 0, 32, false⟩
def REC.HSEL.ch : Ref := ⟨0x490C4, 0, 10, false⟩
def REC.ANCHOR (i : Nat) : Ref := ⟨0x490E0 + 4 * (i % 16), 0, 32, false⟩
def REC.ANCHOR.bytes (i : Nat) : Ref := ⟨0x490E0 + 4 * (i % 16), 0, 32, false⟩
def REC.WRDATA (i : Nat) : Ref := ⟨0x49140 + 4 * (i % 60), 0, 32, false⟩
def REC.WRDATA.bytes (i : Nat) : Ref := ⟨0x49140 + 4 * (i % 60), 0, 32, false⟩
def REC.HWIN (i : Nat) : Ref := ⟨0x49300 + 4 * (i % 64), 0, 32, false⟩
def REC.HWIN.bytes (i : Nat) : Ref := ⟨0x49300 + 4 * (i % 64), 0, 32, false⟩
-- RTC (R483)
def RTC.SUBSEC : Ref := ⟨0x50040, 0, 32, false⟩
def RTC.SUBSEC.count : Ref := ⟨0x50040, 0, 15, false⟩
def RTC.TIME (i : Nat) : Ref := ⟨0x50044 + 4 * (i % 8), 0, 32, false⟩
def RTC.TIME.bcd (i : Nat) : Ref := ⟨0x50044 + 4 * (i % 8), 0, 8, false⟩
def RTC.SET (i : Nat) : Ref := ⟨0x50070 + 4 * (i % 8), 0, 32, false⟩
def RTC.SET.set_ (i : Nat) : Ref := ⟨0x50070 + 4 * (i % 8), 0, 15, false⟩
def RTC.CMD : Ref := ⟨0x500A0, 0, 32, false⟩
def RTC.CMD.key : Ref := ⟨0x500A0, 24, 8, false⟩
def RTC.CMD.op : Ref := ⟨0x500A0, 20, 4, false⟩
def RTC.CMD.back : Ref := ⟨0x500A0, 15, 1, false⟩
def RTC.CMD.n : Ref := ⟨0x500A0, 0, 15, false⟩
def RTC.CMDSTAT : Ref := ⟨0x500A4, 0, 32, false⟩
def RTC.CMDSTAT.setfld : Ref := ⟨0x500A4, 16, 4, false⟩
def RTC.CMDSTAT.reason : Ref := ⟨0x500A4, 8, 8, false⟩
def RTC.CMDSTAT.state : Ref := ⟨0x500A4, 0, 3, false⟩
def RTC.STAT : Ref := ⟨0x500A8, 0, 32, false⟩
def RTC.STAT.osf : Ref := ⟨0x500A8, 31, 1, false⟩
def RTC.STAT.wrap : Ref := ⟨0x500A8, 30, 1, false⟩
def RTC.STAT.dst : Ref := ⟨0x500A8, 29, 1, false⟩
def RTC.STAT.rcfb : Ref := ⟨0x500A8, 28, 1, false⟩
def RTC.STAT.seterr : Ref := ⟨0x500A8, 27, 1, false⟩
def RTC.STAT.frozen : Ref := ⟨0x500A8, 26, 1, false⟩
def RTC.STAT.skip1 : Ref := ⟨0x500A8, 25, 1, false⟩
def RTC.STAT.skip0 : Ref := ⟨0x500A8, 24, 1, false⟩
def RTC.TRIM : Ref := ⟨0x500AC, 0, 32, false⟩
def RTC.TRIM.n : Ref := ⟨0x500AC, 0, 11, false⟩
def RTC.ALMCTL (i : Nat) : Ref := ⟨0x500C0 + 16 * (i % 2), 0, 32, false⟩
def RTC.ALMCTL.enable (i : Nat) : Ref := ⟨0x500C0 + 16 * (i % 2), 31, 1, false⟩
def RTC.ALMCTL.wake (i : Nat) : Ref := ⟨0x500C0 + 16 * (i % 2), 30, 1, false⟩
def RTC.ALMCTL.mask (i : Nat) : Ref := ⟨0x500C0 + 16 * (i % 2), 0, 6, false⟩
def RTC.ALMTIME (i : Nat) : Ref := ⟨0x500C4 + 16 * (i % 2), 0, 32, false⟩
def RTC.ALMTIME.hour (i : Nat) : Ref := ⟨0x500C4 + 16 * (i % 2), 16, 6, false⟩
def RTC.ALMTIME.min (i : Nat) : Ref := ⟨0x500C4 + 16 * (i % 2), 8, 7, false⟩
def RTC.ALMTIME.sec (i : Nat) : Ref := ⟨0x500C4 + 16 * (i % 2), 0, 7, false⟩
def RTC.ALMDATE (i : Nat) : Ref := ⟨0x500C8 + 16 * (i % 2), 0, 32, false⟩
def RTC.ALMDATE.dow (i : Nat) : Ref := ⟨0x500C8 + 16 * (i % 2), 24, 3, false⟩
def RTC.ALMDATE.month (i : Nat) : Ref := ⟨0x500C8 + 16 * (i % 2), 16, 5, false⟩
def RTC.ALMDATE.date (i : Nat) : Ref := ⟨0x500C8 + 16 * (i % 2), 8, 6, false⟩
-- BKPM (R484)
def BKPM.DATA (i : Nat) : Ref := ⟨0x51040 + 4 * (i % 30), 0, 32, false⟩
def BKPM.DATA.bytes (i : Nat) : Ref := ⟨0x51040 + 4 * (i % 30), 0, 32, false⟩
def BKPM.DATA30 : Ref := ⟨0x510B8, 0, 32, false⟩
def BKPM.DATA30.drop : Ref := ⟨0x510B8, 0, 32, false⟩
def BKPM.DATA31 : Ref := ⟨0x510BC, 0, 32, false⟩
def BKPM.DATA31.pwrcyc : Ref := ⟨0x510BC, 0, 24, false⟩
def BKPM.STAT : Ref := ⟨0x510C0, 0, 32, false⟩
def BKPM.STAT.vbat_low : Ref := ⟨0x510C0, 3, 1, false⟩
def BKPM.STAT.vbat_ok : Ref := ⟨0x510C0, 2, 1, false⟩
def BKPM.STAT.erased : Ref := ⟨0x510C0, 1, 1, false⟩
def BKPM.STAT.lost : Ref := ⟨0x510C0, 0, 1, false⟩
-- SEC (R501)
def SEC.CMD : Ref := ⟨0x58040, 0, 32, false⟩
def SEC.CMD.key : Ref := ⟨0x58040, 24, 8, false⟩
def SEC.CMD.op : Ref := ⟨0x58040, 20, 4, false⟩
def SEC.CMDSTAT : Ref := ⟨0x58044, 0, 32, false⟩
def SEC.CMDSTAT.reason : Ref := ⟨0x58044, 8, 8, false⟩
def SEC.CMDSTAT.state : Ref := ⟨0x58044, 0, 3, false⟩
def SEC.STAT : Ref := ⟨0x58048, 0, 32, false⟩
def SEC.STAT.id_valid : Ref := ⟨0x58048, 31, 1, false⟩
def SEC.STAT.booted : Ref := ⟨0x58048, 0, 2, false⟩
def SEC.IMGSTAT (i : Nat) : Ref := ⟨0x58050 + 4 * (i % 2), 0, 32, false⟩
def SEC.IMGSTAT.state (i : Nat) : Ref := ⟨0x58050 + 4 * (i % 2), 16, 4, false⟩
def SEC.IMGSTAT.reason (i : Nat) : Ref := ⟨0x58050 + 4 * (i % 2), 8, 8, false⟩
def SEC.IMGSEQ (i : Nat) : Ref := ⟨0x58058 + 4 * (i % 2), 0, 32, false⟩
def SEC.IMGSEQ.seq (i : Nat) : Ref := ⟨0x58058 + 4 * (i % 2), 0, 32, false⟩
def SEC.CHAL (i : Nat) : Ref := ⟨0x58060 + 4 * (i % 8), 0, 32, false⟩
def SEC.CHAL.bytes (i : Nat) : Ref := ⟨0x58060 + 4 * (i % 8), 0, 32, false⟩
def SEC.SIG (i : Nat) : Ref := ⟨0x58080 + 4 * (i % 16), 0, 32, false⟩
def SEC.SIG.bytes (i : Nat) : Ref := ⟨0x58080 + 4 * (i % 16), 0, 32, false⟩
def SEC.IDPUB (i : Nat) : Ref := ⟨0x580C0 + 4 * (i % 16), 0, 32, false⟩
def SEC.IDPUB.bytes (i : Nat) : Ref := ⟨0x580C0 + 4 * (i % 16), 0, 32, false⟩
-- KEYV (R502)
def KEYV.KEYDATA (i : Nat) : Ref := ⟨0x59040 + 4 * (i % 8), 0, 32, false⟩
def KEYV.KEYDATA.bytes (i : Nat) : Ref := ⟨0x59040 + 4 * (i % 8), 0, 32, false⟩
def KEYV.CMD : Ref := ⟨0x59060, 0, 32, false⟩
def KEYV.CMD.key : Ref := ⟨0x59060, 24, 8, false⟩
def KEYV.CMD.op : Ref := ⟨0x59060, 20, 4, false⟩
def KEYV.CMD.slot : Ref := ⟨0x59060, 0, 3, false⟩
def KEYV.CMDSTAT : Ref := ⟨0x59064, 0, 32, false⟩
def KEYV.CMDSTAT.reason : Ref := ⟨0x59064, 8, 8, false⟩
def KEYV.CMDSTAT.state : Ref := ⟨0x59064, 0, 3, false⟩
def KEYV.CMDEN : Ref := ⟨0x59068, 0, 32, false⟩
def KEYV.CMDEN.load_en : Ref := ⟨0x59068, 0, 1, false⟩
def KEYV.STAT : Ref := ⟨0x5906C, 0, 32, false⟩
def KEYV.STAT.erased : Ref := ⟨0x5906C, 8, 1, false⟩
def KEYV.STAT.valid : Ref := ⟨0x5906C, 0, 8, false⟩
def KEYV.ERASECNT : Ref := ⟨0x59070, 0, 32, false⟩
def KEYV.ERASECNT.count : Ref := ⟨0x59070, 0, 32, false⟩
def KEYV.CNTOVF : Ref := ⟨0x59074, 0, 32, false⟩
def KEYV.CNTOVF.erase : Ref := ⟨0x59074, 0, 1, false⟩
def KEYV.KCV (i : Nat) : Ref := ⟨0x59080 + 4 * (i % 8), 0, 32, false⟩
def KEYV.KCV.kcv (i : Nat) : Ref := ⟨0x59080 + 4 * (i % 8), 0, 24, false⟩
-- TAMP (R503)
def TAMP.POLICY : Ref := ⟨0x5A040, 0, 32, false⟩
def TAMP.POLICY.policy : Ref := ⟨0x5A040, 0, 14, false⟩
def TAMP.CFG : Ref := ⟨0x5A044, 0, 32, false⟩
def TAMP.CFG.bkpm_erase : Ref := ⟨0x5A044, 16, 1, false⟩
def TAMP.CFG.mesh_bkp : Ref := ⟨0x5A044, 15, 1, false⟩
def TAMP.CFG.tamp1_lvl : Ref := ⟨0x5A044, 1, 1, false⟩
def TAMP.CFG.tamp0_lvl : Ref := ⟨0x5A044, 0, 1, false⟩
def TAMP.STAT : Ref := ⟨0x5A048, 0, 32, false⟩
def TAMP.STAT.alarm : Ref := ⟨0x5A048, 31, 1, false⟩
def TAMP.STAT.erasing : Ref := ⟨0x5A048, 30, 1, false⟩
def TAMP.STAT.active : Ref := ⟨0x5A048, 16, 7, false⟩
def TAMP.STAT.bkp : Ref := ⟨0x5A048, 8, 7, false⟩
def TAMP.STAT.latched : Ref := ⟨0x5A048, 0, 7, false⟩
def TAMP.FIRST (i : Nat) : Ref := ⟨0x5A04C + 4 * (i % 2), 0, 32, false⟩
def TAMP.FIRST.bcd (i : Nat) : Ref := ⟨0x5A04C + 4 * (i % 2), 0, 32, false⟩
def TAMP.AUTHWIN : Ref := ⟨0x5A054, 0, 32, false⟩
def TAMP.AUTHWIN.count : Ref := ⟨0x5A054, 0, 5, false⟩
-- PWR (R533)
def PWR.CFG : Ref := ⟨0x1040, 0, 32, true⟩
def PWR.CFG.vmon_en : Ref := ⟨0x1040, 31, 1, true⟩
def PWR.CFG.gov_en : Ref := ⟨0x1040, 30, 1, true⟩
def PWR.CFG.vmon_nom : Ref := ⟨0x1040, 16, 12, true⟩
def PWR.CFG.hyst : Ref := ⟨0x1040, 8, 4, true⟩
def PWR.CFG.dwell : Ref := ⟨0x1040, 0, 8, true⟩
def PWR.SHEDTHR : Ref := ⟨0x1044, 0, 32, true⟩
def PWR.SHEDTHR.shed1 : Ref := ⟨0x1044, 24, 8, true⟩
def PWR.SHEDTHR.shed2 : Ref := ⟨0x1044, 16, 8, true⟩
def PWR.SHEDTHR.shed3 : Ref := ⟨0x1044, 8, 8, true⟩
def PWR.SHEDTHR.shed4 : Ref := ⟨0x1044, 0, 8, true⟩
def PWR.DOMREQ : Ref := ⟨0x1048, 0, 32, true⟩
def PWR.DOMREQ.req : Ref := ⟨0x1048, 4, 8, true⟩
def PWR.RSVD : Ref := ⟨0x104C, 0, 32, false⟩
def PWR.STAT : Ref := ⟨0x1080, 0, 32, false⟩
def PWR.STAT.level : Ref := ⟨0x1080, 29, 3, false⟩
def PWR.STAT.state : Ref := ⟨0x1080, 27, 2, false⟩
def PWR.STAT.cap : Ref := ⟨0x1080, 26, 1, false⟩
def PWR.STAT.gov_over : Ref := ⟨0x1080, 25, 1, false⟩
def PWR.STAT.core_warn : Ref := ⟨0x1080, 24, 1, false⟩
def PWR.STAT.vdda_low : Ref := ⟨0x1080, 23, 1, false⟩
def PWR.STAT.io33 : Ref := ⟨0x1080, 22, 1, false⟩
def PWR.STAT.opt_ovf : Ref := ⟨0x1080, 21, 1, false⟩
def PWR.STAT.saving : Ref := ⟨0x1080, 20, 1, false⟩
def PWR.STAT.vmon : Ref := ⟨0x1080, 0, 12, false⟩
def PWR.DOMSTAT : Ref := ⟨0x1084, 0, 32, false⟩
def PWR.DOMSTAT.on : Ref := ⟨0x1084, 0, 12, false⟩
def PWR.RAILS0 : Ref := ⟨0x1088, 0, 32, false⟩
def PWR.RAILS0.vddio : Ref := ⟨0x1088, 16, 12, false⟩
def PWR.RAILS0.vddc : Ref := ⟨0x1088, 0, 12, false⟩
def PWR.RAILS1 : Ref := ⟨0x108C, 0, 32, false⟩
def PWR.RAILS1.vdda : Ref := ⟨0x108C, 0, 13, false⟩
def PWR.POWER : Ref := ⟨0x1090, 0, 32, false⟩
def PWR.POWER.mw : Ref := ⟨0x1090, 0, 16, false⟩
def PWR.GOVLIM : Ref := ⟨0x1094, 0, 32, false⟩
def PWR.GOVLIM.mw : Ref := ⟨0x1094, 0, 16, false⟩
def PWR.OPTIME : Ref := ⟨0x1098, 0, 64, false⟩
def PWR.OPTIME.ms : Ref := ⟨0x1098, 0, 40, false⟩
def PWR.SHED4CNT : Ref := ⟨0x10A0, 0, 32, false⟩
def PWR.SHED4CNT.count : Ref := ⟨0x10A0, 0, 32, false⟩
def PWR.CNTOVF : Ref := ⟨0x10A4, 0, 32, false⟩
def PWR.CNTOVF.shed4 : Ref := ⟨0x10A4, 0, 1, false⟩
def PWR.CMD : Ref := ⟨0x10A8, 0, 32, false⟩
def PWR.CMD.key : Ref := ⟨0x10A8, 24, 8, false⟩
def PWR.CMD.op : Ref := ⟨0x10A8, 20, 4, false⟩
def PWR.CMDSTAT : Ref := ⟨0x10AC, 0, 32, false⟩
def PWR.CMDSTAT.reason : Ref := ⟨0x10AC, 8, 8, false⟩
def PWR.CMDSTAT.state : Ref := ⟨0x10AC, 0, 3, false⟩
-- CLK (R560)
def CLK.STAT : Ref := ⟨0x2040, 0, 32, false⟩
def CLK.STAT.clkmode : Ref := ⟨0x2040, 30, 2, false⟩
def CLK.STAT.hfxo_ok : Ref := ⟨0x2040, 29, 1, false⟩
def CLK.STAT.pll_ok : Ref := ⟨0x2040, 28, 1, false⟩
def CLK.STAT.apll_ok : Ref := ⟨0x2040, 27, 1, false⟩
def CLK.STAT.pacer_xtal : Ref := ⟨0x2040, 26, 1, false⟩
def CLK.STAT.cap : Ref := ⟨0x2040, 25, 1, false⟩
def CLK.STAT.sprint : Ref := ⟨0x2040, 24, 1, false⟩
def CLK.PACERCAL : Ref := ⟨0x2044, 0, 32, false⟩
def CLK.PACERCAL.ppb : Ref := ⟨0x2044, 0, 32, false⟩
def CLK.FAILCNT : Ref := ⟨0x2048, 0, 32, false⟩
def CLK.FAILCNT.count : Ref := ⟨0x2048, 0, 32, false⟩
def CLK.CNTOVF : Ref := ⟨0x204C, 0, 32, false⟩
def CLK.CNTOVF.fail : Ref := ⟨0x204C, 0, 1, false⟩
-- RST (R561)
def RST.CAUSE : Ref := ⟨0x3040, 0, 32, false⟩
def RST.CAUSE.cause : Ref := ⟨0x3040, 0, 14, false⟩
def RST.LAST : Ref := ⟨0x3044, 0, 32, false⟩
def RST.LAST.reach : Ref := ⟨0x3044, 30, 2, false⟩
def RST.LAST.page : Ref := ⟨0x3044, 8, 8, false⟩
def RST.LAST.domain : Ref := ⟨0x3044, 0, 4, false⟩
def RST.STRAPS : Ref := ⟨0x3048, 0, 32, false⟩
def RST.STRAPS.boot : Ref := ⟨0x3048, 14, 2, false⟩
def RST.STRAPS.clkmode : Ref := ⟨0x3048, 12, 2, false⟩
def RST.STRAPS.pairpos : Ref := ⟨0x3048, 10, 1, false⟩
def RST.STRAPS.nid : Ref := ⟨0x3048, 0, 10, false⟩
def RST.CFG : Ref := ⟨0x304C, 0, 32, false⟩
def RST.CFG.partner_en : Ref := ⟨0x304C, 31, 1, false⟩
def RST.CFG.sup_en : Ref := ⟨0x304C, 30, 1, false⟩
def RST.CFG.sup_s : Ref := ⟨0x304C, 0, 12, false⟩
def RST.CMD : Ref := ⟨0x3050, 0, 32, false⟩
def RST.CMD.key : Ref := ⟨0x3050, 24, 8, false⟩
def RST.CMD.op : Ref := ⟨0x3050, 20, 4, false⟩
def RST.CMD.domain : Ref := ⟨0x3050, 0, 4, false⟩
def RST.CMDSTAT : Ref := ⟨0x3054, 0, 32, false⟩
def RST.CMDSTAT.reason : Ref := ⟨0x3054, 8, 8, false⟩
def RST.CMDSTAT.state : Ref := ⟨0x3054, 0, 3, false⟩
-- LAP (R562)
def LAP.PERIOD : Ref := ⟨0x4040, 0, 32, true⟩
def LAP.PERIOD.period_ms : Ref := ⟨0x4040, 0, 22, true⟩
def LAP.CFG : Ref := ⟨0x4044, 0, 32, true⟩
def LAP.CFG.nap_en : Ref := ⟨0x4044, 31, 1, true⟩
def LAP.CFG.lead : Ref := ⟨0x4044, 8, 8, true⟩
def LAP.COUNT : Ref := ⟨0x4080, 0, 32, false⟩
def LAP.COUNT.count : Ref := ⟨0x4080, 0, 32, false⟩
def LAP.NEXT : Ref := ⟨0x4084, 0, 32, false⟩
def LAP.NEXT.us : Ref := ⟨0x4084, 0, 32, false⟩
def LAP.OVRCNT : Ref := ⟨0x4088, 0, 32, false⟩
def LAP.OVRCNT.count : Ref := ⟨0x4088, 0, 32, false⟩
def LAP.LATE : Ref := ⟨0x408C, 0, 32, false⟩
def LAP.LATE.us : Ref := ⟨0x408C, 0, 32, false⟩
def LAP.WAKESRC : Ref := ⟨0x4090, 0, 32, false⟩
def LAP.WAKESRC.src : Ref := ⟨0x4090, 0, 7, false⟩
def LAP.CNTOVF : Ref := ⟨0x4094, 0, 32, false⟩
def LAP.CNTOVF.ovr : Ref := ⟨0x4094, 0, 1, false⟩
-- DBG (R563)
def DBG.IDCODE : Ref := ⟨0x7F040, 0, 32, false⟩
def DBG.IDCODE.idcode : Ref := ⟨0x7F040, 0, 32, false⟩
def DBG.JTAGCFG : Ref := ⟨0x7F044, 0, 32, false⟩
def DBG.JTAGCFG.extest_en : Ref := ⟨0x7F044, 1, 1, false⟩
def DBG.JTAGCFG.jtag_en : Ref := ⟨0x7F044, 0, 1, false⟩
-- SYS (R568)
def SYS.IMGSW : Ref := ⟨0x48, 0, 32, false⟩
def SYS.IMGSW.key : Ref := ⟨0x48, 24, 8, false⟩
def SYS.IMGSW.op : Ref := ⟨0x48, 20, 4, false⟩
def SYS.IMGSW.img : Ref := ⟨0x48, 16, 1, false⟩
def SYS.IMGLAP : Ref := ⟨0x4C, 0, 32, false⟩
def SYS.IMGLAP.lap : Ref := ⟨0x4C, 0, 32, false⟩
def SYS.IMGSTAT : Ref := ⟨0x50, 0, 32, false⟩
def SYS.IMGSTAT.page : Ref := ⟨0x50, 24, 8, false⟩
def SYS.IMGSTAT.live_ok : Ref := ⟨0x50, 17, 1, false⟩
def SYS.IMGSTAT.live : Ref := ⟨0x50, 16, 1, false⟩
def SYS.IMGSTAT.reason : Ref := ⟨0x50, 8, 8, false⟩
def SYS.IMGSTAT.state : Ref := ⟨0x50, 0, 3, false⟩
def SYS.IMGCODE : Ref := ⟨0x54, 0, 32, false⟩
def SYS.IMGCODE.code : Ref := ⟨0x54, 0, 16, false⟩
-- AFE.IRQRAW block bits (R117)
def AFE.IRQRAW.cnt_ovf (n : Nat) : Ref := ⟨0x8014 + 0x1000 * (n % 8), 6, 1, false⟩
def AFE.IRQRAW.pin_fault (n : Nat) : Ref := ⟨0x8014 + 0x1000 * (n % 8), 5, 1, false⟩
def AFE.IRQRAW.lead_reject (n : Nat) : Ref := ⟨0x8014 + 0x1000 * (n % 8), 4, 1, false⟩
def AFE.IRQRAW.abort (n : Nat) : Ref := ⟨0x8014 + 0x1000 * (n % 8), 3, 1, false⟩
def AFE.IRQRAW.restart (n : Nat) : Ref := ⟨0x8014 + 0x1000 * (n % 8), 2, 1, false⟩
def AFE.IRQRAW.short (n : Nat) : Ref := ⟨0x8014 + 0x1000 * (n % 8), 1, 1, false⟩
def AFE.IRQRAW.open_ (n : Nat) : Ref := ⟨0x8014 + 0x1000 * (n % 8), 0, 1, false⟩
-- AFE.FAULT block bits (R117)
def AFE.FAULT.lead_reinit (n : Nat) : Ref := ⟨0x8020 + 0x1000 * (n % 8), 4, 1, false⟩
def AFE.FAULT.bridge (n : Nat) : Ref := ⟨0x8020 + 0x1000 * (n % 8), 3, 1, false⟩
def AFE.FAULT.iexb (n : Nat) : Ref := ⟨0x8020 + 0x1000 * (n % 8), 2, 1, false⟩
def AFE.FAULT.iexa (n : Nat) : Ref := ⟨0x8020 + 0x1000 * (n % 8), 1, 1, false⟩
def AFE.FAULT.sched (n : Nat) : Ref := ⟨0x8020 + 0x1000 * (n % 8), 0, 1, false⟩
-- ARITH.IRQRAW block bits (R157)
def ARITH.IRQRAW.cnt_ovf : Ref := ⟨0x11014, 6, 1, false⟩
def ARITH.IRQRAW.test_done : Ref := ⟨0x11014, 5, 1, false⟩
def ARITH.IRQRAW.drop : Ref := ⟨0x11014, 4, 1, false⟩
def ARITH.IRQRAW.cj_fallback : Ref := ⟨0x11014, 3, 1, false⟩
def ARITH.IRQRAW.ne43 : Ref := ⟨0x11014, 2, 1, false⟩
def ARITH.IRQRAW.dom : Ref := ⟨0x11014, 1, 1, false⟩
def ARITH.IRQRAW.sat : Ref := ⟨0x11014, 0, 1, false⟩
-- ARITH.FAULT block bits (R157)
def ARITH.FAULT.modt : Ref := ⟨0x11020, 2, 1, false⟩
def ARITH.FAULT.slot : Ref := ⟨0x11020, 1, 1, false⟩
def ARITH.FAULT.iterlim : Ref := ⟨0x11020, 0, 1, false⟩
-- CAL.IRQRAW block bits (R203)
def CAL.IRQRAW.store_repair : Ref := ⟨0x10014, 13, 1, false⟩
def CAL.IRQRAW.cnt_event : Ref := ⟨0x10014, 12, 1, false⟩
def CAL.IRQRAW.cnt_ovf : Ref := ⟨0x10014, 11, 1, false⟩
def CAL.IRQRAW.src_fail : Ref := ⟨0x10014, 10, 1, false⟩
def CAL.IRQRAW.lane_change : Ref := ⟨0x10014, 9, 1, false⟩
def CAL.IRQRAW.fcal : Ref := ⟨0x10014, 8, 1, false⟩
def CAL.IRQRAW.stale : Ref := ⟨0x10014, 7, 1, false⟩
def CAL.IRQRAW.rr_fail : Ref := ⟨0x10014, 6, 1, false⟩
def CAL.IRQRAW.ref_fail : Ref := ⟨0x10014, 5, 1, false⟩
def CAL.IRQRAW.ch_retired : Ref := ⟨0x10014, 4, 1, false⟩
def CAL.IRQRAW.mod_retired : Ref := ⟨0x10014, 3, 1, false⟩
def CAL.IRQRAW.stride_defer : Ref := ⟨0x10014, 2, 1, false⟩
def CAL.IRQRAW.stride_fail : Ref := ⟨0x10014, 1, 1, false⟩
def CAL.IRQRAW.stride_pass : Ref := ⟨0x10014, 0, 1, false⟩
-- CAL.FAULT block bits (R203)
def CAL.FAULT.nolane : Ref := ⟨0x10020, 5, 1, false⟩
def CAL.FAULT.storewr : Ref := ⟨0x10020, 4, 1, false⟩
def CAL.FAULT.store : Ref := ⟨0x10020, 3, 1, false⟩
def CAL.FAULT.rr : Ref := ⟨0x10020, 2, 1, false⟩
def CAL.FAULT.refambig : Ref := ⟨0x10020, 1, 1, false⟩
def CAL.FAULT.refloss : Ref := ⟨0x10020, 0, 1, false⟩
-- ALM.IRQRAW block bits (R251)
def ALM.IRQRAW.cnt_ovf : Ref := ⟨0x20014, 8, 1, false⟩
def ALM.IRQRAW.sensor_fault : Ref := ⟨0x20014, 7, 1, false⟩
def ALM.IRQRAW.first_out : Ref := ⟨0x20014, 6, 1, false⟩
def ALM.IRQRAW.cmd_done : Ref := ⟨0x20014, 5, 1, false⟩
def ALM.IRQRAW.nq_drop : Ref := ⟨0x20014, 4, 1, false⟩
def ALM.IRQRAW.flood_end : Ref := ⟨0x20014, 3, 1, false⟩
def ALM.IRQRAW.flood_begin : Ref := ⟨0x20014, 2, 1, false⟩
def ALM.IRQRAW.unack : Ref := ⟨0x20014, 1, 1, false⟩
def ALM.IRQRAW.state_change : Ref := ⟨0x20014, 0, 1, false⟩
-- ALM.FAULT block bits (R251)
def ALM.FAULT.nqwrite : Ref := ⟨0x20020, 2, 1, false⟩
def ALM.FAULT.evaltime : Ref := ⟨0x20020, 1, 1, false⟩
def ALM.FAULT.cfgmis : Ref := ⟨0x20020, 0, 1, false⟩
-- CALL.IRQRAW block bits (R271)
def CALL.IRQRAW.cnt_ovf : Ref := ⟨0x28014, 10, 1, false⟩
def CALL.IRQRAW.demand_stale : Ref := ⟨0x28014, 9, 1, false⟩
def CALL.IRQRAW.cp_lost : Ref := ⟨0x28014, 8, 1, false⟩
def CALL.IRQRAW.pers_alarm : Ref := ⟨0x28014, 7, 1, false⟩
def CALL.IRQRAW.pers_prewarn : Ref := ⟨0x28014, 6, 1, false⟩
def CALL.IRQRAW.relay_fail : Ref := ⟨0x28014, 5, 1, false⟩
def CALL.IRQRAW.relay_done : Ref := ⟨0x28014, 4, 1, false⟩
def CALL.IRQRAW.answered : Ref := ⟨0x28014, 3, 1, false⟩
def CALL.IRQRAW.officer : Ref := ⟨0x28014, 2, 1, false⟩
def CALL.IRQRAW.escalate : Ref := ⟨0x28014, 1, 1, false⟩
def CALL.IRQRAW.call_start : Ref := ⟨0x28014, 0, 1, false⟩
-- CALL.FAULT block bits (R271)
def CALL.FAULT.nocp : Ref := ⟨0x28020, 0, 1, false⟩
-- UIO.IRQRAW block bits (R294)
def UIO.IRQRAW.cnt_ovf : Ref := ⟨0x18014, 4, 1, false⟩
def UIO.IRQRAW.failact : Ref := ⟨0x18014, 3, 1, false⟩
def UIO.IRQRAW.outflt : Ref := ⟨0x18014, 2, 1, false⟩
def UIO.IRQRAW.loop_low : Ref := ⟨0x18014, 1, 1, false⟩
def UIO.IRQRAW.compliance : Ref := ⟨0x18014, 0, 1, false⟩
-- UIO.FAULT block bits (R294)
def UIO.FAULT.thermal : Ref := ⟨0x18020, 2, 1, false⟩
def UIO.FAULT.jkt : Ref := ⟨0x18020, 1, 1, false⟩
def UIO.FAULT.outflt : Ref := ⟨0x18020, 0, 1, false⟩
-- DIO.IRQRAW block bits (R321)
def DIO.IRQRAW.cnt_ovf : Ref := ⟨0x19014, 10, 1, false⟩
def DIO.IRQRAW.cnt_event : Ref := ⟨0x19014, 9, 1, false⟩
def DIO.IRQRAW.vfield_ok : Ref := ⟨0x19014, 8, 1, false⟩
def DIO.IRQRAW.vfield_low : Ref := ⟨0x19014, 7, 1, false⟩
def DIO.IRQRAW.vfield_warn : Ref := ⟨0x19014, 6, 1, false⟩
def DIO.IRQRAW.disagree : Ref := ⟨0x19014, 5, 1, false⟩
def DIO.IRQRAW.extdrv : Ref := ⟨0x19014, 4, 1, false⟩
def DIO.IRQRAW.open_ : Ref := ⟨0x19014, 3, 1, false⟩
def DIO.IRQRAW.thermal : Ref := ⟨0x19014, 2, 1, false⟩
def DIO.IRQRAW.short : Ref := ⟨0x19014, 1, 1, false⟩
def DIO.IRQRAW.in_change : Ref := ⟨0x19014, 0, 1, false⟩
-- DIO.FAULT block bits (R321)
def DIO.FAULT.thermal : Ref := ⟨0x19020, 4, 1, false⟩
def DIO.FAULT.disagree : Ref := ⟨0x19020, 3, 1, false⟩
def DIO.FAULT.vfield : Ref := ⟨0x19020, 2, 1, false⟩
def DIO.FAULT.extdrv : Ref := ⟨0x19020, 1, 1, false⟩
def DIO.FAULT.short : Ref := ⟨0x19020, 0, 1, false⟩
-- JKT.IRQRAW block bits (R324)
def JKT.IRQRAW.cnt_ovf : Ref := ⟨0x1A014, 7, 1, false⟩
def JKT.IRQRAW.cnt_event : Ref := ⟨0x1A014, 6, 1, false⟩
def JKT.IRQRAW.evt_ovf : Ref := ⟨0x1A014, 5, 1, false⟩
def JKT.IRQRAW.cfg_mismatch : Ref := ⟨0x1A014, 4, 1, false⟩
def JKT.IRQRAW.restored : Ref := ⟨0x1A014, 3, 1, false⟩
def JKT.IRQRAW.fault : Ref := ⟨0x1A014, 2, 1, false⟩
def JKT.IRQRAW.degraded : Ref := ⟨0x1A014, 1, 1, false⟩
def JKT.IRQRAW.up : Ref := ⟨0x1A014, 0, 1, false⟩
-- JKT.FAULT block bits (R324)
def JKT.FAULT.evtovf : Ref := ⟨0x1A020, 2, 1, false⟩
def JKT.FAULT.cfgecho : Ref := ⟨0x1A020, 1, 1, false⟩
def JKT.FAULT.link : Ref := ⟨0x1A020, 0, 1, false⟩
-- PAIR.IRQRAW block bits (R357)
def PAIR.IRQRAW.cnt_event : Ref := ⟨0x38014, 12, 1, false⟩
def PAIR.IRQRAW.cnt_ovf : Ref := ⟨0x38014, 11, 1, false⟩
def PAIR.IRQRAW.mirror_miss : Ref := ⟨0x38014, 10, 1, false⟩
def PAIR.IRQRAW.xchk : Ref := ⟨0x38014, 9, 1, false⟩
def PAIR.IRQRAW.cfgdiff : Ref := ⟨0x38014, 8, 1, false⟩
def PAIR.IRQRAW.partner_lost : Ref := ⟨0x38014, 7, 1, false⟩
def PAIR.IRQRAW.split : Ref := ⟨0x38014, 6, 1, false⟩
def PAIR.IRQRAW.handover : Ref := ⟨0x38014, 5, 1, false⟩
def PAIR.IRQRAW.takeover : Ref := ⟨0x38014, 4, 1, false⟩
def PAIR.IRQRAW.link_up : Ref := ⟨0x38014, 3, 1, false⟩
def PAIR.IRQRAW.link_lost : Ref := ⟨0x38014, 2, 1, false⟩
def PAIR.IRQRAW.lane_down : Ref := ⟨0x38014, 1, 1, false⟩
def PAIR.IRQRAW.role_change : Ref := ⟨0x38014, 0, 1, false⟩
-- PAIR.FAULT block bits (R357)
def PAIR.FAULT.xchk : Ref := ⟨0x38020, 5, 1, false⟩
def PAIR.FAULT.time : Ref := ⟨0x38020, 4, 1, false⟩
def PAIR.FAULT.split : Ref := ⟨0x38020, 3, 1, false⟩
def PAIR.FAULT.cfgdiff : Ref := ⟨0x38020, 2, 1, false⟩
def PAIR.FAULT.partner : Ref := ⟨0x38020, 1, 1, false⟩
def PAIR.FAULT.degraded : Ref := ⟨0x38020, 0, 1, false⟩
-- BUS.IRQRAW block bits (R384)
def BUS.IRQRAW.cnt_event (n : Nat) : Ref := ⟨0x30014 + 0x1000 * (n % 4), 11, 1, false⟩
def BUS.IRQRAW.cnt_ovf (n : Nat) : Ref := ⟨0x30014 + 0x1000 * (n % 4), 10, 1, false⟩
def BUS.IRQRAW.rx_drop (n : Nat) : Ref := ⟨0x30014 + 0x1000 * (n % 4), 9, 1, false⟩
def BUS.IRQRAW.solo (n : Nat) : Ref := ⟨0x30014 + 0x1000 * (n % 4), 8, 1, false⟩
def BUS.IRQRAW.recovered (n : Nat) : Ref := ⟨0x30014 + 0x1000 * (n % 4), 7, 1, false⟩
def BUS.IRQRAW.busoff (n : Nat) : Ref := ⟨0x30014 + 0x1000 * (n % 4), 6, 1, false⟩
def BUS.IRQRAW.epassive (n : Nat) : Ref := ⟨0x30014 + 0x1000 * (n % 4), 5, 1, false⟩
def BUS.IRQRAW.ewarn (n : Nat) : Ref := ⟨0x30014 + 0x1000 * (n % 4), 4, 1, false⟩
def BUS.IRQRAW.tx_cancel (n : Nat) : Ref := ⟨0x30014 + 0x1000 * (n % 4), 3, 1, false⟩
def BUS.IRQRAW.tx_sent (n : Nat) : Ref := ⟨0x30014 + 0x1000 * (n % 4), 2, 1, false⟩
def BUS.IRQRAW.rx1 (n : Nat) : Ref := ⟨0x30014 + 0x1000 * (n % 4), 1, 1, false⟩
def BUS.IRQRAW.rx0 (n : Nat) : Ref := ⟨0x30014 + 0x1000 * (n % 4), 0, 1, false⟩
-- BUS.FAULT block bits (R384)
def BUS.FAULT.txown (n : Nat) : Ref := ⟨0x30020 + 0x1000 * (n % 4), 3, 1, false⟩
def BUS.FAULT.txwrite (n : Nat) : Ref := ⟨0x30020 + 0x1000 * (n % 4), 2, 1, false⟩
def BUS.FAULT.rxwrite (n : Nat) : Ref := ⟨0x30020 + 0x1000 * (n % 4), 1, 1, false⟩
def BUS.FAULT.busoff (n : Nat) : Ref := ⟨0x30020 + 0x1000 * (n % 4), 0, 1, false⟩
-- MSG.IRQRAW block bits (R410)
def MSG.IRQRAW.cnt_event : Ref := ⟨0x34014, 5, 1, false⟩
def MSG.IRQRAW.cnt_ovf : Ref := ⟨0x34014, 4, 1, false⟩
def MSG.IRQRAW.frag_drop : Ref := ⟨0x34014, 3, 1, false⟩
def MSG.IRQRAW.unauth_rx : Ref := ⟨0x34014, 2, 1, false⟩
def MSG.IRQRAW.dupaddr : Ref := ⟨0x34014, 1, 1, false⟩
def MSG.IRQRAW.rx_reject : Ref := ⟨0x34014, 0, 1, false⟩
-- MSG.FAULT block bits (R410)
def MSG.FAULT.qfull : Ref := ⟨0x34020, 2, 1, false⟩
def MSG.FAULT.nokey : Ref := ⟨0x34020, 1, 1, false⟩
def MSG.FAULT.dupaddr : Ref := ⟨0x34020, 0, 1, false⟩
-- TSYNC.IRQRAW block bits (R413)
def TSYNC.IRQRAW.cmd_refused : Ref := ⟨0x35014, 4, 1, false⟩
def TSYNC.IRQRAW.cnt_event : Ref := ⟨0x35014, 3, 1, false⟩
def TSYNC.IRQRAW.step : Ref := ⟨0x35014, 2, 1, false⟩
def TSYNC.IRQRAW.holdover : Ref := ⟨0x35014, 1, 1, false⟩
def TSYNC.IRQRAW.locked : Ref := ⟨0x35014, 0, 1, false⟩
-- TSYNC.FAULT block bits (R413)
def TSYNC.FAULT.hops : Ref := ⟨0x35020, 2, 1, false⟩
def TSYNC.FAULT.loss : Ref := ⟨0x35020, 1, 1, false⟩
def TSYNC.FAULT.step : Ref := ⟨0x35020, 0, 1, false⟩
-- MEM.IRQRAW block bits (R442)
def MEM.IRQRAW.cnt_ovf : Ref := ⟨0x40014, 3, 1, false⟩
def MEM.IRQRAW.init_done : Ref := ⟨0x40014, 2, 1, false⟩
def MEM.IRQRAW.ue : Ref := ⟨0x40014, 1, 1, false⟩
def MEM.IRQRAW.ce : Ref := ⟨0x40014, 0, 1, false⟩
-- MEM.FAULT block bits (R442)
def MEM.FAULT.ue : Ref := ⟨0x40020, 0, 1, false⟩
-- MPTU.IRQRAW block bits (R444)
def MPTU.IRQRAW.cnt_ovf : Ref := ⟨0x41014, 1, 1, false⟩
def MPTU.IRQRAW.viol : Ref := ⟨0x41014, 0, 1, false⟩
-- DMA.IRQRAW block bits (R446)
def DMA.IRQRAW.cnt_ovf : Ref := ⟨0x42014, 4, 1, false⟩
def DMA.IRQRAW.rr_drop : Ref := ⟨0x42014, 3, 1, false⟩
def DMA.IRQRAW.aborted : Ref := ⟨0x42014, 2, 1, false⟩
def DMA.IRQRAW.halt : Ref := ⟨0x42014, 1, 1, false⟩
def DMA.IRQRAW.done : Ref := ⟨0x42014, 0, 1, false⟩
-- DMA.FAULT block bits (R446)
def DMA.FAULT.bound : Ref := ⟨0x42020, 1, 1, false⟩
def DMA.FAULT.halt : Ref := ⟨0x42020, 0, 1, false⟩
-- NVM.IRQRAW block bits (R448)
def NVM.IRQRAW.cnt_ovf : Ref := ⟨0x48014, 3, 1, false⟩
def NVM.IRQRAW.ue : Ref := ⟨0x48014, 2, 1, false⟩
def NVM.IRQRAW.cmd_refused : Ref := ⟨0x48014, 1, 1, false⟩
def NVM.IRQRAW.cmd_done : Ref := ⟨0x48014, 0, 1, false⟩
-- NVM.FAULT block bits (R448)
def NVM.FAULT.verify : Ref := ⟨0x48020, 1, 1, false⟩
def NVM.FAULT.ue : Ref := ⟨0x48020, 0, 1, false⟩
-- REC.IRQRAW block bits (R465)
def REC.IRQRAW.cnt_event : Ref := ⟨0x49014, 9, 1, false⟩
def REC.IRQRAW.cnt_ovf : Ref := ⟨0x49014, 8, 1, false⟩
def REC.IRQRAW.cmd_done : Ref := ⟨0x49014, 7, 1, false⟩
def REC.IRQRAW.summary : Ref := ⟨0x49014, 6, 1, false⟩
def REC.IRQRAW.clear_done : Ref := ⟨0x49014, 5, 1, false⟩
def REC.IRQRAW.stage_drop : Ref := ⟨0x49014, 4, 1, false⟩
def REC.IRQRAW.shortfall : Ref := ⟨0x49014, 3, 1, false⟩
def REC.IRQRAW.log_full : Ref := ⟨0x49014, 2, 1, false⟩
def REC.IRQRAW.snap_done : Ref := ⟨0x49014, 1, 1, false⟩
def REC.IRQRAW.record : Ref := ⟨0x49014, 0, 1, false⟩
-- REC.FAULT block bits (R465)
def REC.FAULT.restore : Ref := ⟨0x49020, 3, 1, false⟩
def REC.FAULT.cfgmis : Ref := ⟨0x49020, 2, 1, false⟩
def REC.FAULT.logwr : Ref := ⟨0x49020, 1, 1, false⟩
def REC.FAULT.snapwr : Ref := ⟨0x49020, 0, 1, false⟩
-- RTC.IRQRAW block bits (R483)
def RTC.IRQRAW.freeze_to : Ref := ⟨0x50014, 7, 1, false⟩
def RTC.IRQRAW.seterr : Ref := ⟨0x50014, 6, 1, false⟩
def RTC.IRQRAW.wrap : Ref := ⟨0x50014, 5, 1, false⟩
def RTC.IRQRAW.osf : Ref := ⟨0x50014, 4, 1, false⟩
def RTC.IRQRAW.cmd_done : Ref := ⟨0x50014, 3, 1, false⟩
def RTC.IRQRAW.alm1 : Ref := ⟨0x50014, 1, 1, false⟩
def RTC.IRQRAW.alm0 : Ref := ⟨0x50014, 0, 1, false⟩
-- RTC.FAULT block bits (R483)
def RTC.FAULT.osc : Ref := ⟨0x50020, 0, 1, false⟩
-- BKPM.IRQRAW block bits (R484)
def BKPM.IRQRAW.vbat_low : Ref := ⟨0x51014, 0, 1, false⟩
-- SEC.IRQRAW block bits (R501)
def SEC.IRQRAW.img_done : Ref := ⟨0x58014, 2, 1, false⟩
def SEC.IRQRAW.attest_done : Ref := ⟨0x58014, 1, 1, false⟩
def SEC.IRQRAW.gen_done : Ref := ⟨0x58014, 0, 1, false⟩
-- SEC.FAULT block bits (R501)
def SEC.FAULT.noimage : Ref := ⟨0x58020, 1, 1, false⟩
def SEC.FAULT.identity : Ref := ⟨0x58020, 0, 1, false⟩
-- KEYV.IRQRAW block bits (R502)
def KEYV.IRQRAW.cnt_event : Ref := ⟨0x59014, 2, 1, false⟩
def KEYV.IRQRAW.erased : Ref := ⟨0x59014, 1, 1, false⟩
def KEYV.IRQRAW.loaded : Ref := ⟨0x59014, 0, 1, false⟩
-- KEYV.FAULT block bits (R502)
def KEYV.FAULT.erased : Ref := ⟨0x59020, 0, 1, false⟩
-- TAMP.IRQRAW block bits (R503)
def TAMP.IRQRAW.alarm : Ref := ⟨0x5A014, 1, 1, false⟩
def TAMP.IRQRAW.event : Ref := ⟨0x5A014, 0, 1, false⟩
-- TAMP.FAULT block bits (R503)
def TAMP.FAULT.erase : Ref := ⟨0x5A020, 1, 1, false⟩
def TAMP.FAULT.alarm : Ref := ⟨0x5A020, 0, 1, false⟩
-- PWR.IRQRAW block bits (R532)
def PWR.IRQRAW.cnt_ovf : Ref := ⟨0x1014, 8, 1, false⟩
def PWR.IRQRAW.cnt_event : Ref := ⟨0x1014, 7, 1, false⟩
def PWR.IRQRAW.restore_done : Ref := ⟨0x1014, 6, 1, false⟩
def PWR.IRQRAW.save_done : Ref := ⟨0x1014, 5, 1, false⟩
def PWR.IRQRAW.gov_over : Ref := ⟨0x1014, 4, 1, false⟩
def PWR.IRQRAW.vdda_low : Ref := ⟨0x1014, 3, 1, false⟩
def PWR.IRQRAW.core_warn : Ref := ⟨0x1014, 2, 1, false⟩
def PWR.IRQRAW.level_up : Ref := ⟨0x1014, 1, 1, false⟩
def PWR.IRQRAW.level_down : Ref := ⟨0x1014, 0, 1, false⟩
-- PWR.FAULT block bits (R532)
def PWR.FAULT.domain : Ref := ⟨0x1020, 2, 1, false⟩
def PWR.FAULT.vdda : Ref := ⟨0x1020, 1, 1, false⟩
def PWR.FAULT.holdup : Ref := ⟨0x1020, 0, 1, false⟩
-- CLK.IRQRAW block bits (R560)
def CLK.IRQRAW.cnt_ovf : Ref := ⟨0x2014, 3, 1, false⟩
def CLK.IRQRAW.apll_unlock : Ref := ⟨0x2014, 2, 1, false⟩
def CLK.IRQRAW.pll_unlock : Ref := ⟨0x2014, 1, 1, false⟩
def CLK.IRQRAW.hfxo_fail : Ref := ⟨0x2014, 0, 1, false⟩
-- CLK.FAULT block bits (R560)
def CLK.FAULT.strap : Ref := ⟨0x2020, 2, 1, false⟩
def CLK.FAULT.pll : Ref := ⟨0x2020, 1, 1, false⟩
def CLK.FAULT.hfxo : Ref := ⟨0x2020, 0, 1, false⟩
-- RST.IRQRAW block bits (R561)
def RST.IRQRAW.released : Ref := ⟨0x3014, 0, 1, false⟩
-- RST.FAULT block bits (R561)
def RST.FAULT.clkfail : Ref := ⟨0x3020, 1, 1, false⟩
def RST.FAULT.notres : Ref := ⟨0x3020, 0, 1, false⟩
-- LAP.IRQRAW block bits (R562)
def LAP.IRQRAW.cnt_ovf : Ref := ⟨0x4014, 2, 1, false⟩
def LAP.IRQRAW.wake : Ref := ⟨0x4014, 1, 1, false⟩
def LAP.IRQRAW.overrun : Ref := ⟨0x4014, 0, 1, false⟩
-- LAP.FAULT block bits (R562)
def LAP.FAULT.lead : Ref := ⟨0x4020, 0, 1, false⟩
-- page header (R41), p the page number
def HDR.PAGEID (p : Nat) : Ref := ⟨0x1000 * p + 0x0, 0, 32, false⟩
def HDR.PAGEVER (p : Nat) : Ref := ⟨0x1000 * p + 0x4, 0, 32, false⟩
def HDR.CAPS (p : Nat) : Ref := ⟨0x1000 * p + 0x8, 0, 32, false⟩
def HDR.CAPS.shadowed (p : Nat) : Ref := ⟨0x1000 * p + 0x8, 31, 1, false⟩
def HDR.CAPS.lockable (p : Nat) : Ref := ⟨0x1000 * p + 0x8, 30, 1, false⟩
def HDR.CAPS.shend (p : Nat) : Ref := ⟨0x1000 * p + 0x8, 0, 12, false⟩
def HDR.CTL (p : Nat) : Ref := ⟨0x1000 * p + 0xC, 0, 32, false⟩
def HDR.CTL.revert (p : Nat) : Ref := ⟨0x1000 * p + 0xC, 3, 1, false⟩
def HDR.CTL.breset (p : Nat) : Ref := ⟨0x1000 * p + 0xC, 2, 1, false⟩
def HDR.CTL.qreq (p : Nat) : Ref := ⟨0x1000 * p + 0xC, 1, 1, false⟩
def HDR.CTL.enable (p : Nat) : Ref := ⟨0x1000 * p + 0xC, 0, 1, false⟩
def HDR.STAT (p : Nat) : Ref := ⟨0x1000 * p + 0x10, 0, 32, false⟩
def HDR.STAT.locked (p : Nat) : Ref := ⟨0x1000 * p + 0x10, 5, 1, false⟩
def HDR.STAT.shadow_dirty (p : Nat) : Ref := ⟨0x1000 * p + 0x10, 4, 1, false⟩
def HDR.STAT.fault (p : Nat) : Ref := ⟨0x1000 * p + 0x10, 3, 1, false⟩
def HDR.STAT.busy (p : Nat) : Ref := ⟨0x1000 * p + 0x10, 2, 1, false⟩
def HDR.STAT.idle (p : Nat) : Ref := ⟨0x1000 * p + 0x10, 1, 1, false⟩
def HDR.STAT.enabled (p : Nat) : Ref := ⟨0x1000 * p + 0x10, 0, 1, false⟩
def HDR.IRQRAW (p : Nat) : Ref := ⟨0x1000 * p + 0x14, 0, 32, false⟩
def HDR.IRQRAW.commit_done (p : Nat) : Ref := ⟨0x1000 * p + 0x14, 31, 1, false⟩
def HDR.IRQRAW.commit_refused (p : Nat) : Ref := ⟨0x1000 * p + 0x14, 30, 1, false⟩
def HDR.IRQRAW.fault_set (p : Nat) : Ref := ⟨0x1000 * p + 0x14, 29, 1, false⟩
def HDR.IRQEN (p : Nat) : Ref := ⟨0x1000 * p + 0x18, 0, 32, false⟩
def HDR.IRQEN.en (p : Nat) : Ref := ⟨0x1000 * p + 0x18, 0, 32, false⟩
def HDR.IRQSTAT (p : Nat) : Ref := ⟨0x1000 * p + 0x1C, 0, 32, false⟩
def HDR.IRQSTAT.stat (p : Nat) : Ref := ⟨0x1000 * p + 0x1C, 0, 32, false⟩
def HDR.FAULT (p : Nat) : Ref := ⟨0x1000 * p + 0x20, 0, 32, false⟩
def HDR.FAULT.crc (p : Nat) : Ref := ⟨0x1000 * p + 0x20, 31, 1, false⟩
def HDR.FAULT.invalid (p : Nat) : Ref := ⟨0x1000 * p + 0x20, 30, 1, false⟩
def HDR.FAULT.qtimeout (p : Nat) : Ref := ⟨0x1000 * p + 0x20, 29, 1, false⟩
def HDR.FAULTINFO (p : Nat) : Ref := ⟨0x1000 * p + 0x24, 0, 32, false⟩
def HDR.FAULTINFO.detail (p : Nat) : Ref := ⟨0x1000 * p + 0x24, 16, 16, false⟩
def HDR.FAULTINFO.code (p : Nat) : Ref := ⟨0x1000 * p + 0x24, 0, 16, false⟩
def HDR.SHCRC (p : Nat) : Ref := ⟨0x1000 * p + 0x28, 0, 32, false⟩
def HDR.SHCRC.crc (p : Nat) : Ref := ⟨0x1000 * p + 0x28, 0, 32, false⟩
def HDR.COMMIT (p : Nat) : Ref := ⟨0x1000 * p + 0x2C, 0, 32, false⟩
def HDR.COMMIT.state (p : Nat) : Ref := ⟨0x1000 * p + 0x2C, 16, 3, false⟩
def HDR.COMMIT.key (p : Nat) : Ref := ⟨0x1000 * p + 0x2C, 0, 16, false⟩
def HDR.LOCK (p : Nat) : Ref := ⟨0x1000 * p + 0x30, 0, 32, false⟩
def HDR.LOCK.key (p : Nat) : Ref := ⟨0x1000 * p + 0x30, 16, 16, false⟩
def HDR.LOCK.locked (p : Nat) : Ref := ⟨0x1000 * p + 0x30, 0, 1, false⟩
def HDR.DOMAIN (p : Nat) : Ref := ⟨0x1000 * p + 0x34, 0, 32, false⟩
def HDR.DOMAIN.second (p : Nat) : Ref := ⟨0x1000 * p + 0x34, 4, 4, false⟩
def HDR.DOMAIN.primary (p : Nat) : Ref := ⟨0x1000 * p + 0x34, 0, 4, false⟩
def HDR.QTIMEOUT (p : Nat) : Ref := ⟨0x1000 * p + 0x38, 0, 32, false⟩
def HDR.QTIMEOUT.timeout_us (p : Nat) : Ref := ⟨0x1000 * p + 0x38, 0, 14, false⟩
def HDR.SCRATCH (p : Nat) : Ref := ⟨0x1000 * p + 0x3C, 0, 32, false⟩
def HDR.SCRATCH.data (p : Nat) : Ref := ⟨0x1000 * p + 0x3C, 0, 32, false⟩
-- table entry AFE.CTX
def AFE.CTX.enable (n : Nat) (k : Nat) : Ref := ⟨0x100000 + 0x1000 * (n % 8) + 0x40 * (k % 20), 31, 1, true⟩
def AFE.CTX.essential (n : Nat) (k : Nat) : Ref := ⟨0x100000 + 0x1000 * (n % 8) + 0x40 * (k % 20), 30, 1, true⟩
def AFE.CTX.scan_class (n : Nat) (k : Nat) : Ref := ⟨0x100000 + 0x1000 * (n % 8) + 0x40 * (k % 20), 29, 1, true⟩
def AFE.CTX.routine_n (n : Nat) (k : Nat) : Ref := ⟨0x100000 + 0x1000 * (n % 8) + 0x40 * (k % 20), 21, 8, true⟩
def AFE.CTX.bias_en (n : Nat) (k : Nat) : Ref := ⟨0x100000 + 0x1000 * (n % 8) + 0x40 * (k % 20), 20, 1, true⟩
def AFE.CTX.rate (n : Nat) (k : Nat) : Ref := ⟨0x100000 + 0x1000 * (n % 8) + 0x40 * (k % 20), 14, 3, true⟩
def AFE.CTX.gain (n : Nat) (k : Nat) : Ref := ⟨0x100000 + 0x1000 * (n % 8) + 0x40 * (k % 20), 11, 3, true⟩
def AFE.CTX.lead_mode (n : Nat) (k : Nat) : Ref := ⟨0x100000 + 0x1000 * (n % 8) + 0x40 * (k % 20), 9, 2, true⟩
def AFE.CTX.type_ (n : Nat) (k : Nat) : Ref := ⟨0x100000 + 0x1000 * (n % 8) + 0x40 * (k % 20), 4, 4, true⟩
def AFE.CTX.exc_n (n : Nat) (k : Nat) : Ref := ⟨0x100004 + 0x1000 * (n % 8) + 0x40 * (k % 20), 16, 9, true⟩
def AFE.CTX.exc_p (n : Nat) (k : Nat) : Ref := ⟨0x100004 + 0x1000 * (n % 8) + 0x40 * (k % 20), 0, 9, true⟩
def AFE.CTX.sns_n (n : Nat) (k : Nat) : Ref := ⟨0x100008 + 0x1000 * (n % 8) + 0x40 * (k % 20), 16, 9, true⟩
def AFE.CTX.sns_p (n : Nat) (k : Nat) : Ref := ⟨0x100008 + 0x1000 * (n % 8) + 0x40 * (k % 20), 0, 9, true⟩
def AFE.CTX.lead (n : Nat) (k : Nat) : Ref := ⟨0x10000C + 0x1000 * (n % 8) + 0x40 * (k % 20), 0, 9, true⟩
def AFE.CTX.settle (n : Nat) (k : Nat) : Ref := ⟨0x100010 + 0x1000 * (n % 8) + 0x40 * (k % 20), 16, 14, true⟩
def AFE.CTX.src (n : Nat) (k : Nat) : Ref := ⟨0x100010 + 0x1000 * (n % 8) + 0x40 * (k % 20), 12, 2, true⟩
def AFE.CTX.iex (n : Nat) (k : Nat) : Ref := ⟨0x100010 + 0x1000 * (n % 8) + 0x40 * (k % 20), 0, 12, true⟩
def AFE.CTX.lead_filt (n : Nat) (k : Nat) : Ref := ⟨0x100014 + 0x1000 * (n % 8) + 0x40 * (k % 20), 24, 3, true⟩
def AFE.CTX.lead_k (n : Nat) (k : Nat) : Ref := ⟨0x100014 + 0x1000 * (n % 8) + 0x40 * (k % 20), 16, 8, true⟩
def AFE.CTX.navg (n : Nat) (k : Nat) : Ref := ⟨0x100014 + 0x1000 * (n % 8) + 0x40 * (k % 20), 0, 16, true⟩
def AFE.CTX.lead_trim (n : Nat) (k : Nat) : Ref := ⟨0x100018 + 0x1000 * (n % 8) + 0x40 * (k % 20), 0, 32, true⟩
def AFE.CTX.tref (n : Nat) (k : Nat) : Ref := ⟨0x10001C + 0x1000 * (n % 8) + 0x40 * (k % 20), 16, 10, true⟩
def AFE.CTX.alpha (n : Nat) (k : Nat) : Ref := ⟨0x10001C + 0x1000 * (n % 8) + 0x40 * (k % 20), 0, 16, true⟩
def AFE.CTX.trim_t (n : Nat) (k : Nat) : Ref := ⟨0x100020 + 0x1000 * (n % 8) + 0x40 * (k % 20), 0, 32, true⟩
def AFE.CTX.short_thr (n : Nat) (k : Nat) : Ref := ⟨0x100024 + 0x1000 * (n % 8) + 0x40 * (k % 20), 16, 16, true⟩
def AFE.CTX.lead_tol (n : Nat) (k : Nat) : Ref := ⟨0x100024 + 0x1000 * (n % 8) + 0x40 * (k % 20), 0, 16, true⟩
def AFE.CTX.conversion (n : Nat) (k : Nat) (i : Nat) : Ref := ⟨0x100028 + 0x1000 * (n % 8) + 0x40 * (k % 20) + 4 * (i % 6), 0, 32, true⟩
def AFE.CTX.ne43 (n : Nat) (k : Nat) : Ref := ⟨0x100028 + 0x1000 * (n % 8) + 0x40 * (k % 20), 31, 1, true⟩
def AFE.CTX.cj_mode (n : Nat) (k : Nat) : Ref := ⟨0x100028 + 0x1000 * (n % 8) + 0x40 * (k % 20), 29, 2, true⟩
def AFE.CTX.slot (n : Nat) (k : Nat) : Ref := ⟨0x100028 + 0x1000 * (n % 8) + 0x40 * (k % 20), 24, 5, true⟩
def AFE.CTX.lin (n : Nat) (k : Nat) : Ref := ⟨0x100028 + 0x1000 * (n % 8) + 0x40 * (k % 20), 20, 4, true⟩
def AFE.CTX.exp (n : Nat) (k : Nat) : Ref := ⟨0x100028 + 0x1000 * (n % 8) + 0x40 * (k % 20), 16, 4, true⟩
def AFE.CTX.unit (n : Nat) (k : Nat) : Ref := ⟨0x100028 + 0x1000 * (n % 8) + 0x40 * (k % 20), 8, 8, true⟩
def AFE.CTX.a_shift (n : Nat) (k : Nat) : Ref := ⟨0x100028 + 0x1000 * (n % 8) + 0x40 * (k % 20), 0, 6, true⟩
def AFE.CTX.a_lo (n : Nat) (k : Nat) : Ref := ⟨0x10002C + 0x1000 * (n % 8) + 0x40 * (k % 20), 0, 32, true⟩
def AFE.CTX.a_hi (n : Nat) (k : Nat) : Ref := ⟨0x100030 + 0x1000 * (n % 8) + 0x40 * (k % 20), 0, 32, true⟩
def AFE.CTX.b_lo (n : Nat) (k : Nat) : Ref := ⟨0x100034 + 0x1000 * (n % 8) + 0x40 * (k % 20), 0, 32, true⟩
def AFE.CTX.b_hi (n : Nat) (k : Nat) : Ref := ⟨0x100038 + 0x1000 * (n % 8) + 0x40 * (k % 20), 0, 32, true⟩
def AFE.CTX.tau (n : Nat) (k : Nat) : Ref := ⟨0x10003C + 0x1000 * (n % 8) + 0x40 * (k % 20), 16, 16, true⟩
def AFE.CTX.lead_unc (n : Nat) (k : Nat) : Ref := ⟨0x10003C + 0x1000 * (n % 8) + 0x40 * (k % 20), 0, 16, true⟩
-- table entry ALM.CTXA
def ALM.CTXA.enable (k : Nat) : Ref := ⟨0x120000 + 0x40 * (k % 1024), 31, 1, true⟩
def ALM.CTXA.category (k : Nat) : Ref := ⟨0x120000 + 0x40 * (k % 1024), 28, 3, true⟩
def ALM.CTXA.src_type (k : Nat) : Ref := ⟨0x120000 + 0x40 * (k % 1024), 25, 3, true⟩
def ALM.CTXA.kind (k : Nat) : Ref := ⟨0x120000 + 0x40 * (k % 1024), 22, 3, true⟩
def ALM.CTXA.basis (k : Nat) : Ref := ⟨0x120000 + 0x40 * (k % 1024), 20, 2, true⟩
def ALM.CTXA.pcaution (k : Nat) : Ref := ⟨0x120000 + 0x40 * (k % 1024), 19, 1, true⟩
def ALM.CTXA.latch (k : Nat) : Ref := ⟨0x120000 + 0x40 * (k % 1024), 18, 1, true⟩
def ALM.CTXA.shelve_ok (k : Nat) : Ref := ⟨0x120000 + 0x40 * (k % 1024), 17, 1, true⟩
def ALM.CTXA.group (k : Nat) : Ref := ⟨0x120000 + 0x40 * (k % 1024), 11, 6, true⟩
def ALM.CTXA.sup_en (k : Nat) : Ref := ⟨0x120000 + 0x40 * (k % 1024), 10, 1, true⟩
def ALM.CTXA.sup (k : Nat) : Ref := ⟨0x120000 + 0x40 * (k % 1024), 5, 5, true⟩
def ALM.CTXA.src (k : Nat) : Ref := ⟨0x120004 + 0x40 * (k % 1024), 22, 10, true⟩
def ALM.CTXA.ref (k : Nat) : Ref := ⟨0x120004 + 0x40 * (k % 1024), 12, 10, true⟩
def ALM.CTXA.exp (k : Nat) : Ref := ⟨0x120004 + 0x40 * (k % 1024), 8, 4, true⟩
def ALM.CTXA.opt (k : Nat) : Ref := ⟨0x120004 + 0x40 * (k % 1024), 0, 8, true⟩
def ALM.CTXA.limit (k : Nat) : Ref := ⟨0x120008 + 0x40 * (k % 1024), 0, 32, true⟩
def ALM.CTXA.deadband (k : Nat) : Ref := ⟨0x12000C + 0x40 * (k % 1024), 0, 31, true⟩
def ALM.CTXA.fault_n (k : Nat) : Ref := ⟨0x120010 + 0x40 * (k % 1024), 24, 7, true⟩
def ALM.CTXA.miss_n (k : Nat) : Ref := ⟨0x120010 + 0x40 * (k % 1024), 16, 7, true⟩
def ALM.CTXA.aux (k : Nat) : Ref := ⟨0x120010 + 0x40 * (k % 1024), 0, 16, true⟩
def ALM.CTXA.on_delay (k : Nat) : Ref := ⟨0x120014 + 0x40 * (k % 1024), 0, 19, true⟩
def ALM.CTXA.off_delay (k : Nat) : Ref := ⟨0x120018 + 0x40 * (k % 1024), 0, 19, true⟩
def ALM.CTXA.tag (k : Nat) : Ref := ⟨0x12001C + 0x40 * (k % 1024), 0, 16, true⟩
def ALM.CTXA.state (k : Nat) : Ref := ⟨0x120020 + 0x40 * (k % 1024), 29, 3, false⟩
def ALM.CTXA.cond (k : Nat) : Ref := ⟨0x120020 + 0x40 * (k % 1024), 28, 1, false⟩
def ALM.CTXA.q (k : Nat) : Ref := ⟨0x120020 + 0x40 * (k % 1024), 27, 1, false⟩
def ALM.CTXA.caution (k : Nat) : Ref := ⟨0x120020 + 0x40 * (k % 1024), 26, 1, false⟩
def ALM.CTXA.sf_unack (k : Nat) : Ref := ⟨0x120020 + 0x40 * (k % 1024), 25, 1, false⟩
def ALM.CTXA.latched (k : Nat) : Ref := ⟨0x120020 + 0x40 * (k % 1024), 24, 1, false⟩
def ALM.CTXA.occurrence (k : Nat) : Ref := ⟨0x120020 + 0x40 * (k % 1024), 16, 8, false⟩
def ALM.CTXA.false_starts (k : Nat) : Ref := ⟨0x120020 + 0x40 * (k % 1024), 8, 8, false⟩
def ALM.CTXA.fs_ovf (k : Nat) : Ref := ⟨0x120020 + 0x40 * (k % 1024), 7, 1, false⟩
def ALM.CTXA.process (k : Nat) : Ref := ⟨0x120020 + 0x40 * (k % 1024), 4, 3, false⟩
def ALM.CTXA.layers (k : Nat) : Ref := ⟨0x120020 + 0x40 * (k % 1024), 0, 4, false⟩
def ALM.CTXA.inv_ovf (k : Nat) : Ref := ⟨0x120024 + 0x40 * (k % 1024), 31, 1, false⟩
def ALM.CTXA.inv_cnt (k : Nat) : Ref := ⟨0x120024 + 0x40 * (k % 1024), 24, 7, false⟩
def ALM.CTXA.miss_ovf (k : Nat) : Ref := ⟨0x120024 + 0x40 * (k % 1024), 23, 1, false⟩
def ALM.CTXA.miss_cnt (k : Nat) : Ref := ⟨0x120024 + 0x40 * (k % 1024), 16, 7, false⟩
def ALM.CTXA.t_timer (k : Nat) : Ref := ⟨0x120028 + 0x40 * (k % 1024), 0, 48, false⟩
def ALM.CTXA.t_onset (k : Nat) : Ref := ⟨0x120030 + 0x40 * (k % 1024), 0, 48, false⟩
def ALM.CTXA.shelve_left (k : Nat) : Ref := ⟨0x120038 + 0x40 * (k % 1024), 0, 24, false⟩
def ALM.CTXA.last_v (k : Nat) : Ref := ⟨0x12003C + 0x40 * (k % 1024), 0, 32, false⟩
-- table entry ALM.GRP
def ALM.GRP.enable (k : Nat) : Ref := ⟨0x130000 + 0x20 * (k % 64), 31, 1, true⟩
def ALM.GRP.horn (k : Nat) : Ref := ⟨0x130000 + 0x20 * (k % 64), 24, 7, true⟩
def ALM.GRP.lamp (k : Nat) : Ref := ⟨0x130000 + 0x20 * (k % 64), 17, 7, true⟩
def ALM.GRP.ackin (k : Nat) : Ref := ⟨0x130000 + 0x20 * (k % 64), 10, 7, true⟩
def ALM.GRP.horn_cat (k : Nat) : Ref := ⟨0x130000 + 0x20 * (k % 64), 6, 4, true⟩
def ALM.GRP.lamp_cat (k : Nat) : Ref := ⟨0x130000 + 0x20 * (k % 64), 2, 4, true⟩
def ALM.GRP.fo_auto (k : Nat) : Ref := ⟨0x130000 + 0x20 * (k % 64), 1, 1, true⟩
def ALM.GRP.tag (k : Nat) : Ref := ⟨0x130004 + 0x20 * (k % 64), 0, 16, true⟩
def ALM.GRP.au (k : Nat) : Ref := ⟨0x130008 + 0x20 * (k % 64), 16, 11, false⟩
def ALM.GRP.aa (k : Nat) : Ref := ⟨0x130008 + 0x20 * (k % 64), 0, 11, false⟩
def ALM.GRP.nu (k : Nat) : Ref := ⟨0x13000C + 0x20 * (k % 64), 16, 11, false⟩
def ALM.GRP.sf (k : Nat) : Ref := ⟨0x13000C + 0x20 * (k % 64), 0, 11, false⟩
def ALM.GRP.sh (k : Nat) : Ref := ⟨0x130010 + 0x20 * (k % 64), 16, 11, false⟩
def ALM.GRP.su (k : Nat) : Ref := ⟨0x130010 + 0x20 * (k % 64), 0, 11, false⟩
def ALM.GRP.horn_on (k : Nat) : Ref := ⟨0x130014 + 0x20 * (k % 64), 31, 1, false⟩
def ALM.GRP.silenced (k : Nat) : Ref := ⟨0x130014 + 0x20 * (k % 64), 30, 1, false⟩
def ALM.GRP.lamp_st (k : Nat) : Ref := ⟨0x130014 + 0x20 * (k % 64), 28, 2, false⟩
def ALM.GRP.fo_valid (k : Nat) : Ref := ⟨0x130014 + 0x20 * (k % 64), 27, 1, false⟩
def ALM.GRP.shed (k : Nat) : Ref := ⟨0x130014 + 0x20 * (k % 64), 26, 1, false⟩
def ALM.GRP.fo_ctx (k : Nat) : Ref := ⟨0x130014 + 0x20 * (k % 64), 0, 10, false⟩
def ALM.GRP.fo_onset (k : Nat) : Ref := ⟨0x130018 + 0x20 * (k % 64), 0, 48, false⟩
-- table entry CALL.ROSTER
def CALL.ROSTER.enable (k : Nat) : Ref := ⟨0x140000 + 0x40 * (k % 16), 31, 1, true⟩
def CALL.ROSTER.available (k : Nat) : Ref := ⟨0x140000 + 0x40 * (k % 16), 30, 1, true⟩
def CALL.ROSTER.tag (k : Nat) : Ref := ⟨0x140000 + 0x40 * (k % 16), 0, 16, true⟩
def CALL.ROSTER.cps (k : Nat) : Ref := ⟨0x140004 + 0x40 * (k % 16), 0, 32, true⟩
def CALL.ROSTER.name (k : Nat) (i : Nat) : Ref := ⟨0x140008 + 0x40 * (k % 16) + 4 * (i % 4), 0, 32, true⟩
-- table entry CALL.CP
def CALL.CP.enable (k : Nat) : Ref := ⟨0x140400 + 0x20 * (k % 32), 31, 1, true⟩
def CALL.CP.kind (k : Nat) : Ref := ⟨0x140400 + 0x20 * (k % 32), 29, 2, true⟩
def CALL.CP.public (k : Nat) : Ref := ⟨0x140400 + 0x20 * (k % 32), 28, 1, true⟩
def CALL.CP.officer (k : Nat) : Ref := ⟨0x140400 + 0x20 * (k % 32), 27, 1, true⟩
def CALL.CP.watch (k : Nat) : Ref := ⟨0x140400 + 0x20 * (k % 32), 26, 1, true⟩
def CALL.CP.out_pin (k : Nat) : Ref := ⟨0x140400 + 0x20 * (k % 32), 16, 6, true⟩
def CALL.CP.ack_pin (k : Nat) : Ref := ⟨0x140400 + 0x20 * (k % 32), 8, 6, true⟩
def CALL.CP.nid (k : Nat) : Ref := ⟨0x140404 + 0x20 * (k % 32), 16, 10, true⟩
def CALL.CP.panel (k : Nat) : Ref := ⟨0x140404 + 0x20 * (k % 32), 0, 8, true⟩
def CALL.CP.tag (k : Nat) : Ref := ⟨0x140408 + 0x20 * (k % 32), 0, 16, true⟩
-- table entry UIO.ENT
def UIO.ENT.essential (k : Nat) : Ref := ⟨0x150000 + 0x40 * (k % 8), 31, 1, true⟩
def UIO.ENT.mode (k : Nat) : Ref := ⟨0x150000 + 0x40 * (k % 8), 24, 4, true⟩
def UIO.ENT.fail_act (k : Nat) : Ref := ⟨0x150000 + 0x40 * (k % 8), 22, 2, true⟩
def UIO.ENT.src (k : Nat) : Ref := ⟨0x150000 + 0x40 * (k % 8), 20, 2, true⟩
def UIO.ENT.flt_act (k : Nat) : Ref := ⟨0x150000 + 0x40 * (k % 8), 19, 1, true⟩
def UIO.ENT.ne43 (k : Nat) : Ref := ⟨0x150000 + 0x40 * (k % 8), 18, 1, true⟩
def UIO.ENT.inv_act (k : Nat) : Ref := ⟨0x150000 + 0x40 * (k % 8), 17, 1, true⟩
def UIO.ENT.ref (k : Nat) : Ref := ⟨0x150000 + 0x40 * (k % 8), 0, 10, true⟩
def UIO.ENT.fail_val (k : Nat) : Ref := ⟨0x150004 + 0x40 * (k % 8), 0, 32, true⟩
def UIO.ENT.m0 (k : Nat) : Ref := ⟨0x150008 + 0x40 * (k % 8), 0, 32, true⟩
def UIO.ENT.m1 (k : Nat) : Ref := ⟨0x15000C + 0x40 * (k % 8), 0, 32, true⟩
def UIO.ENT.o0 (k : Nat) : Ref := ⟨0x150010 + 0x40 * (k % 8), 0, 32, true⟩
def UIO.ENT.o1 (k : Nat) : Ref := ⟨0x150014 + 0x40 * (k % 8), 0, 32, true⟩
def UIO.ENT.exp (k : Nat) : Ref := ⟨0x150018 + 0x40 * (k % 8), 16, 4, true⟩
def UIO.ENT.unit (k : Nat) : Ref := ⟨0x150018 + 0x40 * (k % 8), 8, 8, true⟩
def UIO.ENT.a_shift (k : Nat) : Ref := ⟨0x150018 + 0x40 * (k % 8), 0, 6, true⟩
def UIO.ENT.a_lo (k : Nat) : Ref := ⟨0x15001C + 0x40 * (k % 8), 0, 32, true⟩
def UIO.ENT.a_hi (k : Nat) : Ref := ⟨0x150020 + 0x40 * (k % 8), 0, 32, true⟩
def UIO.ENT.b_lo (k : Nat) : Ref := ⟨0x150024 + 0x40 * (k % 8), 0, 32, true⟩
def UIO.ENT.b_hi (k : Nat) : Ref := ⟨0x150028 + 0x40 * (k % 8), 0, 32, true⟩
def UIO.ENT.win_lo (k : Nat) : Ref := ⟨0x15002C + 0x40 * (k % 8), 16, 16, true⟩
def UIO.ENT.win_hi (k : Nat) : Ref := ⟨0x15002C + 0x40 * (k % 8), 0, 16, true⟩
-- table entry DIO.PIN
def DIO.PIN.essential (k : Nat) : Ref := ⟨0x151000 + 0x20 * (k % 48), 31, 1, true⟩
def DIO.PIN.dir (k : Nat) : Ref := ⟨0x151000 + 0x20 * (k % 48), 29, 2, true⟩
def DIO.PIN.itype (k : Nat) : Ref := ⟨0x151000 + 0x20 * (k % 48), 28, 1, true⟩
def DIO.PIN.src (k : Nat) : Ref := ⟨0x151000 + 0x20 * (k % 48), 26, 2, true⟩
def DIO.PIN.fail_act (k : Nat) : Ref := ⟨0x151000 + 0x20 * (k % 48), 24, 2, true⟩
def DIO.PIN.pol (k : Nat) : Ref := ⟨0x151000 + 0x20 * (k % 48), 23, 1, true⟩
def DIO.PIN.wb_en (k : Nat) : Ref := ⟨0x151000 + 0x20 * (k % 48), 22, 1, true⟩
def DIO.PIN.ol_en (k : Nat) : Ref := ⟨0x151000 + 0x20 * (k % 48), 21, 1, true⟩
def DIO.PIN.wake (k : Nat) : Ref := ⟨0x151000 + 0x20 * (k % 48), 20, 1, true⟩
def DIO.PIN.gsize (k : Nat) : Ref := ⟨0x151000 + 0x20 * (k % 48), 18, 2, true⟩
def DIO.PIN.invert (k : Nat) : Ref := ⟨0x151000 + 0x20 * (k % 48), 17, 1, true⟩
def DIO.PIN.ref (k : Nat) : Ref := ⟨0x151000 + 0x20 * (k % 48), 0, 10, true⟩
def DIO.PIN.thr (k : Nat) : Ref := ⟨0x151004 + 0x20 * (k % 48), 16, 16, true⟩
def DIO.PIN.lo (k : Nat) : Ref := ⟨0x151004 + 0x20 * (k % 48), 0, 16, true⟩
def DIO.PIN.retry_ms (k : Nat) : Ref := ⟨0x151008 + 0x20 * (k % 48), 16, 16, true⟩
def DIO.PIN.div (k : Nat) : Ref := ⟨0x151008 + 0x20 * (k % 48), 0, 10, true⟩
def DIO.PIN.test_ms (k : Nat) : Ref := ⟨0x15100C + 0x20 * (k % 48), 16, 16, true⟩
def DIO.PIN.tag (k : Nat) : Ref := ⟨0x15100C + 0x20 * (k % 48), 0, 16, true⟩
-- table entry MSG.ROUTE
def MSG.ROUTE.enable (k : Nat) : Ref := ⟨0x160000 + 0x40 * (k % 32), 31, 1, true⟩
def MSG.ROUTE.side (k : Nat) : Ref := ⟨0x160000 + 0x40 * (k % 32), 30, 1, true⟩
def MSG.ROUTE.hops (k : Nat) : Ref := ⟨0x160000 + 0x40 * (k % 32), 28, 2, true⟩
def MSG.ROUTE.fwd (k : Nat) : Ref := ⟨0x160000 + 0x40 * (k % 32), 16, 8, true⟩
def MSG.ROUTE.next (k : Nat) : Ref := ⟨0x160000 + 0x40 * (k % 32), 0, 10, true⟩
-- table entry REC.HIST
def REC.HIST.enable (k : Nat) : Ref := ⟨0x170000 + 0x80 * (k % 160), 31, 1, true⟩
def REC.HIST.exp (k : Nat) : Ref := ⟨0x170000 + 0x80 * (k % 160), 0, 4, true⟩
def REC.HIST.edge_k (k : Nat) (i : Nat) : Ref := ⟨0x170004 + 0x80 * (k % 160) + 4 * (i % 31), 0, 32, true⟩
-- table entry REC.CLS
def REC.CLS.enable (k : Nat) : Ref := ⟨0x178000 + 0x10 * (k % 64), 31, 1, true⟩
def REC.CLS.burst (k : Nat) : Ref := ⟨0x178000 + 0x10 * (k % 64), 16, 8, true⟩
def REC.CLS.refill_ms (k : Nat) : Ref := ⟨0x178000 + 0x10 * (k % 64), 0, 16, true⟩
def REC.CLS.suppressed (k : Nat) : Ref := ⟨0x178008 + 0x10 * (k % 64), 8, 24, false⟩
def REC.CLS.tokens (k : Nat) : Ref := ⟨0x178008 + 0x10 * (k % 64), 0, 8, false⟩
def REC.CLS.sup_ovf (k : Nat) : Ref := ⟨0x17800C + 0x10 * (k % 64), 0, 1, false⟩

end Sys2Proof.Machine
end

