-- ==== Sys2Proof/Config.lean ====
section
/-!
DEFINITION. What the spec leaves open: constants without a body, so that nothing can be proved of their values. A draw is
numbered by the counter of free values that State holds (notes/assumptions/3.md).
-/

namespace Sys2Proof

/-- A value the spec leaves open, by the number of the draw.
(DESIGN CHOICE, notes/assumptions/3.md.) -/
opaque Config.free : Nat → Nat

/-- The byte at a store offset whose content a cut program or erase left undefined (R440), by the number of the draw.
(DESIGN CHOICE, notes/assumptions/59.md.) -/
opaque Config.freeByte : Nat → Nat → BitVec 8

/-- The quotient that stage 2 forms where the divisor is zero (R132): the spec states none.
(DESIGN CHOICE, notes/assumptions/31.md.) -/
opaque Config.quotientByZero : Int → Int

/-- The value of a record with an NE 43 signal fault whose curve slot is no curve (R142, R153): the spec states none.
(DESIGN CHOICE, notes/assumptions/76.md.) -/
opaque Config.curvelessValue : Int → Int

/-- The standard uncertainty in 2^-16 ppm of a certified value that no calibration store gives (R196).
(DESIGN CHOICE, notes/assumptions/31.md.) -/
opaque Config.nominalUncertainty : Nat → Nat

/-- The temperature in mK at which a reference resistor was certified (R164): the store layout of R194 holds none.
(DESIGN CHOICE, notes/assumptions/31.md.) -/
opaque Config.resistorTcert : Nat → Int

/-- Where in the factory data region (R436) the digest of a signer index lies: R490 places both digests in the region and
gives no offset.
(DESIGN CHOICE, notes/assumptions/31.md.) -/
opaque Config.signerDigestAt : Nat → Nat

end Sys2Proof
end

