-- ==== Sys2Proof/Machine/Maps.lean ====
section
/-!
DEFINITION. Sparse stores: a list of addressed values in one canonical form (addresses strictly rising, no entry equal
to what an unlisted address reads as). Register words, the SRAM and the non-volatile store are kept so.
Also small keyed lists, for what an engine keeps per channel, context, pin or entry.
-/

namespace Sys2Proof.Machine

/-- Values by address; `d` is what an unlisted address reads as. -/
abbrev Sparse (α : Type) := List (Nat × α)

/-- The value at an address. -/
def Sparse.get {α : Type} (d : Nat → α) : Sparse α → Nat → α
  | [], a => d a
  | (b, v) :: m, a => if a = b then v else Sparse.get d m a

/-- Writes one value and keeps the canonical form: the value an unlisted address reads as removes the entry. -/
def Sparse.set {α : Type} [DecidableEq α] (d : Nat → α) : Sparse α → Nat → α → Sparse α
  | [], a, v => if v = d a then [] else [(a, v)]
  | (b, w) :: m, a, v =>
    if a < b then (if v = d a then (b, w) :: m else (a, v) :: (b, w) :: m)
    else if a = b then (if v = d a then m else (a, v) :: m)
    else (b, w) :: Sparse.set d m a v

/-- The canonical form, above a lower bound for the first address. -/
def Sparse.wfFrom {α : Type} [DecidableEq α] (d : Nat → α) : Nat → Sparse α → Bool
  | _, [] => true
  | lo, (b, v) :: m => decide (lo ≤ b) && decide (v ≠ d b) && Sparse.wfFrom d (b + 1) m

/-- The canonical form. -/
def Sparse.wf {α : Type} [DecidableEq α] (d : Nat → α) (m : Sparse α) : Bool := Sparse.wfFrom d 0 m

/-- Register words by byte address. -/
abbrev WordMap := Sparse Word

/-- Bytes by address: the SRAM, or the store. -/
abbrev Memory := List Host.Cell

/-- The byte at an address of a memory whose unlisted bytes read as `blank`. -/
def Memory.byte (blank : Byte) (m : Memory) (a : Nat) : Byte := Sparse.get (fun _ => blank) m a

/-- Stores one byte. -/
def Memory.store (blank : Byte) (m : Memory) (a : Nat) (v : Byte) : Memory := Sparse.set (fun _ => blank) m a v

/-- Stores bytes at rising addresses. -/
def Memory.storeAll (blank : Byte) (m : Memory) (a : Nat) : List Byte → Memory
  | [] => m
  | v :: vs => Memory.storeAll blank (Memory.store blank m a v) (a + 1) vs

/-- The bytes at `a` and the `n - 1` addresses after it. -/
def Memory.bytes (blank : Byte) (m : Memory) (a n : Nat) : List Byte :=
  (List.range n).map fun i => Memory.byte blank m (a + i)

/-- The canonical form of a memory. -/
def Memory.wf (blank : Byte) (m : Memory) : Bool := Sparse.wf (fun _ => blank) m

/-- What an engine keeps per key (a channel, a context, a pin): a list of pairs with rising keys. -/
abbrev Keyed (α : Type) := List (Nat × α)

/-- The value of a key, or `d`. -/
def Keyed.get {α : Type} (d : α) : Keyed α → Nat → α
  | [], _ => d
  | (b, v) :: m, k => if k = b then v else Keyed.get d m k

/-- The value of a key, if it is listed. -/
def Keyed.get? {α : Type} : Keyed α → Nat → Option α
  | [], _ => none
  | (b, v) :: m, k => if k = b then some v else Keyed.get? m k

/-- Lists a value under a key, in place of any listed before. -/
def Keyed.put {α : Type} : Keyed α → Nat → α → Keyed α
  | [], k, v => [(k, v)]
  | (b, w) :: m, k, v =>
    if k < b then (k, v) :: (b, w) :: m
    else if k = b then (k, v) :: m
    else (b, w) :: Keyed.put m k v

/-- Removes a key. -/
def Keyed.drop {α : Type} (m : Keyed α) (k : Nat) : Keyed α := m.filter fun e => e.1 != k

/-- A set of numbers (pages, contexts, pins): adds one. -/
def addTo (l : List Nat) (k : Nat) : List Nat := if l.contains k then l else k :: l

/-- A set of numbers: removes one. -/
def dropFrom (l : List Nat) (k : Nat) : List Nat := l.filter fun x => x != k

end Sys2Proof.Machine
end

