-- ==== Sys2Proof/Machine/Bits.lean ====
section
/-!
DEFINITION. Bit fields, two's complement, byte order, and the two checks the manual names: CRC-32 (R49) and CRC-16 (R67).
-/

namespace Sys2Proof.Machine

/-- Bits `lo` to `lo + w - 1` of a number. -/
def getBits (v lo w : Nat) : Nat := v / 2 ^ lo % 2 ^ w

/-- The number with those bits replaced. -/
def putBits (v lo w x : Nat) : Nat := v - getBits v lo w * 2 ^ lo + x % 2 ^ w * 2 ^ lo

/-- One bit as a truth value. -/
def bit (v i : Nat) : Bool := v / 2 ^ i % 2 == 1

/-- A truth value as one bit. -/
def ofBool (b : Bool) : Nat := if b then 1 else 0

/-- Two's complement: the integer that `w` bits spell. -/
def signed (w v : Nat) : Int := if v % 2 ^ w < 2 ^ (w - 1) then (v % 2 ^ w : Nat) else (v % 2 ^ w : Nat) - (2 ^ w : Nat)

/-- Two's complement: the `w` bits that spell an integer. -/
def unsigned (w : Nat) (x : Int) : Nat := (x % (2 ^ w : Nat)).toNat

/-- An integer held to the range of `w` bits two's complement. -/
def clampSigned (w : Nat) (x : Int) : Int :=
  if x < -(2 ^ (w - 1) : Nat) then -(2 ^ (w - 1) : Nat) else if x > (2 ^ (w - 1) : Nat) - 1 then (2 ^ (w - 1) : Nat) - 1 else x

/-- The low `n` bits that are 1, by rising number. -/
def setBits (v n : Nat) : List Nat := (List.range n).filter fun i => bit v i

/-- The number whose bits listed are 1. -/
def bitMask (l : List Nat) : Nat := l.foldl (fun m i => m ||| 2 ^ i) 0

/-- The four bytes of a word, least significant first (R49, R67). -/
def wordBytes (w : Word) : List Byte := (List.range 4).map fun i => BitVec.ofNat 8 (w.toNat / 2 ^ (8 * i))

/-- `n` bytes of a number, least significant first. -/
def bytesLE (n v : Nat) : List Byte := (List.range n).map fun i => BitVec.ofNat 8 (v / 2 ^ (8 * i))

/-- `n` bytes of a number, most significant first. -/
def bytesBE (n v : Nat) : List Byte := (bytesLE n v).reverse

/-- The number bytes spell, least significant first. -/
def ofBytesLE : List Byte → Nat
  | [] => 0
  | b :: bs => b.toNat + 256 * ofBytesLE bs

/-- The number bytes spell, most significant first. -/
def ofBytesBE (l : List Byte) : Nat := ofBytesLE l.reverse

/-- Bytes as words, least significant byte first; a last part of a word is filled with 0. -/
def wordsOfBytes : List Byte → List Word
  | [] => []
  | [a] => [BitVec.ofNat 32 a.toNat]
  | [a, b] => [BitVec.ofNat 32 (a.toNat + 256 * b.toNat)]
  | [a, b, c] => [BitVec.ofNat 32 (a.toNat + 256 * b.toNat + 65536 * c.toNat)]
  | a :: b :: c :: d :: r =>
    BitVec.ofNat 32 (a.toNat + 256 * b.toNat + 65536 * c.toNat + 16777216 * d.toNat) :: wordsOfBytes r

/-- `k` steps of the reflected CRC-32 register. -/
def crc32Bits : Nat → Nat → Nat
  | 0, c => c
  | k + 1, c => crc32Bits k (if c % 2 = 1 then (c / 2) ^^^ 0xEDB88320 else c / 2)

/-- The CRC-32 register after more bytes. -/
def crc32Reg : Nat → List Byte → Nat
  | c, [] => c
  | c, b :: bs => crc32Reg (crc32Bits 8 (c ^^^ b.toNat)) bs

/-- CRC-32 of R49: polynomial 0x04C1_1DB7 reflected, initial value and final XOR 0xFFFF_FFFF. -/
def crc32 (bs : List Byte) : Nat := crc32Reg 0xFFFFFFFF bs ^^^ 0xFFFFFFFF

/-- `k` steps of the CRC-16 register. -/
def crc16Bits : Nat → Nat → Nat
  | 0, c => c
  | k + 1, c => crc16Bits k (if c / 0x8000 % 2 = 1 then (2 * c % 0x10000) ^^^ 0x1021 else 2 * c % 0x10000)

/-- The CRC-16 register after more bytes. -/
def crc16Reg : Nat → List Byte → Nat
  | c, [] => c
  | c, b :: bs => crc16Reg (crc16Bits 8 (c ^^^ (b.toNat * 256))) bs

/-- CRC-16 of R67: polynomial 0x1021, initial value 0xFFFF, no reflection, no final XOR. -/
def crc16 (bs : List Byte) : Nat := crc16Reg 0xFFFF bs

/-- Pieces of at most `n` bytes, `k` of them at most. -/
def pieces (n : Nat) : Nat → List Byte → List (List Byte)
  | 0, _ => []
  | k + 1, l => if l.isEmpty then [] else l.take n :: pieces n k (l.drop n)

end Sys2Proof.Machine
end

