-- ==== Sys2Proof/Machine/RegTable.lean ====
section
/-!
DEFINITION. The access table: for every register of every page its offsets, which of its bits carry which access
code of R45, and its reset value; and the same for every word of a table entry (R40). Bits in no mask are reserved
or RO (R46): a write of them is ignored. WO and W1S bits are actions; they are stored nowhere and read 0.
A reset value the tables give as Page, Variant, Strap or by a rule is 0 here and is formed where it is read.
-/

namespace Sys2Proof.Machine

/-- `count` registers, the first at offset `first`, each `stride` bytes after the one before, with the bits of each
access code and the reset value. -/
structure RegRow where
  first : Nat
  stride : Nat
  count : Nat
  rw : Nat
  rws : Nat
  w1c : Nat
  rc : Nat
  rwl : Nat
  reset : Nat
  deriving DecidableEq, Repr

/-- Rows of SYS. -/
def rowsSYS : List RegRow :=
  [ ⟨0x40, 4, 1, 0x0, 0x0, 0x0, 0x0, 0x0, 0x0⟩
  , ⟨0x44, 4, 1, 0x3, 0x0, 0x0, 0x0, 0x0, 0x0⟩
  , ⟨0x48, 4, 1, 0x0, 0x0, 0x0, 0x0, 0x0, 0x0⟩
  , ⟨0x4C, 4, 1, 0xFFFFFFFF, 0x0, 0x0, 0x0, 0x0, 0xFFFFFFFF⟩
  , ⟨0x50, 4, 1, 0x0, 0x0, 0x0, 0x0, 0x0, 0x0⟩
  , ⟨0x54, 4, 1, 0x0, 0x0, 0x0, 0x0, 0x0, 0x0⟩ ]

/-- Rows of HOST. -/
def rowsHOST : List RegRow :=
  [ ⟨0x40, 4, 1, 0x3, 0x0, 0x0, 0x0, 0x0, 0x2⟩
  , ⟨0x44, 4, 1, 0x0, 0x0, 0x0, 0xFFFFFFFF, 0x0, 0x0⟩
  , ⟨0x48, 4, 1, 0x0, 0x0, 0x0, 0x0, 0x0, 0x0⟩
  , ⟨0x4C, 4, 1, 0x0, 0x0, 0x1, 0x0, 0x0, 0x0⟩
  , ⟨0x50, 4, 1, 0x0, 0x0, 0x0, 0x0, 0x0, 0x0⟩
  , ⟨0x54, 4, 1, 0x0, 0x0, 0x0, 0x0, 0x0, 0x0⟩
  , ⟨0x60, 4, 8, 0x0, 0x0, 0x0, 0x0, 0x0, 0x0⟩
  , ⟨0x80, 4, 8, 0x0, 0x0, 0x0, 0x0, 0x0, 0x0⟩ ]

/-- Rows of AFE. -/
def rowsAFE : List RegRow :=
  [ ⟨0x40, 4, 1, 0x0, 0x1FF03FF, 0x0, 0x0, 0x0, 0x0⟩
  , ⟨0x48, 4, 1, 0x0, 0x0, 0x0, 0x0, 0x0, 0x2⟩
  , ⟨0x4C, 4, 1, 0x0, 0x0, 0x0, 0x0, 0x0, 0x443210⟩
  , ⟨0x50, 4, 1, 0x0, 0x0, 0x0, 0x0, 0x0, 0x0⟩
  , ⟨0x54, 4, 1, 0x0, 0x0, 0x0, 0x0, 0x0, 0x0⟩
  , ⟨0x60, 4, 1, 0x0, 0x0, 0x0, 0x0, 0x0, 0x0⟩
  , ⟨0x64, 4, 1, 0x0, 0x0, 0x0, 0x0, 0x0, 0x0⟩
  , ⟨0x68, 4, 1, 0x0, 0x0, 0x0, 0x0, 0x0, 0x0⟩
  , ⟨0x6C, 4, 1, 0x0, 0x0, 0x0, 0x0, 0x0, 0x0⟩
  , ⟨0x70, 4, 1, 0x0, 0x0, 0xFFFFFFFF, 0x0, 0x0, 0x0⟩
  , ⟨0x74, 4, 1, 0x0, 0x0, 0xFFFF, 0x0, 0x0, 0x0⟩
  , ⟨0x80, 4, 1, 0x0, 0x0, 0x0, 0xFFFFFFFF, 0x0, 0x0⟩
  , ⟨0x84, 4, 1, 0x0, 0x0, 0x0, 0xFFFFFFFF, 0x0, 0x0⟩
  , ⟨0x88, 4, 1, 0x0, 0x0, 0x0, 0xFFFFFFFF, 0x0, 0x0⟩
  , ⟨0x8C, 4, 1, 0x0, 0x0, 0x0, 0xFFFFFFFF, 0x0, 0x0⟩
  , ⟨0x90, 4, 1, 0x0, 0x0, 0xF, 0x0, 0x0, 0x0⟩
  , ⟨0x100, 4, 20, 0x0, 0x0, 0x0, 0x0, 0x0, 0x0⟩ ]

/-- Rows of ARITH. -/
def rowsARITH : List RegRow :=
  [ ⟨0x40, 4, 1, 0x0, 0xFFFFFFFF, 0x0, 0x0, 0x0, 0x200000C8⟩
  , ⟨0x44, 4, 8, 0x0, 0x3FF, 0x0, 0x0, 0x0, 0x3FF⟩
  , ⟨0x80, 4, 1, 0x0, 0x0, 0x0, 0x0, 0x0, 0x0⟩
  , ⟨0x90, 4, 1, 0x3FF, 0x0, 0x0, 0x0, 0x0, 0x0⟩
  , ⟨0x94, 4, 1, 0xFFFFFF, 0x0, 0x0, 0x0, 0x0, 0x0⟩
  , ⟨0x98, 4, 4, 0x0, 0x0, 0x0, 0x0, 0x0, 0x0⟩
  , ⟨0xB0, 4, 1, 0x0, 0x0, 0x0, 0xFFFFFFFF, 0x0, 0x0⟩
  , ⟨0xB4, 4, 1, 0x0, 0x0, 0x0, 0xFFFFFFFF, 0x0, 0x0⟩
  , ⟨0xB8, 4, 1, 0x0, 0x0, 0x0, 0xFFFFFFFF, 0x0, 0x0⟩
  , ⟨0xBC, 4, 1, 0x0, 0x0, 0x0, 0xFFFFFFFF, 0x0, 0x0⟩
  , ⟨0xC0, 4, 1, 0x0, 0x0, 0x0, 0xFFFFFFFF, 0x0, 0x0⟩
  , ⟨0xC4, 4, 1, 0x0, 0x0, 0x0, 0xFFFFFFFF, 0x0, 0x0⟩
  , ⟨0xC8, 4, 1, 0x0, 0x0, 0x3F, 0x0, 0x0, 0x0⟩
  , ⟨0xD0, 4, 5, 0x0, 0x0, 0x0, 0x0, 0x0, 0x0⟩
  , ⟨0xF0, 4, 1, 0x0, 0x0, 0x0, 0x7F, 0x0, 0x0⟩ ]

/-- Rows of CAL. -/
def rowsCAL : List RegRow :=
  [ ⟨0x40, 4, 1, 0x0, 0xFFFFFFFF, 0x0, 0x0, 0x0, 0xA141410⟩
  , ⟨0x44, 4, 1, 0x0, 0xFFFFFFFF, 0x0, 0x0, 0x0, 0x38403E8⟩
  , ⟨0x48, 4, 1, 0x0, 0xFFFFFF00, 0x0, 0x0, 0x0, 0x640500⟩
  , ⟨0x50, 4, 8, 0x0, 0xFFFFFF, 0x0, 0x0, 0x0, 0x2710⟩
  , ⟨0x80, 4, 1, 0x0, 0x0, 0x0, 0x0, 0x0, 0x0⟩
  , ⟨0x84, 4, 3, 0x0, 0x0, 0x0, 0x0, 0x0, 0x0⟩
  , ⟨0x90, 4, 1, 0x0, 0x0, 0x0, 0x0, 0x0, 0x0⟩
  , ⟨0xA0, 4, 1, 0x0, 0x0, 0x0, 0x0, 0x0, 0x0⟩
  , ⟨0xA4, 4, 1, 0x0, 0x0, 0x0, 0x0, 0x0, 0x0⟩
  , ⟨0xB0, 4, 1, 0x73070000, 0x0, 0x0, 0x0, 0x0, 0x0⟩
  , ⟨0xB4, 4, 1, 0x3F3F3F3F, 0x0, 0x0, 0x0, 0x0, 0x0⟩
  , ⟨0xB8, 4, 1, 0xFFFFFFFF, 0x0, 0x0, 0x0, 0x0, 0x0⟩
  , ⟨0xBC, 4, 1, 0x0, 0x0, 0x0, 0x0, 0x0, 0x0⟩
  , ⟨0xC0, 4, 1, 0x0, 0x0, 0x0, 0x0, 0x0, 0x0⟩
  , ⟨0xC4, 4, 1, 0x0, 0x0, 0x0, 0x0, 0x0, 0x0⟩
  , ⟨0xC8, 4, 4, 0xFFFFFFFF, 0x0, 0x0, 0x0, 0x0, 0x0⟩
  , ⟨0xE0, 4, 8, 0x0, 0x0, 0x0, 0x0, 0x0, 0x0⟩
  , ⟨0x100, 4, 8, 0x0, 0x0, 0x0, 0x0, 0x0, 0x0⟩
  , ⟨0x120, 4, 8, 0x0, 0x0, 0x0, 0x0, 0x0, 0x0⟩
  , ⟨0x140, 4, 1, 0xF87F, 0x0, 0x0, 0x0, 0x0, 0x0⟩
  , ⟨0x144, 4, 8, 0x0, 0x0, 0x0, 0x0, 0x0, 0x0⟩
  , ⟨0x180, 4, 1, 0x0, 0x0, 0x0, 0x0, 0x0, 0x0⟩
  , ⟨0x184, 4, 1, 0x0, 0x0, 0x0, 0xFFFFFFFF, 0x0, 0x0⟩
  , ⟨0x188, 4, 1, 0x0, 0x0, 0x0, 0xFFFFFFFF, 0x0, 0x0⟩
  , ⟨0x18C, 4, 1, 0x0, 0x0, 0x0, 0xFFFFFFFF, 0x0, 0x0⟩
  , ⟨0x190, 4, 1, 0x0, 0x0, 0x0, 0xFFFFFFFF, 0x0, 0x0⟩
  , ⟨0x194, 4, 1, 0x0, 0x0, 0xF, 0x0, 0x0, 0x0⟩
  , ⟨0x1A0, 4, 1, 0x0, 0x0, 0x0, 0x0, 0x0, 0x0⟩
  , ⟨0x1A4, 4, 1, 0x0, 0x0, 0x0, 0x0, 0x0, 0x0⟩
  , ⟨0x400, 4, 80, 0x0, 0x3FF03FF, 0x0, 0x0, 0x0, 0x3FF03FF⟩
  , ⟨0x600, 4, 40, 0x0, 0x0, 0x0, 0x0, 0x0, 0x0⟩
  , ⟨0x6A0, 4, 5, 0x0, 0x0, 0x0, 0x0, 0x0, 0x0⟩ ]

/-- Rows of ALM. -/
def rowsALM : List RegRow :=
  [ ⟨0x40, 4, 1, 0x0, 0x1FFFFFF, 0x0, 0x0, 0x0, 0xA4010⟩
  , ⟨0x44, 4, 1, 0x0, 0xFFFFE000, 0x0, 0x0, 0x0, 0x1000000⟩
  , ⟨0x100, 4, 1, 0x0, 0x0, 0x0, 0x0, 0x0, 0x0⟩
  , ⟨0x104, 4, 1, 0x1FF, 0x0, 0x0, 0x0, 0x0, 0x0⟩
  , ⟨0x108, 4, 1, 0x0, 0x0, 0x0, 0x0, 0x0, 0x0⟩
  , ⟨0x10C, 4, 1, 0x0, 0x0, 0x0, 0x0, 0x0, 0x0⟩
  , ⟨0x110, 4, 1, 0x0, 0x0, 0x0, 0xFFFFFFFF, 0x0, 0x0⟩
  , ⟨0x114, 4, 1, 0x0, 0x0, 0x0, 0xFFFFFFFF, 0x0, 0x0⟩
  , ⟨0x118, 4, 1, 0x0, 0x0, 0x0, 0xFFFFFFFF, 0x0, 0x0⟩
  , ⟨0x11C, 4, 1, 0x0, 0x0, 0x7, 0x0, 0x0, 0x0⟩
  , ⟨0x120, 4, 1, 0x0, 0x0, 0x0, 0x0, 0x0, 0x0⟩
  , ⟨0x124, 4, 1, 0x81FFFFFF, 0x0, 0x0, 0x0, 0x0, 0x0⟩
  , ⟨0x128, 4, 1, 0x0, 0x0, 0x0, 0x0, 0x0, 0x0⟩
  , ⟨0x130, 4, 1, 0x0, 0x0, 0x0, 0x0, 0x0, 0x0⟩
  , ⟨0x134, 4, 1, 0x0, 0x0, 0x0, 0x0, 0x0, 0x0⟩
  , ⟨0x138, 4, 1, 0x0, 0x0, 0x0, 0x0, 0x0, 0x0⟩
  , ⟨0x13C, 4, 1, 0x0, 0x0, 0x0, 0x0, 0x0, 0x0⟩
  , ⟨0x200, 4, 32, 0x0, 0x0, 0x0, 0x0, 0x0, 0x0⟩
  , ⟨0x280, 4, 32, 0x0, 0x0, 0x0, 0x0, 0x0, 0x0⟩
  , ⟨0x400, 4, 80, 0x0, 0xFFFFFFFF, 0x0, 0x0, 0x0, 0x0⟩
  , ⟨0x700, 8, 32, 0x0, 0xE00003FF, 0x0, 0x0, 0x0, 0x0⟩
  , ⟨0x704, 8, 32, 0x0, 0x7FFFF, 0x0, 0x0, 0x0, 0x0⟩ ]

/-- Rows of CALL. -/
def rowsCALL : List RegRow :=
  [ ⟨0x40, 4, 1, 0x0, 0xF8FF3F00, 0x0, 0x0, 0x0, 0x380A3F00⟩
  , ⟨0x44, 4, 2, 0x0, 0xFFFFFFFF, 0x0, 0x0, 0x0, 0x0⟩
  , ⟨0x4C, 4, 1, 0x0, 0xFFFFFFFF, 0x0, 0x0, 0x0, 0x12C0078⟩
  , ⟨0x50, 4, 1, 0x0, 0xFFFFFF00, 0x0, 0x0, 0x0, 0x2583C00⟩
  , ⟨0x54, 4, 1, 0x0, 0xBF3FFFFF, 0x0, 0x0, 0x0, 0x3F3F0654⟩
  , ⟨0x58, 4, 1, 0x0, 0xFFFF3F00, 0x0, 0x0, 0x0, 0xB43F00⟩
  , ⟨0x5C, 4, 1, 0x0, 0xF, 0x0, 0x0, 0x0, 0x0⟩
  , ⟨0x100, 4, 1, 0x0, 0x0, 0x0, 0x0, 0x0, 0x0⟩
  , ⟨0x104, 8, 1, 0x0, 0x0, 0x0, 0x0, 0x0, 0x0⟩
  , ⟨0x108, 8, 1, 0x0, 0x0, 0x0, 0x0, 0x0, 0x0⟩
  , ⟨0x10C, 4, 1, 0x0, 0x0, 0x0, 0x0, 0x0, 0x0⟩
  , ⟨0x110, 4, 1, 0x0, 0x0, 0x0, 0x0, 0x0, 0x0⟩
  , ⟨0x114, 4, 1, 0x0, 0x0, 0x0, 0x0, 0x0, 0x0⟩
  , ⟨0x118, 4, 1, 0x0, 0x0, 0x0, 0x0, 0x0, 0x0⟩
  , ⟨0x120, 4, 1, 0x0, 0x0, 0x0, 0xFFFFFFFF, 0x0, 0x0⟩
  , ⟨0x124, 4, 1, 0x0, 0x0, 0x0, 0xFFFFFFFF, 0x0, 0x0⟩
  , ⟨0x128, 4, 1, 0x0, 0x0, 0x3, 0x0, 0x0, 0x0⟩ ]

/-- Rows of UIO. -/
def rowsUIO : List RegRow :=
  [ ⟨0x40, 4, 1, 0x0, 0xFFFFFFFF, 0x0, 0x0, 0x0, 0xA050032⟩
  , ⟨0x80, 4, 8, 0xFFFFFFFF, 0x0, 0x0, 0x0, 0x0, 0x0⟩
  , ⟨0xA0, 4, 8, 0x0, 0x0, 0x0, 0x0, 0x0, 0x0⟩
  , ⟨0xC0, 4, 8, 0x0, 0x0, 0x0, 0x0, 0x0, 0x0⟩
  , ⟨0xE0, 4, 8, 0x0, 0x0, 0x0, 0x0, 0x0, 0x0⟩
  , ⟨0x100, 4, 8, 0x0, 0x0, 0x0, 0x0, 0x0, 0x0⟩
  , ⟨0x140, 4, 1, 0x0, 0x0, 0x0, 0xFFFFFFFF, 0x0, 0x0⟩
  , ⟨0x144, 4, 1, 0x0, 0x0, 0x0, 0xFFFFFFFF, 0x0, 0x0⟩
  , ⟨0x148, 4, 1, 0x0, 0x0, 0x0, 0xFFFFFFFF, 0x0, 0x0⟩
  , ⟨0x14C, 4, 1, 0x0, 0x0, 0x7, 0x0, 0x0, 0x0⟩ ]

/-- Rows of DIO. -/
def rowsDIO : List RegRow :=
  [ ⟨0x40, 4, 1, 0x0, 0xFFFF0000, 0x0, 0x0, 0x0, 0x2140000⟩
  , ⟨0x80, 4, 1, 0xFFFFFFFF, 0x0, 0x0, 0x0, 0x0, 0x0⟩
  , ⟨0x84, 4, 1, 0xFFFF, 0x0, 0x0, 0x0, 0x0, 0x0⟩
  , ⟨0x88, 4, 1, 0x0, 0x0, 0x0, 0x0, 0x0, 0x0⟩
  , ⟨0x8C, 4, 1, 0x0, 0x0, 0x0, 0x0, 0x0, 0x0⟩
  , ⟨0x90, 4, 1, 0x0, 0x0, 0x0, 0x0, 0x0, 0x0⟩
  , ⟨0x94, 4, 1, 0x0, 0x0, 0x0, 0x0, 0x0, 0x0⟩
  , ⟨0x98, 4, 1, 0x0, 0x0, 0x0, 0x0, 0x0, 0x0⟩
  , ⟨0x9C, 4, 1, 0x0, 0x0, 0x0, 0x0, 0x0, 0x0⟩
  , ⟨0xA0, 4, 1, 0x0, 0x0, 0x0, 0x0, 0x0, 0x0⟩
  , ⟨0xA4, 4, 1, 0x0, 0x0, 0x0, 0x0, 0x0, 0x0⟩
  , ⟨0xA8, 4, 1, 0x0, 0x0, 0x0, 0x0, 0x0, 0x0⟩
  , ⟨0xAC, 4, 1, 0x0, 0x0, 0x0, 0x0, 0x0, 0x0⟩
  , ⟨0xB0, 4, 1, 0x0, 0x0, 0x0, 0x0, 0x0, 0x0⟩
  , ⟨0xB4, 4, 1, 0x0, 0x0, 0x0, 0x0, 0x0, 0x0⟩
  , ⟨0xB8, 4, 1, 0x0, 0x0, 0x0, 0x0, 0x0, 0x0⟩
  , ⟨0xBC, 4, 1, 0x0, 0x0, 0x0, 0x0, 0x0, 0x0⟩
  , ⟨0xC0, 4, 1, 0x0, 0x0, 0x0, 0x0, 0x0, 0x0⟩
  , ⟨0xC4, 4, 1, 0x0, 0x0, 0x0, 0x0, 0x0, 0x0⟩
  , ⟨0xD0, 4, 1, 0x0, 0x0, 0x0, 0x0, 0x0, 0x0⟩
  , ⟨0xE0, 4, 1, 0x0, 0x0, 0x0, 0xFFFFFFFF, 0x0, 0x0⟩
  , ⟨0xE4, 4, 1, 0x0, 0x0, 0x0, 0xFFFFFFFF, 0x0, 0x0⟩
  , ⟨0xE8, 4, 1, 0x0, 0x0, 0x0, 0xFFFFFFFF, 0x0, 0x0⟩
  , ⟨0xEC, 4, 1, 0x0, 0x0, 0x7, 0x0, 0x0, 0x0⟩
  , ⟨0x100, 8, 48, 0x0, 0x0, 0x0, 0x0, 0x0, 0x0⟩
  , ⟨0x104, 8, 48, 0x0, 0x0, 0x0, 0x0, 0x0, 0x0⟩ ]

/-- Rows of JKT. -/
def rowsJKT : List RegRow :=
  [ ⟨0x40, 4, 1, 0x0, 0x0, 0x0, 0x0, 0x0, 0x0⟩
  , ⟨0x44, 4, 1, 0x0, 0x0, 0x0, 0xFFFFFFFF, 0x0, 0x0⟩
  , ⟨0x48, 4, 1, 0x0, 0x0, 0x0, 0xFFFFFFFF, 0x0, 0x0⟩
  , ⟨0x4C, 4, 1, 0x0, 0x0, 0x0, 0xFFFFFFFF, 0x0, 0x0⟩
  , ⟨0x50, 4, 1, 0x0, 0x0, 0x0, 0xFFFFFFFF, 0x0, 0x0⟩
  , ⟨0x54, 4, 1, 0x0, 0x0, 0xF, 0x0, 0x0, 0x0⟩
  , ⟨0x58, 4, 1, 0x0, 0x0, 0x0, 0x0, 0x0, 0x0⟩
  , ⟨0x5C, 4, 1, 0x0, 0x0, 0x0, 0x0, 0x0, 0x0⟩
  , ⟨0x60, 4, 1, 0x0, 0x0, 0x0, 0x0, 0x0, 0x0⟩
  , ⟨0x64, 4, 1, 0x0, 0x0, 0x0, 0x0, 0x0, 0x0⟩ ]

/-- Rows of PAIR. -/
def rowsPAIR : List RegRow :=
  [ ⟨0x40, 4, 1, 0x0, 0xE3FFFFFF, 0x0, 0x0, 0x0, 0x2008⟩
  , ⟨0x44, 4, 1, 0x0, 0xFFFFFF00, 0x0, 0x0, 0x0, 0x1F40000⟩
  , ⟨0x80, 4, 1, 0x0, 0x0, 0x0, 0x0, 0x0, 0x20000000⟩
  , ⟨0x84, 4, 1, 0x0, 0x0, 0x0, 0x0, 0x0, 0x0⟩
  , ⟨0x88, 4, 1, 0x0, 0x0, 0x0, 0x0, 0x0, 0xFFFF⟩
  , ⟨0x8C, 4, 1, 0x0, 0x0, 0x0, 0x0, 0x0, 0x0⟩
  , ⟨0x90, 4, 1, 0x0, 0x0, 0x0, 0x0, 0x0, 0x0⟩
  , ⟨0x94, 4, 1, 0x0, 0x0, 0x0, 0x0, 0x0, 0x0⟩
  , ⟨0xA0, 4, 1, 0x0, 0x0, 0x0, 0x0, 0x0, 0x0⟩
  , ⟨0xA4, 4, 1, 0x0, 0x0, 0x0, 0x0, 0x0, 0x0⟩
  , ⟨0xC0, 4, 1, 0x0, 0x0, 0x0, 0xFFFFFFFF, 0x0, 0x0⟩
  , ⟨0xC4, 4, 1, 0x0, 0x0, 0x0, 0xFFFFFFFF, 0x0, 0x0⟩
  , ⟨0xC8, 4, 1, 0x0, 0x0, 0x0, 0xFFFFFFFF, 0x0, 0x0⟩
  , ⟨0xCC, 4, 1, 0x0, 0x0, 0x0, 0x0, 0x0, 0x0⟩
  , ⟨0xD0, 4, 1, 0x0, 0x0, 0x0, 0xFFFFFFFF, 0x0, 0x0⟩
  , ⟨0xD4, 4, 1, 0x0, 0x0, 0x0, 0xFFFFFFFF, 0x0, 0x0⟩
  , ⟨0xD8, 4, 1, 0x0, 0x0, 0x0, 0xFFFFFFFF, 0x0, 0x0⟩
  , ⟨0xDC, 4, 1, 0x0, 0x0, 0x3F, 0x0, 0x0, 0x0⟩
  , ⟨0x100, 4, 5, 0x0, 0x0, 0x0, 0x0, 0x0, 0x0⟩ ]

/-- Rows of BUS. -/
def rowsBUS : List RegRow :=
  [ ⟨0x40, 4, 1, 0x0, 0xFFE0FFFF, 0x0, 0x0, 0x0, 0x34000000⟩
  , ⟨0x44, 4, 1, 0x0, 0xFFFFFC1F, 0x0, 0x0, 0x0, 0x3E1E3C01⟩
  , ⟨0x48, 4, 1, 0x0, 0x1F0F0F1F, 0x0, 0x0, 0x0, 0xE030301⟩
  , ⟨0x4C, 4, 1, 0x0, 0x8000007F, 0x0, 0x0, 0x0, 0x80000020⟩
  , ⟨0x50, 4, 2, 0x0, 0xFFFFF001, 0x0, 0x0, 0x0, 0x0⟩
  , ⟨0x58, 4, 1, 0x0, 0x8000000F, 0x0, 0x0, 0x0, 0x2⟩
  , ⟨0x80, 8, 32, 0x0, 0xFFFFFFFF, 0x0, 0x0, 0x0, 0x0⟩
  , ⟨0x84, 8, 32, 0x0, 0x7FFFFFFF, 0x0, 0x0, 0x0, 0x0⟩
  , ⟨0x200, 4, 1, 0x0, 0x0, 0x0, 0x0, 0x0, 0x0⟩
  , ⟨0x204, 4, 1, 0x0, 0x0, 0x0, 0x0, 0x0, 0x0⟩
  , ⟨0x208, 4, 1, 0x0, 0x0, 0x0, 0x8F, 0x0, 0x0⟩
  , ⟨0x20C, 4, 1, 0x0, 0x0, 0x0, 0x0, 0x0, 0x0⟩
  , ⟨0x210, 4, 1, 0x0, 0x0, 0x0, 0x0, 0x0, 0x0⟩
  , ⟨0x214, 8, 1, 0x0, 0x0, 0x0, 0x0, 0x0, 0x0⟩
  , ⟨0x218, 8, 1, 0x0, 0x0, 0x0, 0x0, 0x0, 0x0⟩
  , ⟨0x220, 8, 2, 0x0, 0x0, 0x0, 0x0, 0x0, 0x0⟩
  , ⟨0x224, 8, 2, 0x3F, 0x0, 0x0, 0x0, 0x0, 0x0⟩
  , ⟨0x230, 4, 2, 0x0, 0x0, 0x0, 0xFFFFFFFF, 0x0, 0x0⟩
  , ⟨0x238, 4, 1, 0x0, 0x0, 0x0, 0xFFFFFFFF, 0x0, 0x0⟩
  , ⟨0x23C, 4, 1, 0x0, 0x0, 0x0, 0xFFFFFFFF, 0x0, 0x0⟩
  , ⟨0x240, 4, 1, 0x0, 0x0, 0x0, 0xFFFFFFFF, 0x0, 0x0⟩
  , ⟨0x244, 4, 1, 0x0, 0x0, 0x1F, 0x0, 0x0, 0x0⟩
  , ⟨0x250, 4, 1, 0x0, 0x0, 0x0, 0x0, 0x0, 0x0⟩
  , ⟨0x300, 4, 1, 0x7FFFFFFF, 0x0, 0x0, 0x0, 0x0, 0x0⟩
  , ⟨0x360, 4, 1, 0x7FFFFFFF, 0x0, 0x0, 0x0, 0x0, 0x0⟩
  , ⟨0x3C0, 4, 1, 0x7FFFFFFF, 0x0, 0x0, 0x0, 0x0, 0x0⟩
  , ⟨0x304, 4, 1, 0xEF, 0x0, 0x0, 0x0, 0x0, 0x0⟩
  , ⟨0x364, 4, 1, 0xEF, 0x0, 0x0, 0x0, 0x0, 0x0⟩
  , ⟨0x3C4, 4, 1, 0xEF, 0x0, 0x0, 0x0, 0x0, 0x0⟩
  , ⟨0x308, 4, 16, 0xFFFFFFFF, 0x0, 0x0, 0x0, 0x0, 0x0⟩
  , ⟨0x368, 4, 16, 0xFFFFFFFF, 0x0, 0x0, 0x0, 0x0, 0x0⟩
  , ⟨0x3C8, 4, 16, 0xFFFFFFFF, 0x0, 0x0, 0x0, 0x0, 0x0⟩
  , ⟨0x348, 4, 1, 0x0, 0x0, 0x0, 0x0, 0x0, 0x0⟩
  , ⟨0x3A8, 4, 1, 0x0, 0x0, 0x0, 0x0, 0x0, 0x0⟩
  , ⟨0x408, 4, 1, 0x0, 0x0, 0x0, 0x0, 0x0, 0x0⟩
  , ⟨0x34C, 4, 1, 0x0, 0x0, 0x0, 0x0, 0x0, 0x0⟩
  , ⟨0x3AC, 4, 1, 0x0, 0x0, 0x0, 0x0, 0x0, 0x0⟩
  , ⟨0x40C, 4, 1, 0x0, 0x0, 0x0, 0x0, 0x0, 0x0⟩
  , ⟨0x350, 4, 1, 0x0, 0x0, 0x0, 0x0, 0x0, 0x0⟩
  , ⟨0x3B0, 4, 1, 0x0, 0x0, 0x0, 0x0, 0x0, 0x0⟩
  , ⟨0x410, 4, 1, 0x0, 0x0, 0x0, 0x0, 0x0, 0x0⟩ ]

/-- Rows of MSG. -/
def rowsMSG : List RegRow :=
  [ ⟨0x40, 4, 1, 0x0, 0xC0FF03FF, 0x0, 0x0, 0x0, 0x10000⟩
  , ⟨0x44, 4, 1, 0x0, 0x3030303, 0x0, 0x0, 0x0, 0x0⟩
  , ⟨0x48, 4, 1, 0x0, 0xFFFF, 0x0, 0x0, 0x0, 0x0⟩
  , ⟨0x4C, 4, 1, 0x0, 0xFFFF8000, 0x0, 0x0, 0x0, 0x3E80000⟩
  , ⟨0x50, 4, 1, 0x0, 0x7FFF, 0x0, 0x0, 0x0, 0x4688⟩
  , ⟨0x54, 4, 5, 0x0, 0xFFFFFFFF, 0x0, 0x0, 0x0, 0x0⟩
  , ⟨0x68, 4, 1, 0x0, 0xFF, 0x0, 0x0, 0x0, 0x0⟩
  , ⟨0x100, 4, 1, 0x0, 0x0, 0x0, 0x0, 0x0, 0x0⟩
  , ⟨0x104, 4, 1, 0x0, 0x0, 0x0, 0xFFFFFFFF, 0x0, 0x0⟩
  , ⟨0x108, 4, 1, 0x0, 0x0, 0x0, 0xFFFFFFFF, 0x0, 0x0⟩
  , ⟨0x10C, 4, 1, 0x0, 0x0, 0x0, 0xFFFFFFFF, 0x0, 0x0⟩
  , ⟨0x110, 4, 1, 0x0, 0x0, 0x0, 0xFFFFFFFF, 0x0, 0x0⟩
  , ⟨0x114, 4, 1, 0x0, 0x0, 0x0, 0x0, 0x0, 0x0⟩
  , ⟨0x118, 4, 1, 0x0, 0x0, 0x0, 0x0, 0x0, 0x0⟩
  , ⟨0x11C, 4, 1, 0x0, 0x0, 0x0, 0x0, 0x0, 0x0⟩
  , ⟨0x120, 4, 1, 0x0, 0x0, 0x0, 0x0, 0x0, 0x0⟩
  , ⟨0x124, 4, 1, 0x0, 0x0, 0xF, 0x0, 0x0, 0x0⟩
  , ⟨0x128, 4, 1, 0x0, 0x0, 0x0, 0x0, 0x0, 0x0⟩ ]

/-- Rows of TSYNC. -/
def rowsTSYNC : List RegRow :=
  [ ⟨0x40, 4, 1, 0x0, 0xFFFFFF00, 0x0, 0x0, 0x0, 0xFA0300⟩
  , ⟨0x44, 4, 1, 0x0, 0xFFFF0000, 0x0, 0x0, 0x0, 0x3E80000⟩
  , ⟨0x80, 4, 1, 0x0, 0x0, 0x0, 0x0, 0x0, 0x0⟩
  , ⟨0x84, 4, 1, 0x0, 0x0, 0x0, 0x0, 0x0, 0x0⟩
  , ⟨0x88, 4, 1, 0x0, 0x0, 0x0, 0x0, 0x0, 0x0⟩
  , ⟨0x8C, 4, 1, 0x0, 0x0, 0x0, 0x0, 0x0, 0x0⟩
  , ⟨0x90, 8, 1, 0x0, 0x0, 0x0, 0x0, 0x0, 0x0⟩
  , ⟨0x94, 8, 1, 0x0, 0x0, 0x0, 0x0, 0x0, 0x0⟩
  , ⟨0x98, 8, 1, 0xFFFFFFFF, 0x0, 0x0, 0x0, 0x0, 0x0⟩
  , ⟨0x9C, 8, 1, 0xFFFFFFFF, 0x0, 0x0, 0x0, 0x0, 0x0⟩
  , ⟨0xA0, 4, 1, 0x0, 0x0, 0x0, 0x0, 0x0, 0x0⟩
  , ⟨0xA4, 4, 1, 0x0, 0x0, 0x0, 0x0, 0x0, 0x0⟩
  , ⟨0xA8, 4, 1, 0x0, 0x0, 0x0, 0xFFFFFFFF, 0x0, 0x0⟩
  , ⟨0xAC, 4, 1, 0x0, 0x0, 0x1, 0x0, 0x0, 0x0⟩ ]

/-- Rows of MEM. -/
def rowsMEM : List RegRow :=
  [ ⟨0x40, 4, 1, 0x0, 0x8000FFFF, 0x0, 0x0, 0x0, 0x8000003C⟩
  , ⟨0x80, 4, 1, 0x0, 0x0, 0x0, 0x0, 0x0, 0x0⟩
  , ⟨0x84, 4, 1, 0x0, 0x0, 0x0, 0x0, 0x0, 0x0⟩
  , ⟨0x88, 4, 1, 0x0, 0x0, 0x0, 0x0, 0x0, 0x0⟩
  , ⟨0x8C, 4, 1, 0x0, 0x0, 0x0, 0xFFFFFFFF, 0x0, 0x0⟩
  , ⟨0x90, 4, 1, 0x0, 0x0, 0x0, 0xFFFFFFFF, 0x0, 0x0⟩
  , ⟨0x94, 4, 1, 0x0, 0x0, 0x0, 0x0, 0x0, 0x0⟩
  , ⟨0x98, 4, 1, 0x0, 0x0, 0x0, 0x0, 0x0, 0x0⟩
  , ⟨0x9C, 4, 1, 0x0, 0x0, 0x3, 0x0, 0x0, 0x0⟩ ]

/-- Rows of MPTU. -/
def rowsMPTU : List RegRow :=
  [ ⟨0x40, 4, 32, 0x0, 0xF03F3F3F, 0x0, 0x0, 0x0, 0x0⟩
  , ⟨0x100, 4, 128, 0, 0x77777777, 0, 0, 0, 0x77777777⟩
  , ⟨0x400, 4, 1, 0x0, 0x0, 0x0, 0x0, 0x0, 0x0⟩
  , ⟨0x404, 4, 1, 0x0, 0x0, 0x0, 0x0, 0x0, 0x0⟩
  , ⟨0x408, 4, 1, 0x0, 0x0, 0x0, 0xFFFFFFFF, 0x0, 0x0⟩
  , ⟨0x40C, 4, 1, 0x0, 0x0, 0x1, 0x0, 0x0, 0x0⟩ ]

/-- Rows of DMA. -/
def rowsDMA : List RegRow :=
  [ ⟨0x40, 4, 1, 0x0, 0x8000001F, 0x0, 0x0, 0x0, 0xA⟩
  , ⟨0x44, 4, 1, 0x0, 0xFFFFF000, 0x0, 0x0, 0x0, 0x1010000⟩
  , ⟨0x80, 4, 1, 0x0, 0x0, 0x0, 0x0, 0x0, 0x0⟩
  , ⟨0x84, 4, 1, 0xFFFFFFFF, 0x0, 0x0, 0x0, 0x0, 0x0⟩
  , ⟨0x88, 4, 1, 0x0, 0x0, 0x0, 0xFFFFFFFF, 0x0, 0x0⟩
  , ⟨0x8C, 4, 1, 0x0, 0x0, 0x0, 0xFFFFFFFF, 0x0, 0x0⟩
  , ⟨0x90, 4, 1, 0x0, 0x0, 0x3, 0x0, 0x0, 0x0⟩
  , ⟨0x94, 4, 2, 0x0, 0x0, 0xFFFFFFFF, 0x0, 0x0, 0x0⟩
  , ⟨0x9C, 4, 2, 0x0, 0x0, 0xFFFFFFFF, 0x0, 0x0, 0x0⟩
  , ⟨0xA4, 4, 1, 0x0, 0x0, 0x0, 0x0, 0x0, 0x0⟩
  , ⟨0x100, 4, 1, 0, 0xC0000000, 0, 0, 0, 0x80000000⟩
  , ⟨0x104, 4, 5, 0, 0xF0000000, 0, 0, 0, 0x90000000⟩
  , ⟨0x118, 4, 1, 0, 0xF0000000, 0, 0, 0, 0xA0000000⟩
  , ⟨0x11C, 4, 1, 0, 0xF0000000, 0, 0, 0, 0x90000000⟩
  , ⟨0x120, 4, 8, 0, 0, 0, 0, 0, 0⟩
  , ⟨0x140, 4, 48, 0, 0xF0000000, 0, 0, 0, 0x30000000⟩
  , ⟨0x400, 16, 64, 0xFFFFFFE0, 0x0, 0x0, 0x0, 0x0, 0x0⟩
  , ⟨0x404, 16, 64, 0x0, 0x0, 0x0, 0x0, 0x0, 0x0⟩
  , ⟨0x408, 16, 64, 0x0, 0x0, 0x0, 0x0, 0x0, 0x0⟩
  , ⟨0x40C, 16, 64, 0x0, 0x0, 0x0, 0x0, 0x0, 0x0⟩ ]

/-- Rows of NVM. -/
def rowsNVM : List RegRow :=
  [ ⟨0x40, 4, 1, 0x0, 0x1, 0x0, 0x0, 0x0, 0x1⟩
  , ⟨0x80, 4, 1, 0x0, 0x0, 0x0, 0x0, 0x3, 0x0⟩
  , ⟨0x84, 4, 1, 0x0, 0x0, 0x0, 0x0, 0x0, 0x0⟩
  , ⟨0x88, 4, 1, 0xFFFFFFFF, 0x0, 0x0, 0x0, 0x0, 0x0⟩
  , ⟨0x8C, 4, 1, 0x1FFFFFF, 0x0, 0x0, 0x0, 0x0, 0x0⟩
  , ⟨0x90, 4, 1, 0x3FFFFFF, 0x0, 0x0, 0x0, 0x0, 0x0⟩
  , ⟨0x94, 4, 1, 0x0, 0x0, 0x0, 0x0, 0x0, 0x0⟩
  , ⟨0x98, 4, 1, 0x0, 0x0, 0x0, 0x0, 0x0, 0x0⟩
  , ⟨0x9C, 4, 1, 0x0, 0x0, 0x0, 0xFFFFFFFF, 0x0, 0x0⟩
  , ⟨0xA0, 4, 1, 0x0, 0x0, 0x0, 0xFFFFFFFF, 0x0, 0x0⟩
  , ⟨0xA4, 4, 1, 0x0, 0x0, 0x3, 0x0, 0x0, 0x0⟩ ]

/-- Rows of REC. -/
def rowsREC : List RegRow :=
  [ ⟨0x40, 4, 1, 0x0, 0xFFFFFFFF, 0x0, 0x0, 0x0, 0x258012C⟩
  , ⟨0x44, 4, 1, 0x0, 0xFFFFFFF, 0x0, 0x0, 0x0, 0x83C03E8⟩
  , ⟨0x48, 4, 1, 0x0, 0xFFFF0000, 0x0, 0x0, 0x0, 0x13C0000⟩
  , ⟨0x4C, 4, 1, 0x0, 0xFFFFF000, 0x0, 0x0, 0x0, 0x1380000⟩
  , ⟨0x80, 4, 1, 0x0, 0x0, 0x0, 0x0, 0x0, 0x0⟩
  , ⟨0x84, 4, 1, 0x0, 0x0, 0x0, 0x0, 0x0, 0x0⟩
  , ⟨0x88, 4, 1, 0x0, 0x0, 0x0, 0x0, 0x0, 0x400000⟩
  , ⟨0x8C, 4, 1, 0x0, 0x0, 0x0, 0x0, 0x0, 0x400020⟩
  , ⟨0x90, 8, 1, 0x0, 0x0, 0x0, 0x0, 0x0, 0x0⟩
  , ⟨0x94, 8, 1, 0x0, 0x0, 0x0, 0x0, 0x0, 0x0⟩
  , ⟨0x98, 4, 1, 0x0, 0x0, 0x0, 0x0, 0x0, 0x0⟩
  , ⟨0x9C, 4, 1, 0x0, 0x0, 0x0, 0x0, 0x0, 0x0⟩
  , ⟨0xA0, 4, 1, 0x0, 0x0, 0x0, 0x0, 0x0, 0x0⟩
  , ⟨0xA4, 4, 1, 0x0, 0x0, 0x0, 0x0, 0x0, 0x0⟩
  , ⟨0xA8, 4, 1, 0xFFFFFFFF, 0x0, 0x0, 0x0, 0x0, 0x0⟩
  , ⟨0xAC, 4, 1, 0xFFFFFFFF, 0x0, 0x0, 0x0, 0x0, 0x0⟩
  , ⟨0xB0, 4, 1, 0x0, 0x0, 0x0, 0x0, 0x0, 0x0⟩
  , ⟨0xB4, 4, 1, 0xFFFFF, 0x0, 0x0, 0x0, 0x0, 0x0⟩
  , ⟨0xB8, 4, 1, 0x0, 0x0, 0x0, 0xFFFFFFFF, 0x0, 0x0⟩
  , ⟨0xBC, 4, 1, 0x0, 0x0, 0x0, 0x0, 0x0, 0x0⟩
  , ⟨0xC0, 4, 1, 0x0, 0x0, 0x1, 0x0, 0x0, 0x0⟩
  , ⟨0xC4, 4, 1, 0x3FF, 0x0, 0x0, 0x0, 0x0, 0x0⟩
  , ⟨0xE0, 4, 16, 0x0, 0x0, 0x0, 0x0, 0x0, 0x0⟩
  , ⟨0x140, 4, 60, 0xFFFFFFFF, 0x0, 0x0, 0x0, 0x0, 0x0⟩
  , ⟨0x300, 4, 64, 0x0, 0x0, 0x0, 0x0, 0x0, 0x0⟩ ]

/-- Rows of RTC. -/
def rowsRTC : List RegRow :=
  [ ⟨0x40, 4, 1, 0x0, 0x0, 0x0, 0x0, 0x0, 0x0⟩
  , ⟨0x44, 4, 8, 0x0, 0x0, 0x0, 0x0, 0x0, 0x0⟩
  , ⟨0x70, 4, 1, 0x7FFF, 0x0, 0x0, 0x0, 0x0, 0x0⟩
  , ⟨0x74, 4, 7, 0xFF, 0x0, 0x0, 0x0, 0x0, 0x0⟩
  , ⟨0xA0, 4, 1, 0x0, 0x0, 0x0, 0x0, 0x0, 0x0⟩
  , ⟨0xA4, 4, 1, 0x0, 0x0, 0x0, 0x0, 0x0, 0x0⟩
  , ⟨0xA8, 4, 1, 0x0, 0x0, 0xCB000000, 0x0, 0x0, 0x80000000⟩
  , ⟨0xAC, 4, 1, 0x0, 0x0, 0x0, 0x0, 0x7FF, 0x0⟩
  , ⟨0xC0, 16, 2, 0xC000003F, 0x0, 0x0, 0x0, 0x0, 0x0⟩
  , ⟨0xC4, 16, 2, 0x3F7F7F, 0x0, 0x0, 0x0, 0x0, 0x0⟩
  , ⟨0xC8, 16, 2, 0x71F3F00, 0x0, 0x0, 0x0, 0x0, 0x0⟩ ]

/-- Rows of BKPM. -/
def rowsBKPM : List RegRow :=
  [ ⟨0x40, 4, 30, 0xFFFFFFFF, 0x0, 0x0, 0x0, 0x0, 0x0⟩
  , ⟨0xB8, 4, 1, 0x0, 0x0, 0x0, 0x0, 0x0, 0x0⟩
  , ⟨0xBC, 4, 1, 0x0, 0x0, 0x0, 0x0, 0x0, 0x0⟩
  , ⟨0xC0, 4, 1, 0x0, 0x0, 0xB, 0x0, 0x0, 0x1⟩ ]

/-- Rows of SEC. -/
def rowsSEC : List RegRow :=
  [ ⟨0x40, 4, 1, 0x0, 0x0, 0x0, 0x0, 0x0, 0x0⟩
  , ⟨0x44, 4, 1, 0x0, 0x0, 0x0, 0x0, 0x0, 0x0⟩
  , ⟨0x48, 4, 1, 0x0, 0x0, 0x0, 0x0, 0x0, 0x0⟩
  , ⟨0x50, 4, 2, 0x0, 0x0, 0x0, 0x0, 0x0, 0x0⟩
  , ⟨0x58, 4, 2, 0x0, 0x0, 0x0, 0x0, 0x0, 0x0⟩
  , ⟨0x60, 4, 8, 0xFFFFFFFF, 0x0, 0x0, 0x0, 0x0, 0x0⟩
  , ⟨0x80, 4, 16, 0x0, 0x0, 0x0, 0x0, 0x0, 0x0⟩
  , ⟨0xC0, 4, 16, 0x0, 0x0, 0x0, 0x0, 0x0, 0x0⟩ ]

/-- Rows of KEYV. -/
def rowsKEYV : List RegRow :=
  [ ⟨0x40, 4, 8, 0x0, 0x0, 0x0, 0x0, 0x0, 0x0⟩
  , ⟨0x60, 4, 1, 0x0, 0x0, 0x0, 0x0, 0x0, 0x0⟩
  , ⟨0x64, 4, 1, 0x0, 0x0, 0x0, 0x0, 0x0, 0x0⟩
  , ⟨0x68, 4, 1, 0x0, 0x0, 0x0, 0x0, 0x1, 0x1⟩
  , ⟨0x6C, 4, 1, 0x0, 0x0, 0x100, 0x0, 0x0, 0x0⟩
  , ⟨0x70, 4, 1, 0x0, 0x0, 0x0, 0xFFFFFFFF, 0x0, 0x0⟩
  , ⟨0x74, 4, 1, 0x0, 0x0, 0x1, 0x0, 0x0, 0x0⟩
  , ⟨0x80, 4, 8, 0x0, 0x0, 0x0, 0x0, 0x0, 0x0⟩ ]

/-- Rows of TAMP. -/
def rowsTAMP : List RegRow :=
  [ ⟨0x40, 4, 1, 0x0, 0x0, 0x0, 0x0, 0x3FFF, 0x2683⟩
  , ⟨0x44, 4, 1, 0x0, 0x0, 0x0, 0x0, 0x18003, 0x0⟩
  , ⟨0x48, 4, 1, 0x0, 0x0, 0x80007F7F, 0x0, 0x0, 0x0⟩
  , ⟨0x4C, 4, 2, 0x0, 0x0, 0x0, 0x0, 0x0, 0x0⟩
  , ⟨0x54, 4, 1, 0x0, 0x0, 0x0, 0x0, 0x0, 0x0⟩ ]

/-- Rows of PWR. -/
def rowsPWR : List RegRow :=
  [ ⟨0x40, 4, 1, 0x0, 0xCFFF0FFF, 0x0, 0x0, 0x0, 0x87D0030A⟩
  , ⟨0x44, 4, 1, 0x0, 0xFFFFFFFF, 0x0, 0x0, 0x0, 0x5A50463C⟩
  , ⟨0x48, 4, 1, 0x0, 0xFF0, 0x0, 0x0, 0x0, 0xFF0⟩
  , ⟨0x4C, 4, 1, 0x0, 0x0, 0x0, 0x0, 0x0, 0x0⟩
  , ⟨0x80, 4, 1, 0x0, 0x0, 0x0, 0x0, 0x0, 0x0⟩
  , ⟨0x84, 4, 1, 0x0, 0x0, 0x0, 0x0, 0x0, 0x0⟩
  , ⟨0x88, 4, 1, 0x0, 0x0, 0x0, 0x0, 0x0, 0x0⟩
  , ⟨0x8C, 4, 1, 0x0, 0x0, 0x0, 0x0, 0x0, 0x0⟩
  , ⟨0x90, 4, 1, 0x0, 0x0, 0x0, 0x0, 0x0, 0x0⟩
  , ⟨0x94, 4, 1, 0xFFFF, 0x0, 0x0, 0x0, 0x0, 0x2710⟩
  , ⟨0x98, 8, 1, 0x0, 0x0, 0x0, 0x0, 0x0, 0x0⟩
  , ⟨0x9C, 8, 1, 0x0, 0x0, 0x0, 0x0, 0x0, 0x0⟩
  , ⟨0xA0, 4, 1, 0x0, 0x0, 0x0, 0xFFFFFFFF, 0x0, 0x0⟩
  , ⟨0xA4, 4, 1, 0x0, 0x0, 0x1, 0x0, 0x0, 0x0⟩
  , ⟨0xA8, 4, 1, 0x0, 0x0, 0x0, 0x0, 0x0, 0x0⟩
  , ⟨0xAC, 4, 1, 0x0, 0x0, 0x0, 0x0, 0x0, 0x0⟩ ]

/-- Rows of CLK. -/
def rowsCLK : List RegRow :=
  [ ⟨0x40, 4, 1, 0x0, 0x0, 0x0, 0x0, 0x0, 0x0⟩
  , ⟨0x44, 4, 1, 0x0, 0x0, 0x0, 0x0, 0x0, 0x0⟩
  , ⟨0x48, 4, 1, 0x0, 0x0, 0x0, 0xFFFFFFFF, 0x0, 0x0⟩
  , ⟨0x4C, 4, 1, 0x0, 0x0, 0x1, 0x0, 0x0, 0x0⟩ ]

/-- Rows of RST. -/
def rowsRST : List RegRow :=
  [ ⟨0x40, 4, 1, 0x0, 0x0, 0x3FFF, 0x0, 0x0, 0x0⟩
  , ⟨0x44, 4, 1, 0x0, 0x0, 0x0, 0x0, 0x0, 0x0⟩
  , ⟨0x48, 4, 1, 0x0, 0x0, 0x0, 0x0, 0x0, 0x0⟩
  , ⟨0x4C, 4, 1, 0x0, 0x0, 0x0, 0x0, 0xC0000FFF, 0x4000000A⟩
  , ⟨0x50, 4, 1, 0x0, 0x0, 0x0, 0x0, 0x0, 0x0⟩
  , ⟨0x54, 4, 1, 0x0, 0x0, 0x0, 0x0, 0x0, 0x0⟩ ]

/-- Rows of LAP. -/
def rowsLAP : List RegRow :=
  [ ⟨0x40, 4, 1, 0x0, 0x3FFFFF, 0x0, 0x0, 0x0, 0x64⟩
  , ⟨0x44, 4, 1, 0x0, 0x8000FF00, 0x0, 0x0, 0x0, 0x1E00⟩
  , ⟨0x80, 4, 1, 0x0, 0x0, 0x0, 0x0, 0x0, 0x0⟩
  , ⟨0x84, 4, 1, 0x0, 0x0, 0x0, 0x0, 0x0, 0x0⟩
  , ⟨0x88, 4, 1, 0x0, 0x0, 0x0, 0xFFFFFFFF, 0x0, 0x0⟩
  , ⟨0x8C, 4, 1, 0x0, 0x0, 0x0, 0xFFFFFFFF, 0x0, 0x0⟩
  , ⟨0x90, 4, 1, 0x0, 0x0, 0x7F, 0x0, 0x0, 0x0⟩
  , ⟨0x94, 4, 1, 0x0, 0x0, 0x1, 0x0, 0x0, 0x0⟩ ]

/-- Rows of DBG. -/
def rowsDBG : List RegRow :=
  [ ⟨0x40, 4, 1, 0x0, 0x0, 0x0, 0x0, 0x0, 0x0⟩
  , ⟨0x44, 4, 1, 0x0, 0x0, 0x0, 0x0, 0x3, 0x1⟩ ]

/-- The block bits of IRQRAW that a page has (all W1C, R41). -/
def irqBlockMask : Nat → Nat
  | 0x0 => 0x0
  | 0x60 => 0x0
  | 0x8 => 0x7F
  | 0x9 => 0x7F
  | 0xA => 0x7F
  | 0xB => 0x7F
  | 0xC => 0x7F
  | 0xD => 0x7F
  | 0xE => 0x7F
  | 0xF => 0x7F
  | 0x11 => 0x7F
  | 0x10 => 0x3FFF
  | 0x20 => 0x1FF
  | 0x28 => 0x7FF
  | 0x18 => 0x1F
  | 0x19 => 0x7FF
  | 0x1A => 0xFF
  | 0x38 => 0x1FFF
  | 0x30 => 0xFFF
  | 0x31 => 0xFFF
  | 0x32 => 0xFFF
  | 0x33 => 0xFFF
  | 0x34 => 0x3F
  | 0x35 => 0x1F
  | 0x40 => 0xF
  | 0x41 => 0x3
  | 0x42 => 0x1F
  | 0x48 => 0xF
  | 0x49 => 0x3FF
  | 0x50 => 0xFB
  | 0x51 => 0x1
  | 0x58 => 0x7
  | 0x59 => 0x7
  | 0x5A => 0x3
  | 0x1 => 0x1FF
  | 0x2 => 0xF
  | 0x3 => 0x1
  | 0x4 => 0x7
  | 0x7F => 0x0
  | _ => 0

/-- The block bits of FAULT that a page has (all W1C, R41). -/
def faultBlockMask : Nat → Nat
  | 0x0 => 0x0
  | 0x60 => 0x0
  | 0x8 => 0x1F
  | 0x9 => 0x1F
  | 0xA => 0x1F
  | 0xB => 0x1F
  | 0xC => 0x1F
  | 0xD => 0x1F
  | 0xE => 0x1F
  | 0xF => 0x1F
  | 0x11 => 0x7
  | 0x10 => 0x3F
  | 0x20 => 0x7
  | 0x28 => 0x1
  | 0x18 => 0x7
  | 0x19 => 0x1F
  | 0x1A => 0x7
  | 0x38 => 0x3F
  | 0x30 => 0xF
  | 0x31 => 0xF
  | 0x32 => 0xF
  | 0x33 => 0xF
  | 0x34 => 0x7
  | 0x35 => 0x7
  | 0x40 => 0x1
  | 0x41 => 0x0
  | 0x42 => 0x3
  | 0x48 => 0x3
  | 0x49 => 0xF
  | 0x50 => 0x1
  | 0x51 => 0x0
  | 0x58 => 0x3
  | 0x59 => 0x1
  | 0x5A => 0x3
  | 0x1 => 0x7
  | 0x2 => 0x7
  | 0x3 => 0x3
  | 0x4 => 0x1
  | 0x7F => 0x0
  | _ => 0

/-- The register rows of a page number (R65). -/
def pageRows : Nat → List RegRow
  | 0x0 => rowsSYS
  | 0x60 => rowsHOST
  | 0x8 => rowsAFE
  | 0x9 => rowsAFE
  | 0xA => rowsAFE
  | 0xB => rowsAFE
  | 0xC => rowsAFE
  | 0xD => rowsAFE
  | 0xE => rowsAFE
  | 0xF => rowsAFE
  | 0x11 => rowsARITH
  | 0x10 => rowsCAL
  | 0x20 => rowsALM
  | 0x28 => rowsCALL
  | 0x18 => rowsUIO
  | 0x19 => rowsDIO
  | 0x1A => rowsJKT
  | 0x38 => rowsPAIR
  | 0x30 => rowsBUS
  | 0x31 => rowsBUS
  | 0x32 => rowsBUS
  | 0x33 => rowsBUS
  | 0x34 => rowsMSG
  | 0x35 => rowsTSYNC
  | 0x40 => rowsMEM
  | 0x41 => rowsMPTU
  | 0x42 => rowsDMA
  | 0x48 => rowsNVM
  | 0x49 => rowsREC
  | 0x50 => rowsRTC
  | 0x51 => rowsBKPM
  | 0x58 => rowsSEC
  | 0x59 => rowsKEYV
  | 0x5A => rowsTAMP
  | 0x1 => rowsPWR
  | 0x2 => rowsCLK
  | 0x3 => rowsRST
  | 0x4 => rowsLAP
  | 0x7F => rowsDBG
  | _ => []

/-- RWS mask and reset value of each word of an entry of AFE.CTX. -/
def afeCtxWords : List (Nat × Nat) :=
  [(0xFFF1FEF0, 0x0), (0x1FF01FF, 0x0), (0x1FF01FF, 0x0), (0x1FF, 0x0), (0x3FFF3FFF, 0x0), (0x7FFFFFF, 0x0), (0xFFFFFFFF, 0x0), (0x3FFFFFF, 0x0), (0xFFFFFFFF, 0x0), (0xFFFFFFFF, 0x0), (0xFFFFFF3F, 0x0), (0xFFFFFFFF, 0x0), (0xFFFFFFFF, 0x0), (0xFFFFFFFF, 0x0), (0xFFFFFFFF, 0x0), (0xFFFFFFFF, 0x0)]

/-- RWS mask and reset value of each word of an entry of ALM.CTXA. -/
def almCtxaWords : List (Nat × Nat) :=
  [(0xFFFFFFE0, 0x0), (0xFFFFFFFF, 0x0), (0xFFFFFFFF, 0x0), (0x7FFFFFFF, 0x0), (0x7F7FFFFF, 0x0), (0x7FFFF, 0x0), (0x7FFFF, 0x0), (0xFFFF, 0x0), (0x0, 0x0), (0x0, 0x0), (0x0, 0x0), (0x0, 0x0), (0x0, 0x0), (0x0, 0x0), (0x0, 0x0), (0x0, 0x0)]

/-- RWS mask and reset value of each word of an entry of ALM.GRP. -/
def almGrpWords : List (Nat × Nat) :=
  [(0xFFFFFFFE, 0x0), (0xFFFF, 0x0), (0x0, 0x0), (0x0, 0x0), (0x0, 0x0), (0x0, 0x0), (0x0, 0x0), (0x0, 0x0)]

/-- RWS mask and reset value of each word of an entry of CALL.ROSTER. -/
def callRosterWords : List (Nat × Nat) :=
  [(0xC000FFFF, 0x0), (0xFFFFFFFF, 0x0), (0xFFFFFFFF, 0x0), (0xFFFFFFFF, 0x0), (0xFFFFFFFF, 0x0), (0xFFFFFFFF, 0x0), (0x0, 0x0), (0x0, 0x0), (0x0, 0x0), (0x0, 0x0), (0x0, 0x0), (0x0, 0x0), (0x0, 0x0), (0x0, 0x0), (0x0, 0x0), (0x0, 0x0)]

/-- RWS mask and reset value of each word of an entry of CALL.CP. -/
def callCpWords : List (Nat × Nat) :=
  [(0xFC3F3F00, 0x3F3F00), (0x3FF00FF, 0x0), (0xFFFF, 0x0), (0x0, 0x0), (0x0, 0x0), (0x0, 0x0), (0x0, 0x0), (0x0, 0x0)]

/-- RWS mask and reset value of each word of an entry of UIO.ENT. -/
def uioEntWords : List (Nat × Nat) :=
  [(0x8FFE03FF, 0x800000), (0xFFFFFFFF, 0x0), (0xFFFFFFFF, 0x0), (0xFFFFFFFF, 0x0), (0xFFFFFFFF, 0x0), (0xFFFFFFFF, 0x0), (0xFFF3F, 0x0), (0xFFFFFFFF, 0x0), (0xFFFFFFFF, 0x0), (0xFFFFFFFF, 0x0), (0xFFFFFFFF, 0x0), (0xFFFFFFFF, 0x0), (0x0, 0x0), (0x0, 0x0), (0x0, 0x0), (0x0, 0x0)]

/-- RWS mask and reset value of each word of an entry of DIO.PIN. -/
def dioPinWords : List (Nat × Nat) :=
  [(0xFFFE03FF, 0x2000000), (0xFFFFFFFF, 0x0), (0xFFFF03FF, 0x0), (0xFFFFFFFF, 0x0), (0x0, 0x0), (0x0, 0x0), (0x0, 0x0), (0x0, 0x0)]

/-- RWS mask and reset value of each word of an entry of MSG.ROUTE. -/
def msgRouteWords : List (Nat × Nat) :=
  [(0xF0FF03FF, 0x3FF), (0x0, 0x0), (0x0, 0x0), (0x0, 0x0), (0x0, 0x0), (0x0, 0x0), (0x0, 0x0), (0x0, 0x0), (0x0, 0x0), (0x0, 0x0), (0x0, 0x0), (0x0, 0x0), (0x0, 0x0), (0x0, 0x0), (0x0, 0x0), (0x0, 0x0)]

/-- RWS mask and reset value of each word of an entry of REC.HIST. -/
def recHistWords : List (Nat × Nat) :=
  [(0x8000000F, 0x0), (0xFFFFFFFF, 0x0), (0xFFFFFFFF, 0x0), (0xFFFFFFFF, 0x0), (0xFFFFFFFF, 0x0), (0xFFFFFFFF, 0x0), (0xFFFFFFFF, 0x0), (0xFFFFFFFF, 0x0), (0xFFFFFFFF, 0x0), (0xFFFFFFFF, 0x0), (0xFFFFFFFF, 0x0), (0xFFFFFFFF, 0x0), (0xFFFFFFFF, 0x0), (0xFFFFFFFF, 0x0), (0xFFFFFFFF, 0x0), (0xFFFFFFFF, 0x0), (0xFFFFFFFF, 0x0), (0xFFFFFFFF, 0x0), (0xFFFFFFFF, 0x0), (0xFFFFFFFF, 0x0), (0xFFFFFFFF, 0x0), (0xFFFFFFFF, 0x0), (0xFFFFFFFF, 0x0), (0xFFFFFFFF, 0x0), (0xFFFFFFFF, 0x0), (0xFFFFFFFF, 0x0), (0xFFFFFFFF, 0x0), (0xFFFFFFFF, 0x0), (0xFFFFFFFF, 0x0), (0xFFFFFFFF, 0x0), (0xFFFFFFFF, 0x0), (0xFFFFFFFF, 0x0)]

/-- RWS mask and reset value of each word of an entry of REC.CLS. -/
def recClsWords : List (Nat × Nat) :=
  [(0x80FFFFFF, 0x0), (0x0, 0x0), (0x0, 0x0), (0x0, 0x0)]

end Sys2Proof.Machine
end

