-- ==== Sys2Proof/Machine/Pages.lean ====
section
/-!
DEFINITION. What is fixed about the address space: the variants (R1), the spaces (R39), the table regions (R40), the pages
(R65) with the page-fixed header values their chapters state, and the domains (R42).
-/

namespace Sys2Proof.Machine

/-- The three members of the family (R1). -/
inductive Variant where
  | lm160 | lm080 | lm040
  deriving DecidableEq, Repr

/-- The variant code of PAGEID (R41). -/
def Variant.code : Variant → Nat
  | .lm160 => 1 | .lm080 => 2 | .lm040 => 3

/-- A resource count of R1, by variant. -/
def Variant.pick {α : Type} (v : Variant) (a b c : α) : α :=
  match v with
  | .lm160 => a | .lm080 => b | .lm040 => c

/-- Banks present. -/
def Variant.banks (v : Variant) : Nat := v.pick 8 4 2
/-- Sensor channels present. -/
def Variant.channels (v : Variant) : Nat := v.pick 160 80 40
/-- Alarm contexts present. -/
def Variant.contexts (v : Variant) : Nat := v.pick 1024 512 256
/-- Loop channels present. -/
def Variant.loops (v : Variant) : Nat := v.pick 8 4 2
/-- Digital pins present. -/
def Variant.pins (v : Variant) : Nat := v.pick 48 32 16
/-- Bus ports present. -/
def Variant.ports (v : Variant) : Nat := v.pick 4 4 2

/-- The twelve switched power domains, with the codes of R42. -/
inductive Domain where
  | bkp | aon | core | sram | nvm | comm | pair | cal | afeL | afeH | uio | dio
  deriving DecidableEq, Repr

/-- The code of a domain in the DOMAIN register (R42). -/
def Domain.code : Domain → Nat
  | .bkp => 0 | .aon => 1 | .core => 2 | .sram => 3 | .nvm => 4 | .comm => 5
  | .pair => 6 | .cal => 7 | .afeL => 8 | .afeH => 9 | .uio => 10 | .dio => 11

/-- The domain a code names (R42). -/
def Domain.ofCode : Nat → Option Domain
  | 0 => some .bkp | 1 => some .aon | 2 => some .core | 3 => some .sram | 4 => some .nvm | 5 => some .comm
  | 6 => some .pair | 7 => some .cal | 8 => some .afeL | 9 => some .afeH | 10 => some .uio | 11 => some .dio
  | _ => none

/-- Every domain, in the order of the codes. -/
def Domain.all : List Domain := [.bkp, .aon, .core, .sram, .nvm, .comm, .pair, .cal, .afeL, .afeH, .uio, .dio]

/-- What is fixed for a page (R41, R42 and the header table of its chapter). -/
structure PageInfo where
  number : Nat
  type : Nat
  inst : Nat
  caps : Nat
  enable : Nat
  domain : Domain
  deriving DecidableEq, Repr

/-- The pages of R65 in ascending order, with CAPS as the variant reads it. -/
def pageTable (v : Variant) : List PageInfo :=
  [ ⟨0x00, 0x00, 0, 0x00000000, 1, .core⟩, ⟨0x01, 0x01, 0, 0x8000004C, 1, .aon⟩
  , ⟨0x02, 0x02, 0, 0x00000000, 1, .aon⟩, ⟨0x03, 0x03, 0, 0x40000000, 1, .aon⟩
  , ⟨0x04, 0x04, 0, 0x80000044, 0, .aon⟩
  , ⟨0x08, 0x08, 0, 0x82E14040, 0, .afeL⟩, ⟨0x09, 0x08, 1, 0x82E14040, 0, .afeL⟩
  , ⟨0x0A, 0x08, 2, 0x82E14040, 0, .afeL⟩, ⟨0x0B, 0x08, 3, 0x82E14040, 0, .afeL⟩
  , ⟨0x0C, 0x08, 4, 0x82E14040, 0, .afeH⟩, ⟨0x0D, 0x08, 5, 0x82E14040, 0, .afeH⟩
  , ⟨0x0E, 0x08, 6, 0x82E14040, 0, .afeH⟩, ⟨0x0F, 0x08, 7, 0x82E14040, 0, .afeH⟩
  , ⟨0x10, 0x10, 0, v.pick 0x81A8053C 0x81A4053C 0x81A2053C, 1, .cal⟩, ⟨0x11, 0x11, 0, 0x80200060, 1, .core⟩
  , ⟨0x18, 0x18, 0, v.pick 0x80008040 0x80004040 0x80002040, 1, .uio⟩
  , ⟨0x19, 0x19, 0, v.pick 0x80030040 0x80020040 0x80010040, 1, .dio⟩, ⟨0x1A, 0x1A, 0, 0x00000000, 1, .core⟩
  , ⟨0x20, 0x20, 0, v.pick 0x920007FC 0x8A0007FC 0x860007FC, 1, .core⟩, ⟨0x28, 0x28, 0, 0x8820005C, 1, .core⟩
  , ⟨0x30, 0x30, 0, 0x80E0217C, 0, .comm⟩, ⟨0x31, 0x30, 1, 0x80E0217C, 0, .comm⟩
  , ⟨0x32, 0x30, 2, 0x80E0217C, 0, .comm⟩, ⟨0x33, 0x30, 3, 0x80E0217C, 0, .comm⟩
  , ⟨0x34, 0x34, 0, 0x80020068, 1, .core⟩, ⟨0x35, 0x35, 0, 0x80000044, 1, .core⟩
  , ⟨0x38, 0x38, 0, 0x80002044, 1, .pair⟩
  , ⟨0x40, 0x40, 0, 0x80000040, 1, .sram⟩, ⟨0x41, 0x41, 0, 0x800202FC, 1, .core⟩
  , ⟨0x42, 0x42, 0, 0x802401FC, 1, .core⟩, ⟨0x48, 0x48, 0, 0xC0020040, 1, .nvm⟩
  , ⟨0x49, 0x49, 0, v.pick 0x8010004C 0x8000004C 0x8000004C, 1, .core⟩
  , ⟨0x50, 0x50, 0, 0x40002000, 1, .bkp⟩, ⟨0x51, 0x51, 0, 0x00080000, 1, .bkp⟩
  , ⟨0x58, 0x58, 0, 0x00000000, 1, .core⟩, ⟨0x59, 0x59, 0, 0x40008000, 1, .bkp⟩
  , ⟨0x5A, 0x5A, 0, 0x40007000, 1, .bkp⟩, ⟨0x60, 0x60, 0, 0x00000000, 1, .comm⟩
  , ⟨0x7F, 0x7F, 0, 0x40000000, 1, .aon⟩ ]

/-- The page of a number, if R65 lists it. -/
def pageInfo? (v : Variant) (p : Nat) : Option PageInfo := (pageTable v).find? fun i => i.number == p

/-- Whether R65 lists a page; other page numbers behave as unmapped. -/
def pageListed (p : Nat) : Bool := (pageInfo? .lm160 p).isSome

/-- Whether a listed page is present on a variant (R1). -/
def pagePresent (v : Variant) (p : Nat) : Bool :=
  pageListed p &&
    match v with
    | .lm160 => true
    | .lm080 => !(decide (0x0C ≤ p ∧ p ≤ 0x0F) || p == 0x38)
    | .lm040 => !(decide (0x0A ≤ p ∧ p ≤ 0x0F) || p == 0x32 || p == 0x33 || p == 0x38)

/-- The domain of a page. -/
def pageDomain (p : Nat) : Domain := ((pageInfo? .lm160 p).map PageInfo.domain).getD .aon

/-- CAPS.shadowed of a page. -/
def pageShadowed (p : Nat) : Bool := bit (((pageInfo? .lm160 p).map PageInfo.caps).getD 0) 31

/-- CAPS.shend of a page. -/
def pageShend (p : Nat) : Nat := getBits (((pageInfo? .lm160 p).map PageInfo.caps).getD 0) 0 12

/-- A region of table space (R40): its shadow address, the bytes of an entry, how many entries the largest variant has, the
owner page, and the RWS bits and reset value of each word of an entry. -/
structure TableRegion where
  base : Nat
  size : Nat
  count : Nat
  page : Nat
  words : List (Nat × Nat)
  deriving DecidableEq, Repr

/-- The words of a custom curve slot (R138): kind and npts, the header fields up to byte 43, and the points from byte 64
to byte 1,599; the bytes between and after them are reserved. -/
def arithCurveWords : List (Nat × Nat) :=
  (0xC000007F, 0) :: List.replicate 10 (0xFFFFFFFF, 0) ++ List.replicate 5 (0, 0) ++ List.replicate 384 (0xFFFFFFFF, 0) ++
  List.replicate 112 (0, 0)

/-- The regions of R40 in the order of R40. -/
def tableRegions : List TableRegion :=
  (List.range 8).map (fun n => ⟨0x100000 + 0x1000 * n, 64, 20, 8 + n, afeCtxWords⟩) ++
  [ ⟨0x110000, 2048, 32, 0x11, arithCurveWords⟩
  , ⟨0x120000, 64, 1024, 0x20, almCtxaWords⟩, ⟨0x130000, 32, 64, 0x20, almGrpWords⟩
  , ⟨0x140000, 64, 16, 0x28, callRosterWords⟩, ⟨0x140400, 32, 32, 0x28, callCpWords⟩
  , ⟨0x150000, 64, 8, 0x18, uioEntWords⟩, ⟨0x151000, 32, 48, 0x19, dioPinWords⟩
  , ⟨0x160000, 64, 32, 0x34, msgRouteWords⟩
  , ⟨0x170000, 128, 160, 0x49, recHistWords⟩, ⟨0x178000, 16, 64, 0x49, recClsWords⟩ ]

/-- The region that holds an address of the shadow view. -/
def regionOf? (a : Nat) : Option TableRegion :=
  tableRegions.find? fun r => decide (r.base ≤ a ∧ a < r.base + r.size * r.count)

/-- How many entries of a region a variant has (R5). -/
def TableRegion.present (v : Variant) (r : TableRegion) : Nat :=
  if r.base = 0x120000 then v.contexts
  else if r.base = 0x150000 then v.loops
  else if r.base = 0x151000 then v.pins
  else if r.base = 0x170000 then v.channels
  else if pagePresent v r.page then r.count else 0

/-- Whether the word at an offset of a page is the one a row describes. -/
def RegRow.covers (r : RegRow) (off : Nat) : Bool :=
  decide (r.first ≤ off) && (off - r.first) % r.stride == 0 && decide ((off - r.first) / r.stride < r.count)

/-- The row of a block register.
(DEDUCED, notes/assumptions/10.md.) -/
def rowAt? (page off : Nat) : Option RegRow := (pageRows page).find? fun r => r.covers off

/-- Registers of CAL of a bank the variant does not have, those of its channels among them (R204; DEDUCED,
notes/assumptions/21.md).
(DEDUCED, notes/assumptions/10.md.) -/
def bankRegAbsent (v : Variant) (a : Nat) : Bool :=
  let i := a % 0x1000
  a / 0x1000 == 0x10 &&
    ((decide (0x50 ≤ i ∧ i < 0x70) && decide (v.banks ≤ (i - 0x50) / 4)) ||
     (decide (0xE0 ≤ i ∧ i < 0x140) && decide (v.banks ≤ (i - 0xE0) / 4 % 8)) ||
     (decide (0x400 ≤ i ∧ i < 0x540) && decide (v.channels ≤ (i - 0x400) / 4 * 2)) ||
     (decide (0x600 ≤ i ∧ i < 0x6A0) && decide (v.channels ≤ (i - 0x600) / 4 * 4)) ||
     (decide (0x6A0 ≤ i ∧ i < 0x6B4) && decide (v.channels ≤ (i - 0x6A0) / 4 * 32)))

/-- Bits of a configuration word that the variant has: DOMREQ bits of absent domains read 0 (R533).
(DEDUCED, notes/assumptions/10.md.) -/
def variantMask (v : Variant) (a : Nat) : Nat :=
  if a = 0x1048 then (if v = .lm160 then 0xFF0 else 0xDB0) else 0xFFFFFFFF

/-- Whether a table word belongs to an entry the variant has (R5). -/
def entryPresent (v : Variant) (a : Nat) : Bool :=
  match regionOf? a with
  | some r => decide ((a - r.base) / r.size < r.present v)
  | none => false

/-- Whether a word of the address space belongs to a resource the variant lacks (R5, R204). -/
def wordAbsent (v : Variant) (a : Nat) : Bool := if a < 0x100000 then bankRegAbsent v a else !entryPresent v a

/-- The RWS bits of a word of configuration, by its address (a register's, or a table word's in the shadow view). -/
def cfgMask (a : Nat) : Nat :=
  if a < 0x100000 then ((rowAt? (a / 0x1000) (a % 0x1000)).map RegRow.rws).getD 0
  else
    match regionOf? a with
    | some r => ((r.words[(a - r.base) % r.size / 4]?).map Prod.fst).getD 0
    | none => 0

/-- The reset value of a word of the address space before any write (the access tables; CTL.enable and QTIMEOUT of the
page header, R41). -/
def resetNat (a : Nat) : Nat :=
  if a < 0x100000 then
    let p := a / 0x1000
    let off := a % 0x1000
    if off = 0x00C then ((pageInfo? .lm160 p).map PageInfo.enable).getD 0
    else if off = 0x038 then 1000
    else ((rowAt? p off).map RegRow.reset).getD 0
  else
    match regionOf? a with
    | some r => ((r.words[(a - r.base) % r.size / 4]?).map Prod.snd).getD 0
    | none => 0

/-- The reset value as a word. -/
def resetWord (a : Nat) : Word := BitVec.ofNat 32 (resetNat a)

/-- The words of a page's shadow region in the order of R49: the register words 0x040 to CAPS.shend, then each table region
of the page in the order of R40. -/
def shadowAddrs (p : Nat) : List Nat :=
  (if pageShadowed p then (List.range ((pageShend p - 0x40) / 4 + 1)).map (fun i => 0x1000 * p + 0x40 + 4 * i) else []) ++
  (tableRegions.filter (fun r => r.page == p)).flatMap fun r => (List.range (r.size * r.count / 4)).map fun i => r.base + 4 * i

/-- Whether an address holds a word of page `p`'s configuration. -/
def inShadowRegion (p a : Nat) : Bool :=
  if a < 0x100000 then a / 0x1000 == p && decide (0x40 ≤ a % 0x1000) && decide (a % 0x1000 ≤ pageShend p)
  else
    match regionOf? a with
    | some r => r.page == p
    | none => false

end Sys2Proof.Machine
end

