-- ==== Sys2Proof/Machine/State.lean ====
section
/-!
DEFINITION. The state of the node: every register word, the three copies of the configuration, the memories, and what
each engine holds between two commands. All of it is plain data.
-/

namespace Sys2Proof.Machine

/-- Why a command stops the model. No command of this node does: every row has an effect (the constructor is the closed
type's only inhabitant and nothing raises it). -/
inductive Fault where
  /-- Raised by no meaning. Safe: the model never stops with it. -/
  | unreachable
  deriving DecidableEq, Repr

/-- Why a command has no meaning. -/
inductive Refusal where
  /-- A row of the table whose meaning is not written; raised by the dispatcher alone. Safe: the run stops. -/
  | notModelled (mnemonic : String)
  deriving DecidableEq, Repr

/-- A term of the table of R160 for a modulator at a gain code: o in 2^-8 codes, g in 2^-30, σ and u_o in 2^-16 codes, u_g
in 2^-16 ppm, d in 2^-24 ppm/s, t_s in µs. -/
structure ModTerm where
  o : Int := 0
  g : Nat := 1073741824
  sigma : Nat := 1048576
  uo : Nat := 1048576
  ug : Nat := 65536000
  d : Nat := 16778
  ts : Int := -900000000
  unstrided : Bool := true
  deriving DecidableEq, Repr

/-- A source entry of R160: iex in 0.5 µA, e_s and u_x in 2^-16 ppm, and when it was checked. -/
structure SrcTerm where
  iex : Nat := 0
  es : Int := 0
  ux : Nat := 65536000
  checked : Nat := 0
  deriving DecidableEq, Repr

/-- A shunt entry of R160: e_k and u_x in 2^-16 ppm. -/
structure ShuntTerm where
  ek : Int := 0
  ux : Nat := 65536000
  deriving DecidableEq, Repr

/-- The term table of R159, held in CORE: entries by bank, item and gain code; an entry not listed has its initial value
(R599); and the persistent state of R160: retired channels, retired modulators by bank, failed references. -/
structure TermTable where
  initial : ModTerm := {}
  mods : Keyed ModTerm := []
  srcs : Keyed SrcTerm := []
  shunts : Keyed ShuntTerm := []
  retiredCh : List Nat := []
  retiredMods : Keyed Nat := []
  failedRefs : Nat := 0
  deriving DecidableEq, Repr

/-- What a conversion brings to ARITH. -/
inductive EntryKind where
  | sampled | overload | openWire | abort | abandoned | unplaced | test | loop
  deriving DecidableEq, Repr

/-- An entry of ARITH's input queue (R151), with the configuration and the terms its main phase started with (R131,
R152): the sixteen words of the context, ARITH.CFG, CJSRC of its bank, the listed words of its curve slot, the serving
modulator's term, the source's and the shunt's; the lead resistance in µΩ (R92) and its deviation (R145); whether the record
has VALID clear whatever its conversion gives (R278, R336), whether the partner's excitation was absent (R337), whether a phase was restarted,
whether a loop sample left its range (R278), and in listen mode the holder's outcome (R337). -/
structure ConvEntry where
  ch : Nat
  lap : Nat
  stime : Nat
  kind : EntryKind
  sum : Int := 0
  n : Nat := 1
  words : List Word := []
  arithCfg : Word := 0
  cjsrc : Nat := 1023
  curve : List (Nat × Word) := []
  modulator : Nat := 0
  term : ModTerm := {}
  src : SrcTerm := {}
  shunt : ShuntTerm := {}
  leadF : Int := 0
  leadDev : Nat := 0
  leadMissing : Bool := false
  forcedLane : Bool := false
  invalid : Bool := false
  absent : Bool := false
  restarted : Bool := false
  ovr : Bool := false
  holder : Nat := 0
  deriving DecidableEq, Repr

/-- How a record counts for a channel's health (R185). -/
inductive HealthClass where
  | good | failure | neutral
  deriving DecidableEq, Repr

/-- A result record (R147), with the working value, its standard uncertainty (both in 2^-56 of the unit, R144), the unit code it was
formed with (R130) and the outcome of the channel's own conversion, with its NE 43 indication (R213), and whether VALID is clear for an
absent excitation (R337, R339). -/
structure ResultRec where
  ch : Nat
  lap : Nat
  stime : Nat
  value : Int
  u95 : Nat
  status : Nat
  y : Int := 0
  u : Nat := 0
  health : HealthClass := .neutral
  openShort : Bool := false
  ne43 : Bool := false
  unit : Nat := 0
  absent : Bool := false
  deriving DecidableEq, Repr

/-- A newest VALID value that ARITH keeps of a channel, for cold junctions and lead temperatures (R140, R95). -/
structure KeptValue where
  y : Int := 0
  u : Nat := 0
  lap : Nat := 0
  deriving DecidableEq, Repr

/-- What ARITH holds besides its registers: the queue; values kept for cold junctions and leads; the newest record of each channel; and
what retired channels deliver if their substitutes give no record in the lap (R187). -/
structure ArithState where
  queue : List ConvEntry := []
  owed : List ResultRec := []
  kept : Keyed KeptValue := []
  newest : Keyed ResultRec := []
  deriving DecidableEq, Repr

/-- The phase a slot is in (R101). -/
inductive SlotPhase where
  | burnout | lead | waiting | main | ended
  deriving DecidableEq, Repr

/-- A placed slot of the schedule (R97): context, lane, start and duration in µs, and the source (0 none, 1 IEXA,
2 IEXB). -/
structure Slot where
  ctx : Nat
  lane : Nat
  start : Nat
  dur : Nat
  source : Nat
  deriving DecidableEq, Repr

/-- A slot that is running: the phase, whether the filter's samples count yet, the samples so far of the live modulator
and of the spare, the entry its main phase will pass, the µs from the boundary at which it began, how far it will run past its end
and whether later slots already wait for that (R109), and the sense wire under test (R103: 0 none, 1 SNS+, 2 SNS−). -/
structure SlotRun where
  ctx : Nat
  lane : Nat
  source : Nat
  phase : SlotPhase
  settled : Bool := false
  leadLap : Bool := false
  words : List Word := []
  entry : Option ConvEntry := none
  sum : Int := 0
  spareSum : Int := 0
  count : Nat := 0
  restarts : Nat := 0
  overload : Bool := false
  began : Nat := 0
  past : Nat := 0
  charged : Bool := false
  sense : Nat := 0
  deriving DecidableEq, Repr

/-- The lead filter of a context (R92 to R94). -/
structure LeadState where
  valid : Bool := false
  dev : Nat := 100
  rejects : Nat := 0
  deriving DecidableEq, Repr

/-- What a bank holds besides its registers. -/
structure AfeBank where
  sched : List Slot := []
  unplaced : List Nat := []
  todo : List Nat := []
  running : List SlotRun := []
  delay : Nat := 0
  used : Nat := 0
  scanning : Bool := false
  joined : Bool := false
  leadForced : List Nat := []
  leadNext : List Nat := []
  leads : Keyed LeadState := []
  openNow : Nat := 0
  shortNow : Nat := 0
  restartNow : Nat := 0
  abortNow : Nat := 0
  changedA : Bool := false
  changedB : Bool := false
  persistA : Nat := 0
  persistB : Nat := 0
  outA : Bool := false
  outB : Bool := false
  bridgeTripped : Bool := false
  reschedule : Bool := false
  deriving DecidableEq, Repr

/-- A reference conversion of a reference phase (R171, R175). -/
inductive RefConv where
  | zero (gain : Nat)
  | ref (gain ref : Nat)
  | source (iexb : Bool) (index iex resistor gain : Nat)
  deriving DecidableEq, Repr

/-- The result of a reference conversion: the sum of its 32 codes, the sum of their squares, STIME at its end. -/
structure RefResult where
  conv : RefConv
  sum : Int
  sumSq : Nat
  stime : Nat
  deriving DecidableEq, Repr

/-- What CAL holds of a bank's stride: the boundaries of R170 with the lap period live at the previous one, a boundary still to be
planned anew from it, the reference phase and its conversions, field corrections as they stood when it started (R191),
comparisons and whether the overlap lap had a main phase (R178), deferral and a conversion that completes all the same (R198),
the initial rotation (R184), forced lanes (R181), modulators whose retirement waits for its boundary (R180), and STALE records in this
and the last lap (R183). -/
structure StrideState where
  bPrev : Nat := 0
  prevLap : Nat := 0
  replan : Bool := false
  started : Bool := false
  boundary : Nat := 0
  cfV : Int := 0
  cfR : Int := 0
  convs : List RefConv := []
  repeated : List RefConv := []
  results : List RefResult := []
  refFailed : Bool := false
  refDone : Bool := false
  srcFailed : List RefConv := []
  deferred : Bool := false
  finishing : Bool := false
  mainSeen : Bool := false
  compared : Bool := false
  cmpFailed : Bool := false
  repeatDue : Bool := false
  repeatMissed : Bool := false
  passed : List (Nat × Nat) := []
  initial : Bool := true
  forcedLanes : List Nat := []
  retiring : List Nat := []
  staleNow : Bool := false
  stalePrev : Bool := false
  lapsLeft : Nat := 0
  deriving DecidableEq, Repr

/-- A field calibration run (R191): requested and not yet begun, running, ready; and what the copies that carry its accepted
correction hold apart from sequence, persistent state and CRC (R193). -/
structure FieldCal where
  requested : Bool := false
  running : Bool := false
  ready : Bool := false
  storing : Bool := false
  content : List Byte := []
  deriving DecidableEq, Repr

/-- What CAL holds besides its registers: strides by bank, when the monitor last ran and the run in progress, the last
valid module temperature, persistence counts by channel, the pending command (op, bank, argument), the gain at each
modulator's last drift record, the calibration store content in use (no bytes: none valid) and the copies being
written, references reinstated that wait for a monitor run, and those the run in progress takes back (R189), and the TML party that
waits for the result of the pending command (R393). -/
structure CalState where
  strides : Keyed StrideState := []
  monitorLast : Option Nat := none
  monitorRunning : Bool := false
  tmod : Option Int := none
  persist : Keyed Nat := []
  pendingCmd : Option (Nat × Nat × Nat) := none
  fcal : FieldCal := {}
  driftGain : Keyed Nat := []
  copy : List Byte := []
  writes : List (Bool × List Byte) := []
  reinstate : Nat := 0
  rejoin : Nat := 0
  reply : Option Nat := none
  deriving DecidableEq, Repr

/-- What REC holds while it is quiesced (R467): events, records, and the copying of the anchors into the working image (R463). -/
inductive RecHeld where
  | event (code k : Nat) (payload : List Byte)
  | result (r : ResultRec)
  | anchors
  deriving DecidableEq, Repr

/-- The suppression of a class (R462): first and last suppressed operating times and the last code. -/
structure Suppressed where
  first : Nat
  last : Nat
  code : Nat
  deriving DecidableEq, Repr

/-- Changes since a base (R457): increments by channel × 64 + bin (32 the invalid count), extremes by channel and slot,
the operating time of a leg start. -/
structure RecChanges where
  increments : Keyed Nat := []
  extremes : List (Nat × Nat) := []
  legStart : Nat := 0
  deriving DecidableEq, Repr

/-- What REC holds besides its registers and its working area in SRAM: staged records, oldest first; what waits under a
quiesce; commands waiting for the next boundary (op, argument); the changes since the newest verified base and since the
base being written; a base due whatever the intervals; the STIME at which the newest verified base was captured; the base being
written (sector, sequence, bytes) and the STIME of its capture; the sector of the newest verified base, its sequence and the next
delta page; suppression by class; the archive acknowledged (S, its store offset, the CRC); a log clear in progress (sectors to
erase; the offset LOGSTART moves to; S, archive CRC and sector count); drops not yet told by a record; the log sector whose header
is written and the sequence of the next header; whether REC is still to resume (R460); the µs that a page program in progress still
takes once a quiesce is requested (R467). -/
structure RecState where
  staged : List (List Byte) := []
  held : List RecHeld := []
  waiting : List (Nat × Nat) := []
  changes : RecChanges := {}
  sinceCapture : RecChanges := {}
  baseDue : Bool := true
  baseTime : Nat := 0
  writing : Option (Nat × Nat × List Byte) := none
  captureTime : Nat := 0
  baseSector : Nat := 31
  deltaPage : Nat := 0
  suppressed : Keyed Suppressed := []
  archive : Option (Nat × Nat × Nat) := none
  clearing : List Nat := []
  clearTo : Nat := 0
  clearS : Nat := 0
  clearCrc : Nat := 0
  clearCount : Nat := 0
  untold : Nat := 0
  sectorOpen : Option Nat := none
  sectorSeq : Nat := 0
  resume : Bool := true
  finishing : Nat := 0
  deriving DecidableEq, Repr

/-- Who issued a store command, and what for: host software; REC, to erase a sector of a log clear (R462), to program staged records,
to program a base, to erase a sector of the snapshot ring (R459); CAL, to write a copy of its store (R195). -/
inductive NvmOwner where
  | host | recErase (sector : Nat) | recRecords | recBase | recSector (sector : Nat) | calCopy
  deriving DecidableEq, Repr

/-- A store command (R437): op, SRAM source, store offset, length. -/
structure NvmCmd where
  owner : NvmOwner
  op : Nat
  src : Nat
  addr : Nat
  len : Nat
  deriving DecidableEq, Repr

/-- What NVM holds besides its registers: the command running, those waiting, and pages left undefined by a cut (R440),
each with the draw that names its content, and the 32-byte blocks whose read is corrected or uncorrectable (R435). -/
structure NvmState where
  running : Option NvmCmd := none
  waiting : List NvmCmd := []
  undefined : Keyed Nat := []
  weak : List Nat := []
  bad : List Nat := []
  deriving DecidableEq, Repr

/-- A chained stream's descriptor as read (R427, R428) and how far the job has come: the bytes of this descriptor moved,
those moved since the stream took the engine, and the CRC-32 register over the descriptor's bytes. `unread`: the descriptor
is still to be read, with true where a restart goes on at byte `off` (R428, R432). `done`: the burst in progress has completed a
descriptor (R430). -/
structure DmaStream where
  desc : Nat := 0
  src : Nat := 0
  dst : Nat := 0
  len : Nat := 0
  ctl : Nat := 0
  next : Nat := 0
  off : Nat := 0
  since : Nat := 0
  crcReg : Nat := 0xFFFFFFFF
  unread : Option Bool := none
  done : Bool := false
  deriving DecidableEq, Repr

/-- A job that the producer of a bound stream holds while the engine takes up no work (R434, R420). -/
inductive DmaJob where
  | result (r : ResultRec)
  | notification (entry : List Byte)
  | received (port queue : Nat) (entry : List Byte)
  deriving DecidableEq, Repr

/-- What DMA holds besides its registers: the contexts of chained streams, and jobs held by producers. -/
structure DmaState where
  ctx : Keyed DmaStream := []
  jobs : List DmaJob := []
  deriving DecidableEq, Repr

/-- What of ALM's state a save keeps besides the words that R526 lists (R229, R239, R240): the te of the last evaluation, the level of the
newest kind 0xA entry and the levels reached since, when shelvings were set, and the possible-basis conditions. -/
structure AlmKept where
  lastTe : Nat := 0
  level : Nat := 0
  levels : List Nat := []
  shelvedAt : Keyed Nat := []
  possible : List Nat := []
  deriving DecidableEq, Repr

/-- What PWR holds besides its registers: the domains powered; the last samples of VMON; for each level 1 to 4, how many samples
(of 250 µs) the mean has stayed at or above its exit threshold and how many have passed since it was entered; the reason of
the sequence of R524 and the save sequence; the means below 90 % of GOVLIM; domains left off by a missing
power-good; the governor's cap; whether the core state is still to be read back (R527); whether Nap or Stow has been entered since
COMM was last powered (R379); what a save keeps of ALM; and whether a wake source has asserted since Stow was asked for (R544). -/
structure PwrState where
  on : List Domain := Domain.all
  vmon : List Nat := []
  above : List Nat := [0, 0, 0, 0]
  since : List Nat := [0, 0, 0, 0]
  saveReason : Nat := 1
  saveSeq : Nat := 0
  under : Nat := 0
  abandoned : List Domain := []
  govCap : Bool := false
  restoring : Bool := false
  slept : Bool := false
  almKept : AlmKept := {}
  woken : Bool := false
  deriving DecidableEq, Repr

/-- What the reset controller holds: asserted sources (bits of R546), the widest reach of the reset in force, blocks held
or not yet released, the place in the order of R549 at which a release was abandoned, block and domain requests waiting for idle
and pages whose QTIMEOUT has run out, the boot verification still to come (R492), the hold of R507, whether the logic rails
were lost since the SRAM was last initialised, whether the APLL is unlocked and the HFXO has failed (R536), and whether VDDIO is present and has been measured
since it came up (R505). -/
structure RstState where
  asserted : List Nat := []
  reach : Nat := 0
  held : List Nat := []
  releaseFrom : Option Nat := none
  blockWait : List Nat := []
  domainWait : List Domain := []
  timedOut : List Nat := []
  bootPending : Bool := true
  sequenceHold : Bool := false
  cold : Bool := false
  apllLost : Bool := false
  hfxoLost : Bool := false
  vddio : Bool := true
  deriving DecidableEq, Repr

/-- What the lap scheduler holds: the period a standby last received (R333), the lap timer and the next grid point in µs, the start
of the current lap, whether the lap's evaluation has ended, channels scanned whose records are still to come, the channels scanned
in the lap and those that have delivered their record of it (R11), the channels due in the lap and not paused by shedding (R99), whether the next boundary begins a new grid (R538, R544, R553), and whether it is
boundary 0 (R538). -/
structure LapState where
  timer : Nat := 0
  markPeriod : Option Nat := none
  nextGrid : Nat := 0
  lapStart : Nat := 0
  evalDone : Bool := true
  awaited : List Nat := []
  scanned : List Nat := []
  delivered : List Nat := []
  due : List Nat := []
  fresh : Bool := false
  zero : Bool := false
  deriving DecidableEq, Repr

/-- A frozen reading of a requester class (R473): the nine values. -/
structure Freeze where
  values : List Nat
  deriving DecidableEq, Repr

/-- What RTC holds besides its registers: the live time as whole seconds from 2000-01-01 00:00:00 and the sub-second
counter (R469); freezes by requester class; the pending command (op, back, n, class); the last-fired second of each alarm
(R480); whether a SET has been applied since osf was last set (R472); the tick in the trim period and the trim in force
(R471); and whether an alarm with its wake set has just fired (R478). -/
structure RtcState where
  seconds : Nat := 0
  subsec : Nat := 0
  freezes : Keyed Freeze := []
  pendingCmd : Option (Nat × Bool × Nat × Nat) := none
  lastFired : Keyed Nat := []
  setSince : Bool := false
  trimTick : Nat := 0
  trim : Int := 0
  wake : Bool := false
  deriving DecidableEq, Repr

/-- A change of a context that ALM reports (R244, R246): the kind of its entry, the state before, the cause. -/
structure AlmChange where
  ctx : Nat
  kind : Nat
  prev : Nat
  cause : Nat
  deriving DecidableEq, Repr

/-- A command waiting in the queue of ALM or CALL (R208, R261): op, target, argument, whether it comes from an input, whether the
partner forwarded it (R341), and the TML party that waits for its result (R393). -/
structure QueuedCmd where
  op : Nat
  target : Nat
  arg : Nat
  input : Bool := false
  forwarded : Bool := false
  reply : Option Nat := none
  deriving DecidableEq, Repr

/-- The configuration by which a group is shown and driven (R242): its horn and lamp pins, and the categories of each. -/
structure GroupCfg where
  horn : Nat
  lamp : Nat
  hornCat : Nat
  lampCat : Nat
  deriving DecidableEq, Repr

/-- What ALM holds besides its registers: the newest record of each channel and the newest earlier VALID one (R206, R215);
the contexts whose possible-basis condition is set (R231); when a shelving was last set (R229); the previous te; t_release
by condition (R232); a restart of the delays (R240); the group members held by shedding (R239), contexts that became
unacked since the groups and since CALL last looked (R236, R260), changes not yet reported; quiet evaluations (R248); the
position of a re-scan, and drops that wait for one (R247); the level of the newest kind 0xA entry, and the levels reached since (R239);
whether flood mode holds entries back (R248); the enabled groups as of the newest evaluation (R242); the pins that each group drives
(R238); commands waiting. -/
structure AlmState where
  inputs : Keyed ResultRec := []
  valid : Keyed ResultRec := []
  possible : List Nat := []
  shelvedAt : Keyed Nat := []
  lastTe : Nat := 0
  falling : Keyed Nat := []
  restart : Bool := false
  held : List Nat := []
  became : List Nat := []
  news : List Nat := []
  changes : List AlmChange := []
  quiet : Nat := 0
  rescan : Option Nat := none
  dropped : Bool := false
  level : Nat := 0
  levels : List Nat := []
  floodOn : Bool := false
  groups : Keyed GroupCfg := []
  driven : Keyed Nat := []
  queue : List QueuedCmd := []
  deriving DecidableEq, Repr

/-- What CALL holds besides its registers: t_ans, t_reset and the te from which an offer runs (R260, R263, R264); the old
engineers of handovers during stage duty (R265); demands received, by node, with the STIME of their refresh (R254); the
STIME of the newest presence message of each TML call point (R258); commands waiting; whether the arming input was high
when it was last seen; a restart of the timers (R266), whether arm_pin is still to be looked at after a release, and since when a quiesce freezes the timers
(R268). -/
structure CallState where
  tAns : Nat := 0
  tReset : Nat := 0
  tOffer : Nat := 0
  lastTe : Nat := 0
  oldDuty : List Nat := []
  demands : Keyed (Bool × Nat) := []
  presence : Keyed Nat := []
  queue : List QueuedCmd := []
  restart : Bool := false
  armDue : Bool := false
  frozen : Option Nat := none
  sentDemand : Option Bool := none
  deriving DecidableEq, Repr

/-- What UIO holds of a loop channel besides its registers: the record window (lap, sum and count of samples, a sample out
of range, the link lost, R277, R278); runs of samples for R279 and R280; the blanking after a code change; whether a sample
has come and driving has begun since release (R288), and whether a row that drives the output was in force last; the newest record's OVR or DOM; and the two status inputs with their
change stamps (R282). -/
structure LoopState where
  winLap : Nat := 0
  winOpen : Bool := false
  winSum : Int := 0
  winCount : Nat := 0
  winOvr : Bool := false
  winBad : Bool := false
  satRun : Nat := 0
  clearRun : Nat := 0
  lowRun : Nat := 0
  highRun : Nat := 0
  mismatch : Nat := 0
  matchRun : Nat := 0
  settleLeft : Nat := 0
  sampled : Bool := false
  started : Bool := false
  driving : Bool := false
  samples : Nat := 0
  saturated : Bool := false
  recBad : Bool := false
  fault : Bool := false
  faultAt : Nat := 0
  window : Bool := false
  windowAt : Nat := 0
  deriving DecidableEq, Repr

/-- What the field end holds of a digital pin: the filter's counter and state (R298), the samples until it is valid after
VFIELD returned (R308); a trip that waits for its restart (1 SHORT, 2 THERM); the flags, OPEN of the on-state check and OPEN of the
wire-break test apart (R302); wire-break tests in a row that found it open; the state driven. -/
structure FieldPin where
  count : Nat := 0
  s : Bool := false
  left : Nat := 0
  trip : Nat := 0
  short : Bool := false
  therm : Bool := false
  open_ : Bool := false
  openOff : Bool := false
  tests : Nat := 0
  above : Bool := false
  driven : Bool := false
  deriving DecidableEq, Repr

/-- A change event (R313, item 16): the pin, its new state, invalid, the field time of the sample, and whether it is to be stamped with
its delivery (R318). -/
structure ChangeEvent where
  pin : Nat
  state : Bool
  invalid : Bool
  time : Nat
  late : Bool := false
  deriving DecidableEq, Repr

/-- The jacket link (R311 to R319). Field end: time, pins, link state, consecutive errors and good frames, sequence of
its next frame and of the newest good frame it received, the item last sent and the next rotation item, what the newest
frame told it, the fail action of the outputs, whether they have been commanded since the link came up (R319), the loop channels whose fail action
stands and those that keep it until the evaluation of the lap (R286), whether VFIELD ended a hold for the loop channels (R285), the configuration
copy, change events, how many were lost since the logic end was told and the pins whose next event is late for it, the last measurements and the
state of VFIELD, die temperature, errors, outputs still to switch off. Logic end: the newest frame on the wire, its sequence, the
sequence of the newest good frame received and that frame's acknowledgement, items, good frames, echoes and whether one came in this pass,
whether follow is set and outputs are being restored, configuration words to send, the host's source values one frame ago, inputs last
reported invalid, since when every input is valid while VFIELD returns (R308), pins whose next stamp is that of delivery, change events
that wait for the link (R300), and the hold that the power manager asks for (0 none, 1 all, 2 essential-only).
(DESIGN CHOICE, notes/assumptions/6.md.) -/
structure JacketState where
  time : Nat := 0
  pins : Keyed FieldPin := []
  fLink : Nat := 0
  fErrors : Nat := 0
  fGood : Nat := 0
  fSeq : Nat := 0
  fHeard : Option Nat := none
  fAcked : Nat := 0
  fSent : Bool := false
  fLast : Nat × List Byte := (17, [])
  fItem : Nat := 0
  fHold : Nat := 0
  fFollow : Bool := false
  fPair : Bool := false
  commanded : Nat := 0
  failact : Bool := false
  ready : Bool := false
  loopFail : List Nat := []
  loopWait : List Nat := []
  loopFree : Bool := false
  config : WordMap := []
  events : List ChangeEvent := []
  lost : Nat := 0
  lateNext : List Nat := []
  volts : List Nat := []
  vstate : Nat := 0
  temp : Int := 0
  fErrCount : Nat := 0
  toSwitch : List Nat := []
  wakeLine : Bool := false
  wire : List Byte := []
  seq : Nat := 0
  sent : Bool := false
  heard : Option Nat := none
  acked : Nat := 0
  last : Nat × List Byte := (17, [])
  item : Nat := 0
  good : Nat := 0
  echo : Bool := false
  echoed : Bool := false
  echoBad : Nat := 0
  follow : Bool := false
  restoring : Bool := false
  cfgNext : Nat := 0
  cfgChanged : List Nat := []
  outset : Nat := 0
  ctxOut : Nat := 0
  invalid : Nat := 281474976710655
  validAt : Option Nat := none
  late : List Nat := []
  early : List (List Byte) := []
  hold : Nat := 0
  deriving DecidableEq, Repr

/-- A holder's DIGEST entry (R328): lap, status, mantissa, U95 and outcome. -/
structure DigestEntry where
  lap : Nat
  status : Nat
  value : Int
  u95 : Nat
  outcome : Nat
  deriving DecidableEq, Repr


/-- What PAIR holds besides its registers: the NID that the node at the other end of the link named in its newest LEASE (R79); the newest EXCREP of the holder (its source entries under the keys of
TermTable.srcs and the sources it reports out of regulation, bank × 2 + source); entries held for the holder's DIGEST, and
the newest entry of it by channel (R336, R337, R339); frames sent and not yet on the wire (lane, bytes), the sequence of each
lane; the partner's role, commanded outputs and readiness; the STIME of its newest LEASE, of its newest claim and of its
newest presence message; offer and acceptance of a handover, whether the standby asked for it, when the baton was handed over
and whether outputs are still driven for one frame (R346); boundaries since digests differed, alignment, the boundary that a
LAPMARK named (count, period, STIME), score margin (R331, R333, R344, R347); the lap of a mirror that waits, its bytes,
whether a mirror was applied since sync and in this lap; forwarded commands by block, with the TML party that waits for the result (R341); disagreements and agreements by
channel; excitation and release that wait for step 5 (R349, R350); until when no claim is made (R351); the partner's
EVALDONE, and that its wait is over (R334); the consecutive good frames of each lane; image blocks received (R354); pages whose
commit in progress was forwarded by the partner (R332); the newest listen-mode slot with a source, by channel, that started since the newest
claim (R338); when a split was last found (R351); and the TML party that waits for the result of the handover (R393).
(DESIGN CHOICE, notes/assumptions/6.md.) -/
structure PairState where
  peer : Option Nat := none
  excrep : Bool := false
  srcs : Keyed SrcTerm := []
  srcOut : List Nat := []
  held : List ConvEntry := []
  digests : Keyed DigestEntry := []
  sent : List (Nat × List Byte) := []
  seq0 : Nat := 0
  seq1 : Nat := 0
  pRole : Nat := 0
  pReady : Bool := false
  dout : Nat := 0
  heardAt : Option Nat := none
  claimAt : Option Nat := none
  presenceAt : Option Nat := none
  accepted : Bool := false
  offered : Option Nat := none
  asked : Bool := false
  handedAt : Option Nat := none
  lateRelease : Bool := false
  diffRun : Nat := 0
  alignRun : Nat := 0
  lapMark : Option (Nat × Nat × Nat) := none
  marginRun : Nat := 0
  mirror : List Byte := []
  mirrorReady : Option Nat := none
  mirrored : Bool := false
  mirrorDone : Bool := false
  forwarded : List (Nat × Option Nat) := []
  disagree : Keyed Nat := []
  agree : Keyed Nat := []
  exciteAt : Bool := false
  releasing : Bool := false
  silentUntil : Nat := 0
  partnerDone : Option Nat := none
  doneTimeout : Bool := false
  good0 : Nat := 0
  good1 : Nat := 0
  image : List (Nat × List Byte) := []
  foreign : List Nat := []
  slot : Option Nat := none
  splitAt : Option Nat := none
  reply : Option Nat := none
  deriving DecidableEq, Repr


/-- What a bus port holds besides its registers: the error counters (R364), TSC and STIME at the start of frame of the running
attempt (R378), the buffer that R373 designates, a change of bit timing that waits for the frame in progress (R363), the
pause of R366, the seq counts of the two queues (R376), STIME at the start of frame of each stored entry, by queue × 32 +
entry (R405), the page's words before each commit since the newest frame, with the STIME of the commit (R363), and when the port last left
bus traffic by a stop or a change of timing (R362). -/
structure PortState where
  tec : Nat := 0
  rec_ : Nat := 0
  sofTsc : Nat := 0
  sofStime : Nat := 0
  designated : Option Nat := none
  retiming : Bool := false
  pausing : Bool := false
  seq0 : Nat := 0
  seq1 : Nat := 0
  rxStime : Keyed Nat := []
  before : List (Nat × WordMap) := []
  left : Option Nat := none
  deriving DecidableEq, Repr

/-- A formed TML frame in a port queue or a transmit buffer: identifier, payload, the order in which it was formed, and the
ports that have sent it. -/
structure TmlFrame where
  id : Nat
  data : List Byte
  stamp : Nat
  sentOn : List Nat := []
  deriving DecidableEq, Repr

/-- A message that waits for the next unit of freshness values (R398): class, type, the seq byte, the ports, the body. -/
structure Outgoing where
  cls : Nat
  type : Nat
  seq : Nat
  ports : List Nat
  body : List Byte
  deriving DecidableEq, Repr

/-- An accepted frame that its consumer has not yet taken: the port it came by, identifier, body with padding, and STIME at its
start of frame. -/
structure Accepted where
  port : Nat
  id : Nat
  body : List Byte
  stime : Nat
  deriving DecidableEq, Repr

/-- A REG_REQ whose fragments are being collected (R392): source, tag, role, op, address, length, when fragment 0 came, and the
fragments by index with whether more follow. -/
structure Partial where
  source : Nat
  tag : Nat
  role : Nat := 0
  op : Nat := 0
  addr : Nat := 0
  len : Nat := 0
  started : Option Nat := none
  parts : Keyed (Bool × List Byte) := []
  deriving DecidableEq, Repr

/-- What MSG holds besides its registers: port queues, the frames it loaded by port × 3 + buffer, freshness counters by class
(the unit and the next count), messages that wait for the next unit, the last 16 freshness values sent by class (R400), the
newest pair accepted by source × 8 + class (R399), seq counts by type, the number of frames formed, accepted frames, partial
requests, records of the lap to publish (R391), the PAIR_STATUS body last sent, the stage that CALL messages last told, sync sequences by network (R405), results
of completed COMMANDs to send (requester, block, CMDSTAT; R393), and new variable records to send (R391). -/
structure MsgState where
  queues : Keyed (List TmlFrame) := []
  loaded : Keyed TmlFrame := []
  units : Keyed (Nat × Nat) := []
  waiting : List Outgoing := []
  recent : Keyed (List Nat) := []
  newest : Keyed Nat := []
  seqs : Keyed Nat := []
  formed : Nat := 0
  accepted : List Accepted := []
  partials : List Partial := []
  values : List ResultRec := []
  statusSent : List Byte := []
  callSent : Nat := 0
  syncSeq : Keyed Nat := []
  results : List (Nat × Nat × Nat) := []
  records : List (List Byte) := []
  deriving DecidableEq, Repr

/-- What TSYNC holds besides its registers: SYNCs received and not yet paired, by network (sequence, T_s); SYNCs sent, by port
(sequence and STIME at their start of frame); T_m of the previous accepted pair; consecutive pairs within 10 µs; a step
that waits for the next boundary, and whether it is SETTIME; the networks that deliver (R405); and whether a time source has
begun to send (R415). -/
structure TsyncState where
  syncs : Keyed (Nat × Nat) := []
  sent : Keyed (Nat × Nat) := []
  lastTm : Option Nat := none
  near : Nat := 0
  step : Option Int := none
  settime : Bool := false
  delivers : List Nat := []
  started : Bool := false
  deriving DecidableEq, Repr

/-- What SEC, KEYV and TAMP hold besides their registers: the 32 bytes of each valid slot (R485), which no requester reads;
the KEYDATA words written by the host port; the running SEC op (R501) and the hash that is being signed (R489); the operating
times of the MAC failures in the window (R493, R503); the µs for which an erase still runs (R494); sources latched in Backup, and
those detected while REC was not powered, that are not yet recorded (R494, R497); the levels of the inputs TAMP0 and TAMP1, and which
of them differed from their armed level at the last sample, by source bit (R493). -/
structure SecState where
  slots : Keyed (List Byte) := []
  keyData : Keyed Word := []
  running : Option Nat := none
  hash : Nat := 0
  failures : List Nat := []
  erasing : Nat := 0
  bkpNew : Nat := 0
  untold : Nat := 0
  pins : Nat := 0
  pinsBefore : Nat := 0
  deriving DecidableEq, Repr
/-- The instructions of the JTAG port (R563). -/
inductive TapInstr where
  | bypass | idcode | sample | extest
  deriving DecidableEq, Repr

/-- What the TAP controller and the boundary scan hold (R563): the instruction selected, what the data register last captured, the
cells as preloaded, and whether EXTEST drives the pins. -/
structure JtagState where
  instr : TapInstr := .idcode
  captured : Nat := 0
  cells : Nat := 0
  deriving DecidableEq, Repr

/-- The levels at the strap pins (R577). -/
structure StrapPins where
  boot : Nat := 0
  clkmode : Nat := 0
  nid : Nat := 0
  pairpos : Nat := 0
  deriving DecidableEq, Repr

/-- The variant; the straps as last sampled, at the release of a full reset (R32, R557), and the levels at their pins. Nothing in the node
changes the variant and the pins' levels.
(DESIGN CHOICE, notes/assumptions/4.md.) -/
structure Straps where
  variant : Variant := .lm160
  boot : Nat := 0
  clkmode : Nat := 0
  nid : Nat := 0
  pairpos : Nat := 0
  pins : StrapPins := {}
  deriving DecidableEq, Repr

/-- The state of the node. Register words are held by byte address: `regs` the words outside the shadow regions,
`live`, `shadow` and `mirror` the three copies of the configuration (R16, R49, R53), table words under their shadow
address; an address not listed holds its reset value. `sram` and `store` are the two memories; `switchTo` is the image that
SYS.IMGSW last named (R566). `stimeFrac` is the fraction of STIME in 2^-32 · 10^-9 µs (R537), `optimeFrac` the µs since the last
ms of the operating time, and `pacerFrac` how far the next pacer tick has come, in µs · 32,768 (of 10^6). `freeCount` numbers
the values drawn so far that the spec leaves open; it is the model's own. -/
structure State where
  straps : Straps := {}
  regs : WordMap := []
  live : WordMap := []
  shadow : WordMap := []
  mirror : WordMap := []
  dirty : List Nat := []
  locked : List Nat := []
  immediate : List Nat := []
  latched : Keyed Word := []
  status : Nat := 0
  response : List Byte := []
  responseCrc : Nat := 0
  freeCount : Nat := 0
  stime : Nat := 0
  stimeFrac : Nat := 0
  optimeFrac : Nat := 0
  pacerFrac : Nat := 0
  sram : Memory := []
  sramBad : List Nat := []
  sramWeak : List Nat := []
  store : Memory := []
  terms : TermTable := {}
  arith : ArithState := {}
  afe : Keyed AfeBank := []
  cal : CalState := {}
  recorder : RecState := {}
  nvm : NvmState := {}
  dma : DmaState := {}
  pwr : PwrState := {}
  rst : RstState := {}
  lap : LapState := {}
  rtc : RtcState := {}
  alarm : AlmState := {}
  call : CallState := {}
  loops : Keyed LoopState := []
  jkt : JacketState := {}
  pair : PairState := {}
  ports : Keyed PortState := []
  msg : MsgState := {}
  tsync : TsyncState := {}
  sec : SecState := {}
  jtag : JtagState := {}
  switchTo : Nat := 0
  pending : List Instr := []
  deriving DecidableEq, Repr

/-- The registers that differ from their reset values after a first power-up (notes/assumptions/4.md): supply strap (R505), the
power-on cause (R556), calibration store empty (R159) with every bank in state 1, loop rows at 1 (R288), no system key
(R397), the power-cycle count and its copy in backup memory (R450), the oscillator flag of RTC (R472), no identity (R488). -/
def State.resetRegs : WordMap :=
  [(0x1080, 0x00400000), (0x3040, 0x00000001), (0x10014, 0x20000000), (0x10020, 0x00000008), (0x10024, 0xFFFF0113)] ++
  ((List.range 8).map fun b => (0x100E0 + 4 * b, 0x00010000)) ++
  ((List.range 8).map fun u => (0x18100 + 4 * u, 0x10000000)) ++
  [(0x34014, 0x20000000), (0x34020, 0x00000002), (0x34024, 0xFFFF0111), (0x34100, 0x40000000), (0x49098, 0x00000001),
    (0x50014, 0x20000010), (0x50020, 0x00000001), (0x50024, 0xFFFF0110), (0x510BC, 0x00000001), (0x58014, 0x20000000),
    (0x58020, 0x00000001), (0x58024, 0xFFFF0110), (0x58050, 0x00010000), (0x58054, 0x00010000)]

/-- The node right after the release of a power-on reset, with an empty backup supply before it, the straps open (R577) and an
erased store: every domain is released, the SRAM is not initialised yet, and the boot image is still to be verified (R558,
events 7 and 8). The release record of R549 waits for the recorder.
(DESIGN CHOICE, notes/assumptions/4.md.) -/
def State.reset : State :=
  { regs := State.resetRegs
    afe := (List.range 8).map fun b => (b, { reschedule := true, leadForced := List.range 20 })
    ports := (List.range 4).map fun n => (n, {})
    jkt := { pins := (List.range 48).map fun p => (p, {}) }
    pwr := { on := [.bkp, .aon, .sram, .nvm, .core, .comm, .pair, .dio, .uio, .cal, .afeL, .afeH] }
    rst := { cold := true }
    recorder := { held := [.event 0x1000 2 [1, 0, 0, 0]] } }

end Sys2Proof.Machine
end

