-- ==== Sys2Proof/Machine/Ops.lean ====
section
/-!
DEFINITION. The named operations over register words and fields, over pages and domains, and over free values. Every read
and write of a register by an engine goes through them.
-/

namespace Sys2Proof.Machine

/-- The word at an address, of the live configuration or of the other registers. -/
def State.wordAt (s : State) (cfg : Bool) (a : Nat) : Word := Sparse.get resetWord (if cfg then s.live else s.regs) a

/-- A field's value: from the live configuration for configuration (R53), else from the register. -/
def State.rd (s : State) (r : Ref) : Nat :=
  if r.lo + r.w ≤ 32 then getBits (s.wordAt r.cfg r.addr).toNat r.lo r.w
  else getBits ((s.wordAt r.cfg r.addr).toNat + 2 ^ 32 * (s.wordAt r.cfg (r.addr + 4)).toNat) r.lo r.w

/-- A field's value in the shadow region. -/
def State.rdShadow (s : State) (r : Ref) : Nat :=
  getBits ((Sparse.get resetWord s.shadow r.addr).toNat + 2 ^ 32 * (Sparse.get resetWord s.shadow (r.addr + 4)).toNat) r.lo r.w

/-- A field read as two's complement. -/
def State.rdInt (s : State) (r : Ref) : Int := signed r.w (s.rd r)

/-- A one-bit field as a truth value. -/
def State.flag (s : State) (r : Ref) : Bool := s.rd r != 0

/-- Sets a register word. -/
def State.setReg (s : State) (a : Nat) (v : Word) : State := { s with regs := Sparse.set resetWord s.regs a v }

/-- Sets a field of a register. -/
def State.wr (s : State) (r : Ref) (v : Nat) : State :=
  if r.lo + r.w ≤ 32 then s.setReg r.addr (BitVec.ofNat 32 (putBits (s.wordAt false r.addr).toNat r.lo r.w v))
  else
    let x := putBits ((s.wordAt false r.addr).toNat + 2 ^ 32 * (s.wordAt false (r.addr + 4)).toNat) r.lo r.w v
    (s.setReg r.addr (BitVec.ofNat 32 x)).setReg (r.addr + 4) (BitVec.ofNat 32 (x / 2 ^ 32))

/-- Sets a field to an integer in two's complement. -/
def State.wrInt (s : State) (r : Ref) (v : Int) : State := s.wr r (unsigned r.w v)

/-- Sets a one-bit field. -/
def State.put (s : State) (r : Ref) (b : Bool) : State := s.wr r (ofBool b)

/-- Sets one bit of an array of 32-bit registers: bit (i mod 32) of register (i div 32). -/
def State.putNth (s : State) (r : Nat → Ref) (i : Nat) (b : Bool) : State :=
  s.wr { r (i / 32) with lo := (r (i / 32)).lo + i % 32, w := 1 } (ofBool b)

/-- One bit of an array of 32-bit registers. -/
def State.nth (s : State) (r : Nat → Ref) (i : Nat) : Bool := bit (s.rd (r (i / 32))) (i % 32)

/-- Applies an operation for each item in turn. -/
def State.each {α : Type} (s : State) (l : List α) (f : State → α → State) : State := l.foldl f s

/-- Applies an operation where a condition holds. -/
def State.when (s : State) (c : Bool) (f : State → State) : State := if c then f s else s

/-- Draws a value the spec leaves open (notes/assumptions/3.md). -/
def State.draw (s : State) : Nat × State := (Config.free s.freeCount, { s with freeCount := s.freeCount + 1 })

/-- Draws `n` values of `w` bits, the later ones in higher places.
(DESIGN CHOICE, notes/assumptions/3.md.) -/
def State.drawBits (s : State) (w : Nat) : Nat → Nat × State
  | 0 => (0, s)
  | n + 1 =>
    let (x, s1) := s.draw
    let (y, s2) := State.drawBits s1 w n
    (x % 2 ^ w + 2 ^ w * y, s2)

/-- The lap count (R538). -/
def State.lapCount (s : State) : Nat := s.rd LAP.COUNT

/-- The operating time in ms (R517). -/
def State.optime (s : State) : Nat := s.rd PWR.OPTIME.ms

/-- The power-cycle count (R450). -/
def State.powerCycles (s : State) : Nat := s.rd REC.PWRCYC.count

/-- The shedding level in force (R519). -/
def State.level (s : State) : Nat := s.rd PWR.STAT.level

/-- The variant of the node. -/
def State.variant (s : State) : Variant := s.straps.variant

/-- Whether a domain is powered. -/
def State.domainOn (s : State) (d : Domain) : Bool := s.pwr.on.contains d

/-- Whether a page exists on the variant. -/
def State.present (s : State) (p : Nat) : Bool := pagePresent s.variant p

/-- Whether the block of a page is powered and released (R17, R555). -/
def State.powered (s : State) (p : Nat) : Bool := s.present p && s.domainOn (pageDomain p) && !s.rst.held.contains p

/-- Whether the block of a page is powered, released and clocked: in Nap the clocks of CORE and SRAM are stopped and every state
is kept (R514). -/
def State.alive (s : State) (p : Nat) : Bool :=
  s.powered p && !(s.rd PWR.STAT.state == 2 && (pageDomain p == .core || pageDomain p == .sram))

/-- The pages on which CTL.enable 0 has no effect, or one of its own (R594). -/
def enableExempt (p : Nat) : Bool :=
  [0x00, 0x02, 0x03, 0x04, 0x30, 0x31, 0x32, 0x33, 0x50, 0x51, 0x59, 0x5A, 0x60, 0x7F].contains p

/-- Whether a block is under a quiesce request, or disabled with the same effect (R594). -/
def State.quiesced (s : State) (p : Nat) : Bool :=
  s.flag (HDR.CTL.qreq p) || (!enableExempt p && s.rd (HDR.CTL.enable p) == 0)

/-- Whether a block takes up new work. -/
def State.working (s : State) (p : Nat) : Bool := s.alive p && !s.quiesced p

/-- An interrupt cause of the page header is set (R41). -/
def State.irq (s : State) (r : Ref) : State := s.wr r 1

/-- The register of a command's state (R228 and the CMDSTAT registers like it): refused with a reason.
(DEDUCED, notes/assumptions/17.md.) -/
def State.cmdStat (s : State) (state reason : Ref) (st rs : Nat) : State := (s.wr state st).wr reason rs

/-- The bank's engine state. -/
def State.bank (s : State) (n : Nat) : AfeBank := Keyed.get {} s.afe n

/-- Sets the bank's engine state. -/
def State.setBank (s : State) (n : Nat) (b : AfeBank) : State := { s with afe := Keyed.put s.afe n b }

/-- Changes the bank's engine state. -/
def State.modBank (s : State) (n : Nat) (f : AfeBank → AfeBank) : State := s.setBank n (f (s.bank n))

/-- The stride state of a bank. -/
def State.stride (s : State) (n : Nat) : StrideState := Keyed.get {} s.cal.strides n

/-- Changes the stride state of a bank. -/
def State.modStride (s : State) (n : Nat) (f : StrideState → StrideState) : State :=
  { s with cal := { s.cal with strides := Keyed.put s.cal.strides n (f (s.stride n)) } }

/-- The outcome of a command that has an effect: every meaning of this node answers a next state. -/
abbrev Result := Host.Outcome State Fault Refusal

end Sys2Proof.Machine
end

