-- ==== Sys2Proof/Machine/Numeric.lean ====
section
/-!
DEFINITION. The numbers of the arithmetic pipeline: working values with jamming (R120 to R122), exact fractions and upward
reduction (R123), rounding half to even (R124).
-/

namespace Sys2Proof.Machine

/-- A working value: the integer W of W × 2^-56, and whether an operation it rests on left the working range (R122). -/
structure Wk where
  v : Int
  sat : Bool := false
  deriving DecidableEq, Repr

/-- One unit on the grid. -/
def one56 : Nat := 2 ^ 56

/-- The magnitude kept by jamming a quotient: the odd one of the two grid values around it, or itself (R121). -/
def jamMag (n d : Nat) : Nat := if n % d = 0 then n / d else if n / d % 2 = 1 then n / d else n / d + 1

/-- An exact result `n / d` in units of the grid, jammed, and held to the working range (R121, R122). -/
def jam (n : Int) (d : Nat) (sat : Bool := false) : Wk :=
  if n > (2 ^ 79 - 1) * d then ⟨2 ^ 79 - 1, true⟩
  else if n < -(2 ^ 79 * d) then ⟨-(2 ^ 79), true⟩
  else ⟨if n < 0 then -(jamMag n.natAbs d : Int) else jamMag n.natAbs d, sat⟩

/-- A value that rests on one more operation. -/
def Wk.marked (a : Wk) (sat : Bool) : Wk := ⟨a.v, a.sat || sat⟩

/-- Addition. -/
def Wk.add (a b : Wk) : Wk := jam (a.v + b.v) 1 (a.sat || b.sat)

/-- Subtraction. -/
def Wk.sub (a b : Wk) : Wk := jam (a.v - b.v) 1 (a.sat || b.sat)

/-- Multiplication. -/
def Wk.mul (a b : Wk) : Wk := jam (a.v * b.v) one56 (a.sat || b.sat)

/-- Multiplication by an exact fraction. -/
def Wk.scale (a : Wk) (n : Int) (d : Nat) : Wk := jam (a.v * n) d a.sat

/-- Division; by zero it gives a value the spec does not state. -/
def Wk.div (a b : Wk) : Wk :=
  if b.v = 0 then ⟨clampSigned 80 (Config.quotientByZero a.v), a.sat || b.sat⟩
  else jam (if b.v < 0 then -(a.v * one56) else a.v * one56) b.v.natAbs (a.sat || b.sat)

/-- A fraction rounded half to even. -/
def roundEven (n : Int) (d : Nat) : Int :=
  let q := n.fdiv d
  let r := n.fmod d
  if 2 * r < d then q else if 2 * r > d then q + 1 else if q % 2 = 0 then q else q + 1

/-- A fraction rounded half to even onto the grid (R596); one outside the working range is kept as it is: carrying it is no operation of R122.
(DESIGN CHOICE, notes/assumptions/75.md.) -/
def onGrid (n : Int) (d : Nat) : Wk := ⟨roundEven (n * one56) d, false⟩

/-- A whole number of units. -/
def whole (n : Int) : Wk := ⟨n * one56, false⟩

/-- A number in the carried format, 2^-40 (R120). -/
def carried (n : Int) : Wk := ⟨n * 65536, false⟩

/-- Horner's rule in x = T / 1,024, which is exact, coefficients by rising power (R596). -/
def horner (t : Wk) : List Wk → Wk
  | [] => ⟨0, false⟩
  | c :: cs =>
    match cs with
    | [] => c
    | _ :: _ => (jam ((horner t cs).v * t.v) (2 ^ 66) ((horner t cs).sat || t.sat)).add c

/-- The least number whose square is not below `n`, by `k` halvings from `hi`. -/
def sqrtUpFrom (n : Nat) : Nat → Nat → Nat → Nat
  | 0, _, hi => hi
  | k + 1, lo, hi =>
    if hi ≤ lo + 1 then hi
    else
      let m := (lo + hi) / 2
      if n ≤ m * m then sqrtUpFrom n k lo m else sqrtUpFrom n k m hi

/-- The square root reduced upward to a whole number. -/
def sqrtUp (n : Nat) : Nat :=
  if n ≤ 1 then n else sqrtUpFrom n (Nat.log2 n + 2) 0 (2 ^ (Nat.log2 n / 2 + 1))

/-- A quotient reduced upward. -/
def upDiv (n d : Nat) : Nat := (n + d - 1) / d

/-- A sum of the exponential series at `-z × 2^-200`, terms from the last: 1 - z (1 - z/2 (1 - z/3 …)). -/
def expSeries (z : Nat) : Nat → Nat → Nat
  | 0, _ => 2 ^ 200
  | k + 1, i => 2 ^ 200 - z * expSeries z k (i + 1) / (i * 2 ^ 200)

/-- `k` squarings at 200 fraction bits. -/
def squarings : Nat → Nat → Nat
  | 0, v => v
  | k + 1, v => squarings k (v * v / 2 ^ 200)

/-- exp(−n / d) in units of 2^-56, reduced downward: its exact value is no multiple, except at 0. -/
def expDown (n d : Nat) : Nat :=
  if n = 0 then one56
  else if n ≥ 40 * d then 0
  else squarings 7 (expSeries (n * 2 ^ 200 / (128 * d)) 60 1) / 2 ^ 144

/-- exp(−n / d) reduced upward onto the grid (R123). -/
def expUp (n d : Nat) : Nat := if n = 0 then one56 else expDown n d + 1

/-- exp of a working value at or below zero, jammed. -/
def Wk.expNeg (a : Wk) : Wk :=
  if a.v = 0 then ⟨one56, a.sat⟩
  else let q := expDown a.v.natAbs one56; ⟨if q % 2 = 1 then q else q + 1, a.sat⟩

/-- An exact fraction not below zero. -/
structure Frac where
  n : Nat
  d : Nat
  deriving DecidableEq, Repr

/-- Product. -/
def Frac.mul (a b : Frac) : Frac := ⟨a.n * b.n, a.d * b.d⟩

/-- Sum. -/
def Frac.add (a b : Frac) : Frac := ⟨a.n * b.d + b.n * a.d, a.d * b.d⟩

/-- A value on the grid as a fraction. -/
def Frac.grid (n : Nat) : Frac := ⟨n, one56⟩

/-- Reduced upward onto the grid (R123). -/
def Frac.up (a : Frac) : Nat := upDiv (a.n * one56) a.d

end Sys2Proof.Machine
end

