-- ==== Sys2Proof/Machine/Thermo.lean ====
section
/-!
DEFINITION. The reference functions of IEC 60584-1 (R136, R596): their coefficients, and evaluation. The manual takes the
coefficients from that standard; they are set down here from it (notes/assumptions/13.md).
-/

namespace Sys2Proof.Machine

/-- A sub-range: its upper end in m°C, its coefficients c_i as m × 10^-k, and whether the exponential of type K is added. -/
structure SubRange where
  upper : Option Int
  coefs : List (Int × Nat)
  expo : Bool
  deriving DecidableEq, Repr

/-- A thermocouple type: its domain in m°C and its sub-ranges. -/
structure Thermocouple where
  lo : Int
  hi : Int
  ranges : List SubRange
  deriving DecidableEq, Repr

/-- Type K, sub-range 1: c_0, c_1, … in mV. -/
def tcK1 : List (Int × Nat) :=
    [ (0, 0), (39450128025, 12), (23622373598, 15), (-32858906784, 17), (-49904828777, 19)
    , (-67509059173, 21), (-57410327428, 23), (-31088872894, 25), (-10451609365, 27), (-19889266878, 30)
    , (-16322697486, 33) ]

/-- Type K, sub-range 2: c_0, c_1, … in mV. -/
def tcK2 : List (Int × Nat) :=
    [ (-17600413686, 12), (38921204975, 12), (18558770032, 15), (-99457592874, 18), (31840945719, 20)
    , (-56072844889, 23), (56075059059, 26), (-32020720003, 29), (97151147152, 33), (-12104721275, 36) ]

/-- Type K (R136, R596). -/
def tcK : Thermocouple :=
  ⟨-200000, 1372000, [⟨some 0, tcK1, false⟩, ⟨none, tcK2, true⟩]⟩

/-- Type J, sub-range 1: c_0, c_1, … in mV. -/
def tcJ1 : List (Int × Nat) :=
    [ (0, 0), (50381187815, 12), (3047583693, 14), (-8568106572, 17), (13228195295, 20)
    , (-17052958337, 23), (20948090697, 26), (-12538395336, 29), (15631725697, 33) ]

/-- Type J, sub-range 2: c_0, c_1, … in mV. -/
def tcJ2 : List (Int × Nat) :=
    [ (29645625681, 8), (-14976127786, 10), (31787103924, 13), (-31847686701, 16), (15720819004, 19)
    , (-30691369056, 23) ]

/-- Type J (R136, R596). -/
def tcJ : Thermocouple :=
  ⟨-210000, 1200000, [⟨some 760000, tcJ1, false⟩, ⟨none, tcJ2, false⟩]⟩

/-- Type T, sub-range 1: c_0, c_1, … in mV. -/
def tcT1 : List (Int × Nat) :=
    [ (0, 0), (38748106364, 12), (44194434347, 15), (11844323105, 17), (20032973554, 18)
    , (90138019559, 20), (22651156593, 21), (36071154205, 23), (38493939883, 25), (28213521925, 27)
    , (14251594779, 29), (48768662286, 32), (1079553927, 33), (13945027062, 37), (79795153927, 41) ]

/-- Type T, sub-range 2: c_0, c_1, … in mV. -/
def tcT2 : List (Int × Nat) :=
    [ (0, 0), (38748106364, 12), (3329222788, 14), (20618243404, 17), (-21882256846, 19)
    , (10996880928, 21), (-30815758772, 24), (4547913529, 26), (-27512901673, 30) ]

/-- Type T (R136, R596). -/
def tcT : Thermocouple :=
  ⟨-200000, 400000, [⟨some 0, tcT1, false⟩, ⟨none, tcT2, false⟩]⟩

/-- Type E, sub-range 1: c_0, c_1, … in mV. -/
def tcE1 : List (Int × Nat) :=
    [ (0, 0), (58665508708, 12), (45410977124, 15), (-77998048686, 17), (-25800160843, 18)
    , (-59452583057, 20), (-93214058667, 22), (-10287605534, 23), (-80370123621, 26), (-43979497391, 28)
    , (-16414776355, 30), (-39673619516, 33), (-55827328721, 36), (-34657842013, 39) ]

/-- Type E, sub-range 2: c_0, c_1, … in mV. -/
def tcE2 : List (Int × Nat) :=
    [ (0, 0), (5866550871, 11), (45032275582, 15), (28908407212, 18), (-33056896652, 20)
    , (6502440327, 22), (-19197495504, 26), (-12536600497, 28), (21489217569, 31), (-14388041782, 34)
    , (35960899481, 38) ]

/-- Type E (R136, R596). -/
def tcE : Thermocouple :=
  ⟨-200000, 1000000, [⟨some 0, tcE1, false⟩, ⟨none, tcE2, false⟩]⟩

/-- Type N, sub-range 1: c_0, c_1, … in mV. -/
def tcN1 : List (Int × Nat) :=
    [ (0, 0), (26159105962, 12), (10957484228, 15), (-93841111554, 18), (-46412039759, 21)
    , (-26303357716, 22), (-22653438003, 24), (-76089300791, 27), (-93419667835, 30) ]

/-- Type N, sub-range 2: c_0, c_1, … in mV. -/
def tcN2 : List (Int × Nat) :=
    [ (0, 0), (25929394601, 12), (1571014188, 14), (43825627237, 18), (-25261169794, 20)
    , (64311819339, 23), (-10063471519, 25), (99745338992, 29), (-60863245607, 32), (20849229339, 35)
    , (-30682196151, 39) ]

/-- Type N (R136, R596). -/
def tcN : Thermocouple :=
  ⟨-200000, 1300000, [⟨some 0, tcN1, false⟩, ⟨none, tcN2, false⟩]⟩

/-- Type S, sub-range 1: c_0, c_1, … in mV. -/
def tcS1 : List (Int × Nat) :=
    [ (0, 0), (540313308631, 14), (12593428974, 15), (-232477968689, 19), (322028823036, 22)
    , (-331465196389, 25), (255744251786, 28), (-125068871393, 31), (271443176145, 35) ]

/-- Type S, sub-range 2: c_0, c_1, … in mV. -/
def tcS2 : List (Int × Nat) :=
    [ (132900444085, 11), (334509311344, 14), (654805192818, 17), (-164856259209, 20), (129989605174, 25) ]

/-- Type S, sub-range 3: c_0, c_1, … in mV. -/
def tcS3 : List (Int × Nat) :=
    [ (146628232636, 9), (-258430516752, 12), (163693574641, 15), (-330439046987, 19), (-943223690612, 26) ]

/-- Type S (R136, R596). -/
def tcS : Thermocouple :=
  ⟨-50000, 1768100, [⟨some 1064180, tcS1, false⟩, ⟨some 1664500, tcS2, false⟩, ⟨none, tcS3, false⟩]⟩

/-- Type B, sub-range 1: c_0, c_1, … in mV. -/
def tcB1 : List (Int × Nat) :=
    [ (0, 0), (-24650818346, 14), (59040421171, 16), (-13257931636, 19), (15668291901, 22)
    , (-1694452924, 24), (62990347094, 29) ]

/-- Type B, sub-range 2: c_0, c_1, … in mV. -/
def tcB2 : List (Int × Nat) :=
    [ (-38938168621, 10), (2857174747, 11), (-84885104785, 15), (15785280164, 17), (-16835344864, 20)
    , (11109794013, 23), (-44515431033, 27), (98975640821, 31), (-93791330289, 35) ]

/-- Type B (R136, R596). -/
def tcB : Thermocouple :=
  ⟨250000, 1820000, [⟨some 630615, tcB1, false⟩, ⟨none, tcB2, false⟩]⟩

/-- Type R, sub-range 1: c_0, c_1, … in mV. -/
def tcR1 : List (Int × Nat) :=
    [ (0, 0), (528961729765, 14), (139166589782, 16), (-238855693017, 19), (356916001063, 22)
    , (-462347666298, 25), (500777441034, 28), (-373105886191, 31), (157716482367, 34), (-281038625251, 38) ]

/-- Type R, sub-range 2: c_0, c_1, … in mV. -/
def tcR2 : List (Int × Nat) :=
    [ (295157925316, 11), (-252061251332, 14), (159564501865, 16), (-764085947576, 20), (205305291024, 23)
    , (-293359668173, 27) ]

/-- Type R, sub-range 3: c_0, c_1, … in mV. -/
def tcR3 : List (Int × Nat) :=
    [ (152232118209, 9), (-268819888545, 12), (171280280471, 15), (-345895706453, 19), (-934633971046, 26) ]

/-- Type R (R136, R596). -/
def tcR : Thermocouple :=
  ⟨-50000, 1768100, [⟨some 1064180, tcR1, false⟩, ⟨some 1664500, tcR2, false⟩, ⟨none, tcR3, false⟩]⟩

/-- The type that a lin code names (R128). A test record on a context that no check has seen may name a reserved code (R155), which is taken as
type R.
(PRESUMED, notes/assumptions/13.md.) (DESIGN CHOICE, notes/assumptions/81.md.) -/
def thermocoupleOf (lin : Nat) : Thermocouple :=
  match lin with
  | 0x8 => tcK | 0x9 => tcJ | 0xA => tcT | 0xB => tcE | 0xC => tcN | 0xD => tcS | 0xE => tcB | _ => tcR

/-- A temperature of so many m°C, on the grid. -/
def milliDeg (t : Int) : Wk := onGrid t 1000

/-- The sub-range that a temperature selects (R596): the first whose upper end lies above it, else the last; an end itself belongs to the
upper sub-range.
(DEDUCED, notes/assumptions/13.md.) -/
def Thermocouple.rangeAt (tc : Thermocouple) (t : Wk) : SubRange :=
  ((tc.ranges.find? fun r =>
    match r.upper with
    | some u => decide (t.v * 1000 < u * one56)
    | none => true).getD ⟨none, [], false⟩)

/-- The carried coefficient of x^i: c_i × 10^-3 × 1,024^i in volts (R596). -/
def emfCoef (i : Nat) (c : Int × Nat) : Wk := onGrid (c.1 * 1024 ^ i) (10 ^ (c.2 + 3))

/-- The carried coefficient of x^i of the derivative: (i + 1) × c_(i+1) × 10^-3 × 1,024^(i+1) / 1,024. -/
def slopeCoef (i : Nat) (c : Int × Nat) : Wk := onGrid ((i + 1) * c.1 * 1024 ^ i) (10 ^ (c.2 + 3))

/-- Coefficients with their powers. -/
def withPowers (f : Nat → Int × Nat → Wk) (l : List (Int × Nat)) : List Wk := (l.zip (List.range l.length)).map fun (c, i) => f i c

/-- a0 of the exponential term of type K, in volts. -/
def expA0 : Wk := onGrid 1185976 (10 ^ 10)
/-- a1. -/
def expA1 : Wk := onGrid (-1183432) (10 ^ 10)
/-- a2 in °C. -/
def expA2 : Wk := onGrid 1269686 10000

/-- The exponential term a0 × exp(a1 × (T − a2)²), one operation at a time. -/
def expTerm (t : Wk) : Wk :=
  let d := t.sub expA2
  expA0.mul ((expA1.mul (d.mul d)).expNeg)

/-- Its derivative, a0 × exp(a1 × (T − a2)²) × 2 × a1 × (T − a2). -/
def expSlope (t : Wk) : Wk := (((expTerm t).mul (whole 2)).mul expA1).mul (t.sub expA2)

/-- E(T) in volts. -/
def Thermocouple.emf (tc : Thermocouple) (t : Wk) : Wk :=
  let r := tc.rangeAt t
  let p := horner t (withPowers emfCoef r.coefs)
  if r.expo then p.add (expTerm t) else p

/-- The polynomial of a sub-range at so many m°C, in exact arithmetic and jammed once. -/
def SubRange.exactAt (r : SubRange) (t : Int) : Wk :=
  let terms := (r.coefs.zip (List.range r.coefs.length)).map fun (c, i) => c.1 * t ^ i * 10 ^ (87 - c.2 - 3 * i)
  jam (terms.foldl (· + ·) 0 * one56) (10 ^ 90)

/-- E at an end of a sub-range or of the domain. Where the evaluation of R596 leaves the working range on its way it is marked so (R122),
and the true value of the reference function stands for it (DEDUCED, notes/assumptions/13.md). -/
def Thermocouple.edge (tc : Thermocouple) (t : Int) : Wk :=
  let v := tc.emf (milliDeg t)
  if v.sat then ((tc.rangeAt (milliDeg t)).exactAt t).marked true else v

/-- S(T) in volts per °C. -/
def Thermocouple.slope (tc : Thermocouple) (t : Wk) : Wk :=
  let r := tc.rangeAt t
  let p := horner t (withPowers slopeCoef r.coefs.tail)
  if r.expo then p.add (expSlope t) else p

/-- The bracket of a target: the first sub-range, within the domain, whose EMF at its upper end is not below the target
(R596). -/
def Thermocouple.bracket (tc : Thermocouple) (target : Wk) : List SubRange → Int → Int × Int
  | [], lo => (lo, tc.hi)
  | r :: rs, lo =>
    let up := match r.upper with
      | some u => if u < tc.hi then u else tc.hi
      | none => tc.hi
    if up ≤ lo then tc.bracket target rs lo
    else if target.v ≤ (tc.edge up).v || rs.isEmpty then (lo, up)
    else tc.bracket target rs up

/-- The steps of R136: from an estimate and a bracket, at most `k` more. An operation outside the working range marks the result whether
or not its value is used (R122). -/
def Thermocouple.iterate (tc : Thermocouple) (target : Wk) : Nat → Wk → Wk → Wk → Wk
  | 0, t, _, _ => t
  | k + 1, t, lo, hi =>
    let newton := t.sub (((tc.emf t).sub target).div (tc.slope t))
    let est := if lo.v ≤ newton.v ∧ newton.v ≤ hi.v then newton else ((lo.add hi).scale 1 2).marked newton.sat
    let reached := tc.emf est
    let next := est.marked reached.sat
    let e := reached.v - target.v
    let lo' := if e ≤ 0 then next else lo
    let hi' := if e ≥ 0 then next else hi
    if (next.v - t.v).natAbs < 2 ^ 40 ∨ (hi'.v - lo'.v).natAbs < 2 ^ 40 then next else tc.iterate target k next lo' hi'

/-- The inversion of R136: the temperature, and whether the EMF lies outside the domain.
(PRESUMED, notes/assumptions/13.md.) -/
def Thermocouple.invert (tc : Thermocouple) (target : Wk) : Wk × Bool :=
  if target.v < (tc.edge tc.lo).v then ((milliDeg tc.lo).marked (target.sat || (tc.edge tc.lo).sat), true)
  else if target.v > (tc.edge tc.hi).v then ((milliDeg tc.hi).marked (target.sat || (tc.edge tc.hi).sat), true)
  else
    let (a, b) := tc.bracket target tc.ranges tc.lo
    let lo := milliDeg a
    let hi := milliDeg b
    let start := lo.add (((target.sub (tc.edge a)).mul (hi.sub lo)).div ((tc.edge b).sub (tc.edge a)))
    (tc.iterate target 40 start lo hi, false)

end Sys2Proof.Machine
end

