-- ==== Sys2Proof/Machine/Arith.lean ====
section
/-!
DEFINITION. The eight stages of the arithmetic pipeline (R119 to R149), from a queue entry to a result record.
-/

namespace Sys2Proof.Machine

/-- A field of context words, whatever the context they are of. -/
def wordsField (words : List Word) (r : Ref) : Nat := getBits (words.getD (r.addr % 0x40 / 4) 0).toNat r.lo r.w

/-- A field of the context words that an entry brings (R128, R152). -/
def ConvEntry.ctx (e : ConvEntry) (r : Ref) : Nat := wordsField e.words r

/-- Two words of the context as an int64. -/
def ConvEntry.ctx64 (e : ConvEntry) (lo hi : Ref) : Int := signed 64 (e.ctx lo + 2 ^ 32 * e.ctx hi)

/-- A word of the curve slot that the entry's context names (R138). -/
def ConvEntry.slotWord (e : ConvEntry) (off : Nat) : Nat :=
  (Sparse.get (fun _ => 0) e.curve (0x110000 + e.ctx (AFE.CTX.slot 0 0) * 0x800 + off)).toNat

/-- An int64 of the curve slot. -/
def ConvEntry.slot64 (e : ConvEntry) (off : Nat) : Int := signed 64 (e.slotWord off + 2 ^ 32 * e.slotWord (off + 4))

/-- The context's type, lin, lead mode and gain code. -/
def ConvEntry.type (e : ConvEntry) : Nat := e.ctx (AFE.CTX.type_ 0 0)
def ConvEntry.lin (e : ConvEntry) : Nat := e.ctx (AFE.CTX.lin 0 0)
def ConvEntry.leadMode (e : ConvEntry) : Nat := e.ctx (AFE.CTX.lead_mode 0 0)
def ConvEntry.gain (e : ConvEntry) : Nat := e.ctx (AFE.CTX.gain 0 0)

/-- RTD and resistance types, any wiring. -/
def resistive (type : Nat) : Bool := decide (2 ≤ type) && decide (type ≤ 7)

/-- Stage 1 (R126): ((Σ − N × o) / (N × 2^23)) × g. -/
def fraction (sum : Int) (n : Nat) (t : ModTerm) : Wk := (jam ((sum * 256 - n * t.o) * one56) (n * 2 ^ 31)).scale t.g (2 ^ 30)

/-- Stage 1 of an entry. -/
def stage1 (e : ConvEntry) : Wk := fraction e.sum e.n e.term

/-- V = f × FS with FS = 2.5 V / 2^gain (R83, R132). -/
def inputVolts (f : Wk) (gain : Nat) : Wk := f.scale 5 (2 ^ (gain + 1))

/-- The excitation current as an exact fraction: iex × 0.5 µA × (1 + e_s × 10^-6) (R132). -/
def currentFrac (src : SrcTerm) : Int × Nat := (src.iex * (65536000000 + src.es), 2000000 * 65536000000)

/-- The shunt as an exact fraction: 50 Ω × (1 + e_k × 10^-6). -/
def shuntFrac (sh : ShuntTerm) : Int × Nat := (50 * (65536000000 + sh.ek), 65536000000)

/-- Stage 2 (R132). A reserved type that a test record meets (R155) acts as a voltage.
(DESIGN CHOICE, notes/assumptions/81.md.) -/
def stage2 (e : ConvEntry) (f : Wk) : Wk :=
  let v := inputVolts f e.gain
  if resistive e.type then v.div (jam ((currentFrac e.src).1 * one56) (currentFrac e.src).2)
  else if e.type = 8 then v.div (jam ((shuntFrac e.shunt).1 * one56) (shuntFrac e.shunt).2)
  else v

/-- The newest VALID value of the lead-temperature channel, in the current or the previous lap (R95).
(DESIGN CHOICE, notes/assumptions/82.md.) -/
def State.leadTemp (s : State) (e : ConvEntry) : Option KeptValue :=
  match Keyed.get? s.arith.kept (e.ctx (AFE.CTX.tref 0 0)) with
  | some k => if k.lap = e.lap ∨ (k.lap + 1) % 2 ^ 32 = e.lap then some k else none
  | none => none

/-- The lead trim in Ω (R95). -/
def State.leadTrim (s : State) (e : ConvEntry) : Wk :=
  let base := e.ctx (AFE.CTX.lead_trim 0 0)
  match (if e.leadMode = 2 then s.leadTemp e else none) with
  | some k =>
    let d := (Wk.mk k.y false).sub (milliTemp (signed 32 (e.ctx (AFE.CTX.trim_t 0 0))))
    let d := if d.v > 1000 * one56 then whole 1000 else if d.v < -(1000 * one56) then whole (-1000) else d
    ((d.scale (e.ctx (AFE.CTX.alpha 0 0)) 1000000).add (whole 1)).scale base 1000000
  | none => jam (base * one56) 1000000
where
  /-- A temperature in mK as °C. -/
  milliTemp (t : Int) : Wk := jam (t * one56) 1000

/-- Stage 3 (R133), without the NE 43 check: it goes by the type, 3-wire, 2-wire with a trim, or bridge. -/
def State.stage3 (s : State) (e : ConvEntry) (q2 : Wk) : Wk :=
  if e.type = 9 then q2.scale 2 5
  else if e.type = 3 ∨ e.type = 6 then jam (q2.v * 1000000 - e.leadF * one56) 1000000 q2.sat
  else if (e.type = 2 ∨ e.type = 5) ∧ (e.leadMode = 1 ∨ e.leadMode = 2) then q2.sub (s.leadTrim e)
  else q2

/-- The NE 43 check (R142): the value to go on with, and whether it is a signal fault. -/
def ne43Check (q3 : Wk) : Wk × Bool :=
  if q3.v * 10000 < 36 * one56 then (jam (36 * one56) 10000, true)
  else if q3.v * 1000 > 21 * one56 then (jam (21 * one56) 1000, true)
  else (q3, false)

/-- Callendar–Van Dusen coefficients: Rnom on the grid, and A, B, C as exact fractions (R134, R138). -/
structure Cvd where
  rnom : Wk
  a : Int × Nat
  b : Int × Nat
  c : Int × Nat
  deriving DecidableEq, Repr

/-- The coefficients that lin 0x1 to 0x4 use. -/
def ConvEntry.cvd (e : ConvEntry) : Cvd :=
  if e.lin = 4 then ⟨carried (e.slot64 12), (e.slot64 20, 2 ^ 60), (e.slot64 28, 2 ^ 80), (e.slot64 36, 2 ^ 100)⟩
  else ⟨whole (if e.lin = 1 then 100 else if e.lin = 2 then 500 else 1000), (39083, 10 ^ 7), (-5775, 10 ^ 10), (-4183, 10 ^ 15)⟩

/-- The carried coefficients of P(x) for a temperature (R596). -/
def Cvd.coefs (k : Cvd) (t : Wk) : List Wk :=
  let head := [whole 1, onGrid (k.a.1 * 1024) k.a.2, onGrid (k.b.1 * 1024 ^ 2) k.b.2]
  if t.v < 0 then head ++ [onGrid (-100 * k.c.1 * 1024 ^ 3) k.c.2, onGrid (k.c.1 * 1024 ^ 4) k.c.2] else head

/-- The carried coefficients of the derivative. -/
def Cvd.slopes (k : Cvd) (t : Wk) : List Wk :=
  let head := [onGrid k.a.1 k.a.2, onGrid (2 * k.b.1 * 1024) k.b.2]
  if t.v < 0 then head ++ [onGrid (-300 * k.c.1 * 1024 ^ 2) k.c.2, onGrid (4 * k.c.1 * 1024 ^ 3) k.c.2] else head

/-- R(T). -/
def Cvd.r (k : Cvd) (t : Wk) : Wk := k.rnom.mul (horner t (k.coefs t))

/-- R′(T). -/
def Cvd.slope (k : Cvd) (t : Wk) : Wk := k.rnom.mul (horner t (k.slopes t))

/-- Newton's steps of R135, at most `n` more: the temperature, and whether the stop test was met. -/
def Cvd.newton (k : Cvd) (q : Wk) : Nat → Wk → Wk × Bool
  | 0, t => (t, false)
  | n + 1, t =>
    let step := ((k.r t).sub q).div (k.slope t)
    let next := t.sub step
    if step.v.natAbs < 2 ^ 26 then (next, true) else k.newton q n next

/-- The inversion of R135: temperature, outside the domain, stop test missed. -/
def Cvd.invert (k : Cvd) (q : Wk) : Wk × Bool × Bool :=
  let low := k.r (whole (-200))
  let high := k.r (whole 850)
  if q.v < low.v then ((whole (-200)).marked (q.sat || low.sat), true, false)
  else if q.v > high.v then ((whole 850).marked (q.sat || low.sat || high.sat), true, false)
  else
    let x := (q.div k.rnom).sub (whole 1)
    let t0 := if k.a.1 = 0 then ⟨clampSigned 80 (Config.quotientByZero x.v), x.sat⟩
      else jam ((if k.a.1 < 0 then -x.v else x.v) * k.a.2) k.a.1.natAbs x.sat
    let (t, met) := k.newton q 8 t0
    (t.marked (low.sat || high.sat), false, !met)

/-- A custom curve at a value (R137): p, its derivative, outside the domain. -/
def ConvEntry.curveAt (e : ConvEntry) (q : Wk) : Wk × Wk × Bool :=
  let n := e.slotWord 0 % 128
  let x : Nat → Wk := fun i => carried (e.slot64 (64 + 24 * i))
  let y : Nat → Wk := fun i => carried (e.slot64 (72 + 24 * i))
  let m : Nat → Wk := fun i => carried (e.slot64 (80 + 24 * i))
  if q.v < (x 0).v then ((y 0).marked q.sat, whole 0, true)
  else if q.v > (x (n - 1)).v then ((y (n - 1)).marked q.sat, whole 0, true)
  else
    let i := min (n - 2) (((List.range (n - 1)).filter fun j => decide ((x (j + 1)).v ≤ q.v)).length)
    let h := (x (i + 1)).sub (x i)
    let t := (q.sub (x i)).div h
    let d := (y (i + 1)).sub (y i)
    let a1 := h.mul (m i)
    let b1 := h.mul (m (i + 1))
    let c2 := ((whole 3).mul d).sub ((a1.add a1).add b1)
    let c3 := (a1.add b1).sub (d.add d)
    let p := if q.v = (x (n - 1)).v then (y (n - 1)).marked q.sat else (((((c3.mul t).add c2).mul t).add a1).mul t).add (y i)
    let s := (((((whole 3).mul c3).mul t).add ((whole 2).mul c2)).mul t |>.add a1).div h
    (p, s, false)

/-- The cold junction (R140, R141): temperature, standard uncertainty, and whether it is the fallback; none where it is
missing. The current lap of the test is the lap of the record itself. A reserved cj_mode that a test record meets (R155) acts as a junction of
0 °C.
(DEDUCED, notes/assumptions/33.md.) (DESIGN CHOICE, notes/assumptions/81.md, notes/assumptions/82.md.) -/
def State.coldJunction (s : State) (e : ConvEntry) : Option (Wk × Frac × Bool) :=
  let tc := thermocoupleOf e.lin
  let modU : Frac := ⟨getBits e.arithCfg.toNat 0 16, 100⟩
  let modT : Wk := jam (s.rdInt ARITH.MODT.temp_mk * one56) 1000
  let module : Bool → Option (Wk × Frac × Bool) := fun sub => if s.flag ARITH.MODT.valid then some (modT, modU, sub) else none
  match e.ctx (AFE.CTX.cj_mode 0 0) with
  | 0 =>
    match Keyed.get? s.arith.newest e.cjsrc with
    | some r =>
      if bit r.status 0 && (r.lap == e.lap || (r.lap + 1) % 2 ^ 32 == e.lap) && decide (tc.lo * one56 ≤ r.y * 1000) &&
          decide (r.y * 1000 ≤ tc.hi * one56) then some (⟨r.y, false⟩, Frac.grid r.u, false)
      else module true
    | none => module true
  | 1 => module false
  | _ => some (whole 0, ⟨0, 1⟩, false)

/-- What the pipeline finds about an entry. -/
structure Formed where
  valid : Bool := false
  dom : Bool := false
  sat : Bool := false
  subst : Bool := false
  value : Int := 0
  u95 : Nat := 0xFFFF
  y : Int := 0
  u : Nat := 0
  ne43 : Bool := false
  iterlim : Bool := false
  slotBad : Bool := false
  short : Bool := false
  missingCj : Bool := false
  deriving DecidableEq, Repr

/-- The lead term u_l in Ω (R145). -/
def State.leadUnc (s : State) (e : ConvEntry) : Frac :=
  let unc : Frac := ⟨e.ctx (AFE.CTX.lead_unc 0 0), 100000⟩
  match e.leadMode with
  | 0 => ⟨0, 1⟩
  | 3 => ⟨max e.leadDev 100, 1000000⟩
  | 1 => unc
  | _ =>
    let k : Frac := ⟨e.ctx (AFE.CTX.lead_trim 0 0) * e.ctx (AFE.CTX.alpha 0 0), 1000000 * 1000000⟩
    match s.leadTemp e with
    | some t => unc.add (k.mul (Frac.grid t.u))
    | none => unc.add (k.mul ⟨60, 1⟩)

/-- The magnitude of S(Tcj) / S(T) reduced upward onto the grid (R123); by zero it gives a value the spec does not state. -/
def slopeRatio (cj t : Wk) : Nat := if t.v = 0 then (Config.quotientByZero cj.v).natAbs else upDiv (cj.v.natAbs * one56) t.v.natAbs

/-- The six terms of R144 on the grid: `q2`, the sensitivity dp/dq3, and for a thermocouple the uncertainty of its junction
and S(Tcj) / S(T). -/
def State.uncTerms (s : State) (e : ConvEntry) (q2 dpdq : Wk) (ucj : Frac) (ratio : Nat) : List Nat :=
  let a : Frac := Frac.grid (upDiv ((e.ctx64 (AFE.CTX.a_lo 0 0) (AFE.CTX.a_hi 0 0)).natAbs * one56) (2 ^ e.ctx (AFE.CTX.a_shift 0 0)))
  let c0 := a.mul (Frac.grid dpdq.v.natAbs)
  let c := if e.type = 9 then c0.mul ⟨2, 5⟩ else c0
  let q := Frac.grid q2.v.natAbs
  let d0 : Frac := ⟨e.term.g * 5, 2 ^ 30 * 2 ^ (e.gain + 1) * 2 ^ 23⟩
  let ratioOver : Int × Nat → Frac := fun i => ⟨d0.n * i.2, d0.d * i.1.natAbs⟩
  let d := if resistive e.type then ratioOver (currentFrac e.src) else if e.type = 8 then ratioOver (shuntFrac e.shunt) else d0
  let ux := if resistive e.type then e.src.ux else if e.type = 8 then e.shunt.ux else 0
  let age := ((e.stime : Int) - e.term.ts).toNat
  let ppm : Frac := (⟨e.term.ug + ux, 65536 * 1000000⟩ : Frac).add ⟨e.term.d * age, 2 ^ 24 * 1000000 * 1000000⟩
  let invSqrt := Frac.grid (sqrtUp (upDiv (2 ^ 112) e.n))
  let un := (((⟨e.term.sigma, 65536⟩ : Frac).mul invSqrt).mul d).mul c
  let uc := ((ppm.mul q).add ((⟨e.term.uo, 65536⟩ : Frac).mul d)).mul c
  let err := e.slotWord 4 + 2 ^ 32 * e.slotWord 8
  let uv0 : Frac := if e.lin = 0 then ⟨0, 1⟩ else if e.lin = 5 then ⟨err, 2 ^ 40⟩ else if e.lin ≤ 4 then ⟨1, 10000⟩ else ⟨1, 1000⟩
  let tau := e.ctx (AFE.CTX.tau 0 0)
  let us : Frac := if tau = 0 then ⟨0, 1⟩ else
    ((Frac.grid (expUp (e.ctx (AFE.CTX.settle 0 0) * 10) tau)).mul q).mul c
  [un.up, uc.up, (uv0.mul a).up, ((s.leadUnc e).mul c).up, ((ucj.mul (Frac.grid ratio)).mul a).up, us.up]

/-- U95 of terms on the grid, with k = covk / 4,096 and Δ = 10^e (R144, R146). -/
def u95Of (terms : List Nat) (covk : Nat) (expCode : Nat) : Nat :=
  let f : Frac := if expCode < 9 then ⟨covk * 10 ^ (9 - expCode), 4096⟩ else ⟨covk, 4096 * 10 ^ (expCode - 9)⟩
  let scaled := terms.map fun u => (Frac.grid u).mul f
  if scaled.any fun x => decide (x.up > 2 ^ 32 * one56) then 0xFFFF
  else
    let acc := (scaled.map fun x => (x.mul x).up).sum
    let r := sqrtUp (upDiv acc one56)
    if r > 65534 then 0xFFFF else r

/-- The mantissa of stage 8: y × 10^-e rounded once, half to even (R124). A reserved exponent code that a test record meets (R155) is taken
as a number like the others.
(DESIGN CHOICE, notes/assumptions/81.md.) -/
def mantissa (y : Int) (expCode : Nat) : Int :=
  if expCode < 9 then roundEven (y * 10 ^ (9 - expCode)) one56 else roundEven y (one56 * 10 ^ (expCode - 9))

/-- Stage 8 (R148): the value of a record, whether it is saturated; the saturated value has the sign of the value before rounding. -/
def packValue (y : Wk) (expCode : Nat) : Int × Bool :=
  let m := mantissa y.v expCode
  let out := decide (m > 2 ^ 31 - 1) || decide (m < -(2 ^ 31))
  if y.sat || out then (if y.v > 0 then 2 ^ 31 - 1 else -(2 ^ 31), true) else (m, false)

/-- Stages 1 to 8 for a sampled conversion or a test record (R119).
(DEDUCED, notes/assumptions/32.md.) -/
def State.form (s : State) (e : ConvEntry) : Formed :=
  let q2 := stage2 e (stage1 e)
  let q3 := s.stage3 e q2
  let thr := e.ctx (AFE.CTX.short_thr 0 0)
  let short := resistive e.type && thr != 0 && decide (q3.v * 10 < thr * one56)
  let (q3, ne43) := if e.type = 8 ∧ e.ctx (AFE.CTX.ne43 0 0) = 1 then ne43Check q3 else (q3, false)
  let kind := e.slotWord 0 / 2 ^ 30
  let expCode := e.ctx (AFE.CTX.exp 0 0)
  let slotBad := (e.lin == 4 && kind != 2) || (e.lin == 5 && kind != 1)
  let finish : Wk → Bool → Bool → Bool → Wk → Frac → Nat → Formed := fun p dom iterlim subst dpdq ucj ratio =>
    let y := (jam (p.v * e.ctx64 (AFE.CTX.a_lo 0 0) (AFE.CTX.a_hi 0 0)) (2 ^ e.ctx (AFE.CTX.a_shift 0 0)) p.sat).add
      (carried (e.ctx64 (AFE.CTX.b_lo 0 0) (AFE.CTX.b_hi 0 0)))
    let (value, sat) := packValue (y.marked dpdq.sat) expCode
    let dom := dom || ne43
    let bad := dom || sat || short || e.leadMissing && e.kind != .test
    let terms := if bad then [] else s.uncTerms e q2 dpdq ucj ratio
    { valid := !bad, dom := dom, sat := sat, subst := subst, value := if bad && !(dom || sat) then 0 else value
      u95 := if bad then 0xFFFF else u95Of terms (getBits e.arithCfg.toNat 16 16) expCode
      y := y.v, u := sqrtUp ((terms.map fun u => u * u).sum), ne43 := ne43, iterlim := iterlim, short := short }
  if slotBad then
    { dom := ne43, ne43 := ne43, value := if ne43 then clampSigned 32 (Config.curvelessValue q3.v) else 0, slotBad := true, short := short }
  else if e.lin = 0 then finish q3 false false false (whole 1) ⟨0, 1⟩ 0
  else if e.lin = 5 then
    let (p, slope, dom) := e.curveAt q3
    finish p dom false false slope ⟨0, 1⟩ 0
  else if e.lin ≤ 4 then
    let (p, dom, miss) := e.cvd.invert q3
    finish p dom miss false ((whole 1).div (e.cvd.slope p)) ⟨0, 1⟩ 0
  else
    let tc := thermocoupleOf e.lin
    match s.coldJunction e with
    | none => { missingCj := true, short := short }
    | some (tcj, ucj, sub) =>
      let (p, dom) := tc.invert (if e.ctx (AFE.CTX.cj_mode 0 0) = 2 then q3 else q3.add (tc.emf tcj))
      let slopeCj := tc.slope tcj
      finish p dom false sub (((whole 1).div (tc.slope p)).marked slopeCj.sat) ucj (slopeRatio slopeCj (tc.slope p))

/-- The status byte (R147). -/
def statusByte (valid ovr dom sat open_ stale subst retired : Bool) : Nat :=
  ofBool valid + 2 * ofBool ovr + 4 * ofBool dom + 8 * ofBool sat + 16 * ofBool open_ + 32 * ofBool stale +
    64 * ofBool subst + 128 * ofBool retired

end Sys2Proof.Machine
end

