-- ==== Sys2Proof/Machine/Crypto.lean ====
section
/-!
DEFINITION. The cryptographic functions the manual names by their standards: AES (FIPS 197) with CMAC (SP 800-38B, R396) and key
wrap (SP 800-38F, R488), SHA-256 (FIPS 180-4) and ECDSA over P-256 (FIPS 186-4, R489, R491).
-/

namespace Sys2Proof.Machine

/-! ### AES -/

/-- The substitution box, 32 entries to a number. -/
def aesBox : List Nat :=
  [ 0x637C777BF26B6FC53001672BFED7AB76CA82C97DFA5947F0ADD4A2AF9CA472C0
  , 0xB7FD9326363FF7CC34A5E5F171D8311504C723C31896059A071280E2EB27B275
  , 0x09832C1A1B6E5AA0523BD6B329E32F8453D100ED20FCB15B6ACBBE394A4C58CF
  , 0xD0EFAAFB434D338545F9027F503C9FA851A3408F929D38F5BCB6DA2110FFF3D2
  , 0xCD0C13EC5F974417C4A77E3D645D197360814FDC222A908846EEB814DE5E0BDB
  , 0xE0323A0A4906245CC2D3AC629195E479E7C8376D8DD54EA96C56F4EA657AAE08
  , 0xBA78252E1CA6B4C6E8DD741F4BBD8B8A703EB5664803F60E613557B986C11D9E
  , 0xE1F8981169D98E949B1E87E9CE5528DF8CA1890DBFE6426841992D0FB054BB16 ]

/-- One entry of the substitution box. -/
def aesSub (x : Nat) : Nat := getBits (aesBox.getD (x / 32) 0) (8 * (31 - x % 32)) 8

/-- One entry of the inverse box. -/
def aesSubInv (y : Nat) : Nat := ((List.range 256).find? fun x => aesSub x == y).getD 0

/-- Multiplication by x in the field of AES. -/
def aesTwice (a : Nat) : Nat := if a < 128 then 2 * a else (2 * a % 256) ^^^ 0x1B

/-- Multiplication in the field of AES by a number below 16. -/
def aesMul (k a : Nat) : Nat :=
  let a2 := aesTwice a
  let a4 := aesTwice a2
  let a8 := aesTwice a4
  (if bit k 0 then a else 0) ^^^ (if bit k 1 then a2 else 0) ^^^ (if bit k 2 then a4 else 0) ^^^ (if bit k 3 then a8 else 0)

/-- Substitutes the four bytes of a word. -/
def aesSubWord (w : Nat) : Nat :=
  aesSub (getBits w 24 8) * 2 ^ 24 + aesSub (getBits w 16 8) * 2 ^ 16 + aesSub (getBits w 8 8) * 2 ^ 8 + aesSub (getBits w 0 8)

/-- Key expansion: `n` more words. -/
def aesExpand (nk : Nat) : Nat → Nat → List Nat → List Nat
  | 0, _, ws => ws
  | n + 1, rc, ws =>
    let i := ws.length
    let t := ws.getD (i - 1) 0
    let old := ws.getD (i - nk) 0
    if i % nk = 0 then
      aesExpand nk n (aesTwice rc) (ws ++ [old ^^^ aesSubWord (t % 2 ^ 24 * 256 + t / 2 ^ 24) ^^^ (rc * 2 ^ 24)])
    else if 6 < nk ∧ i % nk = 4 then aesExpand nk n rc (ws ++ [old ^^^ aesSubWord t])
    else aesExpand nk n rc (ws ++ [old ^^^ t])

/-- The round keys, 16 bytes each. -/
def aesKeys (key : List Byte) : List (List Nat) :=
  let nk := key.length / 4
  let first := (List.range nk).map fun i => ofBytesBE ((key.drop (4 * i)).take 4)
  let ws := aesExpand nk (4 * (nk + 7) - nk) 1 first
  (List.range (nk + 7)).map fun r => ((ws.drop (4 * r)).take 4).flatMap fun w => (bytesBE 4 w).map BitVec.toNat

/-- Adds a round key. -/
def aesAdd (k b : List Nat) : List Nat := (b.zip k).map fun (x, y) => x ^^^ y

/-- One mixed column sum: the four coefficients against the column of byte `i`, from its row on. -/
def aesColumn (c : List Nat) (b : List Nat) (i : Nat) : Nat :=
  (List.range 4).foldl (fun a j => a ^^^ aesMul (c.getD j 0) (b.getD (i / 4 * 4 + (i + j) % 4) 0)) 0

/-- Substitutes and shifts the rows. -/
def aesShift (b : List Nat) : List Nat := (List.range 16).map fun i => aesSub (b.getD ((i + 4 * (i % 4)) % 16) 0)

/-- Undoes aesShift. -/
def aesUnshift (b : List Nat) : List Nat := (List.range 16).map fun i => aesSubInv (b.getD ((i + 12 * (i % 4)) % 16) 0)

/-- The rounds of encryption. -/
def aesRounds : List (List Nat) → List Nat → List Nat
  | [], b => b
  | [k], b => aesAdd k (aesShift b)
  | k :: ks, b => let c := aesShift b; aesRounds ks (aesAdd k ((List.range 16).map fun i => aesColumn [2, 3, 1, 1] c i))

/-- The rounds of decryption. -/
def aesUnrounds : List (List Nat) → List Nat → List Nat
  | [], b => b
  | [k], b => aesAdd k b
  | k :: ks, b => let c := aesAdd k b; aesUnrounds ks (aesUnshift ((List.range 16).map fun i => aesColumn [14, 11, 13, 9] c i))

/-- AES encryption of a block under a key of 16 or 32 bytes. -/
def aesEncrypt (key b : List Byte) : List Byte :=
  match aesKeys key with
  | [] => b
  | k :: ks => (aesRounds ks (aesAdd k (b.map BitVec.toNat))).map (BitVec.ofNat 8)

/-- AES decryption of a block. -/
def aesDecrypt (key b : List Byte) : List Byte :=
  match (aesKeys key).reverse with
  | [] => b
  | k :: ks => (aesUnrounds ks (aesUnshift (aesAdd k (b.map BitVec.toNat)))).map (BitVec.ofNat 8)

/-- Byte by byte exclusive or. -/
def xorBytes (a b : List Byte) : List Byte := (a.zip b).map fun (x, y) => x ^^^ y

/-- Doubling in the field of CMAC. -/
def cmacDouble (x : Nat) : Nat := if x < 2 ^ 127 then 2 * x else (2 * x % 2 ^ 128) ^^^ 0x87

/-- The chain of CMAC over whole blocks. -/
def cmacChain (key : List Byte) : Nat → List Byte → List Byte → List Byte
  | 0, c, _ => c
  | n + 1, c, m => cmacChain key n (aesEncrypt key (xorBytes c (m.take 16))) (m.drop 16)

/-- AES-128-CMAC: the 16 bytes of the tag. -/
def cmac (key m : List Byte) : List Byte :=
  let k1 := cmacDouble (ofBytesBE (aesEncrypt key (List.replicate 16 0)))
  let n := if m.isEmpty then 1 else (m.length + 15) / 16
  let last := m.drop (16 * (n - 1))
  let final :=
    if last.length = 16 then xorBytes last (bytesBE 16 k1)
    else xorBytes ((last ++ [0x80] ++ List.replicate 16 0).take 16) (bytesBE 16 (cmacDouble k1))
  cmacChain key n (List.replicate 16 0) (m.take (16 * (n - 1)) ++ final)

/-- One step of key wrap: the counter, A and the 64-bit blocks. -/
def kwStep (key : List Byte) : List Nat → List Byte → List (List Byte) → List Byte × List (List Byte)
  | [], a, r => (a, r)
  | t :: ts, a, r =>
    let i := (t - 1) % r.length
    let b := aesEncrypt key (a ++ r.getD i [])
    kwStep key ts (xorBytes (b.take 8) (bytesBE 8 t)) (r.set i (b.drop 8))

/-- One step of key unwrap. -/
def kwUnstep (key : List Byte) : List Nat → List Byte → List (List Byte) → List Byte × List (List Byte)
  | [], a, r => (a, r)
  | t :: ts, a, r =>
    let i := (t - 1) % r.length
    let b := aesDecrypt key (xorBytes a (bytesBE 8 t) ++ r.getD i [])
    kwUnstep key ts (b.take 8) (r.set i (b.drop 8))

/-- Bytes in blocks of eight. -/
def blocks8 (m : List Byte) : List (List Byte) := (List.range (m.length / 8)).map fun i => (m.drop (8 * i)).take 8

/-- AES key wrap. -/
def keyWrap (key m : List Byte) : List Byte :=
  let r := blocks8 m
  let (a, r) := kwStep key ((List.range (6 * r.length)).map (· + 1)) (List.replicate 8 0xA6) r
  a ++ r.flatten

/-- AES key unwrap: none where the wrapped key does not unwrap correctly. -/
def keyUnwrap (key c : List Byte) : Option (List Byte) :=
  let r := blocks8 (c.drop 8)
  let (a, r) := kwUnstep key ((List.range (6 * r.length)).map (· + 1)).reverse (c.take 8) r
  if a = List.replicate 8 0xA6 then some r.flatten else none

/-! ### SHA-256 -/

/-- The 64 constants of SHA-256, eight to a number. -/
def shaConstants : List Nat :=
  [ 0x428A2F9871374491B5C0FBCFE9B5DBA53956C25B59F111F1923F82A4AB1C5ED5
  , 0xD807AA9812835B01243185BE550C7DC372BE5D7480DEB1FE9BDC06A7C19BF174
  , 0xE49B69C1EFBE47860FC19DC6240CA1CC2DE92C6F4A7484AA5CB0A9DC76F988DA
  , 0x983E5152A831C66DB00327C8BF597FC7C6E00BF3D5A7914706CA635114292967
  , 0x27B70A852E1B21384D2C6DFC53380D13650A7354766A0ABB81C2C92E92722C85
  , 0xA2BFE8A1A81A664BC24B8B70C76C51A3D192E819D6990624F40E3585106AA070
  , 0x19A4C1161E376C082748774C34B0BCB5391C0CB34ED8AA4A5B9CCA4F682E6FF3
  , 0x748F82EE78A5636F84C878148CC7020890BEFFFAA4506CEBBEF9A3F7C67178F2 ]

/-- One constant of SHA-256. -/
def shaK (t : Nat) : Nat := getBits (shaConstants.getD (t / 8) 0) (32 * (7 - t % 8)) 32

/-- Rotation of a 32-bit word to the right. -/
def rotr (n x : Nat) : Nat := x / 2 ^ n + x % 2 ^ n * 2 ^ (32 - n)

/-- The message schedule, `n` more words; newest first. -/
def shaSchedule : Nat → List Nat → List Nat
  | 0, ws => ws
  | n + 1, ws =>
    let x := ws.getD 1 0
    let y := ws.getD 14 0
    let s1 := rotr 17 x ^^^ rotr 19 x ^^^ (x / 1024)
    let s0 := rotr 7 y ^^^ rotr 18 y ^^^ (y / 8)
    shaSchedule n ((s1 + ws.getD 6 0 + s0 + ws.getD 15 0) % 2 ^ 32 :: ws)

/-- The rounds of one block. -/
def shaRounds : Nat → List Nat → List Nat → List Nat
  | t, w :: ws, [a, b, c, d, e, f, g, h] =>
    let t1 := h + (rotr 6 e ^^^ rotr 11 e ^^^ rotr 25 e) + ((e &&& f) ^^^ ((e ^^^ 0xFFFFFFFF) &&& g)) + shaK t + w
    let t2 := (rotr 2 a ^^^ rotr 13 a ^^^ rotr 22 a) + ((a &&& b) ^^^ (a &&& c) ^^^ (b &&& c))
    shaRounds (t + 1) ws [(t1 + t2) % 2 ^ 32, a, b, c, (d + t1) % 2 ^ 32, e, f, g]
  | _, _, h => h

/-- One block of 64 bytes. -/
def shaBlock (h : List Nat) (b : List Byte) : List Nat :=
  let ws := (List.range 16).map fun i => ofBytesBE ((b.drop (4 * i)).take 4)
  let r := shaRounds 0 (shaSchedule 48 ws.reverse).reverse h
  (h.zip r).map fun (x, y) => (x + y) % 2 ^ 32

/-- The blocks of a padded message. -/
def shaBlocks : Nat → List Nat → List Byte → List Nat
  | 0, h, _ => h
  | n + 1, h, m => shaBlocks n (shaBlock h (m.take 64)) (m.drop 64)

/-- SHA-256: the 32 bytes of the hash. -/
def sha256 (m : List Byte) : List Byte :=
  let padded := m ++ [0x80] ++ List.replicate ((119 - m.length % 64) % 64) 0 ++ bytesBE 8 (8 * m.length)
  (shaBlocks (padded.length / 64)
    [0x6A09E667, 0xBB67AE85, 0x3C6EF372, 0xA54FF53A, 0x510E527F, 0x9B05688C, 0x1F83D9AB, 0x5BE0CD19] padded).flatMap (bytesBE 4)

/-! ### ECDSA over P-256 -/

/-- The prime of the field of P-256. -/
def p256 : Nat := 2 ^ 256 - 2 ^ 224 + 2 ^ 192 + 2 ^ 96 - 1
/-- The order of the base point. -/
def n256 : Nat := 0xFFFFFFFF00000000FFFFFFFFFFFFFFFFBCE6FAADA7179E84F3B9CAC2FC632551
/-- The coefficient b of the curve. -/
def b256 : Nat := 0x5AC635D8AA3A93E7B3EBBD55769886BC651D06B0CC53B0F63BCE3C3E27D2604B
/-- The base point. -/
def g256 : Nat × Nat :=
  (0x6B17D1F2E12C4247F8BCE6E563A440F277037D812DEB33A0F4A13945D898C296,
   0x4FE342E2FE1A7F9B8EE7EB4A7C0F9E162BCE33576B315ECECBB6406837BF51F5)

/-- A power modulo m, with at most `fuel` bits of exponent. -/
def modPow (m : Nat) : Nat → Nat → Nat → Nat
  | 0, _, _ => 1 % m
  | fuel + 1, a, e => (if e % 2 = 1 then a else 1) * modPow m fuel (a * a % m) (e / 2) % m

/-- The inverse modulo a prime below 2^256. -/
def modInv (m a : Nat) : Nat := modPow m 256 (a % m) (m - 2)

/-- The sum of two points; none is the point at infinity. -/
def pointAdd (a b : Option (Nat × Nat)) : Option (Nat × Nat) :=
  match a, b with
  | none, q => q
  | q, none => q
  | some (x1, y1), some (x2, y2) =>
    if x1 = x2 ∧ (y1 + y2) % p256 = 0 then none
    else
      let l := if x1 = x2 then (3 * x1 * x1 + (p256 - 3)) * modInv p256 (2 * y1) % p256
        else (y2 + p256 - y1) * modInv p256 (x2 + p256 - x1) % p256
      let x3 := (l * l + 2 * p256 - x1 - x2) % p256
      some (x3, (l * (x1 + p256 - x3) + p256 - y1) % p256)

/-- A multiple of a point, with at most `fuel` bits. -/
def pointMul : Nat → Nat → Option (Nat × Nat) → Option (Nat × Nat)
  | 0, _, _ => none
  | fuel + 1, k, q => pointAdd (if k % 2 = 1 then q else none) (pointMul fuel (k / 2) (pointAdd q q))

/-- Whether a pair of numbers is a point of the curve. -/
def onCurve (x y : Nat) : Bool :=
  decide (x < p256) && decide (y < p256) && y * y % p256 == (x * x * x + (p256 - 3) * x + b256) % p256

/-- ECDSA verification of a hash under a public key. -/
def ecdsaVerify (x y r s hash : Nat) : Bool :=
  onCurve x y && decide (1 ≤ r) && decide (r < n256) && decide (1 ≤ s) && decide (s < n256) &&
    let w := modInv n256 s
    match pointAdd (pointMul 256 (hash * w % n256) (some g256)) (pointMul 256 (r * w % n256) (some (x, y))) with
    | some (px, _) => px % n256 == r
    | none => false

/-- An ECDSA signature of a hash under a private key with a per-message number k: none where k gives a zero part. -/
def ecdsaSign (d k hash : Nat) : Option (Nat × Nat) :=
  match pointMul 256 k (some g256) with
  | none => none
  | some (px, _) =>
    let r := px % n256
    let s := modInv n256 k * (hash + r * d) % n256
    if r = 0 ∨ s = 0 then none else some (r, s)

end Sys2Proof.Machine
end

