-- ==== Sys2Proof/Machine/Flags.lean ====
section
/-!
DEFINITION. The indications of the page header: counters and their overflow bits (R61 to R63), fault bits and FAULTINFO
(R44), interrupt and fault summaries (R76), and STAT.
-/

namespace Sys2Proof.Machine

/-- A counter of class STICK or STICK-EVENT counts one more: it stays at all ones, its overflow bit is set by the increment
that reaches all ones and by every later one, and the page's interrupt is raised when that bit changes from 0 to 1
(R61, R62).
(DESIGN CHOICE, notes/assumptions/16.md.) -/
def State.stick (s : State) (count ovf : Ref) (event : Option Ref) : State :=
  let top := 2 ^ count.w - 1
  let v := s.rd count
  let s1 := if v < top then s.wr count (v + 1) else s
  if v + 1 < top then s1
  else
    let fresh := !s.flag ovf
    let s2 := s1.wr ovf 1
    match event with
    | some e => if fresh then s2.irq e else s2
    | none => s2

/-- A counter of class WRAP counts one more.
(DESIGN CHOICE, notes/assumptions/16.md.) -/
def State.wrap (s : State) (count : Ref) : State := s.wr count (s.rd count + 1)

/-- A fault bit of a page is set: the first fault after FAULT was zero gives FAULTINFO, and a bit that changes from 0 to 1
sets IRQRAW.fault_set (R41, R44). -/
def State.fault (s : State) (r : Ref) (code : Nat) (detail : Nat := 0xFFFF) : State :=
  let p := r.addr / 0x1000
  let s1 := if s.rd (HDR.FAULT p) = 0 then s.wr (HDR.FAULTINFO p) (detail % 65536 * 65536 + code) else s
  if s.flag r then s1 else (s1.wr r 1).irq (HDR.IRQRAW.fault_set p)

/-- Bits of FAULT are cleared by writing 1; when FAULT becomes zero, FAULTINFO reads zero (R44). TAMP.FAULT.alarm stays set while
the security alarm is (R496). -/
def State.clearFault (s : State) (p mask : Nat) : State :=
  let v := s.rd (HDR.FAULT p)
  let held := if p = 0x5A ∧ s.flag TAMP.STAT.alarm then v &&& 1 else 0
  let w := v &&& (v ^^^ mask) ||| held
  let s1 := s.wr (HDR.FAULT p) w
  if w = 0 then s1.wr (HDR.FAULTINFO p) 0 else s1

/-- The CMDSTAT of a block of R390: 0 ALM, 1 CALL, 2 PAIR, 3 CAL. -/
def State.blockStat (s : State) (block : Nat) : Nat :=
  match block with
  | 0 => s.rd ALM.CMDSTAT
  | 1 => s.rd CALL.CMDSTAT
  | 2 => s.rd PAIR.CMDSTAT
  | _ => s.rd CAL.CMDSTAT

/-- A command has completed: the TML party that waits for its result is to be sent CMDSTAT as it stands now (R393). -/
def State.replyTo (s : State) (reply : Option Nat) (block : Nat) : State :=
  match reply with
  | none => s
  | some r => { s with msg := { s.msg with results := s.msg.results ++ [(r, block, s.blockStat block)] } }

/-- IRQSTAT of a page: IRQRAW and IRQEN (R41). -/
def State.irqStat (s : State) (p : Nat) : Nat := s.rd (HDR.IRQRAW p) &&& s.rd (HDR.IRQEN p)

/-- Bit k of HOST.IRQSUMi: the page has an enabled interrupt (R76). -/
def State.irqSum (s : State) (i : Nat) : Nat :=
  bitMask ((List.range 32).filter fun k => pageListed (32 * i + k) && s.alive (32 * i + k) && s.irqStat (32 * i + k) != 0)

/-- Bit k of HOST.FAULTSUMi: the page has a fault. -/
def State.faultSum (s : State) (i : Nat) : Nat :=
  bitMask ((List.range 32).filter fun k => pageListed (32 * i + k) && s.alive (32 * i + k) && s.rd (HDR.FAULT (32 * i + k)) != 0)

/-- IRQn is driven low (R76); inactive while HOST is in reset (R554).
(DESIGN CHOICE, notes/assumptions/61.md.) -/
def State.irqnLow (s : State) : Bool :=
  s.alive 0x60 && s.flag HOST.CFG.irqn_en && (List.range 8).any fun i => s.irqSum i != 0

/-- FAULTn is driven low: by the fault summary (R76), or by AON while a release is abandoned (R550).
(DESIGN CHOICE, notes/assumptions/61.md.) -/
def State.faultnLow (s : State) : Bool :=
  s.rst.releaseFrom.isSome || (s.alive 0x60 && s.flag HOST.CFG.faultn_en && (List.range 8).any fun i => s.faultSum i != 0)

end Sys2Proof.Machine
end

