-- ==== Sys2Proof/Machine/Operands.lean ====
section
/-!
DEFINITION. The operand forms of an access: the status codes of R73, and what an address names (R39, R40, R43).
-/

namespace Sys2Proof.Machine

/-- The status of an access (R73). -/
inductive Status where
  | ok | crc | cmd | len | align | bounds | auth | role | unmapped | absent | domainOff | perm | readonly
  | notOwner | locked | busy | ecc | timeout
  deriving DecidableEq, Repr

/-- The status byte (R73). -/
def Status.code : Status → Nat
  | .ok => 0x00 | .crc => 0x01 | .cmd => 0x0E | .len => 0x09 | .align => 0x08 | .bounds => 0x0A | .auth => 0x10
  | .role => 0x11 | .unmapped => 0x02 | .absent => 0x03 | .domainOff => 0x04 | .perm => 0x0B | .readonly => 0x0F
  | .notOwner => 0x05 | .locked => 0x06 | .busy => 0x07 | .ecc => 0x0C | .timeout => 0x0D

/-- The place of a status in the order of R71 and R73: the lower comes first. -/
def Status.rank : Status → Nat
  | .crc => 1 | .cmd => 2 | .len => 3 | .align => 4 | .bounds => 5 | .auth => 6 | .role => 7 | .unmapped => 8
  | .absent => 9 | .domainOff => 10 | .perm => 11 | .readonly => 12 | .notOwner => 13 | .locked => 14 | .busy => 15
  | .ecc => 16 | .timeout => 17 | .ok => 18

/-- What an address names. -/
inductive Place where
  | reg (page off : Nat)
  | regMirror (page off : Nat)
  | table (a : Nat)
  | tableLive (a : Nat)
  | sram (a : Nat)
  | store (off : Nat)
  | unmapped
  deriving DecidableEq, Repr

/-- The place of a byte address (R39, R40, R43, R65). -/
def placeOf (a : Nat) : Place :=
  if a < 0x100000 then
    if pageListed (a / 0x1000) then
      if a % 0x1000 < 0x800 then .reg (a / 0x1000) (a % 0x1000) else .regMirror (a / 0x1000) (a % 0x1000 - 0x800)
    else .unmapped
  else if a < 0x500000 then
    if (regionOf? a).isSome then .table a else .unmapped
  else if a < 0x900000 then
    if (regionOf? (a - 0x400000)).isSome then .tableLive (a - 0x400000) else .unmapped
  else if 0x1000000 ≤ a ∧ a < 0x1400000 then .sram a
  else if 0x4000000 ≤ a ∧ a < 0x6000000 then .store (a - 0x4000000)
  else .unmapped

/-- Whether a place lies in register or table space, where accesses are words. -/
def Place.isWord : Place → Bool
  | .reg _ _ | .regMirror _ _ | .table _ | .tableLive _ => true
  | _ => false

/-- The page that owns a place of register or table space. -/
def Place.page? : Place → Option Nat
  | .reg p _ | .regMirror p _ => some p
  | .table a | .tableLive a => (regionOf? a).map TableRegion.page
  | _ => none

/-- The address that names the word of register or table space whatever the view: the register's own, the shadow's. -/
def Place.inner : Place → Nat
  | .reg p off | .regMirror p off => 0x1000 * p + off
  | .table a | .tableLive a => a
  | _ => 0

/-- The least role of a remote write to a page or its tables (R78). -/
def leastWriteRole (p : Nat) : Nat :=
  if p = 0x10 ∨ p = 0x48 ∨ p = 0x49 then 3
  else if p = 0x58 ∨ p = 0x59 ∨ p = 0x5A ∨ p = 0x7F then 4
  else 2

/-- Whether a requester's role suffices for a write to a page (R77, R78). The partner needs none.
(DESIGN CHOICE, notes/assumptions/63.md.) -/
def mayWrite (r : Requester) (p : Nat) : Bool :=
  match r with
  | .remote _ role _ => decide (leastWriteRole p ≤ role)
  | _ => true

/-- The status of a write of a non-shadowed register of a page, before anything the register itself says (R71, R73). -/
def State.writeStatus (s : State) (r : Requester) (p : Nat) : Status :=
  if !mayWrite r p then .role
  else if !pageListed p then .unmapped
  else if !s.present p then .absent
  else if !s.alive p then .domainOff
  else .ok

/-- Whether a requester's path to the node works: the host port, the message layer, or the Uhliz link (R39, R545). -/
def State.reachable (s : State) (r : Requester) : Bool :=
  match r with
  | .host => s.alive 0x60
  | .remote _ _ _ => s.alive 0x34
  | .pair => s.alive 0x38

/-- Work returns a dozing node to Run (R542). -/
def State.awake (s : State) : State := if s.rd PWR.STAT.state = 1 then s.wr PWR.STAT.state 0 else s

/-- A write by a requester to a command register of a page, with the key the register asks for: refused by R73, or the
command's effect. Where the requester's path does not work nothing reaches the node.
(DEDUCED, notes/assumptions/56.md.) -/
def State.command (s : State) (r : Requester) (p : Nat) (f : State → State) : Result :=
  if !s.reachable r then .next s
  else
    match s.writeStatus r p with
    | .ok => .next { f s.awake with status := Status.ok.code }
    | st => .next { s.awake with status := st.code }

/-- Whether the requester is the configuration owner (R14, R79): over the Uhliz link only the recorded partner, known by its newest LEASE.
(DEDUCED, notes/assumptions/78.md.) -/
def State.isOwner (s : State) (r : Requester) : Bool :=
  match r with
  | .host => s.rd SYS.CFGOWNER.owner == 1
  | .remote _ _ master => s.rd SYS.CFGOWNER.owner == 2 && master
  | .pair => s.rd SYS.CFGOWNER.owner == 3 && s.flag PAIR.CFG.enable && s.pair.peer == some (s.rd PAIR.CFG.partner)

end Sys2Proof.Machine
end

