-- ==== Sys2Proof/Machine/Mem.lean ====
section
/-!
DEFINITION. The SRAM with its error code (R416 to R420), translation and protection (R421 to R423), and the writes of
bound DMA streams (R422, R426).
-/

namespace Sys2Proof.Machine

/-- The first SRAM address (R416). -/
def sramBase : Nat := 0x1000000
/-- The first address after the SRAM. -/
def sramEnd : Nat := 0x1400000
/-- The first address of the save area (R419). -/
def saveArea : Nat := 0x13E0000

/-- Whether `n` bytes from a physical address lie in the SRAM. -/
def inSram (a n : Nat) : Bool := decide (sramBase ≤ a) && decide (a + n ≤ sramEnd)

/-- A byte of the SRAM; a byte nothing has written is zero (R420).
(DESIGN CHOICE, notes/assumptions/4.md.) -/
def State.sramByte (s : State) (a : Nat) : Byte := Memory.byte 0 s.sram a

/-- `n` bytes of the SRAM as they stand. -/
def State.sramBytes (s : State) (a n : Nat) : List Byte := Memory.bytes 0 s.sram a n

/-- The aligned 64-bit word an address lies in. -/
def sramWord (a : Nat) : Nat := a / 8

/-- Words of a list that `n` bytes from `a` touch. -/
def touched (l : List Nat) (a n : Nat) : List Nat := l.filter fun w => decide (sramWord a ≤ w) && decide (8 * w < a + n)

/-- An uncorrectable word is met (R417). -/
def State.noteUncorrectable (s : State) (a : Nat) : State :=
  (((s.stick MEM.UECNT.count MEM.CNTOVF.ue (some MEM.IRQRAW.cnt_ovf)).wr MEM.UEADDR.addr a).irq MEM.IRQRAW.ue).fault MEM.FAULT.ue 0x0110

/-- A single-bit error is corrected and written back (R417). -/
def State.noteCorrected (s : State) (w : Nat) : State :=
  { ((s.stick MEM.CECNT.count MEM.CNTOVF.ce (some MEM.IRQRAW.cnt_ovf)).wr MEM.CEADDR.addr (8 * w)).irq MEM.IRQRAW.ce with
    sramWeak := dropFrom s.sramWeak w }

/-- What a read of `n` bytes of the SRAM indicates, and whether every word of it could be read (R417). -/
def State.sramSee (s : State) (a n : Nat) : Bool × State :=
  let s1 := s.each (touched s.sramWeak a n) State.noteCorrected
  match touched s.sramBad a n with
  | [] => (true, s1)
  | w :: ws => (false, s1.noteUncorrectable (8 * ws.foldl min w))

/-- Reads `n` bytes of the SRAM: the bytes, or none where a word is uncorrectable; the state with what the read
indicates (R417). -/
def State.sramRead (s : State) (a n : Nat) : Option (List Byte) × State :=
  (if (s.sramSee a n).1 then some (s.sramBytes a n) else none, (s.sramSee a n).2)

/-- Whether `n` bytes from `a` cover a word whole. -/
def covers (a n w : Nat) : Bool := decide (a ≤ 8 * w) && decide (8 * w + 8 ≤ a + n)

/-- Writes bytes to the SRAM: false, and nothing written, where an uncorrectable word would be written in part (R417). -/
def State.sramWrite (s : State) (a : Nat) (bs : List Byte) : Bool × State :=
  let n := bs.length
  match (touched s.sramBad a n).filter fun w => !covers a n w with
  | w :: ws => (false, s.noteUncorrectable (8 * ws.foldl min w))
  | [] =>
    (true, { s with
      sram := Memory.storeAll 0 s.sram a bs
      sramBad := s.sramBad.filter fun w => !covers a n w
      sramWeak := s.sramWeak.filter fun w => !((touched [w] a n).contains w) })

/-- A little-endian number in the SRAM, as it stands. -/
def State.sramNum (s : State) (a n : Nat) : Nat := ofBytesLE (s.sramBytes a n)

/-- The tag nibble of a physical page (R421, R444). -/
def State.tag (s : State) (page : Nat) : Nat := getBits (s.rd (MPTU.TAG.tags (page / 8))) (4 * (page % 8)) 3

/-- A refusal of the MPTU is recorded: class, direction, reason, first refused address (R422, R423). -/
def State.violation (s : State) (cls : Nat) (write : Bool) (reason a : Nat) : State :=
  (((s.wr MPTU.VIOL (cls * 2 ^ 30 + ofBool write * 2 ^ 29 + reason * 2 ^ 26)).wr MPTU.VIOLADDR.addr a).stick
    MPTU.VIOLCNT.count MPTU.CNTOVF.viol (some MPTU.IRQRAW.cnt_ovf)).irq MPTU.IRQRAW.viol

/-- The class of an external requester (R421). -/
def mptuClass : Requester → Nat
  | .host => 0
  | .remote _ _ _ => 1
  | .pair => 2

/-- The window of R421 step 1 for an offset and a class. -/
def State.window? (s : State) (cls o : Nat) : Option Nat :=
  (List.range 32).find? fun w =>
    s.flag (MPTU.WIN.enable w) &&
      decide (s.rd (MPTU.WIN.ext w) * 0x10000 ≤ o ∧ o < s.rd (MPTU.WIN.ext w) * 0x10000 + 0x10000 * 2 ^ s.rd (MPTU.WIN.size w)) &&
      (bit (s.rd (MPTU.WIN.perm w)) (2 * cls) || bit (s.rd (MPTU.WIN.perm w)) (2 * cls + 1))

/-- Translates one address: the physical address, or the reason of MPTU.VIOL (R421). -/
def State.translate (s : State) (cls : Nat) (write : Bool) (a : Nat) : Except Nat Nat :=
  let o := a - sramBase
  match s.window? cls o with
  | none => .error 1
  | some w =>
    let pa := sramBase + s.rd (MPTU.WIN.phys w) * 0x10000 + (o - s.rd (MPTU.WIN.ext w) * 0x10000)
    if !bit (s.rd (MPTU.WIN.perm w)) (2 * cls + ofBool write) then .error 2
    else if !bit (s.tag ((pa - sramBase) / 0x1000)) (ofBool write) then .error 3
    else if write && decide (saveArea ≤ pa) then .error 4
    else .ok pa

/-- The addresses at which a burst meets a new 4 KiB page: within one page every byte translates alike (windows and tags
are coarser). -/
def pageStarts (a n : Nat) : List Nat :=
  a :: ((List.range (n / 0x1000 + 1)).map fun i => (a / 0x1000 + 1 + i) * 0x1000).filter fun x => decide (x < a + n)

/-- Checks a whole burst: the first refused address and its reason, or none (R423). -/
def State.mptuCheck (s : State) (cls : Nat) (write : Bool) (a n : Nat) : Option (Nat × Nat) :=
  (pageStarts a n).findSome? fun x =>
    match s.translate cls write x with
    | .error r => some (x, r)
    | .ok _ => none

/-- Whether external accesses reach the SRAM (R75): DOMAIN_OFF, TIMEOUT before init_done, else OK. -/
def State.sramReach (s : State) : Status :=
  if !(s.alive 0x40 && s.alive 0x41) then .domainOff
  else if !s.flag MEM.INFO.init_done then .timeout
  else .ok

/-- An external read of `n` bytes from a requester's address: status and bytes (R421, R423, R417). -/
def State.externalRead (s : State) (cls a n : Nat) : (Status × List Byte) × State :=
  match s.sramReach with
  | .ok =>
    match s.mptuCheck cls false a n with
    | some (x, r) => ((.perm, []), s.violation cls false r x)
    | none =>
      let parts := (pageStarts a n).map fun x =>
        let stop := min (a + n) ((x / 0x1000 + 1) * 0x1000)
        match s.translate cls false x with
        | .ok pa => (pa, stop - x)
        | .error _ => (sramBase, 0)
      let (r, s1) := parts.foldl (init := ((some [], s) : Option (List Byte) × State)) fun (acc, st) (pa, k) =>
        match acc with
        | none => (none, st)
        | some l =>
          match st.sramRead pa k with
          | (some bs, st1) => (some (l ++ bs), st1)
          | (none, st1) => (none, st1)
      match r with
      | some bs => ((.ok, bs), s1)
      | none => ((.ecc, []), s1)
  | st => ((st, List.replicate n 0), s)

/-- The status an external write of bytes to SRAM would have, without doing it. -/
def State.externalWriteCheck (s : State) (cls a n : Nat) : Status :=
  match s.sramReach with
  | .ok =>
    if (s.mptuCheck cls true a n).isSome then .perm
    else
      let bad := (pageStarts a n).any fun x =>
        let stop := min (a + n) ((x / 0x1000 + 1) * 0x1000)
        match s.translate cls true x with
        | .ok pa => (touched s.sramBad pa (stop - x)).any fun w => !covers pa (stop - x) w
        | .error _ => false
      if bad then .ecc else .ok
  | st => st

/-- An external write of bytes to SRAM: all of it or nothing (R71, R423). -/
def State.externalWrite (s : State) (cls a : Nat) (bs : List Byte) : Status × State :=
  match s.externalWriteCheck cls a bs.length with
  | .ok =>
    (.ok, s.each (pageStarts a bs.length) fun st x =>
      let stop := min (a + bs.length) ((x / 0x1000 + 1) * 0x1000)
      match s.translate cls true x with
      | .ok pa => (st.sramWrite pa ((bs.drop (x - a)).take (stop - x))).2
      | .error _ => st)
  | .perm =>
    match s.mptuCheck cls true a bs.length with
    | some (x, r) => (.perm, s.violation cls true r x)
    | none => (.perm, s)
  | .ecc =>
    let bad := (pageStarts a bs.length).findSome? fun x =>
      let n := min (a + bs.length) ((x / 0x1000 + 1) * 0x1000) - x
      match s.translate cls true x with
      | .ok pa => ((touched s.sramBad pa n).filter fun w => !covers pa n w).min?
      | .error _ => none
    (.ecc, s.noteUncorrectable (8 * bad.getD 0))
  | st => (st, s)

/-- A bound stream drops a job (R426). -/
def State.boundDrop (s : State) : State :=
  (s.stick DMA.BFAULTCNT.count DMA.CNTOVF.bfault (some DMA.IRQRAW.cnt_ovf)).fault DMA.FAULT.bound 0x0111

/-- Whether the engine takes up no work for now, so that producers of bound streams hold their jobs (R434, R420). -/
def State.dmaHolds (s : State) : Bool :=
  s.alive 0x42 && (s.quiesced 0x42 || (s.alive 0x40 && !s.flag MEM.INFO.init_done))

/-- The first byte of a stream's write that its tags or the save area refuse, with the reason (R422). -/
def State.streamRefused (s : State) (stream a n : Nat) : Option (Nat × Nat) :=
  (pageStarts a n).findSome? fun x =>
    if decide (saveArea ≤ x) then (if stream = 7 then none else some (x, 4))
    else if bit (s.tag ((x - sramBase) / 0x1000)) 2 then none
    else some (x, 3)

/-- A write of a bound stream: whether it was done. A job that meets a fault is dropped (R422, R426). -/
def State.boundWrite (s : State) (stream a : Nat) (bs : List Byte) : Bool × State :=
  if !s.alive 0x42 then (false, s)
  else if !s.flag (DMA.SCFG.enable stream) || !s.working 0x40 || !inSram a bs.length then (false, s.boundDrop)
  else
    match s.streamRefused stream a bs.length with
    | some (x, r) => (false, (s.violation 3 true r x).boundDrop)
    | none =>
      match s.sramWrite a bs with
      | (true, s1) => (true, s1)
      | (false, s1) => (false, s1.boundDrop)

/-- A read of a bound stream for its producer: the bytes, or none where the job meets a fault and is dropped (R417, R426). -/
def State.boundRead (s : State) (stream a n : Nat) : Option (List Byte) × State :=
  if !s.alive 0x42 then (none, s)
  else if !s.flag (DMA.SCFG.enable stream) || !s.working 0x40 || !inSram a n then (none, s.boundDrop)
  else if (s.sramSee a n).1 then (some (s.sramBytes a n), (s.sramSee a n).2)
  else (none, (s.sramSee a n).2.boundDrop)

/-- Whether the scrubber walks (R418): in Run, Doze and Nap, and in Stow, while SRAM keeps its contents. -/
def State.scrubs (s : State) : Bool :=
  (s.powered 0x40 || (s.rd PWR.STAT.state == 3 && s.domainOn .aon)) && s.flag MEM.SCRUBCFG.en && !s.quiesced 0x40 &&
    (s.flag MEM.INFO.init_done || s.rd PWR.STAT.state == 3)

/-- SCRUB_STEP (R418): the next word of the pass; in Stow only the retention partition. -/
def execScrubStep (finding : Nat) (s : State) : Result :=
  if !s.scrubs then .next s
  else
    let pos := s.rd MEM.SCRUBPOS.word
    let first := if s.rd PWR.STAT.state = 3 then 491520 else 0
    let word := if pos < first then first else pos
    let w := sramWord sramBase + word
    let s1 :=
      if finding = 1 ∨ s.sramWeak.contains w then s.noteCorrected w
      else if finding = 2 ∨ s.sramBad.contains w then
        ({ s with sramBad := addTo s.sramBad w }).noteUncorrectable (8 * w)
      else s
    if word + 1 < 524288 then .next (s1.wr MEM.SCRUBPOS.word (word + 1))
    else .next ((s1.wr MEM.SCRUBPOS.word first).wrap MEM.PASSCNT.count)

end Sys2Proof.Machine
end

