-- ==== Sys2Proof/Machine/Nvm.lean ====
section
/-!
DEFINITION. The non-volatile store and its commands (R435 to R440, R447, R448).
-/

namespace Sys2Proof.Machine

/-- A byte of the store: what a cut program or erase left undefined (R440), else as programmed, else erased (R435).
(DESIGN CHOICE, notes/assumptions/4.md.) -/
def State.storeByte (s : State) (off : Nat) : Byte :=
  match Keyed.get? s.nvm.undefined (off / 256) with
  | some tag => Config.freeByte tag off
  | none => Memory.byte 0xFF s.store off

/-- Bytes of the store. -/
def State.storeBytes (s : State) (off n : Nat) : List Byte := (List.range n).map fun i => s.storeByte (off + i)

/-- A little-endian number in the store. -/
def State.storeNum (s : State) (off n : Nat) : Nat := ofBytesLE (s.storeBytes off n)

/-- Blocks of 32 bytes of a list that `n` bytes from an offset touch. -/
def blocksHit (l : List Nat) (off n : Nat) : List Nat := l.filter fun b => decide (off < 32 * b + 32) && decide (32 * b < off + n)

/-- Whether `n` bytes of the store can be read (R435). -/
def State.storeOk (s : State) (off n : Nat) : Bool := (blocksHit s.nvm.bad off n).isEmpty

/-- The counts and the fault that a read of the store leaves (R435). -/
def State.storeSee (s : State) (off n : Nat) : State :=
  let s1 := s.each (blocksHit s.nvm.weak off n) fun st _ => st.stick NVM.ECCCNT.count NVM.CNTOVF.ecc (some NVM.IRQRAW.cnt_ovf)
  if s.storeOk off n then s1
  else ((s1.stick NVM.UECNT.count NVM.CNTOVF.ue (some NVM.IRQRAW.cnt_ovf)).irq NVM.IRQRAW.ue).fault NVM.FAULT.ue 0x0110

/-- A read of the store: bytes, or none where it is uncorrectable; the counts it leaves (R435). -/
def State.storeRead (s : State) (off n : Nat) : Option (List Byte) × State :=
  (if s.storeOk off n then some (s.storeBytes off n) else none, s.storeSee off n)

/-- The image whose region a store offset lies in (R436). -/
def imageAt (off : Nat) : Option Nat :=
  if off < 0x200000 then some 0 else if off < 0x400000 then some 1 else none

/-- A program or erase reaches an image's region: the image is unchecked, or its running check fails with reason 0x07
(R491). -/
def State.touchImage (s : State) (off : Nat) : State :=
  match imageAt off with
  | none => s
  | some i =>
    if s.rd (SEC.IMGSTAT.state i) = 1 then s.wr (SEC.IMGSTAT.reason i) 7
    else ((s.wr (SEC.IMGSTAT.state i) 0).wr (SEC.IMGSTAT.reason i) 0).wr (SEC.IMGSEQ.seq i) 0

/-- The store offset of the wrapped identity key (R488). -/
def identityAt : Nat := 0x1E01000

/-- The private key, where slot 6 is valid and the wrapped key can be read and unwraps (R435, R488).
(DESIGN CHOICE, notes/assumptions/43.md.) -/
def State.identity (s : State) : Option Nat :=
  match Keyed.get? s.sec.slots 6 with
  | none => none
  | some k => if s.storeOk identityAt 40 then (keyUnwrap k (s.storeBytes identityAt 40)).map ofBytesBE else none

/-- Eight registers show 32 bytes, the first byte in the lowest place of the first register. -/
def State.showBytes (s : State) (r : Nat → Ref) (from_ : Nat) (bs : List Byte) : State :=
  s.each (List.range 8) fun st i => st.wr (r (from_ + i)) (ofBytesLE ((bs.drop (4 * i)).take 4))

/-- SEC shows whether the identity is valid, and its public key (R488): the read of the wrapped key counts (R435). -/
def State.showIdentity (s : State) : State :=
  let none_ := (s.wr SEC.STAT.id_valid 0).each (List.range 16) fun st i => st.wr (SEC.IDPUB.bytes i) 0
  if (Keyed.get? s.sec.slots 6).isNone then none_
  else
    match s.identity with
    | none => none_.storeSee identityAt 40
    | some d =>
      match pointMul 256 d (some g256) with
      | none => none_.storeSee identityAt 40
      | some (x, y) =>
        ((((s.wr SEC.STAT.id_valid 1).showBytes SEC.IDPUB.bytes 0 (bytesBE 32 x)).showBytes SEC.IDPUB.bytes 8 (bytesBE 32 y))).storeSee identityAt 40

/-- A program or erase of the store is seen by what stands there: an image (R491), and the wrapped identity key (R488). -/
def State.touchStore (s : State) (off n : Nat) : State :=
  (s.touchImage off).when (s.powered 0x58 && decide (off < identityAt + 40) && decide (identityAt < off + n)) State.showIdentity

/-- Programs bytes of one page from an offset: programming only clears bits (R438). The result says whether every byte reads back
as its source. -/
def State.pageProgram (s : State) (off : Nat) (bs : List Byte) : Bool × State :=
  let old := s.storeBytes off bs.length
  let new := (old.zip bs).map fun (o, b) => o &&& b
  let first := off / 256 * 256
  let last := (off + bs.length + 255) / 256 * 256
  let whole := (s.storeBytes first (off - first)) ++ new ++ s.storeBytes (off + bs.length) (last - (off + bs.length))
  let pages := (List.range ((last - first) / 256)).map fun i => first / 256 + i
  let s1 := if pages.any fun p => (Keyed.get? s.nvm.undefined p).isSome then
      { s with
        store := Memory.storeAll 0xFF s.store first whole
        nvm := { s.nvm with undefined := s.nvm.undefined.filter fun e => !pages.contains e.1 } }
    else { s with store := Memory.storeAll 0xFF s.store off new }
  (new == bs, s1.touchStore off bs.length)

/-- Bytes at a store offset cut at page ends. -/
def pageParts (off : Nat) (bs : List Byte) : List (Nat × List Byte) :=
  (List.range ((off + bs.length + 255) / 256 - off / 256)).map fun i =>
    let lo := max off (256 * (off / 256 + i))
    (lo, (bs.drop (lo - off)).take (256 * (off / 256 + i + 1) - lo))

/-- A program: page by page, up to one that does not read back as its source, which sets FAULT.verify (R438). The result says
whether every page did.
(DESIGN CHOICE, notes/assumptions/59.md.) -/
def State.storeProgram (s : State) (off : Nat) (bs : List Byte) : Bool × State :=
  (pageParts off bs).foldl (init := (true, s)) fun (ok, st) e =>
    if !ok then (false, st)
    else
      match st.pageProgram e.1 e.2 with
      | (true, t) => (true, t)
      | (false, t) => (false, t.fault NVM.FAULT.verify 0x0111)

/-- The wrapped key takes the place of what stood there: its sector is erased and written back but for these bytes (R435, R488).
(DESIGN CHOICE, notes/assumptions/43.md.) -/
def State.storeIdentity (s : State) (bs : List Byte) : State :=
  let page := bs ++ s.storeBytes (identityAt + 40) 216
  let hit : Nat → Bool := fun b => decide (identityAt < 32 * b + 32) && decide (32 * b < identityAt + 40)
  { s with
    store := Memory.storeAll 0xFF s.store identityAt page
    nvm := { s.nvm with
      undefined := Keyed.drop s.nvm.undefined (identityAt / 256)
      weak := s.nvm.weak.filter fun b => !hit b
      bad := s.nvm.bad.filter fun b => !hit b } }

/-- Erases a sector: it reads 0xFF (R435). -/
def State.storeErase (s : State) (sector : Nat) : State :=
  let inside : Nat → Bool := fun off => off / 0x10000 == sector
  ({ s with
    store := s.store.filter fun c => !inside c.1
    nvm := { s.nvm with
      undefined := s.nvm.undefined.filter fun e => !inside (e.1 * 256)
      weak := s.nvm.weak.filter fun b => !inside (32 * b)
      bad := s.nvm.bad.filter fun b => !inside (32 * b) } }).touchStore (sector * 0x10000) 0x10000

/-- Whether a sector of the store reads erased (R435). -/
def State.sectorErased (s : State) (sector : Nat) : Bool :=
  s.store.all (fun c => c.1 / 0x10000 != sector) && s.nvm.undefined.all fun e => e.1 / 256 != sector

/-- Pages of the store are left undefined (R440): one draw names their content.
(DESIGN CHOICE, notes/assumptions/59.md.) -/
def State.storeUndefine (s : State) (off n : Nat) : State :=
  let (tag, s1) := ((s.freeCount, { s with freeCount := s.freeCount + 1 }) : Nat × State)
  let pages := (List.range ((off + n + 255) / 256 - off / 256)).map fun i => off / 256 + i
  ({ s1 with nvm := { s1.nvm with undefined := pages.foldl (fun u p => Keyed.put u p tag) s1.nvm.undefined } }).touchStore off n

/-- A program that does not read back as its source: its pages are undefined, and FAULT.verify is set (R438, R440). -/
def State.programFailed (s : State) (off n : Nat) : State := (s.storeUndefine off n).fault NVM.FAULT.verify 0x0111

/-- Factory hold: BOOT 0b11, or 0b10 on a variant without a pair (R8, R577). -/
def State.factoryHold (s : State) : Bool := s.straps.boot == 3 || (s.straps.boot == 2 && s.variant != .lm160)

/-- Whether a requester may program or erase at an offset (R436). -/
def State.mayStore (s : State) (r : Requester) (off : Nat) : Bool :=
  match imageAt off with
  | some 0 => s.isOwner r && !s.flag NVM.WPROT.img_a
  | some _ => s.isOwner r && !s.flag NVM.WPROT.img_b
  | none => decide (0x1E00000 ≤ off ∧ off < 0x1F00000) && s.factoryHold

/-- The constraints of R437 on the operands of an op. -/
def State.nvmOperands (s : State) (op : Nat) : Bool :=
  let src := s.rd NVM.SRCADDR.addr
  let addr := s.rd NVM.ADDR.offset
  let len := s.rd NVM.LEN.bytes
  match op with
  | 1 => inSram src len && src % 8 == 0 && addr % 256 == 0 && len % 256 == 0 && decide (256 ≤ len) && decide (len ≤ 4096) &&
      addr / 0x10000 == (addr + len - 1) / 0x10000
  | 2 => addr % 0x10000 == 0
  | _ => decide (1 ≤ len) && decide (addr + len ≤ 0x2000000)

/-- A host command is refused (R437). -/
def State.nvmRefuse (s : State) (reason : Nat) : State :=
  ((s.wr NVM.CMDSTAT.state 5).wr NVM.CMDSTAT.reason reason).irq NVM.IRQRAW.cmd_refused

/-- Whether a store command is the host's. -/
def nvmIsHost (c : NvmCmd) : Bool :=
  match c.owner with
  | .host => true
  | _ => false

/-- Whether a host command is queued or running. -/
def State.nvmHostBusy (s : State) : Bool :=
  (match s.nvm.running with | some c => nvmIsHost c | none => false) || s.nvm.waiting.any fun c => nvmIsHost c

/-- A command joins the queue, and runs at once when none is running and NVM takes up work (R434, R439). -/
def State.nvmIssue (s : State) (c : NvmCmd) : State :=
  if s.nvm.running.isNone && s.working 0x48 then { s with nvm := { s.nvm with running := some c } }
  else { s with nvm := { s.nvm with waiting := s.nvm.waiting ++ [c] } }

/-- Whether a command of an owner runs or waits. -/
def State.nvmHas (s : State) (o : NvmOwner) : Bool := (s.nvm.running.toList ++ s.nvm.waiting).any fun c => decide (c.owner = o)

/-- The running command, whose end may come: one suspended by the sequence of R524 never ends (R525). -/
def State.storeRuns (s : State) (o : NvmOwner) : Bool :=
  !s.flag PWR.STAT.saving && s.nvm.running.any fun c => decide (c.owner = o)

/-- The next waiting command runs. -/
def State.nvmNext (s : State) : State :=
  match if s.working 0x48 then s.nvm.waiting else [] with
  | [] => { s with nvm := { s.nvm with running := none } }
  | c :: cs =>
    let s1 := { s with nvm := { s.nvm with running := some c, waiting := cs } }
    if nvmIsHost c then s1.wr NVM.CMDSTAT.state 2 else s1

/-- NVM takes up its work: a command that waited runs (R439). -/
def State.nvmGo (s : State) : State := if s.nvm.running.isNone then s.nvmNext else s

/-- What a cut of a command leaves of the store: the pages of a program, or the sector of an erase (R440). -/
def State.cutStore (s : State) (c : NvmCmd) : State :=
  if c.op = 1 then s.storeUndefine c.addr c.len else if c.op = 2 then s.storeUndefine c.addr 0x10000 else s

/-- A host command with key 0x4E (R437). -/
def State.nvmCommand (s : State) (r : Requester) (op : Nat) : State :=
  if op = 4 then
    if s.nvmHostBusy then
      let cut := match s.nvm.running with
        | some c => if nvmIsHost c then some c else none
        | none => none
      let s2 := match cut with
        | some c => ({ s with nvm := { s.nvm with running := none } }.nvmGo).cutStore c
        | none => { s with nvm := { s.nvm with waiting := s.nvm.waiting.filter fun c => !nvmIsHost c } }
      ((s2.wr NVM.CMDSTAT.state 4).wr NVM.CMDSTAT.already_done 0).irq NVM.IRQRAW.cmd_done
    else if s.rd NVM.CMDSTAT.state = 3 then s.wr NVM.CMDSTAT.already_done 1
    else s.nvmRefuse 1
  else if op = 1 ∨ op = 2 ∨ op = 3 then
    if s.nvmHostBusy then s.nvmRefuse 3
    else if !s.nvmOperands op then s.nvmRefuse 1
    else if op ≠ 3 ∧ !s.mayStore r (s.rd NVM.ADDR.offset) then s.nvmRefuse 2
    else
      let c : NvmCmd := ⟨NvmOwner.host, op, s.rd NVM.SRCADDR.addr, s.rd NVM.ADDR.offset, if op = 2 then 0x10000 else s.rd NVM.LEN.bytes⟩
      let st := if s.nvm.running.isSome || !s.working 0x48 then 1 else 2
      (((s.nvmIssue c).wr NVM.CMDSTAT.state st).wr NVM.CMDSTAT.reason 0).wr NVM.CMDSTAT.already_done 0
  else s.nvmRefuse 1

/-- The command running is cut, by a reset of NVM or a loss of its power (R440, R525): one of host software reports aborted, and so
does one that waited. A base that was being written has failed (R459); the other commands of REC and CAL are issued again when NVM
returns.
(DESIGN CHOICE, notes/assumptions/59.md.) -/
def State.nvmCut (s : State) : State :=
  let s1 := match s.nvm.running with
    | some c => s.cutStore c
    | none => s
  let s2 := if s.nvmHostBusy then s1.wr NVM.CMDSTAT.state 4 else s1
  let s3 := if s.nvmHas .recBase then
      ({ s2.wr REC.STAT.snapping 0 with recorder := { s2.recorder with writing := none } }).fault REC.FAULT.snapwr 0x0110
    else s2
  let cutErase := (s.nvm.running.toList ++ s.nvm.waiting).filterMap fun c =>
    match c.owner with
    | .recErase sector => some sector
    | _ => none
  { s3 with
    nvm := { s3.nvm with running := none, waiting := [] }
    recorder := { s3.recorder with clearing := cutErase ++ s3.recorder.clearing } }

/-- NVM_PROGRAM. -/
def execNvmProgram (req : Requester) (s : State) : Result := s.command req 0x48 fun s => s.nvmCommand req 1

/-- NVM_ERASE. -/
def execNvmErase (req : Requester) (s : State) : Result := s.command req 0x48 fun s => s.nvmCommand req 2

/-- NVM_CRC. -/
def execNvmCrc (req : Requester) (s : State) : Result := s.command req 0x48 fun s => s.nvmCommand req 3

/-- NVM_ABORT. -/
def execNvmAbort (req : Requester) (s : State) : Result := s.command req 0x48 fun s => s.nvmCommand req 4

end Sys2Proof.Machine
end

