-- ==== Sys2Proof/Machine/Dma.lean ====
section
/-!
DEFINITION. The DMA engine: the result ring (R425), chained streams (R427 to R434) and their choice (R430).
-/

namespace Sys2Proof.Machine

/-- The context of a chained stream. -/
def State.stream (s : State) (k : Nat) : DmaStream := Keyed.get {} s.dma.ctx k

/-- Sets the context of a chained stream. -/
def State.setStream (s : State) (k : Nat) (c : DmaStream) : State := { s with dma := { s.dma with ctx := Keyed.put s.dma.ctx k c } }

/-- The levels at which a chained stream may stand: lower is first (R424). -/
def State.streamLevel (s : State) (k : Nat) : Nat := s.rd (DMA.SCFG.level k)

/-- The state code of a stream (R429). -/
def State.streamState (s : State) (k : Nat) : Nat := s.rd (DMA.SCTL.state k)

/-- The ready chained streams. -/
def State.readyStreams (s : State) : List Nat := ((List.range 48).map (· + 16)).filter fun k => s.streamState k == 1

/-- The stream on the engine, if one is. -/
def State.activeStream (s : State) : Option Nat := if s.flag DMA.ACTIVE.busy then some (s.rd DMA.ACTIVE.stream) else none

/-- The next ready stream after `from_` in ascending number, wrapping, among those of a level. -/
def State.nextAtLevel (s : State) (level from_ : Nat) : Option Nat :=
  let l := s.readyStreams.filter fun k => s.streamLevel k == level
  match l.find? fun k => decide (from_ < k) with
  | some k => some k
  | none => l.head?

/-- The best level among ready streams. -/
def State.bestLevel (s : State) : Option Nat :=
  match s.readyStreams with
  | [] => none
  | k :: ks => some (ks.foldl (fun m j => min m (s.streamLevel j)) (s.streamLevel k))

/-- The engine becomes free. -/
def State.freeEngine (s : State) : State := (s.wr DMA.ACTIVE.busy 0).wr DMA.ACTIVE.stream 0

/-- A chained stream halts with a fault code; its resume point is reported (R431). -/
def State.haltStream (s : State) (k code off : Nat) : State :=
  let c := s.stream k
  let s1 := ((((s.wr (DMA.SCTL.state k) 3).wr (DMA.SCTL.code k) code).wr (DMA.SRESD.desc k) c.desc).wr (DMA.SRESO.offset k) off).putNth DMA.HALT.s k true
  let s2 := ((s1.irq DMA.IRQRAW.halt).fault DMA.FAULT.halt 0x0110 k).setStream k { c with off := off }
  if s2.activeStream = some k then s2.freeEngine else s2

/-- Whether a range of addresses lies in the store window. -/
def inStore (a n : Nat) : Bool := decide (0x4000000 ≤ a) && decide (a + n ≤ 0x6000000)

/-- The fault code with which a descriptor is refused when it is begun, or 0 (R428, R431, R434). -/
def State.descFault (s : State) (c : DmaStream) (reserved : Bool) : Nat :=
  if c.len = 0 ∨ reserved ∨ (c.next % 32 ≠ 0 ∧ bit c.ctl 0 = false) ∨ (bit c.ctl 3 ∧ (c.dst % 4 ≠ 0 ∨ c.len % 4 ≠ 0)) then 0x06
  else if !inSram c.dst c.len || !(bit c.ctl 3 || inSram c.src c.len || inStore c.src c.len) then 0x01
  else if !s.working 0x40 || (!bit c.ctl 3 && inStore c.src c.len && !s.working 0x48) then 0x05
  else 0

/-- Reads the descriptor at an address for a stream and begins it at byte `off` (R428, R432). -/
def State.beginDesc (s : State) (k a off : Nat) (resume : Bool) : State :=
  let c0 := s.stream k
  let named := s.setStream k { c0 with desc := a }
  if !inSram a 32 then named.haltStream k 0x01 0
  else if !s.working 0x40 then named.haltStream k 0x05 off
  else
    match named.sramRead a 32 with
    | (none, s1) => s1.haltStream k 0x04 0
    | (some bs, s1) =>
      let f : Nat → Nat → Nat := fun i n => ofBytesLE ((bs.drop i).take n)
      let c : DmaStream := { c0 with
        desc := a, src := f 0 4, dst := f 4 4, len := f 8 3, ctl := f 12 2, next := f 16 4, off := off
        crcReg := if resume && off != 0 then c0.crcReg else 0xFFFFFFFF, unread := none }
      let reserved := f 11 1 != 0 || f 12 2 / 32 != 0 || f 28 4 != 0
      let s2 := s1.setStream k c
      let code := s2.descFault c reserved
      if code ≠ 0 then s2.haltStream k code (if code = 0x05 ∨ code = 0x06 then off else 0)
      else if off > c.len then s2.haltStream k 0x06 off
      else s2

/-- A stream takes the engine, which reads the descriptor that the stream begins or restarts (R428, R430). -/
def State.takeEngine (s : State) (k : Nat) : State :=
  let c := s.stream k
  let s1 := ((s.wr (DMA.SCTL.state k) 2).wr DMA.ACTIVE.busy 1).wr DMA.ACTIVE.stream k |>.setStream k { c with since := 0, unread := none }
  match c.unread with
  | some resume => s1.beginDesc k c.desc c.off resume
  | none => s1

/-- A free engine takes the next ready stream of the best level, unless it takes up no work (R430, R434).
(DESIGN CHOICE, notes/assumptions/58.md.) -/
def State.pickNext (s : State) (after : Nat) : State :=
  if !s.working 0x42 || !s.flag MEM.INFO.init_done || s.activeStream.isSome then s
  else
    match s.bestLevel with
    | none => s
    | some l =>
      match s.nextAtLevel l after with
      | some k => s.takeEngine k
      | none => s

/-- The engine takes streams until one stays: a stream whose descriptor is refused halts and frees the engine at once. -/
def State.pickStream (s : State) (after : Nat) : State := s.each s.readyStreams fun st _ => st.pickNext after

/-- The bytes a burst of `n` moves from offset `off`: how many before an uncorrectable source word, and the data
(R431). -/
def State.burstData (s : State) (c : DmaStream) (n : Nat) : (Nat × List Byte) × State :=
  if bit c.ctl 3 then ((n, (List.range n).map fun i => (bytesLE 4 c.src).getD ((c.off + i) % 4) 0), s)
  else if inSram c.src c.len then
    match s.sramRead (c.src + c.off) n with
    | (some bs, s1) => ((n, bs), s1)
    | (none, s1) =>
      let w := (touched s.sramBad (c.src + c.off) n).foldl min (sramWord (c.src + c.off + n))
      let good := 8 * w - (c.src + c.off)
      ((good, s1.sramBytes (c.src + c.off) good), s1)
  else
    let o := c.src + c.off - 0x4000000
    match s.storeRead o n with
    | (some bs, s1) => ((n, bs), s1)
    | (none, s1) =>
      let b := (s.nvm.bad.filter fun b => decide (o < 32 * b + 32)).foldl min ((o + n) / 32)
      let good := min n (32 * b - o)
      ((good, s1.storeBytes o good), s1)

/-- A descriptor is complete: its write-back, DONE, and the next descriptor or the end of the job (R427, R433). -/
def State.completeDesc (s : State) (k : Nat) : State :=
  let c := s.stream k
  let wb := bit c.ctl 2
  let cr := bit c.ctl 4
  let bs := bytesLE 4 (2 ^ 31 + c.off) ++ (if cr then bytesLE 4 (c.crcReg ^^^ 0xFFFFFFFF) else [])
  let (ok, s1) :=
    if wb || cr then
      match s.streamRefused k (c.desc + 20) bs.length with
      | some (x, r) => (false, s.violation 3 true r x)
      | none => s.sramWrite (c.desc + 20) bs
    else (true, s)
  if !ok then s1.haltStream k 0x07 c.len
  else
    let last := bit c.ctl 0
    let s2 := if last || bit c.ctl 1 then (s1.putNth DMA.DONE.s k true).irq DMA.IRQRAW.done else s1
    if last then (s2.wr (DMA.SCTL.state k) 4).freeEngine
    else (s2.setStream k { s2.stream k with done := true }).beginDesc k c.next 0 false

/-- One burst of the active stream, which ends at a 64-byte boundary of the destination (R428, R431).
(DESIGN CHOICE, notes/assumptions/58.md.) -/
def State.burst (s : State) (k : Nat) : State :=
  let c := s.stream k
  if c.off ≥ c.len then s.completeDesc k
  else
    let n := min (c.len - c.off) (64 - (c.dst + c.off) % 64)
    match s.streamRefused k (c.dst + c.off) n with
    | some (x, r) => (s.violation 3 true r x).haltStream k 0x02 c.off
    | none =>
      let ((good, bs), s1) := s.burstData c n
      let (ok, s2) := s1.sramWrite (c.dst + c.off) (bs.take good)
      if !ok then s2.haltStream k 0x03 c.off
      else
        let s3 := s2.setStream k { c with off := c.off + good, since := c.since + good, crcReg := crc32Reg c.crcReg (bs.take good) }
        if good < n then s3.haltStream k 0x03 (c.off + good)
        else if c.off + good = c.len then s3.completeDesc k
        else s3

/-- DMA_BURST_END (R430): the burst ends; the engine goes on, passes to another stream, or is free. -/
def execDmaBurstEnd (s : State) : Result :=
  match s.activeStream with
  | none => .next (s.pickStream 63)
  | some k =>
    if !s.alive 0x42 then .next s
    else
      let s1 := (s.setStream k { s.stream k with done := false }).burst k
      if s1.activeStream ≠ some k then .next (s1.pickStream k)
      else if !s1.working 0x42 then .next (s1.wr (DMA.SCTL.state k) 1).freeEngine
      else
        let c := s1.stream k
        let higher := match s1.bestLevel with
          | some l => decide (l < s1.streamLevel k)
          | none => false
        let sameLevel := (s1.readyStreams.any fun j => s1.streamLevel j == s1.streamLevel k) &&
          (decide (4096 ≤ c.since) || c.done)
        if higher || sameLevel then .next ((s1.wr (DMA.SCTL.state k) 1).freeEngine.pickStream k)
        else .next s1

/-- An operation written to SCTLs (R429): whether it is allowed, else refused. -/
def State.dmaOp (s : State) (req : Requester) (k op : Nat) : State :=
  let allowed := decide (16 ≤ k) && decide (k < 64) && s.flag (DMA.SCFG.enable k) &&
    (match req with
     | .remote _ role _ => s.flag (DMA.SCFG.remote k) && decide (2 ≤ role)
     | _ => true)
  let refuse := s.wr (DMA.SCTL.refused k) 1
  let cleared := ((s.wr (DMA.SCTL.code k) 0).wr (DMA.SCTL.refused k) 0).wr (DMA.SCTL.already_done k) 0
  let st := s.streamState k
  if decide (64 ≤ k) then s
  else if !allowed then refuse
  else
    match op with
    | 1 =>
      if st = 0 ∨ st = 4 ∨ st = 5 then
        ((cleared.wr (DMA.SCTL.state k) 1).setStream k { desc := s.rd (DMA.SHEAD.desc k) * 32, unread := some false }).pickStream 63
      else refuse
    | 2 =>
      if st = 3 then ((cleared.wr (DMA.SCTL.state k) 1).setStream k { s.stream k with
          desc := s.rd (DMA.SRESD.desc k), off := s.rd (DMA.SRESO.offset k), unread := some true }).pickStream 63
      else refuse
    | 3 =>
      let c := s.stream k
      if st = 1 ∨ st = 2 then
        let s1 := ((s.wr (DMA.SCTL.state k) 5).wr (DMA.SRESD.desc k) c.desc).wr (DMA.SRESO.offset k) (if st = 1 then 0 else c.off)
        let s2 := s1.irq DMA.IRQRAW.aborted
        if s.activeStream = some k then (s2.freeEngine).pickStream k else s2
      else if st = 3 then (s.wr (DMA.SCTL.state k) 5).irq DMA.IRQRAW.aborted
      else s.wr (DMA.SCTL.already_done k) 1
    | _ => refuse

/-- DMA_START. -/
def execDmaStart (req : Requester) (stream : Nat) (s : State) : Result := s.command req 0x42 fun s => s.dmaOp req stream 1

/-- DMA_RESTART. -/
def execDmaRestart (req : Requester) (stream : Nat) (s : State) : Result := s.command req 0x42 fun s => s.dmaOp req stream 2

/-- DMA_ABORT.
(DESIGN CHOICE, notes/assumptions/58.md.) -/
def execDmaAbort (req : Requester) (stream : Nat) (s : State) : Result := s.command req 0x42 fun s => s.dmaOp req stream 3

/-- A write of RRREL (R425): a value outside RRREL to RRPROD is ignored. -/
def State.ringRelease (s : State) (index : Nat) : State :=
  if (index + 2 ^ 32 - s.rd DMA.RRREL.index) % 2 ^ 32 ≤ (s.rd DMA.RRPROD.index + 2 ^ 32 - s.rd DMA.RRREL.index) % 2 ^ 32 then
    s.wr DMA.RRREL.index index
  else s

/-- RESULT_RING_RELEASE. -/
def execResultRingRelease (req : Requester) (index : Nat) (s : State) : Result := s.command req 0x42 fun s => s.ringRelease index

/-- The 16 bytes of a result record (R147). -/
def recordBytes (r : ResultRec) : List Byte :=
  bytesLE 4 (unsigned 32 r.value) ++ bytesLE 2 r.u95 ++ bytesLE 1 r.status ++ bytesLE 1 r.lap ++ bytesLE 6 r.stime ++ bytesLE 2 (r.ch % 1024)

/-- S5 writes a record into the result ring (R425). -/
def State.ringWrite (s : State) (r : ResultRec) : State :=
  if !(s.flag DMA.CFG.rr_en && s.alive 0x42) then s
  else if s.dmaHolds then { s with dma := { s.dma with jobs := s.dma.jobs ++ [.result r] } }
  else
    let size := 2 ^ s.rd DMA.CFG.rr_n
    let prod := s.rd DMA.RRPROD.index
    if (prod + 2 ^ 32 - s.rd DMA.RRREL.index) % 2 ^ 32 ≥ size then
      (s.stick DMA.RRDROP.count DMA.CNTOVF.rrdrop (some DMA.IRQRAW.cnt_ovf)).irq DMA.IRQRAW.rr_drop
    else
      match s.boundWrite 5 (s.rd DMA.RRBASE.base * 0x1000 + prod % size * 16) (recordBytes r) with
      | (true, s1) => s1.wrap DMA.RRPROD.index
      | (false, s1) => s1

/-- Whether a descriptor of the chain from an address on has its source in the store window (R427); `fuel` bounds the walk. -/
def State.chainTouchesStore (s : State) : Nat → Nat → Bool
  | 0, _ => false
  | fuel + 1, a =>
    if !inSram a 32 then false
    else
      let f : Nat → Nat → Nat := fun i n => s.sramNum (a + i) n
      (!bit (f 12 2) 3 && inStore (f 0 4) (f 8 3)) || (!bit (f 12 2) 0 && f 16 4 != a && State.chainTouchesStore s fuel (f 16 4))

/-- Whether the job of a stream has still to read the store (R434): its descriptor as read, and the rest of its chain as it stands. -/
def State.jobTouchesStore (s : State) (k : Nat) : Bool :=
  let c := s.stream k
  match c.unread with
  | some _ => s.chainTouchesStore 131072 c.desc
  | none => (!bit c.ctl 3 && inStore c.src c.len) || (!bit c.ctl 0 && s.chainTouchesStore 131072 c.next)

/-- A quiesce of MEM or NVM halts the active and ready chained streams whose job touches it (R434). -/
def State.haltStreams (s : State) (page : Nat) : State :=
  s.each (((List.range 48).map (· + 16)).filter fun k => s.streamState k == 1 || s.streamState k == 2) fun st k =>
    if page = 0x40 ∨ (page = 0x48 ∧ st.jobTouchesStore k) then st.haltStream k 0x05 (st.stream k).off else st

end Sys2Proof.Machine
end

