-- ==== Sys2Proof/Machine/Rec.lean ====
section
/-!
DEFINITION. The event recorder (R449 to R467): staging and programming of records, rate classes, histograms and extremes in
the working area, snapshots and deltas, archive and clear, anchors.
-/

namespace Sys2Proof.Machine

/-- The first byte of REC's working area (R455). -/
def State.workArea (s : State) : Nat := s.rd REC.WORKBASE.base * 0x10000

/-- The first byte of a channel's block in the working area (R453, R456). -/
def State.chanBlock (s : State) (c : Nat) : Nat := s.workArea + 128 + 256 * c

/-- Writes bytes of the working area through S6 (R424). -/
def State.workPut (s : State) (a : Nat) (bs : List Byte) : State := (s.boundWrite 6 a bs).2

/-- A job of S6 that reads `n` bytes of the working area and writes what they become: whether it was done (R417, R426). -/
def State.workUpdate (s : State) (a n : Nat) (f : List Byte → List Byte) : Bool × State :=
  match s.boundRead 6 a n with
  | (none, s1) => (false, s1)
  | (some bs, s1) => if f bs = bs then (true, s1) else s1.boundWrite 6 a (f bs)

/-- Whether REC holds what is passed to it (R467): its own quiesce, or the engine's; in Nap its clocks stand still (R514); and until it
has resumed (R460). -/
def State.recHolds (s : State) : Bool := s.quiesced 0x49 || s.dmaHolds || !s.alive 0x49 || s.recorder.resume

/-- Where staged records begin in the working area (R455). -/
def State.stagingArea (s : State) : Nat := s.workArea + 0xC000

/-- Where a channel's eight bytes lie in the record of changes (R455): bits 0 to 31 for its bins, 32 for the invalid count, 33 to 36 for
its extreme entries.
(DESIGN CHOICE, notes/assumptions/54.md.) -/
def State.changeArea (s : State) (c : Nat) : Nat := s.workArea + 0xA400 + 8 * c

/-- A change of an entry of a channel is recorded in the working area (R455). -/
def State.markChange (s : State) (c k : Nat) : State :=
  (s.workUpdate (s.changeArea c + k / 8) 1 fun bs => bytesLE 1 (ofBytesLE bs ||| 2 ^ (k % 8))).2

/-- The record of changes of a channel keeps only some of its bits. -/
def State.keepChanges (s : State) (c mask : Nat) : State :=
  (s.workUpdate (s.changeArea c) 8 fun bs => bytesLE 8 (ofBytesLE bs &&& mask)).2

/-- Bytes staged. -/
def State.stagedBytes (s : State) : Nat := (s.recorder.staged.map List.length).sum

/-- The sequence after one: bits [11:0] all ones are skipped (R461). -/
def nextLogSeq (q : Nat) : Nat := let n := (q + 1) % 2 ^ 32; if n % 4096 = 4095 then (n + 1) % 2 ^ 32 else n

/-- A record of 16 × k bytes (R461). -/
def State.recordOf (s : State) (code k : Nat) (payload : List Byte) : List Byte :=
  let seq := s.rd REC.LOGSEQ.seq
  let body := bytesLE 2 ((k - 1) % 16 + seq % 4096 * 16) ++ bytesLE 2 code ++ bytesLE 5 s.optime ++ bytesLE 3 s.powerCycles ++
    (payload ++ List.replicate (16 * k - 16) 0).take (16 * k - 16)
  body ++ bytesLE 4 (crc32 body)

/-- Counts dropped staged records (R462). -/
def State.stageDrop (s : State) (n : Nat) : State :=
  let s1 := s.each (List.range n) fun st _ => st.stick REC.STAGEDROP.count REC.CNTOVF.stage (some REC.IRQRAW.cnt_ovf)
  { s1.irq REC.IRQRAW.stage_drop with recorder := { s1.recorder with untold := s1.recorder.untold + n } }

/-- Stages one record in the working area (R455), or drops it when staging is full or the write fails (R462); MSG sends it where recpush
is set (R391). A summary record that is staged sets IRQRAW.summary (R465).
(DESIGN CHOICE, notes/assumptions/54.md.) -/
def State.stage (s : State) (code k : Nat) (payload : List Byte) : State :=
  if s.stagedBytes + 16 * k > 0x4000 then s.stageDrop 1
  else
    let r := s.recordOf code k payload
    match s.boundWrite 6 (s.stagingArea + s.stagedBytes) r with
    | (false, s1) => s1.stageDrop 1
    | (true, s1) =>
      let push := s.flag MSG.CFG.recpush && s.working 0x34
      let s2 := { s1 with
        recorder := { s1.recorder with staged := s1.recorder.staged ++ [r] }
        msg := if push then { s1.msg with records := s1.msg.records ++ [r] } else s1.msg }
      (s2.wr REC.LOGSEQ.seq (nextLogSeq (s.rd REC.LOGSEQ.seq))).when (code == 2) fun t => t.irq REC.IRQRAW.summary

/-- A staging-overflow record once room has returned (R462). -/
def State.tellDrops (s : State) : State :=
  if s.recorder.untold > 0 ∧ s.stagedBytes + 32 ≤ 0x4000 then
    let s1 := s.stage 0x0005 2 (bytesLE 4 s.recorder.untold)
    { s1 with recorder := { s1.recorder with untold := 0 } }
  else s

/-- A record of a rate class takes a token, or is suppressed and counted (R462).
(DEDUCED, notes/assumptions/54.md.) -/
def State.letIn (s : State) (code k : Nat) (payload : List Byte) : State :=
  let c := code / 1024
  if c ≠ 0 ∧ s.flag (REC.CLS.enable c) then
    if s.rd (REC.CLS.tokens c) > 0 then (s.wr (REC.CLS.tokens c) (s.rd (REC.CLS.tokens c) - 1)).stage code k payload
    else
      let old := Keyed.get? s.recorder.suppressed c
      let e : Suppressed := ⟨(old.map Suppressed.first).getD s.optime, s.optime, code⟩
      let s1 := s.stick (REC.CLS.suppressed c) (REC.CLS.sup_ovf c) (some REC.IRQRAW.cnt_ovf)
      { s1 with recorder := { s1.recorder with suppressed := Keyed.put s1.recorder.suppressed c e } }
  else s.stage code k payload

/-- An event becomes a variable record (R461); the smaller variants have none, and a quiesced REC holds it (R467). -/
def State.recEvent (s : State) (code k : Nat) (payload : List Byte) : State :=
  if !s.powered 0x49 || s.variant != .lm160 then s
  else if s.recHolds then { s with recorder := { s.recorder with held := s.recorder.held ++ [.event code k payload] } }
  else s.tellDrops.letIn code k payload

/-- The summary record of a class; its count is zeroed (R462).
(DEDUCED, notes/assumptions/54.md.) -/
def State.summarise (s : State) (c : Nat) : State :=
  match Keyed.get? s.recorder.suppressed c with
  | none => s
  | some e =>
    let n := s.rd (REC.CLS.suppressed c)
    let s1 := s.recEvent 0x0002 2 (bytesLE 1 c ++ bytesLE 3 n ++ bytesLE 5 e.first ++ bytesLE 5 e.last ++ bytesLE 2 e.code)
    let s2 := s1.wr (REC.CLS.suppressed c) 0
    { s2 with recorder := { s2.recorder with suppressed := Keyed.drop s2.recorder.suppressed c } }

/-- Every bucket full (R462, R467). -/
def State.refillAll (s : State) : State :=
  s.each (List.range 64) fun st c => if st.flag (REC.CLS.enable c) then st.wr (REC.CLS.tokens c) (st.rd (REC.CLS.burst c)) else st

/-! ### The log in the store -/

/-- The first store offset of the log, and the first after it (R436). -/
def logBase : Nat := 0x400000
/-- The end of the log region. -/
def logEnd : Nat := 0x1C00000

/-- The sector after one in the ring of 384 (R462). -/
def nextLogSector (sector : Nat) : Nat := if (sector + 1) * 0x10000 < logEnd then sector + 1 else logBase / 0x10000

/-- The header with which a log sector begins (R462). -/
def State.sectorHeader (s : State) (firstSeq : Nat) : List Byte :=
  let b := bytesLE 4 0x474F4C52 ++ bytesLE 4 s.recorder.sectorSeq ++ bytesLE 4 firstSeq ++ bytesLE 1 s.variant.code ++
    bytesLE 5 s.optime ++ bytesLE 3 s.powerCycles
  let c := (b ++ List.replicate 28 0).take 28
  c ++ bytesLE 4 (crc32 c)

/-- The full sequence of a staged record, from its bits [11:0] and the sequence of the next record. -/
def State.fullSeq (s : State) (r : List Byte) : Nat :=
  let low := ofBytesLE (r.take 2) / 16
  let next := s.rd REC.LOGSEQ.seq
  (next + 2 ^ 32 - (next + 4096 - low) % 4096) % 2 ^ 32

/-- Programs bytes of the log; a failure sets FAULT.logwr (R462). -/
def State.logProgram (s : State) (off : Nat) (bs : List Byte) : State :=
  match s.storeProgram off bs with
  | (true, s1) => s1
  | (false, s1) => s1.fault REC.FAULT.logwr 0x0111

/-- A record is lost to a full log and counted in backup memory (R462), a counter of class STICK. -/
def State.logLost (s : State) : State :=
  let n := s.rd BKPM.DATA30.drop
  let n' := min (2 ^ 32 - 1) (n + 1)
  ((s.wr BKPM.DATA30.drop n').wr REC.LOGDROP.count n').when (n + 1 == 2 ^ 32 - 1) fun t => t.irq REC.IRQRAW.cnt_ovf

/-- A sector is opened with its header. -/
def State.openSector (s : State) (sector firstSeq : Nat) : State :=
  let s1 := s.logProgram (sector * 0x10000) (s.sectorHeader firstSeq)
  { s1 with recorder := { s1.recorder with sectorOpen := some sector, sectorSeq := (s.recorder.sectorSeq + 1) % 2 ^ 32 } }

/-- Programs one record at LOGEND, in a new sector where it does not fit (R461, R462); where the log is full it is lost. A record that
fails to program keeps its place.
(DESIGN CHOICE, notes/assumptions/54.md.) -/
def State.logWrite (s : State) (r : List Byte) : State :=
  let off := s.rd REC.LOGEND.offset
  let sector := off / 0x10000
  let fits := decide (off % 0x10000 + r.length ≤ 0x10000) && off % 0x10000 != 0
  let put : State → Nat → State := fun t o => ((t.logProgram o r).wr REC.LOGEND.offset (o + r.length)).irq REC.IRQRAW.record
  if s.flag REC.STAT.logfull then s.logLost
  else if fits then put (if s.recorder.sectorOpen = some sector then s else s.openSector sector (s.fullSeq r)) off
  else
    let next := nextLogSector (if off % 0x10000 = 0 then sector - 1 else sector)
    if next = s.rd REC.LOGSTART.offset / 0x10000 then ((s.wr REC.STAT.logfull 1).irq REC.IRQRAW.log_full).logLost
    else put (s.openSector next (s.fullSeq r)) (next * 0x10000 + 32)

/-- How many staged records fit into `pages` pages. -/
def State.stagedFit (s : State) (pages : Nat) : Nat :=
  (s.recorder.staged.foldl (init := ((0, 0) : Nat × Nat)) fun (n, b) r =>
    if b + r.length > pages * 256 then (n, pages * 256 + 1) else (n + 1, b + r.length)).1

/-- Programs staged records while they fit into `pages` pages (R458, R462); those left move to the start of the staging area. -/
def State.programStaged (s : State) (pages : Nat) : State :=
  let n := s.stagedFit pages
  let s1 := s.each (s.recorder.staged.take n) State.logWrite
  let s2 := { s1 with recorder := { s1.recorder with staged := s1.recorder.staged.drop n } }
  if n = 0 ∨ s2.recorder.staged.isEmpty then s2 else s2.workPut s2.stagingArea s2.recorder.staged.flatten

/-! ### Histograms and extremes -/

/-- Adds to a bin or the invalid count of a block (class STICK, one overflow bit each, R62, R452): whether it was done. -/
def State.binAdd (s : State) (c bin n : Nat) : Bool × State :=
  let b := s.chanBlock c
  let v := s.sramNum (b + 4 * bin) 4
  match s.workUpdate (b + 4 * bin) 4 fun bs => bytesLE 4 (min (2 ^ 32 - 1) (ofBytesLE bs + n)) with
  | (false, s1) => (false, s1)
  | (true, s1) =>
    if n = 0 ∨ v + n < 2 ^ 32 - 1 then (true, s1)
    else
      let a := if bin = 32 then b + 136 else b + 132 + bin / 8
      let m := if bin = 32 then 1 else 2 ^ (bin % 8)
      let first := s1.sramNum a 1 &&& m == 0
      match s1.workUpdate a 1 fun bs => bytesLE 1 (ofBytesLE bs ||| m) with
      | (done, s2) => (true, s2.when (done && first) fun t => t.irq REC.IRQRAW.cnt_ovf)

/-- Notes a change in the record of changes since the newest verified base, and in that since the base being written. -/
def State.modChanges (s : State) (f : RecChanges → RecChanges) : State :=
  { s with recorder := { s.recorder with changes := f s.recorder.changes, sinceCapture := f s.recorder.sinceCapture } }

/-- Counts one in a bin or the invalid count of a block. -/
def State.binCount (s : State) (c bin : Nat) : State :=
  match s.binAdd c bin 1 with
  | (false, s1) => s1
  | (true, s1) =>
    (s1.markChange c bin).modChanges fun ch =>
      { ch with increments := Keyed.put ch.increments (64 * c + bin) (Keyed.get 0 ch.increments (64 * c + bin) + 1) }

/-- The offset in a block of an extreme entry, in block order (R453). -/
def extremeOff (slot : Nat) : Nat := 144 + 16 * slot

/-- Updates one extreme entry with a VALID record (R452). -/
def State.extremeUpdate (s : State) (r : ResultRec) (slot : Nat) : State :=
  let a := s.chanBlock r.ch + extremeOff slot
  let entry := bytesLE 4 (unsigned 32 r.value) ++ bytesLE 2 r.u95 ++ bytesLE 1 r.status ++ bytesLE 1 1 ++ bytesLE 5 s.optime ++
    bytesLE 3 s.powerCycles
  let better : List Byte → Bool := fun bs =>
    let old := signed 32 (ofBytesLE (bs.take 4))
    ofBytesLE ((bs.drop 7).take 1) % 2 == 0 || (if slot % 2 = 0 then decide (r.value < old) else decide (r.value > old))
  let changes := better (s.sramBytes a 16)
  match s.workUpdate a 16 fun bs => if better bs then entry else bs with
  | (false, s1) => s1
  | (true, s1) =>
    if !changes then s1
    else
      (s1.markChange r.ch (33 + slot)).modChanges fun ch =>
        if ch.extremes.contains (r.ch, slot) then ch else { ch with extremes := ch.extremes ++ [(r.ch, slot)] }

/-- Sets or clears the exponent-mismatch flag of a block (R452, R453). -/
def State.setMismatch (s : State) (c : Nat) (b : Bool) : State :=
  (s.workUpdate (s.chanBlock c + 136) 1 fun bs =>
    let old := ofBytesLE bs
    if bit old 2 = b then bs else bytesLE 1 (if b then old + 4 else old - 4)).2

/-- A record is counted (R452). -/
def State.recTake (s : State) (r : ResultRec) : State :=
  if r.ch ≥ 160 ∨ !s.flag (REC.HIST.enable r.ch) then s
  else
    let e := s.rd (REC.HIST.exp r.ch)
    if e ≠ s.rd (AFE.CTX.exp (r.ch / 20) (r.ch % 20)) then (s.setMismatch r.ch true).fault REC.FAULT.cfgmis 0x0112
    else
      let s1 := s.setMismatch r.ch false
      let s2 := (s1.workUpdate (s1.chanBlock r.ch + 137) 1 fun _ => bytesLE 1 e).2
      if bit r.status 0 then
        let below := (List.range 31).filter fun i => decide (signed 32 (s.rd (REC.HIST.edge_k r.ch i)) ≤ r.value)
        let bin := below.length
        (s2.binCount r.ch bin).each [0, 1, 2, 3] fun st slot => st.extremeUpdate r slot
      else s2.binCount r.ch 32

/-- ARITH passes a record to REC (R151, R467). -/
def State.recResult (s : State) (r : ResultRec) : State :=
  if !s.alive 0x49 then s
  else if s.recHolds then { s with recorder := { s.recorder with held := s.recorder.held ++ [.result r] } }
  else s.recTake r

/-- The anchors are copied into the working image (R463). -/
def State.putAnchors (s : State) : State :=
  s.workPut (s.workArea + 32) ((List.range 16).flatMap fun i => bytesLE 4 (s.rd (REC.ANCHOR.bytes i)))

/-- What was held under a quiesce is taken when it ends. -/
def State.recFlush (s : State) : State :=
  if s.recHolds || s.recorder.held.isEmpty then s
  else
    let l := s.recorder.held
    ({ s with recorder := { s.recorder with held := [] } }).each l fun st h =>
      match h with
      | .event code k payload => st.recEvent code k payload
      | .result r => st.recTake r
      | .anchors => st.putAnchors

/-- Clears a channel (R454): on the TU-LM160 after a histogram-closed record of its block, whose exponent code is the one its records had
until now. -/
def State.recClear (s : State) (c exp : Nat) : State :=
  let b := s.chanBlock c
  let s1 := match s.boundRead 6 b 136 with
    | (none, t) => t
    | (some bs, t) => t.recEvent 0x0006 10 (bytesLE 2 c ++ bytesLE 1 exp ++ bytesLE 1 0 ++ bs)
  let s2 := s1.workPut b (List.replicate 136 0)
  let s3 := (s2.workUpdate (b + 136) 2 fun bs => bytesLE 1 (ofBytesLE (bs.take 1) / 2 * 2) ++ bytesLE 1 (s.rd (REC.HIST.exp c))).2
  let s4 := (s3.workPut (b + 144) (List.replicate 32 0)).workPut (b + 208) (bytesLE 4 (s.optime / 256))
  let s5 := (s4.keepChanges c (2 ^ 35 + 2 ^ 36)).modChanges fun ch =>
    { ch with
      increments := ch.increments.filter fun e => e.1 / 64 != c
      extremes := ch.extremes.filter fun e => !(e.1 == c && decide (e.2 < 2)) }
  { s5 with recorder := { s5.recorder with baseDue := true } }

/-- A new leg (R454). -/
def State.recNewLeg (s : State) : State :=
  let s1 := s.each (List.range s.variant.channels) fun st c =>
    (st.workPut (st.chanBlock c + 176) (List.replicate 32 0)).keepChanges c (2 ^ 35 - 1)
  let s2 := s1.wr REC.LEG.leg (s1.rd REC.LEG.leg + 1)
  (s2.workPut (s2.workArea + 21) (bytesLE 2 (s2.rd REC.LEG.leg) ++ bytesLE 5 s2.optime)).modChanges fun ch =>
    { ch with legStart := s.optime, extremes := ch.extremes.filter fun e => decide (e.2 < 2) }

/-! ### Snapshots -/

/-- The store offset of a snapshot sector (R456). -/
def snapSector (i : Nat) : Nat := 0x1C00000 + i * 0x10000

/-- The extreme entries of a delta that can be read from the working area (R417, R457). -/
def State.deltaExtremes (s : State) : List (Nat × Nat) :=
  s.recorder.changes.extremes.filter fun e => (touched s.sramBad (s.chanBlock e.1 + extremeOff e.2) 16).isEmpty

/-- The delta of a commit in at most `pages` pages (R457, R458): the bytes, and whether it is truncated. -/
def State.deltaBytes (s : State) (pages : Nat) : List Byte × Bool :=
  let ch := s.recorder.changes
  let extremes := s.deltaExtremes
  let room := pages * 256 - 36
  let nx := min extremes.length (room / 16)
  let nh := if nx < extremes.length then 0 else min ch.increments.length ((room - 16 * nx) / 4)
  let cut := decide (nx < ch.extremes.length) || decide (nh < ch.increments.length)
  let xs := (extremes.take nx).flatMap fun (c, slot) =>
    let e := s.sramBytes (s.chanBlock c + extremeOff slot) 16
    e.take 13 ++ bytesLE 1 c ++ bytesLE 1 slot ++ e.drop 15
  let hs := (ch.increments.take nh).flatMap fun (key, n) =>
    bytesLE 4 (key / 64 % 256 * 2 ^ 24 + key % 64 * 2 ^ 18 + n % 2 ^ 18)
  let body := bytesLE 4 0x444C5452 ++ bytesLE 4 (s.rd REC.SNAPSEQ.seq) ++ bytesLE 5 s.optime ++ bytesLE 3 s.powerCycles ++
    bytesLE 5 ch.legStart ++ bytesLE 2 (s.rd REC.LEG.leg) ++ bytesLE 1 (ofBool cut) ++ bytesLE 2 nx ++ bytesLE 2 nh ++
    bytesLE 4 0 ++ xs ++ hs
  (body ++ bytesLE 4 (crc32 body), cut)

/-- A delta is read from the working area and programmed where it fits the delta area (R457, R458). -/
def State.writeDelta (s : State) (pages : Nat) : State :=
  let s1 := s.each s.recorder.changes.extremes fun st e => (st.sramSee (st.chanBlock e.1 + extremeOff e.2) 16).2
  let bs := (s.deltaBytes pages).1
  let need := (bs.length + 255) / 256
  let page := s.recorder.deltaPage
  if 0x10000 < 0xC000 + 256 * (page + need) then s1
  else
    let s2 := (s1.storeProgram (snapSector s.recorder.baseSector + 0xC000 + 256 * page) bs).2
    { s2 with recorder := { s2.recorder with deltaPage := page + need } }

/-- A commit (R458): staged records up to rec_pages pages, those left over counted as dropped, then one delta; the room that has returned
takes the record of what was dropped (R462). -/
def State.recCommit (s : State) : State :=
  if !s.alive 0x49 || !s.alive 0x48 then s
  else
    let pages := s.rd REC.CFG2.rec_pages
    let s1 := s.programStaged pages
    let left := s1.recorder.staged.length
    let s2 := if left = 0 then s1 else
      { s1.stageDrop left with recorder := { (s1.stageDrop left).recorder with staged := [] } }
    (s2.writeDelta (24 - pages)).tellDrops

/-- The first 21 bytes of an image: magic, version, base sequence, variant and the stamps of a capture now (R456). -/
def State.imageHead (s : State) (seq : Nat) : List Byte :=
  bytesLE 4 0x53454852 ++ bytesLE 2 1 ++ bytesLE 2 0 ++ bytesLE 4 seq ++ bytesLE 1 s.variant.code ++ bytesLE 3 s.powerCycles ++ bytesLE 5 s.optime

/-- The bytes of a base captured now (R456). -/
def State.baseBytes (s : State) (seq : Nat) : List Byte :=
  let body := s.imageHead seq ++ s.sramBytes (s.workArea + 21) (41088 - 21)
  body ++ bytesLE 4 (crc32 body)

/-- Whether a base is due at this boundary by an interval that has passed (R459). -/
def State.basePeriodic (s : State) : Bool :=
  let r := s.recorder
  let age := (s.stime - r.baseTime) / 1000000
  let size := (s.deltaBytes 200).1.length
  let many := decide ((24 - s.rd REC.CFG2.rec_pages) * 256 < size) || r.changes.increments.any fun e => decide (2 ^ 17 ≤ e.2)
  decide (s.rd REC.CFG.snap_s ≤ age) || (many && decide (s.rd REC.CFG.snap_min_s ≤ age))

/-- Whether a base is due at this boundary whatever the intervals (R459): after a restoration, a clear or op 0x6, or where no delta of the
next commit would fit. -/
def State.baseForced (s : State) : Bool :=
  s.recorder.baseDue ||
    decide (0x10000 < 0xC000 + 256 * (s.recorder.deltaPage + ((s.deltaBytes (24 - s.rd REC.CFG2.rec_pages)).1.length + 255) / 256))

/-- The next erased sector of the snapshot ring after the newest verified base (R459). -/
def State.nextErased (s : State) : Option Nat :=
  ((List.range 31).map fun i => (s.recorder.baseSector + 1 + i) % 32).find? fun i => s.sectorErased (snapSector i / 0x10000)

/-- REC erases a sector of the snapshot ring (R459, R525). -/
def State.eraseSnap (s : State) (i : Nat) : State :=
  let sector := snapSector i / 0x10000
  if s.nvmHas (.recSector sector) then s else s.nvmIssue ⟨.recSector sector, 2, 0, sector * 0x10000, 0x10000⟩

/-- BASE_CAPTURE at a lap boundary (R459): the image is copied to COPYBASE and its programming is issued; a periodic capture is deferred
(R439, R460). Where no sector of the ring is erased, the one after the newest base is erased first (R525).
(DESIGN CHOICE, notes/assumptions/54.md.) -/
def State.recCapture (s : State) : State :=
  let deferred := s.flag NVM.CFG.defer && decide (1 ≤ s.level)
  let due := s.baseForced || (s.basePeriodic && !deferred)
  if s.recHolds || !s.working 0x48 || s.recorder.writing.isSome || !s.flag MEM.INFO.init_done || !due then s
  else
    match s.nextErased with
    | none => s.eraseSnap ((s.recorder.baseSector + 1) % 32)
    | some sector =>
      let seq := (s.rd REC.SNAPSEQ.seq + 1) % 2 ^ 32
      let s1 := s.workPut s.workArea (s.imageHead seq)
      match s1.boundRead 6 s1.workArea 41088 with
      | (none, s2) => s2
      | (some _, s2) =>
        let bs := s1.baseBytes seq
        let s3 := (s2.boundWrite 6 (s.rd REC.COPYBASE.base * 0x1000) bs).2
        let s4 := { s3.wr REC.STAT.snapping 1 with recorder := { s3.recorder with
          writing := some (sector, seq, bs), captureTime := s.stime, baseDue := false, sinceCapture := {} } }
        s4.nvmIssue ⟨.recBase, 1, 0, snapSector sector, bs.length⟩

/-- The record of changes in the working area starts anew with what has changed since the capture (R455). -/
def State.changesAnew (s : State) : State :=
  let ch := s.recorder.sinceCapture
  let s1 := s.workPut (s.changeArea 0) (List.replicate (8 * s.variant.channels) 0)
  let s2 := s1.each ch.increments fun st e => st.markChange (e.1 / 64) (e.1 % 64)
  s2.each ch.extremes fun st e => st.markChange e.1 (33 + e.2)

/-- The program of a base ends (R459): it is verified, and the next sector of the ring is erased; or it has failed. -/
def State.baseEnd (verified : Bool) (s : State) : State :=
  match s.recorder.writing with
  | none => s.nvmNext
  | some (sector, seq, bs) =>
    let s0 := { s.wr REC.STAT.snapping 0 with recorder := { s.recorder with writing := none } }
    match if verified then s0.storeProgram (snapSector sector) bs else (false, s0.programFailed (snapSector sector) bs.length) with
    | (false, s1) => (s1.fault REC.FAULT.snapwr 0x0110).nvmNext
    | (true, s1) =>
      let s2 := ((s1.wr REC.SNAPSEQ.seq seq).irq REC.IRQRAW.snap_done).changesAnew
      let s3 := { s2 with recorder := { s2.recorder with
        baseSector := sector, deltaPage := 0, baseTime := s2.recorder.captureTime, changes := s2.recorder.sinceCapture } }
      s3.nvmNext.eraseSnap ((sector + 1) % 32)

/-- BASE_VERIFIED (R459): the end of the running program of a base; under a quiesce of REC it does not come (R467). -/
def execBaseVerified (verified : Bool) (s : State) : Result :=
  if s.working 0x49 && s.storeRuns .recBase then .next (s.baseEnd verified) else .next s

/-- Whether the base in a snapshot sector is valid: readable, magic, version, variant and CRC (R435, R456, R460). -/
def State.baseValid (s : State) (sector : Nat) : Bool :=
  let o := snapSector sector
  s.storeNum o 4 == 0x53454852 && s.storeNum (o + 4) 2 == 1 && s.storeNum (o + 12) 1 == s.variant.code &&
    s.storeNum (o + 41088) 4 == crc32 (s.storeBytes o 41088) && s.storeOk o 41092

/-- Sequence number `a` is newer than `b` (R196). -/
def seqNewer (a b : Nat) : Bool := let d := (a + 2 ^ 32 - b) % 2 ^ 32; decide (1 ≤ d) && decide (d < 2 ^ 31)

/-- The sector of the newest valid base (R460). -/
def State.newestBase (s : State) : Option Nat :=
  (List.range 32).foldl (fun best i =>
    if s.baseValid i then
      match best with
      | none => some i
      | some j => if seqNewer (s.storeNum (snapSector i + 8) 4) (s.storeNum (snapSector j + 8) 4) then some i else best
    else best) none

/-- The length of the delta at a store offset, if it is one of a base sequence with a correct CRC (R457). -/
def State.deltaAt (s : State) (off seq : Nat) : Option Nat :=
  let len := 32 + 16 * s.storeNum (off + 24) 2 + 4 * s.storeNum (off + 26) 2
  if s.storeNum off 4 = 0x444C5452 ∧ s.storeNum (off + 4) 4 = seq ∧ off % 0x10000 + len + 4 ≤ 0x10000 ∧ s.storeOk off (len + 4) ∧
      s.storeNum (off + len) 4 = crc32 (s.storeBytes off len) then some len else none

/-- The extreme entries of a delta at a store offset: channel, slot and the 16 bytes of the entry (R457). -/
def State.deltaX (s : State) (off : Nat) : List (Nat × Nat × List Byte) :=
  (List.range (s.storeNum (off + 24) 2)).map fun i =>
    let e := s.storeBytes (off + 32 + 16 * i) 16
    (ofBytesLE ((e.drop 13).take 1), ofBytesLE ((e.drop 14).take 1), e.take 13 ++ s.storeBytes (off + 13) 3)

/-- The histogram entries of a delta at a store offset: channel, bin and increment (R457). -/
def State.deltaH (s : State) (off : Nat) : List (Nat × Nat × Nat) :=
  (List.range (s.storeNum (off + 26) 2)).map fun j =>
    let w := s.storeNum (off + 32 + 16 * s.storeNum (off + 24) 2 + 4 * j) 4
    (w / 2 ^ 24, w / 2 ^ 18 % 64, w % 2 ^ 18)

/-- Applies a delta at a store offset to the working area (R457), and takes its entries as the changes since the base, to which the
changes to come are added: a leg that started since the base empties the leg entries first. The channels that may miss an entry of a
truncated delta become incomplete (R458).
(DEDUCED, notes/assumptions/54.md.) -/
def State.applyDelta (s : State) (off : Nat) : State :=
  let leg := s.storeNum (off + 16) 5
  let s0 := if leg = 0 then s else
    (s.each (List.range s.variant.channels) fun st c => st.workPut (st.chanBlock c + 176) (List.replicate 32 0)).workPut (s.workArea + 21)
      (bytesLE 2 (s.storeNum (off + 21) 2) ++ bytesLE 5 leg)
  let s1 := s0.each (s.deltaX off) fun st (c, slot, e) => (st.workPut (st.chanBlock c + extremeOff slot) e).markChange c (33 + slot)
  let s2 := s1.each (s.deltaH off) fun st (c, bin, n) => (st.binAdd c bin n).2.markChange c bin
  let s3 := (s2.wr REC.LEG.leg (s.storeNum (off + 21) 2)).modChanges fun _ => {}
  let s4 := { s3 with recorder := { s3.recorder with changes := {
    increments := (s.deltaH off).foldl (fun m (c, bin, n) => Keyed.put m (64 * c + bin) n) []
    extremes := (s.deltaX off).map fun (c, slot, _) => (c, slot)
    legStart := leg } } }
  if s.storeNum (off + 23) 1 % 2 = 1 then
    let first := match (s.deltaH off).getLast? with
      | some (c, _, _) => c
      | none => 0
    ((s4.wr REC.STAT.shortfall 1).irq REC.IRQRAW.shortfall).each
      ((List.range s.variant.channels).filter fun c => decide (first ≤ c) && s.flag (REC.HIST.enable c)) fun st c =>
        (st.workUpdate (st.chanBlock c + 136) 1 fun bs => bytesLE 1 (ofBytesLE bs ||| 2)).2
  else s4

/-- The recorder-restored record (R460, R461). -/
def State.tellRestored (s : State) : State :=
  s.recEvent 0x0004 2 (bytesLE 1 (s.rd REC.STAT.restore) ++ bytesLE 1 (s.rd REC.STAT.shortfall) ++ bytesLE 4 (s.rd REC.SNAPSEQ.seq))

/-- The bases and deltas of the store are read (R435, R460). -/
def State.seeSnaps (s : State) : State :=
  s.each (List.range 32) fun st i => (st.storeSee (snapSector i) 41092).when (s.baseValid i) fun t => t.storeSee (snapSector i + 0xC000) 0x4000

/-- The newest base of the store and its last valid delta are loaded (R460). -/
def State.recLoad (s : State) (i : Nat) : State :=
  let o := snapSector i
  let seq := s.storeNum (o + 8) 4
  let s1 := s.workPut s.workArea (s.storeBytes o 41088)
  let s2 := ((s1.wr REC.LEG.leg (s.storeNum (o + 21) 2)).wr REC.SNAPSEQ.seq seq).wr REC.STAT.restore 1
  let s3 := s2.each (List.range 16) fun st j => st.wr (REC.ANCHOR.bytes j) (s.storeNum (o + 32 + 4 * j) 4)
  let s4 := { s3 with recorder := { s3.recorder with baseSector := i, deltaPage := 0, changes := {}, sinceCapture := {} } }
  let s5 := s4.workPut (s4.changeArea 0) (List.replicate (8 * s.variant.channels) 0)
  let deltas := (List.range 64).filterMap fun p =>
    let off := o + 0xC000 + 256 * p
    (s.deltaAt off seq).map fun len => (off, p + (len + 4 + 255) / 256)
  match deltas.getLast? with
  | some (off, page) =>
    let s6 := (s5.applyDelta off).wr REC.STAT.restore 2
    { s6 with recorder := { s6.recorder with deltaPage := page } }
  | none => s5

/-- REC resumes from its working area, or restores it from the store (R460), and refills every bucket (R467). -/
def State.recResume (s : State) : State :=
  let s0 := { s.refillAll with recorder := { s.recorder with resume := false } }
  if s.flag MEM.INFO.retvalid then (s0.wr REC.STAT.restore 0).tellRestored
  else
    let s1 := s0.seeSnaps
    let s2 := match s.newestBase with
      | some i => s1.recLoad i
      | none =>
        let t := ((s1.workPut s1.workArea (s1.imageHead 0 ++ List.replicate (41088 - 21) 0)).wr REC.STAT.restore 3).fault
          REC.FAULT.restore 0x0113
        (t.workPut (t.changeArea 0) (List.replicate (8 * s.variant.channels) 0)).modChanges fun _ => {}
    ({ s2 with recorder := { s2.recorder with baseDue := true } }).tellRestored

/-! ### Commands -/

/-- The store offset of the record with a full sequence, walking from an offset whose record has sequence `seq` (R461). -/
def State.findRecord (s : State) (target : Nat) : Nat → Nat → Nat → Option Nat
  | 0, _, _ => none
  | fuel + 1, off, seq =>
    if off % 0x10000 = 0 then
      if s.storeNum off 4 = 0x474F4C52 then State.findRecord s target fuel (off + 32) (s.storeNum (off + 8) 4) else none
    else if seq = target ∧ s.storeNum off 2 ≠ 0xFFFF then some off
    else
      let h := s.storeNum off 2
      if h = 0xFFFF ∨ off % 0x10000 + 16 > 0x10000 then
        State.findRecord s target fuel (nextLogSector (off / 0x10000) * 0x10000) seq
      else
        let o := off + 16 * (h % 16 + 1)
        if o % 0x10000 = 0 then State.findRecord s target fuel (nextLogSector (off / 0x10000) * 0x10000) seq
        else State.findRecord s target fuel o (nextLogSeq seq)

/-- The store bytes from LOGSTART up to an offset, wrapping at the end of the log (R462). -/
def State.archiveBytes (s : State) (stop : Nat) : List Byte :=
  let start := s.rd REC.LOGSTART.offset
  if start ≤ stop then s.storeBytes start (stop - start)
  else s.storeBytes start (logEnd - start) ++ s.storeBytes logBase (stop - logBase)

/-- Whether the store from LOGSTART up to an offset can be read (R435). -/
def State.archiveOk (s : State) (stop : Nat) : Bool :=
  let start := s.rd REC.LOGSTART.offset
  if start ≤ stop then s.storeOk start (stop - start) else s.storeOk start (logEnd - start) && s.storeOk logBase (stop - logBase)

/-- What the reading of the log up to an offset leaves (R435). -/
def State.seeArchive (s : State) (stop : Nat) : State :=
  let start := s.rd REC.LOGSTART.offset
  if start ≤ stop then s.storeSee start (stop - start) else (s.storeSee start (logEnd - start)).storeSee logBase (stop - logBase)

/-- The reason for which a REC command is refused when it is written, or 0 (R464, R466). -/
def State.recRefusal (s : State) (op : Nat) : Nat :=
  if op = 0 ∨ op > 6 then 5
  else if s.variant ≠ .lm160 ∧ (op = 3 ∨ op = 4 ∨ op = 5) then 1
  else if op = 4 ∧ !s.flag REC.STAT.archived then 2
  else if (op = 3 ∨ op = 4) ∧ s.flag REC.STAT.clearing then 3
  else if op = 5 ∧ s.rd REC.WRCTL.code < 0x8000 then 4
  else 0

/-- A command with key 0xEC is written (R454): it waits for the next boundary, or is refused. -/
def State.recCommand (s : State) (op arg : Nat) : State :=
  let r := s.recRefusal op
  if r = 0 then
    let s1 := s.cmdStat REC.CMDSTAT.state REC.CMDSTAT.reason 1 0
    { s1 with recorder := { s1.recorder with waiting := s1.recorder.waiting ++ [(op, arg)] } }
  else (s.cmdStat REC.CMDSTAT.state REC.CMDSTAT.reason 4 r).irq REC.IRQRAW.cmd_done

/-- A log clear ends, or its next sector is erased (R462). -/
def State.clearStep (s : State) : State :=
  match s.recorder.clearing with
  | sector :: rest => ({ s with recorder := { s.recorder with clearing := rest } }).nvmIssue ⟨.recErase sector, 2, 0, sector * 0x10000, 0x10000⟩
  | [] =>
    let s1 := (((s.wr REC.LOGSTART.offset s.recorder.clearTo).wr REC.STAT.clearing 0).wr REC.STAT.archived 0).irq REC.IRQRAW.clear_done
    let s2 := { s1.wr REC.STAT.logfull 0 with recorder := { s1.recorder with archive := none } }
    let s3 := s2.recEvent 0x0003 2 (bytesLE 4 s.recorder.clearS ++ bytesLE 4 s.recorder.clearCrc ++ bytesLE 2 s.recorder.clearCount ++
      bytesLE 4 (s.rd BKPM.DATA30.drop))
    (((s3.wr BKPM.DATA30.drop 0).wr REC.LOGDROP.count 0).cmdStat REC.CMDSTAT.state REC.CMDSTAT.reason 2 0).irq REC.IRQRAW.cmd_done

/-- REC takes up its work: it resumes once its working area answers (R460), what was held is taken, and a log clear that a cut has
interrupted goes on (R462).
(DESIGN CHOICE, notes/assumptions/54.md.) -/
def State.recGo (s : State) : State :=
  let s1 := if s.recorder.resume && s.alive 0x49 && s.flag MEM.INFO.init_done && !s.dmaHolds then s.recResume else s
  let erases := (s1.nvm.running.toList ++ s1.nvm.waiting).any fun c =>
    match c.owner with
    | .recErase _ => true
    | _ => false
  (if s1.flag REC.STAT.clearing && s1.alive 0x49 && !erases then s1.clearStep else s1).recFlush

/-- The sectors of the ring from one up to, not including, another. -/
def sectorsTo (stop : Nat) : Nat → Nat → List Nat
  | 0, _ => []
  | n + 1, sector => if sector = stop then [] else sector :: sectorsTo stop n (nextLogSector sector)

/-- A waiting command is applied at step 2 of a boundary (R454, R459, R461, R462).
(DEDUCED, notes/assumptions/54.md.) -/
def State.recApply (s : State) (op arg : Nat) : State :=
  let applied := (s.cmdStat REC.CMDSTAT.state REC.CMDSTAT.reason 2 0).irq REC.IRQRAW.cmd_done
  let refused : Nat → State := fun r => (s.cmdStat REC.CMDSTAT.state REC.CMDSTAT.reason 4 r).irq REC.IRQRAW.cmd_done
  match op with
  | 1 => applied.recNewLeg
  | 2 =>
    applied.each (if arg = 0x3FF then List.range s.variant.channels else if arg < s.variant.channels then [arg] else []) fun st c =>
      st.recClear c (st.rd (REC.HIST.exp c))
  | 3 =>
    let seq := s.rd REC.CMDARG.seq
    let start := s.rd REC.LOGSTART.offset / 0x10000 * 0x10000
    match if s.alive 0x48 then s.findRecord seq 1600000 start 0 else none with
    | some off =>
      let read : State → State := fun t => t.seeArchive off
      if s.archiveOk off ∧ crc32 (s.archiveBytes off) = s.rd REC.ARCCRC.crc then
        let t := read (applied.wr REC.STAT.archived 1)
        { t with recorder := { t.recorder with archive := some (seq, off, s.rd REC.ARCCRC.crc) } }
      else read (refused 6)
    | none => refused 6
  | 4 =>
    if s.flag REC.STAT.clearing then refused 3
    else
      match if s.flag REC.STAT.archived then s.recorder.archive else none with
      | some (seq, off, crc) =>
        let l := sectorsTo (off / 0x10000) 384 (s.rd REC.LOGSTART.offset / 0x10000)
        let s1 := s.wr REC.STAT.clearing 1
        ({ s1 with recorder := { s1.recorder with
          clearing := l, clearTo := off / 0x10000 * 0x10000, clearS := seq, clearCrc := crc, clearCount := l.length } }).clearStep
      | none => refused 2
  | 5 =>
    applied.recEvent (s.rd REC.WRCTL.code) (s.rd REC.WRCTL.k + 1) ((List.range 60).flatMap fun i => bytesLE 4 (s.rd (REC.WRDATA.bytes i)))
  | 6 => { applied with recorder := { applied.recorder with baseDue := true } }
  | _ => refused 5

/-- Every waiting command is applied, unless REC holds them (R434, R454, R467). -/
def State.recCommands (s : State) : State :=
  if s.recHolds then s
  else
    let l := s.recorder.waiting
    ({ s with recorder := { s.recorder with waiting := [] } }).each l fun st c => st.recApply c.1 c.2

/-- NEW_LEG. -/
def execNewLeg (req : Requester) (s : State) : Result := s.command req 0x49 fun s => s.recCommand 1 0

/-- HISTOGRAM_CLEAR. -/
def execHistogramClear (req : Requester) (arg : Nat) (s : State) : Result := s.command req 0x49 fun s => s.recCommand 2 arg

/-- ARCHIVE_ACKNOWLEDGE. -/
def execArchiveAcknowledge (req : Requester) (s : State) : Result := s.command req 0x49 fun s => s.recCommand 3 0

/-- CLEAR_LOG. -/
def execClearLog (req : Requester) (s : State) : Result := s.command req 0x49 fun s => s.recCommand 4 0

/-- WRITE_RECORD. -/
def execWriteRecord (req : Requester) (s : State) : Result := s.command req 0x49 fun s => s.recCommand 5 0

/-- CAPTURE_BASE. -/
def execCaptureBase (req : Requester) (s : State) : Result := s.command req 0x49 fun s => s.recCommand 6 0

/-- A write of HSEL copies a channel's block into HWIN (R466). -/
def State.hsel (s : State) (ch : Nat) : State :=
  (s.wr REC.HSEL.ch ch).each (List.range 64) fun st i =>
    st.wr (REC.HWIN.bytes i) (if ch < s.variant.channels then st.sramNum (st.chanBlock ch + 4 * i) 4 else 0)

/-- HSEL_WRITE. -/
def execHselWrite (req : Requester) (ch : Nat) (s : State) : Result := s.command req 0x49 fun s => s.hsel (ch % 1024)

/-- The program of staged records ends (R462). -/
def State.recordsEnd (taken : Bool) (s : State) : State :=
  if taken then (s.programStaged 64).tellDrops else s.fault REC.FAULT.logwr 0x0111

/-- STAGED_RECORD_PROGRAM (R462): what is staged is programmed into the log, unless it is deferred (R439, R460); while another command
runs, the program waits for its turn (R439). -/
def execStagedRecordProgram (taken : Bool) (s : State) : Result :=
  if !s.working 0x49 || !s.working 0x48 || s.flag PWR.STAT.saving || (s.flag NVM.CFG.defer && decide (1 ≤ s.level)) ||
      s.recorder.staged.isEmpty then .next s
  else if s.nvm.running.isNone then .next (s.recordsEnd taken)
  else if s.nvmHas .recRecords then .next s
  else .next (s.nvmIssue ⟨.recRecords, 1, 0, s.rd REC.LOGEND.offset, min s.stagedBytes 0x4000⟩)

/-- TOKEN_REFILL (R462). -/
def execTokenRefill (cls : Nat) (s : State) : Result :=
  if cls ≥ 64 ∨ !s.alive 0x49 ∨ !s.flag (REC.CLS.enable cls) then .next s
  else
    let full := s.rd (REC.CLS.burst cls)
    let n := min full (s.rd (REC.CLS.tokens cls) + 1)
    let s1 := s.wr (REC.CLS.tokens cls) n
    .next (if n = full then s1.summarise cls else s1)

/-- SUMMARY_INTERVAL (R462). -/
def execSummaryInterval (cls : Nat) (s : State) : Result :=
  if cls ≥ 64 ∨ !s.alive 0x49 then .next s else .next (s.summarise cls)

/-- An anchor (R463): the two newest in REC.ANCHOR and in the working image, and a record on the TU-LM160. -/
def State.anchor (s : State) (reason flags subsec : Nat) (bcd : List Nat) : State :=
  let bs := bytesLE 3 s.powerCycles ++ bytesLE 5 s.optime ++ bytesLE 1 reason ++ bytesLE 1 flags ++ bytesLE 2 subsec ++
    bcd.flatMap (bytesLE 1) ++ bytesLE 8 s.stime ++ bytesLE 4 0
  let s1 := s.each (List.range 8) fun st i => st.wr (REC.ANCHOR.bytes (i + 8)) (st.rd (REC.ANCHOR.bytes i))
  let s2 := s1.each (List.range 8) fun st i => st.wr (REC.ANCHOR.bytes i) (ofBytesLE ((bs.drop (4 * i)).take 4))
  let s3 := if !s2.powered 0x49 then s2
    else if s2.recHolds then { s2 with recorder := { s2.recorder with held := s2.recorder.held ++ [.anchors] } }
    else s2.putAnchors
  s3.recEvent 0x0001 3 ((bs.drop 8).take 20)

end Sys2Proof.Machine
end

