-- ==== Sys2Proof/Machine/Rtc.lean ====
section
/-!
DEFINITION. The calendar clock and the backup memory (R468 to R484).
-/

namespace Sys2Proof.Machine

/-- A leap year of R469. -/
def leapYear (y : Nat) : Bool := y % 4 == 0 && y != 2100 && y != 2200 && y != 2300

/-- The days of a month. -/
def monthDays (y m : Nat) : Nat :=
  if m = 2 then (if leapYear y then 29 else 28) else if m = 4 ∨ m = 6 ∨ m = 9 ∨ m = 11 then 30 else 31

/-- The days of a year. -/
def yearDays (y : Nat) : Nat := if leapYear y then 366 else 365

/-- The year a day number falls in, from year `y`, and the day within it. -/
def findYear : Nat → Nat → Nat → Nat × Nat
  | 0, y, d => (y, d)
  | n + 1, y, d => if d < yearDays y then (y, d) else findYear n (y + 1) (d - yearDays y)

/-- The month a day of the year falls in, from month `m`, and the day within it. -/
def findMonth (y : Nat) : Nat → Nat → Nat → Nat × Nat
  | 0, m, d => (m, d)
  | n + 1, m, d => if d < monthDays y m then (m, d) else findMonth y n (m + 1) (d - monthDays y m)

/-- Days from 2000-01-01 to a date. -/
def dayNumber (y m d : Nat) : Nat :=
  ((List.range (y - 2000)).map fun i => yearDays (2000 + i)).sum + ((List.range (m - 1)).map fun i => monthDays y (i + 1)).sum + (d - 1)

/-- Two BCD digits. -/
def toBcd (v : Nat) : Nat := v / 10 * 16 + v % 10

/-- Seconds of the range of R469: 2000-01-01 to 2399-12-31. -/
def calendarEnd : Nat := 146097 * 86400

/-- SEC, MIN, HOUR, DOW, DATE, MONTH, YEAR and CENT in BCD, by seconds from 2000-01-01 00:00:00 (R469). -/
def calendarFields (t : Nat) : List Nat :=
  let days := t / 86400
  let (y, d) := findYear 400 2000 days
  let (m, d1) := findMonth y 12 1 d
  [toBcd (t % 60), toBcd (t / 60 % 60), toBcd (t / 3600 % 24), (days + 5) % 7 + 1, toBcd (d1 + 1), toBcd m, toBcd (y % 100), toBcd (y / 100)]

/-- The nine values of the live time (R473). -/
def State.rtcNow (s : State) : List Nat := s.rtc.subsec :: calendarFields s.rtc.seconds

/-- Whether alarm `a` matches a second (R478). -/
def State.alarmMatches (s : State) (a t : Nat) : Bool :=
  let f := calendarFields t
  let m := s.rd (RTC.ALMCTL.mask a)
  let want := [s.rd (RTC.ALMTIME.sec a), s.rd (RTC.ALMTIME.min a), s.rd (RTC.ALMTIME.hour a), s.rd (RTC.ALMDATE.dow a),
    s.rd (RTC.ALMDATE.date a), s.rd (RTC.ALMDATE.month a)]
  (List.range 6).all fun i => !bit m i || f.getD i 0 == want.getD i 0

/-- Whether alarm `a` may fire in a second: enabled, matching, and later than the last fire (R478, R480). -/
def State.alarmDue (s : State) (a t : Nat) : Bool :=
  s.flag (RTC.ALMCTL.enable a) &&
    (match Keyed.get? s.rtc.lastFired a with
     | some l => decide (l < t)
     | none => true) && s.alarmMatches a t

/-- Alarm `a` fires, for a second, skipped or not (R478, R479), and wakes the node where its wake is set (State.rtcWake). -/
def State.alarmFire (s : State) (a t : Nat) (skipped : Bool) : State :=
  let s1 := (s.irq (if a = 0 then RTC.IRQRAW.alm0 else RTC.IRQRAW.alm1)).put (if a = 0 then RTC.STAT.skip0 else RTC.STAT.skip1) skipped
  { s1 with rtc := { s1.rtc with lastFired := Keyed.put s1.rtc.lastFired a t, wake := s1.rtc.wake || s1.flag (RTC.ALMCTL.wake a) } }

/-- The whole-second part of the time has changed from `old`; `forward` says the change skips seconds (R479). -/
def State.alarms (s : State) (old : Nat) (forward : Bool) : State :=
  let new := s.rtc.seconds
  if new = old then s
  else
    s.each [0, 1] fun st a =>
      let between := if forward && st.flag (RTC.ALMCTL.enable a) && decide (old < new) then
          ((List.range (new - old - 1)).map fun i => new - 1 - i).find? fun t => st.alarmDue a t
        else none
      match between with
      | some t => st.alarmFire a (if st.alarmDue a new then new else t) true
      | none => if st.alarmDue a new then st.alarmFire a new false else st

/-- Sets the live time, wrapping past the end of the range (R470). -/
def State.rtcTo (s : State) (ticks : Nat) : State :=
  let t := ticks / 32768
  let s1 := { s with rtc := { s.rtc with seconds := t % calendarEnd, subsec := ticks % 32768 } }
  if t < calendarEnd then s1 else (s1.wr RTC.STAT.wrap 1).irq RTC.IRQRAW.wrap

/-- The live time in pacer ticks. -/
def State.rtcTicks (s : State) : Nat := s.rtc.seconds * 32768 + s.rtc.subsec

/-- The first failing field of the set buffer (R475). -/
def State.setField (s : State) : Option Nat :=
  let v : Nat → Nat := fun i => s.rd (RTC.SET.set_ i)
  let bcd : Nat → Option Nat := fun x => if x % 16 ≤ 9 ∧ x / 16 ≤ 9 then some (x / 16 * 10 + x % 16) else none
  let range := [(0, 59), (0, 59), (0, 23), (1, 31), (1, 12), (0, 99), (20, 23)]
  let bad := (List.range 7).find? fun i =>
    match bcd (v (i + 1)), range[i]? with
    | some x, some (lo, hi) => !(decide (lo ≤ x) && decide (x ≤ hi))
    | _, _ => true
  match bad with
  | some i => some (i + 1)
  | none =>
    let n : Nat → Nat := fun i => (bcd (v i)).getD 0
    if n 4 ≤ monthDays (n 7 * 100 + n 6) (n 5) then none else some 8

/-- The seconds the set buffer names. -/
def State.setSeconds (s : State) : Nat :=
  let n : Nat → Nat := fun i => let x := s.rd (RTC.SET.set_ i); x / 16 * 10 + x % 16
  dayNumber (n 7 * 100 + n 6) (n 5) (n 4) * 86400 + n 3 * 3600 + n 2 * 60 + n 1

/-- A command is refused with a reason. -/
def State.rtcRefuse (s : State) (reason : Nat) : State := s.cmdStat RTC.CMDSTAT.state RTC.CMDSTAT.reason 4 reason

/-- A command is applied, with the anchor of R463 where it has a reason. -/
def State.rtcApplied (s : State) (anchorReason : Nat) : State :=
  let s1 := (s.cmdStat RTC.CMDSTAT.state RTC.CMDSTAT.reason 2 0).irq RTC.IRQRAW.cmd_done
  s1.anchor anchorReason (s1.rd RTC.STAT.osf + 2 * s1.rd RTC.STAT.dst + 4 * s1.rd RTC.STAT.wrap) s1.rtc.subsec (calendarFields s1.rtc.seconds)

/-- The pending command is applied to the time that the tick left; `old` is the second before the tick (R474 to R480).
(DEDUCED, notes/assumptions/36.md.) -/
def State.rtcApply (s : State) (old op : Nat) (back : Bool) (n cls : Nat) : State :=
  match op with
  | 1 =>
    match s.setField with
    | some f => (((s.rtcRefuse 6).wr RTC.CMDSTAT.setfld f).wr RTC.STAT.seterr 1).irq RTC.IRQRAW.seterr |>.alarms old false
    | none =>
      let s1 := { s with rtc := { s.rtc with seconds := s.setSeconds, subsec := s.rd (RTC.SET.set_ 0), lastFired := [], setSince := true } }
      ((s1.wr RTC.STAT.wrap 0).alarms old false).rtcApplied 1
  | 2 =>
    if s.flag RTC.STAT.dst then (s.rtcRefuse 2).alarms old false
    else (((s.rtcTo (s.rtcTicks + 3600 * 32768)).wr RTC.STAT.dst 1).alarms old true).rtcApplied 2
  | 3 =>
    if !s.flag RTC.STAT.dst then (s.rtcRefuse 2).alarms old false
    else if s.rtc.seconds < 3600 then (s.rtcRefuse 3).alarms old false
    else (((s.rtcTo (s.rtcTicks - 3600 * 32768)).wr RTC.STAT.dst 0).alarms old false).rtcApplied 2
  | 4 =>
    if back then
      if s.rtcTicks < n then (s.rtcRefuse 3).alarms old false
      else ((s.rtcTo (s.rtcTicks - n)).alarms old false).rtcApplied 3
    else ((s.rtcTo (s.rtcTicks + n)).alarms old true).rtcApplied 3
  | _ =>
    let s1 := { s with rtc := { s.rtc with freezes := Keyed.drop s.rtc.freezes cls } }
    ((s1.cmdStat RTC.CMDSTAT.state RTC.CMDSTAT.reason 2 0).irq RTC.IRQRAW.cmd_done).alarms old false

/-- The time advances by `n` sub-second counts, and the pending command is applied to the result (R469, R474).
(DEDUCED, notes/assumptions/36.md.) -/
def State.rtcAdvance (s : State) (n : Nat) : State :=
  let old := s.rtc.seconds
  let past := decide ((s.rtcTicks + n) / 32768 ≥ calendarEnd)
  let s1 := if past then
      (({ s with rtc := { s.rtc with seconds := 0, subsec := 0 } }).wr RTC.STAT.wrap 1).irq RTC.IRQRAW.wrap
    else s.rtcTo (s.rtcTicks + n)
  match s1.rtc.pendingCmd with
  | none => s1.alarms old false
  | some (op, back, k, cls) => ({ s1 with rtc := { s1.rtc with pendingCmd := none } }).rtcApply old op back k cls

/-- One pacer tick with its trim (R469, R471). -/
def State.pacerTick (s : State) : State :=
  let i := s.rtc.trimTick + 1
  let n := s.rtc.trim
  let mag := n.natAbs
  let trimmed := !s.flag RTC.STAT.rcfb && mag != 0 && i % (2 ^ 20 / mag) == 0 && decide (i / (2 ^ 20 / mag) ≤ mag)
  let step := if trimmed then (if n > 0 then 2 else 0) else 1
  let s1 := if i = 2 ^ 20 then { s with rtc := { s.rtc with trimTick := 0, trim := s.rdInt RTC.TRIM.n } }
    else { s with rtc := { s.rtc with trimTick := i } }
  s1.rtcAdvance step

/-- A write of RTC.CMD with key 0x7C (R474, R483). -/
def State.rtcCommand (s : State) (req : Requester) (op : Nat) (back : Bool) (n : Nat) : State :=
  if s.rtc.pendingCmd.isSome then s.wr RTC.CMDSTAT.reason 1
  else if op = 0 ∨ op > 5 then s.rtcRefuse 5
  else if op = 4 ∧ n = 0 then s.rtcRefuse 4
  else
    { s.cmdStat RTC.CMDSTAT.state RTC.CMDSTAT.reason 1 0 with rtc := { s.rtc with pendingCmd := some (op, back, n, mptuClass req) } }

/-- A read of a time register by a class: 0 SUBSEC, 1 SEC, …, 8 CENT (R473). -/
def State.rtcRead (s : State) (req : Requester) (i : Nat) : Nat × State :=
  let c := mptuClass req
  let vs := ((Keyed.get? s.rtc.freezes c).map Freeze.values).getD s.rtcNow
  let s1 := { s with rtc := { s.rtc with
    freezes := if i = 8 then Keyed.drop s.rtc.freezes c else Keyed.put s.rtc.freezes c ⟨vs⟩ } }
  (vs.getD i 0, s1)

/-- A trim value held to its range (R471). -/
def clampTrim (n : Int) : Int := if n > 537 then 537 else if n < -537 then -537 else n

/-- A write of 1 to STAT.osf clears it only after a SET (R472). -/
def State.clearOsf (s : State) : State := if s.rtc.setSince then s.wr RTC.STAT.osf 0 else s

/-- osf is set (R472). -/
def State.setOsf (s : State) : State :=
  let s1 := ((s.wr RTC.STAT.osf 1).irq RTC.IRQRAW.osf).fault RTC.FAULT.osc 0x0110
  { s1 with rtc := { s1.rtc with setSince := false } }

/-- By how much the steps of trim `n` have moved SUBSEC up to tick `i` of a trim period (R471). -/
def trimSteps (n : Int) (i : Nat) : Int :=
  if n = 0 then 0 else n.sign * (min (i / (2 ^ 20 / n.natAbs)) n.natAbs : Nat)

/-- What the next `t` ticks add to SUBSEC (R471). -/
def State.ticksGain (s : State) (t : Nat) : Nat :=
  if s.flag RTC.STAT.rcfb then t
  else
    let i := s.rtc.trimTick + t
    let now := trimSteps s.rtc.trim (min i (2 ^ 20)) - trimSteps s.rtc.trim s.rtc.trimTick
    ((t : Int) + now + if i ≤ 2 ^ 20 then 0 else trimSteps (s.rdInt RTC.TRIM.n) (i - 2 ^ 20)).toNat

/-- Ticks up to the one with which SUBSEC carries: the trim moves it by fewer than 32. -/
def State.ticksToCarry (s : State) : Nat :=
  let need := 32768 - s.rtc.subsec
  (((List.range 64).map fun j => need - 32 + j).find? fun t => decide (need ≤ s.ticksGain t)).getD need

/-- Time passes up to the tick before the one with which SUBSEC carries, and then that tick (R469, R471).
(DEDUCED, notes/assumptions/36.md.) -/
def State.secondCarry (s : State) : State :=
  let t := s.ticksToCarry - 1
  let i := s.rtc.trimTick + t
  ({ s with rtc := { s.rtc with
    subsec := s.rtc.subsec + s.ticksGain t, trimTick := i % 2 ^ 20, trim := if i < 2 ^ 20 then s.rtc.trim else s.rdInt RTC.TRIM.n } }).pacerTick

/-- The status and the value of a word that was read, as the answer to the requester. -/
def State.answerWord (s : State) (st : Status) (v : Nat) : State := { s with status := st.code, response := bytesLE 4 v }

/-- RTC_TIME_READ (R473): the class's shadow set is taken at its first read, and released by the read of CENT. -/
def execRtcTimeRead (req : Requester) (index : Nat) (s : State) : Result :=
  if index > 8 then .next s
  else if !s.alive 0x50 then .next (s.answerWord .domainOff 0)
  else
    let (v, s1) := s.rtcRead req index
    .next (s1.answerWord .ok v)

/-- RTC_FREEZE_TIMEOUT (R473). -/
def execRtcFreezeTimeout (req : Requester) (s : State) : Result :=
  if (Keyed.get? s.rtc.freezes (mptuClass req)).isSome then
    .next ({ s with rtc := { s.rtc with freezes := Keyed.drop s.rtc.freezes (mptuClass req) } }.irq RTC.IRQRAW.freeze_to)
  else .next s

/-- Words of an address range take their reset values. -/
def State.clearRange (s : State) (lo hi : Nat) : State :=
  { s with regs := s.regs.filter fun e => !(decide (lo ≤ e.1) && decide (e.1 < hi)) }

/-- VBAT_LOW (R484): the interrupt only while VDDIO is present. -/
def execVbatLow (s : State) : Result :=
  .next (((s.wr BKPM.STAT.vbat_low 1).wr BKPM.STAT.vbat_ok 0).when s.rst.vddio fun t => t.irq BKPM.IRQRAW.vbat_low)

/-- The monitor of VBAT (R504, R508), each ms: the table has no row for VBAT at or above 2.0 V, so when it is found there is open.
(DESIGN CHOICE, notes/assumptions/85.md.) -/
def State.vbatSample (s : State) : State :=
  if s.flag BKPM.STAT.vbat_ok then s else let (x, t) := s.draw; t.wr BKPM.STAT.vbat_ok (x % 2)

end Sys2Proof.Machine
end

