-- ==== Sys2Proof/Machine/Terms.lean ====
section
/-!
DEFINITION. The term table (R159 to R163) and the certified values behind it (R164, R194, R196); what the engines read of
them.
-/

namespace Sys2Proof.Machine

/-- The modulators of a bank that are not retired. -/
def State.usableMods (s : State) (b : Nat) : List Nat := (List.range 5).filter fun m => !bit (Keyed.get 0 s.terms.retiredMods b) m

/-- Whether a bank has a spare: a retirement changes its mode at the next boundary (R180). -/
def State.hasSpare (s : State) (b : Nat) : Bool := (s.usableMods b).length + (s.stride b).retiring.length == 5

/-- The modulator that serves a lane (R118). -/
def State.laneMod (s : State) (b l : Nat) : Nat := getBits (s.rd (AFE.LANEMAP.lanes b)) (4 * l) 3

/-- The number of live lanes (R82). -/
def State.liveLanes (s : State) (b : Nat) : Nat := s.rd (AFE.LANEMAP.live b)

/-- A modulator's entry at a gain code (R160). -/
def State.modTerm (s : State) (b m g : Nat) : ModTerm := Keyed.get s.terms.initial s.terms.mods (b * 40 + m * 8 + g)

/-- Sets a modulator's entry. -/
def State.setModTerm (s : State) (b m g : Nat) (t : ModTerm) : State :=
  { s with terms := { s.terms with mods := Keyed.put s.terms.mods (b * 40 + m * 8 + g) t } }

/-- The entry of a source whose iex equals a context's, u_x widened while the reference resistors disagree (R168); else no correction
and 1,000 ppm (R162). -/
def State.srcTerm (s : State) (table : Keyed SrcTerm) (b : Nat) (iexb : Bool) (iex : Nat) : SrcTerm :=
  let keys := (List.range 4).map fun i => b * 8 + ofBool iexb * 4 + i
  let e := keys.findSome? fun k => (Keyed.get? table k).bind fun e => if e.iex = iex then some e else none
  match e with
  | some e => if s.flag CAL.REFSTAT.rr_fail then { e with ux := e.ux + s.rd CAL.CFG3.rrfail_u * 65536 } else e
  | none => { iex := iex }

/-- A shunt's entry. -/
def State.shuntTerm (s : State) (b k : Nat) : ShuntTerm := Keyed.get {} s.terms.shunts (b * 16 + k)

/-- The least drift rate on the grid of d (R599). -/
def State.dfloor (s : State) : Nat := upDiv (s.rd CAL.CFG2.dfloor * 2 ^ 24) 1000000

/-- An initial modulator entry loaded now (R161, R599). -/
def State.initialTerm (s : State) : ModTerm :=
  { sigma := s.rd CAL.CFG.sigmax * 65536, uo := s.rd CAL.CFG.sigmax * 65536, d := s.dfloor
    ts := (s.stime : Int) - s.rd CAL.CFG2.stale_s * 1000000 }

/-- Whether a record's term is overdue (R183, R196). -/
def State.isStale (s : State) (t : ModTerm) (stime : Nat) : Bool :=
  t.unstrided || decide ((stime : Int) - t.ts > s.rd CAL.CFG2.stale_s * 1000000) || s.cal.copy.isEmpty

/-! ### The calibration store -/

/-- A field of a store copy. -/
def copyNum (bs : List Byte) (off n : Nat) : Nat := ofBytesLE ((bs.drop off).take n)

/-- A store copy with a field replaced. -/
def copyPut (bs : List Byte) (off : Nat) (v : List Byte) : List Byte := bs.take off ++ v ++ bs.drop (off + v.length)

/-- The store offset of copy A or B (R194). -/
def copyBase (b : Bool) : Nat := if b then 0x1FF0000 else 0x1FE0000

/-- Whether the store copy at an offset is valid (R196). -/
def State.copyValid (s : State) (b : Bool) : Bool :=
  let o := copyBase b
  s.storeNum o 4 == 0x544C4143 && s.storeNum (o + 4) 2 == 1 && s.storeNum (o + 12) 4 == s.variant.code &&
    s.storeNum (o + 2456) 4 == crc32 (s.storeBytes o 2456) && s.storeOk o 2460

/-- The content whose certified values are nominal (R196). -/
def State.nominalCopy (s : State) : List Byte :=
  bytesLE 4 0x544C4143 ++ bytesLE 2 1 ++ bytesLE 2 2460 ++ bytesLE 4 0 ++ bytesLE 4 s.variant.code ++ bytesLE 16 0 ++
    (List.range 3).flatMap (fun i => bytesLE 8 2000000000 ++ bytesLE 4 (Config.nominalUncertainty i) ++ bytesLE 4 0) ++
    (List.range 8).flatMap (fun k => bytesLE 8 (2 ^ (62 - k)) ++ bytesLE 4 (Config.nominalUncertainty (3 + k)) ++ bytesLE 4 0) ++
    (List.range 2).flatMap (fun j => bytesLE 8 (if j = 0 then 100000000000 else 1000000000000) ++ bytesLE 4 0 ++
      bytesLE 4 (Config.nominalUncertainty (11 + j))) ++
    (List.range 128).flatMap (fun _ => bytesLE 8 0 ++ bytesLE 4 65536000 ++ bytesLE 4 0) ++ List.replicate 172 0

/-- The content in use: the copy loaded, or the nominal values (R196). -/
def State.calContent (s : State) : List Byte := if s.cal.copy.isEmpty then s.nominalCopy else s.cal.copy

/-- cf_v and cf_r of the content in use. -/
def State.corrections (s : State) : Int × Int := (signed 32 (copyNum s.calContent 2288 4), signed 32 (copyNum s.calContent 2292 4))

/-- V_i of R164 as an exact fraction of a volt, with the correction of the reference phase. -/
def State.refVolts (s : State) (i : Nat) (cf : Int) : Nat × Nat :=
  (copyNum s.calContent (32 + 16 * i) 8 * (1000000000 + cf).toNat, 10 ^ 18)

/-- The resistance of RRj under R164 as an exact fraction of an ohm; with no valid Tmod, as at Tcert.
(DESIGN CHOICE, notes/assumptions/72.md.) -/
def State.refOhms (s : State) (j : Nat) (cf : Int) : Nat × Nat :=
  let c := s.calContent
  let base := copyNum c (208 + 16 * j) 8
  let tc := signed 32 (copyNum c (216 + 16 * j) 4)
  let dT := match s.cal.tmod with
    | some t => t - Config.resistorTcert j
    | none => 0
  let warm := (10 ^ 12 + tc * dT).toNat
  (base * warm * (1000000000 + cf).toNat, 10 ^ 9 * 10 ^ 12 * 10 ^ 9)

/-- The shunt entries at a lap boundary (R163). -/
def State.updateShunts (s : State) : State :=
  let c := s.calContent
  let valid := s.flag ARITH.MODT.valid
  if s.cal.copy.isEmpty then { s with terms := { s.terms with shunts := [] } }
  else s.each (List.range (16 * s.variant.banks)) fun st i =>
    let o := 240 + 16 * i
    let ek0 := signed 32 (copyNum c o 4)
    let tc := signed 32 (copyNum c (o + 4) 4)
    let u := copyNum c (o + 8) 4
    let cert := signed 32 (copyNum c (o + 12) 4)
    let e : ShuntTerm :=
      match s.cal.tmod with
      | some t =>
        { ek := ek0 + roundEven (tc * (t - cert) * 65536) 1000000
          ux := u + if valid then 0 else upDiv (tc.natAbs * 20 * 65536) 1000 }
      | none =>
        { ek := ek0, ux := u + upDiv (tc.natAbs * max (85000 - cert).natAbs (-40000 - cert).natAbs * 65536) 1000000 }
    { st with terms := { st.terms with shunts := Keyed.put st.terms.shunts i e } }

/-- The copy whose sequence number is older (R195). -/
def State.olderCopy (s : State) : Bool :=
  if !s.copyValid false then false
  else if !s.copyValid true then true
  else seqNewer (s.storeNum (copyBase false + 8) 4) (s.storeNum (copyBase true + 8) 4)

/-- A content with its sequence number and CRC. -/
def sealCopy (bs : List Byte) (seq : Nat) : List Byte :=
  let b := copyPut bs 8 (bytesLE 4 seq)
  (b.take 2456) ++ bytesLE 4 (crc32 (b.take 2456))

/-- The program of the next copy is issued, unless one is under way (R195, R439). -/
def State.calIssue (s : State) : State :=
  match s.cal.writes with
  | [] => s
  | (c, bs) :: _ => if s.nvmHas .calCopy then s else s.nvmIssue ⟨.calCopy, 1, 0, copyBase c, bs.length⟩

/-- Queues a write of the calibration store with a changed content, the older copy first (R195). -/
def State.queueCopy (s : State) (change : List Byte → List Byte) : State :=
  let base := match s.cal.writes.getLast? with
    | some (_, bs) => bs
    | none => s.calContent
  let bs := sealCopy (change base) ((copyNum base 8 4 + 1) % 2 ^ 32)
  let first := match s.cal.writes.getLast? with
    | some (b, _) => !b
    | none => s.olderCopy
  ({ s with cal := { s.cal with writes := s.cal.writes ++ [(first, bs), (!first, bs)] } }).calIssue

/-- The persistent state as the bytes 2,416 to 2,455 of a copy. -/
def State.persistBytes (s : State) : List Byte :=
  bytesLE 20 (bitMask (s.terms.retiredCh)) ++ (List.range 8).flatMap (fun b => bytesLE 1 (Keyed.get 0 s.terms.retiredMods b)) ++
    bytesLE 1 s.terms.failedRefs ++ bytesLE 11 0

/-- The persistent state has changed: it is recorded in the store, where one stands (R160, R195).
(DEDUCED, notes/assumptions/35.md.) -/
def State.persist (s : State) : State :=
  if s.cal.copy.isEmpty then s else s.queueCopy fun bs => copyPut bs 2416 s.persistBytes

/-- CAL.RETIRED, REFSTAT.failed and the retired bits of LANEMAP show the persistent state (R180, R186, R200). -/
def State.showPersistent (s : State) : State :=
  let s1 := s.each (List.range 160) fun st c => st.putNth CAL.RETIRED.ch c (s.terms.retiredCh.contains c)
  let s2 := s1.wr CAL.REFSTAT.failed s.terms.failedRefs
  s2.each (List.range s.variant.banks) fun st b => st.wr (AFE.LANEMAP.retired b) (Keyed.get 0 s.terms.retiredMods b)

/-- The term table and the persistent state are loaded (R159, R196). -/
def State.calLoad (s : State) : State :=
  let a := s.copyValid false
  let b := s.copyValid true
  let seen := (s.storeSee (copyBase false) 2460).storeSee (copyBase true) 2460
  let pick : Option Bool :=
    if a && b then some (seqNewer (s.storeNum (copyBase true + 8) 4) (s.storeNum (copyBase false + 8) 4))
    else if a then some false else if b then some true else none
  let s0 := (seen.wr CAL.STORESTAT.valid (ofBool a + 2 * ofBool b))
  let cleared : TermTable := { initial := s.initialTerm }
  match pick with
  | some c =>
    let bs := s.storeBytes (copyBase c) 2460
    let state := bs.drop 2416
    let t : TermTable := { cleared with
      retiredCh := setBits (ofBytesLE (state.take 20)) 160
      retiredMods := ((List.range 8).map fun i => (i, ofBytesLE ((state.drop (20 + i)).take 1) % 32)).filter fun e => e.2 != 0
      failedRefs := ofBytesLE ((state.drop 28).take 1) % 8 }
    let s1 := { s0 with terms := t, cal := { s0.cal with copy := bs, writes := if a && b then [] else [(!c, bs)] } }
    let s2 := if a && b then s1 else (s1.irq CAL.IRQRAW.store_repair).calIssue
    ((s2.wr CAL.STORESEQ.seq (copyNum bs 8 4)).showPersistent).updateShunts
  | none =>
    let s1 := { s0 with terms := cleared, cal := { s0.cal with copy := [], writes := [] } }
    (((s1.fault CAL.FAULT.store 0x0113).wr CAL.STORESEQ.seq 0).showPersistent).updateShunts

/-! ### Deferral of a stride -/

/-- A stride of the bank has the outcome deferred (R179). -/
def State.strideDefer (s : State) (b : Nat) : State :=
  ((s.stick CAL.DEFERCNT.count CAL.CNTOVF.defer (some CAL.IRQRAW.cnt_ovf)).irq CAL.IRQRAW.stride_defer).wr (CAL.BANKSTAT.outcome b) 3

/-- The phase that BANKSTAT shows; a field calibration run keeps its own (R204). -/
def State.setPhase (s : State) (b v : Nat) : State := if s.rd (CAL.BANKSTAT.phase b) = 4 then s else s.wr (CAL.BANKSTAT.phase b) v

/-- The target advances to the next live lane (R179). -/
def State.advanceTarget (s : State) (b : Nat) : State :=
  s.wr (CAL.BANKSTAT.target b) ((s.rd (CAL.BANKSTAT.target b) + 1) % max 1 (s.liveLanes b))

/-- A stride in progress on a bank is deferred: with a spare at its boundary (R179); in the other modes, whose strides end within
their lap, at once (R182). -/
def State.deferStride (s : State) (b : Nat) : State :=
  if !(s.stride b).started then s
  else if s.hasSpare b then s.modStride b fun t => { t with deferred := true }
  else ((((s.strideDefer b).setPhase b 0).advanceTarget b)).modStride b fun t => { t with started := false, convs := [] }

/-- Strides of every bank. -/
def State.deferStrides (s : State) : State := s.each (List.range 8) fun st b => st.deferStride b

/-- An initial rotation of a bank begins (R184). -/
def State.startRotation (s : State) (b : Nat) : State :=
  (s.modStride b fun t => { t with initial := true, passed := [] }).wr (CAL.BANKSTAT.initial b) 1

end Sys2Proof.Machine
end

