-- ==== Sys2Proof/Machine/Afe.lean ====
section
/-!
DEFINITION. Banks, pins and excitation (R80 to R118, R598): the schedule, the phases of a slot, lead compensation, the
detection of faults at the pins, restarts, and the spare's overlap conversions (R177, R178).
-/

namespace Sys2Proof.Machine

/-! ### The schedule -/

/-- Samples per second of a rate code (R87). -/
def rateOf (code : Nat) : Nat :=
  match code with
  | 0 => 10 | 1 => 50 | 2 => 60 | 3 => 100 | 4 => 400 | 5 => 1000 | 6 => 2560 | _ => 10240

/-- Four output periods and a settling delay, in whole µs: a lead phase (R96). -/
def leadTime (settle rate : Nat) : Nat := settle * 10 + upDiv 4000000 (rateOf rate)

/-- A main phase of N samples (R96). -/
def mainTime (settle n rate : Nat) : Nat := settle * 10 + upDiv ((n + 3) * 1000000) (rateOf rate)

/-- The slot duration of a context, its fields read by `f` (R96). -/
def slotTime (f : Ref → Nat) (b k : Nat) : Nat :=
  let settle := f (AFE.CTX.settle b k)
  let rate := f (AFE.CTX.rate b k)
  (if f (AFE.CTX.type_ b k) = 1 then 1000 else 0) + (if f (AFE.CTX.lead_mode b k) = 3 then leadTime settle rate else 0) +
    mainTime settle (f (AFE.CTX.navg b k) + 1) rate

/-- The pins a context names. -/
def ctxPins (f : Ref → Nat) (b k : Nat) : List Nat :=
  [f (AFE.CTX.exc_p b k), f (AFE.CTX.exc_n b k), f (AFE.CTX.sns_p b k), f (AFE.CTX.sns_n b k), f (AFE.CTX.lead b k)].filter fun p => p != 511

/-- A field of the context words a slot's phase began with (R31, R131). -/
def SlotRun.ctxField (r : SlotRun) (f : Ref) : Nat := wordsField r.words f

/-- The pins that a running slot's phase uses. -/
def SlotRun.pins (r : SlotRun) : List Nat := ctxPins r.ctxField 0 0

/-- Whether a context uses a source, the bridge or a shunt (R97). -/
def ctxPowered (f : Ref → Nat) (b k : Nat) : Bool := let t := f (AFE.CTX.type_ b k); decide (2 ≤ t)

/-- Whether two intervals overlap. -/
def meets (a d x y : Nat) : Bool := decide (a < x + y) && decide (x < a + d)

/-- The sources a context may use: 1 IEXA, 2 IEXB, without those out of regulation. -/
def ctxSources (f : Ref → Nat) (b k : Nat) (outA outB : Bool) : List Nat :=
  let src := f (AFE.CTX.src b k)
  (if bit src 0 && !outA then [1] else []) ++ (if bit src 1 && !outB then [2] else [])

/-- The least number of a list that satisfies a test. -/
def leastThat (l : List Nat) (p : Nat → Bool) : Option Nat :=
  (l.filter p).foldl (fun m t => some (match m with | some x => min x t | none => t)) none

/-- Places one context (R97): the schedule with it, or none where no source will ever be free. -/
def placeContext (f : Ref → Nat) (b lanes : Nat) (outA outB : Bool) (placed : List Slot) (k : Nat) : Option (List Slot) :=
  let d := slotTime f b k
  let pins := ctxPins f b k
  let needs := resistive (f (AFE.CTX.type_ b k))
  let sources := ctxSources f b k outA outB
  let clash : Slot → Nat → Bool := fun o t =>
    meets t d o.start o.dur && (ctxPins f b o.ctx).any (fun p => pins.contains p) && (ctxPowered f b k || ctxPowered f b o.ctx)
  let free : Nat → List Nat := fun t => sources.filter fun x => !(placed.any fun o => o.source == x && meets t d o.start o.dur)
  let fits : Nat → Bool := fun t => !(placed.any fun o => clash o t) && (!needs || !(free t).isEmpty)
  let laneStart : Nat → Option (Nat × Nat) := fun l =>
    let floor := (placed.filter fun o => o.lane == l).foldl (fun m o => max m (o.start + o.dur)) 0
    let times := floor :: ((placed.map fun o => o.start + o.dur).filter fun t => decide (floor < t))
    (leastThat times fits).map fun t => (t, l)
  let best := (List.range lanes).foldl (init := none) fun (m : Option (Nat × Nat)) l =>
    match m, laneStart l with
    | none, x => x
    | some a, some x => if x.1 < a.1 then some x else some a
    | some a, none => some a
  best.map fun (t, l) => placed ++ [⟨k, l, t, d, if needs then (free t).headD 0 else 0⟩]

/-- The schedule of a bank and the enabled contexts it could not place (R97, R98).
(DEDUCED, notes/assumptions/34.md.) -/
def schedule (f : Ref → Nat) (b lanes : Nat) (outA outB : Bool) : List Slot × List Nat :=
  ((List.range 20).filter fun k => f (AFE.CTX.enable b k) == 1).foldl (init := ([], [])) fun (placed, left) k =>
    match placeContext f b lanes outA outB placed k with
    | some p => (p, left)
    | none => (placed, left ++ [k])

/-- The latest slot end. -/
def scheduleEnd (l : List Slot) : Nat := l.foldl (fun m o => max m (o.start + o.dur)) 0

/-- The lap period in µs: the holder's at a standby (R333). -/
def State.lapPeriod (s : State) : Nat := s.lap.markPeriod.getD (s.rd LAP.PERIOD.period_ms * 1000)

/-- A source is treated as never free: out of regulation here, or so reported by the holder in listen mode (R98, R336). -/
def State.sourceOut (s : State) (b src : Nat) : Bool :=
  let bk := s.bank b
  (if src = 1 then bk.outA else bk.outB) || (s.flag (AFE.MODE.listen b) && s.pair.srcOut.contains (2 * b + (src - 1)))

/-- The bank fixes its schedule from the live configuration (R97, R98). -/
def State.reschedule (s : State) (b : Nat) : State :=
  let (l, left) := schedule s.rd b (s.liveLanes b) (s.sourceOut b 1) (s.sourceOut b 2)
  let s1 := (s.modBank b fun k => { k with sched := l, unplaced := left, reschedule := false }).wr (AFE.SCHEDEND.us b) (scheduleEnd l)
  if scheduleEnd l + 1000 > s.lapPeriod then s1.fault (AFE.FAULT.sched b) 0x0110 else s1

/-! ### What a bank drives outside slots -/

/-- Whether the shunt of a pin of the bank is closed (R85). -/
def State.shuntClosed (s : State) (b pin : Nat) : Bool :=
  s.alive (8 + b) && !s.flag (AFE.MODE.listen b) &&
    (List.range 20).any fun k => s.flag (AFE.CTX.enable b k) && s.rd (AFE.CTX.type_ b k) == 8 && s.rd (AFE.CTX.sns_p b k) == 48 * b + pin

/-- Whether the bridge supply is on (R86). -/
def State.bridgeOn (s : State) (b : Nat) : Bool :=
  decide (b < 8) && s.alive (8 + b) && s.flag (AFE.BANKCFG.bridge_en b) && !s.flag (AFE.MODE.listen b) && !(s.bank b).bridgeTripped

/-- What a bank steers for a running slot (R80, R100): the two pins at the inputs of the lane's modulator, the source (0 none, 1 IEXA,
2 IEXB) with its code and the pin it drives, the pin whose return switch is closed, the pins of the burn-out source and of the
bias source; 511 is no pin. -/
structure Steering where
  muxP : Nat := 511
  muxN : Nat := 511
  source : Nat := 0
  iex : Nat := 0
  drive : Nat := 511
  ret : Nat := 511
  burnout : Nat := 511
  bias : Nat := 511
  deriving DecidableEq, Repr

/-- The steering of a slot in its phase (R90, R100 to R104): a lead phase returns through LEAD and converts EXC+ against it; an idle lead
interval steers no source, return or burn-out; a burn-out term has the burn-out source on SNS+ and the bias source on SNS−;
a main phase tests the sense wires with the burn-out source. In listen mode nothing is driven (R115), and no source where the node
does not drive excitation (R118, R349). -/
def SlotRun.steering (r : SlotRun) (listen excown : Bool) : Steering :=
  let p : Ref → Nat := r.ctxField
  let excP := p (AFE.CTX.exc_p 0 0)
  let excN := p (AFE.CTX.exc_n 0 0)
  let snsP := p (AFE.CTX.sns_p 0 0)
  let snsN := p (AFE.CTX.sns_n 0 0)
  let lead := p (AFE.CTX.lead 0 0)
  let biased := if p (AFE.CTX.bias_en 0 0) = 1 && decide (p (AFE.CTX.type_ 0 0) ≤ 1) then snsN else 511
  let atLead := r.phase == .lead || (r.phase == .waiting && r.leadLap)
  let idle := r.phase == .waiting && !r.leadLap
  let mux : Steering := if atLead then { muxP := excP, muxN := lead } else { muxP := snsP, muxN := snsN }
  if listen then mux
  else if idle then { mux with bias := biased }
  else
    let on := excown && r.source != 0 && r.phase != .burnout
    { mux with
      source := if on then r.source else 0, iex := if on then p (AFE.CTX.iex 0 0) else 0, drive := if on then excP else 511
      ret := if resistive (p (AFE.CTX.type_ 0 0)) then (if atLead then lead else excN) else 511
      burnout := if r.phase = .burnout then snsP else if r.sense = 1 then snsP else if r.sense = 2 then snsN else 511
      bias := biased }

/-- What a bank steers for one of its running slots. -/
def State.steering (s : State) (b : Nat) (r : SlotRun) : Steering := r.steering (s.flag (AFE.MODE.listen b)) (s.flag (AFE.MODE.excown b))

/-- What a bank steers now, slot by slot: nothing outside its running slots (R100, R114). -/
def State.steered (s : State) (b : Nat) : List (Nat × Steering) :=
  if s.alive (8 + b) then (s.bank b).running.map fun r => (r.ctx, s.steering b r) else []

/-! ### Passing conversions to ARITH -/

/-- The occupancy of ARITH's queue that QMAX tells of: the entry of a test record changes no register but its own (R155, R158). -/
def ArithState.occupancy (a : ArithState) : Nat := (a.queue.filter fun e => e.kind != .test).length

/-- An entry joins ARITH's queue, or is dropped under a quiesce, or lost while ARITH is off (R151, R154). A test's entry leaves QMAX
alone (R155). -/
def State.arithQueue (s : State) (e : ConvEntry) : State :=
  if !s.alive 0x11 then { s with lap := { s.lap with awaited := dropFrom s.lap.awaited e.ch } }
  else if s.quiesced 0x11 && e.kind != .test then
    let s1 := (s.stick ARITH.DROPCNT.count ARITH.CNTOVF.drop (some ARITH.IRQRAW.cnt_ovf)).irq ARITH.IRQRAW.drop
    { s1 with lap := { s1.lap with awaited := dropFrom s1.lap.awaited e.ch } }
  else
    let s1 := { s with arith := { s.arith with queue := s.arith.queue ++ [e] } }
    if s1.arith.occupancy > s.rd ARITH.QMAX.entries then s1.wr ARITH.QMAX.entries s1.arith.occupancy else s1

/-- A bank passes an entry: in listen mode it is held until the holder's DIGEST for it is there (R337).
(DEDUCED, notes/assumptions/34.md.) -/
def State.passEntry (s : State) (b : Nat) (e : ConvEntry) : State :=
  let e := { e with stime := s.stime }
  if !s.flag (AFE.MODE.listen b) then s.arithQueue e
  else
    match Keyed.get? s.pair.digests e.ch with
    | some d => if d.lap = e.lap % 256 then s.arithQueue { e with holder := d.outcome }
      else { s with pair := { s.pair with held := s.pair.held ++ [e] } }
    | none => { s with pair := { s.pair with held := s.pair.held ++ [e] } }

/-- The live words of a context. -/
def State.ctxWords (s : State) (b k : Nat) : List Word := (List.range 16).map fun i => s.wordAt true (0x100000 + 0x1000 * b + 0x40 * k + 4 * i)

/-- The listed words of the curve slot that a context names. -/
def State.curveOf (s : State) (words : List Word) : List (Nat × Word) :=
  let slot := getBits (words.getD 10 0).toNat 24 5
  s.live.filter fun e => decide (0x110000 + slot * 0x800 ≤ e.1) && decide (e.1 < 0x110000 + slot * 0x800 + 0x800)

/-- An entry of a context with its words and the terms of this instant (R131, R152). -/
def State.entryOf (s : State) (b k lane source : Nat) (words : List Word) (kind : EntryKind) : ConvEntry :=
  let m := s.laneMod b lane
  let e : ConvEntry := { ch := 20 * b + k, lap := s.lapCount, stime := s.stime, kind := kind, words := words }
  let listen := s.flag (AFE.MODE.listen b)
  let lead := Keyed.get {} (s.bank b).leads k
  { e with
    n := e.ctx (AFE.CTX.navg 0 0) + 1
    arithCfg := s.wordAt true ARITH.CFG.addr
    cjsrc := s.rd (ARITH.CJSRC.ch b)
    curve := s.curveOf words
    modulator := m
    term := s.modTerm b m e.gain
    src := s.srcTerm (if listen then s.pair.srcs else s.terms.srcs) b (source == 2) (e.ctx (AFE.CTX.iex 0 0))
    shunt := s.shuntTerm b (e.ctx (AFE.CTX.sns_p 0 0) - 48 * b - 32)
    leadF := s.rdInt (AFE.LEADR.f_uohm b k)
    leadDev := lead.dev
    leadMissing := e.leadMode == 3 && !lead.valid
    forcedLane := (s.stride b).forcedLanes.contains lane
    invalid := listen && resistive e.type && !s.pair.excrep }

/-- An entry of a context with the configuration and the terms of this instant. -/
def State.newEntry (s : State) (b k lane source : Nat) (kind : EntryKind) : ConvEntry :=
  s.entryOf b k lane source (s.ctxWords b k) kind

/-- The bank passes a record for a context without a sample: a fault indication, or a conversion that was not made. -/
def State.passBare (s : State) (b k : Nat) (kind : EntryKind) : State :=
  s.passEntry b (s.newEntry b k 0 0 kind)

/-! ### Running slots -/

/-- The running slot of a context. -/
def State.slotRun (s : State) (b k : Nat) : Option SlotRun := if b < 8 then (s.bank b).running.find? fun r => r.ctx == k else none

/-- Replaces a running slot. -/
def State.setRun (s : State) (b : Nat) (r : SlotRun) : State :=
  s.modBank b fun k => { k with running := k.running.map fun x => if x.ctx = r.ctx then r else x }

/-- The conversions in progress of a bank, in ascending channel order (R151). -/
def State.activeRuns (s : State) (b : Nat) : List SlotRun :=
  (List.range 20).filterMap fun k => (s.bank b).running.find? fun r => r.ctx == k && r.phase != .ended

/-- A slot's scheduled duration in µs (R97). -/
def AfeBank.slotDur (k : AfeBank) (ctx : Nat) : Nat := ((k.sched.find? fun o => o.ctx == ctx).map Slot.dur).getD 0

/-- The µs from the lap boundary. -/
def State.intoLap (s : State) : Nat := s.lap.timer - s.lap.lapStart

/-- Slots that run past their ends by the time `t` delay those that have not started (R109).
(DESIGN CHOICE, notes/assumptions/65.md.) -/
def AfeBank.charge (k : AfeBank) (t : Nat) : AfeBank :=
  let late := fun r : SlotRun => !r.charged && decide (0 < r.past) && decide (r.began + k.slotDur r.ctx ≤ t)
  { k with
    delay := k.delay + ((k.running.filter late).map SlotRun.past).sum
    running := k.running.map fun r => if late r then { r with charged := true } else r }

/-- A slot whose phase ends early runs past its end no further (R109): what later slots were told to wait is taken back.
(DESIGN CHOICE, notes/assumptions/65.md.) -/
def AfeBank.cutShort (k : AfeBank) (ctx now : Nat) : AfeBank :=
  match k.running.find? fun r => r.ctx == ctx with
  | none => k
  | some r =>
    let past := min r.past (now - (r.began + k.slotDur ctx))
    { k with
      delay := if r.charged then k.delay - (r.past - past) else k.delay
      running := k.running.map fun x => if x.ctx = ctx then { x with past := past } else x }

/-- Whether the stride in progress makes this lap the overlap lap of a lane (R170, R177); a quiesced CAL compares nothing (R198). -/
def State.overlapOn (s : State) (b lane : Nat) : Bool :=
  s.working 0x10 && s.hasSpare b && s.rd (CAL.BANKSTAT.phase b) == 2 && s.rd (CAL.BANKSTAT.target b) == lane

/-- The sense wire that a main phase tests first (R103): SNS+ of 3- and 4-wire types. -/
def senseTest (type : Nat) : Nat := if type = 3 ∨ type = 4 ∨ type = 6 ∨ type = 7 then 1 else 0

/-- A main phase begins: its configuration and terms are fixed here (R131, R152). -/
def State.beginMain (s : State) (b : Nat) (r : SlotRun) : State :=
  let e := s.newEntry b r.ctx r.lane r.source .sampled
  let s1 := if s.overlapOn b r.lane then s.modStride b fun t => { t with mainSeen := true } else s
  s1.setRun b { r with
    phase := .main, settled := false, entry := some { e with restarted := decide (0 < r.restarts) }, words := e.words, sum := 0
    spareSum := 0, count := 0, restarts := 0, overload := false, sense := senseTest e.type }

/-- A conversion ends without a result: its phase is over, and its record is passed (R102, R110). -/
def State.endRun (s : State) (b : Nat) (r : SlotRun) (kind : EntryKind) : State :=
  let e := { r.entry.getD (s.entryOf b r.ctx r.lane r.source r.words kind) with kind := kind, sum := 0 }
  ((s.setRun b { r with phase := .ended, source := 0, entry := none, sense := 0 }).modBank b fun k =>
    k.cutShort r.ctx s.intoLap).passEntry b e

/-- A context is found open in this lap (R102). -/
def State.openFound (s : State) (b : Nat) (r : SlotRun) : State :=
  let s1 := (s.modBank b fun k => { k with openNow := k.openNow ||| 2 ^ r.ctx }).irq (AFE.IRQRAW.open_ b)
  (s1.stick (AFE.OPENCNT.count b) (AFE.CNTOVF.open_ b) (some (AFE.IRQRAW.cnt_ovf b))).endRun b r .openWire

/-- The bank's scan of the lap ends: the CHxxx registers describe it (R118). -/
def State.scanEnd (s : State) (b : Nat) : State :=
  let k := s.bank b
  if !(k.scanning && k.todo.isEmpty && k.running.isEmpty) then s
  else
    let s1 := (((s.wr (AFE.CHOPEN.ctx b) k.openNow).wr (AFE.CHSHORT.ctx b) k.shortNow).wr (AFE.CHRESTART.ctx b) k.restartNow).wr
      (AFE.CHABORT.ctx b) k.abortNow
    (s1.wr (AFE.LAPUSED.us b) k.used).modBank b fun x => { x with scanning := false }

/-- A context leaves the lap without a record: its slot is not run. -/
def State.skipContext (s : State) (b k : Nat) : State :=
  (({ s with lap := { s.lap with
      awaited := dropFrom s.lap.awaited (20 * b + k), scanned := dropFrom s.lap.scanned (20 * b + k) } }).modBank b fun x =>
    { x with todo := dropFrom x.todo k, running := x.running.filter fun r => r.ctx != k }).scanEnd b

/-- Whether a lap makes a lead conversion for a context (R90, R93). -/
def State.leadLap (s : State) (b k : Nat) : Bool :=
  (s.bank b).leadForced.contains k || (let n := s.rd (AFE.CTX.lead_k b k); n != 0 && s.lapCount % n == 0)

/-- SLOT_START (R100, R101): the bank steers for the context and its first phase begins. -/
def execSlotStart (bank ctx : Nat) (s : State) : Result :=
  let b := bank
  match (s.bank b).sched.find? fun o => o.ctx == ctx with
  | none => .next s
  | some o =>
    let s0 := s.modBank b fun k => k.charge (o.start + k.delay)
    let k := s0.bank b
    if !(decide (b < 8) && s.working (8 + b) && k.todo.contains ctx) || k.running.any (fun r => r.lane == o.lane) then .next s
    else if !s.flag (AFE.CTX.enable b ctx) then
      .next { s.skipContext b ctx with lap := { (s.skipContext b ctx).lap with due := dropFrom s.lap.due (20 * b + ctx) } }
    else if !s.hasSpare b && (s.rd (CAL.BANKSTAT.phase b) == 1 || s.rd (CAL.BANKSTAT.phase b) == 4) && s.rd (CAL.BANKSTAT.target b) == o.lane then
      .next ((s.stick CAL.GAPCNT.count CAL.CNTOVF.gap (some CAL.IRQRAW.cnt_ovf)).skipContext b ctx)
    else
      let type := s.rd (AFE.CTX.type_ b ctx)
      let leadMode := s.rd (AFE.CTX.lead_mode b ctx)
      let lead := leadMode == 3 && s.leadLap b ctx
      let listen := s.flag (AFE.MODE.listen b)
      let r : SlotRun := {
        ctx := ctx, lane := o.lane, source := o.source, leadLap := lead, words := s.ctxWords b ctx
        phase := if type = 1 then .burnout else if lead then .lead else if leadMode = 3 then .waiting else .main
        began := o.start + k.delay }
      let s1 := s0.modBank b fun x => { x with
        todo := dropFrom x.todo ctx, running := x.running ++ [r]
        leadForced := if lead then dropFrom x.leadForced ctx else x.leadForced }
      let s1 := if listen && o.source != 0 then { s1 with pair := { s1.pair with slot := some (20 * b + ctx) } } else s1
      if type = 9 && k.bridgeTripped then .next ((s1.modBank b fun x => { x with openNow := x.openNow ||| 2 ^ ctx }).endRun b r .openWire)
      else if o.source ≠ 0 && !listen && !s.flag (AFE.MODE.excown b) then .next (s1.endRun b r .abandoned)
      else if r.phase = .main then .next (s1.beginMain b r)
      else .next s1

/-- MAIN_PHASE_START (R101): at its fixed offset the main phase of a slot with a lead interval begins. -/
def execMainPhaseStart (bank ctx : Nat) (s : State) : Result :=
  match s.slotRun bank ctx with
  | some r => if r.phase = .waiting then .next (s.beginMain bank r) else .next s
  | none => .next s

/-- BURNOUT_CHECK_END (R104). -/
def execBurnoutCheckEnd (bank ctx : Nat) (microvolts : Int) (s : State) : Result :=
  match s.slotRun bank ctx with
  | some r =>
    if r.phase ≠ .burnout then .next s
    else if microvolts.natAbs > 100000 && !s.flag (AFE.MODE.listen bank) then
      .next ((s.stick (AFE.BOCNT.count bank) (AFE.CNTOVF.bo bank) (some (AFE.IRQRAW.cnt_ovf bank))).openFound bank r)
    else .next (s.beginMain bank r)
  | none => .next s

/-- SENSE_CHECK_END (R103): SNS+ for 3- and 4-wire types, SNS− for 4-wire types. -/
def execSenseCheckEnd (bank ctx : Nat) (negative : Bool) (microvolts : Int) (s : State) : Result :=
  match s.slotRun bank ctx with
  | some r =>
    let type := r.ctxField (AFE.CTX.type_ 0 0)
    let four := type == 4 || type == 7
    let tested := four || ((type == 3 || type == 6) && !negative)
    if r.phase = .main && !r.settled && tested && !s.flag (AFE.MODE.listen bank) then
      if 100000 < microvolts.natAbs then .next (s.openFound bank r)
      else .next (s.setRun bank { r with sense := if four && !negative then 2 else 0 })
    else .next s
  | none => .next s

/-- A listen-mode slot tells what it saw of the partner's excitation: the newest one with a source that started after the newest claim counts
(R338). -/
def State.evidence (s : State) (b : Nat) (r : SlotRun) (v : Nat) : State :=
  if s.flag (AFE.MODE.listen b) && s.pair.slot == some (20 * b + r.ctx) then s.wr PAIR.STAT.evidence v else s

/-- SETTLE_END (R100): the filter starts filling. In listen mode the partner's excitation was there (R338). -/
def execSettleEnd (bank ctx : Nat) (s : State) : Result :=
  match s.slotRun bank ctx with
  | some r =>
    if r.phase = .lead ∨ r.phase = .main then
      let s1 := s.setRun bank { r with settled := true }
      .next (s1.evidence bank r 1)
    else .next s
  | none => .next s

/-! ### Lead measurements -/

/-- The lead measurement of a code (R91): half of the loop resistance, to 1 µΩ. -/
def State.leadMeasure (s : State) (b : Nat) (r : SlotRun) (code : Int) : Int :=
  let e := { s.entryOf b r.ctx r.lane r.source r.words .sampled with sum := code, n := 1 }
  roundEven ((stage2 e (stage1 e)).v * 1000000) (2 * one56)

/-- The filter takes a measurement (R92 to R94), with the tolerance and the weight its slot started with (R31). -/
def State.leadTake (s : State) (b : Nat) (r : SlotRun) (l : Int) : State :=
  let k := r.ctx
  let st := Keyed.get {} (s.bank b).leads k
  let f := s.rdInt (AFE.LEADR.f_uohm b k)
  let tol := r.ctxField (AFE.CTX.lead_tol 0 0) * 1000
  let dev := (l - f).natAbs
  let put : State → LeadState → State := fun t x => t.modBank b fun y => { y with leads := Keyed.put y.leads k x }
  if !st.valid then put (s.wrInt (AFE.LEADR.f_uohm b k) l) { valid := true, dev := 0, rejects := 0 }
  else if tol ≠ 0 ∧ dev > tol then
    let s1 := (s.stick (AFE.LEADREJCNT.count b) (AFE.CNTOVF.leadrej b) (some (AFE.IRQRAW.cnt_ovf b))).irq (AFE.IRQRAW.lead_reject b)
    if st.rejects + 1 ≥ 3 then
      put ((s1.wrInt (AFE.LEADR.f_uohm b k) l).fault (AFE.FAULT.lead_reinit b) 0x0114) { st with dev := dev, rejects := 0 }
    else (put s1 { st with rejects := st.rejects + 1 }).modBank b fun y => { y with leadForced := addTo y.leadForced k }
  else
    let j : Nat := 2 ^ r.ctxField (AFE.CTX.lead_filt 0 0)
    let f' := roundEven (f * j + (l - f)) j
    put (s.wrInt (AFE.LEADR.f_uohm b k) f') { st with dev := (l - f').natAbs, rejects := 0 }

/-- The lead conversion ends with its one sample; the main phase follows at its fixed offset (R90, R598). -/
def State.leadSample (s : State) (b : Nat) (r : SlotRun) (code : Int) (overload : Bool) : State :=
  let s1 := s.setRun b { r with phase := .waiting, settled := false }
  if overload || r.overload then s1.modBank b fun y => { y with leadForced := addTo y.leadForced r.ctx }
  else s1.leadTake b r (s.leadMeasure b r code)

/-! ### The overlap comparison -/

/-- A comparison of the live modulator's and the spare's sums is made (R178): the difference is reported, and a failure is
repeated once. -/
def State.compareSpare (s : State) (b g n : Nat) (live : ModTerm) (sum spareSum : Int) : State :=
  let spare := s.modTerm b (s.rd (AFE.LANEMAP.spare b)) g
  let diff := (fraction spareSum n spare).v - (fraction sum n live).v
  let excess : Int := (diff.natAbs * 1000000 : Nat) - ((s.rd CAL.CFG.ovl_ppm * one56 : Nat) : Int)
  let pass := decide (excess ≤ 0) ||
    decide (excess.toNat ^ 2 * n * 2 ^ 78 ≤ 9 * (live.sigma ^ 2 + spare.sigma ^ 2) * 10 ^ 12 * 2 ^ 112)
  let s1 := s.wrInt (CAL.OVLDIFF.ppb b) (roundEven (diff * 1000000000) one56)
  let st := s.stride b
  if pass then s1.modStride b fun t => { t with compared := true, repeatDue := false }
  else if st.repeatDue then s1.modStride b fun t => { t with compared := true, repeatDue := false, cmpFailed := true }
  else (s1.stick CAL.REPEATCNT.count CAL.CNTOVF.repeat (some CAL.IRQRAW.cnt_event)).modStride b fun t => { t with repeatDue := true }

/-- SAMPLE_OUT (R100): a sample code is passed; the N-th ends the main phase (R126, R150), and an overlap is compared
(R177). -/
def execSampleOut (bank ctx : Nat) (code spareCode : Int) (overload : Bool) (s : State) : Result :=
  match s.slotRun bank ctx with
  | none => .next s
  | some r =>
    let c := clampSigned 24 code
    if !r.settled then .next s
    else if r.phase = .lead then .next (s.leadSample bank r c overload)
    else if r.phase ≠ .main then .next s
    else
      let r1 := { r with
        sum := r.sum + c, spareSum := r.spareSum + clampSigned 24 spareCode, count := r.count + 1, overload := r.overload || overload }
      match r1.entry with
      | none => .next s
      | some e =>
        if r1.count < e.n then .next (s.setRun bank r1)
        else
          let done := (s.setRun bank { r1 with phase := .ended, entry := none }).passEntry bank
            { e with kind := if r1.overload then .overload else .sampled, sum := r1.sum }
          if s.overlapOn bank r.lane && !r1.overload then .next (done.compareSpare bank e.gain e.n e.term r1.sum r1.spareSum)
          else .next done

/-- The comparisons of an overlap lap are over once one has completed and the target lane has no slot left: the handover waits for its
boundary (R178, R204).
(DESIGN CHOICE, notes/assumptions/69.md.) -/
def State.handoverWait (s : State) (b : Nat) : State :=
  let lane := s.rd (CAL.BANKSTAT.target b)
  let t := s.stride b
  let k := s.bank b
  let left := k.running.any (fun r => r.lane == lane) || k.sched.any fun o => o.lane == lane && k.todo.contains o.ctx
  if s.overlapOn b lane && t.compared && !t.repeatDue && !left then s.wr (CAL.BANKSTAT.phase b) 3 else s

/-- SLOT_END (R100): everything steered for the context is switched off; a slot whose phase still runs has not ended
(R109). -/
def execSlotEnd (bank ctx : Nat) (s : State) : Result :=
  match s.slotRun bank ctx with
  | some r =>
    if r.phase ≠ .ended then .next s
    else
      .next ((s.modBank bank fun k => { k with
        running := k.running.filter fun x => x.ctx != ctx, used := max k.used (r.began + k.slotDur ctx + r.past)
        delay := if r.charged then k.delay else k.delay + r.past }).scanEnd bank |>.handoverWait bank)
  | none => .next s

/-- SOURCE_COMPLIANCE (R102), in a lead phase or a main phase: wherever a source is steered to the context. -/
def execSourceCompliance (bank ctx : Nat) (s : State) : Result :=
  match s.slotRun bank ctx with
  | some r =>
    if r.phase ≠ .ended && (s.steering bank r).source != 0 then .next (s.openFound bank r)
    else .next s
  | none => .next s

/-- EXCITATION_CHANGE (R107 to R110, R337): the phase is discarded and restarted, or abandoned at the third change; where the
partner's excitation is absent it is discarded without restart.
(DESIGN CHOICE, notes/assumptions/65.md.) -/
def execExcitationChange (bank ctx elapsed : Nat) (absent : Bool) (s : State) : Result :=
  match s.slotRun bank ctx with
  | none => .next s
  | some r =>
    let b := bank
    let type := r.ctxField (AFE.CTX.type_ 0 0)
    let listen := s.flag (AFE.MODE.listen b)
    if !((r.phase = .lead ∨ r.phase = .main) && (r.source != 0 || type == 9)) then .next s
    else if listen && absent then
      .next ((s.evidence b r 2).endRun b { r with entry := some { r.entry.getD (s.entryOf b ctx r.lane r.source r.words .abandoned) with absent := true } } .abandoned)
    else
      let seen := s.modBank b fun k => { k with
        changedA := k.changedA || r.source == 1, changedB := k.changedB || r.source == 2 }
      if r.restarts ≥ 2 then
        .next (((seen.modBank b fun k => { k with abortNow := k.abortNow ||| 2 ^ ctx }).irq (AFE.IRQRAW.abort b)).endRun b r .abort)
      else
        let settle := r.ctxField (AFE.CTX.settle 0 0)
        let rate := r.ctxField (AFE.CTX.rate 0 0)
        let main := mainTime settle (r.ctxField (AFE.CTX.navg 0 0) + 1) rate
        let left := if r.phase = .lead then leadTime settle rate + main else main
        let more := max r.past (elapsed + left - (s.bank b).slotDur ctx)
        let s1 := (seen.modBank b fun k => { k with
          restartNow := k.restartNow ||| 2 ^ ctx
          delay := if r.charged then k.delay + (more - r.past) else k.delay }).irq (AFE.IRQRAW.restart b)
        .next ((s1.stick (AFE.RESTARTCNT.count b) (AFE.CNTOVF.restart b) (some (AFE.IRQRAW.cnt_ovf b))).setRun b { r with
          settled := false, sum := 0, spareSum := 0, count := 0, overload := false, restarts := r.restarts + 1, past := more
          sense := if r.phase = .main then senseTest type else 0
          entry := r.entry.map fun e => { e with restarted := true } })

/-- BRIDGE_OVERCURRENT (R86): the supply is off until the next boundary; bridge channels report OPEN. -/
def execBridgeOvercurrent (bank : Nat) (s : State) : Result :=
  if !s.bridgeOn bank then .next s
  else
    let s1 := (s.modBank bank fun k => { k with bridgeTripped := true }).fault (AFE.FAULT.bridge bank) 0x0113
    .next (s1.each ((s.activeRuns bank).filter fun r => r.ctxField (AFE.CTX.type_ 0 0) == 9) fun st r =>
      (st.modBank bank fun k => { k with openNow := k.openNow ||| 2 ^ r.ctx }).endRun bank r .openWire)

/-- PIN_WINDOW_FAULT (R106); a conversion that uses the pin is overloaded (R83). -/
def execPinWindowFault (bank pin : Nat) (s : State) : Result :=
  if bank ≥ 8 ∨ !s.alive (8 + bank) ∨ pin ≥ 48 then .next s
  else
    let s1 := (if pin < 32 then s.wr { AFE.PINFLT0.pin bank with lo := pin, w := 1 } 1
      else s.wr { AFE.PINFLT1.pin bank with lo := pin - 32, w := 1 } 1).irq (AFE.IRQRAW.pin_fault bank)
    .next (s1.modBank bank fun k => { k with
      running := k.running.map fun r =>
        if r.pins.contains (48 * bank + pin) then { r with overload := true } else r })

/-! ### Laps, quiesce and reset -/

/-- Whether a context is due in the lap that begins (R99). -/
def State.due (s : State) (b k : Nat) : Bool :=
  s.flag (AFE.CTX.enable b k) &&
    (!s.flag (AFE.CTX.scan_class b k) ||
      (let n := s.rd (AFE.CTX.routine_n b k); n != 0 && s.lapCount % n == k % n))

/-- Whether shedding pauses a context (R519). -/
def State.paused (s : State) (b k : Nat) : Bool :=
  (decide (2 ≤ s.level) && s.flag (AFE.CTX.scan_class b k)) || (decide (3 ≤ s.level) && !s.flag (AFE.CTX.essential b k))

/-- The persistence of excitation changes is judged at the boundary (R111); the schedule that a source out of regulation then asks
for defers a stride whose overlap lap this is (R179). -/
def State.judgeSources (s : State) (b : Nat) : State :=
  let k := s.bank b
  let fail := s.rd (CAL.BANKSTAT.srcfail b)
  let pa := if k.changedA then k.persistA + 1 else 0
  let pb := if k.changedB then k.persistB + 1 else 0
  let outA := k.outA || (decide (3 ≤ pa) && bit fail 0)
  let outB := k.outB || (decide (3 ≤ pb) && bit fail 1)
  let s1 := s.modBank b fun x => { x with
    persistA := pa, persistB := pb, outA := outA, outB := outB, changedA := false, changedB := false
    reschedule := x.reschedule || (outA && !k.outA) || (outB && !k.outB) }
  let s2 := if outA && !k.outA then s1.fault (AFE.FAULT.iexa b) 0x0111 else s1
  let s3 := if outB && !k.outB then s2.fault (AFE.FAULT.iexb b) 0x0112 else s2
  let overlap := (s.stride b).boundary == s.lapCount + 1
  if ((outA && !k.outA) || (outB && !k.outB)) && overlap then s3.deferStride b else s3

/-- Step 6 of a boundary for a bank (R29, R99): its contexts of the lap; slots that should have started `late` µs ago are not
run (R334).
(DEDUCED, notes/assumptions/55.md.) -/
def State.scanStart (s : State) (b late : Nat) : State :=
  let s0 := s.judgeSources b
  let s1 := if (s0.bank b).reschedule then s0.reschedule b else s0
  let k := s1.bank b
  let due := (List.range 20).filter fun c => s1.due b c && !s1.paused b c
  let placed := due.filter fun c => k.sched.any fun o => o.ctx == c && (late == 0 || decide (late ≤ o.start))
  let lost := due.filter fun c => k.unplaced.contains c
  let s2 := s1.modBank b fun x => { x with
    todo := placed, running := [], delay := 0, used := 0, scanning := true, joined := true
    leadForced := x.leadNext.foldl addTo x.leadForced, leadNext := []
    openNow := 0, shortNow := 0, restartNow := 0, abortNow := 0 }
  let chs := (placed ++ lost).map fun c => 20 * b + c
  let s3 := { s2 with lap := { s2.lap with awaited := s2.lap.awaited ++ chs, scanned := s2.lap.scanned ++ chs } }
  (s3.each lost fun st c => st.passBare b c .unplaced).scanEnd b

/-- A quiesced or disabled bank abandons what runs (R112, R594). -/
def State.abandonBank (s : State) (b : Nat) : State :=
  let k := s.bank b
  let s1 := s.each (s.activeRuns b) fun st r => st.endRun b r .abandoned
  let left := k.todo.map fun x => 20 * b + x
  let s2 := { s1 with lap := { s1.lap with
    awaited := s1.lap.awaited.filter fun c => !left.contains c, scanned := s1.lap.scanned.filter fun c => !left.contains c } }
  (s2.modBank b fun x => { x with
    todo := [], running := [], used := if x.running.isEmpty then x.used else max x.used s.intoLap }).scanEnd b

/-- Without its domain or under reset a bank delivers no further record for the lap, and starts anew (R113, R114); only a reset
takes the marks of its sources off (R111). -/
def State.dropBank (s : State) (b : Nat) : State :=
  ({ s with
    lap := { s.lap with
      awaited := s.lap.awaited.filter fun c => c / 20 != b, scanned := s.lap.scanned.filter fun c => c / 20 != b }
    arith := { s.arith with owed := s.arith.owed.filter fun r => r.ch / 20 != b }
    pair := { s.pair with held := s.pair.held.filter fun e => !(decide (20 * b ≤ e.ch) && decide (e.ch < 20 * b + 20)) } }).setBank b
    { leadForced := List.range 20, outA := (s.bank b).outA, outB := (s.bank b).outB }

/-- The marks of sources out of regulation are cleared by a reset that clears the bank (R111). -/
def State.clearSources (s : State) (b : Nat) : State := s.modBank b fun k => { k with outA := false, outB := false, persistA := 0, persistB := 0 }

end Sys2Proof.Machine
end

