-- ==== Sys2Proof/Machine/Cal.lean ====
section
/-!
DEFINITION. Calibration under live traffic (R164 to R204): the reference monitor, strides, converter faults, channel health,
commands, and field calibration.
-/

namespace Sys2Proof.Machine

/-- A calibration event goes to the recorder (R197): bank, modulator or channel, gain code, and the step or correction. -/
def State.calEvent (s : State) (code bank item gain : Nat) (v : Int) : State :=
  s.recEvent code 2 (bytesLE 1 bank ++ bytesLE 2 item ++ bytesLE 1 gain ++ bytesLE 4 (unsigned 32 v))

/-! ### References -/

/-- A reference is usable (R166, R169). -/
def State.refOk (s : State) (i : Nat) : Bool := !bit s.terms.failedRefs i

/-- Two usable references at least (R167). -/
def State.refsEnough (s : State) : Bool :=
  !s.flag CAL.REFSTAT.refloss && decide (2 ≤ ((List.range 3).filter fun i => s.refOk i).length)

/-- References that a reinstate command named and that the monitor run took back (R189). -/
def State.rejoinRefs (s : State) : State :=
  let back := s.cal.rejoin
  let left := s.terms.failedRefs &&& (back ^^^ 7)
  let s1 := { s with
    terms := { s.terms with failedRefs := left }
    cal := { s.cal with rejoin := 0, reinstate := s.cal.reinstate &&& (back ^^^ 7) } }
  if left = s.terms.failedRefs then s1 else s1.showPersistent.persist

/-- REFERENCE_MONITOR_END (R165 to R168): deviations in 10^-9, judged against 20 ppm; the loss of references clears once two of them agree
(R167). -/
def execReferenceMonitorEnd (dev01 dev02 dev12 rrdev : Int) (s : State) : Result :=
  if !(s.cal.monitorRunning && s.alive 0x10) then .next s
  else
    let big : Int → Bool := fun d => decide (20000 < d.natAbs)
    let s := s.rejoinRefs
    let s0 := { s with cal := { s.cal with monitorRunning := false } }
    let s1 := (((s0.wrInt (CAL.REFDEV.ppb 0) dev01).wrInt (CAL.REFDEV.ppb 1) dev02).wrInt (CAL.REFDEV.ppb 2) dev12).wrInt CAL.RRDEV.ppb rrdev
    let s2 := if big rrdev then ((s1.wr CAL.REFSTAT.rr_fail 1).fault CAL.FAULT.rr 0x0112).irq CAL.IRQRAW.rr_fail
      else s1.wr CAL.REFSTAT.rr_fail 0
    let loss : State → State := fun t => ((t.wr CAL.REFSTAT.refloss 1).fault CAL.FAULT.refloss 0x0110).deferStrides
    let clear : State → State := fun t => (t.wr CAL.REFSTAT.refloss 0).wr CAL.REFSTAT.ambig 0
    let mark : Nat → State := fun i =>
      let t := clear { s2 with terms := { s2.terms with failedRefs := s2.terms.failedRefs ||| 2 ^ i } }
      (((t.irq CAL.IRQRAW.ref_fail).showPersistent).persist).calEvent 0x0804 0 i 0 0
    match s.refOk 0, s.refOk 1, s.refOk 2 with
    | true, true, true =>
      match big dev01, big dev02, big dev12 with
      | false, false, false => .next (clear s2)
      | true, true, false => .next (mark 0)
      | true, false, true => .next (mark 1)
      | false, true, true => .next (mark 2)
      | one, two, three =>
        .next (((s2.wr CAL.REFSTAT.ambig 1).when (!(one && two && three)) fun t => t.wr CAL.REFSTAT.refloss 0).fault CAL.FAULT.refambig 0x0111)
    | false, true, true => .next (if big dev12 then loss s2 else clear s2)
    | true, false, true => .next (if big dev02 then loss s2 else clear s2)
    | true, true, false => .next (if big dev01 then loss s2 else clear s2)
    | _, _, _ => .next (s2.wr CAL.REFSTAT.refloss 1)

/-! ### The reference phase -/

/-- The gain codes of the enabled contexts of a bank, ascending: G of R171. -/
def State.gainSet (s : State) (b : Nat) : List Nat :=
  (List.range 8).filter fun g => (List.range 20).any fun k => s.flag (AFE.CTX.enable b k) && s.rd (AFE.CTX.gain b k) == g

/-- The distinct iex values of the enabled contexts with a source, in the order of their positions (R171). -/
def State.iexSet (s : State) (b : Nat) : List Nat :=
  (List.range 20).foldl (fun l k =>
    let i := s.rd (AFE.CTX.iex b k)
    if s.flag (AFE.CTX.enable b k) && s.rd (AFE.CTX.src b k) != 0 && !l.contains i then l ++ [i] else l) []

/-- The resistor (0 RR0, 1 RR1) and gain code of a source check (R175): the largest voltage within 80 % of a range; of
equal voltages the narrower range.
(DEDUCED, notes/assumptions/35.md.) -/
def checkPair (iex : Nat) (gs : List Nat) : Option (Nat × Nat) :=
  let fits : Nat → List Nat := fun r => gs.filter fun g => decide (iex * r * 2 ^ g ≤ 4000000)
  match (fits 1000).getLast?, (fits 100).getLast? with
  | some g, _ => some (1, g)
  | none, some g => some (0, g)
  | none, none => none

/-- G of R171 with the gain code that R175 adds to it where no pair serves an iex. -/
def State.gainPlan (s : State) (b : Nat) : List Nat :=
  let gs := s.gainSet b
  if ((s.iexSet b).any fun i => (checkPair i gs).isNone) && !gs.contains 0 then 0 :: gs else gs

/-- The conversions of a bank's reference phase (R171, R175): an iex that no pair of the contexts' gain codes serves takes RR0 at gain
code 0b000; every other takes the best pair of G. -/
def State.refPlan (s : State) (b : Nat) : List RefConv :=
  let gs := s.gainPlan b
  let iexs := s.iexSet b
  (gs.flatMap fun g => .zero g :: ((List.range 3).filter fun i => s.refOk i).map fun i => RefConv.ref g i) ++
    (iexs.zip (List.range iexs.length)).flatMap fun (i, n) =>
      let (r, g) := if (checkPair i (s.gainSet b)).isNone then (0, 0) else (checkPair i gs).getD (0, 0)
      [RefConv.source false n i r g, RefConv.source true n i r g]

/-- Laps that the reference phase of a bank takes (R170). -/
def State.refLaps (s : State) (b : Nat) : Nat := upDiv (3518 * (s.refPlan b).length) (max 1 s.lapPeriod)

/-- The modulator that a stride of the bank calibrates: the spare, or the target lane's (R171, R182). -/
def State.strideMod (s : State) (b : Nat) : Nat :=
  if s.hasSpare b then s.rd (AFE.LANEMAP.spare b) else s.laneMod b (s.rd (CAL.BANKSTAT.target b))

/-- The sample standard deviation of 32 codes in 2^-16 codes, reduced upward (R173). -/
def RefResult.sdev (r : RefResult) : Nat := sqrtUp (upDiv ((32 * r.sumSq - r.sum.natAbs ^ 2) * 2 ^ 32) 992)

/-- The newest result of a conversion. -/
def findResult (l : List RefResult) (c : RefConv) : Option RefResult := l.reverse.find? fun r => r.conv == c

/-- g_i of R173 in 2^-30, and the difference 32 × (m_i − o); none where the difference is not above zero. -/
def State.gainOf (s : State) (cfV : Int) (g i : Nat) (zero ref : RefResult) : Option (Nat × Nat) :=
  let d := (ref.sum - zero.sum).toNat
  if d = 0 then none
  else
    let v := s.refVolts i cfV
    let tap := copyNum s.calContent (80 + 16 * g) 8
    some ((roundEven ((v.1 * tap * 2 ^ (g + 24) * 32 * 2 ^ 30 : Nat) : Int) (v.2 * 2 ^ 62 * 5 * d)).toNat, d)

/-- The new entry of a gain code from the phase's results (R173); of equal gains the lower-numbered reference gives the median.
(DESIGN CHOICE, notes/assumptions/73.md.) -/
def State.newTerm (s : State) (cfV : Int) (prev : ModTerm) (results : List RefResult) (g : Nat) : Option ModTerm :=
  match findResult results (.zero g) with
  | none => none
  | some z =>
    let gi := (List.range 3).filterMap fun i =>
      ((findResult results (.ref g i)).bind fun r => (s.gainOf cfV g i z r).map fun (x, d) => (x, i, d, r))
    let uref : Nat → Nat := fun i => copyNum s.calContent (40 + 16 * i) 4
    let chosen : Option (Nat × Nat × Nat × RefResult) :=
      match gi with
      | [a, b, c] =>
        let between : Nat → Nat → Nat → Bool := fun x y z => (decide (y ≤ x) && decide (x ≤ z)) || (decide (z ≤ x) && decide (x ≤ y))
        some (if between a.1 b.1 c.1 then a else if between b.1 a.1 c.1 then b else c)
      | [a, b] =>
        let g := (roundEven ((a.1 + b.1 : Nat) : Int) 2).toNat
        some (if uref a.2.1 ≥ uref b.2.1 then (g, a.2) else (g, b.2))
      | _ => none
    chosen.map fun (gain, i, d, r) =>
      let s0 := z.sdev
      let utap := copyNum s.calContent (88 + 16 * g) 4
      let last := results.foldl (fun m x => match x.conv with
        | .zero y => if y = g then max m x.stime else m
        | .ref y _ => if y = g then max m x.stime else m
        | _ => m) 0
      let dt := ((last : Int) - prev.ts).toNat
      { o := z.sum * 8
        g := gain
        sigma := if prev.unstrided then s0 else upDiv (7 * prev.sigma + s0) 8
        uo := sqrtUp (upDiv (s0 * s0) 32)
        ug := sqrtUp (uref i ^ 2 + utap ^ 2 + upDiv (r.sdev ^ 2 * 10 ^ 12 * 32) (d ^ 2))
        d := if !prev.unstrided && decide (1000000 ≤ dt) then
            max s.dfloor (upDiv (3 * prev.d * (prev.g * dt) + ((gain : Int) - prev.g).natAbs * 10 ^ 12 * 2 ^ 24) (4 * prev.g * dt))
          else max s.dfloor prev.d
        ts := last
        unstrided := false }

/-- A reference conversion is bad by itself (R174): it overloads, is too noisy, or its offset is too large. A source check is not taken as
one: its overload fails the check of R176, and its noise is not tested.
(DESIGN CHOICE, notes/assumptions/83.md.) -/
def State.convBad (s : State) (r : RefResult) (overload : Bool) : Bool :=
  let noisy := decide (s.rd CAL.CFG.sigmax * 65536 < r.sdev)
  match r.conv with
  | .zero _ => overload || noisy || decide (2 ^ 20 * 32 < r.sum.natAbs)
  | .ref _ _ => overload || noisy
  | .source _ _ _ _ _ => false

/-- Whether a gain code still waits for a conversion of its own.
(DEDUCED, notes/assumptions/71.md.) -/
def gainWaits (convs : List RefConv) (g : Nat) : Bool :=
  convs.any fun c => match c with
    | .zero x => x == g
    | .ref x _ => x == g
    | .source _ _ _ _ _ => false

/-- The reference conversions of a gain code that its zero conversion shows bad (R174): a gain outside 0.75 to 1.25; and, once all
are there, every one where the new gain is a step away from the previous one.
(DEDUCED, notes/assumptions/71.md.) -/
def State.gainBad (s : State) (b m g : Nat) : List RefConv :=
  let t := s.stride b
  let prev := s.modTerm b m g
  match findResult t.results (.zero g) with
  | none => []
  | some z =>
    let refs := (List.range 3).filterMap fun i => findResult t.results (.ref g i)
    let off := refs.filter fun r =>
      match r.conv with
      | .ref _ i =>
        match s.gainOf t.cfV g i z r with
        | none => true
        | some (x, _) => decide (x * 4 < 3 * 2 ^ 30) || decide (5 * 2 ^ 30 < x * 4)
      | _ => false
    if !off.isEmpty then off.map RefResult.conv
    else if gainWaits t.convs g || prev.unstrided then []
    else
      match s.newTerm t.cfV prev t.results g with
      | none => []
      | some n =>
        if s.rd CAL.CFG.gstep * 10 * prev.g < ((n.g : Int) - prev.g).natAbs * 1000000 then refs.map RefResult.conv else []

/-- The source entry that a source check gives, from the new terms of its gain code (R175).
(DEDUCED, notes/assumptions/34.md.) -/
def State.sourceEntry (s : State) (t : ModTerm) (cfR : Int) (r : RefResult) (iex resistor g : Nat) : SrcTerm :=
  let f := fraction r.sum 32 t
  let ohm := s.refOhms resistor cfR
  let num : Int := f.v * 5 * ohm.2 * 2000000
  let den : Nat := max 1 (2 ^ (57 + g) * ohm.1 * iex)
  let delta := max 1 (8 * r.sum - t.o).natAbs
  let ur := copyNum s.calContent (220 + 16 * resistor) 4
  { iex := iex, es := roundEven ((num - den) * 65536000000) den
    ux := sqrtUp (ur ^ 2 + upDiv (r.sdev ^ 2 * 10 ^ 12 * 2048) (delta ^ 2)), checked := r.stime }

/-- A source check fails (R176). -/
def State.sourceFails (s : State) (b index : Nat) (iexb : Bool) (e : SrcTerm) : Bool :=
  decide (65536000 < e.es.natAbs) ||
    (match Keyed.get? s.terms.srcs (b * 8 + ofBool iexb * 4 + index) with
     | some old => old.iex == e.iex && decide (50 * 65536 < (e.es - old.es).natAbs)
     | none => false)

/-- A reference phase of a bank starts (R171), with the field corrections then in the store (R191). -/
def State.startRefPhase (s : State) (b : Nat) : State :=
  let s1 := s.modStride b fun t => { t with
    started := true, convs := s.refPlan b, repeated := [], results := [], refFailed := false, refDone := false, srcFailed := []
    deferred := false, finishing := false, mainSeen := false, compared := false, cmpFailed := false, repeatDue := false
    repeatMissed := false, cfV := s.corrections.1, cfR := s.corrections.2 }
  s1.wr (CAL.BANKSTAT.phase b) 1

/-! ### Outcomes of a stride -/

/-- The fail count of a modulator. -/
def modFail (b m : Nat) : Ref := { CAL.MODFAIL.count b with lo := 3 * m, w := 3 }

/-- A modulator is charged with a failure; at three it is retired (R180). -/
def State.chargeMod (s : State) (b m : Nat) : State :=
  let n := s.rd (modFail b m) + 1
  if n < 3 then s.wr (modFail b m) n
  else if bit (Keyed.get 0 s.terms.retiredMods b) m then s.wr (modFail b m) 3
  else
    let s1 := s.wr (modFail b m) 3
    let s2 := { s1 with terms := { s1.terms with
      retiredMods := Keyed.put s1.terms.retiredMods b (Keyed.get 0 s1.terms.retiredMods b ||| 2 ^ m) } }
    (((s2.irq CAL.IRQRAW.mod_retired).modStride b fun t => { t with retiring := t.retiring ++ [m] }).showPersistent.persist).calEvent
      0x0801 b m 0 0

/-- The initial rotation ends when every usable modulator has passed at every gain code of G, with the one that R175 adds (R184). -/
def State.rotationEnd (s : State) (b : Nat) : State :=
  let all := (s.usableMods b).all fun m => (s.gainPlan b).all fun g => (s.stride b).passed.contains (m, g)
  if (s.stride b).initial && all then (s.modStride b fun t => { t with initial := false }).wr (CAL.BANKSTAT.initial b) 0 else s

/-- The gain codes that the stride of a bank has calibrated. -/
def StrideState.gains (t : StrideState) : List Nat :=
  (t.results.filterMap fun r => match r.conv with
    | .zero g => some g
    | _ => none).eraseDups

/-- A modulator has passed at the gain codes of its stride (R184). -/
def State.rotationCheck (s : State) (b m : Nat) : State :=
  (s.modStride b fun t => { t with passed := t.gains.foldl (fun l g => if l.contains (m, g) then l else (m, g) :: l) t.passed }).rotationEnd b

/-- A failed stride charges its modulators. -/
def State.strideFail (s : State) (b : Nat) (charged : List Nat) : State :=
  let s1 := ((s.stick CAL.STRIDEFAIL.count CAL.CNTOVF.fail (some CAL.IRQRAW.cnt_ovf)).irq CAL.IRQRAW.stride_fail).wr
    (CAL.BANKSTAT.outcome b) 2
  (s1.each charged fun st m => st.chargeMod b m).advanceTarget b

/-- A passed stride. -/
def State.stridePass (s : State) (b m : Nat) : State :=
  let s1 := ((s.wrap CAL.STRIDEOK.count).irq CAL.IRQRAW.stride_pass).wr (CAL.BANKSTAT.outcome b) 1
  let lane := s1.rd (CAL.BANKSTAT.target b)
  let s2 := s1.modStride b fun t => { t with forcedLanes := dropFrom t.forcedLanes lane }
  let s3 := s2.put (CAL.BANKSTAT.forced b) (!(s2.stride b).forcedLanes.isEmpty)
  ((s3.wr (modFail b m) 0).rotationCheck b m).advanceTarget b

/-- The outcome of a stride at step 4 of its boundary (R179).
(DEDUCED, notes/assumptions/35.md.) -/
def State.strideOutcome (s : State) (b : Nat) : State :=
  let t := s.stride b
  let lane := s.rd (CAL.BANKSTAT.target b)
  let spare := s.rd (AFE.LANEMAP.spare b)
  let live := s.laneMod b lane
  if !t.started then (if s.rd (CAL.BANKSTAT.phase b) = 4 then s.strideDefer b else s)
  else if t.deferred || t.repeatMissed || t.repeatDue || !t.refDone || !t.compared then s.strideDefer b
  else if t.refFailed then s.strideFail b [spare]
  else if t.cmpFailed then s.strideFail b [spare, live]
  else
    let s1 := (s.wr { AFE.LANEMAP.lanes b with lo := 4 * lane, w := 3 } spare).wr (AFE.LANEMAP.spare b) live
    (s1.wr (modFail b live) 0).stridePass b spare

/-- The drift record of a modulator whose gain has moved far enough (R197). -/
def State.driftCheck (s : State) (b m g gain : Nat) : State :=
  let key := b * 40 + m * 8 + g
  let note : State → State := fun t => { t with cal := { t.cal with driftGain := Keyed.put t.cal.driftGain key gain } }
  match Keyed.get? s.cal.driftGain key with
  | none => note s
  | some old =>
    if ((gain : Int) - old).natAbs * 100000 > s.rd CAL.CFG3.drift_log * old then
      (note s).calEvent 0x0800 b m g (roundEven (((gain : Int) - old) * 1000000000) (max 1 old))
    else s

/-- The reference phase is complete: a passed phase writes its entries (R174). In interleaved and reduced mode the stride ends
here (R182). -/
def State.refPhaseEnd (s : State) (b : Nat) : State :=
  let t := s.stride b
  let m := s.strideMod b
  let news := t.gains.map fun g => (g, s.newTerm t.cfV (s.modTerm b m g) t.results g)
  let bad := t.refFailed || news.any fun e => e.2.isNone
  let s1 := if bad then s else s.each news fun st (g, e) =>
    match e with
    | some x => (st.setModTerm b m g x).driftCheck b m g x.g
    | none => st
  let s2 := s1.modStride b fun x => { x with refDone := true, refFailed := bad, convs := [] }
  if s.hasSpare b then s2
  else
    let s3 := if bad then s2.strideFail b [m] else s2.stridePass b m
    (s3.setPhase b 0).modStride b fun x => { x with started := false }

/-- Conversions found bad are repeated at the end of the phase, or fail it if they were repeats (R174). -/
def State.repeatConvs (s : State) (b : Nat) (cs : List RefConv) : State :=
  s.each cs fun st c =>
    if (st.stride b).repeated.contains c then
      st.modStride b fun x => { x with refFailed := true, results := x.results.filter fun r => r.conv != c }
    else
      (st.stick CAL.REPEATCNT.count CAL.CNTOVF.repeat (some CAL.IRQRAW.cnt_event)).modStride b fun x => { x with
        convs := x.convs ++ [c], repeated := c :: x.repeated, results := x.results.filter fun r => r.conv != c }

/-- A source check is judged and its entry taken (R176); while the resistors disagree no entry changes (R168).
(DESIGN CHOICE, notes/assumptions/68.md.) -/
def State.judgeSource (s : State) (b : Nat) (r : RefResult) : State :=
  let t := s.stride b
  let s0 := s.modStride b fun x => { x with results := x.results.filter fun y => y != r }
  match r.conv with
  | .source iexb index iex resistor g =>
    match s.newTerm t.cfV (s.modTerm b (s.strideMod b) g) t.results g with
    | none => s0
    | some n =>
      let e := s.sourceEntry n t.cfR r iex resistor g
      let srcBit := { CAL.BANKSTAT.srcfail b with lo := 19 + ofBool iexb, w := 1 }
      if t.srcFailed.contains r.conv || s.sourceFails b index iexb e then
        if t.repeated.contains r.conv then (s0.wr srcBit 1).irq CAL.IRQRAW.src_fail else s0.repeatConvs b [r.conv]
      else if s.flag CAL.REFSTAT.rr_fail then s0.wr srcBit 0
      else { s0.wr srcBit 0 with terms := { s0.terms with srcs := Keyed.put s0.terms.srcs (b * 8 + ofBool iexb * 4 + index) e } }
  | _ => s0

/-- What a conversion that ended settles: the gains whose conversions are there, then the source checks whose gain code is complete
(R174, R175). -/
def State.judgeResults (s : State) (b : Nat) : State :=
  let m := s.strideMod b
  let s1 := s.each (List.range 8) fun st g => st.repeatConvs b (st.gainBad b m g)
  let ready := (s1.stride b).results.filter fun r =>
    match r.conv with
    | .source _ _ _ _ g => !gainWaits (s1.stride b).convs g
    | _ => false
  s1.each ready fun st r => st.judgeSource b r

/-- REFERENCE_CONVERSION_END (R171 to R176): a bad conversion is repeated once at the end of the phase. The conversion in progress
when CAL was quiesced ends with nothing more (R198): its codes are discarded.
(DESIGN CHOICE, notes/assumptions/87.md.) -/
def execReferenceConversionEnd (bank : Nat) (codes : List Int) (overload : Bool) (s : State) : Result :=
  let b := bank
  let t := s.stride b
  if !(decide (b < 8) && s.alive 0x10 && s.alive (8 + b)) then .next s
  else if t.finishing then .next (s.modStride b fun x => { x with finishing := false })
  else
    match t.convs with
    | [] => .next s
    | c :: rest =>
      if !(t.started && s.rd (CAL.BANKSTAT.phase b) == 1) || t.deferred then .next s
      else
        let cs := codes.map (clampSigned 24)
        let r : RefResult := { conv := c, sum := cs.sum, sumSq := (cs.map fun x => x.natAbs ^ 2).sum, stime := s.stime }
        let s0 := s.modStride b fun x => { x with
          convs := rest, results := x.results ++ [r]
          srcFailed := if overload then (if x.srcFailed.contains c then x.srcFailed else x.srcFailed ++ [c]) else x.srcFailed.filter fun y => y != c }
        let s1 := if s.convBad r overload then s0.repeatConvs b [c] else s0
        let s2 := s1.judgeResults b
        .next (if (s2.stride b).convs.isEmpty then s2.refPhaseEnd b else s2)

/-- OVERLAP_REFERENCE_END (R178): the comparison of a lane without a main phase, or a repeat, made on the median reference in the lane's
idle time; it ends at least 1 ms before the next boundary. -/
def execOverlapReferenceEnd (bank : Nat) (liveSum spareSum : Int) (s : State) : Result :=
  let t := s.stride bank
  let lane := s.rd (CAL.BANKSTAT.target bank)
  let busy := (s.bank bank).running.any (fun r => r.lane == lane) ||
    (s.bank bank).sched.any fun o => o.lane == lane && (s.bank bank).todo.contains o.ctx
  let inTime := decide (s.lap.timer + 1000 ≤ s.lap.nextGrid)
  if decide (bank < 8) && s.overlapOn bank lane && !busy && inTime && (t.repeatDue || !(t.compared || t.mainSeen)) then
    let g := (s.gainPlan bank).headD 0
    .next ((s.compareSpare bank g 32 (s.modTerm bank (s.laneMod bank lane) g) liveSum spareSum).handoverWait bank)
  else .next s

/-! ### Steps at a boundary -/

/-- The lanes of a bank in ascending order of its usable modulators (R200).
(DEDUCED, notes/assumptions/34.md.) -/
def State.assignLanes (s : State) (b : Nat) : State :=
  let u := s.usableMods b
  let n := min 4 u.length
  let map := ((u.take n).zip (List.range n)).foldl (fun v (m, l) => v + m * 16 ^ l) 0
  let s1 := ((s.wr (AFE.LANEMAP.lanes b) map).wr (AFE.LANEMAP.live b) n).wr (AFE.LANEMAP.retired b) (Keyed.get 0 s.terms.retiredMods b)
  if u.length = 5 then s1.wr (AFE.LANEMAP.spare b) (u.getD 4 4) else s1

/-- The mode code of a number of usable modulators (R180). -/
def modeOf (n : Nat) : Nat := if n = 5 then 0 else if n = 4 then 1 else if n = 0 then 3 else 2

/-- The laps from a stride boundary to the next (R170, R182, R184), of a lap period in µs. -/
def State.strideGap (s : State) (b period : Nat) : Nat :=
  let r := if s.hasSpare b then s.refLaps b else 0
  if (s.stride b).initial then r + 1 else max (upDiv (s.rd (CAL.STRIDE.period_ms b) * 1000) (max 1 period)) (r + 1)

/-- The next stride boundary of a bank after boundary `l`. -/
def State.planStride (s : State) (b l : Nat) : State :=
  s.modStride b fun t => { t with
    bPrev := l, prevLap := s.lapPeriod, replan := false, boundary := l + s.strideGap b s.lapPeriod
    lapsLeft := if s.hasSpare b then s.refLaps b else 0, started := false }

/-- The next stride boundary after the bank's mode has changed at boundary `l`, still counted from its previous one (R170): not earlier
than a stride can be made.
(DEDUCED, notes/assumptions/36.md.) -/
def State.replanStride (s : State) (b l : Nat) : State :=
  let r := if s.hasSpare b then s.refLaps b else 0
  s.modStride b fun t => { t with
    replan := false, boundary := max (t.bPrev + s.strideGap b t.prevLap) (if s.hasSpare b then l + r + 1 else l)
    lapsLeft := r, started := false }

/-- A change of the bank's mode at step 4 of the boundary after a retirement (R180, R181). -/
def State.modeChange (s : State) (b : Nat) : State :=
  let t := s.stride b
  if t.retiring.isEmpty then s
  else
    let n := (s.usableMods b).length
    let s0 := s.modStride b fun x => { x with retiring := [], started := false, replan := true }
    let s1 :=
      if n = 4 then
        match (List.range 4).find? fun l => t.retiring.contains (s.laneMod b l) with
        | some l =>
          ((s0.wr { AFE.LANEMAP.lanes b with lo := 4 * l, w := 3 } (s.rd (AFE.LANEMAP.spare b))).modStride b fun x =>
            { x with forcedLanes := addTo x.forcedLanes l }).wr (CAL.BANKSTAT.forced b) 1
        | none => s0
      else
        let s2 := (s0.assignLanes b).modBank b fun k => { k with reschedule := true }
        if n = 0 then s2.fault CAL.FAULT.nolane 0x0115 else s2
    let s3 := ((s1.wr (CAL.BANKSTAT.mode b) (modeOf n)).setPhase b 0).irq CAL.IRQRAW.lane_change
    (if s3.rd (CAL.BANKSTAT.target b) < s3.liveLanes b then s3 else s3.wr (CAL.BANKSTAT.target b) 0).rotationEnd b

/-- Whether CAL strides a bank: both work, no mode change waits, and there is a lane (R180, R198). -/
def State.strideable (s : State) (b : Nat) : Bool :=
  s.working 0x10 && s.working (8 + b) && decide (0 < s.liveLanes b) && (s.stride b).retiring.isEmpty

/-- The lap's STALE records of a bank become those of the last lap (R183, R204). -/
def State.staleLap (s : State) (b : Nat) : State :=
  let now := (s.stride b).staleNow
  let s1 := s.modStride b fun t => { t with stalePrev := now, staleNow := false }
  if s.alive 0x10 then s1.put (CAL.BANKSTAT.stale b) now else s1

/-- A bank joins the laps after its release (R184, R200): its lanes, and an initial rotation. A stride that its reset cut was deferred
(R179). -/
def State.bankJoins (s : State) (b : Nat) : State :=
  let s1 := if (s.stride b).started then s.strideDefer b else s
  let s2 := (((s1.assignLanes b).startRotation b).setPhase b 0).modStride b fun t => { t with
    boundary := 0, replan := false, started := false, deferred := false, retiring := [] }
  if (s2.usableMods b).isEmpty then s2.fault CAL.FAULT.nolane 0x0115 else s2

/-- Step 4 of boundary `l` for a bank (R29, R179 to R182): first the mode change of an earlier retirement, then the stride whose
boundary this is. -/
def State.strideStep4 (s : State) (b l : Nat) : State :=
  let s := s.staleLap b
  if !s.alive 0x10 then s
  else if !s.alive (8 + b) then
    let s1 := (s.deferStride b).wr (CAL.BANKSTAT.mode b) 4
    if (s1.stride b).started && (s1.stride b).boundary == l then
      ((s1.strideDefer b).setPhase b 0).modStride b fun t => { t with started := false }
    else s1
  else
    let s0 := if (s.bank b).joined then s.modeChange b else s.bankJoins b
    let s1 := s0.wr (CAL.BANKSTAT.mode b) (modeOf ((s0.usableMods b).length))
    let t := s1.stride b
    if t.boundary = 0 then s1.planStride b l
    else if t.replan then s1.replanStride b l
    else if t.boundary ≠ l then s1
    else if s1.hasSpare b then ((s1.strideOutcome b).setPhase b 0).planStride b l
    else if t.started then (((s1.strideDefer b).advanceTarget b).setPhase b 0).planStride b l
    else s1

/-- Whether a field calibration run waits for a bank (R191). -/
def State.fcalDue (s : State) (b : Nat) : Bool := s.cal.fcal.requested && s.working 0x10 && s.rd CAL.FCALCFG.bank == b

/-- A field calibration run begins (R191): strides of its bank are deferred while it lasts. -/
def State.fcalBegin (s : State) (b : Nat) : State :=
  ({ s with cal := { s.cal with fcal := { s.cal.fcal with requested := false, running := true } } }.deferStride b).wr (CAL.BANKSTAT.phase b) 4

/-- Step 6 of boundary `l` for a bank: a reference phase or the overlap lap begins (R170, R177, R182). In interleaved and reduced mode
a field calibration takes the place of the stride, and the strides that fall due while it runs are deferred (R191). -/
def State.strideStep6 (s : State) (b l : Nat) : State :=
  let t := s.stride b
  let go := s.strideable b && s.refsEnough && s.rd (CAL.BANKSTAT.phase b) != 4
  if s.hasSpare b then
    if go && t.boundary == l + 1 + t.lapsLeft then s.startRefPhase b
    else if t.started && t.boundary == l + 1 && s.working 0x10 then
      if t.refDone then s.setPhase b 2 else (s.deferStride b).setPhase b 2
    else s
  else if t.boundary = l ∧ !t.started then
    if s.fcalDue b then ((s.strideDefer b).fcalBegin b).planStride b l
    else if s.rd (CAL.BANKSTAT.phase b) = 4 then (s.strideDefer b).planStride b l
    else if go then (s.planStride b l).startRefPhase b else s.planStride b l
  else s

/-- The reference monitor starts at a boundary when 60 s have passed (R165). -/
def State.monitorStart (s : State) : State :=
  let due := match s.cal.monitorLast with
    | some t => decide (t + 60000000 ≤ s.stime)
    | none => true
  if s.working 0x10 && due then
    { s with cal := { s.cal with monitorLast := some s.stime, monitorRunning := true, rejoin := s.cal.reinstate } }
  else s

/-- The module temperature of the lap is read (R158, R163); while the sensor is invalid temp_mk keeps its value.
(DESIGN CHOICE, notes/assumptions/72.md.) -/
def State.moduleTemp (s : State) (modT : Option Int) : State :=
  match modT with
  | some t =>
    let s1 := (s.wr ARITH.MODT.valid 1).wrInt ARITH.MODT.temp_mk t
    { s1 with cal := { s1.cal with tmod := some t } }
  | none => (s.wr ARITH.MODT.valid 0).fault ARITH.FAULT.modt 0x0112

/-! ### Channel health -/

/-- The health counter of a channel. -/
def healthRef (c : Nat) : Ref := { CAL.HEALTH.counters (c / 4) with lo := 8 * (c % 4), w := 8 }

/-- A channel is retired (R186). -/
def State.retireChannel (s : State) (c : Nat) : State :=
  if s.terms.retiredCh.contains c then s
  else
    let s1 := { s with terms := { s.terms with retiredCh := c :: s.terms.retiredCh } }
    ((s1.putNth CAL.RETIRED.ch c true).irq CAL.IRQRAW.ch_retired).persist.calEvent 0x0802 (c / 20) c 0 0

/-- CAL takes the outcome of a channel's own conversion (R185, R186). The counter has no overflow bit: the increment that brings it to all
ones is told (R203).
(DESIGN CHOICE, notes/assumptions/67.md.) -/
def State.healthTake (s : State) (r : ResultRec) : State :=
  if !s.working 0x10 ∨ r.ch ≥ 160 then s
  else
    let v := s.rd (healthRef r.ch)
    let v' := match r.health with
      | .good => v - 1
      | .failure => min 255 (v + 16)
      | .neutral => v
    let run := if r.openShort then Keyed.get 0 s.cal.persist r.ch + 1 else 0
    let s1 := (s.wr (healthRef r.ch) v').when (v' == 255 && v != 255) fun t => t.irq CAL.IRQRAW.cnt_ovf
    let s2 := { s1 with cal := { s1.cal with persist := if run = 0 then Keyed.drop s1.cal.persist r.ch else Keyed.put s1.cal.persist r.ch run } }
    if v' ≥ 128 ∨ (0 < run ∧ s.rd CAL.CFG.persist ≤ run) then s2.retireChannel r.ch else s2

/-! ### Commands -/

/-- A write of CAL.CMD with key 0xCA (R189). -/
def State.calCommand (s : State) (op bank arg : Nat) (reply : Option Nat := none) : State :=
  let known := (op == 1 || op == 4) && decide (arg < s.variant.channels) ||
    op == 2 && decide (bank < s.variant.banks) && decide (arg % 8 ≤ 4) || op == 3 && decide (arg % 4 ≤ 2)
  if s.rd CAL.CMDSTAT.state = 1 then (s.wr CAL.CMDSTAT.busy 1).replyTo reply 3
  else if !known then (s.wr CAL.CMDSTAT.state 3).replyTo reply 3
  else
    let s1 := (s.wr CAL.CMDSTAT.busy 0).wr CAL.CMDSTAT.state 1
    { s1 with cal := { s1.cal with pendingCmd := some (op, bank, arg), reply := reply } }

/-- The pending command is applied at step 2 of a boundary (R189); a reference returns with the next monitor run. -/
def State.calApply (s : State) : State :=
  match s.cal.pendingCmd with
  | none => s
  | some (op, bank, arg) =>
    if !s.alive 0x10 then s
    else
      let s1 := { s.wr CAL.CMDSTAT.state 2 with cal := { s.cal with pendingCmd := none, reply := none } }.replyTo s.cal.reply 3
      match op with
      | 1 =>
        let s2 := { s1 with
          terms := { s1.terms with retiredCh := dropFrom s1.terms.retiredCh arg }
          cal := { s1.cal with persist := Keyed.drop s1.cal.persist arg } }
        (((s2.putNth CAL.RETIRED.ch arg false).wr (healthRef arg) 0).persist).calEvent 0x0803 (arg / 20) arg 0 0
      | 2 =>
        let m := arg % 8
        let mask := Keyed.get 0 s1.terms.retiredMods bank
        if !bit mask m then s1
        else
          let left := mask - 2 ^ m
          let s2 := { s1 with terms := { s1.terms with
            retiredMods := if left = 0 then Keyed.drop s1.terms.retiredMods bank else Keyed.put s1.terms.retiredMods bank left
            mods := (List.range 8).foldl (fun t g => Keyed.put t (bank * 40 + m * 8 + g) s1.initialTerm) s1.terms.mods } }
          let s2 := if (s2.stride bank).started then s2.strideDefer bank else s2
          let s3 := (s2.wr (modFail bank m) 0).modStride bank fun t => { t with
            retiring := dropFrom t.retiring m, replan := true, started := false, convs := [] }
          let n := (s3.usableMods bank).length
          let s4 := if n = 5 then (if (List.range 4).any fun l => s3.laneMod bank l == m then s3 else s3.wr (AFE.LANEMAP.spare bank) m)
            else (s3.assignLanes bank).modBank bank fun k => { k with reschedule := true }
          let s5 := ((s4.wr (CAL.BANKSTAT.mode bank) (modeOf n)).setPhase bank 0).irq CAL.IRQRAW.lane_change
          ((s5.startRotation bank).showPersistent.persist).calEvent 0x0803 bank m 0 0
      | 3 =>
        let i := arg % 4
        let mask := s1.terms.failedRefs
        if !bit mask i then s1
        else ({ s1 with cal := { s1.cal with reinstate := s1.cal.reinstate ||| 2 ^ i } }).calEvent 0x0803 0 i 0 0
      | _ => s1.retireChannel arg

/-- REINSTATE_CHANNEL. -/
def execReinstateChannel (req : Requester) (ch : Nat) (s : State) : Result := s.command req 0x10 fun s => s.calCommand 1 0 ch

/-- REINSTATE_MODULATOR. -/
def execReinstateModulator (req : Requester) (bank modulator : Nat) (s : State) : Result :=
  s.command req 0x10 fun s => s.calCommand 2 bank modulator

/-- REINSTATE_REFERENCE. -/
def execReinstateReference (req : Requester) (ref : Nat) (s : State) : Result := s.command req 0x10 fun s => s.calCommand 3 0 ref

/-- RETIRE_CHANNEL_COMMAND. -/
def execRetireChannelCommand (req : Requester) (ch : Nat) (s : State) : Result := s.command req 0x10 fun s => s.calCommand 4 0 ch

/-! ### Field calibration -/

/-- The state of the field calibration (R204). -/
def State.fcalState (s : State) : Nat := s.rd CAL.FCALSTAT.state

/-- The field calibration reaches a state. -/
def State.fcalTo (s : State) (st reason : Nat) : State :=
  ((s.wr CAL.FCALSTAT.state st).wr CAL.FCALSTAT.reason reason).irq CAL.IRQRAW.fcal

/-- The bank-local pins that FCALPINS names for the kind. -/
def State.fcalPins (s : State) : List Nat :=
  if s.rd CAL.FCALCFG.kind = 2 then [s.rd CAL.FCALPINS.exc_p, s.rd CAL.FCALPINS.exc_n, s.rd CAL.FCALPINS.sns_p, s.rd CAL.FCALPINS.sns_n]
  else [s.rd CAL.FCALPINS.sns_p, s.rd CAL.FCALPINS.sns_n]

/-- The reason for which a start is refused, or 0 (R192). A pin number above 47 names no pin: it is refused with reason 0x01, and for kind
current as R192 refuses its sns_p.
(DESIGN CHOICE, notes/assumptions/87.md.)
(DEDUCED, notes/assumptions/35.md.) -/
def State.fcalRefusal (s : State) : Nat :=
  let b := s.rd CAL.FCALCFG.bank
  let kind := s.rd CAL.FCALCFG.kind
  if decide (s.variant.banks ≤ b) || !s.working (8 + b) then 2
  else if s.fcalPins.any fun p => (decide (48 ≤ p) && kind != 3) || (decide (p < 48) && (List.range 20).any fun k =>
    s.flag (AFE.CTX.enable b k) && (ctxPins s.rd b k).contains (48 * b + p)) then 1
  else if s.cal.fcal.requested || s.cal.fcal.running || s.cal.fcal.ready then 5
  else if !s.refsEnough then 6
  else if kind = 3 ∧ (s.rd CAL.FCALPINS.sns_p < 32 ∨ 47 < s.rd CAL.FCALPINS.sns_p) then 7
  else 0

/-- A start, from the configuration owner or a remote with the service role (R191, R192). Kind 0b00 is refused, with a reason
the spec does not name. A start refused for a run in progress leaves that run as it is. -/
def State.fcalStart (s : State) : State :=
  let r := s.fcalRefusal
  if r ≠ 0 then s.fcalTo 5 r
  else if s.rd CAL.FCALCFG.kind = 0 then let (x, s1) := s.draw; s1.fcalTo 5 (x % 256)
  else
    let s1 := ((s.wr CAL.FCALSTAT.state 1).wr CAL.FCALSTAT.reason 0).wr CAL.FCALSTAT.already_done 0
    { s1 with cal := { s1.cal with fcal := { requested := true } } }

/-- Who may start a field calibration (R191): the configuration owner, or a remote requester with the service role. -/
def State.mayFieldCal (s : State) (req : Requester) : Bool :=
  s.isOwner req || (match req with
    | .remote _ role _ => decide (3 ≤ role)
    | _ => false)

/-- FIELD_CAL_START. -/
def execFieldCalStart (req : Requester) (s : State) : Result :=
  if s.mayFieldCal req then s.command req 0x10 State.fcalStart
  else .next { s with status := (match s.writeStatus req 0x10 with | .ok => Status.notOwner | st => st).code }

/-- A run requested starts at a boundary (R191): on the spare; in the other modes at a stride (State.strideStep6). -/
def State.fcalBoundary (s : State) : State :=
  let b := s.rd CAL.FCALCFG.bank
  if s.fcalDue b && s.hasSpare b then s.fcalBegin b else s

/-- A run ends with a correction in FCALRES, or refused (R191, R192). -/
def State.fcalEnd (s : State) (st reason : Nat) : State :=
  ({ s with cal := { s.cal with fcal := { ready := st == 2 } } }).fcalTo st reason

/-- FIELD_CAL_RUN_END (R191, R192): the correction, or a run that ends refused; a quiesced CAL makes no conversion, and the run waits
(R198). -/
def execFieldCalRunEnd (measured : Int) (conversionFault : Bool) (s : State) : Result :=
  if !(s.working 0x10 && s.cal.fcal.running) then .next s
  else
    let s1 := s.wr (CAL.BANKSTAT.phase (s.rd CAL.FCALCFG.bank)) 0
    let value := s.rdInt CAL.FCALVAL.value * 1000000
    if conversionFault then .next (s1.fcalEnd 5 3)
    else if measured = 0 then .next (s1.fcalEnd 5 4)
    else
      let num := (if measured < 0 then -1 else 1) * (value - measured) * 1000000000
      let c := roundEven num measured.natAbs
      if 200000 < c.natAbs then .next (s1.fcalEnd 5 4) else .next ((s1.wrInt CAL.FCALRES.ppb c).fcalEnd 2 0)

/-- The store content with an accepted correction (R191, R194). -/
def State.fcalContent (s : State) (bs : List Byte) : List Byte :=
  let c := s.rdInt CAL.FCALRES.ppb
  let cert := (List.range 4).flatMap fun i => bytesLE 4 (s.rd (CAL.FCALCERT.bytes i))
  let t := bytesLE 8 s.stime
  match s.rd CAL.FCALCFG.kind with
  | 1 => copyPut (copyPut (copyPut bs 2288 (bytesLE 4 (unsigned 32 c))) 2296 cert) 2344 t
  | 2 => copyPut (copyPut (copyPut bs 2292 (bytesLE 4 (unsigned 32 c))) 2312 cert) 2352 t
  | _ =>
    let o := 240 + 16 * (16 * s.rd CAL.FCALCFG.bank + (s.rd CAL.FCALPINS.sns_p - 32))
    let e := signed 32 (copyNum bs o 4) + roundEven (c * 65536) 1000
    copyPut (copyPut (copyPut bs o (bytesLE 4 (unsigned 32 e))) 2328 cert) 2360 t

/-- What a copy holds apart from its sequence number, the persistent state and the CRC. -/
def copyBody (bs : List Byte) : List Byte := bs.take 8 ++ (bs.take 2416).drop 12

/-- Whether a copy in the queue carries the correction being stored (R193). -/
def State.carries (s : State) (w : Bool × List Byte) : Bool := s.cal.fcal.storing && copyBody w.2 == s.cal.fcal.content

/-- An accepted result is written to the store (R191). -/
def State.fcalAccept (s : State) : State :=
  if !s.cal.fcal.ready ∨ s.cal.fcal.storing then s
  else
    let s1 := s.queueCopy fun bs => copyPut (s.fcalContent bs) 2416 s.persistBytes
    let body := match s1.cal.writes.getLast? with
      | some w => copyBody w.2
      | none => []
    { s1 with cal := { s1.cal with fcal := { s1.cal.fcal with storing := true, content := body } } }

/-- FIELD_CAL_ACCEPT. -/
def execFieldCalAccept (req : Requester) (s : State) : Result := s.command req 0x10 State.fcalAccept

/-- A run is given up (R193, R199): copies that carry its correction are not written; the one that may be partly written is written again
from the unchanged content, and a change of the persistent state queued behind the correction is queued without it. -/
def State.fcalDrop (s : State) : State :=
  let b := s.rd CAL.FCALCFG.bank
  let s1 := if s.cal.fcal.running && s.rd (CAL.BANKSTAT.phase b) == 4 then s.wr (CAL.BANKSTAT.phase b) 0 else s
  let kept := s.cal.writes.filter fun w => !s.carries w
  let base := match kept.getLast? with
    | some w => w.2
    | none => s.cal.copy
  let s2 := { s1 with cal := { s1.cal with fcal := {}, writes := kept } }
  match s.cal.writes.find? s.carries with
  | none => s2
  | some w =>
    if base.isEmpty then s2
    else if (base.drop 2416).take 40 = s.persistBytes then { s2 with cal := { s2.cal with writes := kept ++ [(w.1, base)] } }
    else s2.queueCopy fun bs => copyPut bs 2416 s.persistBytes

/-- An abort (R193): before the first new copy is verified the store returns to the unchanged content. -/
def State.fcalAbort (s : State) : State :=
  let c := s.cal.fcal
  if c.requested || c.running || c.ready then s.fcalDrop.fcalTo 4 0
  else if s.fcalState = 3 then s.wr CAL.FCALSTAT.already_done 1
  else s

/-- FIELD_CAL_ABORT. -/
def execFieldCalAbort (req : Requester) (s : State) : Result := s.command req 0x10 State.fcalAbort

/-- The program of a copy ends (R195): it reads back right, and the other is written next; or it does not, and the other is left
untouched. The first copy with a new correction completes a field calibration (R193). -/
def State.copyEnd (verified : Bool) (s : State) : State :=
  match s.cal.writes with
  | [] => s.nvmNext
  | (c, bs) :: rest =>
    let o := copyBase c
    let first := s.carries (c, bs)
    let s0 := s.storeErase (o / 0x10000)
    match if verified then s0.storeProgram o bs else (false, s0.programFailed o bs.length) with
    | (true, s1) =>
      let s2 := { s1 with cal := { s1.cal with copy := bs, writes := rest } }.wr CAL.STORESEQ.seq (copyNum bs 8 4)
      let s3 := s2.nvmNext.calIssue
      if first then
        ({ s3 with cal := { s3.cal with fcal := {} } }.fcalTo 3 0).calEvent 0x0805 (s.rd CAL.FCALCFG.bank) 0 (s.rd CAL.FCALCFG.gain)
          (s.rdInt CAL.FCALRES.ppb)
      else s3
    | (false, s1) =>
      let s2 := { s1 with cal := { s1.cal with
        writes := rest.filter fun w => w.2 != bs
        fcal := if first then { s1.cal.fcal with storing := false, content := [] } else s1.cal.fcal } }
      (s2.fault CAL.FAULT.storewr 0x0114).nvmNext.calIssue

/-- CAL_STORE_COPY_VERIFIED: the end of the running program of a copy. -/
def execCalStoreCopyVerified (verified : Bool) (s : State) : Result :=
  if s.storeRuns .calCopy then .next (s.copyEnd verified) else .next s

/-- NVM_COMMAND_END (R438, R440): the running command completes, or ends refused where the page does not read back as its
source. A command suspended by the sequence of R524 does not end (R525). -/
def execNvmCommandEnd (taken : Bool) (s : State) : Result :=
  match if s.flag PWR.STAT.saving then none else s.nvm.running with
  | none => .next s
  | some c =>
    let hostEnd : State → Nat → Nat → State := fun t st r => (t.wr NVM.CMDSTAT.state st).wr NVM.CMDSTAT.reason r
    match c.owner with
    | .recErase sector => .next ((s.storeErase sector).nvmNext.when (s.alive 0x49) State.clearStep)
    | .recSector sector => .next (s.storeErase sector).nvmNext
    | .recRecords => .next ((s.when (s.working 0x49) fun t => t.recordsEnd taken).nvmNext)
    | .recBase => if s.working 0x49 then .next (s.baseEnd taken) else .next s
    | .calCopy => .next (s.copyEnd taken)
    | .host =>
      if c.op = 3 then
        match s.storeRead c.addr c.len with
        | (some bs, s1) => .next ((hostEnd (s1.wr NVM.RESULT.crc (crc32 bs)) 3 0).irq NVM.IRQRAW.cmd_done).nvmNext
        | (none, s1) => .next ((hostEnd s1 5 4).irq NVM.IRQRAW.cmd_refused).nvmNext
      else if c.op = 2 then .next ((hostEnd (s.storeErase (c.addr / 0x10000)) 3 0).irq NVM.IRQRAW.cmd_done).nvmNext
      else
        match s.sramRead c.src c.len with
        | (none, s1) => .next ((hostEnd s1 5 4).irq NVM.IRQRAW.cmd_refused).nvmNext
        | (some bs, s1) =>
          match if taken then s1.storeProgram c.addr bs else (false, s1.programFailed c.addr c.len) with
          | (true, s2) => .next ((hostEnd s2 3 0).irq NVM.IRQRAW.cmd_done).nvmNext
          | (false, s2) => .next ((hostEnd s2 5 4).irq NVM.IRQRAW.cmd_refused).nvmNext

/-! ### Reset -/

/-- What a reset or power-off of CAL leaves of its strides (R199): the terms, the lanes and the persistent state are not CAL's, and what
concerns them stands: an initial rotation not yet ended (R184), forced lanes (R181), a mode change to come (R180). Strides are
planned anew, but for one that the reset cut: it is deferred at its boundary (R179).
(DESIGN CHOICE, notes/assumptions/70.md.) -/
def StrideState.afterReset (t : StrideState) : StrideState :=
  let kept : StrideState := { initial := t.initial, passed := t.passed, forcedLanes := t.forcedLanes, retiring := t.retiring }
  if t.started then { kept with started := true, deferred := true, boundary := t.boundary, bPrev := t.bPrev, prevLap := t.prevLap } else kept

/-- A stride that a reset of CAL cut is deferred at CAL's release where its boundary has passed, or where it ends within its lap (R179,
R182). -/
def State.cutStride (s : State) (b : Nat) : State :=
  let t := s.stride b
  if t.started && !(s.hasSpare b && decide (s.lapCount < t.boundary)) then
    (s.strideDefer b).modStride b fun x => { x with started := false, deferred := false, boundary := 0 }
  else s

/-- What CAL holds when it is cleared (R199). -/
def State.clearCal (s : State) : State :=
  let c := s.fcalDrop.cal
  { s with cal := {
      strides := c.strides.map fun e => (e.1, e.2.afterReset), tmod := c.tmod, copy := c.copy, writes := c.writes
      reinstate := c.reinstate ||| c.rejoin } }

/-- CAL at its release (R184, R199): health counters, and the registers that show what stands. -/
def State.calReset (s : State) : State :=
  let s1 := s.each (List.range 160) fun st c => st.wr (healthRef c) (if st.terms.retiredCh.contains c then 128 else 0)
  let s2 := s1.each (List.range s1.variant.banks) fun st b =>
    (st.put (CAL.BANKSTAT.initial b) (st.stride b).initial).put (CAL.BANKSTAT.forced b) (!(st.stride b).forcedLanes.isEmpty)
  let s3 := s2.clearCal.showPersistent.wr CAL.STORESEQ.seq (copyNum s2.cal.copy 8 4)
  (s3.each (List.range s3.variant.banks) State.cutStride).calIssue

/-- A quiesce of CAL (R198): strides are deferred and the monitor run ends; the reference conversion in progress is completed. -/
def State.quiesceCal (s : State) : State :=
  let s1 := s.each (List.range 8) fun st b =>
    let t := st.stride b
    if t.started && !t.deferred && st.rd (CAL.BANKSTAT.phase b) == 1 && !t.convs.isEmpty then st.modStride b fun x => { x with finishing := true }
    else st
  let s2 := s1.deferStrides
  { s2 with cal := { s2.cal with monitorRunning := false, rejoin := 0 } }

/-- Work in hand of CAL (R542): conversions of strides, the monitor and a field calibration, and copies of the store being written. -/
def State.calInHand (s : State) : Bool :=
  s.cal.monitorRunning || !s.cal.writes.isEmpty || (!s.quiesced 0x10 && (s.cal.fcal.requested || s.cal.fcal.running)) ||
    s.cal.strides.any fun e => e.2.finishing || (!s.quiesced 0x10 && e.2.started && !e.2.convs.isEmpty && !e.2.deferred)

end Sys2Proof.Machine
end

