-- ==== Sys2Proof/Machine/Link.lean ====
section
/-!
DEFINITION. What the other engines ask of the pair supervisor: the role (R344), and frames to the partner over the Uhliz
link (R326 to R328).
-/

namespace Sys2Proof.Machine

/-- The role in force: single on a node without PAIR, or with PAIR.CFG.enable 0 (R344). -/
def State.role (s : State) : Nat := if !s.present 0x38 || !s.flag PAIR.CFG.enable then 0 else s.rd PAIR.STAT.role

/-- Whether the node is part of a pair. -/
def State.paired (s : State) : Bool := s.role != 0

/-- Whether the node speaks and drives for itself or for its pair: single or holder (R25, R309). -/
def State.holds (s : State) : Bool := s.role == 0 || s.role == 4

/-- Frames of a type are sent on both lanes (R326). -/
def bothLanes (type : Nat) : Bool := type == 1 || type == 2 || type == 12

/-- One frame of the Uhliz link (R327). -/
def uhlizFrame (type seq : Nat) (payload : List Byte) : List Byte :=
  let b := bytesLE 1 type ++ bytesLE 1 0 ++ bytesLE 2 payload.length ++ bytesLE 4 seq ++ payload
  b ++ bytesLE 4 (crc32 b)

/-- A frame leaves on a lane, with the lane's next sequence number. -/
def State.laneSend (s : State) (lane type : Nat) (payload : List Byte) : State :=
  let seq := if lane = 0 then s.pair.seq0 else s.pair.seq1
  let p := { s.pair with sent := s.pair.sent ++ [(lane, uhlizFrame type seq payload)] }
  { s with pair := if lane = 0 then { p with seq0 := (seq + 1) % 2 ^ 32 } else { p with seq1 := (seq + 1) % 2 ^ 32 } }

/-- A frame is sent to the partner: on both lanes, or on UL1 while it is up and on UL0 otherwise (R326); a quiesced PAIR
sends only LEASE, LAPMARK and EVALDONE (R355). -/
def State.uhlizSend (s : State) (type : Nat) (payload : List Byte) : State :=
  if !s.alive 0x38 || !s.paired then s
  else if bothLanes type then (s.laneSend 0 type payload).laneSend 1 type payload
  else if s.quiesced 0x38 then s
  else s.laneSend (if bit (s.rd PAIR.STAT.lanes) 1 then 1 else 0) type payload

/-- A command that only the holder applies is forwarded by the standby: its block (the page number), its word and argument as written, and the requester
(R341).
(DEDUCED, notes/assumptions/42.md.) -/
def State.forward (s : State) (block word arg requester : Nat) (reply : Option Nat) : State :=
  let s1 := s.uhlizSend 7 (bytesLE 1 block ++ bytesLE 4 word ++ bytesLE 4 arg ++ bytesLE 2 requester)
  { s1 with pair := { s1.pair with forwarded := s1.pair.forwarded ++ [(block, reply)] } }

/-- How a requester is named in CMDFWD: 0xFFFF the host, 0xFFFE the partner, else the node address. -/
def requesterCode : Requester → Nat
  | .host => 0xFFFF
  | .pair => 0xFFFE
  | .remote nid _ _ => nid

/-! ### Domains that shedding switches off -/

/-- The pages of a domain that the variant has, ascending. -/
def State.pagesOf (s : State) (d : Domain) : List Nat :=
  ((pageTable s.variant).filter fun i => i.domain == d && s.present i.number).map PageInfo.number

/-- Whether a domain holds a channel marked essential (R27). -/
def State.essentialIn (s : State) (d : Domain) : Bool :=
  (s.pagesOf d).any fun p => (List.range 20).any fun k => s.flag (AFE.CTX.enable (p - 8) k) && s.flag (AFE.CTX.essential (p - 8) k)

/-- Whether shedding alone is what keeps an AFE domain off (R218, R343, R510). -/
def State.shedOff (s : State) (d : Domain) : Bool :=
  (d == .afeL || d == .afeH) && decide (3 ≤ s.level) && !s.essentialIn d && !s.flag PWR.STAT.vdda_low &&
    bit (s.rd PWR.DOMREQ.req) (d.code - 4) && !s.pwr.abandoned.contains d

/-! ### The health score -/

/-- The state code of R361. -/
def State.portMode (s : State) (n : Nat) : Nat := s.rd (BUS.STATE.state n)

/-- The bits that are 1. -/
def ones (v n : Nat) : Nat := (setBits v n).length

/-- The node's health score (R343).
(DEDUCED, notes/assumptions/53.md.) -/
def State.ownScore (s : State) : Nat :=
  let bus := ((List.range 2).filter fun n => s.portMode n == 0 || s.portMode n == 4 || s.portMode n == 5 || !s.alive (0x30 + n)).length
  let banks := (List.range s.variant.banks).filter fun n =>
    (!s.domainOn (pageDomain (8 + n)) && !s.shedOff (pageDomain (8 + n))) || (s.alive (8 + n) && s.rd (CAL.BANKSTAT.mode n) == 3)
  let sources := ((List.range s.variant.banks).map fun n => ofBool (s.bank n).outA + ofBool (s.bank n).outB).sum
  let mods := (s.terms.retiredMods.map fun e => ones e.2 5).sum
  let outs := ((List.range 48).filter fun p => s.nth DIO.DISAGREE.flag p).length
  min 255 (64 * ofBool (s.rd JKT.STAT.link == 3) + 32 * bus + 32 * banks.length + 16 * ones s.terms.failedRefs 3 + 16 * sources + 4 * mods + 4 * outs)

/-- The score is recomputed (R343). -/
def State.showScore (s : State) : State := if s.alive 0x38 then s.wr PAIR.STAT.score s.ownScore else s

end Sys2Proof.Machine
end

