-- ==== Sys2Proof/Machine/Uio.lean ====
section
/-!
DEFINITION. Universal loop channels (R273 to R294): what a channel drives, its readback and its faults, and the loop record.
-/

namespace Sys2Proof.Machine

/-- What UIO holds of a channel. -/
def State.loop (s : State) (u : Nat) : LoopState := Keyed.get {} s.loops u

/-- Changes it. -/
def State.modLoop (s : State) (u : Nat) (f : LoopState → LoopState) : State :=
  { s with loops := Keyed.put s.loops u (f (s.loop u)) }

/-- The mode of a channel (R273). -/
def State.loopMode (s : State) (u : Nat) : Nat := s.rd (UIO.ENT.mode u)

/-- The span FS in µA or µV (R273). -/
def loopSpan (mode : Nat) : Nat :=
  match mode with
  | 1 | 2 | 5 => 24000
  | 3 => 10000000
  | _ => 20000000

/-- The least value of the set or measured range. -/
def loopLow (mode : Nat) : Int := if mode = 4 ∨ mode = 6 then -10000000 else 0

/-- A value held to the set range (R273, R283).
(DEDUCED, notes/assumptions/37.md.) -/
def clampSet (mode : Nat) (v : Int) : Int := max (loopLow mode) (min (loopLow mode + loopSpan mode) v)

/-- The DAC code of an output value (R274). -/
def dacCode (mode : Nat) (v : Int) : Nat := (max 0 (min 65535 (roundEven ((v - loopLow mode) * 65536) (loopSpan mode)))).toNat

/-- A field of the field end's configuration copy (R313), under the address of its live register. -/
def State.copyRd (s : State) (r : Ref) : Nat := getBits (Sparse.get resetWord s.jkt.config r.addr).toNat r.lo r.w

/-- A signed field of the copy. -/
def State.copyInt (s : State) (r : Ref) : Int := signed r.w (s.copyRd r)

/-- Whether the jacket link is in fault or down at the logic end. -/
def State.linkLost (s : State) : Bool := let l := s.rd JKT.STAT.link; l == 0 || l == 3

/-- Whether the field end takes or keeps the fail action of a channel (R286). -/
def State.loopFailing (s : State) (u : Nat) : Bool := s.jkt.loopFail.contains u || s.jkt.loopWait.contains u

/-- The row of R284 in force, and the output value where the row drives one. The field end takes the fail action and a hold by the values
that it last received (R23, R286). Under a hold an output that was off stays off. Hold all lets rows 6 to 8 decide while the logic end runs, and
keeps the output otherwise, reported as row 9. Before driving has begun (R288) the output is off, reported as row 1.
(DEDUCED, notes/assumptions/37.md.) -/
def State.loopRow (s : State) (u : Nat) : Nat × Option Int :=
  let lp := s.loop u
  let last : Option Int := some (s.rdInt (UIO.OUT.out u))
  let essential := s.flag (UIO.ENT.essential u)
  let holdAll := !s.jkt.loopFree && s.jkt.fHold == 1
  if !s.alive 0x18 || !lp.started then (1, none)
  else if s.jkt.vstate = 2 then (2, none)
  else if s.flag (UIO.STAT.thermal u) then (3, none)
  else if s.loopFailing u then
    (4, if s.jkt.fPair then none else match s.copyRd (UIO.ENT.fail_act u) with | 0 => last | 1 => some (s.copyInt (UIO.ENT.fail_val u)) | _ => none)
  else if !s.jkt.loopFree && s.jkt.fHold == 2 then
    (5, if !lp.driving then none else if s.copyRd (UIO.ENT.essential u) = 1 then last else some (s.copyInt (UIO.ENT.fail_val u)))
  else if holdAll && !s.alive 0x1A then (9, if lp.driving then last else none)
  else if s.paired && !s.holds then (6, none)
  else if 2 ≤ s.level && !essential then (7, some (s.rdInt (UIO.ENT.fail_val u)))
  else if s.flag (UIO.STAT.outflt u) && s.flag (UIO.ENT.flt_act u) then (8, none)
  else if s.quiesced 0x18 || holdAll then (9, last)
  else (10, last)

/-- Rows that keep the last DAC code rather than a value (R284 rows 5 and 9, R286 hold). -/
def State.loopKeeps (s : State) (u row : Nat) : Bool :=
  (row == 4 && s.copyRd (UIO.ENT.fail_act u) == 0) || row == 9 ||
    (row == 5 && s.copyRd (UIO.ENT.essential u) == 1)

/-- The channel drives what R284 decides: the row and the DAC code, in the mode of the field end's copy where that end acts by itself (R23); a
change of code blanks the mismatch test (R279). -/
def State.driveLoop (s : State) (u : Nat) : State :=
  let (row, v) := s.loopRow u
  let s1 := (s.wr (UIO.STAT.row u) row).modLoop u fun l => { l with driving := v.isSome }
  let mode := if row = 4 ∨ row = 5 then s.copyRd (UIO.ENT.mode u) else s.loopMode u
  match v with
  | none => s1
  | some v =>
    if mode = 0 ∨ mode ≥ 5 ∨ s.loopKeeps u row then s1
    else
      let code := dacCode mode (clampSet mode v)
      if code = s.rd (UIO.STAT.code u) then s1
      else (s1.wr (UIO.STAT.code u) code).modLoop u fun l => { l with settleLeft := s.rd UIO.CFG.settle_ms }

/-- Every channel of the variant. -/
def State.loopList (s : State) : List Nat := List.range s.variant.loops

/-- Every channel drives what R284 decides. -/
def State.driveLoops (s : State) : State := if s.present 0x18 then s.each s.loopList fun st u => st.driveLoop u else s

/-- A new source value of a channel (R283). -/
def State.loopOut (s : State) (u : Nat) (v : Int) : State :=
  (s.wrInt (UIO.OUT.out u) (clampSet (s.loopMode u) v)).driveLoop u

/-- Whether a channel is an output whose source is `src`. -/
def State.loopFrom (s : State) (u src : Nat) : Bool :=
  decide (1 ≤ s.loopMode u) && decide (s.loopMode u ≤ 4) && s.rd (UIO.ENT.src u) == src

/-- Retransmission of a delivered record (R283). -/
def State.retransmit (s : State) (r : ResultRec) : State :=
  s.each (s.loopList.filter fun u => s.loopFrom u 1 && s.rd (UIO.ENT.ref u) == r.ch) fun st u =>
    if bit r.status 0 then
      let m0 := st.rdInt (UIO.ENT.m0 u)
      let m1 := st.rdInt (UIO.ENT.m1 u)
      let o0 := st.rdInt (UIO.ENT.o0 u)
      let o1 := st.rdInt (UIO.ENT.o1 u)
      let n := (r.value - m0) * (o1 - o0)
      let whole := o0 * (m1 - m0) + n
      st.loopOut u (if m1 = m0 then o0 + Config.quotientByZero n else roundEven (if m1 < m0 then -whole else whole) (m1 - m0).natAbs)
    else if st.flag (UIO.ENT.inv_act u) then st.loopOut u (st.rdInt (UIO.ENT.fail_val u))
    else st

/-- Host-sourced outputs take the host's values (R283). -/
def State.loopsFromHost (s : State) : State :=
  s.each (s.loopList.filter fun u => s.loopFrom u 0) fun st u => st.loopOut u (st.rdInt (UIO.SET.set_ u))

/-- Alarm-driven outputs follow their contexts at the end of an ALM evaluation (R283); a status context drives nothing (R230). -/
def State.loopsFromAlarms (s : State) : State :=
  s.each (s.loopList.filter fun u => s.loopFrom u 2 && s.rd (ALM.CTXA.category (s.rd (UIO.ENT.ref u))) != 4) fun st u =>
    let k := st.rd (UIO.ENT.ref u)
    let layers := st.rd (ALM.CTXA.layers k)
    st.loopOut u (if bit layers 0 || bit layers 3 then st.rdInt (UIO.ENT.fail_val u)
      else if st.flag (ALM.CTXA.q k) then st.rdInt (UIO.ENT.o1 u) else st.rdInt (UIO.ENT.o0 u))

/-- Whether input 48 + u is 1: a flag of the channel, or OVR or DOM of its newest record (R282). -/
def State.loopFault (s : State) (u : Nat) : Bool :=
  s.flag (UIO.STAT.compliance u) || s.flag (UIO.STAT.loop_low u) || s.flag (UIO.STAT.outflt u) || s.flag (UIO.STAT.thermal u) ||
    (s.loop u).recBad

/-- Input 48 + u takes its new state and change stamp. -/
def State.noteLoop (s : State) (u stamp : Nat) : State :=
  let f := s.loopFault u
  if f = (s.loop u).fault then s else s.modLoop u fun l => { l with fault := f, faultAt := stamp }

/-- A status input of UIO (R282): its state and stamp, none while it is invalid. -/
def State.loopInput (s : State) (i : Nat) : Option (Bool × Nat) :=
  let u := i % 8
  if !s.alive 0x18 || s.linkLost || decide (s.variant.loops ≤ u) then none
  else if i < 56 then some ((s.loop u).fault, (s.loop u).faultAt) else some ((s.loop u).window, (s.loop u).windowAt)

/-- A loop record reaches UIO's status inputs (R282). -/
def State.loopRecord (s : State) (r : ResultRec) : State :=
  let u := r.ch - 512
  let s1 := (s.modLoop u fun l => { l with recBad := bit r.status 1 || bit r.status 2 }).noteLoop u r.stime
  if bit r.status 0 then
    let out := decide (r.value < s.rdInt (UIO.ENT.win_lo u)) || decide (r.value > s.rdInt (UIO.ENT.win_hi u))
    if out = (s.loop u).window then s1 else s1.modLoop u fun l => { l with window := out, windowAt := r.stime }
  else s1

/-- Whether the output is off at the terminals, so that the channel behaves as in mode 0x0 (R284). -/
def State.loopOff (s : State) (u : Nat) : Bool :=
  s.loopMode u == 0 || (s.loopRow u).2.isNone

/-- A flag of R280 sets: its interrupt and its counter. -/
def State.loopSet (s : State) (flag irq count ovf : Ref) : State :=
  ((s.wr flag 1).irq irq).stick count ovf (some UIO.IRQRAW.cnt_ovf)

/-- READBACK_SAMPLE (R276, R279, R280): the measured quantity in µA or µV, the terminal voltage in mV, and whether the
output stage is saturated.
(DEDUCED, notes/assumptions/37.md.)
(DESIGN CHOICE, notes/assumptions/62.md.) -/
def execReadbackSample (u : Nat) (rb tv : Int) (saturated : Bool) (s : State) : Result :=
  if !s.alive 0x18 ∨ u ≥ s.variant.loops ∨ s.loopMode u = 0 then .next s
  else
    let mode := s.loopMode u
    let lp := s.loop u
    let off := s.loopOff u
    let more := decide ((rb - loopLow mode) * 20 < -(loopSpan mode : Int)) || decide ((rb - loopLow mode - loopSpan mode) * 20 > loopSpan mode)
    let counts := lp.winOpen
    let sat := saturated && !off && (mode == 1 || mode == 3 || mode == 4 || mode == 5)
    let low := !sat && !off && mode == 2 && decide (tv < 4000) && decide (0 < s.rdInt (UIO.OUT.out u))
    let code := s.rd (UIO.STAT.code u)
    let away : Int := ((rb - loopLow mode) * 65536 - code * loopSpan mode) * 1000
    let mis := !sat && !low && !off && decide (1 ≤ mode) && decide (mode ≤ 4) && lp.settleLeft == 0 &&
      decide (loopSpan mode * 65536 < away.natAbs)
    let faultMs := s.rd UIO.CFG.fault_ms
    let l1 : LoopState := { lp with
      sampled := true
      samples := (lp.samples + 1) % 16
      saturated := sat
      winSum := if counts then lp.winSum + rb else lp.winSum
      winCount := if counts then lp.winCount + 1 else lp.winCount
      winOvr := lp.winOvr || (counts && more)
      winBad := lp.winBad || (lp.winOpen && s.linkLost)
      satRun := if sat then lp.satRun + 1 else 0
      clearRun := if sat then 0 else lp.clearRun + 1
      lowRun := if low then lp.lowRun + 1 else 0
      highRun := if tv < 4000 then 0 else lp.highRun + 1
      mismatch := if mis then lp.mismatch + 1 else if sat || low then lp.mismatch else 0
      matchRun := if mis then 0 else lp.matchRun + 1
      settleLeft := lp.settleLeft - 1 }
    let s1 := ((s.modLoop u fun _ => l1).wrInt (UIO.RB.rb u) rb).wrInt (UIO.TV.tv u) tv
    let s2 := if l1.satRun = 2 && !s1.flag (UIO.STAT.compliance u) then
        s1.loopSet (UIO.STAT.compliance u) UIO.IRQRAW.compliance UIO.COMPCNT.count UIO.CNTOVF.comp
      else if l1.clearRun ≥ 10 then s1.wr (UIO.STAT.compliance u) 0 else s1
    let s3 := if l1.lowRun ≥ 10 && !s2.flag (UIO.STAT.loop_low u) then
        s2.loopSet (UIO.STAT.loop_low u) UIO.IRQRAW.loop_low UIO.LOWCNT.count UIO.CNTOVF.low
      else if l1.highRun ≥ 10 || s.rdInt (UIO.OUT.out u) = 0 then s2.wr (UIO.STAT.loop_low u) 0 else s2
    let s4 := if mis && decide (faultMs ≤ l1.mismatch) && !s3.flag (UIO.STAT.outflt u) then
        (s3.loopSet (UIO.STAT.outflt u) UIO.IRQRAW.outflt UIO.OUTFLTCNT.count UIO.CNTOVF.outflt).fault UIO.FAULT.outflt 0x0110 u
      else if l1.matchRun ≥ faultMs then s3.wr (UIO.STAT.outflt u) 0 else s3
    .next ((s4.driveLoop u).noteLoop u s.stime)

/-- LOOP_WINDOW_END (R277): the mean of the window is passed to ARITH; a window without samples has no stated mean. -/
def execLoopWindowEnd (u : Nat) (s : State) : Result :=
  let lp := s.loop u
  if !s.alive 0x18 ∨ u ≥ 8 ∨ !lp.winOpen then .next s
  else
    let (free, s0) := if lp.winCount = 0 then s.draw else (0, s)
    let s1 := s0.modLoop u fun l => { l with winOpen := false }
    let mode := s.loopMode u
    .next (s1.arithQueue { ch := 512 + u, lap := lp.winLap, stime := s.stime, kind := .loop
                           sum := if lp.winCount = 0 then signed 32 free else lp.winSum, n := max 1 lp.winCount
                           words := (List.range 16).map fun i => s.wordAt true (0x150000 + 0x40 * u + 4 * i)
                           arithCfg := s.wordAt true ARITH.CFG.addr
                           ovr := lp.winOvr, invalid := lp.winBad || s.linkLost || (s.paired && !s.holds && mode == 5) })

/-- A loop record (R277, R278): stages 6 to 8 on the mean, with the one term of R278; the comparison of R142 is exact.
(DEDUCED, notes/assumptions/37.md.) -/
def formLoop (e : ConvEntry) : Formed :=
  let f : Ref → Nat := e.ctx
  let mode := f (UIO.ENT.mode 0)
  let checked := mode == 5 && f (UIO.ENT.ne43 0) == 1
  let (p, ne43) :=
    if checked && decide (e.sum < 3600 * e.n) then (jam (36 * one56) 10000, true)
    else if checked && decide (21000 * e.n < e.sum) then (jam (21 * one56) 1000, true)
    else (jam (e.sum * one56) (e.n * 1000000), false)
  let a := e.ctx64 (UIO.ENT.a_lo 0) (UIO.ENT.a_hi 0)
  let y := (jam (p.v * a) (2 ^ f (UIO.ENT.a_shift 0)) p.sat).add (carried (e.ctx64 (UIO.ENT.b_lo 0) (UIO.ENT.b_hi 0)))
  let expCode := f (UIO.ENT.exp 0)
  let (value, sat) := packValue y expCode
  let bad := ne43 || sat
  let scale : Frac := Frac.grid (upDiv (a.natAbs * one56) (2 ^ f (UIO.ENT.a_shift 0)))
  let uc := ((⟨3 * loopSpan mode, 10000000000⟩ : Frac).mul scale).up
  if e.invalid || e.ovr then {}
  else { valid := !bad, dom := ne43, sat := sat, value := value, y := y.v, u := uc, ne43 := ne43
         u95 := if bad then 0xFFFF else u95Of [uc] (getBits e.arithCfg.toNat 16 16) expCode }

/-- The host output value of a loop channel is written (R283). -/
def State.loopSetTo (s : State) (u : Nat) (value : Int) : State :=
  let s1 := s.wrInt (UIO.SET.set_ u) value
  if s1.loopFrom u 0 then s1.loopOut u value else s1

/-- LOOP_SET_WRITE. -/
def execLoopSetWrite (req : Requester) (u : Nat) (value : Int) (s : State) : Result :=
  if u ≥ 8 then .next { s with status := Status.unmapped.code } else s.command req 0x18 fun s => s.loopSetTo u value

/-- STAGE_THERMAL (R284 row 3): the temperature of a loop stage in °C. -/
def execStageThermal (u : Nat) (celsius : Int) (s : State) : Result :=
  if !s.alive 0x18 ∨ u ≥ s.variant.loops then .next s
  else if celsius > 150 then
    .next ((((s.wr (UIO.STAT.thermal u) 1).fault UIO.FAULT.thermal 0x0112 u).driveLoop u).noteLoop u s.stime)
  else if celsius < 130 then .next (((s.wr (UIO.STAT.thermal u) 0).driveLoop u).noteLoop u s.stime)
  else .next s

/-- Whether both ends of the jacket link are restored (R286, R288). -/
def State.loopsRestored (s : State) : Bool := !s.linkLost && (s.jkt.fLink == 1 || s.jkt.fLink == 2)

/-- The fail action of a channel ends at a lap boundary after the link is restored; an alarm-driven channel keeps it until the evaluation of
that lap (R286). -/
def State.loopRestore (s : State) (u : Nat) : State :=
  if !s.jkt.loopFail.contains u then s
  else
    let wait := s.loopFrom u 2
    let s1 := { s with jkt := { s.jkt with
      loopFail := dropFrom s.jkt.loopFail u, loopWait := if wait then addTo s.jkt.loopWait u else s.jkt.loopWait } }
    if wait then s1 else s1.wr (UIO.STAT.failact u) 0

/-- A lap begins for the loop channels (R277, R286, R288): windows open, and driving begins or is restored. -/
def State.loopBoundary (s : State) : State :=
  if !s.alive 0x18 then s
  else
    let up := s.loopsRestored
    let s1 := s.each s.loopList fun st u =>
      let open_ := st.loopMode u != 0 && !st.quiesced 0x18
      let st1 := st.modLoop u fun l => { l with
        winOpen := open_, winLap := st.lapCount, winSum := 0, winCount := 0, winOvr := false, winBad := st.linkLost
        started := l.started || (up && l.sampled) }
      let st2 := if open_ then { st1 with lap := { st1.lap with awaited := st1.lap.awaited ++ [512 + u] } } else st1
      if up then st2.loopRestore u else st2
    s1.loopsFromHost.driveLoops

/-- The end of an ALM evaluation at the loop channels: alarm-driven outputs follow their contexts, and those that waited for it leave their fail
action (R283, R286). -/
def State.loopEvalEnd (s : State) : State :=
  let s1 := s.each s.jkt.loopWait fun st u => st.wr (UIO.STAT.failact u) 0
  ({ s1 with jkt := { s1.jkt with loopWait := [] } }).loopsFromAlarms.driveLoops

/-- The field end takes the fail action of every channel (R23, R286); `known` where the logic side has a part in it (R24). -/
def State.loopsFail (s : State) (known : Bool) : State :=
  if !s.alive 0x18 then s
  else
    let s1 := { s with jkt := { s.jkt with loopFail := s.loopList, loopWait := [] } }
    (if known then s1.each s1.loopList fun st u => st.wr (UIO.STAT.failact u) 1 else s1).driveLoops

/-- The logic end learns that the fail action stands (R23, R286). -/
def State.loopsFailKnown (s : State) : State :=
  if !s.alive 0x18 then s
  else s.each s.loopList fun st u => if st.loopFailing u then st.wr (UIO.STAT.failact u) 1 else st

/-- UIO off, or cleared by a reset (R288): outputs off, faults and readback forgotten, records of the lap not delivered. -/
def State.clearUio (s : State) : State :=
  { s with
    loops := []
    jkt := { s.jkt with loopFail := [], loopWait := [] }
    lap := { s.lap with awaited := s.lap.awaited.filter fun c => decide (c < 512) }
    arith := { s.arith with queue := s.arith.queue.filter fun e => e.kind != .loop } }

end Sys2Proof.Machine
end

