-- ==== Sys2Proof/Machine/Dio.lean ====
section
/-!
DEFINITION. Digital field pins and the jacket link (R295 to R325): inputs and their filters, outputs and their faults, the
field supply, and the frames that cross the isolation barrier, with both ends of the link.
-/

namespace Sys2Proof.Machine

/-! ### What the ends hold -/

/-- The pins of the variant. -/
def State.pinList (s : State) : List Nat := List.range s.variant.pins

/-- What the field end holds of a pin. -/
def State.fieldPin (s : State) (p : Nat) : FieldPin := Keyed.get {} s.jkt.pins p

/-- Changes it. -/
def State.modPin (s : State) (p : Nat) (f : FieldPin → FieldPin) : State :=
  { s with jkt := { s.jkt with pins := Keyed.put s.jkt.pins p (f (s.fieldPin p)) } }

/-- Changes what the jacket holds. -/
def State.modJkt (s : State) (f : JacketState → JacketState) : State := { s with jkt := f s.jkt }

/-- The address of word i of the configuration copy (R313): DIO.CFG, the 48 DIO entries, UIO.CFG, the 8 UIO entries. -/
def copyAddr (i : Nat) : Nat :=
  if i = 0 then DIO.CFG.addr
  else if i ≤ 384 then 0x151000 + 4 * (i - 1)
  else if i = 385 then UIO.CFG.addr
  else 0x150000 + 4 * (i - 386)

/-- How many words the copy has. -/
def copyWords : Nat := 514

/-- The CRC-32 of a copy whose word at an address is `f`. -/
def copyCrc (f : Nat → Word) : Nat := crc32 ((List.range copyWords).flatMap fun i => wordBytes (f (copyAddr i)))

/-- The head of the group a pin belongs to, or the pin itself (R303). -/
def State.pinHead (s : State) (p : Nat) : Nat :=
  ((List.range (p % 4)).map fun i => p - p % 4 + i).foldl (init := p) fun h q =>
    if s.rd (DIO.PIN.gsize q) ≠ 0 ∧ p ≤ q + s.rd (DIO.PIN.gsize q) then q else h

/-- The members of a pin's group. -/
def State.pinGroup (s : State) (p : Nat) : List Nat :=
  let h := s.pinHead p
  (List.range (s.rd (DIO.PIN.gsize h) + 1)).map (h + ·)

/-- Whether a pin is an input, or an output. -/
def State.isInput (s : State) (p : Nat) : Bool := s.rd (DIO.PIN.dir p) == 1
/-- Whether a pin is an output. -/
def State.isOutput (s : State) (p : Nat) : Bool := s.rd (DIO.PIN.dir p) == 2

/-- Whether an input's filtered state may be used at the field end (R299, R307, R308). -/
def State.fieldValid (s : State) (p : Nat) : Bool := s.isInput p && s.jkt.vstate != 2 && (s.fieldPin p).left == 0

/-- Head of a pin's group in the field end's copy (R23). -/
def State.copyHead (s : State) (p : Nat) : Nat :=
  ((List.range (p % 4)).map fun i => p - p % 4 + i).foldl (init := p) fun h q =>
    if s.copyRd (DIO.PIN.gsize q) ≠ 0 ∧ p ≤ q + s.copyRd (DIO.PIN.gsize q) then q else h

/-- VALID of every pin (R299), and since when every input is valid while VFIELD returns (R308). -/
def State.refreshValid (s : State) : State :=
  let s1 := s.each s.pinList fun st p =>
    st.putNth DIO.VALID.valid p (st.isInput p && st.alive 0x19 && !st.linkLost && !bit st.jkt.invalid p)
  let all := s1.jkt.vstate == 3 && !s1.linkLost && (s1.pinList.filter fun p => s1.isInput p).all fun p => s1.nth DIO.VALID.valid p
  s1.modJkt fun j => { j with validAt := if all then some (j.validAt.getD s1.stime) else none }

/-- What a digital input delivers to ALM, CALL and group acknowledge logic: its state and change stamp, none while it is
reported invalid (R206, R299); pins 48 to 63 are the status inputs of UIO (R282). -/
def State.dioInput (s : State) (p : Nat) : Option (Bool × Nat) :=
  if p ≥ 48 then s.loopInput p
  else if s.alive 0x19 && !s.linkLost && s.isInput p && s.nth DIO.VALID.valid p then some (s.nth DIO.STATE.state p, s.rd (DIO.STAMP.stime p)) else none

/-! ### What an output drives -/

/-- The source value of an output (R304), with the host's values as they stand in this frame. -/
def State.outSource (s : State) (p : Nat) : Bool :=
  let h := s.pinHead p
  match s.rd (DIO.PIN.src h) with
  | 0 => bit s.jkt.outset h
  | 1 => s.alarm.driven.any fun e => bit e.2 h
  | 2 =>
    ((List.range 32).any fun j => bit (s.rd CALL.CPDRIVE.cp) j && s.rd (CALL.CP.out_pin j) == h && s.rd (CALL.CP.kind j) != 1) ||
      (s.rd CALL.CFG.officer_pin == h && s.rd CALL.STATE.stage == 3) ||
      (s.rd CALL.PERS2.prewarn_pin == h && decide (2 ≤ s.rd CALL.STATE.pers))
  | _ => bit s.jkt.ctxOut h

/-- Outputs driven by a context follow it at the end of an ALM evaluation; with F or OOS they take the fail action (R304). A status context
drives nothing (R230). -/
def State.outsFromContexts (s : State) : State :=
  s.each (s.pinList.filter fun p => s.isOutput p && s.rd (DIO.PIN.src p) == 3) fun st p =>
    let k := st.rd (DIO.PIN.ref p)
    let layers := st.rd (ALM.CTXA.layers k)
    let v := if st.rd (ALM.CTXA.category k) = 4 then false
      else if bit layers 0 || bit layers 3 then
        (match st.rd (DIO.PIN.fail_act p) with | 0 => bit st.jkt.ctxOut p | 1 => true | _ => false)
      else st.flag (ALM.CTXA.q k)
    st.modJkt fun j => { j with ctxOut := putBits j.ctxOut p 1 (ofBool v) }

/-- The commanded state that the logic end sends for an output: rows 7, 8, 10 and 11 of R305, and the states that the field
end was applying while outputs are restored (R316). -/
def State.commandOf (s : State) (p : Nat) : Bool :=
  let h := s.pinHead p
  if !s.isOutput p then false
  else if s.paired && !s.holds && !s.pair.lateRelease && !s.flag (DIO.PIN.pol h) then false
  else if 3 ≤ s.level && !s.flag (DIO.PIN.essential h) then false
  else if s.quiesced 0x19 then bit s.jkt.commanded p
  else if (s.jkt.restoring || !s.jkt.follow) && s.rd (DIO.PIN.src h) ≠ 0 then (s.fieldPin p).driven
  else s.outSource p ^^ s.flag (DIO.PIN.invert h)

/-- The commanded states of D0 to D47 as a number. -/
def State.commands (s : State) : Nat := bitMask (s.pinList.filter fun p => s.commandOf p)

/-- The state an output is actually driven to (R305), at the field end: by its configuration copy where it acts by itself (R23, R315), and off
until frames of a link that is up have told it to follow (R319).
(DEDUCED, notes/assumptions/38.md.) -/
def State.drivenOf (s : State) (p : Nat) : Bool :=
  let h := s.copyHead p
  let f := s.fieldPin p
  let last := f.driven
  if !s.alive 0x19 || s.copyRd (DIO.PIN.dir p) != 2 then false
  else if f.trip ≠ 0 then false
  else if s.jkt.vstate = 2 then last && s.jkt.toSwitch.contains h
  else if s.jkt.failact then
    (if s.jkt.fPair && s.copyRd (DIO.PIN.pol h) == 0 then false
    else match s.copyRd (DIO.PIN.fail_act h) with | 0 => last | 1 => true | _ => false)
  else if !s.jkt.ready then false
  else if s.jkt.fHold = 2 then last && s.copyRd (DIO.PIN.essential h) == 1
  else if s.jkt.fHold = 1 then last
  else if s.jkt.vstate = 3 then false
  else bit s.jkt.commanded p

/-- The pair's expected state of an output (R310), else the node's own. -/
def State.expectedOf (s : State) (p : Nat) : Bool :=
  let own := bit s.jkt.commanded p
  if !s.paired then own
  else if s.flag (DIO.PIN.pol (s.pinHead p)) then own || bit s.pair.dout p
  else if s.holds then own else bit s.pair.dout p

/-- Every output is driven as R305 decides. A pin commanded off forgets SHORT, and OPEN of an on-state check; one commanded on begins its
wire-break tests anew; one expected on forgets EXTDRV (R301, R302).
(DEDUCED, notes/assumptions/38.md.) -/
def State.applyOutputs (s : State) : State :=
  s.each s.pinList fun st p =>
    let v := st.drivenOf p
    let on := st.isOutput p && bit st.jkt.commanded p
    let off := st.isOutput p && !bit st.jkt.commanded p
    let forget := st.isOutput p && st.expectedOf p && (st.fieldPin p).above
    let st1 := st.modPin p fun f => { f with
      driven := v, short := f.short && !off, trip := if off && f.trip == 1 then 0 else f.trip
      open_ := f.open_ && !off, tests := if on then 0 else f.tests, above := f.above && !forget }
    (st1.putNth DIO.DRIVE.drive p v).when forget fun t => t.putNth DIO.EXTDRV.flag (t.pinHead p) false

/-- Whether the partner drives a pin on: the outputs of a pair are wired together (R309, R310). -/
def State.partnerDrives (s : State) (p : Nat) : Bool :=
  s.paired && bit s.pair.dout p && (s.flag (DIO.PIN.pol (s.pinHead p)) || !s.holds)

/-- What an output's pin reads (R302): as the node or its partner drives it, unless a flag says that something else holds it. -/
def State.readback (s : State) (p : Nat) : Bool :=
  if s.nth DIO.DISAGREE.flag (s.pinHead p) then !s.expectedOf p
  else (s.fieldPin p).driven || (s.fieldPin p).above || s.partnerDrives p

/-- A flag register takes a flag; one that sets raises its interrupt. -/
def State.flagTo (s : State) (r : Nat → Ref) (p : Nat) (v : Bool) (irq : Ref) : State :=
  let s1 := s.putNth r p v
  if v && !s.nth r p then s1.irq irq else s1

/-- The status of a pin as the field end reports it (R313 items 8 to 13). -/
def State.reportPin (s : State) (p : Nat) : State :=
  let f := s.fieldPin p
  let s1 := ((s.flagTo DIO.SHORT.flag p f.short DIO.IRQRAW.short).flagTo DIO.THERM.flag p f.therm DIO.IRQRAW.thermal).flagTo
    DIO.OPEN.flag p (f.open_ || f.openOff) DIO.IRQRAW.open_
  let s2 := if f.short && !s.nth DIO.SHORT.flag p then s1.fault DIO.FAULT.short 0x0110 p else s1
  let s3 := if f.therm && !s.nth DIO.THERM.flag p then s2.fault DIO.FAULT.thermal 0x0114 p else s2
  s3.modJkt fun j => { j with invalid := putBits j.invalid p 1 (ofBool (!s.fieldValid p)) }

/-- A change at the field end is reported while the link carries frames. -/
def State.tell (s : State) (p : Nat) : State := if s.linkLost then s else s.reportPin p

/-! ### Commands of the field end -/

/-- A change of an input is stamped and queued (R298, R318). -/
def State.queueChange (s : State) (p : Nat) (v : Bool) : State :=
  s.modJkt fun j =>
    if j.events.length ≥ 64 then { j with lost := j.lost + 1, lateNext := addTo j.lateNext p }
    else { j with
      events := j.events ++ [⟨p, v, !s.fieldValid p, j.time, j.lateNext.contains p⟩], lateNext := dropFrom j.lateNext p }

/-- INPUT_SAMPLE (R298, R300): the comparator output of an input at one sample of its filter. The field end filters the inputs of its
configuration copy (R319).
(DEDUCED, notes/assumptions/38.md.) -/
def execInputSample (pin : Nat) (r : Bool) (s : State) : Result :=
  let thr := s.copyRd (DIO.PIN.thr pin)
  if !s.domainOn .dio ∨ s.rst.held.contains 0x19 ∨ pin ≥ s.variant.pins ∨ s.copyRd (DIO.PIN.dir pin) ≠ 1 ∨ thr = 0 ∨ s.jkt.vstate = 2 then .next s
  else
    let f := s.fieldPin pin
    let lo := s.copyRd (DIO.PIN.lo pin)
    let c := if r then min (f.count + 1) thr else f.count - 1
    let risen := f.s || c == thr
    let v := risen && !decide (c ≤ lo)
    let s1 := s.modPin pin fun f => { f with count := c, s := v, left := f.left - 1 }
    let s2 := if v != f.s then s1.queueChange pin v else s1
    let wake := v != f.s && s.jkt.fHold != 0 && s.copyRd (DIO.PIN.wake pin) == 1
    .next (if wake then s2.modJkt fun j => { j with wakeLine := true } else s2)

/-- OUTPUT_TRIP (R301, R303): the current limit acted for 100 µs, or the switch passed 165 °C. -/
def execOutputTrip (pin : Nat) (thermal : Bool) (s : State) : Result :=
  if !s.alive 0x19 ∨ pin ≥ s.variant.pins ∨ !s.isOutput pin ∨ !(s.fieldPin pin).driven then .next s
  else
    let s1 := s.modPin pin fun f => { f with short := f.short || !thermal, therm := f.therm || thermal }
    let s2 := s1.each (s1.pinGroup pin) fun st q => st.modPin q fun f => { f with trip := if thermal then 2 else max 1 f.trip }
    .next (s2.applyOutputs.tell pin)

/-- OUTPUT_RESTART (R301, R303): retry_ms have passed, or the switch fell below 145 °C.
(DEDUCED, notes/assumptions/38.md.) -/
def execOutputRestart (pin : Nat) (s : State) : Result :=
  if !s.alive 0x19 ∨ pin ≥ s.variant.pins ∨ (s.fieldPin pin).trip = 0 then .next s
  else
    let s1 := s.each (s.pinGroup pin) fun st q => st.modPin q fun f => { f with trip := 0, therm := false }
    let s2 := s1.stick DIO.TRIPCNT.count DIO.CNTOVF.trip (some DIO.IRQRAW.cnt_event)
    .next ((s2.applyOutputs).each (s2.pinGroup pin) fun st q => st.tell q)

/-- WIRE_BREAK_TEST (R302): the voltage of an off output at the end of its test, in mV. -/
def execWireBreakTest (pin millivolts : Nat) (s : State) : Result :=
  if !s.alive 0x19 ∨ pin ≥ s.variant.pins ∨ !s.isOutput pin ∨ s.copyRd (DIO.PIN.wb_en (s.pinHead pin)) = 0 ∨ s.expectedOf pin ∨ !s.holds then .next s
  else if millivolts > 3000 then
    .next ((s.modPin pin fun f => { f with tests := f.tests + 1, openOff := f.openOff || decide (1 ≤ f.tests) }).tell pin)
  else .next ((s.modPin pin fun f => { f with tests := 0, openOff := false }).tell pin)

/-- OPEN_LOAD_CONFIRM (R302): an output commanded on has carried less than ol_ma for 10 ms. -/
def execOpenLoadConfirm (pin : Nat) (s : State) : Result :=
  if !s.alive 0x19 ∨ pin ≥ s.variant.pins ∨ !s.isOutput pin ∨ !bit s.jkt.commanded pin ∨ s.copyRd (DIO.PIN.ol_en (s.pinHead pin)) = 0 then .next s
  else .next ((s.modPin pin fun f => { f with open_ := true }).tell pin)

/-- EXTDRV_CONFIRM (R302): a pin expected off has stood above 10.0 V for ext_ms; it is reported on the head (R303),
and the pin's own status says that it is above (R313).
(DEDUCED, notes/assumptions/39.md.) -/
def execExtdrvConfirm (pin : Nat) (s : State) : Result :=
  let h := s.pinHead pin
  if !s.alive 0x19 ∨ pin ≥ s.variant.pins ∨ !s.isOutput pin ∨ s.expectedOf pin ∨ s.linkLost ∨ s.nth DIO.EXTDRV.flag h then .next s
  else
    let s1 := (s.modPin pin fun f => { f with above := true }).flagTo DIO.EXTDRV.flag h true DIO.IRQRAW.extdrv
    .next ((s1.stick DIO.EXTCNT.count DIO.CNTOVF.ext (some DIO.IRQRAW.cnt_ovf)).fault DIO.FAULT.extdrv 0x0111 h)

/-- DISAGREE_CONFIRM (R302, R342): a pin state has differed from the pair's expected state for ext_ms. -/
def execDisagreeConfirm (pin : Nat) (s : State) : Result :=
  let h := s.pinHead pin
  if !s.alive 0x19 ∨ pin ≥ s.variant.pins ∨ !s.isOutput pin ∨ !s.paired ∨ !s.flag PAIR.STAT.link ∨ s.linkLost ∨
      s.nth DIO.SHORT.flag pin ∨ s.nth DIO.THERM.flag pin ∨ s.nth DIO.EXTDRV.flag h ∨ s.nth DIO.DISAGREE.flag h then .next s
  else
    .next (((s.flagTo DIO.DISAGREE.flag h true DIO.IRQRAW.disagree).stick DIO.DISCNT.count DIO.CNTOVF.dis (some DIO.IRQRAW.cnt_ovf)).fault
      DIO.FAULT.disagree 0x0113 h)

/-- OUTPUT_FLAG_CLEAR (R301, R302): the clearing condition of a flag has held (0 OPEN, 1 EXTDRV, 2 DISAGREE, 3 SHORT). -/
def execOutputFlagClear (pin flag : Nat) (s : State) : Result :=
  let h := s.pinHead pin
  if !s.alive 0x19 ∨ pin ≥ s.variant.pins then .next s
  else
    match flag with
    | 0 => .next ((s.modPin pin fun f => { f with open_ := false }).tell pin)
    | 1 => .next ((s.modPin pin fun f => { f with above := false }).putNth DIO.EXTDRV.flag h false)
    | 2 => .next (s.putNth DIO.DISAGREE.flag h false)
    | 3 => if (s.fieldPin pin).driven then .next ((s.modPin pin fun f => { f with short := false }).tell pin) else .next s
    | _ => .next s

/-- A write of OUTSET0 or OUTSET1 (R304): bits of D32 to D47 stand in [15:0] of register 1. -/
def execOutsetWrite (req : Requester) (index : Nat) (value : Word) (s : State) : Result :=
  if index > 1 then .next { s with status := Status.unmapped.code }
  else s.command req 0x19 fun s => s.wr (DIO.OUTSET.set_ index) (if index = 0 then value.toNat else value.toNat % 65536)

/-! ### The field supply -/

/-- VFIELD and its mean are reported (R313 item 14). -/
def State.reportSupply (s : State) (mean : Nat) : State := (s.wr DIO.VFIELD.state s.jkt.vstate).wr DIO.VFIELD.mv mean

/-- The mean of the last measurements. -/
def meanOf (l : List Nat) : Nat := if l.isEmpty then 0 else l.sum / l.length

/-- The outputs to switch off one per jacket frame on entering low (R307): heads only, since a group goes as one. -/
def State.switchOrder (s : State) : List Nat :=
  let heads := (s.pinList.filter fun p => s.copyRd (DIO.PIN.dir p) == 2 && s.copyHead p == p).reverse
  (heads.filter fun p => s.copyRd (DIO.PIN.essential p) == 0) ++ heads.filter fun p => s.copyRd (DIO.PIN.essential p) == 1

/-- VFIELD_MEASURE (R306 to R308): a measurement in mV and the temperature of the field die in 0.1 °C.
(DESIGN CHOICE, notes/assumptions/62.md.) -/
def execVfieldMeasure (millivolts : Nat) (die : Int) (s : State) : Result :=
  if !s.domainOn .dio then .next s
  else
    let l := millivolts :: s.jkt.volts.take 3
    let m := meanOf l
    let old := s.jkt.vstate
    let new := match old with
      | 2 => if 17300 ≤ m then 3 else 2
      | 3 => if m < 16800 then 2 else 3
      | 1 => if m < 16800 then 2 else if 18500 ≤ m then 0 else 1
      | _ => if m < 16800 then 2 else if m < 18000 then 1 else 0
    let s1 := s.modJkt fun j => { j with volts := l, temp := die, vstate := new }
    let s2 := if new = 1 && old = 0 then s1.irq DIO.IRQRAW.vfield_warn else s1
    let s3 :=
      if new = 2 && old ≠ 2 then
        let a := ((s2.irq DIO.IRQRAW.vfield_low).fault DIO.FAULT.vfield 0x0112).modJkt fun j => { j with
          toSwitch := s.switchOrder, loopFree := j.loopFree || j.fHold != 0 }
        let b := a.each a.pinList fun st p => st.modPin p fun f => { f with count := 0, s := false }
        (b.each (b.pinList.filter fun p => b.isInput p) fun st p => st.tell p).refreshValid.driveLoops
      else if new = 3 && old = 2 then
        s2.each (s2.pinList.filter fun p => s2.copyRd (DIO.PIN.dir p) == 1) fun st p =>
          st.modPin p fun f => { f with count := 0, s := false, left := st.copyRd (DIO.PIN.thr p) }
      else s2
    .next (if s3.linkLost then s3 else s3.reportSupply m)

/-- The end of an ALM evaluation that started at an STIME, at the pins: context outputs, the end of a restoration (R316), and of a return
of VFIELD, where every input was valid when the evaluation started (R308). -/
def State.dioEvalEnd (s : State) (start : Nat) : State :=
  let s1 := s.outsFromContexts.modJkt fun j => { j with restoring := false }
  let ready := s1.jkt.vstate == 3 && match s1.jkt.validAt with
    | some t => decide (t ≤ start)
    | none => false
  if ready then
    let s2 := (s1.modJkt fun j => { j with vstate := 0 }).irq DIO.IRQRAW.vfield_ok
    s2.reportSupply (meanOf s2.jkt.volts)
  else s1

/-! ### Frames -/

/-- The hold that the logic end announces (R312, R317, R319). -/
def State.holdNow (s : State) : Nat := if s.quiesced 0x1A then 1 else s.jkt.hold

/-- 24 bytes of a frame with its CRC (R312).
(DEDUCED, notes/assumptions/38.md.) -/
def jacketFrame (seq ack item flags pins : Nat) (payload tail : List Byte) : List Byte :=
  let b := bytesLE 1 seq ++ bytesLE 1 ack ++ bytesLE 1 item ++ bytesLE 1 flags ++ bytesLE 6 pins ++ (payload ++ List.replicate 6 0).take 6 ++
    tail ++ bytesLE 2 0
  b ++ bytesLE 2 (crc16 b)

/-- A frame as received: the frame sent, with what the link did to it. -/
def disturbed (frame noise : List Byte) : List Byte :=
  (List.range frame.length).map fun i => frame.getD i 0 ^^^ noise.getD i 0

/-- Whether a frame is good (R314). -/
def frameGood (f : List Byte) : Bool := f.length == 24 && ofBytesLE ((f.drop 22).take 2) == crc16 (f.take 22)

/-- The end of a pass of the configuration words: the newest echo, differing for two passes in a row, is a fault (R313, R324). A pass in
which no echo came is none that differed.
(DEDUCED, notes/assumptions/38.md.) -/
def State.copyPassEnd (s : State) : State :=
  let bad := if s.jkt.echo || !s.jkt.echoed then 0 else s.jkt.echoBad + 1
  let s1 := s.modJkt fun j => { j with echoBad := bad, echoed := false }
  if 2 ≤ bad then s1.fault JKT.FAULT.cfgecho 0x0111 else s1

/-- The downstream payload of a rotation item (R313), and the configuration word after it. -/
def State.downItem (s : State) (item : Nat) : List Byte × State :=
  if item < 8 then (bytesLE 2 (s.rd (UIO.STAT.code item)), s)
  else
    match s.jkt.cfgChanged with
    | i :: rest => (bytesLE 2 i ++ wordBytes (s.wordAt true (copyAddr i)), s.modJkt fun j => { j with cfgChanged := rest })
    | [] =>
      let i := s.jkt.cfgNext
      let s1 := s.modJkt fun j => { j with cfgNext := (i + 1) % copyWords }
      (bytesLE 2 i ++ wordBytes (s.wordAt true (copyAddr i)), if i + 1 = copyWords then s1.copyPassEnd else s1)

/-- JACKET_DOWNSTREAM_FRAME (R311 to R314, R316): the logic end sends the frame of a slot. -/
def execJacketDownstreamFrame (s : State) : Result :=
  if !s.alive 0x1A then .next s
  else
    let j := s.jkt
    let repeat_ := j.sent && j.heard.isSome && j.acked != j.seq
    let ((item, payload), s1) :=
      if repeat_ then (j.last, s.stick JKT.RETRYCNT.count JKT.CNTOVF.retry (some JKT.IRQRAW.cnt_event))
      else let (b, s1) := s.downItem j.item; ((j.item, b), s1.modJkt fun j => { j with item := (j.item + 1) % 16 })
    let seq := if j.sent then (j.seq + 1) % 256 else 0
    let hold := s.holdNow
    let flags := hold + 4 * ofBool j.follow + 8 * ofBool s.paired
    let s2 := ({ s1 with pair := { s1.pair with lateRelease := false } }.modJkt fun j => { j with
      wire := jacketFrame seq (j.heard.getD 0) item flags s.commands payload [0, 0, 0, 0]
      seq := seq, sent := true, last := (item, payload), outset := s.rd (DIO.OUTSET.set_ 0) + 2 ^ 32 * s.rd (DIO.OUTSET.set_ 1) }).wr
      JKT.STAT.hold hold
    .next (if item = 15 then s2.wr JKT.CFGCRC.crc (copyCrc (s2.wordAt true)) else s2)

/-- The field end enters fault: the fail actions stand (R23, R286, R315). -/
def State.fieldFault (s : State) : State := ((s.modJkt fun j => { j with fLink := 3, failact := true }).applyOutputs).loopsFail false

/-- A frame slot passes at the field end: the next output goes off while VFIELD is low (R307). -/
def State.fieldSlot (s : State) : State :=
  if s.jkt.toSwitch.isEmpty then s else (s.modJkt fun j => { j with toSwitch := j.toSwitch.drop 1 }).applyOutputs

/-- An error at the field end (R314, R315): a missing frame does not count toward fault while hold is announced (R317).
(DEDUCED, notes/assumptions/38.md.) -/
def State.fieldError (s : State) (missing : Bool) : State :=
  let s0 := (if s.alive 0x1A then s.stick JKT.ERRCNT.count JKT.CNTOVF.err (some JKT.IRQRAW.cnt_ovf) else s).modJkt fun j => { j with
    fErrCount := (j.fErrCount + 1) % 65536, fGood := 0 }
  let n := s.jkt.fErrors + 1
  if missing && s.jkt.fHold != 0 then s0.fieldSlot
  else
    let s1 := (s0.modJkt fun j => { j with fErrors := n }).fieldSlot
    if n ≥ 40 ∧ (s.jkt.fLink = 1 ∨ s.jkt.fLink = 2) then s1.fieldFault
    else if n ≥ 3 ∧ s.jkt.fLink = 1 then s1.modJkt fun j => { j with fLink := 2 }
    else s1

/-- The state of an end's link after one more good frame (R315): the count of good frames and the state. -/
def linkAfterGood (link good : Nat) (echo : Bool) : Nat × Nat :=
  if link = 0 ∨ link = 3 then
    let g := if echo then good + 1 else 0
    if g ≥ 16 then (0, 1) else (g, link)
  else if link = 2 then (if good + 1 ≥ 16 then (0, 1) else (good + 1, 2))
  else (good + 1, link)

/-- JACKET_FRAME_AT_FIELD (R312 to R316): the field end receives the newest downstream frame. -/
def execJacketFrameAtField (noise : List Byte) (s : State) : Result :=
  if !s.alive 0x19 ∨ s.jkt.wire.isEmpty then .next s
  else
    let f := disturbed s.jkt.wire noise
    if !frameGood f then .next (s.fieldError false)
    else
      let num : Nat → Nat → Nat := fun off n => ofBytesLE ((f.drop off).take n)
      let item := num 2 1
      let flags := num 3 1
      let (good, link) := linkAfterGood s.jkt.fLink s.jkt.fGood s.jkt.echo
      let follow := bit flags 2
      let s1 := s.modJkt fun j => { j with
        fErrors := 0, fGood := good, fLink := link, fHeard := some (num 0 1), fAcked := num 1 1
        fHold := getBits flags 0 2, fFollow := follow, fPair := bit flags 3, commanded := num 4 6
        failact := j.failact && !(follow && (link == 1 || link == 2))
        ready := j.ready || (follow && (link == 1 || link == 2))
        loopFree := j.loopFree && getBits flags 0 2 != 0
        config := if 8 ≤ item ∧ item ≤ 15 ∧ num 10 2 < copyWords then
            Sparse.set resetWord j.config (copyAddr (num 10 2)) (BitVec.ofNat 32 (num 12 4)) else j.config
        toSwitch := j.toSwitch.drop 1 }
      .next (s1.applyOutputs).driveLoops

/-- The upstream payload of a rotation item (R313). Bit i of `limits` says that switch i of the item limits its current at this instant, which
no command tells.
(DESIGN CHOICE, notes/assumptions/79.md.) -/
def State.upItem (s : State) (item limits : Nat) : List Byte :=
  if item < 8 then
    bytesLE 3 (unsigned 24 (s.rdInt (UIO.RB.rb item))) ++ bytesLE 2 (unsigned 16 (s.rdInt (UIO.TV.tv item))) ++
      bytesLE 1 (ofBool (s.loop item).saturated + 2 * ofBool (s.flag (UIO.STAT.thermal item)) + 16 * ((s.loop item).samples % 16))
  else if item ≤ 13 then
    let bits := (List.range 8).flatMap fun i =>
      let f := s.fieldPin (8 * (item - 8) + i)
      [f.trip != 0, f.therm, f.open_ || f.openOff, f.above && !f.driven, f.driven && bit limits i, !s.fieldValid (8 * (item - 8) + i)]
    bytesLE 6 (bitMask ((List.range 48).filter fun i => bits.getD i false))
  else if item = 14 then bytesLE 2 (meanOf s.jkt.volts) ++ bytesLE 2 (unsigned 16 s.jkt.temp) ++ bytesLE 2 s.jkt.fErrCount
  else bytesLE 4 (copyCrc (Sparse.get resetWord s.jkt.config)) ++ [0, 0]

/-- The field end forms its next frame (R311 to R314); a repeated item counts in RETRYCNT.
(DEDUCED, notes/assumptions/38.md.) -/
def State.upFrame (s : State) : List Byte × State :=
  let j := s.jkt
  let repeat_ := j.fSent && j.fHeard.isSome && j.fAcked != j.fSeq
  let seq := if j.fSent then (j.fSeq + 1) % 256 else 0
  let event := if seq % 2 = 1 then j.events.head? else none
  let status := !repeat_ && event.isNone && decide (8 ≤ j.fItem) && decide (j.fItem ≤ 13)
  let (limits, s1) := if status then s.draw else (0, s)
  let ((item, payload), j1) :=
    if repeat_ then (j.fLast, j)
    else
      match event with
      | some e => ((16, bytesLE 1 (e.pin + 64 * ofBool e.state + 128 * ofBool e.invalid) ++ bytesLE 4 e.time ++ [0]), { j with
          events := j.events.drop 1, late := if e.late then addTo j.late e.pin else j.late })
      | none => ((j.fItem, s.upItem j.fItem limits), { j with fItem := (j.fItem + 1) % 16 })
  let failing := j.failact || !j.loopFail.isEmpty || !j.loopWait.isEmpty
  let flags := ofBool (j.vstate == 1) + 2 * ofBool (j.vstate == 2) + 4 * ofBool failing + 8 * ofBool (j.fHold != 0) +
    16 * ofBool (j.fLink == 2) + 32 * ofBool (j.lost != 0)
  let pins := bitMask (s.pinList.filter fun p => if s.isInput p then (s.fieldPin p).s else s.isOutput p && s.readback p)
  let s2 := { s1 with jkt := { j1 with fSeq := seq, fSent := true, fLast := (item, payload) } }
  (jacketFrame seq (j.fHeard.getD 0) item flags pins payload (bytesLE 4 j.time),
   if repeat_ && s.alive 0x1A then s2.stick JKT.RETRYCNT.count JKT.CNTOVF.retry (some JKT.IRQRAW.cnt_event) else s2)

/-- The logic end enters fault (R315); the windows that run have seen it (R278). -/
def State.linkFault (s : State) : State :=
  let s1 := ((s.wr JKT.STAT.link 3).irq JKT.IRQRAW.fault).fault JKT.FAULT.link 0x0110
  let s2 := (s1.stick JKT.FAULTCNT.count JKT.CNTOVF.fault (some JKT.IRQRAW.cnt_ovf)).modJkt fun j => { j with follow := false, good := 0 }
  let s3 := s2.each s2.loopList fun st u => st.modLoop u fun l => { l with winBad := l.winBad || l.winOpen }
  (s3.refreshValid).showScore

/-- An error at the logic end (R314, R315). -/
def State.logicError (s : State) : State :=
  let n := min 255 (s.rd JKT.STAT.consec + 1)
  let s1 := ((s.wr JKT.STAT.consec n).stick JKT.ERRCNT.count JKT.CNTOVF.err (some JKT.IRQRAW.cnt_ovf)).modJkt fun j => { j with good := 0 }
  let link := s.rd JKT.STAT.link
  if n ≥ 40 ∧ (link = 1 ∨ link = 2 ∨ link = 4) then s1.linkFault
  else if n = 3 ∧ (link = 1 ∨ link = 4) then (s1.wr JKT.STAT.link 2).irq JKT.IRQRAW.degraded
  else s1

/-- A change event is delivered (R313, R318): its field time becomes STIME; one too old is dropped, and lost (R324). -/
def State.deliverEvent (s : State) (payload : List Byte) (fieldNow : Nat) : State :=
  let b := ofBytesLE (payload.take 1)
  let pin := b % 64
  let age := (fieldNow + 2 ^ 32 - ofBytesLE ((payload.drop 1).take 4)) % 2 ^ 32
  if age ≥ 2 ^ 31 then
    ((s.irq JKT.IRQRAW.evt_ovf).stick JKT.LATECNT.count JKT.CNTOVF.late (some JKT.IRQRAW.cnt_ovf)).modJkt fun j => { j with late := addTo j.late pin }
  else
    let late := s.jkt.late.contains pin
    let s1 := (s.wr (DIO.STAMP.stime pin) (if late then s.stime else s.stime - age)).modJkt fun j => { j with
      late := dropFrom j.late pin, invalid := putBits j.invalid pin 1 (ofBool (bit b 7)) }
    s1.irq DIO.IRQRAW.in_change

/-- The logic end learns of events that found the queue full: each counts (R318).
(DEDUCED, notes/assumptions/38.md.) -/
def State.eventsLost (s : State) : State :=
  let s1 := s.each (List.range s.jkt.lost) fun st _ => st.stick JKT.LATECNT.count JKT.CNTOVF.late (some JKT.IRQRAW.cnt_ovf)
  ((s1.irq JKT.IRQRAW.evt_ovf).fault JKT.FAULT.evtovf 0x0112).modJkt fun j => { j with lost := 0 }

/-- A number in a frame. -/
def frameNum (f : List Byte) (off n : Nat) : Nat := ofBytesLE ((f.drop off).take n)

/-- The pins that a status item reports (R313). -/
def itemPins (item : Nat) : List Nat := if 8 ≤ item ∧ item ≤ 13 then (List.range 8).map fun i => 8 * (item - 8) + i else []

/-- What every good upstream frame tells of the link itself, and which inputs its field end holds invalid, all of them while VFIELD is
low (R299, R312, R313). -/
def State.takeLink (s : State) (f : List Byte) : State :=
  let item := frameNum f 2 1
  let s1 := ((s.wr JKT.FTIME.us (frameNum f 16 4)).wr JKT.STAT.fdegraded (ofBool (bit (frameNum f 3 1) 4))).modJkt fun j => { j with
    invalid := if bit (frameNum f 3 1) 1 then 281474976710655
      else (itemPins item).foldl (fun v p => putBits v p 1 (ofBool (!s.fieldValid p))) j.invalid }
  if item = 14 then s1.wr JKT.FERR.count (frameNum f 14 2)
  else if item = 15 then
    let crc := frameNum f 10 4
    let same := crc == s1.rd JKT.CFGCRC.crc
    let s2 := (s1.wr JKT.ECHOCRC.crc crc).modJkt fun j => { j with echo := same, echoed := true }
    if same then s2 else s2.irq JKT.IRQRAW.cfg_mismatch
  else s1

/-- The logic end takes the content of a good upstream frame of a link that is up, after the change events that waited for it (R23, R300,
R312, R313, R318). -/
def State.takeUp (s : State) (f : List Byte) : State :=
  let item := frameNum f 2 1
  let flags := frameNum f 3 1
  let payload := (f.drop 10).take 6
  let s1 := (s.each s.pinList fun st p => st.putNth DIO.STATE.state p (bit (frameNum f 4 6) p)).put JKT.STAT.failact (bit flags 2)
  let s2 := if bit flags 2 && !s.flag JKT.STAT.failact && s.alive 0x18 then
      ((s1.irq UIO.IRQRAW.failact).fault UIO.FAULT.jkt 0x0111).loopsFailKnown else s1
  let s3 := if bit flags 5 then s2.eventsLost else s2
  let events := s.jkt.early ++ if item = 16 then [payload] else []
  let s4 := (s3.modJkt fun j => { j with early := [] }).each events fun st b => st.deliverEvent b (frameNum f 16 4)
  if item = 14 then s4.reportSupply (frameNum f 10 2) else s4.each (itemPins item) State.reportPin

/-- A change event that comes while the link is not up waits for it (R300). -/
def State.keepEvent (s : State) (f : List Byte) : State :=
  if frameNum f 2 1 = 16 then s.modJkt fun j => { j with early := j.early ++ [(f.drop 10).take 6] } else s

/-- JACKET_UPSTREAM_FRAME (R312 to R318): the field end sends the frame of a slot and the logic end receives it. What it tells of pins and
loop channels counts once the link is up (R23, R299, R300). -/
def execJacketUpstreamFrame (noise : List Byte) (s : State) : Result :=
  if !s.alive 0x1A ∨ !s.alive 0x19 then .next s
  else
    let (sent, s1) := s.upFrame
    let f := disturbed sent noise
    if !frameGood f then .next s1.logicError
    else
      let link := s.rd JKT.STAT.link
      let l := if link = 4 then 1 else link
      let (good, after) := linkAfterGood l s.jkt.good s.jkt.echo
      let up := (l == 0 || l == 3) && after == 1
      let s2 := ((s1.wr JKT.STAT.consec 0).modJkt fun j => { j with
        good := good, heard := some (ofBytesLE (f.take 1)), acked := ofBytesLE ((f.drop 1).take 1) }).wr JKT.STAT.link
        (if after = 1 ∧ !s.jkt.follow then 4 else after)
      let s3 := (if up then s2.irq JKT.IRQRAW.up else s2).takeLink f
      let s4 := if after = 1 ∨ after = 2 then s3.takeUp f else s3.keepEvent f
      .next (s4.refreshValid.when (after != l) State.showScore)

/-- JACKET_FRAME_MISSING (R311, R314, R317): at the field end, else at the logic end. -/
def execJacketFrameMissing (atField : Bool) (s : State) : Result :=
  if atField then (if s.alive 0x19 then .next (s.fieldError true) else .next s)
  else if s.alive 0x1A then .next s.logicError else .next s

/-- A lap boundary with the link up ends the hold that the power manager asked for (R316, R317). At the first one after the link is up, follow is
sent, and outputs are restored. -/
def State.jacketBoundary (s0 : State) : State :=
  let s := if s0.linkLost then s0 else s0.modJkt fun j => { j with hold := 0 }
  if s.alive 0x1A && s.rd JKT.STAT.link == 4 then
    ((s.wr JKT.STAT.link 1).irq JKT.IRQRAW.restored).modJkt fun j => { j with follow := true, restoring := true }
  else s

/-- A commit of DIO or UIO: the words that changed are sent first (R313), and VALID follows dir (R299). -/
def State.copyChanged (s : State) (old : WordMap) : State :=
  (s.modJkt fun j => { j with
    cfgChanged := j.cfgChanged ++ (List.range copyWords).filter fun i =>
      Sparse.get resetWord old (copyAddr i) != s.wordAt true (copyAddr i) && !j.cfgChanged.contains i }).refreshValid

/-- The link starts down at the field end: outputs off, inputs invalid (R319). -/
def State.fieldDown (s : State) : State :=
  s.modJkt fun j => { j with
    fLink := 0, fErrors := 0, fGood := 0, fHeard := none, fHold := 0, fFollow := false, commanded := 0, failact := false, ready := false
    loopFree := false, toSwitch := [], invalid := 281474976710655, validAt := none }

/-- DIO off or reset: its pins start anew, and the link starts down (R19, R298, R319). -/
def State.clearDio (s : State) : State :=
  ((s.fieldDown).modJkt fun j => { j with
    pins := [], volts := [], vstate := 0, wakeLine := false, echo := false, outset := 0, ctxOut := 0, follow := false, good := 0
    late := [], early := [] }).wr JKT.STAT.link 0

/-- The field end of the jacket in its reset state, by a full, node or DIO reset (R19) or the loss of its power. -/
def State.clearField (s : State) : State :=
  s.clearDio.modJkt fun j => { j with
    time := 0, fSeq := 0, fAcked := 0, fSent := false, fLast := (17, []), fItem := 0, fPair := false, config := [], events := [], lost := 0, lateNext := [], temp := 0
    fErrCount := 0, loopFail := [], loopWait := [] }

/-- The logic end of the jacket is reset, or off: the link starts down, and no hold is announced but the one of a save sequence that runs (R19,
R524); after a reset outputs are off and inputs invalid (R319). -/
def State.clearJkt (s : State) (power : Bool) : State :=
  let s1 := (s.wr JKT.STAT.link 0).modJkt fun j => { j with
    wire := [], seq := 0, sent := false, heard := none, acked := 0, last := (17, []), item := 0, good := 0, echo := false, echoed := false, echoBad := 0
    follow := false, restoring := false, cfgNext := 0, cfgChanged := [], late := [], early := [], invalid := 281474976710655, validAt := none
    hold := if power || s.flag PWR.STAT.saving then j.hold else 0 }
  ((if power then s1 else (s1.fieldDown).applyOutputs).refreshValid).showScore

end Sys2Proof.Machine
end

