-- ==== Sys2Proof/Machine/Alm.lean ====
section
/-!
DEFINITION. The alarm engine (R205 to R249, R595): sources and conditions, delays, the state model, groups, commands, the
notification queue and floods.
-/

namespace Sys2Proof.Machine

/-- Changes what ALM holds. -/
def State.modAlm (s : State) (f : AlmState → AlmState) : State := { s with alarm := f s.alarm }

/-- STIME differences of 48-bit stamps. -/
def since48 (now t : Nat) : Nat := (now + 2 ^ 48 - t % 2 ^ 48) % 2 ^ 48

/-! ### Contexts -/

/-- The enabled contexts, ascending. -/
def State.almEnabled (s : State) : List Nat := (List.range s.variant.contexts).filter fun k => s.flag (ALM.CTXA.enable k)

/-- The overlay layers F, SU, SH and OOS by bit (R210). -/
def State.layer (s : State) (k i : Nat) : Bool := bit (s.rd (ALM.CTXA.layers k)) i

/-- Sets an overlay layer. -/
def State.setLayer (s : State) (k i : Nat) (b : Bool) : State := s.wr (ALM.CTXA.layers k) (putBits (s.rd (ALM.CTXA.layers k)) i 1 (ofBool b))

/-- The reported state (R223). -/
def State.reported (s : State) (k : Nat) : Nat :=
  if s.layer k 3 then 6 else if s.layer k 2 then 4 else if s.layer k 1 then 5 else if s.layer k 0 then 7
  else s.rd (ALM.CTXA.process k)

/-- The caution class (R224): categories caution and status. -/
def State.cautionClass (s : State) (k : Nat) : Bool := decide (3 ≤ s.rd (ALM.CTXA.category k))

/-- Status contexts notify nothing and belong to no group (R230). -/
def State.isStatus (s : State) (k : Nat) : Bool := s.rd (ALM.CTXA.category k) == 4

/-- Whether a context is unacked (R235). -/
def State.unackedCtx (s : State) (k : Nat) : Bool :=
  s.rd (ALM.CTXA.state k) == 1 || s.rd (ALM.CTXA.state k) == 3 || s.flag (ALM.CTXA.sf_unack k)

/-- Whether a context is active (R235). -/
def State.activeCtx (s : State) (k : Nat) : Bool :=
  s.rd (ALM.CTXA.state k) == 2 || (s.rd (ALM.CTXA.state k) == 7 && !s.flag (ALM.CTXA.sf_unack k)) || s.flag (ALM.CTXA.caution k)

/-- A counter of run state counts one more and sticks (R61, R62). -/
def State.stickRun (s : State) (count ovf : Ref) : State := s.stick count ovf (some ALM.IRQRAW.cnt_ovf)

/-- A change is noted for the entries of this evaluation or command.
(DEDUCED, notes/assumptions/40.md.) -/
def State.noteChange (s : State) (c : AlmChange) : State := s.modAlm fun a => { a with changes := a.changes ++ [c] }

/-- The reported state follows the layers; a change of it is noted (R223, R227, R246, R251). -/
def State.settle (s : State) (k cause : Nat) : State :=
  let old := s.rd (ALM.CTXA.state k)
  let new := s.reported k
  if new = old then s
  else
    let was := s.unackedCtx k
    let s1 := (s.wr (ALM.CTXA.state k) new).irq ALM.IRQRAW.state_change
    let s2 := if new = 7 then (s1.put (ALM.CTXA.sf_unack k) (!s.cautionClass k)).irq ALM.IRQRAW.sensor_fault else s1.wr (ALM.CTXA.sf_unack k) 0
    let s3 := if s2.unackedCtx k && !was then
        (s2.irq ALM.IRQRAW.unack).modAlm fun a => { a with became := addTo a.became k, news := addTo a.news k }
      else s2
    s3.noteChange ⟨k, 0, old, cause⟩

/-- The process layer takes a state; entering Active counts an occurrence (R210, R224). -/
def State.enterProcess (s : State) (k new : Nat) : State :=
  let p := s.rd (ALM.CTXA.process k)
  if new = p then s
  else
    let s1 := s.wr (ALM.CTXA.process k) new
    if new = 1 ∨ (new = 2 ∧ p ≠ 1) then s1.wrap (ALM.CTXA.occurrence k) else s1

/-- q changed with no overlay layer set (R224). -/
def State.processQ (s : State) (k : Nat) : State :=
  let p := s.rd (ALM.CTXA.process k)
  if s.flag (ALM.CTXA.q k) then
    if p = 1 ∨ p = 2 then s.wr (ALM.CTXA.latched k) 0
    else s.enterProcess k (if s.cautionClass k then 2 else 1)
  else if p = 1 ∨ p = 2 then
    if s.flag (ALM.CTXA.latch k) then s.wr (ALM.CTXA.latched k) 1 else s.enterProcess k (if p = 1 then 3 else 0)
  else s

/-- The process layer while SH or SU is set (R225). -/
def State.processHidden (s : State) (k : Nat) : State :=
  (s.enterProcess k (if s.flag (ALM.CTXA.q k) then 2 else 0)).wr (ALM.CTXA.latched k) 0

/-- The last of SH and SU has cleared (R225). -/
def State.processShown (s : State) (k : Nat) : State :=
  if s.layer k 0 then s
  else if s.flag (ALM.CTXA.q k) then
    ((s.wr (ALM.CTXA.process k) (if s.cautionClass k then 2 else 1)).wrap (ALM.CTXA.occurrence k)).wr (ALM.CTXA.latched k) 0
  else (s.wr (ALM.CTXA.process k) 0).wr (ALM.CTXA.latched k) 0

/-- The process layer follows q and the overlays: whether SH or SU was set before, and whether q changed. -/
def State.followLayers (s : State) (k : Nat) (hidden changed : Bool) : State :=
  if s.layer k 3 || s.layer k 0 && (s.layer k 1 || s.layer k 2) then s
  else if s.layer k 1 || s.layer k 2 then s.processHidden k
  else if hidden then s.processShown k
  else if s.layer k 0 then s
  else if changed then s.processQ k
  else s

/-- The caution indication follows (R231); a change is noted with its cause. -/
def State.settleCaution (s : State) (k cause : Nat) : State :=
  let p := s.rd (ALM.CTXA.process k)
  let c := s.flag (ALM.CTXA.pcaution k) && s.alarm.possible.contains k && (p == 0 || p == 3) && s.rd (ALM.CTXA.layers k) == 0
  if c = s.flag (ALM.CTXA.caution k) then s
  else (s.put (ALM.CTXA.caution k) c).noteChange ⟨k, if c then 1 else 2, s.rd (ALM.CTXA.state k), cause⟩

/-- The registers QMAP and UNACK show a context. -/
def State.showCtx (s : State) (k : Nat) : State :=
  (s.putNth ALM.QMAP.q k (s.flag (ALM.CTXA.q k))).putNth ALM.UNACK.unack k (s.unackedCtx k)

/-- The run state of a context is cleared (R241, R242). -/
def State.clearRun (s : State) (k : Nat) : State :=
  let s1 := s.each (List.range 8) fun st i => st.setReg (0x120020 + 0x40 * (k % 1024) + 4 * (i % 8)) 0
  (s1.modAlm fun a => { a with possible := dropFrom a.possible k, shelvedAt := Keyed.drop a.shelvedAt k }).showCtx k

/-! ### Inputs -/

/-- What an evaluation finds at a context's source (R212 to R218). -/
inductive AlmInput where
  | absent (held : Bool)
  | missing
  | invalid
  | direct (cond : Bool) (onset : Nat)
  | compare (v u l c : Int) (onset : Nat)
  deriving DecidableEq, Repr

/-- The record of the lap that a channel delivered (R206). -/
def State.lapRecord (s : State) (c : Nat) : Option ResultRec :=
  (Keyed.get? s.alarm.inputs c).bind fun r => if r.lap = s.lapCount then some r else none

/-- Whether a channel was due in the lap and not paused by shedding (R99, R218). -/
def State.wasDue (s : State) (c : Nat) : Bool :=
  s.lap.due.contains c && (!(s.bank (c / 20)).todo.contains (c % 20) || s.flag (AFE.CTX.enable (c / 20) (c % 20)))

/-- VALID of a record. -/
def ResultRec.isValid (r : ResultRec) : Bool := bit r.status 0

/-- The conditions of a record by the bits of R213. -/
def ResultRec.conditions (r : ResultRec) : Nat :=
  let b := ofBool (bit r.status 4) + 2 * ofBool (bit r.status 1) + 4 * ofBool (bit r.status 2 && !r.ne43) + 8 * ofBool (bit r.status 3) +
    16 * ofBool r.ne43 + 32 * ofBool (bit r.status 7) + 64 * ofBool (bit r.status 5)
  if !r.isValid && b == 0 then 128 else b

/-- High-side kinds and band (R210, R212). -/
def State.highSide (s : State) (k : Nat) : Bool := let d := s.rd (ALM.CTXA.kind k); d == 0 || d == 1 || d == 4

/-- The clear level in units of the limit. -/
def State.clearLevel (s : State) (k : Nat) : Int :=
  let l := s.rdInt (ALM.CTXA.limit k)
  if s.highSide k then l - s.rd (ALM.CTXA.deadband k) else l + s.rd (ALM.CTXA.deadband k)

/-- Term i of a logic context (R210). -/
def State.logicTerm (s : State) (k i : Nat) : Nat :=
  if i < 3 then getBits (s.rd (ALM.CTXA.limit k)) (10 * i) 10
  else if i < 6 then getBits (s.rd (ALM.CTXA.deadband k)) (10 * (i - 3)) 10
  else if i = 6 then s.rd (ALM.CTXA.src k)
  else s.rd (ALM.CTXA.ref k)

/-- A logic context (R216). -/
def State.logicInput (s : State) (k te : Nat) : AlmInput :=
  let aux := s.rd (ALM.CTXA.aux k)
  let terms := (List.range (getBits aux 8 3 + 1)).map fun i =>
    let t := s.logicTerm k i
    if s.layer t 0 || s.layer t 3 then none else some (s.flag (ALM.CTXA.q t) ^^ bit aux i)
  let need := getBits aux 11 3 + 1
  let yes := (terms.filter fun x => x == some true).length
  let unknown := (terms.filter fun x => x.isNone).length
  if need ≤ yes then .direct true te else if yes + unknown < need then .direct false te else .invalid

/-- The channels of a mean set (R214). -/
def State.meanSet (s : State) (n : Nat) : List Nat :=
  (List.range 160).filter fun c => bit (s.rd (ALM.MEANSET.members (5 * n + c / 32))) (c % 32)

/-- The input of a context whose source record is there (R212 to R217). The age of the earlier record of a rate is the difference of
the two records' STIME; a subject without a usable record comes before an absent reference.
(DESIGN CHOICE, notes/assumptions/88.md.) -/
def State.recordInput (s : State) (k : Nat) (r : ResultRec) : AlmInput :=
  let type := s.rd (ALM.CTXA.src_type k)
  let sure := s.rd (ALM.CTXA.basis k) != 0
  let limit := s.rdInt (ALM.CTXA.limit k)
  let clear := s.clearLevel k
  let needed : ResultRec → Bool := fun x => x.isValid && !(sure && x.u95 == 0xFFFF)
  if type = 5 then .direct (r.conditions &&& s.rd (ALM.CTXA.opt k) != 0) r.stime
  else if !needed r then .invalid
  else if type = 0 then .compare r.value r.u95 limit clear r.stime
  else if type = 1 then
    match Keyed.get? s.alarm.valid r.ch with
    | none => .absent false
    | some p =>
      let dt := since48 r.stime p.stime
      if dt > s.rd (ALM.CTXA.aux k) * 1000000 then .absent false
      else if !needed p then .invalid
      else .compare ((r.value - p.value) * 60000000) ((r.u95 + p.u95) * 60000000) (limit * dt) (clear * dt) r.stime
  else if type = 2 then
    let c := s.rd (ALM.CTXA.ref k)
    match s.lapRecord c with
    | none => if s.wasDue c then .invalid else .absent true
    | some p => if needed p then .compare (r.value - p.value) (r.u95 + p.u95) limit clear r.stime else .invalid
  else
    let used := (s.meanSet (s.rd (ALM.CTXA.ref k) % 16)).filterMap fun c => (s.lapRecord c).bind fun x => if x.isValid && x.u95 < 0xFFFF then some x else none
    let n := used.length
    if n < s.rd (ALM.CTXA.aux k) then .invalid
    else .compare (n * r.value - (used.map ResultRec.value).sum) (n * r.u95 + (used.map ResultRec.u95).sum) (n * limit) (n * clear) r.stime

/-- The input of a context (R206, R217, R218). -/
def State.almInput (s : State) (k te : Nat) : AlmInput :=
  let type := s.rd (ALM.CTXA.src_type k)
  if type = 6 then s.logicInput k te
  else if type = 4 then
    match s.dioInput (s.rd (ALM.CTXA.src k) % 64) with
    | none => .invalid
    | some (v, stamp) => .direct (v ^^ bit (s.rd (ALM.CTXA.opt k)) 0) stamp
  else
    let c := s.rd (ALM.CTXA.src k)
    match s.lapRecord c with
    | none => if s.wasDue c then .missing else .absent true
    | some r => if s.rd (AFE.CTX.exp (c / 20) (c % 20)) = s.rd (ALM.CTXA.exp k) then s.recordInput k r else .invalid

/-- The exponent of a context no longer matches its channel's (R217); in a lap without a record of the channel it is not judged.
(DESIGN CHOICE, notes/assumptions/88.md.) -/
def State.expMismatch (s : State) (k : Nat) : Bool :=
  let type := s.rd (ALM.CTXA.src_type k)
  let c := s.rd (ALM.CTXA.src k)
  type != 6 && type != 4 && (s.lapRecord c).isSome && s.rd (AFE.CTX.exp (c / 20) (c % 20)) != s.rd (ALM.CTXA.exp k)

/-- A condition against its limit and clear level: equality neither sets nor clears (R212). -/
def compareCond (old high : Bool) (x l c : Int) : Bool :=
  if high then (if old then !decide (x < c) else decide (l < x)) else (if old then !decide (c < x) else decide (x < l))

/-! ### One context -/

/-- The running delay of a context completes (R221). -/
def State.delayEnds (s : State) (k te : Nat) : State :=
  let cond := s.flag (ALM.CTXA.cond k)
  let q := s.flag (ALM.CTXA.q k)
  let ran := since48 te (s.rd (ALM.CTXA.t_timer k))
  if cond && !q then (if s.rd (ALM.CTXA.on_delay k) * 10000 ≤ ran then s.wr (ALM.CTXA.q k) 1 else s)
  else if !cond && q then (if s.rd (ALM.CTXA.off_delay k) * 10000 ≤ ran then s.wr (ALM.CTXA.q k) 0 else s)
  else s

/-- cond takes a value; delays start, complete or are cancelled (R220, R221). -/
def State.delays (s : State) (k te : Nat) (cond recovered : Bool) (onset : Nat) : State :=
  let old := s.flag (ALM.CTXA.cond k)
  let q := s.flag (ALM.CTXA.q k)
  let s1 :=
    if cond = old then (if recovered && cond != q then s.wr (ALM.CTXA.t_timer k) te else s)
    else
      let a := s.put (ALM.CTXA.cond k) cond
      if cond && !q then (a.wr (ALM.CTXA.t_timer k) te).wr (ALM.CTXA.t_onset k) onset
      else if !cond && q then a.wr (ALM.CTXA.t_timer k) te
      else if !cond then a.stickRun (ALM.CTXA.false_starts k) (ALM.CTXA.fs_ovf k)
      else a
  s1.delayEnds k te

/-- last_v takes the value of the input; a value that 32 bits cannot hold is not stated (R210). -/
def State.showValue (s : State) (k : Nat) (v : Int) : State :=
  if -(2 ^ 31 : Int) ≤ v ∧ v < 2 ^ 31 then s.wrInt (ALM.CTXA.last_v k) v
  else let (x, s1) := s.draw; s1.wr (ALM.CTXA.last_v k) (x % 2 ^ 32)

/-- A valid input: F and the counters clear, and the condition is formed (R212, R219, R220, R231). Only a compared value has a
possible-basis condition: a digital, fault or logic context shows no caution.
(DESIGN CHOICE, notes/assumptions/88.md.) -/
def State.validInput (s : State) (k te : Nat) (i : AlmInput) : State :=
  let recovered := s.layer k 0
  let s1 := ((s.setLayer k 0 false).wr (ALM.CTXA.inv_cnt k) 0).wr (ALM.CTXA.miss_cnt k) 0
  match i with
  | .direct cond onset =>
    let type := s.rd (ALM.CTXA.src_type k)
    let v : Int := if type = 4 then ofBool (cond ^^ bit (s.rd (ALM.CTXA.opt k)) 0)
      else if type = 5 then ((s.lapRecord (s.rd (ALM.CTXA.src k))).map ResultRec.value).getD 0 else ofBool cond
    (s1.showValue k v).delays k te cond recovered onset
  | .compare v u l c onset =>
    let high := s.highSide k
    let w : Int := if s.rd (ALM.CTXA.kind k) = 4 then v.natAbs else v
    let sure := if high then w - u else w + u
    let maybe := if high then w + u else w - u
    let x := match s.rd (ALM.CTXA.basis k) with | 0 => w | 1 => sure | _ => maybe
    let p := compareCond (s.alarm.possible.contains k) high maybe l c
    let s2 := s1.modAlm fun a => { a with possible := if p then addTo a.possible k else dropFrom a.possible k }
    (s2.showValue k w).delays k te (compareCond (s.flag (ALM.CTXA.cond k)) high x l c) recovered onset
  | _ => s1

/-- The shelving of a context runs down (R229). -/
def State.shelveRun (s : State) (k te : Nat) : State :=
  if !s.layer k 2 then s
  else
    let at_ := Keyed.get 0 s.alarm.shelvedAt k
    let start := if since48 te at_ ≤ since48 te s.alarm.lastTe then at_ else s.alarm.lastTe
    let left := s.rd (ALM.CTXA.shelve_left k) - since48 te start / 10000
    let s1 := s.wr (ALM.CTXA.shelve_left k) left
    if left = 0 then s1.setLayer k 2 false else s1

/-- The cause of a change that an evaluation finds (R246): the end of the layer that was reported, whatever it uncovers; else the
layer that is reported now; else recovery, a delay or the condition. -/
def changeCause (before after : Nat) (elapsed missing : Bool) : Nat :=
  if before = 4 then 0x05
  else if before = 5 ∧ after ≠ 5 then 0x08
  else if after = 5 then 0x07
  else if before = 7 then 0x0B
  else if after = 7 then (if missing then 0x0A else 0x09)
  else if elapsed then 0x01
  else 0x00

/-- An input that is not valid has been counted: its context enters F, or its delays run on (R219, R221). -/
def State.countedInput (s : State) (k te : Nat) (lost : Bool) : State :=
  if lost then s.setLayer k 0 true else if s.layer k 0 then s else s.delayEnds k te

/-- One context in an evaluation (R207, R219 to R233). -/
def State.evalCtx (s : State) (k te : Nat) : State :=
  let s0 := s.shelveRun k te
  if s0.layer k 3 then s0.settle k 0x05
  else
    let hidden := s.layer k 1 || s.layer k 2
    let before := s.rd (ALM.CTXA.state k)
    let su := s.flag (ALM.CTXA.sup_en k) && bit (s.rd ALM.SUPACT.cond) (s.rd (ALM.CTXA.sup k))
    let s1 := s0.setLayer k 1 su
    let q := s.flag (ALM.CTXA.q k)
    let input := s1.almInput k te
    let s2 := if s1.expMismatch k then s1.fault ALM.FAULT.cfgmis 0x0110 k else s1
    let s3 :=
      match input with
      | .absent h => if h && decide (2 ≤ s.level) then s2.modAlm fun a => { a with held := addTo a.held k } else s2
      | .invalid =>
        let a := s2.stickRun (ALM.CTXA.inv_cnt k) (ALM.CTXA.inv_ovf k)
        a.countedInput k te (decide (a.rd (ALM.CTXA.fault_n k) < a.rd (ALM.CTXA.inv_cnt k)))
      | .missing =>
        let a := s2.stickRun (ALM.CTXA.miss_cnt k) (ALM.CTXA.miss_ovf k)
        let n := a.rd (ALM.CTXA.miss_n k)
        a.countedInput k te (decide ((if n = 0 then 3 else n) < a.rd (ALM.CTXA.miss_cnt k)))
      | i => s2.validInput k te i
    let changed := s3.flag (ALM.CTXA.q k) != q
    let s4 := s3.followLayers k hidden changed
    let elapsed := changed && decide (0 < since48 te (s4.rd (ALM.CTXA.t_timer k)))
    let cause := changeCause before (s4.reported k) elapsed (input == .missing)
    ((s4.settle k cause).settleCaution k cause).showCtx k

/-! ### Suppression conditions -/

/-- The source value of a suppression condition (R232). -/
def State.supSource (s : State) (i : Nat) : Bool :=
  let src := s.rd (ALM.SUPA.source i)
  let inv := s.flag (ALM.SUPA.invert i)
  if s.flag (ALM.SUPA.kind i) then
    !(s.layer src 0 || s.layer src 3) && (s.flag (ALM.CTXA.q src) ^^ inv)
  else
    match s.dioInput (src % 64) with
    | none => false
    | some (v, _) => v ^^ inv

/-- The suppression conditions at the start of an evaluation (R232). -/
def State.suppress (s : State) (te : Nat) : State :=
  s.each (List.range 32) fun st i =>
    let set_ : Bool → State → State := fun b x => x.wr ALM.SUPACT.cond (putBits (x.rd ALM.SUPACT.cond) i 1 (ofBool b))
    let rest : State → State := fun x => x.modAlm fun a => { a with falling := Keyed.drop a.falling i }
    if !s.flag (ALM.SUPA.enable i) then rest (set_ false st)
    else if s.supSource i then rest (set_ true st)
    else if bit (st.rd ALM.SUPACT.cond) i then
      let t := (Keyed.get? st.alarm.falling i).getD te
      if since48 te t ≥ s.rd (ALM.SUPB.release i) * 10000 then rest (set_ false st)
      else st.modAlm fun a => { a with falling := Keyed.put a.falling i t }
    else st

/-! ### The notification queue -/

/-- Entries in the queue (R245). -/
def State.nqOccupancy (s : State) : Nat := (s.rd ALM.NQPROD.index + 512 - s.rd ALM.NQREL.index) % 512

/-- NQSTAT follows. -/
def State.showQueue (s : State) : State := (s.wr ALM.NQSTAT.occupancy s.nqOccupancy).put ALM.NQSTAT.rescan s.alarm.rescan.isSome

/-- An entry's first 30 bytes are written with the sequence of this moment, or dropped (R245, R246, R249). -/
def State.nqStore (s : State) (entry : List Byte) : State :=
  let seq := s.rd ALM.NQSEQ.seq
  let s1 := s.wr ALM.NQSEQ.seq (seq + 1)
  let drop : State → State := fun x =>
    ((x.stick ALM.NQDROP.count ALM.CNTOVF.nqdrop (some ALM.IRQRAW.cnt_ovf)).irq ALM.IRQRAW.nq_drop).modAlm fun a => { a with dropped := true }
  if s.nqOccupancy ≥ 256 then drop s1
  else
    match s1.boundWrite 0 (s.rd ALM.NQBASE.base * 0x2000 + s.rd ALM.NQPROD.index % 256 * 32) (entry ++ bytesLE 2 seq) with
    | (true, s2) => (s2.wrap ALM.NQPROD.index).showQueue
    | (false, s2) => (drop s2).fault ALM.FAULT.nqwrite 0x0112

/-- An entry is written, or held while DMA takes up no work (R434). -/
def State.nqWrite (s : State) (entry : List Byte) : State :=
  if s.dmaHolds then { s with dma := { s.dma with jobs := s.dma.jobs ++ [.notification entry] } } else s.nqStore entry

/-- The head of every entry (R246). -/
def entryHead (kind id : Nat) : List Byte := bytesLE 2 (kind * 4096 + id % 1024)

/-- The tail of every entry before its sequence. -/
def State.entryTail (s : State) (stime onset cause : Nat) : List Byte :=
  bytesLE 6 stime ++ bytesLE 6 onset ++ bytesLE 1 s.lapCount ++ bytesLE 1 cause

/-- An entry of a context (R246). -/
def State.ctxEntry (s : State) (c : AlmChange) (stime : Nat) : List Byte :=
  let k := c.ctx
  let type := s.rd (ALM.CTXA.src_type k)
  let r := if type = 4 ∨ type = 6 then none else Keyed.get? s.alarm.inputs (s.rd (ALM.CTXA.src k))
  let st := s.rd (ALM.CTXA.state k) + 8 * s.rd (ALM.CTXA.cond k) + 16 * s.rd (ALM.CTXA.q k) + 32 * s.rd (ALM.CTXA.latched k) +
    64 * s.rd (ALM.CTXA.sf_unack k) + 128 * s.rd (ALM.CTXA.caution k)
  entryHead c.kind k ++ bytesLE 1 st ++ bytesLE 1 (c.prev + 16 * s.rd (ALM.CTXA.category k)) ++ bytesLE 1 (s.rd (ALM.CTXA.group k)) ++
    bytesLE 1 (s.rd (ALM.CTXA.occurrence k)) ++ bytesLE 2 (s.rd (ALM.CTXA.tag k)) ++ bytesLE 4 (s.rd (ALM.CTXA.last_v k)) ++
    bytesLE 2 ((r.map ResultRec.u95).getD 0xFFFF) ++ bytesLE 1 ((r.map ResultRec.status).getD 0) ++ bytesLE 1 (s.rd (ALM.CTXA.exp k)) ++
    s.entryTail stime (s.rd (ALM.CTXA.t_onset k)) c.cause

/-- An entry of a first-out (R246). -/
def State.firstOutEntry (s : State) (g stime cause : Nat) : List Byte :=
  let k := s.rd (ALM.GRP.fo_ctx g)
  let body := if s.flag (ALM.GRP.fo_valid g) then
      [1] ++ bytesLE 1 (16 * s.rd (ALM.CTXA.category k)) ++ bytesLE 1 g ++ bytesLE 1 (s.rd (ALM.CTXA.occurrence k)) ++
        bytesLE 2 (s.rd (ALM.CTXA.tag k)) ++ bytesLE 2 k
    else [0, 0] ++ bytesLE 1 g ++ [0, 0, 0, 0, 0]
  entryHead 3 g ++ body ++ List.replicate 6 0 ++
    s.entryTail stime (if s.flag (ALM.GRP.fo_valid g) then s.rd (ALM.GRP.fo_onset g) else 0) cause

/-- A group summary (R246, kind 0x4). -/
def State.groupEntry (s : State) (g stime cause : Nat) : List Byte :=
  let f : Ref → List Byte := fun r => bytesLE 2 (s.rd r)
  entryHead 4 g ++ f (ALM.GRP.au g) ++ f (ALM.GRP.aa g) ++ f (ALM.GRP.nu g) ++ f (ALM.GRP.sf g) ++ f (ALM.GRP.sh g) ++ f (ALM.GRP.su g) ++
    f (ALM.GRP.fo_ctx g) ++ s.entryTail stime (s.rd (ALM.GRP.fo_onset g)) cause

/-- An entry that names neither context nor group, nor a source record. -/
def State.plainEntry (s : State) (kind b2 b3 stime cause : Nat) : List Byte :=
  entryHead kind 0 ++ bytesLE 1 b2 ++ bytesLE 1 b3 ++ List.replicate 8 0 ++ [0xFF, 0xFF, 0, 0] ++ s.entryTail stime 0 cause

/-- Whether flood mode holds entries back: from the evaluation after the one that entered it (R248). -/
def State.flooded (s : State) : Bool := s.flag ALM.NQSTAT.flood && s.alarm.floodOn

/-- A re-scan goes on while the occupancy is below 192 (R247). -/
def State.rescanRun (s : State) (stime : Nat) : Nat → State
  | 0 => s
  | n + 1 =>
    match s.alarm.rescan with
    | none => s.showQueue
    | some i =>
      if s.nqOccupancy ≥ 192 then s.showQueue
      else
        let next : State → State := fun x => x.modAlm fun a => { a with rescan := some (i + 1) }
        let c := s.variant.contexts
        let s1 :=
          if i < c then
            if s.flag (ALM.CTXA.enable i) && !s.isStatus i && (s.rd (ALM.CTXA.state i) != 0 || s.flag (ALM.CTXA.caution i)) then
              next (s.nqWrite (s.ctxEntry ⟨i, 5, s.rd (ALM.CTXA.state i), 0x10⟩ stime))
            else next s
          else if i < c + 64 then
            if s.flag (ALM.GRP.enable (i - c)) then next (s.nqWrite (s.groupEntry (i - c) stime 0x10)) else next s
          else (s.nqWrite (s.plainEntry 8 0 0 stime 0x10)).modAlm fun a => { a with rescan := none }
        State.rescanRun s1 stime n

/-- A re-scan in progress writes what it can; it pauses in flood mode, and waits while DMA takes up no work. -/
def State.rescanGo (s : State) (stime : Nat) : State :=
  if s.flooded || s.dmaHolds then s.showQueue else State.rescanRun s stime 1100

/-- A re-scan starts from A0 (R247). -/
def State.rescanStart (s : State) : State := (s.modAlm fun a => { a with rescan := some 0 }).showQueue

/-- Entries were dropped, and the occupancy has fallen below 128 (R247). -/
def State.rescanAfterDrops (s : State) : State :=
  if s.alarm.dropped && decide (s.nqOccupancy < 128) then (s.modAlm fun a => { a with dropped := false }).rescanStart else s

/-- REC receives changes directly (R244): the entry of R246 as payload. -/
def State.recChanges (s : State) (cs : List AlmChange) (stime : Nat) : State :=
  s.each cs fun st c => st.recEvent 0x0400 3 (st.ctxEntry c stime ++ bytesLE 2 (st.rd ALM.NQSEQ.seq))

/-- REC receives every change of a context that notifies (R230, R244). -/
def State.tellRec (s : State) (cs : List AlmChange) (stime : Nat) : State := s.recChanges (cs.filter fun c => !s.isStatus c.ctx) stime

/-- The changes, in ascending number, a state change before a caution change (R245). -/
def sortChanges (contexts : Nat) (cs : List AlmChange) : List AlmChange :=
  (List.range contexts).flatMap fun k => cs.filter fun c => c.ctx == k

/-- The entries of changes are written; in flood mode only those of emergency alarms (R246, R248).
(DEDUCED, notes/assumptions/40.md.) -/
def State.writeChanges (s : State) (cs : List AlmChange) (stime : Nat) : State :=
  s.each (cs.filter fun c => !s.isStatus c.ctx && (!s.flooded || s.rd (ALM.CTXA.category c.ctx) == 0)) fun st c => st.nqWrite (st.ctxEntry c stime)

/-- A context's run state was replaced, `was` the state before: what changed of its reported state, sf_unack and caution indication is
told to CALL and REC, and entries of the kinds named are written (R242 to R246, R251). -/
def State.tellReplaced (s was : State) (k cause stime : Nat) (status : Bool) (kinds : List Nat) : State :=
  let a := was.rd (ALM.CTXA.state k)
  let b := s.rd (ALM.CTXA.state k)
  let c := s.flag (ALM.CTXA.caution k)
  let s1 := s.when (a != b) fun t => (t.irq ALM.IRQRAW.state_change).when (b == 7) fun t => t.irq ALM.IRQRAW.sensor_fault
  let s2 := s1.when (s.unackedCtx k && !was.unackedCtx k) fun t => (t.irq ALM.IRQRAW.unack).modAlm fun x => { x with news := addTo x.news k }
  let cs := (if a != b || s.flag (ALM.CTXA.sf_unack k) != was.flag (ALM.CTXA.sf_unack k) then [AlmChange.mk k 0 a cause] else []) ++
    if c != was.flag (ALM.CTXA.caution k) then [AlmChange.mk k (if c then 1 else 2) b cause] else []
  if status then s2
  else (s2.recChanges cs stime).when (s.working 0x20) fun t => t.writeChanges (cs.filter fun x => kinds.contains x.kind) stime

/-! ### Groups -/

/-- The enabled groups with the configuration by which they are shown. -/
def State.groupCfgs (s : State) : Keyed GroupCfg :=
  ((List.range 64).filter fun g => s.flag (ALM.GRP.enable g)).map fun g =>
    (g, ⟨s.rd (ALM.GRP.horn g), s.rd (ALM.GRP.lamp g), s.rd (ALM.GRP.horn_cat g), s.rd (ALM.GRP.lamp_cat g)⟩)

/-- The groups are shown by the configuration of now: at an evaluation, and at ALM's release (R241, R242). -/
def State.groupsAnew (s : State) : State := s.modAlm fun a => { a with groups := s.groupCfgs }

/-- The contexts of a group (R235). -/
def State.members (s : State) (g : Nat) : List Nat := s.almEnabled.filter fun k => s.rd (ALM.CTXA.group k) == g && !s.isStatus k

/-- The first-outs that a set of changes gives (R237): the groups whose first-out changes.
(DEDUCED, notes/assumptions/40.md.) -/
def State.takeFirstOuts (s : State) (cs : List AlmChange) : List Nat × State :=
  let fresh := cs.filter fun c => c.kind == 0 && !(c.prev == 1 || c.prev == 2) && (s.rd (ALM.CTXA.state c.ctx) == 1 || s.rd (ALM.CTXA.state c.ctx) == 2) && !s.isStatus c.ctx
  (List.range 64).foldl (init := ([], s)) fun (gs, st) g =>
    let mine := (fresh.filter fun c => st.rd (ALM.CTXA.group c.ctx) == g).map AlmChange.ctx
    let best := mine.foldl (init := none) fun (m : Option Nat) k =>
      match m with
      | none => some k
      | some b => if st.rd (ALM.CTXA.t_onset k) < st.rd (ALM.CTXA.t_onset b) then some k else some b
    match best with
    | none => (gs, st)
    | some k =>
      let t := st.rd (ALM.CTXA.t_onset k)
      if (Keyed.get? s.alarm.groups g).isSome && (!st.flag (ALM.GRP.fo_valid g) || decide (t < st.rd (ALM.GRP.fo_onset g))) then
        (gs ++ [g], (((st.wr (ALM.GRP.fo_valid g) 1).wr (ALM.GRP.fo_ctx g) k).wr (ALM.GRP.fo_onset g) t).irq ALM.IRQRAW.first_out)
      else (gs, st)

/-- The first-out of a group is cleared (R237). -/
def State.clearFirstOut (s : State) (g : Nat) : State :=
  (s.wr (ALM.GRP.fo_valid g) 0).irq ALM.IRQRAW.first_out

/-- Counts, horn and lamp of a group (R234 to R236). -/
def State.groupShow (s : State) (g : Nat) (cfg : GroupCfg) (ms : List Nat) : State :=
  let count : Nat → Nat := fun st => (ms.filter fun k => s.rd (ALM.CTXA.state k) == st).length
  let inCat : Nat → Nat → Bool := fun mask k => bit mask (s.rd (ALM.CTXA.category k))
  let lamp := cfg.lampCat
  let flash := ms.any fun k => s.unackedCtx k && inCat lamp k
  let steady := ms.any fun k => (s.activeCtx k && !s.flag (ALM.CTXA.caution k) && inCat lamp k) || (s.flag (ALM.CTXA.caution k) && bit lamp 3)
  let silenced := s.flag (ALM.GRP.silenced g) && !(ms.any fun k => s.alarm.became.contains k)
  let horn := !silenced && ms.any fun k => s.unackedCtx k && inCat cfg.hornCat k
  (((((((((s.wr (ALM.GRP.au g) (count 1)).wr (ALM.GRP.aa g) (count 2)).wr (ALM.GRP.nu g) (count 3)).wr (ALM.GRP.sf g) (count 7)).wr
    (ALM.GRP.sh g) (count 4)).wr (ALM.GRP.su g) (count 5)).put (ALM.GRP.silenced g) silenced).put (ALM.GRP.horn_on g) horn).wr
    (ALM.GRP.lamp_st g) (if flash then 2 else if steady then 1 else 0))

/-- Every group that was enabled at the newest evaluation (R242); then no context counts as just unacked. -/
def State.groupsShow (s : State) : State :=
  (s.each s.alarm.groups fun st e => st.groupShow e.1 e.2 (s.members e.1)).modAlm fun a => { a with became := [] }

/-- fo_auto and the shed flag at the end of an evaluation (R237, R239): the groups whose first-out clears. -/
def State.groupsEnd (s : State) : List Nat × State :=
  ((List.range 64).filter fun g => s.flag (ALM.GRP.enable g)).foldl (init := ([], s)) fun (gs, st) g =>
    let ms := s.members g
    let st1 := st.put (ALM.GRP.shed g) (ms.any fun k => s.alarm.held.contains k)
    if st.flag (ALM.GRP.fo_auto g) && st.flag (ALM.GRP.fo_valid g) && !(ms.any fun k => s.unackedCtx k || s.activeCtx k) then
      (gs ++ [g], st1.clearFirstOut g)
    else (gs, st1)

/-- The pins that the groups drive now, by group (R234, R235): horns that are on, and lamps, flashing ones by the phase of STIME. They change
at the end of an evaluation, after an applied command and at flash edges (R238), and follow a commit at the next evaluation (R242). -/
def State.groupsDrive (s : State) : State :=
  let pin : Bool → Nat → Nat := fun on p => if on && decide (p < 48) then 2 ^ p else 0
  let lit : Nat → Bool := fun g => s.rd (ALM.GRP.lamp_st g) == 1 || (s.rd (ALM.GRP.lamp_st g) == 2 && decide (s.stime % 1000000 < 500000))
  s.modAlm fun a => { a with
    driven := a.groups.map fun (g, cfg) => (g, pin (s.flag (ALM.GRP.horn_on g)) cfg.horn ||| pin (lit g) cfg.lamp) }

/-- What a summary of a group reports (R248): its counts and its first-out. -/
def State.groupView (s : State) (g : Nat) : List Nat :=
  [s.rd (ALM.GRP.au g), s.rd (ALM.GRP.aa g), s.rd (ALM.GRP.nu g), s.rd (ALM.GRP.sf g), s.rd (ALM.GRP.sh g), s.rd (ALM.GRP.su g),
   s.rd (ALM.GRP.fo_valid g), s.rd (ALM.GRP.fo_ctx g), s.rd (ALM.GRP.fo_onset g)]

/-! ### Commands -/

/-- Acknowledgement of one context (R224, R227, R228): whether it did anything. -/
def State.ackCtx (s : State) (k cause : Nat) : State :=
  let p := s.rd (ALM.CTXA.process k)
  let open_ := s.rd (ALM.CTXA.layers k) == 0 && (p == 1 || p == 3)
  let sf := s.flag (ALM.CTXA.sf_unack k)
  let s1 := if open_ then s.wr (ALM.CTXA.process k) (if p = 1 then 2 else 0) else s
  let s2 := s1.wr (ALM.CTXA.sf_unack k) 0
  let s3 := s2.settle k cause
  if sf && s3.rd (ALM.CTXA.state k) == s.rd (ALM.CTXA.state k) then s3.noteChange ⟨k, 0, s.rd (ALM.CTXA.state k), cause⟩ else s3

/-- What a command answers (R228, R252): CMDSTAT.state 2 applied, 3 nothing to do, 4 refused, with the reason. -/
structure CmdAnswer where
  state : Nat
  reason : Nat
  deriving DecidableEq, Repr

/-- A command of R228 acts on the contexts or the group; the reply and the state before entries and groups.
(DEDUCED, notes/assumptions/40.md.) -/
def State.almAct (s : State) (c : QueuedCmd) : CmdAnswer × State :=
  let k := c.target % 1024
  let g := c.target % 64
  let refused : Nat → CmdAnswer × State := fun r => (⟨4, r⟩, s)
  let nothing : CmdAnswer × State := (⟨3, 0⟩, s)
  let ctxOk := decide (k < s.variant.contexts) && s.flag (ALM.CTXA.enable k)
  let grpOk := s.flag (ALM.GRP.enable g)
  let cause := if c.input then 0x03 else 0x02
  let ack : List Nat → CmdAnswer × State := fun ks =>
    let hit := ks.filter fun j => s.flag (ALM.CTXA.sf_unack j) || (s.rd (ALM.CTXA.layers j) == 0 && (s.rd (ALM.CTXA.process j) == 1 || s.rd (ALM.CTXA.process j) == 3))
    if hit.isEmpty then nothing else (⟨2, 0⟩, s.each hit fun st j => st.ackCtx j cause)
  let done : State → Bool → Nat → CmdAnswer × State := fun st hidden why =>
    (⟨2, 0⟩, ((st.followLayers k hidden false).settle k why).settleCaution k why)
  let hidden := s.layer k 1 || s.layer k 2
  if c.op = 1 ∨ (4 ≤ c.op ∧ c.op ≤ 8) ∨ c.op = 12 then
    if !ctxOk then refused 1
    else
      match c.op with
      | 1 => if bit c.arg 31 && getBits c.arg 17 8 != s.rd (ALM.CTXA.occurrence k) then refused 2 else ack [k]
      | 4 =>
        if !s.flag (ALM.CTXA.shelve_ok k) || s.rd (ALM.CTXA.category k) == 0 then refused 3
        else if s.layer k 3 then refused 6
        else
          let d := getBits c.arg 0 17
          if d < 1 ∨ 86400 < d then refused 5
          else
            let s1 := ((s.setLayer k 2 true).wr (ALM.CTXA.shelve_left k) (d * 100)).modAlm fun a => { a with shelvedAt := Keyed.put a.shelvedAt k s.stime }
            done s1 hidden 0x04
      | 5 => if s.layer k 2 then done ((s.setLayer k 2 false).wr (ALM.CTXA.shelve_left k) 0) hidden 0x06 else nothing
      | 6 => if s.layer k 3 then nothing else done (s.setLayer k 3 true) hidden 0x0C
      | 7 =>
        if !s.layer k 3 then nothing
        else
          let su := s.flag (ALM.CTXA.sup_en k) && bit (s.rd ALM.SUPACT.cond) (s.rd (ALM.CTXA.sup k))
          let zero : State := s.each [ALM.CTXA.process k, ALM.CTXA.cond k, ALM.CTXA.q k, ALM.CTXA.latched k, ALM.CTXA.layers k, ALM.CTXA.inv_cnt k,
            ALM.CTXA.miss_cnt k, ALM.CTXA.t_timer k, ALM.CTXA.shelve_left k] fun st r => st.wr r 0
          let s1 := (zero.setLayer k 1 su).modAlm fun a => { a with possible := dropFrom a.possible k, shelvedAt := Keyed.drop a.shelvedAt k }
          (⟨2, 0⟩, ((s1.settle k 0x0D).settleCaution k 0x0D))
      | 8 =>
        if !s.flag (ALM.CTXA.latched k) then nothing
        else if s.rd (ALM.CTXA.process k) = 1 then refused 4
        else if s.rd (ALM.CTXA.layers k) ≠ 0 then nothing
        else (⟨2, 0⟩, (((s.wr (ALM.CTXA.process k) 0).wr (ALM.CTXA.latched k) 0).settle k 0x0E).settleCaution k 0x0E)
      | _ =>
        if s.rd (ALM.CTXA.false_starts k) = 0 ∧ !s.flag (ALM.CTXA.fs_ovf k) then nothing
        else (⟨2, 0⟩, (s.wr (ALM.CTXA.false_starts k) 0).wr (ALM.CTXA.fs_ovf k) 0)
  else
    match c.op with
    | 2 => if grpOk then ack (s.members g) else refused 1
    | 3 => ack s.almEnabled
    | 9 => if !grpOk then refused 1 else if s.flag (ALM.GRP.silenced g) then nothing else (⟨2, 0⟩, s.wr (ALM.GRP.silenced g) 1)
    | 10 => if !grpOk then refused 1 else if s.flag (ALM.GRP.fo_valid g) then (⟨2, 0⟩, s.clearFirstOut g) else nothing
    | 11 => (⟨2, 0⟩, s.rescanStart)
    | _ => refused 7

/-- A command is applied: it acts, then first-outs, groups and outputs follow and its entries are written at once (R228,
R238, R245). -/
def State.almApply (s : State) (c : QueuedCmd) : CmdAnswer × State :=
  let (a, s1) := s.almAct { c with arg := c.arg }
  if a.state ≠ 2 then (a, s1)
  else
    let cs := sortChanges s1.variant.contexts s1.alarm.changes
    let s2 := s1.each cs fun st x => st.settleCaution x.ctx x.cause
    let cs := sortChanges s2.variant.contexts s2.alarm.changes
    let (fo, s3) := s2.takeFirstOuts cs
    let s4 := (s3.each (cs.map AlmChange.ctx) fun st k => st.showCtx k).groupsShow.groupsDrive
    let s5 := (s4.tellRec cs s.stime).writeChanges cs s.stime
    let gs := if c.op = 10 then [c.target % 64] else fo
    let s6 := if s5.flooded then s5 else s5.each gs fun st g => st.nqWrite (st.firstOutEntry g s.stime (if c.op = 10 then 0x11 else 0x00))
    let s7 := s6.modAlm fun x => { x with changes := [] }
    (a, if c.op = 11 then s7.rescanGo s.stime else s7)

/-- CMDSTAT of ALM. -/
def State.almStat (s : State) (st reason : Nat) : State := s.cmdStat ALM.CMDSTAT.state ALM.CMDSTAT.reason st reason

/-- A command completes: CMDSTAT, the interrupt, and CMDRES for a forwarded one (R251, R341). -/
def State.almComplete (s : State) (c : QueuedCmd) (a : CmdAnswer) : State :=
  let s1 := s.irq ALM.IRQRAW.cmd_done
  let s2 := s1.almStat a.state a.reason
  if c.forwarded then s2.uhlizSend 8 (bytesLE 1 0x20 ++ bytesLE 4 (a.reason * 256 + a.state)) else s2.replyTo c.reply 0

/-- A command is applied now, or waits while ALM is quiesced; one that finds the queue full is dropped (R208, R595). -/
def State.almEnqueue (s : State) (c : QueuedCmd) : State :=
  if !s.alive 0x20 then s
  else if s.quiesced 0x20 then
    if s.alarm.queue.length ≥ 16 then
      let s1 := s.almStat 5 0
      if c.forwarded then s1.uhlizSend 8 (bytesLE 1 0x20 ++ bytesLE 4 5) else s1.replyTo c.reply 0
    else (s.almStat 1 0).modAlm fun a => { a with queue := a.queue ++ [c] }
  else let (a, s1) := s.almApply c; s1.almComplete c a

/-- Commands that waited are applied in arrival order (R208, R595). -/
def State.almDrain (s : State) : State :=
  if s.quiesced 0x20 then s
  else
    let q := s.alarm.queue
    (s.modAlm fun a => { a with queue := [] }).each q fun st c => let (a, s1) := st.almApply c; s1.almComplete c a

/-- A command for ALM from a requester, with the TML party that waits for its result: the standby forwards it to the holder (R341).
(DEDUCED, notes/assumptions/42.md.) -/
def State.almCommand (s : State) (req : Requester) (op target : Nat) (reply : Option Nat := none) : State :=
  let arg := s.rd ALM.CMDARG
  if s.role = 3 then (s.forward 0x20 (0xA1 * 2 ^ 24 + op * 2 ^ 20 + target) arg (requesterCode req) reply).almStat 1 0
  else s.almEnqueue { op := op, target := target, arg := arg, reply := reply }

/-- ACKNOWLEDGE. -/
def execAcknowledge (req : Requester) (ctx : Nat) (s : State) : Result := s.command req 0x20 fun s => s.almCommand req 1 (ctx % 1024)
/-- ACKNOWLEDGE_GROUP. -/
def execAcknowledgeGroup (req : Requester) (group : Nat) (s : State) : Result := s.command req 0x20 fun s => s.almCommand req 2 (group % 64)
/-- ACKNOWLEDGE_ALL. -/
def execAcknowledgeAll (req : Requester) (s : State) : Result := s.command req 0x20 fun s => s.almCommand req 3 0
/-- SHELVE. -/
def execShelve (req : Requester) (ctx : Nat) (s : State) : Result := s.command req 0x20 fun s => s.almCommand req 4 (ctx % 1024)
/-- UNSHELVE. -/
def execUnshelve (req : Requester) (ctx : Nat) (s : State) : Result := s.command req 0x20 fun s => s.almCommand req 5 (ctx % 1024)
/-- OUT_OF_SERVICE. -/
def execOutOfService (req : Requester) (ctx : Nat) (s : State) : Result := s.command req 0x20 fun s => s.almCommand req 6 (ctx % 1024)
/-- RETURN_TO_SERVICE. -/
def execReturnToService (req : Requester) (ctx : Nat) (s : State) : Result := s.command req 0x20 fun s => s.almCommand req 7 (ctx % 1024)
/-- LATCH_RESET. -/
def execLatchReset (req : Requester) (ctx : Nat) (s : State) : Result := s.command req 0x20 fun s => s.almCommand req 8 (ctx % 1024)
/-- SILENCE_HORN. -/
def execSilenceHorn (req : Requester) (group : Nat) (s : State) : Result := s.command req 0x20 fun s => s.almCommand req 9 (group % 64)
/-- RESET_FIRST_OUT. -/
def execResetFirstOut (req : Requester) (group : Nat) (s : State) : Result := s.command req 0x20 fun s => s.almCommand req 10 (group % 64)
/-- RESCAN_COMMAND. -/
def execRescanCommand (req : Requester) (s : State) : Result := s.command req 0x20 fun s => s.almCommand req 11 0
/-- CLEAR_FALSE_STARTS. -/
def execClearFalseStarts (req : Requester) (ctx : Nat) (s : State) : Result := s.command req 0x20 fun s => s.almCommand req 12 (ctx % 1024)

/-- GROUP_ACK_INPUT (R228): a filtered rising edge of a group's acknowledge input.
(DEDUCED, notes/assumptions/39.md.) -/
def execGroupAckInput (group : Nat) (s : State) : Result :=
  if group < 64 && s.alive 0x20 && s.flag (ALM.GRP.enable group) && (s.dioInput (s.rd (ALM.GRP.ackin group))).map Prod.fst == some true &&
      decide (s.rd (ALM.GRP.ackin group) < 48) then
    .next (s.almEnqueue { op := 2, target := group, arg := 0, input := true })
  else .next s

/-- A write of NQREL (R245): a value outside NQREL to NQPROD is ignored. -/
def State.nqRelease (s : State) (index : Nat) : State :=
  if (index + 512 - s.rd ALM.NQREL.index) % 512 ≤ s.nqOccupancy ∧ index < 512 then
    ((s.wr ALM.NQREL.index index).showQueue).rescanAfterDrops
  else s

/-- NQ_RELEASE. -/
def execNqRelease (req : Requester) (index : Nat) (s : State) : Result := s.command req 0x20 fun s => s.nqRelease index

/-! ### The evaluation -/

/-- Shedding levels: at each change one entry of kind 0xA (R239), and one where the level differs from that of the newest one (R595). -/
def State.tellLevel (s : State) (te : Nat) : State :=
  (s.each (s.alarm.levels ++ [s.level]) fun st l =>
    if l = st.alarm.level then st
    else (st.nqWrite (st.plainEntry 0xA l st.alarm.level te 0)).modAlm fun a => { a with level := l }).modAlm fun a => { a with levels := [] }

/-- The delays restart at the first evaluation after a restoration (R240). -/
def State.restartDelays (s : State) (te : Nat) : State :=
  if !s.alarm.restart then s
  else
    let s1 := s.each s.almEnabled fun st k => if st.flag (ALM.CTXA.cond k) != st.flag (ALM.CTXA.q k) then st.wr (ALM.CTXA.t_timer k) te else st
    s1.modAlm fun a => { a with restart := false, falling := a.falling.map fun e => (e.1, te), rescan := some 0 }

/-- Entries, floods and re-scans at the end of an evaluation (R245 to R248). -/
def State.evalEntries (s : State) (te : Nat) (cs : List AlmChange) (fo : List Nat) (before : Keyed (List Nat)) : State :=
  let n := (cs.filter fun c => !s.isStatus c.ctx).length + fo.length
  let flood := s.flooded
  let s1 := s.writeChanges cs te
  let s2 := if flood then s1 else s1.each fo fun st g => st.nqWrite (st.firstOutEntry g te 0)
  let s3 := s2.tellLevel te
  let s4 :=
    if flood then
      let a := s3.each ((List.range 64).filter fun g => s.flag (ALM.GRP.enable g) && Keyed.get [] before g != s.groupView g) fun st g => st.nqWrite (st.groupEntry g te 0)
      let quiet := if n ≤ s.rd ALM.CFG.flood_off ∧ a.nqOccupancy ≤ 128 then s.alarm.quiet + 1 else 0
      if quiet ≥ s.rd ALM.CFG.flood_quiet ∧ quiet > 0 then
        (((a.wr ALM.NQSTAT.flood 0).nqWrite (a.plainEntry 7 0 0 te 0)).irq ALM.IRQRAW.flood_end).rescanStart.modAlm fun x => { x with quiet := 0 }
      else a.modAlm fun x => { x with quiet := quiet }
    else if n > s.rd ALM.CFG.flood_on ∨ s3.nqOccupancy > 224 then
      (((s3.wr ALM.NQSTAT.flood 1).nqWrite (s3.plainEntry 6 0 0 te 0)).irq ALM.IRQRAW.flood_begin).stick ALM.FLOODCNT.count ALM.CNTOVF.flood
        (some ALM.IRQRAW.cnt_ovf) |>.modAlm fun x => { x with quiet := 0 }
    else s3
  (s4.rescanAfterDrops).rescanGo te

/-- One evaluation of ALM (R205 to R249): suppression, two passes of contexts, groups, entries. -/
def State.almEvaluate (s : State) : State :=
  let te := s.stime % 2 ^ 48
  let s0 := (s.restartDelays te).groupsAnew
  let s1 := (s0.suppress te).modAlm fun a => { a with held := [], floodOn := s.flag ALM.NQSTAT.flood }
  let ks := s1.almEnabled
  let logic : Nat → Bool := fun k => s1.rd (ALM.CTXA.src_type k) == 6
  let s2 := s1.each (ks.filter fun k => !logic k) fun st k => st.evalCtx k te
  let s3 := s2.each (ks.filter logic) fun st k => st.evalCtx k te
  let cs := sortChanges s3.variant.contexts s3.alarm.changes
  let before := (List.range 64).map fun g => (g, s3.groupView g)
  let (fo1, s4) := s3.takeFirstOuts cs
  let (fo2, s5) := s4.groupsShow.groupsEnd
  let s5 := s5.groupsDrive
  let fo := (List.range 64).filter fun g => fo1.contains g || fo2.contains g
  let s6 := (s5.tellRec cs te).evalEntries te cs fo before
  (s6.modAlm fun a => { a with changes := [], lastTe := te }).each [(ALM.EVALLAP.lap, s.lapCount), (ALM.SHEDLVL.level, s.level)] fun st e => st.wr e.1 e.2

/-- LAMP_FLASH_EDGE (R235, R238): the lamps take the phase of STIME, but while ALM is quiesced or disabled (R595). -/
def execLampFlashEdge (s : State) : Result := .next (if s.working 0x20 then s.groupsDrive else s)

/-- A record is delivered to ALM (R206, R215): the newest earlier VALID record is kept. -/
def State.almRecord (s : State) (r : ResultRec) : State :=
  if !s.alive 0x20 then s
  else
    s.modAlm fun a =>
      { a with
        valid := match Keyed.get? a.inputs r.ch with
          | some p => if p.isValid then Keyed.put a.valid r.ch p else a.valid
          | none => a.valid
        inputs := Keyed.put a.inputs r.ch r }

/-- Boundary 0 of a new grid (R206, R215): no record is of the lap that begins, and the newest VALID ones stay as earlier ones. -/
def State.almNewGrid (s : State) : State :=
  s.modAlm fun a => { a with inputs := [], valid := (a.inputs.filter fun e => e.2.isValid).foldl (fun v e => Keyed.put v e.1 e.2) a.valid }

/-! ### Commits and resets -/

/-- A word of configuration in an earlier live copy. -/
def oldRd (old : WordMap) (r : Ref) : Nat := getBits (Sparse.get resetWord old r.addr).toNat r.lo r.w

/-- A commit changed words of ALM (R242): contexts restarted or cleared, which CALL and REC are told (R244), with an entry where a caution
indication ends (R246), groups cleared, and entries of kind 0x9. -/
def State.almCommitted (s : State) (old : WordMap) : State :=
  let ks := (List.range s.variant.contexts).filter fun k =>
    (List.range 8).any fun i => Sparse.get resetWord old (0x120000 + 0x40 * k + 4 * i) != s.wordAt true (0x120000 + 0x40 * k + 4 * i)
  let s1 := s.each ks fun st k =>
    let was := oldRd old (ALM.CTXA.enable k) == 1
    let now := s.flag (ALM.CTXA.enable k)
    let moved := [ALM.CTXA.category k, ALM.CTXA.src_type k, ALM.CTXA.src k, ALM.CTXA.ref k, ALM.CTXA.group k].any fun r => oldRd old r != s.rd r
    let state := st.rd (ALM.CTXA.state k)
    if (was && !now) || (now && !was) || (now && moved) then
      let status := oldRd old (ALM.CTXA.category k) == 4
      let st1 := (st.clearRun k).tellReplaced st k 0x0F s.stime status [1, 2]
      let told := was && (!now || state != 0) && !status
      if told && (!st.flooded || s.rd (ALM.CTXA.category k) == 0) && st.alive 0x20 && !st.quiesced 0x20 then
        st1.nqWrite (st1.ctxEntry ⟨k, 9, state, 0x0F⟩ s.stime)
      else st1
    else st
  s1.each (List.range 64) fun st g =>
    if oldRd old (ALM.GRP.enable g) != s.rd (ALM.GRP.enable g) then
      ((st.when (st.flag (ALM.GRP.fo_valid g)) fun x => x.irq ALM.IRQRAW.first_out).each (List.range 6) fun x i =>
        x.setReg (0x130008 + 0x20 * (g % 64) + 4 * (i % 6)) 0).modAlm fun a => { a with
          groups := Keyed.drop a.groups g, driven := Keyed.drop a.driven g }
    else st

/-- A reset clears ALM: run state, groups and the command queue (R241). -/
def State.clearAlm (s : State) : State :=
  { s with alarm := { level := s.level }, regs := s.regs.filter fun e => !(decide (0x120000 ≤ e.1) && decide (e.1 < 0x131000)) }

end Sys2Proof.Machine
end

