-- ==== Sys2Proof/Machine/Call.lean ====
section
/-!
DEFINITION. The duty-engineer call (R253 to R272): demand, the stages of a call, the personnel alarm and the duty relay.
-/

namespace Sys2Proof.Machine

/-- Changes what CALL holds. -/
def State.modCall (s : State) (f : CallState → CallState) : State := { s with call := f s.call }

/-- The enabled call points among a set of bits. -/
def State.callPoints (s : State) (mask : Nat) : List Nat := (List.range 32).filter fun j => bit mask j && s.flag (CALL.CP.enable j)

/-- The call points of an engineer. -/
def State.cpsOf (s : State) (e : Nat) : List Nat := s.callPoints (s.rd (CALL.ROSTER.cps e))

/-- Engineers on the roster (R256). -/
def State.onRoster (s : State) (e : Nat) : Bool := s.flag (CALL.ROSTER.enable e) && s.flag (CALL.ROSTER.available e)

/-- The call points that a stage drives (R259, R265). -/
def State.drivenBy (s : State) (stage : Nat) : Nat :=
  let pub := (s.callPoints 0xFFFFFFFF).filter fun j => s.flag (CALL.CP.public j)
  let officers := (s.callPoints 0xFFFFFFFF).filter fun j => s.flag (CALL.CP.officer j)
  let all := ((List.range 16).filter fun e => s.onRoster e).flatMap fun e => s.cpsOf e
  bitMask (match stage with
    | 1 => pub ++ s.cpsOf (s.rd CALL.STATE.duty) ++ s.call.oldDuty.flatMap fun e => s.cpsOf e
    | 2 => pub ++ all
    | 3 => pub ++ all ++ officers
    | _ => [])

/-- Whether every call point of a set is lost (R258, R260). -/
def State.allLost (s : State) (mask : Nat) : Bool := (s.callPoints mask).all fun j => bit (s.rd CALL.CPLOST.cp) j

/-- Whether a context counts for the demand (R253). -/
def State.counts (s : State) (k : Nat) : Bool :=
  let g := s.rd (ALM.CTXA.group k)
  bit (s.rd CALL.CFG.call_cat) (s.rd (ALM.CTXA.category k)) && bit (s.rd (CALL.GRPMASK.groups (g / 32))) (g % 32)

/-- The node's own demand (R253). -/
def State.ownDemand (s : State) : Bool :=
  s.rd CALL.STATE.pers == 3 || s.almEnabled.any fun k => s.unackedCtx k && s.counts k

/-- The demand that a node acts on: the system master's includes every received demand (R254). -/
def State.demandNow (s : State) : Bool := s.ownDemand || (s.flag CALL.CFG.master && s.call.demands.any fun e => e.2.1)

/-- The stage changes. Entering duty begins a call; entering stage officer is counted (R259, R260, R262, R271). -/
def State.toStage (s : State) (stage te : Nat) : State :=
  let s1 := s.wr CALL.STATE.stage stage
  let s2 := if stage ≠ 1 then s1.modCall fun c => { c with oldDuty := [] } else s1
  match stage with
  | 0 => s2
  | 1 => ((s2.wr CALL.TCALL.t_call te).wr CALL.STATE.officer 0 |>.irq CALL.IRQRAW.call_start).stick CALL.CALLCNT.count CALL.CNTOVF.call
      (some CALL.IRQRAW.cnt_ovf)
  | 2 => s2.irq CALL.IRQRAW.escalate
  | 3 =>
    let s3 := ((s2.irq CALL.IRQRAW.officer).wr CALL.STATE.officer 1).stick CALL.OFFCNT.count CALL.CNTOVF.off (some CALL.IRQRAW.cnt_ovf)
    if s3.allLost (s3.drivenBy 3) then s3.fault CALL.FAULT.nocp 0x0110 else s3
  | _ => (s2.irq CALL.IRQRAW.answered).modCall fun c => { c with tAns := te }

/-- The personnel alarm runs on (R263). -/
def State.persRun (s : State) (te : Nat) : State :=
  let ran := since48 te s.call.tReset
  let interval := s.rd CALL.PERS.interval * 1000000
  let s1 := if s.rd CALL.STATE.pers = 1 ∧ interval ≤ ran then (s.wr CALL.STATE.pers 2).irq CALL.IRQRAW.pers_prewarn else s
  if s1.rd CALL.STATE.pers = 2 ∧ interval + s.rd CALL.PERS2.prewarn * 1000000 ≤ ran then
    let s2 := ((s1.wr CALL.STATE.pers 3).irq CALL.IRQRAW.pers_alarm)
    let stage := s2.rd CALL.STATE.stage
    if s2.flag CALL.CFG.master && (stage == 0 || stage == 1 || stage == 4) then
      let s3 := if stage = 0 then (s2.wr CALL.STATE.officer 0).stick CALL.CALLCNT.count CALL.CNTOVF.call (some CALL.IRQRAW.cnt_ovf) else s2
      (s3.toStage 2 te).wr CALL.TCALL.t_call ((te + 2 ^ 48 - s.rd CALL.TIMES.t1 * 1000000) % 2 ^ 48)
    else s2
  else s1

/-- An offer is withdrawn (R264). -/
def State.offerFail (s : State) : State := (s.wr CALL.STATE.relay_pend 0).irq CALL.IRQRAW.relay_fail

/-- The rows of R260 that time and demand decide, tested in their order. -/
def State.stageRun (s : State) (te : Nat) (news : Bool) : State :=
  let demand := s.flag CALL.STATE.demand
  let stage : State → Nat := fun x => x.rd CALL.STATE.stage
  let ran : State → Nat := fun x => since48 te (x.rd CALL.TCALL.t_call)
  let s1 := if stage s ≠ 0 ∧ !demand then s.toStage 0 te else s
  let s2 := if stage s1 = 0 ∧ demand then s1.toStage 1 te else s1
  let s3 := if stage s2 = 4 ∧ news then s2.toStage 1 te else s2
  let s4 := if stage s3 = 1 ∧ (s.rd CALL.TIMES.t1 * 1000000 ≤ ran s3 ∨ s3.allLost (bitMask (s3.cpsOf (s3.rd CALL.STATE.duty)))) then s3.toStage 2 te else s3
  let s5 := if stage s4 = 2 ∧ (s.rd CALL.TIMES.t2 * 1000000 ≤ ran s4 ∨ s4.allLost (s4.drivenBy 2)) then s4.toStage 3 te else s4
  if stage s5 = 4 ∧ s.rd CALL.TIMES2.t3 * 1000000 ≤ since48 te s5.call.tAns then s5.toStage 3 te else s5

/-- After a release the personnel alarm is armed if arm_pin is high (R268): as soon as DIO reports the input.
(DESIGN CHOICE, notes/assumptions/77.md.) -/
def State.armLook (s : State) (te : Nat) : State :=
  if !s.call.armDue then s
  else
    let p := s.rd CALL.PERS.arm_pin
    let seen := if p < 48 then (s.dioInput p).map Prod.fst else some false
    match seen with
    | none => s
    | some high =>
      (s.wr CALL.STATE.pers (ofBool (s.flag CALL.PERS.enable && high))).modCall fun c => { c with armDue := false, tReset := te }

/-- A quiesce freezes the stage and the timers (R268). -/
def State.callFreeze (s : State) : State := s.modCall fun c => { c with frozen := some s.stime }

/-- The timers run on from where a quiesce froze them (R268). -/
def State.callThaw (s : State) : State :=
  match s.call.frozen with
  | none => s
  | some t =>
    let moved : Nat → Nat := fun x => (x + since48 s.stime t) % 2 ^ 48
    (s.wr CALL.TCALL.t_call (moved (s.rd CALL.TCALL.t_call))).modCall fun c => { c with
      tAns := moved c.tAns, tReset := moved c.tReset, tOffer := moved c.tOffer, frozen := none }

/-- One evaluation of CALL (R255); in stage officer a change of the call points that leaves only lost ones driven is a fault (R271).
(DEDUCED, notes/assumptions/41.md.)
(DEDUCED, notes/assumptions/55.md.) -/
def State.callEvaluate (s : State) : State :=
  if !s.working 0x28 then s
  else
    let te := s.stime % 2 ^ 48
    let s0 := if s.call.restart then (s.wr CALL.TCALL.t_call te).modCall fun c => { c with tAns := te, tReset := te, restart := false } else s
    let s0 := s0.armLook te
    let was := s0.rd CALL.STATE.pers
    let s1 := if s0.flag CALL.PERS.enable then s0.persRun te else s0.wr CALL.STATE.pers 0
    let s2 := s1.put CALL.STATE.demand s1.demandNow
    let news := (s.alarm.news.any fun k => s.flag (ALM.CTXA.enable k) && s.counts k) || (was != 3 && s2.rd CALL.STATE.pers == 3)
    let s3 := s2.modAlm fun a => { a with news := [] }
    let s4 := if s3.flag CALL.CFG.master then s3.stageRun te news else if s3.rd CALL.STATE.stage = 0 then s3 else s3.toStage 0 te
    let s5 := if s4.flag CALL.STATE.relay_pend && decide (s4.rd CALL.TIMES2.relay_to * 1000000 ≤ since48 te s4.call.tOffer) then s4.offerFail else s4
    let driven := s5.drivenBy (s5.rd CALL.STATE.stage)
    let lost := s.rd CALL.STATE.stage == 3 && s5.rd CALL.STATE.stage == 3 && driven != s5.rd CALL.CPDRIVE.cp && s5.allLost driven
    ((s5.wr CALL.CPDRIVE.cp driven).when lost fun t => t.fault CALL.FAULT.nocp 0x0110).modCall fun c => { c with lastTe := te }

/-- CMDSTAT of CALL. -/
def State.callStat (s : State) (st reason : Nat) : State := s.cmdStat CALL.CMDSTAT.state CALL.CMDSTAT.reason st reason

/-- An op of CALL.CMD (R261, R263, R264, R272): target holds the call point in [9:5] and the engineer in [3:0]; arg is 1 for a
TML offer, confirmation or acknowledgement.
(DEDUCED, notes/assumptions/41.md.) -/
def State.callAct (s : State) (c : QueuedCmd) : CmdAnswer × State :=
  let s := if 5 ≤ c.op ∧ c.op ≤ 7 then s.modCall fun x => { x with armDue := false } else s
  let te := s.stime % 2 ^ 48
  let cp := getBits c.target 5 5
  let eng := getBits c.target 0 4
  let refused : Nat → CmdAnswer × State := fun r => (⟨4, r⟩, s)
  let nothing : CmdAnswer × State := (⟨3, 0⟩, s)
  let pend := s.flag CALL.STATE.relay_pend
  let tgt := s.rd CALL.STATE.relay_tgt
  let pers := s.rd CALL.STATE.pers
  let armed : CmdAnswer × State := (⟨2, 0⟩, (s.wr CALL.STATE.pers 1).modCall fun x => { x with tReset := te })
  match c.op with
  | 1 =>
    let st := s.rd CALL.STATE.stage
    if bit (s.rd CALL.CPDRIVE.cp) cp && decide (1 ≤ st) && decide (st ≤ 3) then (⟨2, 0⟩, s.toStage 4 te) else refused 1
  | 2 =>
    if !s.onRoster eng || s.rd CALL.STATE.duty == eng then refused 2
    else if pend then refused 3
    else if c.arg = 1 ∧ !(s.cpsOf (s.rd CALL.STATE.duty)).contains cp then refused 4
    else (⟨2, 0⟩, ((s.wr CALL.STATE.relay_pend 1).wr CALL.STATE.relay_tgt eng).modCall fun x => { x with tOffer := te })
  | 3 =>
    if !pend then nothing
    else if !(s.cpsOf tgt).contains cp then refused 4
    else
      let old := s.rd CALL.STATE.duty
      let s1 := ((s.wr CALL.STATE.duty tgt).wr CALL.STATE.relay_pend 0).irq CALL.IRQRAW.relay_done
      (⟨2, 0⟩, if s.rd CALL.STATE.stage = 1 then s1.modCall fun x => { x with oldDuty := addTo (dropFrom x.oldDuty tgt) old } else s1)
  | 4 => if pend then (⟨2, 0⟩, s.offerFail) else nothing
  | 5 => if s.flag CALL.PERS.enable && pers == 0 then armed else nothing
  | 6 => if pers = 0 then nothing else (⟨2, 0⟩, s.wr CALL.STATE.pers 0)
  | 7 => if pers = 0 then nothing else armed
  | _ => refused 5

/-- A command of CALL is applied: CALL evaluates first, so that an escalation comes before an acknowledgement, and again after
it (R255). -/
def State.callApply (s : State) (c : QueuedCmd) : State :=
  let (a, s1) := s.callEvaluate.callAct c
  let s2 := (s1.callStat a.state a.reason).callEvaluate
  if c.forwarded then s2.uhlizSend 8 (bytesLE 1 0x28 ++ bytesLE 4 (a.reason * 256 + a.state)) else s2.replyTo c.reply 1

/-- A command enters CALL's queue (R208, R261, R268). -/
def State.callEnqueue (s : State) (c : QueuedCmd) : State :=
  if !s.alive 0x28 then s
  else if s.quiesced 0x28 then
    if s.call.queue.length ≥ 16 then
      let s1 := s.callStat 5 0
      if c.forwarded then s1.uhlizSend 8 (bytesLE 1 0x28 ++ bytesLE 4 5) else s1.replyTo c.reply 1
    else (s.callStat 1 0).modCall fun x => { x with queue := x.queue ++ [c] }
  else s.callApply c

/-- Commands that waited are applied (R268). -/
def State.callDrain (s : State) : State :=
  if s.quiesced 0x28 then s
  else (s.modCall fun x => { x with queue := [] }).each s.call.queue fun st c => st.callApply c

/-- A command for CALL from a requester, or a call message; the standby forwards it (R264, R267, R341).
(DEDUCED, notes/assumptions/42.md.) -/
def State.callCommand (s : State) (req : Requester) (op cp eng : Nat) (message : Bool := false) (reply : Option Nat := none) : State :=
  let target := cp % 32 * 32 + eng % 16
  if s.role = 3 then (s.forward 0x28 (0xCE * 2 ^ 24 + op * 2 ^ 20 + target) (ofBool message) (requesterCode req) reply).callStat 1 0
  else s.callEnqueue { op := op, target := target, arg := ofBool message, reply := reply }

/-- CALL_ACKNOWLEDGE. -/
def execCallAcknowledge (req : Requester) (cp : Nat) (s : State) : Result := s.command req 0x28 fun s => s.callCommand req 1 cp 0
/-- DUTY_OFFER. -/
def execDutyOffer (req : Requester) (cp eng : Nat) (s : State) : Result := s.command req 0x28 fun s => s.callCommand req 2 cp eng
/-- DUTY_CONFIRM. -/
def execDutyConfirm (req : Requester) (cp : Nat) (s : State) : Result := s.command req 0x28 fun s => s.callCommand req 3 cp 0
/-- OFFER_CANCEL. -/
def execOfferCancel (req : Requester) (s : State) : Result := s.command req 0x28 fun s => s.callCommand req 4 0 0
/-- PERSONNEL_ARM. -/
def execPersonnelArm (req : Requester) (s : State) : Result := s.command req 0x28 fun s => s.callCommand req 5 0 0
/-- PERSONNEL_DISARM. -/
def execPersonnelDisarm (req : Requester) (s : State) : Result := s.command req 0x28 fun s => s.callCommand req 6 0 0
/-- PERSONNEL_RESET. -/
def execPersonnelReset (req : Requester) (s : State) : Result := s.command req 0x28 fun s => s.callCommand req 7 0 0

/-- Whether a digital input reads a value. -/
def State.pinReads (s : State) (p : Nat) (v : Bool) : Bool := decide (p < 48) && (s.dioInput p).map Prod.fst == some v

/-- CALL_POINT_ACK_INPUT (R261, R263): a filtered rising edge of ack_pin; at a watch call point it also resets the personnel
alarm.
(DEDUCED, notes/assumptions/39.md.) -/
def execCallPointAckInput (cp : Nat) (s : State) : Result :=
  if cp ≥ 32 ∨ !s.flag (CALL.CP.enable cp) ∨ !s.pinReads (s.rd (CALL.CP.ack_pin cp)) true then .next s
  else
    let s1 := if s.flag (CALL.CP.watch cp) then s.callEnqueue { op := 7, target := 0, arg := 0, input := true } else s
    .next (s1.callEnqueue { op := 1, target := cp * 32, arg := 0, input := true })

/-- ARM_PIN_CHANGE (R263): an edge of arm_pin to the level it now reads. -/
def execArmPinChange (rising : Bool) (s : State) : Result :=
  if !s.flag CALL.PERS.enable ∨ !s.pinReads (s.rd CALL.PERS.arm_pin) rising then .next s
  else .next (s.callEnqueue { op := if rising then 5 else 6, target := 0, arg := 0, input := true })

/-- RESET_PIN_EDGE (R263): a rising edge of reset_pin, or of the acknowledge input of a watch call point. -/
def execResetPinEdge (watch : Option Nat) (s : State) : Result :=
  let seen := match watch with
    | none => s.pinReads (s.rd CALL.PERS.reset_pin) true
    | some cp => decide (cp < 32) && s.flag (CALL.CP.enable cp) && s.flag (CALL.CP.watch cp) && s.pinReads (s.rd (CALL.CP.ack_pin cp)) true
  if seen then .next (s.callEnqueue { op := 7, target := 0, arg := 0, input := true }) else .next s

/-- OFFER_TIMEOUT (R264): relay_to has passed since the offer. -/
def execOfferTimeout (s : State) : Result :=
  if s.working 0x28 && s.flag CALL.STATE.relay_pend then .next s.offerFail else .next s

/-- CALL_POINT_LOST (R258, R271): no presence message for cp_timeout. -/
def execCallPointLost (cp : Nat) (s : State) : Result :=
  if !s.alive 0x28 ∨ cp ≥ 32 ∨ !s.flag (CALL.CP.enable cp) ∨ s.rd (CALL.CP.kind cp) = 0 then .next s
  else if s.rd (CALL.CP.kind cp) = 2 ∧ s.rd (CALL.CP.out_pin cp) ≠ 0x3F then .next s
  else
    let s1 := (s.wr CALL.CPLOST.cp (putBits (s.rd CALL.CPLOST.cp) cp 1 1)).irq CALL.IRQRAW.cp_lost
    .next (if s1.rd CALL.STATE.stage = 3 ∧ s1.allLost (s1.rd CALL.CPDRIVE.cp) then s1.fault CALL.FAULT.nocp 0x0110 else s1)

/-- DEMAND_STALE (R254): a received demand was not refreshed within 3 s; it keeps its value. -/
def execDemandStale (nid : Nat) (s : State) : Result :=
  if s.alive 0x28 && s.flag CALL.CFG.master && (Keyed.get? s.call.demands nid).isSome then .next (s.irq CALL.IRQRAW.demand_stale) else .next s

/-- CALL after a reset that clears it (R268); one that is quiesced or disabled is frozen from its release on. -/
def State.callRelease (s : State) : State :=
  let s1 := { s with call := { armDue := true } }.wr CALL.STATE.duty (s.rd CALL.DUTYCFG.duty)
  (((s1.wr CALL.STATE.pers 0).modCall fun c => { c with tReset := s.stime % 2 ^ 48 }).armLook (s.stime % 2 ^ 48)).when (s.quiesced 0x28)
    State.callFreeze

/-- A commit of CALL that changes DUTYCFG names the duty engineer (R272). -/
def State.callCommitted (s : State) (old : WordMap) : State :=
  if oldRd old CALL.DUTYCFG.duty = s.rd CALL.DUTYCFG.duty then s else s.wr CALL.STATE.duty (s.rd CALL.DUTYCFG.duty)

end Sys2Proof.Machine
end

