-- ==== Sys2Proof/Machine/Bus.lean ====
section
/-!
DEFINITION. The bus ports (R359 to R385): states and stopping, error confinement, transmit buffers, filters and receive queues.
-/

namespace Sys2Proof.Machine

/-- What a port holds. -/
def State.port (s : State) (n : Nat) : PortState := Keyed.get {} s.ports n

/-- Changes what a port holds. -/
def State.modPort (s : State) (n : Nat) (f : PortState → PortState) : State := { s with ports := Keyed.put s.ports n (f (s.port n)) }

/-- The ports present. -/
def State.portList (s : State) : List Nat := List.range s.variant.ports

/-- Whether a port is stopped, or off with COMM: the pin STBn is high exactly then (R362). -/
def State.portStopped (s : State) (n : Nat) : Bool := !s.alive (0x30 + n) || s.portMode n == 0

/-- The port takes part in bus traffic: error-active or error-passive. -/
def State.portActive (s : State) (n : Nat) : Bool := decide (n < 4) && s.alive (0x30 + n) && (s.portMode n == 2 || s.portMode n == 3)

/-- The buffer that is on the wire. -/
def State.onWire (s : State) (n : Nat) : Option Nat :=
  if n < 4 then (List.range 3).find? fun k => s.rd (BUS.TXSTAT.state n k) == 2 else none

/-- A network is usable (R348, R366): its port is neither bus-off, stopped, in a domain that is off, nor reporting SOLO. -/
def State.usable (s : State) (n : Nat) : Bool :=
  s.alive (0x30 + n) && !(s.portMode n == 0 || s.portMode n == 4 || s.portMode n == 5) && !s.flag (BUS.STATE.solo n)

/-! ### States and error confinement -/

/-- Whether a level stops the port (R362). -/
def State.shedStops (s : State) (n : Nat) : Bool := decide (2 ≤ n) && decide (2 ≤ s.level)

/-- Whether a cause of stopping holds (R362). -/
def State.stopCause (s : State) (n : Nat) : Bool :=
  s.rd (HDR.CTL.enable (0x30 + n)) == 0 || s.flag (HDR.CTL.qreq (0x30 + n)) || s.shedStops n

/-- The port stops when a cause holds and no frame is on the wire, and integrates when the last cause ends (R362). A frame that it was
receiving is known only when it has ended (execCanFrameReceived).
(DESIGN CHOICE, notes/assumptions/44.md.) -/
def State.refreshPort (s : State) (n : Nat) : State :=
  if !s.alive (0x30 + n) then s
  else if s.stopCause n then
    if (s.onWire n).isSome then s
    else
      let s1 := ((s.wr (BUS.STATE.state n) 0).put (BUS.STATE.shedstop n) (s.shedStops n)).wr (BUS.STATE.recov n) 0
      (s1.modPort n fun p => { p with pausing := false, left := if s.portActive n then some s.stime else p.left }).when (s.portMode n != 0)
        State.showScore
  else
    let s1 := s.wr (BUS.STATE.shedstop n) 0
    if s1.portMode n = 0 then (s1.wr (BUS.STATE.state n) 1).showScore else s1

/-- Every port is refreshed: after a change of enable, qreq or level. -/
def State.refreshPorts (s : State) : State := s.each s.portList State.refreshPort

/-- A buffer becomes cancelled or failed (R369, R384). -/
def State.txOver (s : State) (n k code : Nat) : State := (s.wr (BUS.TXSTAT.state n k) code).irq (BUS.IRQRAW.tx_cancel n)

/-- An attempt that did not succeed returns its buffer to pending, unless a cancel or oneshot ends it (R371, R372). -/
def State.txReturn (s : State) (n k : Nat) : State :=
  if s.flag (BUS.TXSTAT.cancel_late n k) then s.txOver n k 4
  else if s.flag (BUS.TXCTL.oneshot n k) then s.txOver n k 5
  else s.wr (BUS.TXSTAT.state n k) 1

/-- The counters as ERRCNT shows them.
(DEDUCED, notes/assumptions/44.md.) -/
def State.showErrors (s : State) (n : Nat) : State :=
  let p := s.port n
  let off := s.portMode n == 4 || s.portMode n == 5
  let warn := decide (96 ≤ p.tec) || decide (96 ≤ p.rec_)
  let s1 := ((s.wr (BUS.ERRCNT.tec n) (if off then 255 else min p.tec 255)).wr (BUS.ERRCNT.rec n) (min p.rec_ 255)).put (BUS.ERRCNT.rp n)
    (decide (128 ≤ p.rec_))
  let s2 := if warn && !s.flag (BUS.STATE.ewarn n) then s1.irq (BUS.IRQRAW.ewarn n) else s1
  s2.put (BUS.STATE.ewarn n) warn

/-- Bus-off is entered (R365, R373): what was on the wire returns to pending and makes the first attempt later, unless a cancel has
been sampled (R372).
(DEDUCED, notes/assumptions/44.md.) -/
def State.busOff (s : State) (n : Nat) : State :=
  let s1 := match s.onWire n with
    | some k =>
      if s.flag (BUS.TXSTAT.cancel_late n k) then s.txOver n k 4
      else (s.wr (BUS.TXSTAT.state n k) 1).modPort n fun p => { p with designated := some k }
    | none => s
  ((((s1.wr (BUS.STATE.state n) (if s.flag (BUS.CFG.boauto n) then 5 else 4)).wr (BUS.STATE.recov n) 0).irq (BUS.IRQRAW.busoff n)).fault
    (BUS.FAULT.busoff n) 0x0110).stick (BUS.BUSOFFCNT.count n) (BUS.CNTOVF.busoff n) (some (BUS.IRQRAW.cnt_ovf n))

/-- The counters take new values, and the state follows them (R364, R365). -/
def State.setErrors (s : State) (n tec rec_ : Nat) : State :=
  let s1 := s.modPort n fun p => { p with tec := tec, rec_ := min rec_ 255 }
  let s2 :=
    if !(s.portMode n == 2 || s.portMode n == 3) then s1
    else if 255 < tec then s1.busOff n
    else if 128 ≤ tec ∨ 128 ≤ rec_ then (if s.portMode n = 2 then (s1.wr (BUS.STATE.state n) 3).irq (BUS.IRQRAW.epassive n) else s1)
    else s1.wr (BUS.STATE.state n) 2
  s2.showErrors n

/-- A frame acknowledged or received without error ends a run of acknowledgement errors (R366). -/
def State.ackOk (s : State) (n : Nat) : State := (s.wr (BUS.STATE.ackseq n) 0).wr (BUS.STATE.solo n) 0

/-- An acknowledgement error on an own frame (R366). -/
def State.ackError (s : State) (n : Nat) : State :=
  let a := min (s.rd (BUS.STATE.ackseq n) + 1) 255
  let s1 := s.wr (BUS.STATE.ackseq n) a
  if 64 ≤ a ∧ !s.flag (BUS.STATE.solo n) then (s1.wr (BUS.STATE.solo n) 1).irq (BUS.IRQRAW.solo n) else s1

/-! ### Transmit buffers -/

/-- A request (R370). -/
def State.txRequest (s : State) (n k : Nat) : State :=
  let st := s.rd (BUS.TXSTAT.state n k)
  if st = 1 ∨ st = 2 then s
  else
    let s1 := (s.wr (BUS.TXSTAT.attempts n k) 0).wr (BUS.TXSTAT.cancel_late n k) 0
    if (s.flag (BUS.TXCTL.fdf n k) && s.flag (BUS.TXID.rtr n k)) || (s.flag (BUS.TXCTL.brs n k) && !s.flag (BUS.TXCTL.fdf n k)) then s1.txOver n k 5
    else s1.wr (BUS.TXSTAT.state n k) 1

/-- A cancel (R372); a cancelled buffer is no longer the one that R373 designates. -/
def State.txCancel (s : State) (n k : Nat) : State :=
  match s.rd (BUS.TXSTAT.state n k) with
  | 1 => (s.txOver n k 4).modPort n fun p => { p with designated := p.designated.filter fun j => j != k }
  | 2 => s.wr (BUS.TXSTAT.cancel_late n k) 1
  | _ => s

/-- The place of a frame in arbitration: the lower wins (R371). -/
def arbitration (xtd rtr : Bool) (id : Nat) : Nat :=
  if xtd then id / 2 ^ 18 * 2 ^ 21 + 2 ^ 20 + 2 ^ 19 + id % 2 ^ 18 * 2 + ofBool rtr else id % 2 ^ 11 * 2 ^ 21 + ofBool rtr * 2 ^ 20

/-- The buffer with which the port begins a frame (R371, R373). -/
def State.txPick (s : State) (n : Nat) : Option Nat :=
  let pending := (List.range 3).filter fun k => s.rd (BUS.TXSTAT.state n k) == 1
  let place : Nat → Nat := fun k => arbitration (s.flag (BUS.TXID.xtd n k)) (s.flag (BUS.TXID.rtr n k)) (s.rd (BUS.TXID.id n k))
  match (s.port n).designated.filter fun k => pending.contains k with
  | some k => some k
  | none =>
    if s.flag (BUS.CFG.txprio n) then pending.head?
    else pending.foldl (init := none) fun b k =>
      match b with
      | none => some k
      | some j => if place k < place j then some k else some j

/-- The payload bytes that a DLC stands for (R359). -/
def dlcBytes (fdf : Bool) (dlc : Nat) : Nat :=
  if dlc ≤ 8 then dlc else if !fdf then 8 else [12, 16, 20, 24, 32, 48, 64].getD (dlc - 9) 64

/-- The smallest DLC of an FD frame that holds `n` bytes (R389). -/
def dlcFor (n : Nat) : Nat := ((List.range 16).find? fun d => decide (n ≤ dlcBytes true d)).getD 15

/-- The frame that a buffer sends: a base identifier has 11 bits, and only an FD frame an ESI bit (R359). -/
def State.bufferFrame (s : State) (n k : Nat) : CanFrame :=
  let fdf := s.flag (BUS.TXCTL.fdf n k)
  { id := s.rd (BUS.TXID.id n k) % (if s.flag (BUS.TXID.xtd n k) then 2 ^ 29 else 2 ^ 11), xtd := s.flag (BUS.TXID.xtd n k), rtr := s.flag (BUS.TXID.rtr n k), fdf := fdf,
    brs := s.flag (BUS.TXCTL.brs n k), esi := fdf && s.portMode n == 3, dlc := s.rd (BUS.TXCTL.dlc n k),
    data := ((List.range 16).flatMap fun i => bytesLE 4 (s.rd (BUS.TXDATA.data n k i))).take
      (if s.flag (BUS.TXID.rtr n k) then 0 else dlcBytes fdf (s.rd (BUS.TXCTL.dlc n k))) }

/-! ### Filters and queues -/

/-- Where a frame goes (R374): the queue, the filter, and whether under nomatch; none is rejection. -/
def State.filterOf (s : State) (n : Nat) (f : CanFrame) : Option (Nat × Nat × Bool) :=
  let id := if f.xtd then f.id % 2 ^ 29 else f.id % 2 ^ 11
  let hit := (List.range 32).find? fun i =>
    let t := s.rd (BUS.FMATCH.type_ n i)
    s.flag (BUS.FMATCH.enable n i) && (t == 2 || (t == 1 && f.xtd) || (t == 0 && !f.xtd)) &&
      (id &&& s.rd (BUS.FMASK.mask n i)) == (s.rd (BUS.FMATCH.id n i) &&& s.rd (BUS.FMASK.mask n i))
  match hit with
  | some i => let t := s.rd (BUS.FMASK.target n i); if t < 2 then some (t, i, false) else none
  | none => let t := s.rd (BUS.CFG.nomatch n); if t < 2 then some (t, 0, true) else none

/-- The port's configuration as it stood at a start of frame: before the first commit that followed it (R363). -/
def State.atStart (s : State) (old : Option (Nat × WordMap)) : State :=
  match old with
  | some e => { s with live := e.2 }
  | none => s

/-- The occupancy of a queue (R375). -/
def State.rxOccupancy (s : State) (n q : Nat) : Nat := (s.rd (BUS.RXPROD.index n q) + 64 - s.rd (BUS.RXREL.index n q)) % 64

/-- The address of an entry (R375). -/
def State.rxEntry (s : State) (n q i : Nat) : Nat := s.rd (BUS.RXQ.base n q) * 0x1000 + i % 32 * 80

/-- A frame is not stored (R377). -/
def State.rxDrop (s : State) (n q : Nat) : State :=
  (s.stick (BUS.RXDROP.count n q) (if q = 0 then BUS.CNTOVF.drop0 n else BUS.CNTOVF.drop1 n) (some (BUS.IRQRAW.cnt_ovf n))).irq (BUS.IRQRAW.rx_drop n)

/-- An entry is written through the port's stream, or dropped (R375, R377). -/
def State.rxStore (s : State) (n q : Nat) (entry : List Byte) (stime : Nat) : State :=
  if 32 ≤ s.rxOccupancy n q then s.rxDrop n q
  else
    let i := s.rd (BUS.RXPROD.index n q)
    match s.boundWrite (1 + n) (s.rxEntry n q i) entry with
    | (true, s1) =>
      ((s1.wrap (BUS.RXPROD.index n q)).irq (if q = 0 then BUS.IRQRAW.rx0 n else BUS.IRQRAW.rx1 n)).modPort n fun p =>
        { p with rxStime := Keyed.put p.rxStime (32 * q + i % 32) stime }
    | (false, s1) => (s1.rxDrop n q).fault (BUS.FAULT.rxwrite n) 0x0111

/-- An entry is formed for the queue that the filters named (R376), and written unless the engine takes up no work (R434). -/
def State.rxOffer (s : State) (n : Nat) (dest : Option (Nat × Nat × Bool)) (f : CanFrame) (tsc stime : Nat) : State :=
  match dest with
  | none => s
  | some (q, i, loose) =>
    let p := s.port n
    let seq := if q = 0 then p.seq0 else p.seq1
    let entry := bytesLE 4 (f.id % (if f.xtd then 2 ^ 29 else 2 ^ 11) + ofBool f.xtd * 2 ^ 29 + ofBool f.rtr * 2 ^ 30) ++
      bytesLE 1 (f.dlc % 16 + ofBool f.fdf * 16 + ofBool f.brs * 32 + ofBool f.esi * 64) ++ bytesLE 1 (i + ofBool loose * 128) ++ bytesLE 2 0 ++
      bytesLE 4 tsc ++ bytesLE 4 seq ++ (f.data ++ List.replicate 64 0).take 64
    let s1 := s.modPort n fun x => if q = 0 then { x with seq0 := (seq + 1) % 2 ^ 32 } else { x with seq1 := (seq + 1) % 2 ^ 32 }
    if s1.dmaHolds then { s1 with dma := { s1.dma with jobs := s1.dma.jobs ++ [.received n q (entry ++ bytesLE 8 stime)] } } else s1.rxStore n q entry stime

/-- A write of RXREL (R375): a value outside RXREL to RXPROD is ignored. -/
def State.rxRelease (s : State) (n q index : Nat) : State :=
  if index < 64 ∧ (index + 64 - s.rd (BUS.RXREL.index n q)) % 64 ≤ s.rxOccupancy n q then s.wr (BUS.RXREL.index n q) index else s

/-! ### Frame boundaries, commits and resets -/

/-- The end of a frame: a change of timing takes effect, and a stop that waited (R362, R363). -/
def State.frameOver (s : State) (n : Nat) : State :=
  let s1 := if (s.port n).retiming then
      (if s.portActive n then s.wr (BUS.STATE.state n) 1 else s).modPort n fun p => { p with retiming := false }
    else s
  s1.refreshPort n

/-- A word of the configuration before a commit. -/
def oldBus (old : WordMap) (r : Ref) : Nat := getBits (Sparse.get resetWord old r.addr).toNat r.lo r.w

/-- A commit of the port applies: bit timing and mode, and queue bases (R363). -/
def State.busCommitted (s0 : State) (n : Nat) (old : WordMap) : State :=
  let s := s0.modPort n fun p => { p with before := p.before ++ [(s0.stime, old.filter fun e => e.1 / 0x1000 == 0x30 + n)] }
  let changed := [BUS.CFG.mode n, BUS.NBT n, BUS.DBT n, BUS.TDC n].any fun r => oldBus old r != s.rd r
  let s1 := if !changed then s
    else if (s.onWire n).isSome then s.modPort n fun p => { p with retiming := true }
    else if s.portActive n then (s.wr (BUS.STATE.state n) 1).modPort n fun p => { p with left := some s.stime }
    else s
  s1.each (List.range 2) fun st q =>
    if oldBus old (BUS.RXQ.base n q) != s.rd (BUS.RXQ.base n q) then (st.wr (BUS.RXPROD.index n q) 0).wr (BUS.RXREL.index n q) 0 else st

/-- The capture of R379. -/
def State.captureTsc (s : State) (n : Nat) : State :=
  if s.alive (0x30 + n) && s.flag (HDR.CTL.enable (0x30 + n)) then (s.wr (BUS.LAPTSC.us n) (s.rd (BUS.TSC.us n))).wr (BUS.LAPSTIME.stime n) s.stime else s

/-- A reset clears the port (R382), or its power goes, which keeps TSC (R378). -/
def State.clearPort (s : State) (n : Nat) (keepTsc : Bool) : State :=
  let tsc := s.rd (BUS.TSC.us n)
  let lo := 0x30040 + 0x1000 * (n % 4)
  let s1 := { s with regs := s.regs.filter (fun e => !(decide (lo ≤ e.1) && decide (e.1 < lo + 0x7C0))), ports := Keyed.drop s.ports n }
  if keepTsc then s1.wr (BUS.TSC.us n) tsc else s1

end Sys2Proof.Machine
end

