-- ==== Sys2Proof/Machine/Sec.lean ====
section
/-!
DEFINITION. Keys, tamper and signed images (R485 to R503): the vault, the identity key and its attestations, the check of an
image, tamper sources, the security alarm and the erase.
-/

namespace Sys2Proof.Machine

/-- Changes what SEC, KEYV and TAMP hold. -/
def State.modSec (s : State) (f : SecState → SecState) : State := { s with sec := f s.sec }

/-- A role's or the system's vault slot by MSG.KEYSEL (R396): 0 system, 1 operator to 4 vendor recovery. -/
def State.keySlot (s : State) (role : Nat) : Nat := getBits (s.rd MSG.KEYSEL) (3 * role) 3

/-- The MAC key of the system or a role: none where the slot is empty; slot 6 counts as empty (R485). -/
def State.macKey (s : State) (role : Nat) : Option (List Byte) :=
  if s.keySlot role = 6 then none else (Keyed.get? s.sec.slots (s.keySlot role)).map fun k => k.take 16

/-- MSG shows whether it has a system key (R397). -/
def State.showNoKey (s : State) : State :=
  if !s.alive 0x34 then s
  else if (s.macKey 0).isSome then s.wr MSG.STAT.unauth 0
  else if s.flag MSG.STAT.unauth then s
  else (s.wr MSG.STAT.unauth 1).fault MSG.FAULT.nokey 0x0111

/-- The vault shows a slot: its valid bit and its key check value (R486). -/
def State.showSlot (s : State) (n : Nat) : State :=
  match Keyed.get? s.sec.slots n with
  | none => (s.wr KEYV.STAT.valid (s.rd KEYV.STAT.valid &&& (255 ^^^ 2 ^ n))).wr (KEYV.KCV.kcv n) 0
  | some k =>
    let kcv := if n = 6 then 0 else ofBytesLE ((cmac (k.take 16) (List.replicate 16 0)).take 3).reverse
    (s.wr KEYV.STAT.valid (s.rd KEYV.STAT.valid ||| 2 ^ n)).wr (KEYV.KCV.kcv n) kcv

/-! ### The identity key -/

/-- SEC at its release: an identity that is not valid is a fault (R501), and a boot check to come is shown as under way (R492,
R501). -/
def State.releaseSec (s : State) : State :=
  let s1 := s.showIdentity
  let s2 := if s1.flag SEC.STAT.id_valid then s1 else s1.fault SEC.FAULT.identity 0x0110
  s2.when s.rst.bootPending fun t => t.each (List.range 2) fun u i => u.wr (SEC.IMGSTAT.state i) 1

/-! ### Ends of SEC commands -/

/-- SEC.CMDSTAT. -/
def State.secStat (s : State) (st reason : Nat) : State := s.cmdStat SEC.CMDSTAT.state SEC.CMDSTAT.reason st reason

/-- The interrupt of an op that finished. -/
def State.secDone (s : State) (op : Nat) : State :=
  if op = 1 then s.irq SEC.IRQRAW.gen_done else if op = 2 then s.irq SEC.IRQRAW.attest_done else s.irq SEC.IRQRAW.img_done

/-- A running command ends refused (R489, R499). -/
def State.secEnd (s : State) (reason : Nat) : State :=
  match s.sec.running with
  | none => s
  | some op =>
    let s1 := (s.secStat 4 reason).modSec fun x => { x with running := none, hash := 0 }
    (if op = 2 then s1.each (List.range 16) fun st i => st.wr (SEC.SIG.bytes i) 0 else s1).secDone op

/-- Both images are unchecked (R499). -/
def State.uncheckImages (s : State) : State :=
  s.each (List.range 2) fun st i => ((st.wr (SEC.IMGSTAT.state i) 0).wr (SEC.IMGSTAT.reason i) 0).wr (SEC.IMGSEQ.seq i) 0

/-- SEC under a quiesce (R499). -/
def State.quiesceSec (s : State) : State := (s.secEnd 1).uncheckImages

/-- A reset of SEC (R499): its registers but the page header that survives are cleared by the caller; what runs ends. -/
def State.clearSec (s : State) (reason : Nat) : State :=
  let s1 := s.secEnd reason
  let st := s1.rd SEC.CMDSTAT
  ((s1.clearRange 0x58040 0x58800).wr SEC.CMDSTAT (if s.sec.running.isSome then st else 0)).uncheckImages

/-! ### Tamper -/

/-- Whether only BKP is powered (R510, R514). -/
def State.inBackup (s : State) : Bool := !s.domainOn .aon

/-- Whether a frequency of the pacer is checked: in Run and Doze (R493). -/
def State.pacerChecked (s : State) : Bool := s.domainOn .aon && decide (s.rd PWR.STAT.state < 2)

/-- The policy of a source (R493). -/
def State.tamperPolicy (s : State) (source : Nat) : Nat := getBits (s.rd TAMP.POLICY.policy) (2 * source) 2

/-- The time that FIRST holds: SEC, MIN, HOUR, DOW, then DATE, MONTH, YEAR, CENT (R503).
(DESIGN CHOICE, notes/assumptions/43.md.) -/
def State.firstNow (s : State) : List Byte := ((s.rtcNow.drop 1).take 8).map fun v => BitVec.ofNat 8 v

/-- A 0x1400 record (R494). -/
def State.tamperRecord (s : State) (source policy flags : Nat) : State :=
  s.recEvent 0x1400 2 (bytesLE 1 source ++ bytesLE 1 policy ++ bytesLE 1 flags ++ bytesLE 4 (s.rd (TAMP.FIRST.bcd 0)) ++
    bytesLE 4 (s.rd (TAMP.FIRST.bcd 1)))

/-- The erase (R494 to R496): slots, key data, backup bytes where selected; a running SEC command ends and SEC is reset
(R546, source 11). An erase that is still running covers another.
(DESIGN CHOICE, notes/assumptions/43.md.) -/
def State.vaultErase (s : State) (bkpm : Bool) : State :=
  if s.sec.erasing ≠ 0 then s
  else
    let s1 := (s.modSec fun x => { x with slots := [], keyData := [], erasing := 5 }).wr TAMP.STAT.erasing 1
    let s2 := s1.each (List.range 8) State.showSlot
    let s3 := (((s2.wr KEYV.STAT.erased 1).stick KEYV.ERASECNT.count KEYV.CNTOVF.erase (some KEYV.IRQRAW.cnt_event)).irq KEYV.IRQRAW.erased).fault
      KEYV.FAULT.erased 0x0110
    let s4 := s3.fault TAMP.FAULT.erase 0x0111
    let s5 := if bkpm then (s4.clearRange 0x51040 0x510B8).wr BKPM.STAT.erased 1 else s4
    let s6 := s5.wr RST.CAUSE.cause (s5.rd RST.CAUSE.cause ||| 2 ^ 11)
    if s6.powered 0x58 then
      (((((s6.clearSec 4).releaseSec).wr RST.LAST.reach 3).wr RST.LAST.page 0x58).irq RST.IRQRAW.released).showNoKey
    else s6.showNoKey

/-- The security alarm is set (R496). -/
def State.securityAlarm (s : State) : State :=
  let s1 := s.fault TAMP.FAULT.alarm 0x0110
  if s.flag TAMP.STAT.alarm then s1 else (s1.wr TAMP.STAT.alarm 1).irq TAMP.IRQRAW.alarm

/-- A source is detected (R494, R497). -/
def State.tamperDetect (s : State) (source : Nat) : State :=
  let p := s.tamperPolicy source
  if p = 0 then s
  else
    let bkp := s.inBackup
    let first := s.firstNow
    let s1 := if s.rd TAMP.STAT.latched = 0 then
        (s.wr (TAMP.FIRST.bcd 0) (ofBytesLE (first.take 4))).wr (TAMP.FIRST.bcd 1) (ofBytesLE (first.drop 4))
      else s
    let s2 := (s1.wr TAMP.STAT.latched (s1.rd TAMP.STAT.latched ||| 2 ^ source)).irq TAMP.IRQRAW.event
    let s3 := if bkp then (s2.wr TAMP.STAT.bkp (s2.rd TAMP.STAT.bkp ||| 2 ^ source)).modSec fun x => { x with bkpNew := x.bkpNew ||| 2 ^ source } else s2
    let s4 := if p = 3 then s3.vaultErase (s3.flag TAMP.CFG.bkpm_erase) else s3
    if bkp then s4
    else
      let s5 := if s4.powered 0x49 then s4.tamperRecord source p (if p = 3 then 2 else 0)
        else s4.modSec fun x => { x with untold := x.untold ||| 2 ^ source }
      if p = 2 ∨ p = 3 then s5.securityAlarm else s5

/-- Whether a source is sensed in the node's power state (R493). -/
def State.tamperSensed (s : State) (source : Nat) : Bool :=
  match source with
  | 0 => !s.inBackup || s.flag TAMP.CFG.mesh_bkp
  | 1 | 2 => true
  | 3 | 4 => !s.inBackup
  | 5 => s.pacerChecked
  | _ => false

/-- The condition of a source appears and is detected (R493, R494). -/
def State.tamperBegin (s : State) (source : Nat) : State :=
  (s.wr TAMP.STAT.active (s.rd TAMP.STAT.active ||| 2 ^ source)).tamperDetect source

/-- The condition of a source ends. -/
def State.tamperOver (s : State) (source : Nat) : State := s.wr TAMP.STAT.active (s.rd TAMP.STAT.active &&& (127 ^^^ 2 ^ source))

/-- The armed level of TAMP0 or TAMP1, source 1 or 2 (R503). -/
def State.armedLevel (s : State) (source : Nat) : Bool := if source = 1 then s.flag TAMP.CFG.tamp0_lvl else s.flag TAMP.CFG.tamp1_lvl

/-- The level of the input TAMP0 or TAMP1 that a sample finds, as it differs from the armed level or not. -/
def State.tamperPin (s : State) (source : Nat) (differs : Bool) : State :=
  s.modSec fun x => { x with pins := if s.armedLevel source != differs then x.pins ||| 2 ^ source else x.pins &&& (127 ^^^ 2 ^ source) }

/-- TAMPER_DETECT: a source's condition appears and is detected, or ends. The pacer source is detected by its own check here
and by PACER_STOP, and does not end while the pacer stands still; authentication failures are detected where they are counted
(R493).
(DESIGN CHOICE, notes/assumptions/43.md.) -/
def execTamperDetect (source : Nat) (present : Bool) (s : State) : Result :=
  if !s.tamperSensed source then .next s
  else
    let s1 := if source = 1 ∨ source = 2 then s.tamperPin source present else s
    if present then .next (s1.tamperBegin source)
    else if source = 5 ∧ s.flag RTC.STAT.rcfb then .next s1
    else .next (s1.tamperOver source)

/-- A sample of TAMP0 and TAMP1, once a ms (R493): an input whose armed level was committed anew is judged by the level it has, and
detected at the second sample that finds it to differ.
(DESIGN CHOICE, notes/assumptions/43.md.) -/
def State.tamperSample (s : State) : State :=
  s.each [1, 2] fun st i =>
    if bit st.sec.pins i == st.armedLevel i then
      (if bit (st.rd TAMP.STAT.active) i then st.tamperOver i else st).modSec fun x => { x with pinsBefore := x.pinsBefore &&& (127 ^^^ 2 ^ i) }
    else if bit (st.rd TAMP.STAT.active) i then st
    else if bit st.sec.pinsBefore i then st.tamperBegin i
    else st.modSec fun x => { x with pinsBefore := x.pinsBefore ||| 2 ^ i }

/-- After the release that follows a Backup, every source latched in it is recorded, and alarms by its policy (R497). -/
def State.tellBackup (s : State) : State :=
  let l := setBits s.sec.bkpNew 7
  (s.each l fun st i =>
    let p := st.tamperPolicy i
    let s1 := st.tamperRecord i p (if p = 3 then 3 else 1)
    if p = 2 ∨ p = 3 then s1.securityAlarm else s1).modSec fun x => { x with bkpNew := 0 }

/-- The sources detected in Stow are recorded once REC is powered again (R494).
(DESIGN CHOICE, notes/assumptions/43.md.) -/
def State.tellStow (s : State) : State :=
  (s.each (setBits s.sec.untold 7) fun st i =>
    st.tamperRecord i (st.tamperPolicy i) (if st.tamperPolicy i = 3 then 2 else 0)).modSec fun x => { x with untold := 0 }

/-- The MAC failures of the last 60,000 ms of operating time, of which the newest 31 are kept, as many as AUTHWIN.count can hold
(R493, R503). -/
def State.failuresNow (s : State) (l : List Nat) : List Nat :=
  let m := l.filter fun t => decide (s.optime ≤ t + 60000)
  m.drop (m.length - 31)

/-- A MAC failure (R399, R493, R503): the 16th within 60,000 ms of operating time after the first of those 16 is a tamper event, and
the condition lasts while 16 lie in the window. -/
def State.macFailed (s : State) : State :=
  let l := s.failuresNow (s.sec.failures ++ [s.optime])
  let s1 := (s.modSec fun x => { x with failures := l }).wr TAMP.AUTHWIN.count l.length
  if 16 ≤ l.length ∧ !bit (s.rd TAMP.STAT.active) 6 then s1.tamperBegin 6 else s1

/-- The window of MAC failures moves on with operating time. -/
def State.authWindow (s : State) : State :=
  let l := s.failuresNow s.sec.failures
  let s1 := if l.length = s.sec.failures.length then s else (s.modSec fun x => { x with failures := l }).wr TAMP.AUTHWIN.count l.length
  if l.length < 16 ∧ bit (s.rd TAMP.STAT.active) 6 then s1.tamperOver 6 else s1

/-- A write of 1 to STAT.alarm: it clears only while no source that alarms is active (R496). -/
def State.alarmClear (s : State) : State :=
  let busy := (List.range 7).any fun i => bit (s.rd TAMP.STAT.active) i && decide (2 ≤ s.tamperPolicy i)
  if busy then s else s.wr TAMP.STAT.alarm 0

/-- SECURITY_ALARM_CLEAR. -/
def execSecurityAlarmClear (req : Requester) (s : State) : Result := s.command req 0x5A State.alarmClear

/-! ### The vault -/

/-- KEYV.CMDSTAT; every command ends with KEYDATA cleared (R487). -/
def State.keyEnd (s : State) (st reason : Nat) : State :=
  (s.cmdStat KEYV.CMDSTAT.state KEYV.CMDSTAT.reason st reason).modSec fun x => { x with keyData := [] }

/-- A write of KEYV.CMD with key 0x6B (R487, R495). -/
def State.keyCommand (s : State) (op slot : Nat) : State :=
  if s.sec.erasing ≠ 0 then s.keyEnd 4 4
  else
    match op with
    | 1 =>
      if !s.flag KEYV.CMDEN.load_en then s.keyEnd 4 1
      else if slot = 6 then s.keyEnd 4 2
      else if !((List.range 8).all fun i => (Keyed.get? s.sec.keyData i).isSome) then s.keyEnd 4 3
      else
        let bs := (List.range 8).flatMap fun i => wordBytes (Keyed.get 0 s.sec.keyData i)
        let s1 := s.modSec fun x => { x with slots := Keyed.put x.slots slot bs }
        (((s1.showSlot slot).irq KEYV.IRQRAW.loaded).keyEnd 2 0).showNoKey
    | 2 =>
      if !s.flag KEYV.CMDEN.load_en then s.keyEnd 4 1
      else
        let s1 := s.modSec fun x => { x with slots := Keyed.drop x.slots slot }
        let s2 := ((s1.showSlot slot).irq KEYV.IRQRAW.loaded).keyEnd 2 0
        (if slot = 6 ∧ s2.powered 0x58 then s2.showIdentity else s2).showNoKey
    | 3 =>
      let s1 := (s.vaultErase (s.flag TAMP.CFG.bkpm_erase)).keyEnd 2 0
      s1.tamperRecord 0x7F 0 2
    | _ => s.keyEnd 4 5

/-- KEY_LOAD. -/
def execKeyLoad (req : Requester) (slot : Nat) (s : State) : Result := s.command req 0x59 fun s => s.keyCommand 1 (slot % 8)
/-- KEY_CLEAR. -/
def execKeyClear (req : Requester) (slot : Nat) (s : State) : Result := s.command req 0x59 fun s => s.keyCommand 2 (slot % 8)
/-- VAULT_ERASE. -/
def execVaultErase (req : Requester) (s : State) : Result := s.command req 0x59 fun s => s.keyCommand 3 0

/-! ### SEC commands -/

/-- The bytes that an attestation signs (R489).
(DESIGN CHOICE, notes/assumptions/43.md.) -/
def State.attestBytes (s : State) : List Byte :=
  ((List.range 8).flatMap fun i => bytesLE 4 (s.rd (SEC.CHAL.bytes i))) ++ bytesLE 2 s.straps.nid ++ bytesLE 1 s.variant.code ++
    bytesLE 3 s.powerCycles ++ bytesLE 5 s.optime

/-- A write of SEC.CMD with key 0x5E (R488, R489, R491). -/
def State.secCommand (s : State) (op : Nat) : State :=
  if s.sec.running.isSome ∨ s.quiesced 0x58 ∨ s.rst.bootPending then s.secStat 4 1
  else
    match op with
    | 1 =>
      if !s.factoryHold then s.secStat 4 2
      else
        let (w, s1) := s.drawBits 8 32
        let (x, s2) := s1.drawBits 8 32
        let key := bytesLE 32 w
        let d := 1 + x % (n256 - 1)
        let s3 := (s2.modSec fun y => { y with slots := Keyed.put y.slots 6 key }).showSlot 6
        (((s3.storeIdentity (keyWrap key (bytesBE 32 d))).showIdentity).secStat 2 0).secDone 1
    | 2 =>
      if !s.flag SEC.STAT.id_valid then s.secStat 4 3
      else (s.secStat 1 0).modSec fun x => { x with running := some 2, hash := ofBytesBE (sha256 s.attestBytes) }
    | 3 | 4 =>
      ((s.secStat 1 0).modSec fun x => { x with running := some op }).each [(SEC.IMGSTAT.state (op - 3), 1), (SEC.IMGSTAT.reason (op - 3), 0),
        (SEC.IMGSEQ.seq (op - 3), 0)] fun st e => st.wr e.1 e.2
    | _ => s.secStat 4 5

/-- IDENTITY_GENERATE. -/
def execIdentityGenerate (req : Requester) (s : State) : Result := s.command req 0x58 fun s => s.secCommand 1
/-- ATTEST. -/
def execAttest (req : Requester) (s : State) : Result := s.command req 0x58 fun s => s.secCommand 2
/-- VERIFY_IMAGE_A. -/
def execVerifyImageA (req : Requester) (s : State) : Result := s.command req 0x58 fun s => s.secCommand 3
/-- VERIFY_IMAGE_B. -/
def execVerifyImageB (req : Requester) (s : State) : Result := s.command req 0x58 fun s => s.secCommand 4

/-- ATTEST_DONE (R489): the signature under a fresh number of the signer's own. -/
def execAttestDone (s : State) : Result :=
  if s.sec.running ≠ some 2 then .next s
  else
    let (x, s1) := s.drawBits 8 32
    let s2 := s1.modSec fun y => { y with running := none, hash := 0 }
    match s1.identity with
    | none => .next ((s1.secEnd 3))
    | some d =>
      match ecdsaSign d (1 + x % (n256 - 1)) s1.sec.hash with
      | none => .next (s1.secEnd 3)
      | some (r, t) =>
        .next ((((s2.showBytes SEC.SIG.bytes 0 (bytesBE 32 r)).showBytes SEC.SIG.bytes 8 (bytesBE 32 t)).secStat 2 0).secDone 2)

/-! ### Images -/

/-- Where an image's region begins (R436). -/
def imageBase (i : Nat) : Nat := if i = 0 then 0 else 0x200000

/-- Where the digest of a signer index lies in the factory data (R490). -/
def signerDigestOffset (i : Nat) : Nat := 0x1E00000 + Config.signerDigestAt i % 0xFFFE0

/-- The digest of a signer index (R490). -/
def State.signerDigest (s : State) (i : Nat) : List Byte := s.storeBytes (signerDigestOffset i) 32

/-- The check of R491: the reason of the first condition that fails, or 0.
(DESIGN CHOICE, notes/assumptions/22.md.) -/
def State.imageReason (s : State) (i : Nat) : Nat :=
  let b := imageBase i
  let h := s.storeBytes b 256
  let part : Nat → Nat → List Byte := fun o n => (h.drop o).take n
  let len := ofBytesLE (part 12 4)
  let digest := s.signerDigest (ofBytesLE (part 7 1))
  if ofBytesLE (part 0 4) ≠ 0x474D4954 ∨ ofBytesLE (part 4 2) ≠ 1 then 1
  else if ofBytesLE (part 6 1) ≠ s.variant.code then 2
  else if len < 4 ∨ 2096896 < len ∨ len % 4 ≠ 0 then 3
  else if 1 < ofBytesLE (part 7 1) ∨ sha256 (part 48 64) ≠ digest ∨ digest = List.replicate 32 0 then 4
  else if sha256 (s.storeBytes (b + 256) len) ≠ part 16 32 then 5
  else if !ecdsaVerify (ofBytesBE (part 48 32)) (ofBytesBE (part 80 32)) (ofBytesBE (part 112 32)) (ofBytesBE (part 144 32))
      (ofBytesBE (sha256 (part 0 112))) then 6
  else if !s.alive 0x48 ∨ !s.storeOk b (256 + len) ∨ !s.storeOk (signerDigestOffset (ofBytesLE (part 7 1))) 32 then 8
  else if s.rd (SEC.IMGSTAT.reason i) = 7 then 7
  else 0

/-- What the reads of a check of an image leave (R435): its header, the digest of its signer, and its body. -/
def State.imageSee (s : State) (i : Nat) : State :=
  let b := imageBase i
  let len := s.storeNum (b + 12) 4
  let signer := s.storeNum (b + 7) 1
  let s1 := s.storeSee b 256
  let s2 := if signer < 2 then s1.storeSee (signerDigestOffset signer) 32 else s1
  if len ≤ 2096896 then s2.storeSee (b + 256) len else s2

/-- The check of an image ends: IMGSTAT and IMGSEQ. -/
def State.imageChecked (s : State) (i : Nat) : State :=
  let r := s.imageReason i
  let s0 := s.imageSee i
  let s1 := (s0.wr (SEC.IMGSTAT.reason i) r).wr (SEC.IMGSTAT.state i) (if r = 0 then 2 else 3)
  s1.wr (SEC.IMGSEQ.seq i) (if r = 0 then s.storeNum (imageBase i + 8) 4 else 0)

/-! ### The pacer and BKP -/

/-- PACER_STOP (R472): a tamper source too (R493). -/
def execPacerStop (s : State) : Result :=
  .next ((s.setOsf.wr RTC.STAT.rcfb 1).tamperBegin 5)

/-- PACER_RECOVERED (R472). -/
def execPacerRecovered (s : State) : Result :=
  .next ((s.wr RTC.STAT.rcfb 0).tamperOver 5)

/-- BKP_POWER_UP (R468, R481, R493, R556): the pages of BKP take their reset values, the vault is empty, and RST.CAUSE is
cleared but for the power-on bit. -/
def execBkpPowerUp (s : State) : Result :=
  let s1 := (s.clearRange 0x50000 0x52000).clearRange 0x59000 0x5B000
  .next (({ s1 with rtc := {}, sec := {} }).wr RST.CAUSE.cause 1).setOsf

end Sys2Proof.Machine
end

