-- ==== Sys2Proof/Machine/Tml.lean ====
section
/-!
DEFINITION. How MSG forms, authenticates, routes and queues TML frames and loads them into transmit buffers (R386 to R403).
-/

namespace Sys2Proof.Machine

/-- Changes what MSG holds. -/
def State.modMsg (s : State) (f : MsgState → MsgState) : State := { s with msg := f s.msg }

/-- The use of a port (R401): 0 off, 1 network, 2 panel, 3 leg. -/
def State.portUse (s : State) (n : Nat) : Nat := getBits (s.rd MSG.PORTCFG) (8 * n) 2

/-- The present ports of a use. -/
def State.portsOf (s : State) (use : Nat) : List Nat := s.portList.filter fun n => s.portUse n == use

/-- The segment of an address (R32). -/
def segmentOf (nid : Nat) : Nat := nid / 32 % 32

/-- The segment at the legs: the nearest one that routing reaches through them (R402).
(DEDUCED, notes/assumptions/44.md.) -/
def State.legSegment (s : State) : Option Nat :=
  let l := (List.range 32).filter fun d => s.flag (MSG.ROUTE.enable d) && s.flag (MSG.ROUTE.side d)
  (List.range 3).findSome? fun h => l.find? fun d => s.rd (MSG.ROUTE.hops d) == h

/-- Whether a frame crosses to a side (R403): a broadcast by the far segment's routing entry, a frame with a destination by the
entry of the destination's segment. -/
def State.crosses (s : State) (toLegs : Bool) (cls source : Nat) (dest : Option Nat) : Bool :=
  match dest with
  | some d => s.flag (MSG.ROUTE.enable (segmentOf d)) && s.flag (MSG.ROUTE.side (segmentOf d)) == toLegs
  | none =>
    match (if toLegs then s.legSegment else some (segmentOf s.straps.nid)) with
    | none => false
    | some f => segmentOf source != f && s.flag (MSG.ROUTE.enable f) && bit (s.rd (MSG.ROUTE.fwd f)) cls

/-- The ports on which MSG sends a message of its own (R401, R403). -/
def State.sendPorts (s : State) (cls : Nat) (dest : Option Nat) : List Nat :=
  s.portsOf 1 ++
    ((s.portsOf 2).filter fun n => bit (s.rd (if n = 3 then MSG.PANELMASK.bus3 else MSG.PANELMASK.bus2)) cls) ++
    (if s.crosses true cls s.straps.nid dest then s.portsOf 3 else [])

/-- The queue of a port. -/
def State.queueOf (s : State) (n : Nat) : List TmlFrame := Keyed.get [] s.msg.queues n

/-- Sets the queue of a port. -/
def State.setQueue (s : State) (n : Nat) (q : List TmlFrame) : State := s.modMsg fun m => { m with queues := Keyed.put m.queues n q }

/-- A frame is dropped for a port (R368, R401). -/
def State.txDrop (s : State) : State := s.stick MSG.TXDROP.count MSG.CNTOVF.txdrop (some MSG.IRQRAW.cnt_ovf)

/-- A frame enters the queues of its ports; a full queue drops it (R401). -/
def State.enqueue (s : State) (ports : List Nat) (f : TmlFrame) : State :=
  s.each ports fun st n =>
    if 64 ≤ (st.queueOf n).length then st.txDrop.fault MSG.FAULT.qfull 0x0112 else st.setQueue n (st.queueOf n ++ [f])

/-- The class of an identifier (R387). -/
def tmlClass (id : Nat) : Nat := id / 2 ^ 26 % 8
/-- The source of an identifier. -/
def tmlSource (id : Nat) : Nat := id / 2 ^ 16 % 1024
/-- The type of an identifier, with its unauthenticated bit. -/
def tmlType (id : Nat) : Nat := id / 256 % 256

/-- The payload of a frame (R389): body, zeros, FV, MAC. -/
def tmlPayload (body fv mac : List Byte) : List Byte :=
  let n := dlcBytes true (dlcFor (body.length + 8))
  body ++ List.replicate (n - 8 - body.length) 0 ++ fv ++ mac

/-- The types whose messages are fragmented (R390). -/
def fragmented (type : Nat) : Bool := type == 0x20 || type == 0x21 || type == 0x28

/-- The body that the MAC covers: of a fragment, everything before FV, since only that tells a receiver where it ends. -/
def tmlBody (type : Nat) (body : List Byte) : List Byte :=
  if fragmented type then body ++ List.replicate (dlcBytes true (dlcFor (body.length + 8)) - 8 - body.length) 0 else body

/-- The MAC of a frame (R396). -/
def tmlMac (key : List Byte) (id : Nat) (body : List Byte) (fv : Nat) : List Byte := (cmac key (bytesLE 4 id ++ body ++ bytesLE 4 fv)).take 4

/-- The unit of freshness values now (R398).
(DEDUCED, notes/assumptions/45.md.) -/
def State.fvUnit (s : State) : Nat := s.stime / 4096 % 2 ^ 20

/-- Whether a message may be formed now: of its class none waits, and the unit has a value left (R398). -/
def State.fvFree (s : State) (cls : Nat) : Bool :=
  let (u, c) := Keyed.get (0, 0) s.msg.units cls
  u != s.fvUnit || decide (c < 4096)

/-- The types that a node without a system key sends (R397). -/
def unauthTypes : List Nat := [0x01, 0x03, 0x04, 0x18, 0x19, 0x1A]

/-- A message is formed and enters its queues (R389, R396 to R398). -/
def State.formTml (s : State) (o : Outgoing) : State :=
  let stamp := s.msg.formed
  let s1 := s.modMsg fun m => { m with formed := stamp + 1 }
  let id : Nat → Nat := fun type => o.cls * 2 ^ 26 + s.straps.nid * 2 ^ 16 + type * 256 + o.seq
  match s.macKey 0 with
  | none =>
    if unauthTypes.contains o.type then
      s1.enqueue o.ports { id := id (o.type + 128), data := tmlPayload o.body (bytesLE 4 0) (bytesLE 4 0), stamp := stamp }
    else s
  | some key =>
    let (u, c) := Keyed.get (0, 0) s.msg.units o.cls
    let c' := if u = s.fvUnit then c else 0
    let fv := s.fvUnit * 4096 + c'
    let s2 := s1.modMsg fun m => { m with
      units := Keyed.put m.units o.cls (s.fvUnit, c' + 1)
      recent := Keyed.put m.recent o.cls ((fv :: Keyed.get [] m.recent o.cls).take 16) }
    s2.enqueue o.ports { id := id o.type, data := tmlPayload o.body (bytesLE 4 fv) (tmlMac key (id o.type) (tmlBody o.type o.body) fv), stamp := stamp }

/-- A message of a class has to wait for the next unit, behind those that wait already (R398). -/
def State.fvWaits (s : State) (cls : Nat) : Bool :=
  (s.macKey 0).isSome && (!s.fvFree cls || s.msg.waiting.any fun w => w.cls == cls)

/-- A message is formed, or waits for the next unit behind those of its class (R398). -/
def State.formOrWait (s : State) (o : Outgoing) : State :=
  if s.fvWaits o.cls then
    s.modMsg fun m => { m with waiting := m.waiting ++ [o] }
  else s.formTml o

/-- Whether messages of a type may leave the node: R25 and R391 restrict a node that does not hold the baton, which still tells a
requester what became of its COMMAND (R393); R33 restricts one that found its address used twice.
(DEDUCED, notes/assumptions/42.md.) -/
def State.mayType (s : State) (type : Nat) : Bool :=
  (s.holds || [0x08, 0x18, 0x19, 0x1A, 0x21].contains type) && (!s.flag MSG.STAT.dupaddr || type == 0x21)

/-- Whether the node sends messages of a type now. -/
def State.maySend (s : State) (type : Nat) : Bool := s.working 0x34 && s.mayType type

/-- Whether a formed frame may still leave the node: one of its own by its type, one that it forwards while it holds the baton and its
address is not used twice (R25, R33, R403). -/
def State.frameAllowed (s : State) (f : TmlFrame) : Bool :=
  if tmlSource f.id = s.straps.nid % 1024 then s.mayType (tmlType f.id % 128) else s.holds && !s.flag MSG.STAT.dupaddr

/-- A single-frame message (R387, R391) on given ports. -/
def State.sendOn (s : State) (ports : List Nat) (cls type : Nat) (body : List Byte) : State :=
  if !s.maySend type then s
  else
    let seq := Keyed.get 0 s.msg.seqs type
    (s.modMsg fun m => { m with seqs := Keyed.put m.seqs type ((seq + 1) % 256) }).formOrWait ⟨cls, type, seq, ports, body⟩

/-- A single-frame message. -/
def State.sendTml (s : State) (cls type : Nat) (dest : Option Nat) (body : List Byte) : State := s.sendOn (s.sendPorts cls dest) cls type body

/-- A fragmented message: the bodies of its fragments (R387).
(DEDUCED, notes/assumptions/45.md.) -/
def State.sendFragments (s : State) (cls type : Nat) (dest : Option Nat) (bodies : List (List Byte)) : State :=
  if !s.maySend type then s
  else
    let ports := s.sendPorts cls dest
    s.each (bodies.zip (List.range bodies.length)) fun st (b, i) =>
      st.formOrWait ⟨cls, type, i % 128 + (if i + 1 < bodies.length then 128 else 0), ports, b⟩

/-- Messages that waited are formed in the next unit (R398). -/
def State.formWaiting (s : State) : State :=
  let w := s.msg.waiting
  if w.isEmpty then s else (s.modMsg fun m => { m with waiting := [] }).each w State.formOrWait

/-! ### Loading transmit buffers -/

/-- The network or leg port that carries the same segment as a port (R398, R401). -/
def State.twin (s : State) (n : Nat) : Option Nat :=
  let t := if n % 2 = 0 then n + 1 else n - 1
  if t < s.variant.ports && (s.portUse n == 1 || s.portUse n == 3) && s.portUse t == s.portUse n then some t else none

/-- The frames that MSG has in a port's buffers, pending or on the wire. -/
def State.inBuffers (s : State) (n : Nat) : List TmlFrame :=
  (List.range 3).filterMap fun k =>
    let st := s.rd (BUS.TXSTAT.state n k)
    if st = 1 ∨ st = 2 then Keyed.get? s.msg.loaded (3 * n + k) else none

/-- Whether a frame may be loaded on a port now (R398): no frame of its class is ahead of it there, and no older one is
pending on the port's twin, unless that is bus-off, stopped or reporting SOLO. -/
def State.mayLoad (s : State) (n : Nat) (f : TmlFrame) : Bool :=
  let older : TmlFrame → Bool := fun g => tmlClass g.id == tmlClass f.id && decide (g.stamp < f.stamp)
  !((s.inBuffers n).any fun g => tmlClass g.id == tmlClass f.id) &&
    match s.twin n with
    | some t => !s.usable t || !((s.inBuffers t ++ s.queueOf t).any older)
    | none => true

/-- The bit rate switch is used (R386). -/
def State.usesBrs (s : State) (n : Nat) : Bool :=
  decide ((s.rd (BUS.DBT.brp n) + 1) * (s.rd (BUS.DBT.tseg1 n) + s.rd (BUS.DBT.tseg2 n) + 3) <
    (s.rd (BUS.NBT.brp n) + 1) * (s.rd (BUS.NBT.tseg1 n) + s.rd (BUS.NBT.tseg2 n) + 3))

/-- A frame is loaded into a buffer and requested; a copy pending on a twin that is bus-off is cancelled (R401).
(DEDUCED, notes/assumptions/45.md.) -/
def State.loadFrame (s : State) (n k : Nat) (f : TmlFrame) : State :=
  let s1 := (s.wr (BUS.TXID n k) (2 ^ 29 + f.id % 2 ^ 29)).wr (BUS.TXCTL n k) (ofBool (s.usesBrs n) * 64 + 32 + dlcFor f.data.length)
  let s2 := s1.each (List.range 16) fun st i => st.wr (BUS.TXDATA.data n k i) (ofBytesLE ((f.data.drop (4 * i)).take 4))
  let s3 := (s2.txRequest n k).modMsg fun m => { m with loaded := Keyed.put m.loaded (3 * n + k) f }
  match s.twin n with
  | none => s3
  | some t =>
    if s.portMode t = 4 ∨ s.portMode t = 5 then
      s3.each (List.range 3) fun st j =>
        if st.rd (BUS.TXSTAT.state t j) = 1 ∧ (Keyed.get? st.msg.loaded (3 * t + j)).map TmlFrame.stamp = some f.stamp then
          (st.txCancel t j).modMsg fun m => { m with loaded := Keyed.drop m.loaded (3 * t + j) }
        else st
    else s3

/-- MSG loads one frame on a port, if it owns a free buffer and a frame may go (R367, R398, R401). -/
def State.pumpPort (s : State) (n : Nat) : State :=
  let free := (List.range 3).find? fun k => !bit (s.rd (BUS.CFG.txown n)) k && s.rd (BUS.TXSTAT.state n k) != 1 && s.rd (BUS.TXSTAT.state n k) != 2
  if !s.alive (0x30 + n) then s
  else
    match free with
    | none => s
    | some k =>
      let q := s.queueOf n
      let ready := (q.zip (List.range q.length)).find? fun (f, i) =>
        !((q.take i).any fun g => tmlClass g.id == tmlClass f.id) && s.mayLoad n f
      match ready with
      | none => s
      | some (f, i) => (s.setQueue n (q.eraseIdx i)).loadFrame n k f

/-- New variable records are sent to the system master (R391), in fragments of 56 bytes. -/
def State.formRecords (s : State) : State :=
  let l := s.msg.records
  if l.isEmpty then s
  else (s.modMsg fun m => { m with records := [] }).each l fun st r => st.sendFragments 6 0x28 (some (st.rd MSG.CFG.master_nid)) (pieces 56 6 r)

/-- MSG loads what it can (R398); a quiesced MSG loads nothing more (R415).
(DEDUCED, notes/assumptions/45.md.) -/
def State.pump (s0 : State) : State :=
  let s := s0.formRecords
  if !s.working 0x34 then s else s.each (List.range 3) fun st _ => st.each st.portList State.pumpPort

/-! ### What becomes of loaded frames -/

/-- What waits to be sent and may no longer leave the node is discarded (R25, R33): records, messages and queued frames, and frames
pending in transmit buffers, which are cancelled. A frame on the wire is sent.
(DESIGN CHOICE, notes/assumptions/84.md.) -/
def State.purge (s : State) : State :=
  let s1 := s.modMsg fun m => { m with
    queues := m.queues.map fun e => (e.1, e.2.filter s.frameAllowed)
    waiting := m.waiting.filter fun o => s.mayType o.type
    records := if s.mayType 0x28 then m.records else [] }
  s1.each s.portList fun st n => st.each (List.range 3) fun x k =>
    match Keyed.get? x.msg.loaded (3 * n + k) with
    | some f =>
      if x.rd (BUS.TXSTAT.state n k) = 1 ∧ !s.frameAllowed f then
        (x.txCancel n k).modMsg fun m => { m with loaded := Keyed.drop m.loaded (3 * n + k) }
      else x
    | none => x

/-- A loaded frame was sent on its port. -/
def State.msgSent (s : State) (n k : Nat) : State :=
  match Keyed.get? s.msg.loaded (3 * n + k) with
  | none => s
  | some f =>
    let mark : TmlFrame → TmlFrame := fun g => if g.stamp = f.stamp then { g with sentOn := n :: g.sentOn } else g
    let s1 := (s.wrap MSG.TXCNT.count).modMsg fun m => { m with
      loaded := (Keyed.drop m.loaded (3 * n + k)).map fun e => (e.1, mark e.2)
      queues := m.queues.map fun e => (e.1, e.2.map mark) }
    if tmlType f.id = 0x10 then
      { s1 with tsync := { s1.tsync with sent := Keyed.put s1.tsync.sent n (ofBytesLE ((f.data.drop 1).take 1), (s.port n).sofStime) } }
    else s1

/-- A loaded frame's buffer was taken from MSG and ended cancelled: the frame stays in the queue, or is dropped for the port
(R368). -/
def State.msgTaken (s : State) (n k : Nat) : State :=
  match Keyed.get? s.msg.loaded (3 * n + k) with
  | none => s
  | some f =>
    let s1 := s.modMsg fun m => { m with loaded := Keyed.drop m.loaded (3 * n + k) }
    if s.rd (BUS.CFG.txown n) = 7 then s1.txDrop else s1.setQueue n (f :: s1.queueOf n)

/-- A commit changes the writers of buffers (R368). -/
def State.ownersCommitted (s : State) (n : Nat) (old : WordMap) : State :=
  let was := oldBus old (BUS.CFG.txown n)
  s.each (List.range 3) fun st k =>
    if bit was k = bit (s.rd (BUS.CFG.txown n)) k then st
    else
      let st1 := st.txCancel n k
      if st.rd (BUS.TXSTAT.state n k) = 1 ∧ !bit was k then st1.msgTaken n k else st1

/-- A network port enters bus-off: the other takes what was pending there and it has not yet sent, ahead of its queue; a copy
that it already carries lets this one be cancelled (R401). -/
def State.msgBusOff (s : State) (n : Nat) : State :=
  match s.twin n with
  | none => s
  | some t =>
    if s.portUse n ≠ 1 then s
    else
      let mine := (List.range 3).filterMap fun k =>
        if s.rd (BUS.TXSTAT.state n k) = 1 then (Keyed.get? s.msg.loaded (3 * n + k)).map fun f => (k, f) else none
      let carried := (s.inBuffers t).map TmlFrame.stamp
      let s1 := s.each (mine.filter fun e => carried.contains e.2.stamp) fun st e =>
        (st.txCancel n e.1).modMsg fun m => { m with loaded := Keyed.drop m.loaded (3 * n + e.1) }
      let move := (mine.map Prod.snd).filter fun f => !f.sentOn.contains t && !carried.contains f.stamp
      let sorted := (List.range move.length).foldl (init := (move, ([] : List TmlFrame))) fun (l, out) _ =>
        match l with
        | [] => (l, out)
        | f :: fs =>
          let m := fs.foldl (fun b g => if g.stamp < b.stamp then g else b) f
          (l.erase m, out ++ [m])
      (s1.setQueue t (sorted.2 ++ (s1.queueOf t).filter fun g => !(sorted.2.any fun f => f.stamp == g.stamp))).pump

end Sys2Proof.Machine
end

