-- ==== Sys2Proof/Machine/Port.lean ====
section
/-!
DEFINITION. The commands of the bus ports (R359 to R382).
-/

namespace Sys2Proof.Machine

/-! ### Commands -/

/-- A register of a buffer is host software's (R367); else the write has no effect and is a fault. -/
def State.txHost (s : State) (n k : Nat) (f : State → State) : State :=
  if bit (s.rd (BUS.CFG.txown n)) k then f s else s.fault (BUS.FAULT.txown n) 0x0113

/-- TX_REQUEST (R370). -/
def execTxRequest (req : Requester) (port buffer : Nat) (s : State) : Result :=
  if port < 4 ∧ buffer < 3 then s.command req (0x30 + port) fun s => s.txHost port buffer fun s => s.txRequest port buffer
  else .next { s with status := Status.unmapped.code }

/-- TX_CANCEL (R372). -/
def execTxCancel (req : Requester) (port buffer : Nat) (s : State) : Result :=
  if port < 4 ∧ buffer < 3 then s.command req (0x30 + port) fun s => s.txHost port buffer fun s => s.txCancel port buffer
  else .next { s with status := Status.unmapped.code }

/-- TX_ATTEMPT_START (R371): a point at which the port may begin a frame. -/
def execTxAttemptStart (port : Nat) (s : State) : Result :=
  if !s.portActive port ∨ s.rd (BUS.CFG.mode port) = 1 ∨ (s.port port).pausing ∨ (s.onWire port).isSome then .next s
  else
    match s.txPick port with
    | none => .next s
    | some k =>
      let a := s.rd (BUS.TXSTAT.attempts port k)
      let s1 := (s.wr (BUS.TXSTAT.state port k) 2).wr (BUS.TXSTAT.attempts port k) (min (a + 1) 255)
      let s2 := if a = 0 then s1 else s1.stick (BUS.TXRETRY.count port) (BUS.CNTOVF.retry port) (some (BUS.IRQRAW.cnt_event port))
      .next (s2.modPort port fun p => { p with sofTsc := s.rd (BUS.TSC.us port), sofStime := s.stime, designated := none, before := [], left := none })

/-- TX_ATTEMPT_END (R369 to R372): the attempt ends; the transmitter delay measured in it, in port clocks (R359). -/
def execTxAttemptEnd (port : Nat) (outcome : TxOutcome) (delay : Option Nat) (s : State) : Result :=
  match s.onWire port with
  | none => .next s
  | some k =>
    let s0 := match delay with
      | some d => if s.flag (BUS.TDC.en port) then s.wr (BUS.STATE.tdcv port) d else s
      | none => s
    let s1 :=
      match outcome with
      | .sent =>
        let p := s.port port
        let f := s.bufferFrame port k
        let c := s.atStart p.before.head?
        let a := ((((s0.wr (BUS.TXSTAT.state port k) 3).wr (BUS.TXTSC.us port k) p.sofTsc).irq (BUS.IRQRAW.tx_sent port)).ackOk port).setErrors port (p.tec - 1) p.rec_
        let b := a.msgSent port k
        if c.flag (BUS.CFG.selfrx port) || c.rd (BUS.CFG.mode port) == 2 then b.rxOffer port (c.filterOf port f) f p.sofTsc p.sofStime else b
      | .lost => s0.txReturn port k
      | .error =>
        let a := s0.txReturn port k
        if s.flag (BUS.STATE.solo port) && s.rd (BUS.CFG.solo_pause port) != 0 then a.modPort port fun p => { p with pausing := true } else a
    let s2 := if s1.rd (BUS.TXSTAT.state port k) = 4 then s1.msgTaken port k else s1
    .next (((s2.modPort port fun p => { p with before := [] }).frameOver port).pump)

/-- CAN_FRAME_RECEIVED (R374 to R377): a frame that ended without error, `age` µs after its start of frame. A frame that had begun when
the port left bus traffic completes, and every frame is taken by the configuration of its start (R362, R363, R381).
(DEDUCED, notes/assumptions/44.md.) -/
def execCanFrameReceived (port : Nat) (frame : CanFrame) (age : Nat) (s : State) : Result :=
  let p := s.port port
  let sof := s.stime - age
  let c := s.atStart (p.before.find? fun e => decide (sof < e.1))
  let begun := decide (port < 4) && s.alive (0x30 + port) && match p.left with
    | some t => decide (sof < t)
    | none => false
  if !(s.portActive port || begun) ∨ c.rd (BUS.CFG.mode port) = 2 then .next s
  else
    let (x, s1) := if 127 < p.rec_ then let (x, t) := s.draw; (119 + x % 9, t) else (p.rec_ - 1, s)
    let s2 := (s1.ackOk port).setErrors port p.tec x
    let s3 := s2.rxOffer port (c.filterOf port frame) frame ((s.rd (BUS.TSC.us port) + 2 ^ 32 - age % 2 ^ 32) % 2 ^ 32) sof
    .next ((s3.modPort port fun p => { p with before := [], left := none }).frameOver port)

/-- BUS_ERROR (R364 to R366): a protocol error of a kind, with its code and phase as LASTERR has them.
(DEDUCED, notes/assumptions/44.md.) -/
def execBusError (port : Nat) (kind : BusErrorKind) (code : Nat) (dataPhase : Bool) (s : State) : Result :=
  if !s.portActive port then .next s
  else
    let p := s.port port
    let own := (s.onWire port).isSome
    let note : State → State := fun t => (t.wr (BUS.LASTERR.code port) code).put (BUS.LASTERR.dphase port) dataPhase
    let flagged : State → State := fun t =>
      (note t).stick (BUS.ERRFRM.count port) (BUS.CNTOVF.errfrm port) (some (BUS.IRQRAW.cnt_ovf port))
    let ack : State → State := fun t => if own && code == 3 then t.ackError port else t
    let eight : State → State := fun t => if own then t.setErrors port (p.tec + 8) p.rec_ else t.setErrors port p.tec (p.rec_ + 8)
    let s1 :=
      match kind with
      | .receiving => (flagged s).setErrors port p.tec (p.rec_ + 1)
      | .receiverDominant => s.setErrors port p.tec (p.rec_ + 8)
      | .transmitting => (ack (flagged s)).setErrors port (p.tec + 8) p.rec_
      | .quietAck => ack (flagged s)
      | .arbitrationStuff => flagged s
      | .flagBit => eight (note s)
      | .dominantRun => eight s
      | .protocolException =>
        if s.flag (BUS.CFG.pex port) then s.wr (BUS.STATE.state port) 1
        else ((flagged s).wr (BUS.LASTERR.code port) 2).setErrors port p.tec (p.rec_ + 1)
    let off := s1.portMode port == 4 || s1.portMode port == 5
    let s2 := match s.onWire port with
      | some k => if off && s1.rd (BUS.TXSTAT.state port k) == 4 then s1.msgTaken port k else s1
      | none => s1
    .next (if off then ((s2.msgBusOff port).refreshPort port).showScore else s2)

/-- SOLO_PAUSE_END (R366). -/
def execSoloPauseEnd (port : Nat) (s : State) : Result := .next (if port < 4 then s.modPort port fun p => { p with pausing := false } else s)

/-- CMD.recover with key 0xB5 (R365). -/
def State.recoverPort (s : State) (n : Nat) : State := if s.portMode n = 4 then s.wr (BUS.STATE.state n) 5 else s

/-- BUS_RECOVER. -/
def execBusRecover (req : Requester) (port : Nat) (s : State) : Result :=
  if port < 4 then s.command req (0x30 + port) fun s => s.recoverPort port
  else .next { s with status := Status.unmapped.code }

/-- BUS_RECOVERY_COMPLETE (R365). -/
def execBusRecoveryComplete (port : Nat) (s : State) : Result :=
  if port < 4 && s.alive (0x30 + port) && s.portMode port == 5 then
    let s1 := (s.wr (BUS.STATE.state port) 2).wr (BUS.STATE.recov port) 128
    .next (((s1.setErrors port 0 0).irq (BUS.IRQRAW.recovered port)).showScore)
  else .next s

/-- INTEGRATION_COMPLETE (R361): the port joins bus traffic as its counters say; a counter above 255 is bus-off again. -/
def execIntegrationComplete (port : Nat) (s : State) : Result :=
  if port < 4 && s.alive (0x30 + port) && s.portMode port == 1 then
    let p := s.port port
    let code := if 255 < p.tec then (if s.flag (BUS.CFG.boauto port) then 5 else 4) else if 128 ≤ p.tec ∨ 128 ≤ p.rec_ then 3 else 2
    let s1 := ((s.wr (BUS.STATE.state port) code).modPort port fun x => { x with left := none }).showErrors port
    .next (if 255 < p.tec then s1.msgBusOff port else s1).showScore
  else .next s

/-- RX_RELEASE (R375). -/
def execRxRelease (req : Requester) (port queue index : Nat) (s : State) : Result :=
  if port < 4 ∧ queue < 2 then s.command req (0x30 + port) fun s => s.rxRelease port queue index
  else .next { s with status := Status.unmapped.code }

end Sys2Proof.Machine
end

