-- ==== Sys2Proof/Machine/Deliver.lean ====
section
/-!
DEFINITION. How ARITH forms a record from an entry of its queue and delivers it (R147 to R155, R183, R185 to R187), with the
pair's DIGEST and cross-check (R328, R337, R339), and the evaluation that follows the records of a lap (R205, R255, R340).
-/

namespace Sys2Proof.Machine

/-- Changes what PAIR holds. -/
def State.modPair (s : State) (f : PairState → PairState) : State := { s with pair := f s.pair }

/-! ### The cross-check -/

/-- A cross-check finds agreement or disagreement of a channel (R339). -/
def State.crossResult (s : State) (ch : Nat) (agrees : Bool) : State :=
  let n := s.rd PAIR.CFG.xchk_n
  let run := Keyed.get 0 (if agrees then s.pair.agree else s.pair.disagree) ch + 1
  let s1 := s.modPair fun p =>
    if agrees then { p with agree := Keyed.put p.agree ch run, disagree := Keyed.drop p.disagree ch }
    else { p with disagree := Keyed.put p.disagree ch run, agree := Keyed.drop p.agree ch }
  if agrees then (if n ≤ run ∧ ch < 160 then s1.putNth PAIR.XFAIL.ch ch false else s1)
  else
    let s2 := s1.stick PAIR.XDISCNT.count PAIR.CNTOVF.xdis (some PAIR.IRQRAW.cnt_ovf)
    if n ≤ run ∧ ch < 160 ∧ !s.nth PAIR.XFAIL.ch ch then ((s2.putNth PAIR.XFAIL.ch ch true).irq PAIR.IRQRAW.xchk).fault PAIR.FAULT.xchk 0x0115 else s2

/-- The standby compares its record with the holder's entry for the same channel and lap (R339); `exempt` where R337 gave
VALID clear for absent excitation.
(DEDUCED, notes/assumptions/53.md.) -/
def State.crossCheck (s : State) (r : ResultRec) (exempt : Bool) : State :=
  if s.role ≠ 3 ∨ !s.alive 0x38 ∨ exempt then s
  else
    match Keyed.get? s.pair.digests r.ch with
    | none => s
    | some d =>
      let mine := bit r.status 0
      let theirs := bit d.status 0
      if d.lap ≠ r.lap % 256 ∨ (!mine && !theirs) then s
      else if mine && theirs then s.crossResult r.ch (decide ((d.value - r.value).natAbs ≤ d.u95 + r.u95 + s.rd PAIR.CFG2.xtol))
      else s.crossResult r.ch false

/-- The outcome code of a DIGEST entry (R328). -/
def digestOutcome (e : ConvEntry) (short : Bool) : Nat :=
  match e.kind with
  | .openWire => 1
  | .abort => 3
  | _ => if short then 2 else if e.restarted then 4 else 0

/-- The entry of a record in a DIGEST (R328). -/
def digestBytes (r : ResultRec) (outcome : Nat) : List Byte :=
  bytesLE 2 r.ch ++ bytesLE 1 r.lap ++ bytesLE 1 r.status ++ bytesLE 4 (unsigned 32 r.value) ++ bytesLE 2 r.u95 ++ bytesLE 1 outcome ++ bytesLE 1 0

/-! ### Formation -/

/-- A counter of ARITH with its interrupt, where a condition holds. -/
def State.arithCount (s : State) (c : Bool) (count ovf irq : Ref) : State :=
  if c then (s.stick count ovf (some ARITH.IRQRAW.cnt_ovf)).irq irq else s

/-- The unit code of the configuration that an entry was taken with (R130, R152). -/
def ConvEntry.unit (e : ConvEntry) : Nat := e.ctx (if e.kind = .loop then UIO.ENT.unit 0 else AFE.CTX.unit 0 0)

/-- How a formed record counts for health (R185); while its first lead measurement is missing it is neutral (R598).
(DESIGN CHOICE, notes/assumptions/74.md.) -/
def Formed.health (f : Formed) (leadMissing : Bool) : HealthClass :=
  if f.valid then .good else if leadMissing then .neutral else if f.dom || f.short then .failure else .neutral

/-- What an entry becomes before retirement is looked at (R141, R148, R149, R181, R196, R337): the holder's OPEN, short or abort comes
before the own outcome, and an absent excitation gives no status bit. -/
def State.formOwn (s : State) (e : ConvEntry) : ResultRec × Formed :=
  let kind := if e.holder = 1 then EntryKind.openWire else if e.holder = 3 then EntryKind.abort else e.kind
  let stale := s.isStale e.term e.stime
  let bare : Nat → ResultRec := fun status =>
    { ch := e.ch, lap := e.lap, stime := e.stime, value := 0, u95 := 0xFFFF, status := status, unit := e.unit }
  let fault : Bool → Bool → HealthClass → Bool → ResultRec × Formed := fun ovr open_ health os =>
    ({ bare (statusByte false ovr false false open_ stale e.forcedLane false) with
        health := if e.leadMissing then .neutral else health, openShort := os }, {})
  match (if e.holder = 2 then none else some kind) with
  | none => fault false false .failure true
  | some kind => match kind with
  | .openWire => fault false true .failure true
  | .abort => fault false false .failure false
  | .overload => fault true false .failure false
  | .abandoned => if e.absent then ({ bare 0 with absent := true }, {}) else fault false false .neutral false
  | .unplaced => (bare (statusByte false false false false false s.cal.copy.isEmpty false false), {})
  | .loop =>
    let f := formLoop e
    let status := statusByte f.valid e.ovr f.dom f.sat false s.cal.copy.isEmpty false false
    ({ bare status with
        value := f.value, u95 := f.u95, y := f.y, u := f.u, ne43 := f.ne43, health := if f.valid then .good else .neutral }, f)
  | .sampled | .test =>
    if e.invalid then fault false false .neutral false
    else
      let f := s.form e
      let status := if f.missingCj then 0
        else statusByte f.valid false f.dom f.sat false (stale && e.kind != .test) (f.subst || e.forcedLane) false
      ({ bare status with
          value := f.value, u95 := f.u95, y := f.y, u := f.u, ne43 := f.ne43, openShort := f.short
          health := f.health (e.leadMissing && e.kind != .test) }, f)

/-- The substitute that CAL.SUBST names for a channel (R187). -/
def State.substituteOf (s : State) (ch : Nat) : Nat := s.rd (if ch % 2 = 0 then CAL.SUBST.even (ch / 2) else CAL.SUBST.odd (ch / 2))

/-- Whether a retired channel is fed by another (R187). -/
def State.fedBy (s : State) (ch : Nat) : Option Nat :=
  let x := s.substituteOf ch
  if s.terms.retiredCh.contains ch && decide (x < s.variant.channels) && !s.terms.retiredCh.contains x then some x else none

/-- A STALE record of a bank is delivered (R183, R204). -/
def State.staleMark (s : State) (b : Nat) : State :=
  let t := s.stride b
  (s.when (!t.staleNow && !t.stalePrev) fun st => st.irq CAL.IRQRAW.stale).modStride b fun x => { x with staleNow := true }

/-- What a channel's own conversion leaves in ARITH and in its bank, retired or not (R105, R135, R141, R142, R153, R158); SAT, DOM and STALE
of a retired channel's own conversion are in no record, and its NE43FLT bit stays that of a substitute's record that came before it (R187).
In listen mode the holder's short marks CHSHORT, while its OPEN and abort mark no register of this bank, which found neither.
(DEDUCED, notes/assumptions/33.md.) (DESIGN CHOICE, notes/assumptions/66.md, notes/assumptions/80.md.) -/
def State.formedFlags (s : State) (e : ConvEntry) (r : ResultRec) (f : Formed) : State :=
  let s1 := s.arithCount f.sat ARITH.SATCNT.count ARITH.CNTOVF.sat ARITH.IRQRAW.sat
  let s2 := s1.arithCount f.dom ARITH.DOMCNT.count ARITH.CNTOVF.dom ARITH.IRQRAW.dom
  let s3 := s2.arithCount f.ne43 ARITH.NE43CNT.count ARITH.CNTOVF.ne43 ARITH.IRQRAW.ne43
  let s4 := s3.arithCount f.subst ARITH.CJFBCNT.count ARITH.CNTOVF.cjfb ARITH.IRQRAW.cj_fallback
  let s5 := if f.iterlim then (s4.stick ARITH.ITERCNT.count ARITH.CNTOVF.iter (some ARITH.IRQRAW.cnt_ovf)).fault ARITH.FAULT.iterlim 0x0110 else s4
  let s6 := if f.slotBad then s5.fault ARITH.FAULT.slot 0x0111 else s5
  let told := s.terms.retiredCh.contains e.ch && s.lap.delivered.contains e.ch && e.lap == s.lapCount
  let s7 := if e.ch < 160 && !told then s6.putNth ARITH.NE43FLT.ch e.ch f.ne43 else s6
  let b := e.ch / 20
  if 160 ≤ e.ch then s7
  else
    let s8 :=
      if f.short || e.holder == 2 then
        let t := (s7.modBank b fun k => { k with shortNow := k.shortNow ||| 2 ^ (e.ch % 20) }).irq (AFE.IRQRAW.short b)
        if (t.bank b).scanning then t else t.wr (AFE.CHSHORT.ctx b) (t.bank b).shortNow
      else s7
    if bit r.status 5 then s8.staleMark b else s8

/-- A record of a published channel waits to be packed (R391).
(DEDUCED, notes/assumptions/33.md.) -/
def State.publish (s : State) (r : ResultRec) : State :=
  let chosen := if r.ch < 160 then s.nth MSG.VALMASK.ch r.ch else bit (s.rd MSG.VALMASK5.loop) (r.ch - 512)
  if s.working 0x34 && s.flag MSG.CFG.valpub && chosen && r.lap % (max 1 (s.rd MSG.CFG.valdiv)) == 0 then
    s.modMsg fun m => { m with values := m.values ++ [r] }
  else s

/-- A record is delivered (R151): ALM, REC, the result stream, loop outputs and inputs, publication, DIGEST and cross-check. -/
def State.deliver (s : State) (r : ResultRec) (outcome : Nat) (exempt : Bool) : State :=
  let s := if r.lap = s.lapCount ∧ r.ch < 160 then { s with lap := { s.lap with delivered := addTo s.lap.delivered r.ch } } else s
  let a := { s.arith with
    newest := Keyed.put s.arith.newest r.ch r
    kept := if bit r.status 0 then Keyed.put s.arith.kept r.ch ⟨r.y, r.u, r.lap⟩ else s.arith.kept }
  let s1 := ({ s with arith := a }.almRecord r).ringWrite r
  let s2 := if r.ch < 160 then s1.recResult r else s1.loopRecord r
  (((s2.retransmit r).publish r).uhlizSend 4 (digestBytes r outcome)).crossCheck r exempt

/-- A record of another channel, as a retired channel carries it (R149, R187). -/
def asSubstitute (r : ResultRec) (ch : Nat) : ResultRec :=
  { r with ch := ch, status := r.status ||| 192, health := .neutral, openShort := false }

/-- The record of a retired channel without a substitute's (R187, R196). -/
def State.retiredRec (s : State) (r : ResultRec) : ResultRec :=
  { r with value := 0, u95 := 0xFFFF, status := 128 + 32 * ofBool s.cal.copy.isEmpty, ne43 := false, y := 0, u := 0, health := .neutral, openShort := false }

/-- A retired channel delivers without a substitute (R187). -/
def State.deliverRetired (s : State) (r : ResultRec) (outcome : Nat) : State :=
  let x := s.retiredRec r
  (if bit x.status 5 then s.staleMark (r.ch / 20) else s).deliver x outcome false

/-- The record of a substitute is delivered for a retired channel too, with what it marks counted as a record of that channel (R158,
R187).
(DESIGN CHOICE, notes/assumptions/66.md.) -/
def State.deliverCopy (s : State) (r : ResultRec) (c outcome : Nat) (exempt : Bool) : State :=
  let s0 := { s with arith := { s.arith with owed := s.arith.owed.filter fun o => o.ch != c } }
  let s1 := s0.arithCount (bit r.status 3) ARITH.SATCNT.count ARITH.CNTOVF.sat ARITH.IRQRAW.sat
  let s2 := s1.arithCount (bit r.status 2) ARITH.DOMCNT.count ARITH.CNTOVF.dom ARITH.IRQRAW.dom
  let s3 := s2.putNth ARITH.NE43FLT.ch c r.ne43
  (if bit r.status 5 then s3.staleMark (c / 20) else s3).deliver (asSubstitute r c) outcome exempt

/-- A retired channel waits for the record of its substitute in the lap: it is still to come (R187). -/
def State.substituteComes (s : State) (x lap : Nat) : Bool :=
  s.lap.awaited.contains x || s.arith.queue.any fun q => q.ch == x && q.lap == lap && q.kind != .test

/-- Retired channels whose substitutes turn out to give no record in the lap deliver without (R11, R187). -/
def State.settleOwed (s : State) : State :=
  let due := s.arith.owed.filter fun r =>
    match s.fedBy r.ch with
    | some x => !s.substituteComes x r.lap
    | none => true
  let s1 := { s with arith := { s.arith with owed := s.arith.owed.filter fun r => !due.contains r } }
  s1.each due fun st r => st.deliverRetired r 0

/-- A channel's own record goes to its consumers. For a retired channel CAL takes the outcome, and the substitute's record, or none, is
delivered: one record in a lap (R11, R185 to R187). -/
def State.deliverOwn (s : State) (e : ConvEntry) (r : ResultRec) (outcome : Nat) : State :=
  if !s.terms.retiredCh.contains r.ch then
    let s1 := (s.deliver r outcome r.absent).healthTake r
    s1.each ((List.range s.variant.channels).filter fun c =>
      s.fedBy c == some r.ch && s.lap.scanned.contains c && !s.lap.delivered.contains c && r.lap == s.lapCount) fun st c =>
        st.deliverCopy r c outcome r.absent
  else
    let s1 := s.healthTake r
    if s.lap.delivered.contains r.ch && r.lap == s.lapCount then s1
    else
      match s.fedBy r.ch with
      | some x =>
        if s.substituteComes x r.lap then { s1 with arith := { s1.arith with owed := s1.arith.owed ++ [r] } } else s1.deliverRetired r outcome
      | none => s1.deliverRetired r outcome

/-- A test record (R155).
(DEDUCED, notes/assumptions/54.md.) -/
def State.testDone (s : State) (r : ResultRec) : State :=
  let bs := recordBytes { r with lap := s.lapCount, stime := s.stime }
  ((s.each (List.range 4) fun st i => st.wr (ARITH.TESTREC.bytes i) (ofBytesLE ((bs.drop (4 * i)).take 4))).wr ARITH.TESTCTL.busy 0).irq
    ARITH.IRQRAW.test_done

/-- RECORD_FORMATION (R151). -/
def execRecordFormation (s : State) : Result :=
  match s.arith.queue with
  | [] => .next s
  | e :: es =>
    if !s.alive 0x11 then .next s
    else
      let s0 := { s with arith := { s.arith with queue := es } }
      let (r, f) := s0.formOwn e
      if e.kind = .test then .next (s0.testDone r)
      else
        let s1 := if s.terms.retiredCh.contains e.ch then s0.formedFlags e { r with status := 0 } { f with sat := false, dom := false }
          else s0.formedFlags e r f
        let s2 := { s1 with lap := { s1.lap with awaited := dropFrom s1.lap.awaited e.ch } }
        .next (s2.deliverOwn e r (if e.holder = 0 then digestOutcome e f.short else e.holder)).settleOwed

/-- TEST_RECORD_START (R155): the entry joins the queue behind the live ones. -/
def State.testStart (s : State) (ch : Nat) : State :=
  let s1 := s.wr ARITH.TESTCTL.ch ch
  if s.flag ARITH.TESTCTL.busy ∨ s.variant.channels ≤ ch then s1
  else
    let b := ch / 20
    let k := ch % 20
    let words := s.ctxWords b k
    let lead := Keyed.get {} (s.bank b).leads k
    let e : ConvEntry :=
      { ch := ch, lap := s.lapCount, stime := s.stime, kind := .test, sum := signed 24 (s.rd ARITH.TESTCODE.code), n := 1, words := words
        arithCfg := s.wordAt true ARITH.CFG.addr, cjsrc := s.rd (ARITH.CJSRC.ch b), curve := s.curveOf words
        term := { o := 0, g := 2 ^ 30, sigma := 0, uo := 0, ug := 0, d := 0, ts := 0, unstrided := false }
        src := { iex := s.rd (AFE.CTX.iex b k), es := 0, ux := 0, checked := 0 }, shunt := { ek := 0, ux := 0 }
        leadF := s.rdInt (AFE.LEADR.f_uohm b k), leadDev := if lead.valid then lead.dev else 100, leadMissing := false }
    (s1.wr ARITH.TESTCTL.busy 1).arithQueue e

/-- TEST_RECORD_START. -/
def execTestRecordStart (req : Requester) (ch : Nat) (s : State) : Result := s.command req 0x11 fun s => s.testStart (ch % 1024)

end Sys2Proof.Machine
end

