-- ==== Sys2Proof/Machine/Eval.lean ====
section
/-!
DEFINITION. What ends a lap (R205): the alarm evaluation with its commands, CALL, the outputs, published values (R391), and the
pair's mirror (R328, R340).
-/

namespace Sys2Proof.Machine

/-! ### Published values -/

/-- The unit code of a channel or a loop. -/
def State.unitCode (s : State) (ch : Nat) : Nat := if ch < 512 then s.rd (AFE.CTX.unit (ch / 20) (ch % 20)) else s.rd (UIO.ENT.unit (ch - 512))

/-- A VALUES body (R390): up to three records.
(DEDUCED, notes/assumptions/45.md.) -/
def valuesBody (rs : List ResultRec) : List Byte :=
  let units := (rs.map fun r => BitVec.ofNat 8 r.unit) ++ List.replicate (3 - rs.length) 0
  let recs := rs.flatMap recordBytes
  bytesLE 1 rs.length ++ units ++ bytesLE 4 0 ++ recs ++ List.replicate (48 - recs.length) 0

/-- Three by three. -/
def threes {α : Type} : List α → List (List α)
  | a :: b :: c :: r => [a, b, c] :: threes r
  | [] => []
  | l => [l]

/-- The values of the lap are sent in ascending channel order (R391). -/
def State.sendValues (s : State) : State :=
  let order := (List.range 160 ++ (List.range 8).map fun u => 512 + u).filterMap fun c => s.msg.values.find? fun r => r.ch == c
  (s.modMsg fun m => { m with values := [] }).each (threes order) fun st rs => st.sendTml 4 2 none (valuesBody rs)

/-! ### The mirror -/

/-- The register words of a range as bytes. -/
def State.rangeBytes (s : State) (a n : Nat) : List Byte := (List.range n).flatMap fun i => wordBytes (s.wordAt false (a + 4 * i))

/-- Sets `n` register words from an address on. -/
def State.putRange (s : State) (a n : Nat) (bs : List Byte) : State :=
  s.each (List.range n) fun st i => st.setReg (a + 4 * i) (BitVec.ofNat 32 (ofBytesLE ((bs.drop (4 * i)).take 4)))

/-- The enabled groups. -/
def State.almGroups (s : State) : List Nat := (List.range 64).filter fun g => s.flag (ALM.GRP.enable g)

/-- The run state of CALL in the mirror, in 64 bytes (R340). -/
def State.callMirror (s : State) : List Byte :=
  let b := bytesLE 1 (s.rd CALL.STATE.stage) ++ bytesLE 1 (s.rd CALL.STATE.demand) ++ bytesLE 1 (s.rd CALL.STATE.duty) ++
    bytesLE 1 (s.rd CALL.STATE.relay_pend) ++ bytesLE 1 (s.rd CALL.STATE.relay_tgt) ++ bytesLE 1 (s.rd CALL.STATE.pers) ++
    bytesLE 1 0 ++ bytesLE 1 (s.rd CALL.STATE.officer) ++ bytesLE 6 (s.rd CALL.TCALL.t_call) ++
    bytesLE 6 s.call.tAns ++ bytesLE 6 s.call.tReset ++ bytesLE 6 s.call.tOffer ++ bytesLE 4 (s.rd CALL.CPLOST.cp) ++ bytesLE 2 (bitMask s.call.oldDuty)
  b ++ List.replicate (64 - b.length) 0

/-- What the holder mirrors after an evaluation (R340): contexts, groups, suppression, CALL.
(DESIGN CHOICE, notes/assumptions/15.md.) -/
def State.mirrorBytes (s : State) : List Byte :=
  (s.almEnabled.flatMap fun k => bytesLE 2 k ++ s.rangeBytes (0x120020 + 0x40 * k) 8) ++
    (s.almGroups.flatMap fun g => bytesLE 2 g ++ s.rangeBytes (0x130008 + 0x20 * g) 6) ++
    (bytesLE 4 (s.rd ALM.SUPACT.cond) ++ ((List.range 32).flatMap fun i => bytesLE 6 (Keyed.get 0 s.alarm.falling i)) ++ List.replicate 60 0) ++
    s.callMirror

/-- The holder sends its mirror of the lap, and MIRROR_END (R328, R340). -/
def State.sendMirror (s : State) : State :=
  if s.role ≠ 4 then s
  else
    let bs := s.mirrorBytes
    (s.each (pieces 1024 64 bs) fun st p => st.uhlizSend 5 p).uhlizSend 6 (bytesLE 4 s.lapCount ++ bytesLE 4 (crc32 bs))

/-- CALL takes the mirrored run state (R267). -/
def State.takeCallMirror (s : State) (b : List Byte) : State :=
  let at_ : Nat → Nat → Nat := fun o n => ofBytesLE ((b.drop o).take n)
  let s1 := s.each [(CALL.STATE.stage, at_ 0 1), (CALL.STATE.demand, at_ 1 1), (CALL.STATE.duty, at_ 2 1), (CALL.STATE.relay_pend, at_ 3 1),
    (CALL.STATE.relay_tgt, at_ 4 1), (CALL.STATE.pers, at_ 5 1), (CALL.STATE.officer, at_ 7 1), (CALL.TCALL.t_call, at_ 8 6),
    (CALL.CPLOST.cp, at_ 32 4)] fun st e => st.wr e.1 e.2
  let s2 := s1.modCall fun c => { c with
    oldDuty := setBits (at_ 36 2) 16, tAns := at_ 14 6, tReset := at_ 20 6, tOffer := at_ 26 6 }
  s2.wr CALL.CPDRIVE.cp (s2.drivenBy (s2.rd CALL.STATE.stage))

/-- Outputs follow the alarm and call state. -/
def State.outputsFollow (s : State) : State := (s.outsFromContexts.loopsFromAlarms).applyOutputs

/-- Whether a mirror describes the contexts and groups of this node's configuration.
(DESIGN CHOICE, notes/assumptions/50.md.) -/
def State.mirrorFits (s : State) (bs : List Byte) : Bool :=
  let ks := s.almEnabled
  let gs := s.almGroups
  let num : Nat → Nat := fun o => ofBytesLE ((bs.drop o).take 2)
  bs.length == 34 * ks.length + 26 * gs.length + 320 &&
    ((ks.zip (List.range ks.length)).all fun (k, i) => num (34 * i) == k) &&
    (gs.zip (List.range gs.length)).all fun (g, i) => num (34 * ks.length + 26 * i) == g

/-- The standby's state becomes the holder's of the same lap (R243, R267, R340), and the changes are notified (R245, R246); a quiesced CALL
keeps its own (R268).
(DESIGN CHOICE, notes/assumptions/50.md.) -/
def State.applyMirror (s : State) (bs : List Byte) : State :=
  let ks := s.almEnabled
  let gs := s.almGroups
  let (cause, s) := s.draw
  let s1 := s.each (ks.zip (List.range ks.length)) fun st (k, i) =>
    let q := st.rd (ALM.CTXA.q k)
    let a := st.putRange (0x120020 + 0x40 * (k % 1024)) 8 ((bs.drop (34 * i + 2)).take 32)
    ((if a.rd (ALM.CTXA.q k) = q then a else a.stick ALM.PAIRDIFF.count ALM.CNTOVF.pair (some ALM.IRQRAW.cnt_ovf)).tellReplaced st k (cause % 256)
      s.alarm.lastTe (st.isStatus k) [0, 1, 2]).showCtx k
  let base := 34 * ks.length
  let s2 := s1.each (gs.zip (List.range gs.length)) fun st (g, i) =>
    let a := st.putRange (0x130008 + 0x20 * (g % 64)) 6 ((bs.drop (base + 26 * i + 2)).take 24)
    let fo : State → Nat × Nat × Nat := fun x => (x.rd (ALM.GRP.fo_valid g), x.rd (ALM.GRP.fo_ctx g), x.rd (ALM.GRP.fo_onset g))
    if fo a = fo st then a
    else (a.irq ALM.IRQRAW.first_out).when (!s.flooded) fun x => x.nqWrite (x.firstOutEntry g s.alarm.lastTe (cause % 256))
  let tail := bs.drop (base + 26 * gs.length)
  let active := ofBytesLE (tail.take 4)
  let s3 := (s2.wr ALM.SUPACT.cond active).modAlm fun a => { a with
    falling := (List.range 32).filterMap fun i =>
      let t := ofBytesLE ((tail.drop (4 + 6 * i)).take 6)
      if bit active i && t != 0 then some (i, t) else none }
  (((s3.groupsDrive.when (s.working 0x28) fun t => t.takeCallMirror (tail.drop 256)).outputsFollow).modPair fun p => { p with mirrored := true, mirrorDone := true, mirrorReady := none, mirror := [] })

/-- The standby applies a mirror of the lap that it has evaluated (R340); while its ALM is quiesced or disabled it keeps its own state (R595). -/
def State.takeMirror (s : State) : State :=
  if (s.role = 2 ∨ s.role = 3) ∧ s.working 0x38 ∧ s.working 0x20 ∧ s.pair.mirrorReady = some s.lapCount ∧ s.lap.evalDone then s.applyMirror s.pair.mirror
  else s

/-! ### The evaluation -/

/-- Whether the lap's scans have ended and its records have been delivered (R205). -/
def State.lapDelivered (s : State) : Bool :=
  !s.lap.evalDone && s.lap.awaited.isEmpty && !((List.range s.variant.banks).any fun b => (s.bank b).scanning) &&
    s.arith.queue.all fun e => e.kind == .test

/-- Whether an evaluation is in progress: it begins when the lap is delivered (R205), and none begins while the core state is saved or
restored, or in Nap or Stow (R240, R524). -/
def State.evaluates (s : State) : Bool :=
  s.lapDelivered && !s.flag PWR.STAT.saving && !s.pwr.restoring && decide (s.rd PWR.STAT.state < 2)

/-- The evaluation of the lap ends (R205, R255, R340), which took this many fabric cycles (10 ns); while ALM is quiesced it only counts
as completed (R595). -/
def State.endEvaluation (s : State) (cycles : Nat) : State :=
  let s := s.settleOwed
  let s1 :=
    if s.working 0x20 then
      let a := s.almEvaluate.wr ALM.EVALTIME.cycles cycles
      (if 20000 < cycles then a.fault ALM.FAULT.evaltime 0x0111 else a).callEvaluate
    else s
  let s2 := ((s1.dioEvalEnd (s.stime - cycles / 100)).loopEvalEnd).applyOutputs.sendValues
  let s3 := { s2 with lap := { s2.lap with evalDone := true } }
  let s4 := ((s3.sendMirror).uhlizSend 12 (bytesLE 4 s.lapCount)).takeMirror
  s4.almDrain.callDrain.pump

/-- ALM_EVALUATION: the evaluation in progress ends. -/
def execAlmEvaluation (cycles : Nat) (s : State) : Result := .next (if s.evaluates then s.endEvaluation cycles else s)

/-- The evaluation in progress ends before a quiesce or a save takes effect (R524, R595), within its 200 µs; how long it took is open.
(DESIGN CHOICE, notes/assumptions/89.md.) -/
def State.completeEvaluation (s : State) : State :=
  if s.evaluates then
    let (x, s1) := s.draw
    s1.endEvaluation (x % 20001)
  else s

/-- While ALM is quiesced or disabled, the evaluation of a lap counts as completed when it would have begun (R595). -/
def State.skipEvaluation (s : State) : State := if s.evaluates && s.alive 0x20 && s.quiesced 0x20 then s.endEvaluation 0 else s

end Sys2Proof.Machine
end

