-- ==== Sys2Proof/Machine/Pair.lean ====
section
/-!
DEFINITION. The redundant pair (R326 to R358): the Uhliz link, the frames between the partners, roles, the lease, handover and
takeover.
-/

namespace Sys2Proof.Machine

/-! ### The link -/

/-- The link state follows its lanes (R330, R333, R352). -/
def State.showLink (s : State) (lanes : Nat) : State :=
  let up := lanes != 0
  let was := s.flag PAIR.STAT.link
  let s1 := (s.wr PAIR.STAT.lanes lanes).put PAIR.STAT.link up
  if up && !was then s1.irq PAIR.IRQRAW.link_up
  else if was && !up then
    let s2 := (s1.irq PAIR.IRQRAW.link_lost).wr PAIR.STAT.aligned 0
    let heard := match s.pair.presenceAt with
      | some t => decide (s.stime < t + 20000)
      | none => false
    if s.paired && heard then (s2.wr PAIR.STAT.partner 3).fault PAIR.FAULT.degraded 0x0110 else s2
  else s1

/-! ### Roles -/

/-- AFEn.MODE of every present bank (R335). -/
def State.setModes (s : State) (listen excown : Bool) : State :=
  s.each (List.range s.variant.banks) fun st b =>
    ((st.put (AFE.MODE.listen b) listen).put (AFE.MODE.excown b) excown).modBank b fun k => { k with reschedule := true }

/-- A standby is ready while a lane is up and FAULT.cfgdiff is clear (R346). -/
def State.isReady (s : State) : Bool := s.role == 3 && s.rd PAIR.STAT.lanes != 0 && !s.flag PAIR.FAULT.cfgdiff

/-- STAT.cfgdiff as it stands: the newest digest of the partner differs from the node's own (R358). -/
def State.showDiffer (s : State) : State :=
  s.put PAIR.STAT.cfgdiff (s.pair.heardAt.isSome && s.rd PAIR.DIGEST.crc != s.rd PAIR.PDIGEST.crc)

/-- STAT.ready as it stands. -/
def State.showReady (s : State) : State := s.put PAIR.STAT.ready s.isReady

/-- The node that keeps time for its segment, or no longer does: in a pair the holder (R38, R404, R414). -/
def State.timeRole (s : State) : State :=
  let source := s.rd TSYNC.CFG.role == 1 && s.holds
  if !s.alive 0x35 then s
  else if source && s.rd TSYNC.STATE.state != 4 then
    (((s.wr TSYNC.STATE.state 4).wr TSYNC.STATE.hops 0).wr TSYNC.STATE.srcnid s.straps.nid)
  else if !source && s.rd TSYNC.STATE.state == 4 then { s.wr TSYNC.STATE.state 0 with tsync := { s.tsync with lastTm := none, near := 0 } }
  else s

/-- A change of the role is told (R357, R461). -/
def State.tellRole (s : State) (old : Nat) : State :=
  (s.irq PAIR.IRQRAW.role_change).recEvent 0x1800 2 (bytesLE 1 old ++ bytesLE 1 s.role ++ bytesLE 1 (s.rd PAIR.STAT.partner))

/-- The role changes; outputs, loops, the segment's time and what waits to be sent follow (R25, R38, R309, R344). -/
def State.toRole (s : State) (r : Nat) : State :=
  if s.rd PAIR.STAT.role = r then s
  else
    let s1 := (s.wr PAIR.STAT.role r).tellRole s.role
    let s2 := if r = 2 then s1.modPair fun p => { p with mirrored := false, alignRun := 0 } else s1
    let s3 := if r = 4 then { s2 with lap := { s2.lap with markPeriod := none } } else s2
    ((s3.showReady.applyOutputs).driveLoops).timeRole.purge

/-- The node becomes holder outside a takeover: it excites at once (R335). -/
def State.becomeHolder (s : State) : State := (s.toRole 4).setModes false true

/-! ### Lanes -/

/-- The lanes in use change (R330, R343): the link, STAT.ready and the score with them. -/
def State.lanesNow (s : State) (lanes : Nat) : State := ((s.showLink lanes).showReady).showScore

/-- A standby whose link is lost is in step no longer (R344, R352). -/
def State.linkGone (s : State) : State :=
  if s.role = 3 ∧ s.rd PAIR.STAT.lanes = 0 then s.toRole 2 else s

/-- A good frame on a lane: the lane is up again after 8 in a row (R330). -/
def State.goodFrame (s : State) (lane : Nat) : State :=
  let n := (if lane = 0 then s.pair.good0 else s.pair.good1) + 1
  let s1 := s.modPair fun p => if lane = 0 then { p with good0 := min n 8 } else { p with good1 := min n 8 }
  let lanes := s.rd PAIR.STAT.lanes
  if 8 ≤ n ∧ !bit lanes lane then s1.lanesNow (lanes ||| 2 ^ lane) else s1

/-- A frame from the partner takes effect on a node whose PAIR runs as part of a pair. -/
def State.fromPartner (s : State) (lane : Nat) (f : State → State) : Result :=
  if !s.alive 0x38 ∨ 1 < lane then .next s
  else
    let s1 := s.goodFrame lane
    .next (if s1.paired then f s1 else s1)

/-- A number in a payload. -/
def field (b : List Byte) (off n : Nat) : Nat := ofBytesLE ((b.drop off).take n)

/-! ### LEASE -/

/-- The flags of a LEASE (R329). -/
def State.leaseFlags (s : State) : Nat :=
  let holder := s.rd PAIR.STAT.role == 4
  ofBool (holder && decide (s.pair.silentUntil ≤ s.stime)) + 2 * ofBool s.pair.releasing + 4 * ofBool s.isReady +
    8 * ofBool (holder && s.pair.offered.isSome) + 16 * ofBool (!holder && s.pair.accepted)

/-- The payload of a LEASE (R329). -/
def State.leaseBytes (s : State) : List Byte :=
  bytesLE 2 (s.straps.nid % 1024 + 1024 * (s.straps.pairpos % 2)) ++ bytesLE 1 (s.rd PAIR.STAT.role) ++ bytesLE 1 s.leaseFlags ++
    bytesLE 4 (s.rd PAIR.LEASESEQ.seq) ++ bytesLE 4 s.lapCount ++ bytesLE 6 s.stime ++ bytesLE 1 (s.rd PAIR.STAT.score) ++
    bytesLE 1 (s.rd PAIR.STAT.evidence) ++ bytesLE 4 (s.pair.offered.getD 0) ++ bytesLE 6 s.commands ++ bytesLE 4 (s.rd PAIR.DIGEST.crc) ++ bytesLE 6 0

/-- A LEASE is sent; a claim renews the lease with the next sequence number (R345). -/
def State.leaseSend (s : State) : State :=
  if !s.alive 0x38 || !s.paired then s
  else
    let s1 := if bit s.leaseFlags 0 then s.wr PAIR.LEASESEQ.seq (s.rd PAIR.LEASESEQ.seq + 1) else s
    s1.uhlizSend 1 s1.leaseBytes

/-- LEASE_SEND (R345). -/
def execLeaseSend (s : State) : Result := .next s.leaseSend

/-- The slots that need a source, of every bank, are run no further until the node excites (R349). -/
def State.stopSources (s : State) : State :=
  s.each (List.range s.variant.banks) fun st b =>
    st.each ((st.activeRuns b).filter fun r => r.source != 0) fun x r => x.endRun b r .abandoned

/-- The node takes the baton (R349).
(DEDUCED, notes/assumptions/51.md.) -/
def State.takeBaton (s : State) : State :=
  let s1 := (s.stopSources.setModes false false).modPair fun p => { p with exciteAt := true, releasing := false, accepted := false, offered := none }
  let s2 := ((s1.wr PAIR.STAT.ho_pend 0).toRole 4).stick PAIR.TAKEOVERCNT.count PAIR.CNTOVF.take (some PAIR.IRQRAW.cnt_event)
  (s2.irq PAIR.IRQRAW.takeover).leaseSend

/-- A split is counted once: claims that follow one another within 100 ms, the time for which the loser makes none, are of one split.
(DESIGN CHOICE, notes/assumptions/50.md.) -/
def State.countSplit (s : State) : State :=
  let same := match s.pair.splitAt with
    | some t => decide (s.stime < t + 100000)
    | none => false
  let s1 := s.modPair fun p => { p with splitAt := some s.stime }
  if same then s1
  else ((s1.stick PAIR.SPLITCNT.count PAIR.CNTOVF.split (some PAIR.IRQRAW.cnt_ovf)).irq PAIR.IRQRAW.split).fault PAIR.FAULT.split 0x0113

/-- Two claims (R351): the lower score keeps the baton, among equals PAIRPOS A.
(DEDUCED, notes/assumptions/51.md.) -/
def State.splitFound (s : State) (theirs : Nat) : State :=
  let s1 := s.countSplit.modPair fun p => { p with claimAt := some s.stime }
  let mine := s.rd PAIR.STAT.score
  if mine < theirs ∨ (mine = theirs ∧ s.straps.pairpos % 2 = 0) then s1
  else
    let s2 := s1.each (List.range s.variant.banks) fun st b =>
      st.each (st.activeRuns b) fun x r => x.endRun b r .abandoned
    ((s2.setModes true false).modPair fun p => { p with silentUntil := s.stime + 100000, exciteAt := false, offered := none, accepted := false }).wr
      PAIR.STAT.ho_pend 0 |>.toRole (if s.flag PAIR.STAT.link then 3 else 2)

/-- A claim is received: the lease runs anew, and excitation evidence is unknown until a later slot starts (R338, R345). -/
def State.claimHeard (s : State) (seq : Nat) : State :=
  let s1 := (s.wr PAIR.LEASESEQ.seq seq).modPair fun p => { p with claimAt := some s.stime }
  (s1.wr PAIR.STAT.evidence 0).modPair fun p => { p with slot := none }

/-- CMDSTAT of PAIR. -/
def State.pairStat (s : State) (st reason : Nat) : State := s.cmdStat PAIR.CMDSTAT.state PAIR.CMDSTAT.reason st reason

/-- A planned handover ends: CMDSTAT, and CMDRES where the standby asked for it (R341, R346). -/
def State.handoverOver (s : State) (st reason : Nat) : State :=
  let s1 := (s.pairStat st reason).modPair fun p => { p with offered := none, accepted := false, handedAt := none, asked := false, reply := none }
  let s2 := (s1.wr PAIR.STAT.ho_pend 0).replyTo s.pair.reply 2
  if s.pair.asked then s2.uhlizSend 8 (bytesLE 1 0x38 ++ bytesLE 4 (reason * 256 + st)) else s2

/-- The old holder hears the first claim of the new one (R346). -/
def State.handoverDone (s : State) : State :=
  if s.pair.handedAt.isNone then s
  else ((s.handoverOver 2 0).wrap PAIR.HANDOVERCNT.count).irq PAIR.IRQRAW.handover

/-- The rows of R344 that a LEASE decides in start: claim, resumption, or the choice between two nodes in start.
(DESIGN CHOICE, notes/assumptions/50.md.) -/
def State.startHeard (s : State) (role score seq : Nat) (claim : Bool) : State :=
  let mine := s.rd PAIR.STAT.score
  if claim then (s.toRole 2).setModes true false
  else if role = 3 ∧ seq ≠ 0 then (s.wr PAIR.LEASESEQ.seq seq).becomeHolder.leaseSend
  else if role = 1 ∧ (if s.straps.pairpos % 2 = 0 then decide (mine ≤ score) else decide (mine < score)) then s.becomeHolder.leaseSend
  else s

/-- A standby in step with its holder (R344). -/
def State.syncDone (s : State) : State :=
  if s.rd PAIR.STAT.role = 2 ∧ s.paired ∧ s.pair.mirrored ∧ 2 ≤ s.pair.alignRun ∧ s.rd PAIR.DIGEST.crc = s.rd PAIR.PDIGEST.crc ∧
      s.pair.heardAt.isSome ∧ ((List.range s.variant.banks).all fun b => !s.flag (CAL.BANKSTAT.initial b)) then s.toRole 3
  else s

/-- A lap yet to come, by the wrapping lap count (R538). -/
def State.lapAhead (s : State) (lap : Nat) : Bool := decide (0 < signed 32 (lap + 2 ^ 32 - s.lapCount % 2 ^ 32))

/-- What a LEASE of the partner tells (R329, R342 to R346, R350, R351); every LEASE names the node at the other end (R79). -/
def State.leaseHeard (s : State) (b : List Byte) : State :=
  let s := if b.length = 40 then s.modPair fun p => { p with peer := some (field b 0 2 % 1024) } else s
  if b.length ≠ 40 ∨ field b 0 2 % 1024 ≠ s.rd PAIR.CFG.partner then s
  else
    let role := field b 2 1 % 8
    let flags := field b 3 1
    let claim := bit flags 0
    let seq := field b 4 4
    let score := field b 18 1
    let ho := field b 20 4
    let apart := (signed 48 (field b 12 6 + 2 ^ 48 - s.stime % 2 ^ 48)).natAbs
    let s1 := (((s.wr PAIR.STAT.partner 1).wr PAIR.STAT.pscore score).wr PAIR.PDIGEST.crc (field b 30 4)).modPair fun p => { p with
      heardAt := some s.stime, pRole := role, pReady := bit flags 2, dout := field b 24 6 }
    let s2 := (if 50 < apart then s1.fault PAIR.FAULT.time 0x0114 else s1).showDiffer
    let mine := s2.rd PAIR.STAT.role
    if mine = 4 then
      let s3 := if claim then s2.splitFound score else s2
      if bit flags 4 && s3.pair.offered == some ho && s3.pair.offered.isSome then s3.modPair fun p => { p with accepted := true } else s3
    else
      let s3 := if claim then (s2.claimHeard seq).handoverDone else s2
      if mine = 1 then s3.startHeard role score seq claim
      else if bit flags 1 then (if s3.stime < s3.pair.silentUntil then s3 else s3.takeBaton)
      else if bit flags 3 && s3.isReady && s3.lapAhead ho then
        ((s3.wr PAIR.HOLAP.lap ho).wr PAIR.STAT.ho_pend 1).modPair fun p => { p with offered := some ho, accepted := true }
      else if claim && !bit flags 3 && s3.pair.offered.isSome && s3.lapAhead (s3.pair.offered.getD 0) then
        (s3.wr PAIR.STAT.ho_pend 0).modPair fun p => { p with offered := none, accepted := false }
      else s3.syncDone

/-- LEASE_RECEIVED.
(DESIGN CHOICE, notes/assumptions/6.md.) -/
def execLeaseReceived (lane : Nat) (payload : List Byte) (s : State) : Result := s.fromPartner lane fun s => s.leaseHeard payload

/-- LAPMARK_RECEIVED (R333): the first LAPMARK of a boundary makes that boundary due. -/
def execLapmarkReceived (lane : Nat) (payload : List Byte) (s : State) : Result :=
  s.fromPartner lane fun s =>
    let count := field payload 0 4
    if s.holds ∨ payload.length ≠ 16 ∨ s.pair.lapMark.isSome ∨ (s.flag PAIR.STAT.aligned && count == s.lapCount) then s
    else s.modPair fun p => { p with lapMark := some (count, field payload 4 4, field payload 8 8) }

/-! ### Excitation reports and digests -/

/-- The payload of EXCREP (R328): eight source entries for each bank, then the sources out of regulation.
(DESIGN CHOICE, notes/assumptions/15.md.) -/
def State.excrepBytes (s : State) : List Byte :=
  ((List.range 64).flatMap fun k =>
    let e := Keyed.get {} s.terms.srcs k
    bytesLE 2 e.iex ++ bytesLE 4 (unsigned 32 e.es) ++ bytesLE 4 e.ux) ++
  bytesLE 2 (bitMask ((List.range 16).filter fun i => s.sourceOut (i / 2) (i % 2 + 1)))

/-- EXCREP_SEND (R328). -/
def execExcrepSend (s : State) : Result := .next (if s.role = 4 then s.uhlizSend 3 s.excrepBytes else s)

/-- EXCREP_RECEIVED (R336). -/
def execExcrepReceived (lane : Nat) (payload : List Byte) (s : State) : Result :=
  s.fromPartner lane fun s =>
    if payload.length ≠ 642 ∨ s.role = 4 then s
    else
      let entries := (List.range 64).map fun k => (k, ({ iex := field payload (10 * k) 2 % 4096, es := signed 32 (field payload (10 * k + 2) 4), ux := field payload (10 * k + 6) 4 } : SrcTerm))
      let out := setBits (field payload 640 2) 16
      let s1 := s.modPair fun p => { p with excrep := true, srcs := entries, srcOut := out }
      if out = s.pair.srcOut then s1
      else s1.each (List.range s.variant.banks) fun st b => st.modBank b fun k => { k with reschedule := true }

/-- The holder's entry for a record: a held conversion goes on with its outcome, a record that did not wait is compared now
(R337, R339). -/
def State.digestHeard (s : State) (ch : Nat) (d : DigestEntry) : State :=
  let s1 := s.modPair fun p => { p with digests := Keyed.put p.digests ch d }
  let mine : ConvEntry → Bool := fun e => e.ch == ch && e.lap % 256 == d.lap
  match s.pair.held.find? mine with
  | some e => (s1.modPair fun p => { p with held := p.held.filter fun x => !mine x }).arithQueue { e with holder := d.outcome }
  | none =>
    match Keyed.get? s.arith.newest ch with
    | some r => if r.lap % 256 = d.lap then s1.crossCheck r r.absent else s1
    | none => s1

/-- DIGEST_RECEIVED (R337): one or more entries of 12 bytes.
(DEDUCED, notes/assumptions/51.md.) -/
def execDigestReceived (lane : Nat) (payload : List Byte) (s : State) : Result :=
  s.fromPartner lane fun s =>
    if s.role = 4 then s
    else
      s.each (List.range (payload.length / 12)) fun st i =>
        let b := payload.drop (12 * i)
        st.digestHeard (field b 0 2) ⟨field b 2 1, field b 3 1, signed 32 (field b 4 4), field b 8 2, field b 10 1⟩

/-- DIGEST_WAIT_TIMEOUT (R337): the standby forms the record from its own result. -/
def execDigestWaitTimeout (ch : Nat) (s : State) : Result :=
  match s.pair.held.find? fun e => e.ch == ch with
  | none => .next s
  | some e => .next ((s.modPair fun p => { p with held := p.held.filter fun x => !(x.ch == ch && x.lap == e.lap) }).arithQueue e)

/-! ### Mirrors and commands -/

/-- MIRROR_END_RECEIVED (R340), with the payloads of the MIRROR frames of the lap. -/
def execMirrorEndReceived (lane : Nat) (payload : List Byte) (mirrors : List (List Byte)) (s : State) : Result :=
  s.fromPartner lane fun s =>
    let bs := mirrors.flatten
    if s.holds ∨ payload.length ≠ 8 ∨ field payload 4 4 ≠ crc32 bs ∨ !s.mirrorFits bs then s
    else ((s.modPair fun p => { p with mirrorReady := some (field payload 0 4), mirror := bs }).takeMirror).syncDone

/-- CMDSTAT of a block whose command was forwarded, and the result for the TML party that waits for it (R341, R393). -/
def State.forwardedStat (s : State) (block st reason : Nat) (reply : Option Nat) : State :=
  if block = 0x20 then (s.almStat st reason).replyTo reply 0
  else if block = 0x28 then (s.callStat st reason).replyTo reply 1
  else (s.pairStat st reason).replyTo reply 2

/-- CMDRES_RECEIVED (R341). -/
def execCmdresReceived (lane : Nat) (payload : List Byte) (s : State) : Result :=
  s.fromPartner lane fun s =>
    let block := field payload 0 1
    let st := field payload 1 1 % 8
    let reason := field payload 2 1
    match s.pair.forwarded.find? fun e => e.1 == block with
    | none => s
    | some e =>
      if payload.length ≠ 5 then s
      else
        let s1 := (s.modPair fun p => { p with forwarded := p.forwarded.erase e }).forwardedStat block st reason e.2
        if block = 0x20 then s1.irq ALM.IRQRAW.cmd_done else s1

/-- CMDRES_TIMEOUT (R341): the oldest forwarded command has no answer for 100 ms. -/
def execCmdresTimeout (s : State) : Result :=
  match s.pair.forwarded with
  | [] => .next s
  | e :: rest => .next ((s.modPair fun p => { p with forwarded := rest }).forwardedStat e.1 5 0 e.2)

/-- EVALDONE_RECEIVED (R334). -/
def execEvaldoneReceived (lane : Nat) (payload : List Byte) (s : State) : Result :=
  s.fromPartner lane fun s => s.modPair fun p => { p with partnerDone := some (field payload 0 4) }

/-- EVALDONE_TIMEOUT (R334): 2 ms have passed since the holder's own evaluation ended. -/
def execEvaldoneTimeout (s : State) : Result :=
  .next (if s.role = 4 ∧ s.lap.evalDone then s.modPair fun p => { p with doneTimeout := true } else s)

/-- LANE_DOWN (R330): a lane without a good frame for 3 ms. -/
def execLaneDown (lane : Nat) (s : State) : Result :=
  let lanes := s.rd PAIR.STAT.lanes
  if !s.alive 0x38 ∨ 1 < lane ∨ !bit lanes lane then .next s
  else
    let s1 := (s.modPair fun p => if lane = 0 then { p with good0 := 0 } else { p with good1 := 0 }).irq PAIR.IRQRAW.lane_down
    .next (s1.lanesNow (lanes - 2 ^ lane)).linkGone

/-- UHLIZ_FRAME_ERROR (R327). -/
def execUhlizFrameError (lane : Nat) (s : State) : Result :=
  if !s.alive 0x38 ∨ 1 < lane then .next s
  else if lane = 0 then .next ((s.stick PAIR.LANEERR0.count PAIR.CNTOVF.err0 (some PAIR.IRQRAW.cnt_ovf)).modPair fun p => { p with good0 := 0 })
  else .next ((s.stick PAIR.LANEERR1.count PAIR.CNTOVF.err1 (some PAIR.IRQRAW.cnt_ovf)).modPair fun p => { p with good1 := 0 })

/-! ### The baton -/

/-- PAIR_START_TIMEOUT (R344): no sign of the partner for start_ms. -/
def execPairStartTimeout (s : State) : Result :=
  .next (if s.alive 0x38 ∧ s.role = 1 then s.becomeHolder.leaseSend else s)

/-- TAKEOVER (R348, R349): the lease has expired; `silent` where no pair-presence message has arrived for 12 ms.
(DEDUCED, notes/assumptions/51.md.) -/
def execTakeover (silent : Bool) (s : State) : Result :=
  let deaf := !s.usable 0 && !s.usable 1
  let evidence := s.rd PAIR.STAT.evidence
  if s.alive 0x38 && (s.role == 2 || s.role == 3) && (silent || deaf) && (evidence == 2 || (evidence == 0 && silent)) &&
      decide (s.pair.silentUntil ≤ s.stime) then .next s.takeBaton
  else .next s

/-- PARTNER_LOST (R352). -/
def execPartnerLost (s : State) : Result :=
  if !s.alive 0x38 ∨ !s.paired ∨ s.rd PAIR.STAT.partner = 2 then .next s
  else .next (((s.wr PAIR.STAT.partner 2).irq PAIR.IRQRAW.partner_lost).fault PAIR.FAULT.partner 0x0111)

/-- BATON_RELEASE (R350, R353): both buses have been unusable for 20 ms, with the link up.
(DEDUCED, notes/assumptions/51.md.) -/
def execBatonRelease (s : State) : Result :=
  if s.alive 0x38 && s.role == 4 && s.flag PAIR.STAT.link && !s.usable 0 && !s.usable 1 then
    .next (((s.modPair fun p => { p with releasing := true, exciteAt := false, offered := none, accepted := false }).wr PAIR.STAT.ho_pend 0).toRole 3).leaseSend
  else .next s

/-- A planned handover is requested (R346): the boundary is the first at least 2 ms ahead. `asked`: by the standby; `reply`: the TML party
that waits for the result.
(DEDUCED, notes/assumptions/51.md.) -/
def State.requestHandover (s : State) (asked : Bool) (reply : Option Nat := none) : State :=
  let refuse : Nat → State := fun r =>
    let s1 := (s.pairStat 4 r).replyTo reply 2
    if asked then s1.uhlizSend 8 (bytesLE 1 0x38 ++ bytesLE 4 (r * 256 + 4)) else s1
  if s.role ≠ 4 then refuse 1
  else if s.pair.offered.isSome then refuse 3
  else if !(s.pair.pReady && s.pair.pRole == 3 && s.flag PAIR.STAT.link) then refuse 2
  else
    let b := (s.lapCount + (if s.lap.timer + 2000 ≤ s.lap.nextGrid then 1 else 2)) % 2 ^ 32
    ((((s.pairStat 1 0).wr PAIR.HOLAP.lap b).wr PAIR.STAT.ho_pend 1).modPair fun p => { p with offered := some b, accepted := false, asked := asked, reply := reply }).leaseSend

/-- A write of PAIR.CMD (R346, R358): op 0x1, forwarded by a standby; op 0x2 returns a standby to sync.
(DEDUCED, notes/assumptions/42.md.) -/
def State.pairCommand (s : State) (req : Requester) (op : Nat) (reply : Option Nat := none) : State :=
  match op with
  | 1 =>
    if s.role = 3 then (s.forward 0x38 (0xB7 * 2 ^ 24 + 2 ^ 20) 0 (requesterCode req) reply).pairStat 1 0
    else s.requestHandover false reply
  | 2 => (if s.role = 3 then (s.toRole 2).pairStat 2 0 else s.pairStat 3 0).replyTo reply 2
  | _ => (s.pairStat 4 4).replyTo reply 2

/-- PLANNED_HANDOVER. -/
def execPlannedHandover (req : Requester) (s : State) : Result := s.command req 0x38 fun s => s.pairCommand req 1
/-- RESYNCHRONISE. -/
def execResynchronise (req : Requester) (s : State) : Result := s.command req 0x38 fun s => s.pairCommand req 2

/-- HANDOVER_OFFER_LAPSE (R346): not accepted 1 ms before b. -/
def execHandoverOfferLapse (s : State) : Result :=
  .next (if s.role = 4 ∧ s.pair.offered.isSome ∧ !s.pair.accepted then s.handoverOver 4 2 else s)

/-- HANDOVER_NO_CLAIM (R346): no claim 3 ms after b; the old holder takes the baton back and excites from the next boundary. -/
def execHandoverNoClaim (s : State) : Result :=
  .next (if s.alive 0x38 ∧ s.paired ∧ s.pair.handedAt.isSome then
      (((s.modPair fun p => { p with exciteAt := true }).toRole 4).leaseSend).handoverOver 4 5
    else s)

/-- CMDFWD_RECEIVED (R341): the command enters the holder's queue.
(DESIGN CHOICE, notes/assumptions/15.md.) -/
def execCmdfwdReceived (lane : Nat) (payload : List Byte) (s : State) : Result :=
  s.fromPartner lane fun s =>
    let block := field payload 0 1
    let word := field payload 1 4
    let op := getBits word 20 4
    if payload.length ≠ 11 ∨ !s.holds then s
    else if block = 0x20 then s.almEnqueue { op := op, target := word % 2 ^ 20, arg := field payload 5 4, forwarded := true }
    else if block = 0x28 then s.callEnqueue { op := op, target := word % 2 ^ 10, arg := field payload 5 4, forwarded := true }
    else if block = 0x38 ∧ op = 1 then s.requestHandover true
    else s

/-! ### Presence -/

/-- PAIR_PRESENCE_SEND (R348, R391): on every usable network. -/
def execPairPresenceSend (s : State) : Result :=
  if !s.alive 0x38 ∨ !s.paired then .next s
  else
    let body := bytesLE 2 (s.rd PAIR.CFG.partner) ++ bytesLE 1 (s.rd PAIR.STAT.role) ++ bytesLE 1 (s.rd PAIR.STAT.score) ++
      bytesLE 4 (s.rd PAIR.LEASESEQ.seq) ++ bytesLE 4 (s.leaseFlags % 2)
    .next ((s.sendOn ((s.portsOf 1).filter fun n => s.usable n) 1 0x18 body).pump)

/-- A pair-presence message of the partner (R348, R351, R352). -/
def State.presenceHeard (s : State) (b : List Byte) : State :=
  if !s.alive 0x38 ∨ !s.paired then s
  else
    let s1 := s.modPair fun p => { p with presenceAt := some s.stime }
    let s2 := if s.flag PAIR.STAT.link then s1 else (s1.wr PAIR.STAT.partner 3).fault PAIR.FAULT.degraded 0x0110
    if s.role = 4 ∧ (field b 2 1 = 4 ∨ bit (field b 8 1) 0) then s2.splitFound (field b 3 1) else s2

/-! ### The boundary -/

/-- What a boundary finds of the pair: digests, alignment, mirrors and score (R331, R333, R340, R343, R344, R347); `marked`
where the holder's LAPMARK gave the boundary.
(DESIGN CHOICE, notes/assumptions/50.md.)
(DEDUCED, notes/assumptions/52.md.) -/
def State.pairBoundary (s : State) (marked : Bool) : State :=
  if !s.alive 0x38 then s
  else
    let s0 := s.showScore
    if !s0.paired then s0
    else
      let standby := !s0.holds
      let differ := s0.rd PAIR.DIGEST.crc != s0.rd PAIR.PDIGEST.crc && s0.pair.heardAt.isSome
      let run := if differ then s0.pair.diffRun + 1 else 0
      let s1 := s0.modPair fun p => { p with diffRun := run, doneTimeout := false, partnerDone := none }
      let s2 :=
        if 2 ≤ run then (if run = 2 then s1.irq PAIR.IRQRAW.cfgdiff else s1).fault PAIR.FAULT.cfgdiff 0x0112 else s1
      let aligned := if standby then marked && s2.flag PAIR.STAT.link else s2.flag PAIR.STAT.link
      let s3 := (s2.put PAIR.STAT.aligned aligned).modPair fun p => { p with alignRun := if aligned then p.alignRun + 1 else 0 }
      let inPair := s3.role == 2 || s3.role == 3
      let s4 := if inPair && s3.flag PAIR.STAT.link && !s3.pair.mirrorDone then
          (s3.stick PAIR.MIRRORMISS.count PAIR.CNTOVF.mirror (some PAIR.IRQRAW.cnt_ovf)).irq PAIR.IRQRAW.mirror_miss else s3
      let s5 := s4.modPair fun p => { p with mirrorDone := false, mirrorReady := none, mirror := [] }
      let s6 := if s5.role = 3 ∧ (2 ≤ run ∨ !aligned) then s5.toRole 2 else s5
      let worse := s6.role == 4 && s6.flag PAIR.CFG.auto_ho && s6.rd PAIR.STAT.partner == 1 &&
        decide (s6.rd PAIR.STAT.pscore + s6.rd PAIR.CFG.margin ≤ s6.rd PAIR.STAT.score)
      let m := if worse then s6.pair.marginRun + 1 else 0
      let s7 := s6.modPair fun p => { p with marginRun := m }
      let s8 := if 3 ≤ m ∧ s7.pair.offered.isNone then s7.requestHandover false else s7
      (s8.showReady).syncDone

/-- Step 5 of a boundary (R29, R346, R349, R350): the planned handover, and excitation ownership that waited.
(DEDUCED, notes/assumptions/51.md.) -/
def State.handoverStep (s : State) : State :=
  if !s.alive 0x38 ∨ !s.paired then s
  else
    let s1 := if s.pair.releasing then (s.setModes true false).modPair fun p => { p with releasing := false } else s
    let s2 := if s1.pair.exciteAt then (s1.setModes false true).modPair fun p => { p with exciteAt := false } else s1
    if s2.pair.accepted ∧ s2.pair.offered = some s2.lapCount then
      if s2.role = 4 then
        ((s2.setModes true false).modPair fun p => { p with handedAt := some s.stime, lateRelease := true, accepted := false }).toRole 3
      else
        let a := (s2.setModes false true).modPair fun p => { p with offered := none, accepted := false }
        (((a.wr PAIR.STAT.ho_pend 0).toRole 4).wrap PAIR.HANDOVERCNT.count |>.irq PAIR.IRQRAW.handover).leaseSend
    else s2

/-- The holder's LAPMARK at step 1 of a boundary (R328, R333). -/
def State.sendLapmark (s : State) : State :=
  if s.role = 4 then s.uhlizSend 2 (bytesLE 4 s.lapCount ++ bytesLE 4 s.lapPeriod ++ bytesLE 8 s.stime) else s

/-- Whether the pair lets the holder take its next boundary (R334). -/
def State.pairReadyForLap (s : State) : Bool :=
  s.role != 4 || s.lap.zero || s.pair.doneTimeout || s.pair.partnerDone == some s.lapCount

/-- A commit of PAIR.CFG changes enable: the node enters start, or stands alone (R335, R344). -/
def State.pairCommitted (s : State) (old : WordMap) : State :=
  let was := oldRd old PAIR.CFG.enable == 1
  let now := s.flag PAIR.CFG.enable
  if was = now then s
  else if now then
    (({ s with pair := { seq0 := s.pair.seq0, seq1 := s.pair.seq1, good0 := s.pair.good0, good1 := s.pair.good1, foreign := s.pair.foreign } }.wr PAIR.STAT.role 1).setModes true false)
      |>.applyOutputs.driveLoops.purge.tellRole 0
  else (((s.setModes false true).applyOutputs).driveLoops).tellRole (s.rd PAIR.STAT.role)

/-- PAIR after a reset that clears it (R344, R355): start; the banks keep their modes unless they were reset too. -/
def State.pairRelease (s : State) (banks : Bool) : State :=
  let s1 := { s with pair := { foreign := s.pair.foreign } }.purge
  if banks then (if s1.paired then s1.setModes true false else s1.setModes false true) else s1

end Sys2Proof.Machine
end

