-- ==== Sys2Proof/Machine/Shadow.lean ====
section
/-!
DEFINITION. The three copies of a page's configuration (R16, R49, R53): the shadow CRC, loads from the mirror, the application of
a shadow, and the configuration digest (R331).
-/

namespace Sys2Proof.Machine

/-! ### Which copy -/

/-- A word of a copy of the configuration as R49 takes it: bits that are not RWS, and entries of absent resources, are 0. -/
def State.cfgWord (s : State) (m : WordMap) (a : Nat) : Nat :=
  if wordAbsent s.variant a then 0 else (Sparse.get resetWord m a).toNat &&& cfgMask a &&& variantMask s.variant a

/-- The bytes of a page's shadow region in a copy (R49). -/
def State.regionOf (s : State) (m : WordMap) (p : Nat) : List Byte := (shadowAddrs p).flatMap fun a => bytesLE 4 (s.cfgWord m a)

/-- The shadow CRC over a copy (R49). -/
def State.regionCrc (s : State) (m : WordMap) (p : Nat) : Nat := crc32 (s.regionOf m p)

/-- The shadowed pages of the variant, ascending. -/
def State.shadowedPages (s : State) : List Nat :=
  ((pageTable s.variant).map PageInfo.number).filter fun p => s.present p && pageShadowed p

/-- The configuration digest (R331), with or without PAIR (R526). -/
def State.digestOf (s : State) (withPair : Bool) : Nat :=
  crc32 ((s.shadowedPages.filter fun p => withPair || p != 0x38).flatMap fun p => bytesLE 4 (s.regionCrc s.live p))

/-- PAIR.DIGEST is recomputed (R331).
(DEDUCED, notes/assumptions/53.md.) -/
def State.showDigest (s : State) : State := if s.alive 0x38 then (s.wr PAIR.DIGEST.crc (s.digestOf false)).showDiffer else s

/-- One copy takes a page's words from another. -/
def copyPage (p : Nat) (from_ to_ : WordMap) : WordMap :=
  let there := from_.filter fun e => inShadowRegion p e.1
  let rest := to_.filter fun e => !inShadowRegion p e.1
  there.foldl (fun m e => Sparse.set resetWord m e.1 e.2) rest

/-- A page is loaded from the mirror: live and shadow equal it, and the shadow is clean (R16). -/
def State.loadPage (s : State) (p : Nat) : State :=
  { s with live := copyPage p s.mirror s.live, shadow := copyPage p s.mirror s.shadow, dirty := dropFrom s.dirty p }

/-- A shadow is applied: live configuration and mirror take it as one change (R53). -/
def State.applyPage (s : State) (p : Nat) : State :=
  { s with live := copyPage p s.shadow s.live, mirror := copyPage p s.shadow s.mirror, dirty := dropFrom s.dirty p }

/-- CTL.revert (R58). -/
def State.revertPage (s : State) (p : Nat) : State := { s with shadow := copyPage p s.live s.shadow, dirty := dropFrom s.dirty p }

/-- A word is written into a copy: its RWS bits, and nothing in an entry of an absent resource (R46, R49). -/
def State.putCfg (s : State) (a : Nat) (v : Word) (m : WordMap) : WordMap :=
  if wordAbsent s.variant a then m
  else Sparse.set resetWord m a (v &&& BitVec.ofNat 32 (cfgMask a &&& variantMask s.variant a))

/-- A page's region, given as bytes, replaces it in a copy. -/
def State.putRegion (s : State) (p : Nat) (bs : List Byte) (m : WordMap) : WordMap :=
  ((shadowAddrs p).zip (wordsOfBytes bs)).foldl (fun m e => s.putCfg e.1 e.2 m) (m.filter fun e => !inShadowRegion p e.1)

end Sys2Proof.Machine
end

