-- ==== Sys2Proof/Machine/Manage.lean ====
section
/-!
DEFINITION. What node management does to blocks: quiesce and enable (R41, R594), what a reset or a loss of power clears and what
its release sets up (R16, R19, R514 to R518, R546 to R553), and the power of domains (R510, R512).
-/

namespace Sys2Proof.Machine

/-! ### Quiesce -/

/-- Work in hand that keeps STAT.idle away (R154, R289, R381, R434). -/
def State.holdsIdle (s : State) (p : Nat) : Bool :=
  if 0x30 ≤ p ∧ p ≤ 0x33 then s.portMode (p - 0x30) != 0
  else
    match p with
    | 0x11 => !s.arith.queue.isEmpty
    | 0x18 => s.loopList.any fun u => (s.loop u).winOpen
    | 0x42 => s.activeStream.isSome
    | _ => false

/-- STAT.busy: the block has work in hand (R41). What a quiesced block leaves waiting is not in hand (R595, R268, R415, R467); a
stride phase and a field calibration are CAL's (R542).
(DEDUCED, notes/assumptions/57.md.) -/
def State.busy (s : State) (p : Nat) : Bool :=
  if 0x08 ≤ p ∧ p ≤ 0x0F then (s.bank (p - 8)).scanning
  else if 0x30 ≤ p ∧ p ≤ 0x33 then (s.onWire (p - 0x30)).isSome
  else
    match p with
    | 0x10 => s.calInHand
    | 0x20 => !s.quiesced p && (!s.lap.evalDone || !s.alarm.queue.isEmpty || s.alarm.rescan.isSome)
    | 0x28 => !s.quiesced p && (!s.lap.evalDone || !s.call.queue.isEmpty)
    | 0x34 => !s.quiesced p && (!s.msg.waiting.isEmpty || !s.msg.accepted.isEmpty || s.msg.queues.any fun e => !e.2.isEmpty)
    | 0x38 => !s.quiesced p && !s.pair.sent.isEmpty
    | 0x48 => s.nvm.running.isSome || (!s.quiesced p && !s.nvm.waiting.isEmpty)
    | 0x49 => decide (0 < s.recorder.finishing) ||
        (!s.quiesced p && (s.recorder.writing.isSome || !s.recorder.waiting.isEmpty || s.flag REC.STAT.clearing))
    | 0x58 => s.sec.running.isSome
    | _ => s.holdsIdle p

/-- STAT.idle: the quiesce is acknowledged and no work is in hand (R41, R594); NVM acknowledges once no read is in progress, a program
or erase notwithstanding (R434).
(DESIGN CHOICE, notes/assumptions/57.md.) -/
def State.idle (s : State) (p : Nat) : Bool :=
  s.quiesced p && !(if p = 0x48 then s.nvm.running.any fun c => c.op == 3 else s.busy p) && !s.holdsIdle p

/-- A quiesce of REC leaves the page program in progress to end, within 1 ms (R467).
(DESIGN CHOICE, notes/assumptions/54.md.) -/
def State.quiesceRec (s : State) : State :=
  if s.storeRuns .recBase || s.storeRuns .recRecords then
    let (x, s1) := s.draw
    { s1 with recorder := { s1.recorder with finishing := x % 1000 } }
  else s

/-- A block begins to be quiesced (R112, R198, R362, R434, R499). -/
def State.quiesceEnter (s : State) (p : Nat) : State :=
  if 0x08 ≤ p ∧ p ≤ 0x0F then (s.abandonBank (p - 8)).deferStride (p - 8)
  else if 0x30 ≤ p ∧ p ≤ 0x33 then s.refreshPort (p - 0x30)
  else
    match p with
    | 0x10 => s.quiesceCal
    | 0x28 => s.callFreeze
    | 0x40 => s.haltStreams 0x40
    | 0x48 => s.haltStreams 0x48
    | 0x49 => s.quiesceRec
    | 0x58 => s.quiesceSec
    | _ => s

/-- What producers held while the engine took up no work is done in order, and streams go on (R420, R434). -/
def State.dmaReplay (s : State) : State :=
  if s.dmaHolds then s
  else
    let jobs := s.dma.jobs
    (({ s with dma := { s.dma with jobs := [] } }).each jobs fun st j =>
      match j with
      | .result r => st.ringWrite r
      | .notification e => st.nqStore e
      | .received n q e => st.rxStore n q (e.take 80) (ofBytesLE (e.drop 80))).pickStream 63

/-- A quiesce ends and the block takes up its work (R594); a bank joins with lead conversions (R569). -/
def State.quiesceLeave (s : State) (p : Nat) : State :=
  if 0x08 ≤ p ∧ p ≤ 0x0F then s.modBank (p - 8) fun k => { k with leadForced := List.range 20 }
  else if 0x30 ≤ p ∧ p ≤ 0x33 then s.refreshPort (p - 0x30)
  else
    match p with
    | 0x18 => s.driveLoops
    | 0x19 => s.applyOutputs
    | 0x20 => s.almDrain
    | 0x28 => s.callThaw.callDrain
    | 0x34 => s.formWaiting.pump
    | 0x42 => s.dmaReplay.recGo
    | 0x48 => s.nvmGo
    | 0x49 => s.recGo
    | _ => s

/-- A bit of CTL takes a value, and the block follows (R41, R362, R594); ALM ends the evaluation in progress first (R595). -/
def State.setCtl (s : State) (p : Nat) (r : Ref) (v : Bool) : State :=
  let s := if p = 0x20 && !s.quiesced p && (s.put r v).quiesced p then s.completeEvaluation else s
  let s1 := s.put r v
  if 0x30 ≤ p ∧ p ≤ 0x33 then s1.refreshPort (p - 0x30)
  else if s1.quiesced p && !s.quiesced p then s1.quiesceEnter p
  else if s.quiesced p && !s1.quiesced p then s1.quiesceLeave p
  else s1

/-- CTL.enable takes a value. On LAP, 1 begins a new grid (R538) and 0 lets the lap in progress be the last (R541).
(DEDUCED, notes/assumptions/8.md.) -/
def State.setEnable (s : State) (p : Nat) (v : Bool) : State :=
  if p = 4 then
    let was := s.flag (HDR.CTL.enable 4)
    let s1 := s.put (HDR.CTL.enable 4) v
    if v && !was then { s1 with lap := { s1.lap with fresh := true, zero := true } } else s1
  else s.setCtl p (HDR.CTL.enable p) v

/-! ### What a reset clears -/

/-- Register addresses that a reset of their page leaves: SYS.CFGOWNER but for a full reset (R15), the operating time (R517),
RST.CAUSE (R556), the log position, power-cycle count, leg, base sequence and anchors of REC (R450, R455). -/
def keptRegs (p : Nat) (full : Bool) : List Nat :=
  match p with
  | 0x00 => if full then [] else [0x44]
  | 0x01 => [0x1098, 0x109C]
  | 0x03 => [0x3040]
  | 0x58 => [0x58044]
  | 0x49 => [0x49084, 0x49088, 0x4908C, 0x49098, 0x4909C, 0x490A0, 0x490BC] ++ (List.range 16).map fun i => 0x490E0 + 4 * i
  | _ => []

/-- The register words of a page take their reset values. A block reset of a page of BKP clears what R468 and R499 list; on every
other page CTL.enable, which belongs to the configuration mirror (R382), outlasts all but a full reset. -/
def State.wipeRegs (s : State) (p : Nat) (full : Bool) : State :=
  match p with
  | 0x50 => (((s.clearRange 0x50014 0x50018).clearRange 0x50020 0x50028).clearRange 0x50070 0x50094).clearRange 0x500A4 0x500A8
  | 0x51 => s.clearRange 0x51014 0x51018
  | 0x59 => (s.clearRange 0x59014 0x59018).clearRange 0x59064 0x59068
  | 0x5A => s.clearRange 0x5A014 0x5A018
  | _ =>
    let keep := keptRegs p full
    let s1 := { s with regs := s.regs.filter fun e => e.1 / 0x1000 != p || keep.contains e.1 }
    if full then s1 else s1.wr (HDR.CTL.enable p) (s.rd (HDR.CTL.enable p))

/-- A reset of REC abandons the base that NVM was programming: its sector is left part programmed (R440). -/
def State.cutBase (s before : State) : State :=
  match before.nvm.running with
  | some c => if c.owner = .recBase then (s.storeUndefine c.addr c.len).nvmGo else s.nvmGo
  | none => s.nvmGo

/-- A job that a producer holds is lost with the producer's page (R434). -/
def DmaJob.of (p : Nat) : DmaJob → Bool
  | .result _ => p == 0x11
  | .notification _ => p == 0x20
  | .received n _ _ => p == 0x30 + n

/-- What an engine holds when its page is cleared, by a reset or, where `power` is set, by the loss of its power. -/
def State.clearEngine (s : State) (p : Nat) (power : Bool) : State :=
  if 0x08 ≤ p ∧ p ≤ 0x0F then ((s.dropBank (p - 8)).deferStride (p - 8)).when (!power) fun t => t.clearSources (p - 8)
  else if 0x30 ≤ p ∧ p ≤ 0x33 then s.clearPort (p - 0x30) power
  else
    match p with
    | 0x01 => { s with pwr := { on := s.pwr.on, saveSeq := s.pwr.saveSeq, slept := s.pwr.slept } }
    | 0x04 => { s with lap := {} }
    | 0x10 => s.clearCal
    | 0x11 =>
      let lost := (s.arith.queue ++ s.pair.held).map ConvEntry.ch
      { s with arith := {}, cal := { s.cal with tmod := none }, lap := { s.lap with awaited := s.lap.awaited.filter fun c => !lost.contains c } }
    | 0x18 => s.clearUio
    | 0x19 => if power then s.clearField else s.clearDio
    | 0x1A => s.clearJkt power
    | 0x20 => s.clearAlm
    | 0x28 => { s with call := {} }
    | 0x34 => { s with msg := {} }
    | 0x35 => { s with tsync := {} }
    | 0x38 =>
      { s with
        lap := { s.lap with awaited := s.lap.awaited.filter fun c => !(s.pair.held.map ConvEntry.ch).contains c }
        pair := { foreign := s.pair.foreign } }
    | 0x42 => { s with dma := { jobs := s.dma.jobs } }
    | 0x48 => s.nvmCut
    | 0x49 =>
      let r := s.recorder
      ({ s with
        nvm := { s.nvm with
          running := s.nvm.running.filter fun c => decide (c.owner ≠ NvmOwner.recBase ∧ c.owner ≠ NvmOwner.recRecords)
          waiting := s.nvm.waiting.filter fun c => decide (c.owner ≠ NvmOwner.recBase ∧ c.owner ≠ NvmOwner.recRecords) }
        recorder := {
          staged := r.staged, changes := r.changes, sinceCapture := r.sinceCapture, baseDue := r.baseDue || r.writing.isSome
          baseTime := r.baseTime, baseSector := r.baseSector, deltaPage := r.deltaPage, untold := r.untold, sectorOpen := r.sectorOpen
          sectorSeq := r.sectorSeq, clearing := r.clearing, clearTo := r.clearTo, clearS := r.clearS, clearCrc := r.clearCrc
          clearCount := r.clearCount } }.cutBase s).clearRange 0x178000 0x178400
    | 0x50 => { s with rtc := { s.rtc with freezes := [], pendingCmd := none } }
    | 0x58 => s.clearSec 1
    | 0x59 => s.modSec fun x => { x with keyData := [] }
    | 0x60 => { s with response := [], responseCrc := 0 }
    | _ => s

/-- A page is cleared (R19, R57).
(DEDUCED, notes/assumptions/25.md.) -/
def State.clearPage (s : State) (p : Nat) (full power : Bool) : State :=
  let held := (s.rd REC.STAT.logfull, s.rd REC.STAT.clearing, s.rd PWR.STAT.vdda_low, s.rd PWR.STAT.core_warn, s.rd PWR.STAT.vmon, s.rd PWR.STAT.io33)
  let tsc := if 0x30 ≤ p ∧ p ≤ 0x33 ∧ power then s.rd (BUS.TSC.us (p - 0x30)) else 0
  let s1 := ((s.clearEngine p power).wipeRegs p full)
  let s2 := { s1 with immediate := dropFrom s1.immediate p, latched := s1.latched.filter fun e => e.1 / 0x1000 != p
                      pair := { s1.pair with foreign := dropFrom s1.pair.foreign p }
                      dma := { s1.dma with jobs := s1.dma.jobs.filter fun j => !j.of p } }
  match p with
  | 0x01 => (((s2.wr PWR.STAT.vdda_low held.2.2.1).wr PWR.STAT.core_warn held.2.2.2.1).wr PWR.STAT.vmon held.2.2.2.2.1).wr PWR.STAT.io33 held.2.2.2.2.2
  | 0x49 => (s2.wr REC.STAT.logfull held.1).wr REC.STAT.clearing held.2.1
  | 0x34 => s2.wr MSG.STAT.dupaddr (if full then 0 else s.rd MSG.STAT.dupaddr)
  | _ => if 0x30 ≤ p ∧ p ≤ 0x33 then s2.wr (BUS.TSC.us (p - 0x30)) tsc else s2

/-! ### What a release sets up -/

/-- A page's block at its release (R114, R199, R268, R288, R319, R379, R420, R467, R488). -/
def State.startEngine (s : State) (p : Nat) (power : Bool) : State :=
  if 0x08 ≤ p ∧ p ≤ 0x0F then
    let listen := s.paired && s.role != 4
    (((s.put (AFE.MODE.listen (p - 8)) listen).put (AFE.MODE.excown (p - 8)) (!listen && !(s.role == 4 && s.pair.exciteAt))).wr (AFE.LANEMAP.retired (p - 8))
      (Keyed.get 0 s.terms.retiredMods (p - 8))).modBank (p - 8) fun k => { k with reschedule := true }
  else if 0x30 ≤ p ∧ p ≤ 0x33 then (if power && s.pwr.slept then s.captureTsc (p - 0x30) else s).refreshPort (p - 0x30)
  else
    match p with
    | 0x04 => if s.flag (HDR.CTL.enable 4) then { s with lap := { s.lap with fresh := true, zero := true } } else s
    | 0x10 => s.calReset
    | 0x18 => s.driveLoops
    | 0x19 => s.applyOutputs
    | 0x20 => s.groupsAnew
    | 0x28 => s.callRelease
    | 0x34 => s.showNoKey
    | 0x38 => s.pairRelease false
    | 0x40 => if power then s else (s.wr MEM.INFO.init_done 1).wr MEM.INFO.retvalid 1
    | 0x48 => s.nvmGo.calIssue.recGo
    | 0x49 => s.tellStow.recGo
    | 0x58 => s.releaseSec
    | _ => s

/-- A page is loaded from the mirror and its block released (R16, R549); a quiesce that ran out before it leaves its fault
(R551). -/
def State.releasePage (s : State) (p : Nat) (power : Bool) : State :=
  let s1 := { s with rst := { s.rst with held := dropFrom s.rst.held p, timedOut := dropFrom s.rst.timedOut p } }
  let s2 := (s1.loadPage p).startEngine p power
  if s.rst.timedOut.contains p then s2.fault (HDR.FAULT.qtimeout p) 0x0006 else s2

/-- CORE after a reset (R159, R184): the term table is loaded and every bank begins an initial rotation. -/
def State.coreReleased (s : State) : State :=
  s.calLoad.each (List.range s.variant.banks) fun st b => (st.startRotation b).modStride b fun t => { t with boundary := 0 }

/-! ### Domains -/

/-- The order in which domains are switched off (R512). -/
def offOrder : List Domain := [.afeH, .afeL, .cal, .uio, .dio, .pair, .comm, .core, .nvm, .sram]

/-- The order of release (R549). -/
def releaseOrder : List Domain := .aon :: offOrder.reverse

/-- Whether a power state powers a domain (R514). -/
def poweredIn (state : Nat) (d : Domain) : Bool :=
  match d with
  | .bkp | .aon | .uio | .dio => true
  | .core | .sram => state != 3
  | _ => decide (state < 2)

/-- Whether a domain is to be on (R510), but for UIO's need of DIO. -/
def State.wantedAlone (s : State) (d : Domain) : Bool :=
  let afe := d == .afeL || d == .afeH
  d == .bkp || d == .aon ||
    (!(s.pagesOf d).isEmpty && poweredIn (s.rd PWR.STAT.state) d &&
      !(afe && decide (3 ≤ s.level) && !s.essentialIn d) &&
      !((afe || d == .cal) && s.flag PWR.STAT.vdda_low) &&
      (decide (d.code < 4) || bit (s.rd PWR.DOMREQ.req) (d.code - 4)))

/-- Whether a domain is to be on and its power has come (R24, R510, R512). -/
def State.wanted (s : State) (d : Domain) : Bool :=
  s.wantedAlone d && (d != .uio || (s.wantedAlone .dio && !s.pwr.abandoned.contains .dio)) && !s.pwr.abandoned.contains d

/-- The channels of an AFE domain that shedding switches off are due no more in the lap that runs (R218). -/
def State.pauseDue (s : State) (d : Domain) : State :=
  if s.shedOff d then { s with lap := { s.lap with due := s.lap.due.filter fun c => !(s.pagesOf d).contains (8 + c / 20) } } else s

/-- A domain's power goes; with CORE goes the term table (R159). -/
def State.cutPower (s : State) (d : Domain) : State :=
  { s with
    pwr := { s.pwr with on := s.pwr.on.filter fun x => x != d }
    terms := if d = .core then {} else s.terms }

/-- A domain is switched off (R512). An AFE domain goes at once (R113); loop outputs take their fail actions first (R24); the score
follows the buses (R343).
(DEDUCED, notes/assumptions/28.md.) -/
def State.powerOff (s : State) (d : Domain) : State :=
  if !s.domainOn d then s
  else
    let s0 := (if d = .uio then s.loopsFail true else s).pauseDue d
    let s1 := s0.each (s0.pagesOf d) fun st p => (if d = .afeL ∨ d = .afeH then st else st.quiesceEnter p).clearPage p false true
    if d = .comm then (s1.cutPower d).showScore else s1.cutPower d

/-- A domain is switched on: its pages are loaded from the mirror and released; those of an AFE domain wait for the APLL
(R512, R536). -/
def State.powerOn (s : State) (d : Domain) : State :=
  if s.domainOn d then s
  else
    let s1 := { s with pwr := { s.pwr with on := s.pwr.on ++ [d] } }
    if (d = .afeL ∨ d = .afeH) ∧ s.rst.apllLost then { s1 with rst := { s1.rst with held := (s1.pagesOf d).foldl addTo s1.rst.held } }
    else
      let s2 := s1.each (s1.pagesOf d) fun st p => st.releasePage p true
      if d = .comm then { s2 with pwr := { s2.pwr with slept := false } } else s2

/-- Domains follow what R510 asks of them, in the orders of R512; a power-good that did not come is tried again once its domain
was not asked for. While a reset is in force nothing is switched.
(DESIGN CHOICE, notes/assumptions/57.md.) -/
def State.refreshDomains (s : State) : State :=
  if !s.rst.asserted.isEmpty || s.rst.releaseFrom.isSome then s
  else
    let s0 := { s with pwr := { s.pwr with abandoned := s.pwr.abandoned.filter fun d => s.wantedAlone d && (d != Domain.uio || s.wantedAlone .dio) } }
    let s1 := s0.each offOrder fun st d => if st.domainOn d && !st.wanted d then st.powerOff d else st
    s1.each offOrder.reverse fun st d => if !st.domainOn d && st.wanted d then st.powerOn d else st

/-- What follows the shedding level (R305, R284, R362, R510, R529). -/
def State.followLevel (s : State) : State :=
  (((s.refreshPorts.driveLoops).applyOutputs).refreshDomains).put PWR.STAT.cap (decide (1 ≤ s.level) || s.pwr.govCap)

end Sys2Proof.Machine
end

