-- ==== Sys2Proof/Machine/Reset.lean ====
section
/-!
DEFINITION. Resets (R546 to R557), what a power-up establishes (R450, R505, R518), the writes of the page header that act on a block
(R41, R58, R59, R594), and the configuration owner (R15).
-/

namespace Sys2Proof.Machine

/-! ### What a power-up finds in the store -/

/-- The sectors of the log (R436). -/
def logSectors : List Nat := (List.range 384).map fun i => logBase / 0x10000 + i

/-- Whether a log sector has a valid header (R462). -/
def State.logHeader (s : State) (sector : Nat) : Bool :=
  s.storeNum (sector * 0x10000) 4 == 0x474F4C52 && s.storeNum (sector * 0x10000 + 28) 4 == crc32 (s.storeBytes (sector * 0x10000) 28) &&
    s.storeOk (sector * 0x10000) 32

/-- The valid log sector whose header sequence is the newest, or the oldest. -/
def State.logSector (s : State) (newest : Bool) : Option Nat :=
  (logSectors.filter s.logHeader).foldl (init := none) fun best i =>
    match best with
    | none => some i
    | some j =>
      let a := s.storeNum (i * 0x10000 + 4) 4
      let b := s.storeNum (j * 0x10000 + 4) 4
      if (if newest then seqNewer a b else seqNewer b a) then some i else best

/-- Walks the records of a sector: where the next one goes, its sequence, and the operating time of the last.
(DEDUCED, notes/assumptions/26.md.) -/
def State.walkLog (s : State) : Nat → Nat → Nat → Option Nat → Nat × Nat × Option Nat
  | 0, off, seq, last => (off, seq, last)
  | n + 1, off, seq, last =>
    let len := 16 * (s.storeNum off 1 % 16 + 1)
    if off % 0x10000 + len ≤ 0x10000 ∧ s.storeNum off 2 / 16 = seq % 4096 ∧ s.storeOk off len ∧ s.storeNum (off + len - 4) 4 = crc32 (s.storeBytes off (len - 4)) then
      if (off + len) % 0x10000 = 0 then (off + len, nextLogSeq seq, some (s.storeNum (off + 4) 5))
      else State.walkLog s n (off + len) (nextLogSeq seq) (some (s.storeNum (off + 4) 5))
    else (off, seq, last)

/-- The log as found: sector, start sector, next offset, next sequence, operating time of the newest record. -/
def State.foundLog (s : State) : Option (Nat × Nat × Nat × Nat × Option Nat) :=
  match s.logSector true, s.logSector false with
  | some n, some o =>
    let (off, seq, last) := s.walkLog 4096 (n * 0x10000 + 32) (s.storeNum (n * 0x10000 + 8) 4) none
    some (n, o, off, seq, last)
  | _, _ => none

/-- The operating times of R518. -/
def State.storedTimes (s : State) : List Nat :=
  let base := match s.newestBase with
    | some i =>
      let seq := s.storeNum (snapSector i + 8) 4
      let deltas := (List.range 64).filterMap fun p =>
        (s.deltaAt (snapSector i + 0xC000 + 256 * p) seq).map fun _ => s.storeNum (snapSector i + 0xC000 + 256 * p + 8) 5
      s.storeNum (snapSector i + 16) 5 :: deltas.getLast?.toList
    | none => []
  let log := match s.foundLog with
    | some (n, _, _, _, last) => s.storeNum (n * 0x10000 + 13) 5 :: last.toList
    | none => []
  base ++ log

/-- The power-cycle counts of R450 that the store holds. -/
def State.storedCounts (s : State) : List Nat :=
  (match s.newestBase with | some i => [s.storeNum (snapSector i + 13) 3] | none => []) ++
  (match s.logSector true with | some n => [s.storeNum (n * 0x10000 + 18) 3] | none => [])

/-- What the reads of the log and of the bases at a power-up leave (R435, R462, R518). -/
def State.seeStore (s : State) : State :=
  if s.nvm.weak.isEmpty && s.nvm.bad.isEmpty then s
  else
    let s1 := s.seeSnaps.each logSectors fun st n => st.storeSee (n * 0x10000) 32
    match s.foundLog with
    | some (n, _, off, _, _) => s1.storeSee (n * 0x10000 + 32) (off - (n * 0x10000 + 32))
    | none => s1

/-- VDDIO is measured 1 ms after it came up (R505): the voltage the carrier supplies is open.
(DESIGN CHOICE, notes/assumptions/4.md.) -/
def State.measureVddio (s : State) : State :=
  if s.rst.vddio then s
  else
    let (x, s1) := s.draw
    ({ s1 with rst := { s1.rst with vddio := true } }).put PWR.STAT.io33 (decide (2500 < x % 4000))

/-- AON comes up (R450, R505, R518, R563): operating time and power-cycle count from the store, STIME from 0, the log position from
what the log holds.
(DEDUCED, notes/assumptions/26.md.) -/
def State.powerUp (s : State) : State :=
  let times := s.storedTimes
  let t := if times.isEmpty then 0 else min (times.foldl max 0 + 1) (2 ^ 40 - 1)
  let n := min (s.storedCounts.foldl max (s.rd BKPM.DATA31.pwrcyc) + 1) (2 ^ 24 - 1)
  let s1 := ({ s with
    stime := 0, stimeFrac := 0, optimeFrac := 0, jtag := {}, pwr := { on := [.bkp, .aon] }, sram := [], sramBad := [], sramWeak := []
    recorder := {}, rst := { s.rst with cold := true } }).measureVddio.seeStore
  let s2 := ((s1.wr PWR.OPTIME.ms t).wr REC.PWRCYC.count n).wr BKPM.DATA31.pwrcyc n
  let s3 := if n = 2 ^ 24 - 1 then (s2.wr REC.STAT.pc_ovf 1).irq REC.IRQRAW.cnt_event else s2
  let s4 := (((s3.wr REC.LOGDROP.count (s3.rd BKPM.DATA30.drop)).clearRange 0x4909C 0x490A4).clearRange 0x490E0 0x49120).clearRange 0x49084 0x49090
  match s4.foundLog with
  | none => s4
  | some (sector, first, off, seq, _) =>
    let s5 := ((s4.wr REC.LOGSTART.offset (first * 0x10000)).wr REC.LOGEND.offset off).wr REC.LOGSEQ.seq seq
    { s5 with recorder := { s5.recorder with
      sectorOpen := some sector, sectorSeq := (s.storeNum (sector * 0x10000 + 4) 4 + 1) % 2 ^ 32 } }

/-! ### Full and node resets -/

/-- A source of full or node reach asserts (R546, R548, R553, R556).
(DEDUCED, notes/assumptions/24.md.) -/
def State.assertReset (s : State) (source : Nat) (full : Bool) : State :=
  let wide := full || (s.rst.reach == 0 && !s.rst.asserted.isEmpty)
  let s1 := s.wr RST.CAUSE.cause (s.rd RST.CAUSE.cause ||| 2 ^ source)
  let doms := Domain.all.filter fun d => d != .bkp && (full || d != .aon)
  let pages := doms.flatMap s.pagesOf
  let s2 := (s1.each pages fun st p => st.clearPage p full false).clearField
  let s3 := if full then { s2 with mirror := [], live := [], shadow := [], dirty := [], locked := [], immediate := [] } else s2
  { s3 with
    lap := if full then {} else { timer := s.lap.timer, nextGrid := s.lap.nextGrid, fresh := true, zero := s.lap.zero }
    rst := { s3.rst with
      asserted := addTo s3.rst.asserted source, reach := ofBool (!wide), held := pages.foldl addTo s3.rst.held
      releaseFrom := none, blockWait := [], domainWait := [], timedOut := [], bootPending := s3.rst.bootPending && !full }
    pwr := { s3.pwr with restoring := false } }

/-- The logic rails are gone (R510, R514): only BKP stays powered, and what AON held is lost. -/
def State.railsGone (s : State) : State :=
  { s with pwr := { on := [.bkp] }, rst := { s.rst with cold := true, apllLost := false, hfxoLost := false } }

/-- The owner that BOOT[1:0] selects (R8, R15). -/
def State.bootOwner (s : State) : Nat := if s.factoryHold then 1 else [0, 1, 3, 1].getD s.straps.boot 1

/-- A domain is released from a full or node reset, or stays off where nothing asks for it (R549). -/
def State.releaseDomain (s : State) (d : Domain) : State :=
  if !s.wanted d then
    { s with
      rst := { s.rst with held := s.rst.held.filter fun p => !(s.pagesOf d).contains p }
      pwr := { s.pwr with on := s.pwr.on.filter fun x => x != d } }
  else if (d = .afeL ∨ d = .afeH) ∧ s.rst.apllLost then s
  else
    let power := !s.domainOn d
    let s1 := if power then { s with pwr := { s.pwr with on := s.pwr.on ++ [d] } } else s
    let s2 := s1.each (s1.pagesOf d) fun st p => st.releasePage p power
    if d = .core then s2.coreReleased
    else if d = .comm then { s2 with pwr := { s2.pwr with slept := false } }
    else s2

/-- Release of the domains from one place in the order of R549 to another; when a clock is missing the rest is abandoned (R550).
(DESIGN CHOICE, notes/assumptions/57.md.) -/
def State.releaseDomains (s : State) (first good : Nat) : State :=
  let s1 := s.each ((releaseOrder.take good).drop first) State.releaseDomain
  if good < 11 then
    let s2 := (s1.fault RST.FAULT.clkfail 0x0110).wr RST.CAUSE.cause (s1.rd RST.CAUSE.cause ||| 2 ^ 5)
    { s2 with rst := { s2.rst with asserted := [], releaseFrom := some good } }
  else
    let s2 := ({ s1 with rst := { s1.rst with asserted := [], releaseFrom := none } }).wr RST.LAST.reach (s1.rst.reach % 2)
    (s2.recEvent 0x1000 2 (bytesLE 4 (s2.rd RST.CAUSE.cause))).tellBackup

/-- The straps are sampled (R32, R557). -/
def State.sampleStraps (s : State) : State :=
  let p := s.straps.pins
  { s with straps := { s.straps with boot := p.boot, clkmode := p.clkmode, nid := p.nid, pairpos := p.pairpos } }

/-- Release begins when the last source has released (R548, R549, R553): after a loss of AON power the power-up comes first, and
after a full reset the owner and the boot follow BOOT[1:0]; a node that boots over the pair link asks its partner for the
running image (R354).
(DEDUCED, notes/assumptions/24.md.) -/
def State.release (s : State) (good : Nat) : State :=
  if s.rst.sequenceHold ∨ s.rst.asserted.isEmpty then s
  else
    let s : State := { s with rst := { s.rst with hfxoLost := false } }
    let s := if s.rst.reach = 0 then s.sampleStraps else s
    let s1 := if s.domainOn .aon then s.wr PWR.STAT.state 0 else s.powerUp
    let s2 := if s.rst.reach = 0 then
        let t := s1.wr SYS.CFGOWNER.owner s.bootOwner
        let t2 := if s.straps.clkmode = 3 then t.fault CLK.FAULT.strap 0x0112 else t
        { t2 with rst := { t2.rst with bootPending := s.straps.boot == 0 } }
      else s1
    let s3 := s2.releaseDomains 0 good
    if s3.rst.reach = 0 ∧ s3.straps.boot = 2 ∧ s3.alive 0x38 then s3.laneSend 0 11 [] else s3

/-- RESET_RELEASE (R548, R549). -/
def execResetRelease (good : Nat) (s : State) : Result := .next (s.release good)

/-- RELEASE_RETRY (R550). -/
def execReleaseRetry (good : Nat) (s : State) : Result :=
  match s.rst.releaseFrom with
  | some k => .next (s.releaseDomains k (max k good))
  | none => .next s

/-- POWER_ON_RESET: AON comes up from the logic rails; a hold of R507 is over. -/
def execPowerOnReset (s : State) : Result :=
  let s1 := (s.assertReset 0 true).railsGone
  .next { s1 with rst := { s1.rst with sequenceHold := false, vddio := false } }

/-- BROWN_OUT (R510, R546): AON loses its power. -/
def execBrownOut (vddio : Bool) (s : State) : Result :=
  let s1 := (s.assertReset (if vddio then 2 else 1) true).railsGone
  .next { s1 with rst := { s1.rst with vddio := s1.rst.vddio && !vddio } }

/-- RSTN_PIN. -/
def execRstnPin (s : State) : Result := .next (s.assertReset 3 true)

/-- SEQUENCE_VIOLATION (R507): the node is held until the rails have come down and up again. -/
def execSequenceViolation (s : State) : Result :=
  let s1 := s.assertReset 4 true
  .next { s1 with rst := { s1.rst with sequenceHold := true } }

/-- SUPERVISOR_TRIP (R547). -/
def execSupervisorTrip (s : State) : Result :=
  if s.alive 3 && s.flag RST.CFG.sup_en && s.flag (HDR.CTL.enable 4) && decide (s.rd PWR.STAT.state < 2) && !s.flag PWR.STAT.saving then
    .next (s.assertReset 6 false)
  else .next s

/-- CLOCK_FAILURE (R536). -/
def execClockFailure (pll : Bool) (s : State) : Result :=
  if !s.domainOn .aon ∨ 2 ≤ s.rd PWR.STAT.state then .next s
  else
    let s1 := if pll then (s.fault CLK.FAULT.pll 0x0111).irq CLK.IRQRAW.pll_unlock else (s.fault CLK.FAULT.hfxo 0x0110).irq CLK.IRQRAW.hfxo_fail
    let s2 := (s1.stick CLK.FAILCNT.count CLK.CNTOVF.fail (some CLK.IRQRAW.cnt_ovf)).assertReset 5 false
    .next { s2 with rst := { s2.rst with hfxoLost := s2.rst.hfxoLost || !pll } }

/-- CMDSTAT of RST. -/
def State.rstStat (s : State) (st reason : Nat) : State := s.cmdStat RST.CMDSTAT.state RST.CMDSTAT.reason st reason

/-- A node reset is asked for: by the recorded partner only while partner_en is 1 (R546). -/
def State.nodeReset (s : State) (req : Requester) : State :=
  if req = .pair then (if s.flag RST.CFG.partner_en then (s.rstStat 2 0).assertReset 10 false else s.rstStat 4 2)
  else (s.rstStat 2 0).assertReset 7 false

/-- NODE_RESET_COMMAND. -/
def execNodeResetCommand (req : Requester) (s : State) : Result := s.command req 3 fun s => s.nodeReset req

/-- A full reset is asked for: from the host port only (R546).
(DEDUCED, notes/assumptions/25.md.) -/
def State.fullReset (s : State) (req : Requester) : State := if req = .host then s.assertReset 8 true else s.rstStat 4 1

/-- FULL_RESET_COMMAND. -/
def execFullResetCommand (req : Requester) (s : State) : Result := s.command req 3 fun s => s.fullReset req

/-! ### Block and domain resets -/

/-- A block is reset (R551): asserted, and released at once.
(DEDUCED, notes/assumptions/24.md.) -/
def State.blockReset (s : State) (p : Nat) : State :=
  let s1 := s.wr RST.CAUSE.cause (s.rd RST.CAUSE.cause ||| 2 ^ 13)
  let s2 := (s1.clearPage p false false).releasePage p false |>.when (p == 1) State.followLevel
  let s3 := ((s2.wr RST.LAST.reach 3).wr RST.LAST.page p).irq RST.IRQRAW.released
  { s3 with rst := { s3.rst with blockWait := dropFrom s3.rst.blockWait p } }

/-- 1 to CTL.breset (R551): quiesce first, and the reset once the block is idle. -/
def State.breset (s : State) (p : Nat) : State :=
  if s.rst.blockWait.contains p then s
  else
    let s1 := s.setCtl p (HDR.CTL.qreq p) true
    if s1.idle p then s1.blockReset p else { s1 with rst := { s1.rst with blockWait := addTo s1.rst.blockWait p } }

/-- The pages that a domain request resets: DIO takes UIO with it (R552). -/
def State.resetPages (s : State) (d : Domain) : List Nat := (if d = .dio ∧ s.domainOn .uio then s.pagesOf .uio else []) ++ s.pagesOf d

/-- A domain is reset (R552). -/
def State.domainReset (s : State) (d : Domain) : State :=
  let pages := s.resetPages d
  let s1 := s.wr RST.CAUSE.cause (s.rd RST.CAUSE.cause ||| 2 ^ 12)
  let s2 := (s1.each pages fun st p => st.clearPage p false false).when (d == .dio) State.clearField
  let s3 := s2.each (s.pagesOf d ++ pages.filter fun p => !(s.pagesOf d).contains p) fun st p => st.releasePage p false
  let s4 := if d = .core then s3.coreReleased else s3
  let s5 := (((s4.wr RST.LAST.reach 2).wr RST.LAST.domain d.code).irq RST.IRQRAW.released).rstStat 2 0
  { s5 with rst := { s5.rst with domainWait := s5.rst.domainWait.filter fun x => x != d } }

/-- Whether every page of a domain request is idle or has run out of time. -/
def State.domainIdle (s : State) (d : Domain) : Bool := (s.resetPages d).all fun p => s.idle p || s.rst.timedOut.contains p

/-- Requests whose blocks have become idle go on (R551, R552). -/
def State.proceedResets (s : State) : State :=
  let s1 := s.each s.rst.blockWait fun st p => if st.idle p then st.blockReset p else st
  s1.each s1.rst.domainWait fun st d => if st.domainIdle d then st.domainReset d else st

/-- RST.CMD op 0x3 (R20, R546, R552).
(DEDUCED, notes/assumptions/25.md.) -/
def State.domainRequest (s : State) (code : Nat) : State :=
  match Domain.ofCode code with
  | none => s.rstStat 4 3
  | some d =>
    if d = .bkp ∨ d = .aon then (s.rstStat 4 3).fault RST.FAULT.notres 0x0007
    else if (s.pagesOf d).isEmpty then s.rstStat 4 3
    else if !s.domainOn d then s.rstStat 3 0
    else
      let s1 := (s.each (s.resetPages d) fun st p => st.setCtl p (HDR.CTL.qreq p) true).rstStat 1 0
      if s1.domainIdle d then s1.domainReset d else { s1 with rst := { s1.rst with domainWait := s1.rst.domainWait ++ [d] } }

/-- A write of RST.CMD with key 0x2E (R561). -/
def State.resetCommand (s : State) (req : Requester) (op domain : Nat) : State :=
  match op with
  | 1 => s.nodeReset req
  | 2 => s.fullReset req
  | 3 => s.domainRequest domain
  | _ => s.rstStat 4 4

/-- DOMAIN_RESET_COMMAND. -/
def execDomainResetCommand (req : Requester) (domain : Nat) (s : State) : Result := s.command req 3 fun s => s.domainRequest (domain % 16)

/-- BLOCK_RESET_REQUEST. -/
def execBlockResetRequest (req : Requester) (page : Nat) (s : State) : Result := s.command req page fun s => s.breset page

/-- QUIESCE_TIMEOUT (R551, R552): the reset goes on without STAT.idle.
(DEDUCED, notes/assumptions/24.md.) -/
def execQuiesceTimeout (page : Nat) (s : State) : Result :=
  let waiting := s.rst.blockWait.contains page || s.rst.domainWait.any fun d => (s.resetPages d).contains page
  if !waiting ∨ s.idle page then .next s
  else
    let s1 := { s with rst := { s.rst with timedOut := addTo s.rst.timedOut page } }
    let s2 := if s1.rst.blockWait.contains page then s1.blockReset page else s1
    .next s2.proceedResets

/-- APLL_UNLOCK (R536): AFE-L and AFE-H are held in domain reset until the APLL locks again. -/
def execApllUnlock (locked : Bool) (s : State) : Result :=
  let doms := [Domain.afeL, Domain.afeH].filter fun d => s.domainOn d
  if !s.domainOn .aon ∨ 2 ≤ s.rd PWR.STAT.state ∨ s.rst.apllLost ≠ locked then .next s
  else if locked then
    let s1 := { s with rst := { s.rst with apllLost := false } }
    .next (s1.each doms fun st d =>
      let st1 := st.each (st.pagesOf d) fun x p => x.releasePage p false
      ((st1.wr RST.LAST.reach 2).wr RST.LAST.domain d.code).irq RST.IRQRAW.released)
  else
    let pages := doms.flatMap s.pagesOf
    let s1 := (s.irq CLK.IRQRAW.apll_unlock).each pages fun st p => st.clearPage p false false
    .next { s1 with rst := { s1.rst with apllLost := true, held := pages.foldl addTo s1.rst.held } }

/-! ### Writes of the page header -/

/-- CTL_ENABLE_WRITE (R594). -/
def execCtlEnableWrite (req : Requester) (page : Nat) (enable : Bool) (s : State) : Result :=
  s.command req page fun s => s.setEnable page enable

/-- QUIESCE_REQUEST (R41). -/
def execQuiesceRequest (req : Requester) (page : Nat) (qreq : Bool) (s : State) : Result :=
  s.command req page fun s => s.setCtl page (HDR.CTL.qreq page) qreq

/-- LOCK_WRITE (R59). -/
def execLockWrite (req : Requester) (page : Nat) (s : State) : Result :=
  s.command req page fun s => { s with locked := addTo s.locked page }

/-- Whether a commit of a page is being checked or waits for its boundary. -/
def State.committing (s : State) (p : Nat) : Bool := let c := s.rd (HDR.COMMIT.state p); c == 1 || c == 2

/-- CTL_REVERT (R54, R58): BUSY while a commit is checking or pending. -/
def execCtlRevert (req : Requester) (page : Nat) (s : State) : Result :=
  if s.reachable req && s.writeStatus req page == .ok && pageShadowed page && s.committing page then
    .next { s.awake with status := Status.busy.code }
  else s.command req page fun s => if pageShadowed page then s.revertPage page else s

/-! ### The configuration owner -/

/-- SYS.CFGOWNER is written without the key (R15): by any other than the owner it changes nothing. -/
def State.handOwner (s : State) (req : Requester) (owner : Nat) : State := if s.isOwner req then s.wr SYS.CFGOWNER.owner owner else s

/-- The host port takes the ownership (R15): the change is recorded.
(DEDUCED, notes/assumptions/26.md.) -/
def State.reclaimOwner (s : State) (owner : Nat) : State :=
  let old := s.rd SYS.CFGOWNER.owner
  let s1 := s.wr SYS.CFGOWNER.owner owner
  if old = owner % 4 then s1 else s1.recEvent 0x0C02 2 (bytesLE 1 (owner % 4) ++ bytesLE 1 old)

/-- CFGOWNER_HANDOVER. -/
def execCfgOwnerHandover (req : Requester) (owner : Nat) (s : State) : Result := s.command req 0 fun s => s.handOwner req owner

/-- CFGOWNER_RECLAIM. -/
def execCfgOwnerReclaim (owner : Nat) (s : State) : Result := s.command .host 0 fun s => s.reclaimOwner owner

end Sys2Proof.Machine
end

