-- ==== Sys2Proof/Machine/Pwr.lean ====
section
/-!
DEFINITION. The power manager (R504 to R533): shedding levels, the sequence that saves the core state, restoration, the rails'
warnings and the governor; and the end of SRAM initialisation, which restoration waits for.
-/

namespace Sys2Proof.Machine

/-! ### Wakes -/

/-- The node leaves Nap (R545): the domains that Nap removed are switched on, and what waited goes on. -/
def State.leaveNap (s : State) : State :=
  if s.rd PWR.STAT.state = 2 then (s.wr PWR.STAT.state 0).refreshDomains.recGo else s

/-- A wake source of R544 asserts; it is recorded in Nap and in Stow, and during the entry into Stow, which completes first; it ends
Nap, and a restoration may begin.
(DEDUCED, notes/assumptions/29.md.) -/
def State.wakeBy (s : State) (source : Nat) : State :=
  if s.rd PWR.STAT.state < 2 ∧ !s.flag PWR.STAT.saving then s
  else
    let s1 := (s.wr LAP.WAKESRC.src (s.rd LAP.WAKESRC.src ||| 2 ^ source)).irq LAP.IRQRAW.wake
    if s.rd PWR.STAT.state = 2 then s1.leaveNap else { s1 with pwr := { s1.pwr with woken := true } }

/-! ### The sequence of R524 -/

/-- The sequence begins: an evaluation in progress ends, the jacket announces its hold and REC commits (R524). -/
def State.startSave (s : State) (reason : Nat) : State :=
  if s.flag PWR.STAT.saving ∨ s.rd PWR.STAT.state = 3 then s
  else
    let s1 := (s.completeEvaluation.stick PWR.SHED4CNT.count PWR.CNTOVF.shed4 (some PWR.IRQRAW.cnt_ovf)).wr PWR.STAT.saving 1
    { s1 with
      jkt := { s1.jkt with hold := if reason = 1 then 2 else 1 }
      pwr := { s1.pwr with saveReason := reason, woken := false } }.recCommit

/-- Bytes with zeros after them up to a length. -/
def padTo (n : Nat) (bs : List Byte) : List Byte := (bs ++ List.replicate (n - bs.length) 0).take n

/-- A modulator entry in the encodings of R160. -/
def termBytes (t : ModTerm) : List Byte :=
  bytesLE 4 (unsigned 32 t.o) ++ bytesLE 4 t.g ++ bytesLE 4 t.sigma ++ bytesLE 4 t.uo ++ bytesLE 4 t.ug ++ bytesLE 4 t.d ++
    bytesLE 8 (unsigned 63 t.ts + 2 ^ 63 * ofBool t.unstrided)

/-- A modulator entry read back. -/
def termOf (b : List Byte) : ModTerm :=
  let n : Nat → Nat → Nat := fun o k => ofBytesLE ((b.drop o).take k)
  { o := signed 32 (n 0 4), g := n 4 4, sigma := n 8 4, uo := n 12 4, ug := n 16 4, d := n 20 4, ts := signed 63 (n 24 8), unstrided := bit (n 24 8) 63 }

/-- The term table in the core-state image (R526): 320 modulator entries of 32 bytes, 64 source entries of 20, 128 shunts of 8. -/
def State.termTableBytes (s : State) : List Byte :=
  let v := s.variant.banks
  ((List.range 320).flatMap fun i => if i < 40 * v then termBytes (Keyed.get s.terms.initial s.terms.mods i) else List.replicate 32 0) ++
    ((List.range 64).flatMap fun i =>
      let e : SrcTerm := Keyed.get {} s.terms.srcs i
      if i < 8 * v then bytesLE 4 e.iex ++ bytesLE 4 (unsigned 32 e.es) ++ bytesLE 4 e.ux ++ bytesLE 8 e.checked else List.replicate 20 0) ++
    (List.range 128).flatMap fun i =>
      let e : ShuntTerm := Keyed.get {} s.terms.shunts i
      if i < 16 * v then bytesLE 4 (unsigned 32 e.ek) ++ bytesLE 4 e.ux else List.replicate 8 0

/-- The term table read back. -/
def State.termTableOf (s : State) (b : List Byte) : TermTable :=
  let v := s.variant.banks
  let n : Nat → Nat → Nat := fun o k => ofBytesLE ((b.drop o).take k)
  { s.terms with
    initial := s.initialTerm
    mods := (List.range (40 * v)).map fun i => (i, termOf ((b.drop (32 * i)).take 32))
    srcs := (List.range (8 * v)).map fun i =>
      let o := 10240 + 20 * i
      (i, { iex := n o 4, es := signed 32 (n (o + 4) 4), ux := n (o + 8) 4, checked := n (o + 12) 8 })
    shunts := (List.range (16 * v)).map fun i => (i, { ek := signed 32 (n (11520 + 8 * i) 4), ux := n (11524 + 8 * i) 4 }) }

/-- ALM's part of the image (R526): SUPACT, t_release by condition, flood, NQSEQ, NQDROP. -/
def State.almSaved (s : State) : List Byte :=
  bytesLE 4 (s.rd ALM.SUPACT.cond) ++ ((List.range 32).flatMap fun i => bytesLE 6 (Keyed.get 0 s.alarm.falling i)) ++
    bytesLE 1 (s.rd ALM.NQSTAT.flood) ++ bytesLE 2 (s.rd ALM.NQSEQ.seq) ++ bytesLE 4 (s.rd ALM.NQDROP.count)

/-- What is kept of ALM beside the image (R229, R239, R240).
(DESIGN CHOICE, notes/assumptions/29.md.) -/
def State.almKeep (s : State) : AlmKept :=
  { lastTe := s.alarm.lastTe, level := s.alarm.level, levels := s.alarm.levels, shelvedAt := s.alarm.shelvedAt, possible := s.alarm.possible }

/-- The image from byte 0x40 on (R526).
(DESIGN CHOICE, notes/assumptions/29.md.) -/
def State.imageBody (s : State) : List Byte :=
  let banks := s.variant.banks
  padTo 64 (s.rangeBytes 0x35080 1 ++ s.rangeBytes 0x35088 2 ++ s.rangeBytes 0x35084 1) ++ padTo 128 s.callMirror ++ padTo 768 s.almSaved ++
    padTo 160 (s.rangeBytes 0x10600 (s.variant.channels / 4)) ++ padTo 40 s.persistBytes ++ padTo 32 (s.rangeBytes 0x100E0 banks) ++
    padTo 32 (s.rangeBytes 0x10120 banks) ++ padTo 760 [] ++
    padTo 1536 ((List.range 64).flatMap fun g => s.rangeBytes (0x130008 + 0x20 * g) 6) ++ padTo 512 [] ++ padTo 16384 s.termTableBytes ++
    padTo 12288 [] ++ padTo 32768 ((List.range s.variant.contexts).flatMap fun k => s.rangeBytes (0x120020 + 0x40 * k) 8)

/-- The core-state image (R526).
(DESIGN CHOICE, notes/assumptions/29.md.) -/
def State.coreImage (s : State) (seq : Nat) : List Byte :=
  let head := padTo 60 (bytesLE 4 0x45564153 ++ bytesLE 2 1 ++ bytesLE 1 s.pwr.saveReason ++ bytesLE 1 s.variant.code ++ bytesLE 4 seq ++
    bytesLE 3 s.powerCycles ++ bytesLE 5 s.optime ++ bytesLE 8 s.stime ++ bytesLE 4 s.lapCount ++ bytesLE 4 (s.digestOf true))
  let body := s.imageBody
  head ++ bytesLE 4 (crc32 (body ++ head)) ++ body

/-- CORE_STATE_SAVED (R524, R526): S7 has written the image; the domains go off and the node rests in Stow. While the engine takes up no
work, S7 waits (R420, R434). -/
def execCoreStateSaved (s : State) : Result :=
  if !s.flag PWR.STAT.saving || s.dmaHolds then .next s
  else
    let seq := (s.pwr.saveSeq + 1) % 2 ^ 32
    let (ok, s1) := if s.alive 0x40 then s.boundWrite 7 saveArea (s.coreImage seq) else (false, s)
    let s2 := { s1 with pwr := { s1.pwr with saveSeq := seq } }.when ok fun t => t.irq PWR.IRQRAW.save_done
    .next (({ s2 with pwr := { s2.pwr with slept := true, almKept := s.almKeep } }.wr PWR.STAT.saving 0).wr PWR.STAT.state 3).refreshDomains

/-- A write of PWR.CMD with key 0x9D (R516, R533). -/
def State.powerCommand (s : State) (op : Nat) : State :=
  if op ≠ 1 then s.cmdStat PWR.CMDSTAT.state PWR.CMDSTAT.reason 4 2
  else if s.flag PWR.STAT.saving then s.cmdStat PWR.CMDSTAT.state PWR.CMDSTAT.reason 4 1
  else (s.cmdStat PWR.CMDSTAT.state PWR.CMDSTAT.reason 2 0).startSave 2

/-- STOW_COMMAND. -/
def execStowCommand (req : Requester) (s : State) : Result := s.command req 1 fun s => s.powerCommand 1

/-! ### Shedding levels -/

/-- The threshold of a level in % of vmon_nom (R519). -/
def State.shedThr (s : State) (k : Nat) : Nat :=
  match k with
  | 1 => s.rd PWR.SHEDTHR.shed1
  | 2 => s.rd PWR.SHEDTHR.shed2
  | 3 => s.rd PWR.SHEDTHR.shed3
  | _ => s.rd PWR.SHEDTHR.shed4

/-- A count of a level, 1 to 4, is set. -/
def setLevelCount (l : List Nat) (k n : Nat) : List Nat := (List.range 4).map fun i => if i + 1 = k then n else l.getD i 0

/-- A level is entered: its dwell begins, and its actions are taken or those of the level below it undone (R520, R522). -/
def State.toLevel (s : State) (k : Nat) : State :=
  (({ s with pwr := { s.pwr with since := setLevelCount s.pwr.since k 0 } }.wr PWR.STAT.level k).when (s.powered 0x20 && !s.quiesced 0x20) fun t =>
    t.modAlm fun a => { a with levels := a.levels ++ [k] }).followLevel

/-- REC tells a change of level (R461). -/
def State.tellLevelChange (s : State) (old : Nat) : State := s.recEvent 0x1001 2 (bytesLE 1 s.level ++ bytesLE 1 old)

/-- The level becomes at least `k`: every level passed is taken in turn (R519, R520), with an entry of kind 0xA for each (R239) and one
record of the change as a whole (R461), and Shed 4 saves the core state.
(DESIGN CHOICE, notes/assumptions/88.md.)
(DEDUCED, notes/assumptions/28.md.) -/
def State.deepen (s : State) (k : Nat) : State :=
  if k ≤ s.level then s
  else
    let s1 := (s.each ((List.range 4).map (· + 1) |>.filter fun j => decide (s.level < j) && decide (j ≤ k)) State.toLevel).irq PWR.IRQRAW.level_down
    let s2 := (s1.tellLevelChange s.level).wakeBy 5
    if k = 4 then s2.startSave 1 else s2

/-- Whether the node may leave its level for the next shallower one (R522). -/
def State.mayLeave (s : State) : Bool :=
  let dwell := s.rd PWR.CFG.dwell * 400
  let k := s.level
  decide (1 ≤ k) && decide (dwell ≤ s.pwr.above.getD (k - 1) 0) && decide (dwell ≤ s.pwr.since.getD (k - 1) 0)

/-- The node leaves its level for the next shallower one.
(DEDUCED, notes/assumptions/28.md.) -/
def State.leaveLevel (s : State) : State := ((s.toLevel (s.level - 1)).irq PWR.IRQRAW.level_up).tellLevelChange s.level

/-- Step 6 of a boundary: a departure from Shed 1, 2 or 3 takes effect (R522). -/
def State.levelStep (s : State) : State := if s.level ≤ 3 ∧ s.mayLeave then s.leaveLevel.wakeBy 5 else s

/-- VMON_SAMPLE (R519, R522).
(DEDUCED, notes/assumptions/28.md.) -/
def execVmonSample (millivolts : Nat) (s : State) : Result :=
  if !s.alive 1 then .next s
  else
    let judged := s.flag PWR.CFG.vmon_en
    let samples := if judged then (s.pwr.vmon ++ [millivolts]).drop (s.pwr.vmon.length + 1 - 4) else []
    let sum := samples.sum
    let full := decide (samples.length = 4)
    let nom := s.rd PWR.CFG.vmon_nom
    let below : Nat → Bool := fun percent => judged && full && decide (sum * 100 < 4 * percent * nom)
    let s1 := { s with pwr := { s.pwr with
      vmon := samples
      above := (List.range 4).map fun i =>
        if below (s.shedThr (i + 1) + s.rd PWR.CFG.hyst) then 0 else s.pwr.above.getD i 0 + 1
      since := s.pwr.since.map (· + 1) } }
    let s2 := if full then s1.wr PWR.STAT.vmon (sum / 4) else s1
    let k := ([1, 2, 3, 4].filter fun k => below (s.shedThr k)).foldl max 0
    .next (s2.deepen k)

/-- CORE_RAIL_WARNING (R504, R519). -/
def execCoreRailWarning (present : Bool) (s : State) : Result :=
  if !s.alive 1 then .next s
  else if present then .next (((s.wr PWR.STAT.core_warn 1).irq PWR.IRQRAW.core_warn).deepen 4)
  else .next (s.wr PWR.STAT.core_warn 0)

/-! ### Restoration -/

/-- Whether a restoration begins (R522, R544): from Shed 4 under R522, otherwise by a wake source. -/
def State.mayRestore (s : State) : Bool :=
  s.rd PWR.STAT.state == 3 && (if s.level = 4 then s.mayLeave && !s.flag PWR.STAT.core_warn else s.pwr.woken)

/-- RESTORATION (R527): the domains are switched on; the image is read once the SRAM answers. -/
def execRestoration (s : State) : Result :=
  if !s.mayRestore then .next s
  else
    let s1 := s.wr PWR.STAT.state 0
    let s2 := { s1 with pwr := { s1.pwr with restoring := true, woken := false }, lap := { s1.lap with fresh := true } }
    .next (if s.level = 4 then ((s2.wr LAP.WAKESRC.src (s.rd LAP.WAKESRC.src ||| 32)).irq LAP.IRQRAW.wake).leaveLevel else s2.refreshDomains)

/-- A number in the image. -/
def State.savedNum (s : State) (off n : Nat) : Nat := s.sramNum (saveArea + off) n

/-- Bytes of the image. -/
def State.savedBytes (s : State) (off n : Nat) : List Byte := s.sramBytes (saveArea + off) n

/-- Whether the image is valid (R526). -/
def State.imageValid (s : State) : Bool :=
  s.savedNum 0 4 == 0x45564153 && s.savedNum 4 2 == 1 && s.savedNum 7 1 == s.variant.code &&
    s.savedNum 0x3C 4 == crc32 (s.savedBytes 0x40 0xFFC0 ++ s.savedBytes 0 0x3C) && s.savedNum 0x20 4 == s.digestOf true &&
    s.flag MEM.INFO.retvalid && s.sramBad.all fun w => decide (8 * w < saveArea) || decide (saveArea + 0x10000 ≤ 8 * w)

/-- CAL resumes from the image (R159, R526). -/
def State.restoreCal (s : State) : State :=
  let state := s.savedBytes 0x4A0 40
  let t := s.termTableOf (s.savedBytes 0x1000 0x4000)
  let s1 := { s with terms := { t with
    retiredCh := setBits (ofBytesLE (state.take 20)) 160
    retiredMods := ((List.range 8).map fun i => (i, ofBytesLE ((state.drop (20 + i)).take 1) % 32)).filter fun e => e.2 != 0
    failedRefs := ofBytesLE ((state.drop 28).take 1) % 8 } }
  if s1.alive 0x10 then
    (((s1.putRange 0x10600 (s.variant.pick 40 20 10) (s.savedBytes 0x400 s.variant.channels)).putRange 0x100E0 (s.variant.pick 8 4 2)
      (s.savedBytes 0x4C8 (4 * s.variant.banks))).putRange 0x10120 (s.variant.pick 8 4 2) (s.savedBytes 0x4E8 (4 * s.variant.banks))).showPersistent
  else s1

/-- ALM resumes from the image (R240, R526). -/
def State.restoreAlm (s : State) : State :=
  let s1 := s.each (List.range s.variant.contexts) fun st k =>
    let b := st.savedBytes (0x8000 + 32 * k) 32
    if b.all (· == 0) then st else (st.putRange (0x120020 + 0x40 * (k % 1024)) 8 b).showCtx k
  let s2 := s1.each (List.range 64) fun st g => st.putRange (0x130008 + 0x20 * (g % 64)) 6 (st.savedBytes (0x800 + 24 * g) 24)
  let active := s.savedNum 0x100 4
  let s3 := (((s2.wr ALM.SUPACT.cond active).wr ALM.NQSTAT.flood (s.savedNum 0x1C4 1)).wr ALM.NQSEQ.seq (s.savedNum 0x1C5 2)).wr ALM.NQDROP.count
    (s.savedNum 0x1C7 4)
  s3.modAlm fun a => { a with
    falling := (List.range 32).filterMap fun i =>
      let t := s.savedNum (0x104 + 6 * i) 6
      if bit active i && t != 0 then some (i, t) else none
    shelvedAt := s.pwr.almKept.shelvedAt, levels := s.pwr.almKept.levels ++ a.levels, possible := s.pwr.almKept.possible
    floodOn := s.savedNum 0x1C4 1 == 1, lastTe := s.pwr.almKept.lastTe, level := s.pwr.almKept.level, restart := true }

/-- The core state resumes from the image, or CORE starts as after a reset (R527, R528).
(DESIGN CHOICE, notes/assumptions/29.md.)
(DEDUCED, notes/assumptions/55.md.) -/
def State.restoreCore (s : State) : State :=
  let (read, s0) := s.boundRead 7 saveArea 0x10000
  let s1 := { s0 with pwr := { s0.pwr with restoring := false } }
  let s2 :=
    if read.isSome && s.imageValid then
      let t := ((s1.restoreCal).restoreAlm.takeCallMirror (s.savedBytes 0x80 64)).modCall fun c => { c with restart := true, armDue := false }
      let u := ((t.putRange 0x35080 1 (s.savedBytes 0x40 4)).putRange 0x35088 2 (s.savedBytes 0x44 8)).putRange 0x35084 1 (s.savedBytes 0x4C 4)
      u.outputsFollow
    else (s1.fault PWR.FAULT.holdup 0x0110).coreReleased
  s2.irq PWR.IRQRAW.restore_done

/-- A restoration reads its image once the SRAM answers and the engine takes up work (R420, R434, R527). -/
def State.goRestore (s : State) : State :=
  if s.pwr.restoring && s.flag MEM.INFO.init_done && s.alive 0x40 && !s.dmaHolds then s.restoreCore else s

/-- SRAM_INIT_DONE (R420): every word whose contents were not kept is zero with valid check bits; what waited for the SRAM goes
on, REC resumes (R460), after a power-up it writes its anchor (R463), and a restoration reads its image (R527). -/
def execSramInitDone (kept : Bool) (s : State) : Result :=
  if !s.alive 0x40 || s.flag MEM.INFO.init_done then .next s
  else
    let keep := kept && !s.rst.cold
    let lost : Nat → Bool := fun a => !keep || decide (a < 0x13C0000)
    let s1 := { s with
      sram := s.sram.filter fun c => !lost c.1
      sramBad := s.sramBad.filter fun w => !lost (8 * w)
      sramWeak := s.sramWeak.filter fun w => !lost (8 * w)
      rst := { s.rst with cold := false } }
    let s2 := ((s1.put MEM.INFO.retvalid keep).wr MEM.INFO.init_done 1).irq MEM.IRQRAW.init_done
    let s3 := s2.recGo
    let flags := s.rd RTC.STAT.osf + 2 * s.rd RTC.STAT.dst + 4 * s.rd RTC.STAT.wrap
    let s4 := if s.rst.cold then s3.anchor 0 flags s.rtc.subsec (calendarFields s.rtc.seconds) else s3
    .next s4.goRestore.dmaReplay.recGo

/-! ### Rails and the governor -/

/-- VDDA_LOW (R504, R509). -/
def execVddaLow (s : State) : Result :=
  if !s.alive 1 ∨ s.flag PWR.STAT.vdda_low then .next s
  else .next ((((s.wr PWR.STAT.vdda_low 1).irq PWR.IRQRAW.vdda_low).fault PWR.FAULT.vdda 0x0111).refreshDomains)

/-- VDDA_RECOVER (R509). -/
def execVddaRecover (s : State) : Result :=
  if !s.alive 1 ∨ !s.flag PWR.STAT.vdda_low then .next s else .next (s.wr PWR.STAT.vdda_low 0).refreshDomains

/-- DOMAIN_POWER_GOOD_TIMEOUT (R512): the domain that was being switched on stays off. -/
def execDomainPowerGoodTimeout (domain : Nat) (s : State) : Result :=
  match Domain.ofCode domain with
  | none => .next s
  | some d =>
    if d = .bkp ∨ d = .aon ∨ !s.alive 1 ∨ !s.domainOn d then .next s
    else
      let s1 := { s with pwr := { s.pwr with abandoned := s.pwr.abandoned ++ [d] } }
      .next ((s1.refreshDomains).fault PWR.FAULT.domain 0x0112)

/-- GOVERNOR_CHECK (R529).
(DEDUCED, notes/assumptions/28.md.) -/
def execGovernorCheck (milliwatts : Nat) (s : State) : Result :=
  if !s.alive 1 then .next s
  else
    let s0 := s.wr PWR.POWER.mw milliwatts
    let lim := s.rd PWR.GOVLIM.mw
    if !s.flag PWR.CFG.gov_en then .next s0
    else if lim < milliwatts then
      let capped := s.flag PWR.STAT.cap
      let s1 := { s0 with pwr := { s0.pwr with govCap := true, under := 0 } }.wr PWR.STAT.cap 1
      .next (if capped then (s1.wr PWR.STAT.gov_over 1).irq PWR.IRQRAW.gov_over else s1)
    else
      let n := if milliwatts * 10 < lim * 9 then s.pwr.under + 1 else 0
      let cap := s.pwr.govCap && decide (n < 10)
      let s1 := { s0 with pwr := { s0.pwr with under := n, govCap := cap } }
      .next ((s1.put PWR.STAT.cap (cap || decide (1 ≤ s.level))).wr PWR.STAT.gov_over 0)

end Sys2Proof.Machine
end

