-- ==== Sys2Proof/Machine/Sleep.lean ====
section
/-!
DEFINITION. Idle, Doze, Nap and the wake sources (R542 to R545), the pacer's calibration (R537), the end of the operating time
(R517), and the JTAG port (R563).
-/

namespace Sys2Proof.Machine

/-! ### Idle -/

/-- Whether the node is idle (R542): a field calibration that runs is work in hand; a handover that waits for its boundary is no work in hand, and between two frames of the host port CSn is high. -/
def State.nodeIdle (s : State) : Bool :=
  s.lap.evalDone && !s.flag PWR.STAT.saving && !s.pwr.restoring && s.rst.asserted.isEmpty && s.rst.releaseFrom.isNone &&
    ((List.range s.variant.banks).all fun b => !(s.bank b).scanning && (s.rd (CAL.BANKSTAT.phase b) == 0 || s.rd (CAL.BANKSTAT.phase b) == 3)) &&
    !(s.cal.fcal.running && !s.quiesced 0x10) && s.arith.queue.isEmpty && s.readyStreams.isEmpty && s.activeStream.isNone &&
    s.nvm.running.isNone && s.nvm.waiting.isEmpty && s.cal.writes.isEmpty && s.recorder.writing.isNone &&
    (s.portList.all fun n => (List.range 3).all fun k => s.rd (BUS.TXSTAT.state n k) != 1 && s.rd (BUS.TXSTAT.state n k) != 2) &&
    (s.msg.queues.all fun q => q.2.isEmpty) &&
    s.recorder.staged.all fun r => decide (s.optime ≤ ofBytesLE ((r.drop 4).take 5) + s.rd REC.CFG2.rec_ms)

/-- DOZE_ENTRY (R542). -/
def execDozeEntry (s : State) : Result :=
  if s.alive 1 && s.rd PWR.STAT.state == 0 && s.nodeIdle then .next (s.wr PWR.STAT.state 1) else .next s

/-- Any work returns a dozing node to Run (R542). -/
def State.leaveDoze (s : State) : State := if s.rd PWR.STAT.state == 1 && !s.nodeIdle then s.wr PWR.STAT.state 0 else s

/-- What Nap asks for besides an idle node (R543); without laps there is no next grid point.
(DESIGN CHOICE, notes/assumptions/30.md.) -/
def State.mayNap (s : State) : Bool :=
  s.flag LAP.CFG.nap_en && s.rd PAIR.CFG.enable == 0 && s.flag (HDR.CTL.enable 4) && decide (s.level ≤ 1) &&
    decide (s.lap.timer + s.rd LAP.CFG.lead * 100 + 1000 < s.lap.nextGrid)

/-- NAP_ENTRY (R316, R514, R543): hold all is announced, the domains leave, and the clocks stop.
(DESIGN CHOICE, notes/assumptions/30.md.) -/
def execNapEntry (s : State) : Result :=
  if s.alive 1 && decide (s.rd PWR.STAT.state < 2) && s.nodeIdle && s.mayNap then
    let heard := s.alive 0x1A && s.alive 0x19 && (s.jkt.fLink == 1 || s.jkt.fLink == 2)
    let s1 := { s with jkt := { s.jkt with hold := 1, fHold := if heard then 1 else s.jkt.fHold } }
    .next ({ s1 with pwr := { s1.pwr with slept := true } }.wr PWR.STAT.state 2).refreshDomains
  else .next s

/-- LAP_WAKE (R544, R545): the node wakes for its next grid point; whether Run is reached only after it. -/
def execLapWake (late : Bool) (s : State) : Result :=
  if !s.alive 4 ∨ s.rd PWR.STAT.state ≠ 2 ∨ !s.flag (HDR.CTL.enable 4) then .next s
  else if late then .next (((s.wakeBy 0).wr LAP.WAKESRC.src (s.rd LAP.WAKESRC.src ||| 0b1000001)).fault LAP.FAULT.lead 0x0110)
  else .next (s.wakeBy 0)

/-- Whether a wake source of R544 can assert: a held digital input that changed (R300), a port that listens (R380), an alarm that
fires in this second with its wake set (R478), the host port, the power manager. -/
def State.wakeCause (s : State) (source : Nat) : Bool :=
  match source with
  | 1 => s.jkt.wakeLine
  | 2 => s.portList.any fun n => s.flag (BUS.WAKE.wake_en n)
  | 3 => (List.range 2).any fun i => s.flag (RTC.ALMCTL.wake i) && Keyed.get? s.rtc.lastFired i == some s.rtc.seconds
  | 4 => true
  | 5 => true
  | _ => false

/-- WAKE_EVENT (R544).
(DESIGN CHOICE, notes/assumptions/29.md.) -/
def execWakeEvent (source : Nat) (s : State) : Result :=
  if s.alive 4 && s.wakeCause source then
    .next ({ s with jkt := { s.jkt with wakeLine := s.jkt.wakeLine && source != 1 } }.wakeBy source)
  else .next s

/-- An alarm that fired with its wake set wakes the node from Nap or Stow (R478, R544); in Backup its flag is kept. -/
def State.rtcWake (s : State) : State :=
  let s1 := { s with rtc := { s.rtc with wake := false } }
  if s.rtc.wake && s.alive 4 then s1.wakeBy 3 else s1

/-- RTC_SECOND_CARRY (R469): a command that waits is applied at the first tick (R474), which may carry itself. -/
def execRtcSecondCarry (s : State) : Result :=
  if !s.alive 0x50 then .next s
  else if s.rtc.pendingCmd.isSome then
    .next (if s.ticksToCarry ≤ 1 then s.pacerTick.rtcWake else s.pacerTick.secondCarry.rtcWake)
  else .next s.secondCarry.rtcWake

/-- RTC_SET: the write, and the first pacer tick after it. -/
def execRtcSet (req : Requester) (s : State) : Result := s.command req 0x50 fun s => (s.rtcCommand req 1 false 0).pacerTick.rtcWake

/-- RTC_ADD1H. -/
def execRtcAdd1h (req : Requester) (s : State) : Result := s.command req 0x50 fun s => (s.rtcCommand req 2 false 0).pacerTick.rtcWake

/-- RTC_SUB1H. -/
def execRtcSub1h (req : Requester) (s : State) : Result := s.command req 0x50 fun s => (s.rtcCommand req 3 false 0).pacerTick.rtcWake

/-- RTC_SHIFT. -/
def execRtcShift (req : Requester) (back : Bool) (n : Nat) (s : State) : Result :=
  s.command req 0x50 fun s => (s.rtcCommand req 4 back (n % 32768)).pacerTick.rtcWake

/-- RTC_RELEASE_FREEZE. -/
def execRtcReleaseFreeze (req : Requester) (s : State) : Result := s.command req 0x50 fun s => (s.rtcCommand req 5 false 0).pacerTick.rtcWake

/-- BUS_WAKE (R380). -/
def execBusWake (port : Nat) (s : State) : Result :=
  if s.alive 4 && decide (port < s.variant.ports) && s.flag (BUS.WAKE.wake_en port) then .next (s.wakeBy 2) else .next s

/-- PACER_CALIBRATION (R537). -/
def execPacerCalibration (ppb : Int) (s : State) : Result :=
  if s.alive 2 && decide (s.rd PWR.STAT.state < 2) then .next (s.wrInt CLK.PACERCAL.ppb ppb) else .next s

/-- The operating time counts one ms (R61, R62, R517). -/
def State.countMs (s : State) : State := s.stick PWR.OPTIME.ms PWR.STAT.opt_ovf (some PWR.IRQRAW.cnt_event)

/-- OPERATING_TIME_STUCK (R517): the ms with which the counter reaches all ones, or one that finds it there. -/
def execOperatingTimeStuck (s : State) : Result :=
  if s.domainOn .aon && decide (2 ^ 40 - 2 ≤ s.optime) then .next s.countMs else .next s

/-! ### JTAG -/

/-- The IDCODE of the variant (R563). -/
def Variant.idcode (v : Variant) : Nat := v.pick 0x14C105A7 0x14C085A7 0x14C045A7

/-- How an instruction of the TAP acts: as BYPASS while jtag_en is 0, and EXTEST but in factory hold with extest_en (R563). -/
def State.tapActs (s : State) (i : TapInstr) : TapInstr :=
  if !s.flag DBG.JTAGCFG.jtag_en then .bypass
  else if i = .extest && !(s.flag DBG.JTAGCFG.extest_en && s.factoryHold) then .bypass
  else i

/-- How the instruction that the TAP holds acts now.
(DESIGN CHOICE, notes/assumptions/30.md.) -/
def State.jtagActs (s : State) : TapInstr := s.tapActs s.jtag.instr

/-- The TAP takes an instruction; acting as BYPASS it captures 0.
(DESIGN CHOICE, notes/assumptions/30.md.) -/
def State.tap (s : State) (i : TapInstr) (captured cells : Nat) : State :=
  if !s.domainOn .aon then s
  else if s.tapActs i = .bypass then { s with jtag := { s.jtag with instr := i, captured := 0 } }
  else { s with jtag := { instr := i, captured := captured, cells := cells } }

/-- JTAG_BYPASS. -/
def execJtagBypass (s : State) : Result := .next (s.tap .bypass 0 s.jtag.cells)

/-- JTAG_IDCODE. -/
def execJtagIdcode (s : State) : Result := .next (s.tap .idcode s.variant.idcode s.jtag.cells)

/-- JTAG_SAMPLE_PRELOAD: the pins are sampled and the cells loaded. -/
def execJtagSamplePreload (sample preload : Nat) (s : State) : Result := .next (s.tap .sample sample preload)

/-- JTAG_EXTEST: while it acts (State.jtagActs), the cells drive the pins. -/
def execJtagExtest (s : State) : Result := .next (s.tap .extest s.jtag.captured s.jtag.cells)

/-- JTAG_TAP_RESET: the TAP is reset and IDCODE selected. -/
def execJtagTapReset (s : State) : Result :=
  if s.domainOn .aon then .next { s with jtag := { s.jtag with instr := .idcode } } else .next s

end Sys2Proof.Machine
end

