-- ==== Sys2Proof/Machine/Check.lean ====
section
/-!
DEFINITION. The content checks of a commit, page by page (R6, R12, R41, R89, R129, R139, R172, R188, R211, R270, R292, R296, R356,
R360, R383, R402, R411, R443, R445, R464, R531, R562, R597). A check reads a candidate copy of the whole configuration: the
shadow regions, or what an image would make of them (R565). An entry with an enable bit of its own is checked only while that
bit is 1. A failure is a code and the address of the offending word, or 0 where none is to blame.
-/

namespace Sys2Proof.Machine

/-- A failure of a check: its code, and the offending word. -/
abbrev Bad := Nat × Nat

/-- A field of a candidate copy. -/
def fieldIn (m : WordMap) (r : Ref) : Nat :=
  getBits ((Sparse.get resetWord m r.addr).toNat + 2 ^ 32 * (Sparse.get resetWord m (r.addr + 4)).toNat) r.lo r.w

/-- A failure where a condition holds. -/
def bad (c : Bool) (code : Nat) (r : Ref) : List Bad := if c then [(code, r.addr)] else []

/-- A field outside its range (0x0004). -/
def outside (f : Ref → Nat) (r : Ref) (lo hi : Nat) : List Bad := bad (decide (f r < lo) || decide (hi < f r)) 4 r

/-- A pin of DIO: reserved codes between the pins and the code for none take 0x0004, absent pins 0x0002. -/
def State.pinBad (s : State) (f : Ref → Nat) (r : Ref) (none_ : Nat) : List Bad :=
  bad (f r != none_ && decide (48 ≤ f r)) 4 r ++ bad (decide (s.variant.pins ≤ f r) && decide (f r < 48)) 2 r

/-- A context or channel that the variant lacks (R6). -/
def absent (n have_ : Nat) (r : Ref) : List Bad := bad (decide (have_ ≤ n)) 2 r

/-! ### AFE -/

/-- The pin roles, source and settling delay of a context (R88): 0x0102 by the word that breaks them, 0x0103, 0x0104. -/
def roleBad (f : Ref → Nat) (b k : Nat) : List Bad :=
  let t := f (AFE.CTX.type_ b k)
  let ep := f (AFE.CTX.exc_p b k)
  let en := f (AFE.CTX.exc_n b k)
  let sp := f (AFE.CTX.sns_p b k)
  let sn := f (AFE.CTX.sns_n b k)
  let ld := f (AFE.CTX.lead b k)
  let mode := f (AFE.CTX.lead_mode b k)
  let two := t == 2 || t == 5
  let three := t == 3 || t == 6
  let four := t == 4 || t == 7
  let res := two || three || four
  let exc := if res then ep != 511 && en != 511 && ep != en else ep == 511 && en == 511
  let sns :=
    if two then sp == ep && sn == en
    else if three then sp != 511 && sp != ep && sp != en && sn == en
    else if four then sp != 511 && sn != 511 && sp != sn && [ep, en].all fun x => x != sp && x != sn
    else sp != 511 && sn != 511 && sp != sn
  let lead := if three then ld == sp else ld == 511
  let src := f (AFE.CTX.src b k)
  let settle := f (AFE.CTX.settle b k)
  let modes := if two then decide (mode ≤ 2) else if three then mode == 3 else mode == 0
  bad (!exc) 0x0102 (AFE.CTX.exc_p b k) ++ bad (!sns) 0x0102 (AFE.CTX.sns_p b k) ++ bad (!lead) 0x0102 (AFE.CTX.lead b k) ++
    bad ((src != 0) != res || (res && f (AFE.CTX.iex b k) == 0) || ((three || four) && decide (settle < 20))) 0x0102 (AFE.CTX.settle b k) ++
    bad (!modes) 0x0103 (AFE.CTX.lead_mode b k) ++
    bad (t == 8 && sp != 511 && !(decide (48 * b + 32 ≤ sp) && decide (sp < 48 * b + 48))) 0x0104 (AFE.CTX.sns_p b k)

/-- Whether a type allows a linearisation (R129). -/
def linAllowed (t lin : Nat) : Bool :=
  if t = 1 then lin == 0 || decide (8 ≤ lin)
  else if 2 ≤ t ∧ t ≤ 4 then decide (1 ≤ lin) && decide (lin ≤ 5)
  else lin == 0 || lin == 5

/-- The kind of a curve slot (R138). -/
def slotKind (f : Ref → Nat) (slot : Nat) : Nat := f ⟨0x110000 + 0x800 * slot, 30, 2, true⟩

/-- Whether a slot has the kind that a linearisation needs (R129, R139). -/
def slotFits (f : Ref → Nat) (lin slot : Nat) : Bool :=
  if lin = 4 then slotKind f slot == 2 else if lin = 5 then slotKind f slot == 1 else true

/-- A unit code that R130 reserves. -/
def unitReserved (u : Nat) : Bool := decide (0x10 ≤ u) && decide (u < 0x80)

/-- The conversion fields of a context (R128 to R130). -/
def conversionBad (f : Ref → Nat) (b k : Nat) : List Bad :=
  let t := f (AFE.CTX.type_ b k)
  let lin := f (AFE.CTX.lin b k)
  let cj := f (AFE.CTX.cj_mode b k)
  bad (lin == 6 || lin == 7 || decide (12 < f (AFE.CTX.exp b k)) || unitReserved (f (AFE.CTX.unit b k)) || cj == 3) 4 (AFE.CTX.lin b k) ++
    bad (f (AFE.CTX.a_lo b k) == 0 && f (AFE.CTX.a_hi b k) == 0) 4 (AFE.CTX.a_lo b k) ++
    bad ((!linAllowed t lin && lin != 6 && lin != 7) || (f (AFE.CTX.ne43 b k) == 1 && t != 8) || (cj != 0 && decide (lin < 8))) 0x0107 (AFE.CTX.lin b k) ++
    bad (!slotFits f lin (f (AFE.CTX.slot b k))) 0x0108 (AFE.CTX.lin b k)

/-- A pin of a channel context or of the bridge (R12, R81); 511 is unused where that may be. -/
def State.bankPinBad (s : State) (f : Ref → Nat) (b : Nat) (unused : Bool) (r : Ref) : List Bad :=
  let p := f r
  bad (decide (384 ≤ p) && !(unused && p == 511)) 4 r ++ bad (decide (p < 384) && decide (s.variant.banks ≤ p / 48)) 2 r ++
    bad (decide (p < 384) && p / 48 != b) 3 r

/-- The checks of an enabled channel context by itself (R6, R12, R89, R129). -/
def State.ctxBad (s : State) (f : Ref → Nat) (b k : Nat) : List Bad :=
  let t := f (AFE.CTX.type_ b k)
  let tref := f (AFE.CTX.tref b k)
  ([AFE.CTX.exc_p b k, AFE.CTX.exc_n b k, AFE.CTX.sns_p b k, AFE.CTX.sns_n b k, AFE.CTX.lead b k].flatMap (s.bankPinBad f b true)) ++
    bad (tref != 0x3FF && decide (160 ≤ tref)) 4 (AFE.CTX.tref b k) ++
    bad (decide (tref < 160) && decide (s.variant.channels ≤ tref)) 2 (AFE.CTX.tref b k) ++
    bad (decide (10 ≤ t)) 4 (AFE.CTX.type_ b k) ++
    bad (f (AFE.CTX.scan_class b k) == 1 && decide (f (AFE.CTX.routine_n b k) < 2)) 4 (AFE.CTX.routine_n b k) ++
    outside f (AFE.CTX.settle b k) 1 10000 ++
    bad (f (AFE.CTX.lead_mode b k) == 3 && f (AFE.CTX.lead_k b k) == 0) 4 (AFE.CTX.lead_k b k) ++
    roleBad f b k ++ conversionBad f b k ++ bad (t == 9 && f (AFE.BANKCFG.bridge_en b) == 0) 0x0105 (AFE.CTX.type_ b k)

/-- An AFE page (R89, R97, R129, R172). The schedule depends on pins, type, source, settling and lead mode, and is judged once these
pass (R597), with both sources in regulation.
(DESIGN CHOICE, notes/assumptions/64.md.) -/
def State.checkAfe (s : State) (f : Ref → Nat) (b : Nat) : List Bad :=
  let on := (List.range 20).filter fun k => f (AFE.CTX.enable b k) == 1
  let bridge :=
    if f (AFE.BANKCFG.bridge_en b) = 1 then
      s.bankPinBad f b false (AFE.BANKCFG.bridge_p b) ++ s.bankPinBad f b false (AFE.BANKCFG.bridge_n b) ++
        bad (f (AFE.BANKCFG.bridge_p b) == f (AFE.BANKCFG.bridge_n b)) 4 (AFE.BANKCFG.bridge_p b)
    else []
  let each := on.flatMap (s.ctxBad f b)
  let twice := on.flatMap fun k =>
    bad (f (AFE.CTX.type_ b k) == 8 && on.any fun j =>
      decide (j < k) && f (AFE.CTX.type_ b j) == 8 && f (AFE.CTX.sns_p b j) == f (AFE.CTX.sns_p b k)) 0x0106 (AFE.CTX.sns_p b k)
  let iexes := ((on.filter fun k => f (AFE.CTX.src b k) != 0).map fun k => f (AFE.CTX.iex b k)).foldl addTo []
  let own := bridge ++ each
  let plan :=
    if own.any fun e => decide (e.1 ≤ 0x0105) then []
    else if scheduleEnd (schedule f b (s.liveLanes b) false false).1 + 1000 > s.lapPeriod then [(0x0101, 0)] else []
  own ++ twice ++ plan ++ if 4 < iexes.length then [(0x0109, 0)] else []

/-! ### ARITH and CAL -/

/-- An int64 in a curve slot. -/
def slotInt (f : Ref → Nat) (slot off : Nat) : Int :=
  signed 64 (f ⟨0x110000 + 0x800 * slot + off, 0, 32, true⟩ + 2 ^ 32 * f ⟨0x110000 + 0x800 * slot + off + 4, 0, 32, true⟩)

/-- Whether R′(T) of a slot's relation is positive at every whole degree from −200 to 850 °C (R139). -/
def slopePositive (f : Ref → Nat) (slot : Nat) : Bool :=
  let a := slotInt f slot 20
  let b := slotInt f slot 28
  let c := slotInt f slot 36
  (List.range 1051).all fun (i : Nat) =>
    let t : Int := (i : Int) - 200
    let cold := if t < 0 then c * (4 * t * t * t - 300 * t * t) else 0
    decide (0 < a * 2 ^ 40 + 2 * b * 2 ^ 20 * t + cold)

/-- A curve slot (R139). -/
def slotBad (f : Ref → Nat) (slot : Nat) : List Bad :=
  let head : Ref := ⟨0x110000 + 0x800 * slot, 0, 32, true⟩
  let kind := slotKind f slot
  let n := f { head with w := 7 }
  let points := (List.range (n - 1)).flatMap fun i =>
    bad (decide (slotInt f slot (64 + 24 * (i + 1)) ≤ slotInt f slot (64 + 24 * i))) 0x0101 { head with addr := head.addr + 64 + 24 * (i + 1) }
  if kind = 0 then []
  else if kind = 1 then (if n < 2 ∨ 64 < n then [(0x0101, head.addr)] else points)
  else if kind = 2 then
    bad (decide (slotInt f slot 12 ≤ 0)) 0x0101 { head with addr := head.addr + 12 } ++ if slopePositive f slot then [] else [(0x0101, 0)]
  else [(0x0101, head.addr)]

/-- ARITH (R139, R141, R146). -/
def State.checkArith (s : State) (f : Ref → Nat) : List Bad :=
  let used := (List.range s.variant.channels).filter fun c =>
    f (AFE.CTX.enable (c / 20) (c % 20)) == 1 && (f (AFE.CTX.lin (c / 20) (c % 20)) == 4 || f (AFE.CTX.lin (c / 20) (c % 20)) == 5)
  let kinds := used.flatMap fun c =>
    let slot := f (AFE.CTX.slot (c / 20) (c % 20))
    bad (!slotFits f (f (AFE.CTX.lin (c / 20) (c % 20))) slot) 0x0102 ⟨0x110000 + 0x800 * slot, 0, 32, true⟩
  let sources := (List.range 8).flatMap fun n =>
    let r := ARITH.CJSRC.ch n
    let c := f r
    if c = 0x3FF then []
    else if 160 ≤ c then [(4, r.addr)]
    else if s.variant.channels ≤ c then [(2, r.addr)]
    else
      let lin := f (AFE.CTX.lin (c / 20) (c % 20))
      bad (lin == 0 || decide (5 < lin) || f (AFE.CTX.unit (c / 20) (c % 20)) != 4) 0x0103 r
  outside f ARITH.CFG.covk 0x1000 0xFFFF ++ (List.range 32).flatMap (slotBad f) ++ kinds ++ sources

/-- The substitute of a channel (R187). -/
def substRef (c : Nat) : Ref := if c % 2 = 1 then CAL.SUBST.odd (c / 2) else CAL.SUBST.even (c / 2)

/-- CAL (R188, R204): a substitute that the variant lacks is an absent resource first (R6, R597). -/
def State.checkCal (s : State) (f : Ref → Nat) : List Bad :=
  let ranges := [CAL.CFG.persist, CAL.CFG.ovl_ppm, CAL.CFG.gstep, CAL.CFG.sigmax].flatMap fun r => outside f r 1 255
  let alike : Nat → Nat → Bool := fun c d =>
    [AFE.CTX.unit, AFE.CTX.exp, AFE.CTX.scan_class, AFE.CTX.routine_n].all fun r => f (r (c / 20) (c % 20)) == f (r (d / 20) (d % 20))
  let subs := (List.range s.variant.channels).flatMap fun c =>
    let d := f (substRef c)
    bad (d != 0x3FF && decide (160 ≤ d)) 4 (substRef c) ++ bad (decide (s.variant.channels ≤ d) && decide (d < 160)) 2 (substRef c) ++
      bad (d != 0x3FF && (d == c || decide (s.variant.channels ≤ d) || f (substRef d) != 0x3FF || !alike c d)) 0x0101 (substRef c)
  ranges ++ outside f CAL.CFG2.stale_s 10 65535 ++
    ((List.range s.variant.banks).flatMap fun n => outside f (CAL.STRIDE.period_ms n) 1000 3600000) ++ subs

/-! ### UIO and DIO -/

/-- An entry of UIO (R291, R292): a set range belongs to the output modes alone; the record's fields are checked in every mode. -/
def State.loopBad (s : State) (f : Ref → Nat) (u : Nat) : List Bad :=
  let mode := f (UIO.ENT.mode u)
  let src := f (UIO.ENT.src u)
  let ref := f (UIO.ENT.ref u)
  let num : Ref → Int := fun r => signed 32 (f r)
  let out := decide (1 ≤ mode) && decide (mode ≤ 4)
  let inRange : Ref → List Bad := fun r => bad (out && clampSet mode (num r) != num r) 4 r
  bad (decide (7 ≤ mode) || f (UIO.ENT.fail_act u) == 3 || src == 3) 4 (UIO.ENT.mode u) ++
    inRange (UIO.ENT.fail_val u) ++ inRange (UIO.ENT.o0 u) ++ inRange (UIO.ENT.o1 u) ++
    bad (decide (12 < f (UIO.ENT.exp u)) || unitReserved (f (UIO.ENT.unit u))) 4 (UIO.ENT.exp u) ++
    bad (f (UIO.ENT.a_lo u) == 0 && f (UIO.ENT.a_hi u) == 0) 4 (UIO.ENT.a_lo u) ++
    (if out && src == 1 then
      if 160 ≤ ref then [(4, (UIO.ENT.ref u).addr)]
      else if s.variant.channels ≤ ref then [(2, (UIO.ENT.ref u).addr)]
      else bad (f (AFE.CTX.enable (ref / 20) (ref % 20)) == 0) 0x0101 (UIO.ENT.ref u) ++ bad (f (UIO.ENT.m0 u) == f (UIO.ENT.m1 u)) 0x0102 (UIO.ENT.m0 u)
    else if out && src == 2 then
      if s.variant.contexts ≤ ref then [(2, (UIO.ENT.ref u).addr)] else bad (f (ALM.CTXA.enable ref) == 0) 0x0101 (UIO.ENT.ref u)
    else []) ++
    bad (decide (signed 16 (f (UIO.ENT.win_hi u)) < signed 16 (f (UIO.ENT.win_lo u)))) 0x0103 (UIO.ENT.win_lo u)

/-- UIO (R292, R293). -/
def State.checkUio (s : State) (f : Ref → Nat) : List Bad :=
  outside f UIO.CFG.win 1 20 ++ outside f UIO.CFG.settle_ms 1 100 ++ outside f UIO.CFG.fault_ms 1 1000 ++
    (List.range s.variant.loops).flatMap (s.loopBad f)

/-- A pin entry of DIO (R295, R296): what its direction does not use is not checked. -/
def State.dioPinBad (s : State) (f : Ref → Nat) (p : Nat) : List Bad :=
  let dir := f (DIO.PIN.dir p)
  let ref := f (DIO.PIN.ref p)
  let input :=
    if dir = 1 then
      outside f (DIO.PIN.div p) 1 1000 ++
        (if f (DIO.PIN.thr p) = 0 then [(4, (DIO.PIN.thr p).addr)]
        else bad (decide (f (DIO.PIN.thr p) ≤ f (DIO.PIN.lo p))) 0x0102 (DIO.PIN.lo p))
    else bad (f (DIO.PIN.wake p) == 1) 0x0104 (DIO.PIN.wake p)
  let output :=
    if dir = 2 then
      bad (f (DIO.PIN.fail_act p) == 3) 4 (DIO.PIN.fail_act p) ++ outside f (DIO.PIN.retry_ms p) 10 10000 ++
        outside f (DIO.PIN.test_ms p) 10 60000 ++
        (if f (DIO.PIN.src p) = 3 then
          if s.variant.contexts ≤ ref then [(2, (DIO.PIN.ref p).addr)] else bad (f (ALM.CTXA.enable ref) == 0) 0x0103 (DIO.PIN.ref p)
        else [])
    else []
  let size := f (DIO.PIN.gsize p)
  let quad := p / 4 * 4
  let group :=
    if size = 0 then []
    else
      bad (dir != 2 || decide (quad + 3 < p + size) || (List.range 4).any fun i => decide (quad + i < p) && f (DIO.PIN.gsize (quad + i)) != 0) 0x0101
        (DIO.PIN.gsize p) ++
        (((List.range size).map fun i => p + 1 + i).filter fun q => decide (q ≤ quad + 3)).flatMap fun q =>
          bad (decide (s.variant.pins ≤ q) || f (DIO.PIN.dir q) != 2 || f (DIO.PIN.gsize q) != 0) 0x0101 (DIO.PIN.dir q)
  bad (dir == 3) 4 (DIO.PIN.dir p) ++ input ++ output ++ group

/-- DIO (R296, R322). -/
def State.checkDio (s : State) (f : Ref → Nat) : List Bad :=
  outside f DIO.CFG.ext_ms 1 255 ++ outside f DIO.CFG.ol_ma 5 200 ++ (List.range s.variant.pins).flatMap (s.dioPinBad f)

/-! ### ALM and CALL -/

/-- A digital input that ALM names: a pin of DIO, or a status input of UIO from 48 on (R282). -/
def State.inputBad (s : State) (pin : Nat) (r : Ref) : List Bad :=
  if pin < 48 then absent pin s.variant.pins r else absent ((pin - 48) % 8) s.variant.loops r

/-- A channel that an ALM context names: reserved, absent, or disabled in its AFE shadow (R6, R211). -/
def State.almChannel (s : State) (f : Ref → Nat) (c : Nat) (r : Ref) : List Bad :=
  if 160 ≤ c then [(4, r.addr)]
  else if s.variant.channels ≤ c then [(2, r.addr)]
  else bad (f (AFE.CTX.enable (c / 20) (c % 20)) == 0) 0x0105 r

/-- The terms of a logic context with their words (R210, R216). -/
def logicTerms (f : Ref → Nat) (k : Nat) : List (Nat × Ref) :=
  let l := f (ALM.CTXA.limit k)
  let d := f (ALM.CTXA.deadband k)
  let n := getBits (f (ALM.CTXA.aux k)) 8 3 + 1
  ([(getBits l 0 10, ALM.CTXA.limit k), (getBits l 10 10, ALM.CTXA.limit k), (getBits l 20 10, ALM.CTXA.limit k),
    (getBits d 0 10, ALM.CTXA.deadband k), (getBits d 10 10, ALM.CTXA.deadband k), (getBits d 20 10, ALM.CTXA.deadband k),
    (f (ALM.CTXA.src k), ALM.CTXA.src k), (f (ALM.CTXA.ref k), ALM.CTXA.ref k)]).take n

/-- What an enabled context of ALM reads (R6, R211); units and exponents of channels are compared only where the channels pass their own
checks (R597). -/
def State.almSourceBad (s : State) (f : Ref → Nat) (k : Nat) : List Bad :=
  let t := f (ALM.CTXA.src_type k)
  let src := f (ALM.CTXA.src k)
  let have_ : Nat → Bool := fun c => (s.almChannel f c (ALM.CTXA.src k)).isEmpty
  let unlike : Nat → Bool := fun c => have_ src && have_ c &&
    [AFE.CTX.unit, AFE.CTX.exp].any fun r => f (r (c / 20) (c % 20)) != f (r (src / 20) (src % 20))
  if t = 4 then s.inputBad (src % 64) (ALM.CTXA.src k)
  else if t = 6 then
    (logicTerms f k).flatMap fun (n, r) =>
      if s.variant.contexts ≤ n then [(2, r.addr)] else bad (decide (k ≤ n) || f (ALM.CTXA.enable n) == 0) 0x0103 r
  else if t = 7 then []
  else
    s.almChannel f src (ALM.CTXA.src k) ++
      bad (have_ src && f (AFE.CTX.exp (src / 20) (src % 20)) != f (ALM.CTXA.exp k)) 0x0102 (ALM.CTXA.exp k) ++
      (if t = 2 then s.almChannel f (f (ALM.CTXA.ref k)) (ALM.CTXA.ref k) ++ bad (unlike (f (ALM.CTXA.ref k))) 0x0102 (ALM.CTXA.ref k)
      else if t = 3 then
        let set_ := f (ALM.CTXA.ref k) % 16
        ((List.range 160).filter fun c => bit (f (ALM.MEANSET.members (5 * set_ + c / 32))) (c % 32)).flatMap fun c =>
          s.almChannel f c (ALM.MEANSET.members (5 * set_ + c / 32)) ++ bad (unlike c) 0x0102 (ALM.MEANSET.members (5 * set_ + c / 32))
      else [])

/-- An enabled context of ALM by itself (R210, R211). -/
def almFieldBad (f : Ref → Nat) (k : Nat) : List Bad :=
  let t := f (ALM.CTXA.src_type k)
  let kind := f (ALM.CTXA.kind k)
  let basis := f (ALM.CTXA.basis k)
  let cat := f (ALM.CTXA.category k)
  let aux := f (ALM.CTXA.aux k)
  let analog := decide (t ≤ 3)
  bad (decide (4 < cat) || t == 7 || decide (4 < kind) || basis == 3) 4 (ALM.CTXA.category k) ++
    outside f (ALM.CTXA.on_delay k) 0 360000 ++ outside f (ALM.CTXA.off_delay k) 0 360000 ++
    bad ((kind == 4 && (t == 0 || !analog)) || (!analog && t != 7 && kind != 1) || (!analog && t != 7 && basis != 0) ||
      (f (ALM.CTXA.pcaution k) == 1 && basis == 2) || (f (ALM.CTXA.latch k) == 1 && (cat == 3 || cat == 4))) 0x0101 (ALM.CTXA.category k) ++
    bad ((t == 1 && aux == 0) || (t == 3 && (aux == 0 || decide (16 < aux))) || (t == 6 && decide (getBits aux 8 3 < getBits aux 11 3))) 0x0101
      (ALM.CTXA.aux k) ++
    bad (cat != 4 && (f (ALM.GRP.enable (f (ALM.CTXA.group k))) == 0 ||
      (f (ALM.CTXA.sup_en k) == 1 && f (ALM.SUPA.enable (f (ALM.CTXA.sup k))) == 0))) 0x0104 (ALM.CTXA.category k)

/-- ALM (R6, R211, R252): a mean set names its members whether or not a context uses it. -/
def State.checkAlm (s : State) (f : Ref → Nat) : List Bad :=
  let base := f ALM.NQBASE.base * 0x2000
  let conditions := ((List.range 32).filter fun i => f (ALM.SUPA.enable i) == 1).flatMap fun i =>
    outside f (ALM.SUPB.release i) 0 360000 ++
      (if f (ALM.SUPA.kind i) = 1 then absent (f (ALM.SUPA.source i)) s.variant.contexts (ALM.SUPA.source i)
      else s.inputBad (f (ALM.SUPA.source i) % 64) (ALM.SUPA.source i))
  let sets := (List.range 80).flatMap fun i =>
    bad ((setBits (f (ALM.MEANSET.members i)) 32).any fun j => decide (s.variant.channels ≤ 32 * (i % 5) + j)) 2 (ALM.MEANSET.members i)
  let groups := ((List.range 64).filter fun g => f (ALM.GRP.enable g) == 1).flatMap fun g =>
    [ALM.GRP.horn g, ALM.GRP.lamp g, ALM.GRP.ackin g].flatMap fun r => s.pinBad f r 0x7F
  outside f ALM.CFG.flood_quiet 1 255 ++ outside f ALM.CFG.flood_on 1 255 ++
    bad (decide (f ALM.CFG.flood_on ≤ f ALM.CFG.flood_off)) 4 ALM.CFG.flood_off ++ bad (!inSram base 8192) 0x0106 ALM.NQBASE.base ++
    conditions ++ sets ++ groups ++
    ((List.range s.variant.contexts).filter fun k => f (ALM.CTXA.enable k) == 1).flatMap fun k => almFieldBad f k ++ s.almSourceBad f k

/-- CALL (R270, R272): every entry, enabled or not. -/
def State.checkCall (s : State) (f : Ref → Nat) : List Bad :=
  let pin : Ref → List Bad := fun r => s.pinBad f r 63
  let may : Nat → Bool := fun e => f (CALL.ROSTER.enable e) == 1 && f (CALL.ROSTER.available e) == 1
  let points := (List.range 32).flatMap fun j =>
    pin (CALL.CP.out_pin j) ++ pin (CALL.CP.ack_pin j) ++ bad (f (CALL.CP.kind j) == 3) 4 (CALL.CP.kind j)
  let roster := (List.range 16).flatMap fun e =>
    bad ((setBits (f (CALL.ROSTER.cps e)) 32).any fun j => f (CALL.CP.enable j) == 0) 0x0102 (CALL.ROSTER.cps e)
  pin CALL.CFG.officer_pin ++ pin CALL.PERS.arm_pin ++ pin CALL.PERS.reset_pin ++ pin CALL.PERS2.prewarn_pin ++
    outside f CALL.CFG.cp_timeout 2 255 ++ outside f CALL.TIMES.t1 10 3600 ++ outside f CALL.TIMES.t2 (f CALL.TIMES.t1 + 1) 7200 ++
    outside f CALL.TIMES2.t3 60 7200 ++ outside f CALL.TIMES2.relay_to 10 255 ++ outside f CALL.PERS.interval 60 3600 ++
    outside f CALL.PERS2.prewarn 10 600 ++ bad (!may (f CALL.DUTYCFG.duty)) 0x0101 CALL.DUTYCFG.duty ++
    (if may (s.rd CALL.STATE.duty) then [] else [(0x0101, 0)]) ++ points ++ roster

/-! ### Ports, MSG, TSYNC, PAIR -/

/-- The base of a receive queue. -/
def queueBase (f : Ref → Nat) (n q : Nat) : Nat := f (BUS.RXQ.base n q) * 0x1000

/-- A bus port (R360, R383). -/
def State.checkBus (s : State) (f : Ref → Nat) (n : Nat) : List Bad :=
  let t1 := f (BUS.NBT.tseg1 n) + 1
  let t2 := f (BUS.NBT.tseg2 n) + 1
  let d1 := f (BUS.DBT.tseg1 n) + 1
  let d2 := f (BUS.DBT.tseg2 n) + 1
  let nominal := (f (BUS.NBT.brp n) + 1) * (1 + t1 + t2)
  let data := (f (BUS.DBT.brp n) + 1) * (1 + d1 + d2)
  let queues := (List.range s.variant.ports).flatMap fun p => [(p, 0), (p, 1)]
  let filters := (List.range 32).flatMap fun i =>
    bad (f (BUS.FMATCH.type_ n i) == 3) 4 (BUS.FMATCH.type_ n i) ++ bad (f (BUS.FMASK.target n i) == 3) 4 (BUS.FMASK.target n i)
  bad (f (BUS.CFG.mode n) == 3 || f (BUS.CFG.nomatch n) == 3) 4 (BUS.CFG.mode n) ++ bad (t1 == 1) 4 (BUS.NBT.tseg1 n) ++
    outside f (BUS.WAKE.wake_n n) 1 8 ++ filters ++
    bad (decide (t2 < f (BUS.NBT.sjw n) + 1) || decide (nominal < 80) || decide (nominal < data)) 0x0101 (BUS.NBT.sjw n) ++
    bad (decide (d2 < f (BUS.DBT.sjw n) + 1) || decide (data < 10) || (decide (data < 80) && f (BUS.TDC.en n) == 0)) 0x0101 (BUS.DBT.sjw n) ++
    [0, 1].flatMap fun q =>
      bad (!inSram (queueBase f n q) 2560) 0x0102 (BUS.RXQ.base n q) ++
        bad (inSram (queueBase f n q) 2560 && queues.any fun (p, r) => (p != n || r != q) && queueBase f p r == queueBase f n q) 0x0103 (BUS.RXQ.base n q)

/-- The use of a port (R401, R411). -/
def checkUse (f : Ref → Nat) (n : Nat) : Nat := f { MSG.PORTCFG.use0 with lo := 8 * n }

/-- MSG (R6, R401, R402, R411). -/
def State.checkMsg (s : State) (f : Ref → Nat) : List Bad :=
  let uses := (List.range 4).flatMap fun n =>
    let u := checkUse f n
    let ok := u == 0 || (if n < 2 then u == 1 else decide (2 ≤ u) && (u != 3 || s.variant != .lm040))
    bad (u != 0 && decide (s.variant.ports ≤ n)) 2 MSG.PORTCFG ++ bad (!ok) 0x0101 MSG.PORTCFG
  let leg := [2, 3].any fun n => checkUse f n == 3
  let routes := (List.range 32).flatMap fun d =>
    bad (f (MSG.ROUTE.hops d) == 3) 5 (MSG.ROUTE.hops d) ++ bad (f (MSG.ROUTE.side d) == 1 && !leg) 0x0101 (MSG.ROUTE.side d)
  let masks := (List.range 5).flatMap fun i =>
    bad ((setBits (f (MSG.VALMASK.ch i)) 32).any fun j => decide (s.variant.channels ≤ 32 * i + j)) 2 (MSG.VALMASK.ch i)
  outside f MSG.CFG.valdiv 1 255 ++ outside f MSG.AUTHCFG.fwin 1 10000 ++ uses ++ routes ++ masks ++
    bad ((setBits (f MSG.VALMASK5.loop) 8).any fun u => decide (s.variant.loops ≤ u)) 2 MSG.VALMASK5.loop

/-- TSYNC (R414). -/
def checkTsync (f : Ref → Nat) : List Bad :=
  bad (f TSYNC.CFG.role == 3) 4 TSYNC.CFG.role ++ outside f TSYNC.CFG.sync_ms 10 5000 ++ outside f TSYNC.CFG.loss_s 1 255 ++
    outside f TSYNC.CFG2.step_us 10 65535

/-- PAIR (R356, R358). -/
def State.checkPair (s : State) (f : Ref → Nat) : List Bad :=
  let p := f PAIR.CFG.partner
  bad (p == s.straps.nid || p / 32 != s.straps.nid / 32) 0x0101 PAIR.CFG.partner ++ outside f PAIR.CFG.margin 1 255 ++
    outside f PAIR.CFG.xchk_n 1 255 ++ outside f PAIR.CFG2.start_ms 100 10000

/-! ### Memory, REC, PWR, LAP -/

/-- MPTU (R443). -/
def checkMptu (f : Ref → Nat) : List Bad :=
  ((List.range 32).filter fun w => f (MPTU.WIN.enable w) == 1).flatMap fun w =>
    let size := 2 ^ f (MPTU.WIN.size w)
    if f (MPTU.WIN.size w) = 7 then [(4, (MPTU.WIN w).addr)]
    else bad (f (MPTU.WIN.ext w) % size != 0 || f (MPTU.WIN.phys w) % size != 0) 0x0101 (MPTU.WIN w)

/-- The bytes of the result ring: where it begins and how many there are (R425). -/
def ringExtent (f : Ref → Nat) : Nat × Nat := (f DMA.RRBASE.base * 0x1000, 16 * 2 ^ f DMA.CFG.rr_n)

/-- DMA (R445). -/
def checkDma (f : Ref → Nat) : List Bad :=
  let levels := (((List.range 7).map (· + 1)) ++ (List.range 48).map (· + 16)).flatMap fun i => bad (f (DMA.SCFG.level i) == 0) 0x0101 (DMA.SCFG.level i)
  let ok := decide (8 ≤ f DMA.CFG.rr_n) && decide (f DMA.CFG.rr_n ≤ 16)
  let (a, n) := ringExtent f
  outside f DMA.CFG.rr_n 8 16 ++ levels ++ bad (ok && (!inSram a n || decide (saveArea < a + n))) 0x0102 DMA.RRBASE.base

/-- REC (R454, R455, R462, R464, R466): COPYBASE is held against a ring and queues that pass their own checks (R597). -/
def State.checkRec (s : State) (f : Ref → Nat) : List Bad :=
  let snap := f REC.CFG.snap_s
  let copy := f REC.COPYBASE.base * 0x1000
  let overlaps : Nat → Nat → Bool := fun a n => meets copy 0xB000 a n
  let (ra, rn) := ringExtent f
  let ringOk := decide (8 ≤ f DMA.CFG.rr_n) && decide (f DMA.CFG.rr_n ≤ 16) && inSram ra rn && decide (ra + rn ≤ saveArea)
  let queues := ((List.range s.variant.ports).flatMap fun p => [queueBase f p 0, queueBase f p 1]).filter fun a => inSram a 2560
  let counts := if s.variant = .lm160 || !s.alive 0x49 then [] else
    (List.range s.variant.channels).filter fun c => f (REC.HIST.enable c) == 1 && (s.sramBytes (s.chanBlock c) 132).any (· != 0)
  let cleared := counts.flatMap fun c =>
    (REC.HIST.exp c :: (List.range 31).map fun i => REC.HIST.edge_k c i).flatMap fun r => bad (f r != s.rd r) 0x0105 r
  let hist := ((List.range s.variant.channels).filter fun c => f (REC.HIST.enable c) == 1).flatMap fun c =>
    ((List.range 30).flatMap fun i =>
      bad (decide (signed 32 (f (REC.HIST.edge_k c (i + 1))) ≤ signed 32 (f (REC.HIST.edge_k c i)))) 0x0101 (REC.HIST.edge_k c (i + 1))) ++
    bad (f (REC.HIST.exp c) != f (AFE.CTX.exp (c / 20) (c % 20)) || f (AFE.CTX.enable (c / 20) (c % 20)) == 0) 0x0102 (REC.HIST.exp c)
  let classes := ((List.range 64).filter fun c => f (REC.CLS.enable c) == 1).flatMap fun c =>
    if c = 0 then [(0x0104, (REC.CLS.enable 0).addr)]
    else outside f (REC.CLS.burst c) 1 255 ++ outside f (REC.CLS.refill_ms c) 1 65535
  outside f REC.CFG.snap_s 60 65535 ++ (if 60 ≤ snap then outside f REC.CFG.snap_min_s 60 snap else []) ++ outside f REC.CFG2.rec_pages 1 16 ++
    outside f REC.CFG2.summ_s 1 255 ++ outside f REC.CFG2.rec_ms 100 60000 ++
    bad (f REC.WORKBASE.base != 0x013C && f REC.WORKBASE.base != 0x013D) 0x0103 REC.WORKBASE.base ++
    bad (!inSram copy 0xB000 || overlaps 0x13C0000 0x40000 || (ringOk && overlaps ra rn) || 
      (inSram (f ALM.NQBASE.base * 0x2000) 8192 && overlaps (f ALM.NQBASE.base * 0x2000) 8192) || queues.any fun a => overlaps a 2560) 0x0103 REC.COPYBASE.base ++ hist ++ classes ++ cleared

/-- PWR (R531, R533). -/
def checkPwr (f : Ref → Nat) : List Bad :=
  let t := [f PWR.SHEDTHR.shed1, f PWR.SHEDTHR.shed2, f PWR.SHEDTHR.shed3, f PWR.SHEDTHR.shed4]
  let falls := (List.range 3).all fun i => decide (t.getD (i + 1) 0 < t.getD i 0)
  let hyst := f PWR.CFG.hyst
  outside f PWR.CFG.vmon_nom 500 2400 ++ outside f PWR.CFG.hyst 1 10 ++ outside f PWR.CFG.dwell 1 255 ++
    bad (!falls || t.any (fun x => decide (x < 30) || decide (99 < x)) || (decide (1 ≤ hyst) && decide (hyst ≤ 10) && decide (100 < t.getD 0 0 + hyst)))
      0x0101 PWR.SHEDTHR.shed1 ++
    bad (bit (f PWR.DOMREQ.req) 6 && !bit (f PWR.DOMREQ.req) 7) 0x0102 PWR.DOMREQ.req

/-- LAP (R562). -/
def checkLap (f : Ref → Nat) : List Bad := outside f LAP.PERIOD.period_ms 10 3600000 ++ outside f LAP.CFG.lead 10 255

/-! ### A page -/

/-- Every failure of a page's content in a candidate copy. -/
def State.pageBad (s : State) (m : WordMap) (p : Nat) : List Bad :=
  let f := fieldIn m
  if 0x08 ≤ p ∧ p ≤ 0x0F then s.checkAfe f (p - 8)
  else if 0x30 ≤ p ∧ p ≤ 0x33 then s.checkBus f (p - 0x30)
  else
    match p with
    | 0x01 => checkPwr f
    | 0x04 => checkLap f
    | 0x10 => s.checkCal f
    | 0x11 => s.checkArith f
    | 0x18 => s.checkUio f
    | 0x19 => s.checkDio f
    | 0x20 => s.checkAlm f
    | 0x28 => s.checkCall f
    | 0x34 => s.checkMsg f
    | 0x35 => checkTsync f
    | 0x38 => s.checkPair f
    | 0x40 => outside f MEM.SCRUBCFG.pass_s 10 3600
    | 0x41 => checkMptu f
    | 0x42 => checkDma f
    | 0x49 => s.checkRec f
    | _ => []

/-- The index of a word within its page's shadow region (R41). -/
def wordIndex (p a : Nat) : Nat := ((shadowAddrs p).findIdx? fun x => x == a).getD 0xFFFF

/-- The verdict on a page's content (R597): the lowest code, and the lowest word among the failures that carry it.
(DEDUCED, notes/assumptions/19.md.) -/
def State.verdict (s : State) (m : WordMap) (p : Nat) : Option (Nat × Nat) :=
  let l := s.pageBad m p
  match l with
  | [] => none
  | e :: _ =>
    let code := l.foldl (fun n x => min n x.1) e.1
    let words := ((l.filter fun x => x.1 == code && x.2 != 0).map fun x => wordIndex p x.2)
    some (code, words.foldl min 0xFFFF)

end Sys2Proof.Machine
end

