-- ==== Sys2Proof/Machine/Commit.lean ====
section
/-!
DEFINITION. Changes of the configuration: commits (R50 to R57), what each block does when its live configuration changes,
image switches (R564 to R567), the boot (R492), and what the partner forwards (R332, R354).
-/

namespace Sys2Proof.Machine

/-! ### What follows a change of the live configuration -/

/-- Whether a word of configuration differs from an earlier live copy. -/
def State.wordChanged (s : State) (old : WordMap) (a : Nat) : Bool := Sparse.get resetWord old a != s.wordAt true a

/-- The fields of a context whose change asks for a lead conversion (R90). -/
def leadFields (b k : Nat) : List Ref :=
  [AFE.CTX.enable b k, AFE.CTX.exc_n b k, AFE.CTX.exc_p b k, AFE.CTX.sns_n b k, AFE.CTX.sns_p b k, AFE.CTX.lead b k, AFE.CTX.type_ b k,
    AFE.CTX.src b k, AFE.CTX.iex b k]

/-- A bank's configuration changed: the schedule is fixed anew for the next lap and its end shown at once, contexts make lead conversions (R90, R92, R97), and a stride whose
overlap lap runs is deferred where a context of its target lane changed (R179).
(DEDUCED, notes/assumptions/20.md.) -/
def State.afeCommitted (s : State) (b : Nat) (old : WordMap) : State :=
  let changed := (List.range 20).filter fun k => (List.range 16).any fun i => s.wordChanged old (0x100000 + 0x1000 * b + 0x40 * k + 4 * i)
  let lead := changed.filter fun k => (leadFields b k).any fun r => oldRd old r != s.rd r
  let target := s.rd (CAL.BANKSTAT.target b)
  let onTarget := (s.bank b).sched.any fun o => o.lane == target && changed.contains o.ctx
  let s1 := s.modBank b fun x => { x with
    reschedule := true, leadNext := lead.foldl addTo x.leadNext, leads := x.leads.filter fun e => !lead.contains e.1 }
  let s2 := s1.wr (AFE.SCHEDEND.us b) (scheduleEnd (schedule s1.rd b (s1.liveLanes b) (s1.sourceOut b 1) (s1.sourceOut b 2)).1)
  if (s.rd (CAL.BANKSTAT.phase b) = 2 ∨ s.rd (CAL.BANKSTAT.phase b) = 3) ∧ onTarget then s2.deferStride b else s2

/-- A change of LAP.PERIOD re-anchors the grid at the start of the current lap (R540), but at a standby, whose period is the
holder's; banks judge their schedules by the new period (R98).
(DEDUCED, notes/assumptions/20.md.) -/
def State.lapCommitted (s : State) (old : WordMap) : State :=
  if oldRd old LAP.PERIOD.period_ms = s.rd LAP.PERIOD.period_ms then s
  else
    let s1 := if s.lap.markPeriod.isSome then s
      else { s with lap := { s.lap with nextGrid := max s.lap.timer (s.lap.lapStart + s.lapPeriod) } }
    s1.each (List.range s1.variant.banks) fun st b => st.modBank b fun x => { x with reschedule := true }

/-- A change of the edges or exp of an enabled channel clears it (R454); the block that is closed keeps the exponent code it had. -/
def State.recCommitted (s : State) (old : WordMap) : State :=
  if !s.alive 0x49 then s
  else
    s.each ((List.range s.variant.channels).filter fun c =>
      s.flag (REC.HIST.enable c) && (oldRd old (REC.HIST.exp c) != s.rd (REC.HIST.exp c) ||
        (List.range 31).any fun i => oldRd old (REC.HIST.edge_k c i) != s.rd (REC.HIST.edge_k c i))) fun st c =>
      st.recClear c (oldRd old (REC.HIST.exp c))

/-- What a block does when the live configuration of its page has changed from an earlier copy. -/
def State.configured (s : State) (p : Nat) (old : WordMap) : State :=
  if !s.alive p then s
  else if 0x08 ≤ p ∧ p ≤ 0x0F then s.afeCommitted (p - 8) old
  else if 0x30 ≤ p ∧ p ≤ 0x33 then ((s.busCommitted (p - 0x30) old).ownersCommitted (p - 0x30) old).refreshPort (p - 0x30)
  else
    match p with
    | 0x01 => s.refreshDomains
    | 0x04 => s.lapCommitted old
    | 0x18 => ((s.copyChanged old).loopsFromHost).driveLoops
    | 0x19 => (s.copyChanged old).applyOutputs
    | 0x20 => s.almCommitted old
    | 0x28 => s.callCommitted old
    | 0x34 => s.showNoKey.pump
    | 0x35 => s.timeRole
    | 0x38 => (s.pairCommitted old).timeRole
    | 0x49 => s.recCommitted old
    | _ => s

/-! ### Commits -/

/-- A page's commit leaves the states checking and pending. -/
def State.commitTo (s : State) (p st : Nat) : State :=
  { (s.wr (HDR.COMMIT.state p) st) with
    immediate := dropFrom s.immediate p, pair := { s.pair with foreign := dropFrom s.pair.foreign p } }

/-- A commit is applied (R53).
(DEDUCED, notes/assumptions/18.md.) -/
def State.applyCommit (s : State) (p : Nat) : State :=
  let s1 := (((s.applyPage p).commitTo p 3).irq (HDR.IRQRAW.commit_done p)).configured p s.live
  (s1.recEvent 0x0C00 2 (bytesLE 1 p ++ bytesLE 4 (s.rd (HDR.SHCRC.crc p)))).showDigest

/-- The check of a page starts. -/
def State.commitStart (s : State) (p : Nat) (now : Bool) : State :=
  let s1 := s.wr (HDR.COMMIT.state p) 1
  { s1 with immediate := if now then addTo s1.immediate p else dropFrom s1.immediate p }

/-- Key 0xC0A1, 0xC0A2 or 0xC0A0 reaches COMMIT of a page (R50, R55, R56); a page without a shadow ignores every key.
(DEDUCED, notes/assumptions/18.md.) -/
def State.commitKey (s : State) (p key : Nat) : State :=
  let st := s.rd (HDR.COMMIT.state p)
  if !pageShadowed p then s
  else if key = 0xC0A1 then (if st = 1 ∨ st = 2 then s else s.commitStart p false)
  else if key = 0xC0A2 then
    (if st = 1 then { s with immediate := addTo s.immediate p } else if st = 2 then s.applyCommit p else s.commitStart p true)
  else if key = 0xC0A0 then (if st = 1 ∨ st = 2 then s.commitTo p 5 else s)
  else s

/-- A write that only the configuration owner may make (R14): else NOT_OWNER, unless another refusal comes first (R73). -/
def State.ownerCommand (s : State) (req : Requester) (p : Nat) (owned : Bool) (f : State → State) : Result :=
  if s.reachable req && s.writeStatus req p == .ok && owned && !s.isOwner req then .next { s.awake with status := Status.notOwner.code }
  else s.command req p f

/-- COMMIT_NEXT_LAP. -/
def execCommitNextLap (req : Requester) (page : Nat) (s : State) : Result :=
  s.ownerCommand req page (pageShadowed page) fun s => s.commitKey page 0xC0A1
/-- COMMIT_IMMEDIATE. -/
def execCommitImmediate (req : Requester) (page : Nat) (s : State) : Result :=
  s.ownerCommand req page (pageShadowed page) fun s => s.commitKey page 0xC0A2
/-- COMMIT_CANCEL. -/
def execCommitCancel (req : Requester) (page : Nat) (s : State) : Result :=
  s.ownerCommand req page (pageShadowed page) fun s => s.commitKey page 0xC0A0

/-- Each commit that passes its check is forwarded to the partner, unless it came from there (R332): page, key, SHCRC, and the
shadow region in order. -/
def State.forwardCommit (s : State) (p : Nat) : State :=
  if s.pair.foreign.contains p then s
  else
    let key := if s.immediate.contains p then 0xC0A2 else 0xC0A1
    s.each (pieces 1024 80 (bytesLE 2 p ++ bytesLE 2 key ++ bytesLE 4 (s.rd (HDR.SHCRC.crc p)) ++ s.regionOf s.shadow p)) fun st b =>
      st.uhlizSend 9 b

/-- A commit is refused (R52). -/
def State.refuseCommit (s : State) (p : Nat) (r : Ref) (code detail : Nat) : State :=
  ((s.commitTo p 4).irq (HDR.IRQRAW.commit_refused p)).fault r code detail

/-- COMMIT_CHECK_END (R51, R52, R597). -/
def execCommitCheckEnd (page : Nat) (s : State) : Result :=
  if !s.alive page ∨ !pageShadowed page ∨ s.rd (HDR.COMMIT.state page) ≠ 1 then .next s
  else if s.regionCrc s.shadow page ≠ s.rd (HDR.SHCRC.crc page) then .next (s.refuseCommit page (HDR.FAULT.crc page) 0x0001 0xFFFF)
  else
    match s.verdict s.shadow page with
    | some (code, detail) => .next (s.refuseCommit page (HDR.FAULT.invalid page) code detail)
    | none =>
      let s1 := s.forwardCommit page
      .next (if s1.immediate.contains page then s1.applyCommit page else s1.wr (HDR.COMMIT.state page) 2)

/-- Step 2 of a boundary: the pending commits, in ascending page order, then the commands of CAL and REC (R29, R189, R454). -/
def State.commitStep (s : State) : State :=
  let pages := s.shadowedPages.filter fun p => s.alive p && s.rd (HDR.COMMIT.state p) == 2
  ((s.each pages State.applyCommit).calApply).recCommands

/-! ### Configuration images -/

/-- A section of an image's body (R564). -/
structure Section where
  page : Nat
  shcrc : Nat
  region : List Byte
  deriving DecidableEq, Repr

/-- The sections of a body in ascending page order, or the page of the first that breaks the layout (R564). -/
def State.sectionsOf (s : State) : Nat → Nat → List Byte → Except Nat (List Section)
  | 0, prev, _ => .error prev
  | n + 1, prev, bs =>
    let page := field bs 0 2
    let len := field bs 4 4
    if page = 0xFFFF ∧ len = 0 ∧ bs.length = 8 then .ok []
    else if bs.length < 12 + len ∨ page ≤ prev ∨ 0x7F < page ∨ !s.shadowedPages.contains page ∨ len ≠ 4 * (shadowAddrs page).length then
      .error page
    else
      match State.sectionsOf s n page (bs.drop (12 + len)) with
      | .error p => .error p
      | .ok l => .ok (⟨page, field bs 8 4, (bs.drop 12).take len⟩ :: l)

/-- The body of an image in the store.
(DESIGN CHOICE, notes/assumptions/22.md.) -/
def State.imageSections (s : State) (i : Nat) : Except Nat (List Section) :=
  let len := s.storeNum (imageBase i + 12) 4
  s.sectionsOf 64 0 (s.storeBytes (imageBase i + 256) len)

/-- The configuration that sections spell: a page without a section has its reset values (R565). -/
def State.imageMap (s : State) (l : List Section) : WordMap := l.foldl (fun m x => s.putRegion x.page x.region m) []

/-- The configuration mirror is replaced as a whole: live and shadow views equal it (R565), and every block follows. -/
def State.takeImage (s : State) (i : Nat) (l : List Section) : State :=
  let m := s.imageMap l
  let s1 := { s with live := m, shadow := m, mirror := m, dirty := [] }
  let s2 := s1.each s1.shadowedPages fun st p => st.configured p s.live
  ((s2.wr SYS.IMGSTAT.live i).wr SYS.IMGSTAT.live_ok 1).showDigest

/-- SYS.IMGSTAT reports the state of a switch. -/
def State.imgStat (s : State) (st reason page code : Nat) : State :=
  (((s.wr SYS.IMGSTAT.state st).wr SYS.IMGSTAT.reason reason).wr SYS.IMGSTAT.page page).wr SYS.IMGCODE.code code

/-- Whether a switch is being checked or pending. -/
def State.switching (s : State) : Bool := let c := s.rd SYS.IMGSTAT.state; c == 1 || c == 2

/-- A write of SYS.IMGSW with key 0x1C (R566, R567). A request beside a switch that is under way is refused and leaves that one.
(DESIGN CHOICE, notes/assumptions/22.md.) -/
def State.imageCommand (s : State) (op : Nat) (imgB : Bool) : State :=
  match op with
  | 1 => if s.switching then s.wr SYS.IMGSTAT.reason 7 else { s.imgStat 1 0 0 0 with switchTo := ofBool imgB }
  | 2 => if s.switching then s.imgStat 5 0 0 0 else s
  | _ => if s.switching then s.wr SYS.IMGSTAT.reason 8 else s.imgStat 4 8 0 0

/-- IMAGE_SWITCH_REQUEST. -/
def execImageSwitchRequest (req : Requester) (imgB : Bool) (s : State) : Result :=
  s.ownerCommand req 0 true fun s => s.imageCommand 1 imgB
/-- IMAGE_SWITCH_CANCEL. -/
def execImageSwitchCancel (req : Requester) (s : State) : Result := s.ownerCommand req 0 true fun s => s.imageCommand 2 false

/-- What the reads of a valid image's body leave (R435). -/
def State.imageBodySee (s : State) (i : Nat) : State :=
  if s.rd (SEC.IMGSTAT.state i) = 2 then s.storeSee (imageBase i + 256) (s.storeNum (imageBase i + 12) 4) else s

/-- The outcome of the checks of R566 on an image: reason, page and code of the first failure.
(DESIGN CHOICE, notes/assumptions/22.md.) -/
def State.switchVerdict (s : State) (i : Nat) : Option (Nat × Nat × Nat) :=
  if s.rd (SEC.IMGSTAT.state i) ≠ 2 then some (1, 0, 0)
  else
    match s.imageSections i with
    | .error p => some (2, p % 256, 0)
    | .ok l =>
      match l.find? fun x => s.regionCrc (s.putRegion x.page x.region []) x.page != x.shcrc with
      | some x => some (3, x.page, 0)
      | none =>
        let m := s.imageMap l
        (l.findSome? fun x => (s.verdict m x.page).map fun v => (4, x.page, v.1))

/-- Whether the boundary that SYS.IMGLAP names is still to come (R567). -/
def State.switchAhead (s : State) : Bool :=
  let lap := s.rd SYS.IMGLAP.lap
  lap == 0xFFFFFFFF || (let d := (lap + 2 ^ 32 - s.lapCount) % 2 ^ 32; decide (1 ≤ d) && decide (d < 2 ^ 31))

/-- IMAGE_SWITCH_CHECK_END (R566, R567). -/
def execImageSwitchCheckEnd (s : State) : Result :=
  if !s.alive 0 ∨ s.rd SYS.IMGSTAT.state ≠ 1 then .next s
  else
    let s1 := s.imageBodySee s.switchTo
    match s.switchVerdict s.switchTo with
    | some (reason, page, code) => .next (s1.imgStat 4 reason page code)
    | none => .next (if s.switchAhead then s1.imgStat 2 0 0 0 else s1.imgStat 4 6 0 0)

/-- Step 3 of a boundary: a pending switch whose boundary this is (R29, R566, R567).
(DEDUCED, notes/assumptions/8.md.) -/
def State.imageStep (s : State) : State :=
  let lap := s.rd SYS.IMGLAP.lap
  if s.rd SYS.IMGSTAT.state ≠ 2 ∨ !(lap == 0xFFFFFFFF || lap == s.lapCount) then s
  else if s.rd (SEC.IMGSTAT.state s.switchTo) ≠ 2 then s.imgStat 4 5 0 0
  else
    match s.imageSections s.switchTo with
    | .error p => (s.imageBodySee s.switchTo).imgStat 4 2 (p % 256) 0
    | .ok l => (((s.imageBodySee s.switchTo).takeImage s.switchTo l).imgStat 3 0 0 0).recEvent 0x0C01 2 (bytesLE 1 s.switchTo)

/-! ### The boot -/

/-- The node boots from an image: its pages take their sections and are enabled (R492).
(DEDUCED, notes/assumptions/8.md.)
(DESIGN CHOICE, notes/assumptions/22.md.) -/
def State.bootFrom (s : State) (i : Nat) (l : List Section) : State :=
  ((s.takeImage i l).wr SEC.STAT.booted (i + 1)).each l fun st x => if st.alive x.page then st.setEnable x.page true else st

/-- The end of the boot's verification of both images (R492). -/
def State.bootVerified (s : State) : State :=
  let s1 := (s.imageChecked 0).imageChecked 1
  let s2 := (({ s1 with rst := { s1.rst with bootPending := false } }).imageBodySee 0).imageBodySee 1
  let ok : Nat → Option (Nat × List Section) := fun i =>
    if s2.rd (SEC.IMGSTAT.state i) = 2 then
      match s2.imageSections i with
      | .ok l => some (i, l)
      | .error _ => none
    else none
  let none_ : State := (s2.wr SYS.CFGOWNER.owner 1).fault SEC.FAULT.noimage 0x0111
  match ok 0, ok 1 with
  | none, none => none_
  | some (i, l), none => s2.bootFrom i l
  | none, some (i, l) => s2.bootFrom i l
  | some a, some b => if seqNewer (s2.rd (SEC.IMGSEQ.seq 1)) (s2.rd (SEC.IMGSEQ.seq 0)) then s2.bootFrom b.1 b.2 else s2.bootFrom a.1 a.2

/-- IMAGE_VERIFY_END (R491, R492): the boot's check of both images, or the check that SEC.CMD started. -/
def execImageVerifyEnd (s : State) : Result :=
  if !s.alive 0x58 then .next s
  else if s.rst.bootPending then .next s.bootVerified
  else
    match s.sec.running with
    | some 3 => .next (((s.imageChecked 0).modSec fun x => { x with running := none }).secStat 2 0 |>.secDone 3)
    | some 4 => .next (((s.imageChecked 1).modSec fun x => { x with running := none }).secStat 2 0 |>.secDone 4)
    | _ => .next s

/-! ### What the partner forwards -/

/-- CFGFWD_RECEIVED (R332): a following node writes the shadow, SHCRC and key as its owner; a shadow whose commit is checking or
pending stays (R54).
(DESIGN CHOICE, notes/assumptions/15.md.) -/
def execCfgfwdReceived (lane : Nat) (payloads : List (List Byte)) (s : State) : Result :=
  s.fromPartner lane fun s =>
    let bs := payloads.flatten
    let p := field bs 0 2
    if bs.length ≠ 8 + 4 * (shadowAddrs p).length ∨ !s.shadowedPages.contains p ∨ !s.alive p ∨ !s.isOwner .pair ∨
        !s.flag PAIR.CFG.follow ∨ s.committing p then s
    else
      let s1 := { s with shadow := s.putRegion p (bs.drop 8) s.shadow, dirty := addTo s.dirty p }
      let s2 := s1.wr (HDR.SHCRC.crc p) (field bs 4 4)
      ({ s2 with pair := { s2.pair with foreign := addTo s2.pair.foreign p } }).commitKey p (field bs 2 2)

/-- Blocks joined from offset 0 on. -/
def joinBlocks : Nat → List (Nat × List Byte) → List Byte → List Byte
  | 0, _, bs => bs
  | n + 1, l, bs =>
    match l.find? fun e => e.1 == bs.length && !e.2.isEmpty with
    | some e => joinBlocks n l (bs ++ e.2)
    | none => bs

/-- The running image is sent to the partner in blocks (R13, R354), no more than its region holds.
(DESIGN CHOICE, notes/assumptions/23.md.) -/
def State.sendImage (s : State) : State :=
  let base := imageBase (s.rd SYS.IMGSTAT.live)
  let n := min 0x200000 (256 + s.storeNum (base + 12) 4)
  if !s.paired ∨ !s.flag SYS.IMGSTAT.live_ok ∨ s.quiesced 0x38 ∨ !s.alive 0x48 then s
  else
    let blocks := pieces 1020 2060 (s.storeBytes base n)
    (s.storeSee base n).each (blocks.zip (List.range blocks.length)) fun st (b, i) =>
      st.laneSend (if bit (st.rd PAIR.STAT.lanes) 1 then 1 else 0) 11 (bytesLE 4 (1020 * i) ++ b)

/-- A complete image from the partner is checked, written over the older of A and B, and booted from (R354).
(DESIGN CHOICE, notes/assumptions/23.md.) -/
def State.imageArrived (s : State) (bs : List Byte) : State :=
  let s0 := ((s.modPair fun p => { p with image := [] }).storeSee (imageBase 0) 12).storeSee (imageBase 1) 12
  let known : Nat → Bool := fun i => s.storeNum (imageBase i) 4 == 0x474D4954
  let seq : Nat → Nat := fun i => s.storeNum (imageBase i + 8) 4
  let i := if !known 0 then 0 else if !known 1 ∨ seqNewer (seq 0) (seq 1) then 1 else 0
  let erased := s0.each (List.range 32) fun st k => st.storeErase (imageBase i / 0x10000 + k)
  let written := (erased.storeProgram (imageBase i) bs).2
  if written.imageReason i ≠ 0 ∨ !s.alive 0x58 then s0
  else
    let t := written.imageChecked i
    match t.imageSections i with
    | .ok l => t.bootFrom i l
    | .error _ => t

/-- IMAGE_FRAME_RECEIVED (R354): an empty payload asks for the running image; a block is collected by a node that boots over the
pair link and has no image yet.
(DESIGN CHOICE, notes/assumptions/15.md.)
(DESIGN CHOICE, notes/assumptions/23.md.) -/
def execImageFrameReceived (lane : Nat) (payload : List Byte) (s : State) : Result :=
  if !s.alive 0x38 ∨ 1 < lane then .next s
  else
    let s1 := s.goodFrame lane
    if payload.isEmpty then .next s1.sendImage
    else if s1.straps.boot ≠ 2 ∨ s1.flag SYS.IMGSTAT.live_ok ∨ payload.length < 5 then .next s1
    else
      let s2 := s1.modPair fun p => { p with image := (p.image.filter fun e => e.1 != field payload 0 4) ++ [(field payload 0 4, payload.drop 4)] }
      let bs := joinBlocks s2.pair.image.length s2.pair.image []
      let n := 256 + field bs 12 4
      .next (if 256 ≤ bs.length ∧ n ≤ bs.length then s2.imageArrived (bs.take n) else s2)

end Sys2Proof.Machine
end

