-- ==== Sys2Proof/Machine/Lap.lean ====
section
/-!
DEFINITION. The lap boundary: when it may be taken, and its steps in their fixed order (R29, R30, R333, R334, R538 to R541).
-/

namespace Sys2Proof.Machine

/-- A step of STIME that waits is made just before the captures of step 1 (R406, R408).
(DEDUCED, notes/assumptions/48.md.) -/
def State.timeStep (s : State) : State :=
  if !s.alive 0x35 then s
  else
    match s.tsync.step with
    | none => s
    | some o =>
      let t := if s.tsync.settime then s.rd TSYNC.SETTIME.us else unsigned 64 (s.stime + o)
      let s1 := { s with stime := t, tsync := { s.tsync with step := none, settime := false } }
      (s1.stick TSYNC.STEPCNT.count TSYNC.CNTOVF.step (some TSYNC.IRQRAW.cnt_event)).irq TSYNC.IRQRAW.step

/-- Whether this boundary is the standby's by its holder's LAPMARK (R333). -/
def State.lapMarked (s : State) : Bool := !s.holds && s.pair.lapMark.isSome

/-- Whether the node may take a boundary now: laps run and the node is awake with CORE released and its core state in place (R240,
R538, R541); the evaluation of the lap has ended (R30); the pair agrees (R334); and a standby with its link up has the holder's
LAPMARK (R333).
(DEDUCED, notes/assumptions/52.md.) -/
def State.mayTakeLap (s : State) : Bool :=
  s.alive 4 && s.flag (HDR.CTL.enable 4) && !s.flag (HDR.CTL.qreq 4) && s.alive 0x00 && decide (s.rd PWR.STAT.state < 2) &&
    !s.flag PWR.STAT.saving && !s.pwr.restoring && s.lap.evalDone && s.pairReadyForLap &&
    (s.lapMarked || !((s.role == 2 || s.role == 3) && s.flag PAIR.STAT.link))

/-- The grid and the lap count at a boundary taken `late` µs after its grid point (R538, R539, R333): boundary 0 of a new grid, the
first boundary of a re-anchored grid, the boundary of a LAPMARK, or the next grid point. A period that the LAPMARK changes has the
banks judge their schedules again (R98).
(DEDUCED, notes/assumptions/20.md.) -/
def State.lapGrid (s : State) (late : Nat) : State :=
  let l := s.lap
  let mark := if s.lapMarked then s.pair.lapMark else none
  let period := match mark with
    | some m => some m.2.1
    | none => l.markPeriod
  let now := if l.fresh || mark.isSome then l.timer else max l.timer (l.nextGrid + late)
  let behind := if l.fresh then 0 else if mark.isSome then late else now - l.nextGrid
  let count := match mark with
    | some m => m.1
    | none => if l.zero then 0 else s.lapCount + 1
  let s := if l.zero then s.almNewGrid else s
  let s1 := { s with
    lap := { l with timer := now, markPeriod := period, lapStart := now, evalDone := false, awaited := [], scanned := [], delivered := [], due := []
                    fresh := false, zero := false }
    arith := { s.arith with owed := [] }
    pair := { s.pair with lapMark := none } }
  let p := max 1 s1.lapPeriod
  let s1 := if p = max 1 s.lapPeriod then s1 else s1.each (List.range s1.variant.banks) fun st b => st.modBank b fun x => { x with reschedule := true }
  let next := if l.fresh || mark.isSome then now + p else l.nextGrid + ((now - l.nextGrid) / p + 1) * p
  let s2 := { s1 with lap := { s1.lap with nextGrid := next } }.wr LAP.COUNT.count count
  if behind = 0 then s2
  else
    ((s2.stick LAP.OVRCNT.count LAP.CNTOVF.ovr (some LAP.IRQRAW.cnt_ovf)).wr LAP.LATE.us (min (max (s2.rd LAP.LATE.us) behind) 0xFFFFFFFF)).irq
      LAP.IRQRAW.overrun

/-- The banks that the variant has. -/
def State.bankList (s : State) : List Nat := List.range s.variant.banks

/-- Step 1 (R29): the module temperature of the lap, a step of STIME, the captures, and the holder's LAPMARK. -/
def State.lapCapture (s : State) (modT : Option Int) : State :=
  let s1 := if s.alive 0x11 then (s.moduleTemp modT).updateShunts else s.updateShunts
  ((s1.timeStep).each s1.portList State.captureTsc).sendLapmark

/-- Step 6 (R29): a departure from a shedding level, the scans, stride phases, the reference monitor, field calibration, loop
channels, the jacket and base captures; `late` as R334 has it, `up` the banks that were released when the boundary began (R114). -/
def State.lapStart6 (s : State) (up : List Nat) (late : Nat) : State :=
  let s1 := s.levelStep
  let due := s1.bankList.flatMap fun b => ((List.range 20).filter fun k => s1.due b k && !s1.paused b k).map fun k => 20 * b + k
  let s2 := { s1 with lap := { s1.lap with due := due } }
  let s2 := s2.each up fun st b => st.modBank b fun k => { k with bridgeTripped := false }
  let s2 := s2.each (up.filter fun b => !s2.working (8 + b)) State.judgeSources
  let s3 := s2.each (up.filter fun b => s2.working (8 + b)) fun st b => st.scanStart b late
  let s4 := s3.each s3.bankList fun st b => st.strideStep6 b st.lapCount
  ((((s4.monitorStart).fcalBoundary).loopBoundary).jacketBoundary).recCapture

/-- A boundary is taken: every step of R29 in order.
(DEDUCED, notes/assumptions/52.md.) -/
def State.takeLap (s : State) (modT : Option Int) (late : Nat) : State :=
  let marked := s.lapMarked
  let up := s.bankList.filter fun b => s.alive (8 + b)
  let s0 := ((s.awake).lapGrid late).pairBoundary marked
  let s1 := s0.lapCapture modT
  let s3 := (s1.commitStep).imageStep
  let s4 := s3.each s3.bankList fun st b => st.strideStep4 b st.lapCount
  let s5 := (s4.handoverStep).timeRole
  let s6 := { s5 with tsync := { s5.tsync with started := true } }.lapStart6 up (if marked then late else 0)
  if s6.alive 0x38 && s6.paired && s6.rd PAIR.DIGEST.crc == 0 then s6.showDigest else s6

/-- LAP_BOUNDARY: a boundary that is due is taken, with the reading of the module sensor (none: invalid), `late` µs after its
grid point.
(DEDUCED, notes/assumptions/52.md.) -/
def execLapBoundary (modT : Option Int) (late : Nat) (s : State) : Result :=
  let s1 := s.skipEvaluation
  .next (if s1.mayTakeLap then s1.takeLap modT late else s1)

/-- LAP_ENABLE (R538): the current instant becomes boundary 0 of a new grid, unless the evaluation of a lap that was the last has
not ended yet.
(DESIGN CHOICE, notes/assumptions/57.md.) -/
def execLapEnable (req : Requester) (modT : Option Int) (s : State) : Result :=
  s.command req 4 fun s =>
    let s1 := (s.setEnable 4 true).skipEvaluation
    if s1.lap.zero && s1.mayTakeLap then s1.takeLap modT 0 else s1

/-- LAP_DISABLE (R541): the lap in progress is the last. -/
def execLapDisable (req : Requester) (s : State) : Result := s.command req 4 fun s => s.setEnable 4 false

end Sys2Proof.Machine
end

