-- ==== Sys2Proof/Machine/Access.lean ====
section
/-!
DEFINITION. Register access (R39 to R79): what each word of the address space reads as, what a write of it does by its access
code or by a rule of its own, and the frames of the host port.
-/

namespace Sys2Proof.Machine

/-! ### Values formed where they are read -/

/-- STAT.enabled (R594). -/
def State.enabledShown (s : State) (p : Nat) : Bool :=
  [0x00, 0x02, 0x03, 0x50, 0x51, 0x59, 0x5A, 0x60, 0x7F].contains p || s.flag (HDR.CTL.enable p)

/-- STAT of a page (R41). -/
def State.statWord (s : State) (p : Nat) : Nat :=
  ofBool (s.enabledShown p) + 2 * ofBool (s.idle p) + 4 * ofBool (s.busy p) + 8 * ofBool (s.rd (HDR.FAULT p) != 0) +
    16 * ofBool (s.dirty.contains p) + 32 * ofBool (s.locked.contains p)

/-- DOMAIN of a page (R42). -/
def domainWord (p : Nat) : Nat := (if p = 0x1A then 0xB else 0xF) * 16 + (pageDomain p).code

/-- The header words that no register holds (R41). -/
def State.headerWord (s : State) (p off : Nat) : Option Nat :=
  match pageInfo? s.variant p, off with
  | some i, 0x000 => some (i.type * 2 ^ 16 + i.inst * 2 ^ 8 + s.variant.code)
  | some _, 0x004 => some 0x0100
  | some i, 0x008 => some i.caps
  | some _, 0x010 => some (s.statWord p)
  | some _, 0x01C => some (s.irqStat p)
  | some _, 0x030 => some (ofBool (s.locked.contains p))
  | some _, 0x034 => some (domainWord p)
  | _, _ => none

/-- The entry of the term table that CAL.TERMSEL selects, as the nine values of TERM0 to TERM7 and TERMSEL.unstrided (R160, R204).
(DEDUCED, notes/assumptions/21.md.) -/
def State.termWords (s : State) : List Nat × Bool :=
  let bank := s.rd CAL.TERMSEL.bank
  let item := s.rd CAL.TERMSEL.item
  let i32 : Int → Nat := unsigned 32
  if s.variant.banks ≤ bank then (List.replicate 8 0, false)
  else
    match s.rd CAL.TERMSEL.kind with
    | 0 =>
      if 5 ≤ item / 16 then (List.replicate 8 0, false)
      else
        let t := s.modTerm bank (item / 16) (item % 8)
        ([i32 t.o, t.g, t.sigma, t.uo, t.ug, t.d, unsigned 64 t.ts % 2 ^ 32, unsigned 64 t.ts / 2 ^ 32], t.unstrided)
    | 1 =>
      let e := Keyed.get {} s.terms.srcs (bank * 8 + item / 16 % 2 * 4 + item % 4)
      ([e.iex, i32 e.es, e.ux, 0, 0, 0, e.checked % 2 ^ 32, e.checked / 2 ^ 32], false)
    | 2 =>
      let e := s.shuntTerm bank (item % 16)
      ([0, i32 e.ek, e.ux, 0, 0, 0, 0, 0], false)
    | _ => (List.replicate 8 0, false)

/-- CLK.STAT (R533, R535): the clocks of a node that can be read are good, but for the APLL.
(DESIGN CHOICE, notes/assumptions/27.md.) -/
def State.clkWord (s : State) : Nat :=
  (if s.straps.clkmode = 3 then 0 else s.straps.clkmode) * 2 ^ 30 + ofBool (!s.rst.hfxoLost) * 2 ^ 29 + 2 ^ 28 + ofBool (!s.rst.apllLost) * 2 ^ 27 +
    ofBool (!s.flag RTC.STAT.rcfb) * 2 ^ 26 + s.rd PWR.STAT.cap * 2 ^ 25 + ofBool (s.rd PWR.STAT.state == 0) * 2 ^ 24

/-- The block registers that no register word holds; the log registers of REC read 0 on the smaller variants (R464). -/
def State.formedWord (s : State) (req : Requester) (a : Nat) : Option Nat :=
  let word := (s.wordAt false a).toNat
  if 0x10140 ≤ a ∧ a < 0x10164 then
    some (if a = 0x10140 then word + ofBool s.termWords.2 * 2 ^ 31 else s.termWords.1.getD ((a - 0x10144) / 4) 0)
  else if s.variant ≠ .lm160 ∧ (0x49084 ≤ a ∧ a < 0x49090 ∨ a = 0x490BC) then some 0
  else if 0x60060 ≤ a ∧ a < 0x60080 then some (s.irqSum ((a - 0x60060) / 4))
  else if 0x60080 ≤ a ∧ a < 0x600A0 then some (s.faultSum ((a - 0x60080) / 4))
  else
    match a with
    | 0x40 => some (s.variant.code * 2 ^ 12 + s.straps.pairpos % 2 * 2 ^ 10 + s.straps.nid % 1024)
    | 0x1084 => some (bitMask (s.pwr.on.map Domain.code))
    | 0x2040 => some s.clkWord
    | 0x3048 => some (s.straps.boot % 4 * 2 ^ 14 + s.straps.clkmode % 4 * 2 ^ 12 + s.straps.pairpos % 2 * 2 ^ 10 + s.straps.nid % 1024)
    | 0x4084 => some (if s.flag (HDR.CTL.enable 4) then s.lap.nextGrid - s.lap.timer else 0)
    | 0x35090 => some (s.stime % 2 ^ 32)
    | 0x35094 => some (s.stime / 2 ^ 32)
    | 0x38080 => some (putBits (putBits word 29 3 s.role) 23 1 (ofBool s.isReady))
    | 0x38088 => some ((s.pair.claimAt.map fun t => min 0xFFFF ((s.stime - t) / 100)).getD 0xFFFF)
    | 0x49090 => some (s.optime % 2 ^ 32)
    | 0x49094 => some (s.optime / 2 ^ 32)
    | 0x500A8 => some (word + ofBool (Keyed.get? s.rtc.freezes (mptuClass req)).isSome * 2 ^ 26)
    | 0x7F040 => some s.variant.idcode
    | _ => none

/-- The registers wider than a word that are read under R64, by the address of their lowest word; each has two words.
(DEDUCED, notes/assumptions/12.md.) -/
def latchedWide (a : Nat) : Bool :=
  a == 0x35090 || a == 0x1098 || a == 0x49090 || a == 0x28104 || (decide (0x19100 ≤ a ∧ a < 0x19280) && a % 8 == 0) ||
    (decide (0x30000 ≤ a ∧ a < 0x34000) && a % 0x1000 == 0x214)

/-! ### Reading a word -/

/-- The bits of a word that configuration supplies, from a copy, and the others from the register. -/
def State.mixedWord (s : State) (copy : WordMap) (a other : Nat) : Nat :=
  let m := cfgMask a &&& variantMask s.variant a
  ((Sparse.get resetWord copy a).toNat &&& m) ||| (other &&& (m ^^^ 0xFFFFFFFF))

/-- What a register word reads as, without a side effect: the shadow's configuration at the register's own offset, the live one at
its mirror (R43). A latched word reads as latched (R64). -/
def State.regWord (s : State) (req : Requester) (copy : WordMap) (p off : Nat) : Nat :=
  let a := 0x1000 * p + off
  match s.headerWord p off with
  | some v => v
  | none =>
    match Keyed.get? s.latched a with
    | some w => w.toNat
    | none => s.mixedWord copy a ((s.formedWord req a).getD (s.wordAt false a).toNat)

/-- The supply rails as measured: no rule gives their values (R505, R533).
(DESIGN CHOICE, notes/assumptions/27.md.) -/
def State.railWord (s : State) (a : Nat) : Nat × State :=
  let (x, s1) := s.draw
  if a = 0x108C then (x % 2 ^ 13, s1)
  else let (y, s2) := s1.draw; (x % 2 ^ 12 + y % 2 ^ 12 * 2 ^ 16, s2)

/-- A register read at its own offset: its value, and what the read does (R45, R47, R64, R473); the highest occupancy of ARITH's
queue starts again from the present one (R158). `taken` says whether the word's last
bit reached the requester.
(DEDUCED, notes/assumptions/12.md.) -/
def State.readReg (s : State) (req : Requester) (p off : Nat) (taken : Bool) : Nat × State :=
  let a := 0x1000 * p + off
  if a = 0x1088 ∨ a = 0x108C then s.railWord a
  else if 0x50040 ≤ a ∧ a < 0x50064 then s.rtcRead req ((a - 0x50040) / 4)
  else
    let v := s.regWord req s.shadow p off
    let high := BitVec.ofNat 32 ((s.formedWord req (a + 4)).getD (s.wordAt false (a + 4)).toNat)
    let s1 := if latchedWide a then { s with latched := Keyed.put s.latched (a + 4) high } else s
    let rc := ((rowAt? p off).map RegRow.rc).getD 0
    let s2 := if taken && rc != 0 then s1.setReg a (BitVec.ofNat 32 ((s1.wordAt false a).toNat &&& (rc ^^^ 0xFFFFFFFF))) else s1
    (v, if taken && a == ARITH.QMAX.entries.addr then s2.wr ARITH.QMAX.entries s2.arith.occupancy else s2)

/-- A register read at its mirror offset: no side effect (R43).
(DEDUCED, notes/assumptions/12.md.) -/
def State.readMirror (s : State) (req : Requester) (p off : Nat) : Nat × State :=
  let a := 0x1000 * p + off
  if a = 0x1088 ∨ a = 0x108C then s.railWord a
  else if 0x50040 ≤ a ∧ a < 0x50064 then
    ((((Keyed.get? s.rtc.freezes (mptuClass req)).map Freeze.values).getD s.rtcNow).getD ((a - 0x50040) / 4) 0, s)
  else (s.regWord req s.live p off, s)

/-- Why a word does not read: UNMAPPED, ABSENT or DOMAIN_OFF (R4, R5, R17, R204, R555). -/
def State.readStatus (s : State) (a : Nat) : Status :=
  match (placeOf a).page? with
  | none => .unmapped
  | some p =>
    if !s.present p ∨ wordAbsent s.variant (placeOf a).inner then .absent
    else if !s.alive p then .domainOff
    else .ok

/-- One word is read: its value (0 where it does not read) and the state after. -/
def State.readWord (s : State) (req : Requester) (a : Nat) (taken : Bool) : Nat × State :=
  if s.readStatus a ≠ .ok then (0, s)
  else
    match placeOf a with
    | .reg p off => s.readReg req p off taken
    | .regMirror p off => s.readMirror req p off
    | .table b => (s.mixedWord s.shadow b (s.wordAt false b).toNat, s)
    | .tableLive b => (s.mixedWord s.live b (s.wordAt false b).toNat, s)
    | _ => (0, s)

/-! ### Writing a word -/

/-- A field of the word that is written. -/
def wordField (v : Word) (lo w : Nat) : Nat := getBits v.toNat lo w

/-- A write of a register with the access codes of its fields alone (R45): RW and RWL bits are stored, W1C bits that are 1 clear. -/
def State.storeReg (s : State) (a : Nat) (v : Word) : State :=
  match rowAt? (a / 0x1000) (a % 0x1000) with
  | none => s
  | some r =>
    let old := (s.wordAt false a).toNat
    let rw := r.rw ||| r.rwl
    let clear := r.w1c &&& v.toNat
    if rw = 0 ∧ clear = 0 then s
    else s.setReg a (BitVec.ofNat 32 (((old &&& (rw ^^^ 0xFFFFFFFF)) ||| (v.toNat &&& rw)) &&& (clear ^^^ 0xFFFFFFFF)))

/-- A write of a word of the shadow (R45, R49).
(DEDUCED, notes/assumptions/18.md.) -/
def State.storeShadow (s : State) (p a : Nat) (v : Word) : State :=
  if cfgMask a = 0 then s else { s with shadow := s.putCfg a v s.shadow, dirty := addTo s.dirty p }

/-- A write of CTL (R41, R58, R594): revert, the two modes, then the block reset.
(DEDUCED, notes/assumptions/8.md.) -/
def State.writeCtl (s : State) (p : Nat) (v : Word) : State :=
  let s1 := if wordField v 3 1 = 1 ∧ pageShadowed p then s.revertPage p else s
  let s2 := (s1.setEnable p (wordField v 0 1 == 1)).setCtl p (HDR.CTL.qreq p) (wordField v 1 1 == 1)
  if wordField v 2 1 = 1 then s2.breset p else s2

/-- A write of a word of the page header (R41). -/
def State.writeHeader (s : State) (p off : Nat) (v : Word) : State :=
  match off with
  | 0x00C => s.writeCtl p v
  | 0x014 => s.wr (HDR.IRQRAW p) (s.rd (HDR.IRQRAW p) &&& (v.toNat ^^^ 0xFFFFFFFF))
  | 0x018 => s.wr (HDR.IRQEN p) v.toNat
  | 0x020 => s.clearFault p v.toNat
  | 0x028 => s.wr (HDR.SHCRC p) v.toNat
  | 0x02C => s.commitKey p (wordField v 0 16)
  | 0x030 => if wordField v 16 16 = 0xA5C3 ∧ wordField v 0 1 = 1 then { s with locked := addTo s.locked p } else s
  | 0x038 => s.wr (HDR.QTIMEOUT p) (max 1 (min 10000 (wordField v 0 14)))
  | 0x03C => s.wr (HDR.SCRATCH p) v.toNat
  | _ => s

/-- A command register acts only when its key is right.
(DEDUCED, notes/assumptions/11.md.) -/
def State.keyed (s : State) (v : Word) (key : Nat) (f : State → State) : State := if wordField v 24 8 = key then f s else s

/-- SYS.CFGOWNER (R15): the host port with key 0x5A, else the owner. -/
def State.writeOwner (s : State) (req : Requester) (v : Word) : State :=
  let new := wordField v 0 2
  if req = .host ∧ wordField v 8 8 = 0x5A then s.reclaimOwner new else s.handOwner req new

/-- SETTIME is asked for (R408): at the time source in role system master, at the next boundary. -/
def State.timeSet (s : State) : State :=
  if s.rd TSYNC.CFG.role = 1 ∧ s.holds then { s with tsync := { s.tsync with step := some (s.rd TSYNC.SETTIME.us), settime := true } }
  else s.irq TSYNC.IRQRAW.cmd_refused

/-- TIME_SET_COMMAND (R408). -/
def execTimeSetCommand (req : Requester) (s : State) : Result := s.command req 0x35 State.timeSet

/-- A write of a register of a transmit buffer (R367, R370, R372). -/
def State.writeBuffer (s : State) (n k off a : Nat) (v : Word) : State :=
  if off = 0x50 then
    s.txHost n k fun s => (s.when (wordField v 0 1 == 1) fun t => t.txRequest n k).when (wordField v 1 1 == 1) fun t => t.txCancel n k
  else if off < 0x48 then
    s.txHost n k fun s =>
      let st := s.rd (BUS.TXSTAT.state n k)
      if st = 1 ∨ st = 2 then s.fault (BUS.FAULT.txwrite n) 0x0112 else s.storeReg a v
  else s

/-- A write of a register of a bus port. -/
def State.writeBus (s : State) (n off : Nat) (v : Word) : State :=
  let a := 0x30000 + 0x1000 * n + off
  if 0x300 ≤ off ∧ off < 0x420 then s.writeBuffer n ((off - 0x300) / 0x60) ((off - 0x300) % 0x60) a v
  else
    match off with
    | 0x224 => s.rxRelease n 0 (wordField v 0 6)
    | 0x22C => s.rxRelease n 1 (wordField v 0 6)
    | 0x250 => s.keyed v 0xB5 fun s => if wordField v 0 1 = 1 then s.recoverPort n else s
    | _ => s.storeReg a v

/-- CAL.FCALCTL (R191, R193, R204).
(DEDUCED, notes/assumptions/11.md.) -/
def State.writeFcal (s : State) (v : Word) : State :=
  let s1 := s.when (wordField v 0 1 == 1) State.fcalStart
  let s2 := s1.when (wordField v 1 1 == 1) State.fcalAbort
  s2.when (wordField v 2 1 == 1 && wordField v 16 16 == 0xFCA1) State.fcalAccept

/-- An alarm register of RTC is written: it may fire again (R480). -/
def State.rearm (s : State) (i : Nat) : State := { s with rtc := { s.rtc with lastFired := Keyed.drop s.rtc.lastFired i } }

/-- A write of a block register outside the shadow: by a rule of its own where it has one, else by its access codes. -/
def State.writeBlock (s : State) (req : Requester) (p off : Nat) (v : Word) : State :=
  let a := 0x1000 * p + off
  let op := wordField v 20 4
  if 0x30 ≤ p ∧ p ≤ 0x33 then s.writeBus (p - 0x30) off v
  else if p = 0x18 ∧ 0x80 ≤ off ∧ off < 0xA0 then s.loopSetTo ((off - 0x80) / 4) (signed 32 v.toNat)
  else if p = 0x42 ∧ 0x400 ≤ off ∧ off % 16 = 12 then
    s.keyed v 0xD5 fun s => s.dmaOp req ((off - 0x400) / 16) (wordField v 21 3)
  else if p = 0x50 ∧ 0xC0 ≤ off ∧ off < 0xE0 ∧ off % 16 < 12 then (s.storeReg a v).rearm ((off - 0xC0) / 16)
  else if p = 0x59 ∧ 0x40 ≤ off ∧ off < 0x60 then s.modSec fun x => { x with keyData := Keyed.put x.keyData ((off - 0x40) / 4) v }
  else
    match a with
    | 0x44 => s.writeOwner req v
    | 0x48 => s.keyed v 0x1C fun s => s.imageCommand op (wordField v 16 1 == 1)
    | 0x1094 => s.wr PWR.GOVLIM.mw (max 100 (min 10000 (wordField v 0 16)))
    | 0x10A8 => s.keyed v 0x9D fun s => s.powerCommand op
    | 0x304C => (s.storeReg a v).wr RST.CFG.sup_s (max 1 (min 3600 (wordField v 0 12)))
    | 0x3050 => s.keyed v 0x2E fun s => s.resetCommand req op (wordField v 0 4)
    | 0x100A0 => s.keyed v 0xCA fun s => s.calCommand op (wordField v 10 3) (wordField v 0 10)
    | 0x100BC => s.writeFcal v
    | 0x11090 => (s.storeReg a v).when (wordField v 31 1 == 1) fun s => s.testStart (wordField v 0 10)
    | 0x20104 => s.nqRelease (wordField v 0 9)
    | 0x20120 => s.keyed v 0xA1 fun s => s.almCommand req op (wordField v 0 10)
    | 0x28114 => s.keyed v 0xCE fun s => s.callCommand req op (wordField v 5 5) (wordField v 0 4)
    | 0x350A0 => s.keyed v 0x75 fun s => if wordField v 0 1 = 1 then s.timeSet else s
    | 0x380A0 => s.keyed v 0xB7 fun s => s.pairCommand req op
    | 0x42084 => s.ringRelease v.toNat
    | 0x48084 => s.keyed v 0x4E fun s => s.nvmCommand req op
    | 0x490A4 => s.keyed v 0xEC fun s => s.recCommand op (wordField v 0 10)
    | 0x490C4 => s.hsel (wordField v 0 10)
    | 0x500A0 => s.keyed v 0x7C fun s => s.rtcCommand req op (wordField v 15 1 == 1) (wordField v 0 15)
    | 0x500A8 => (s.storeReg a (v &&& 0x7FFFFFFF)).when (wordField v 31 1 == 1) State.clearOsf
    | 0x500AC => s.wrInt RTC.TRIM.n (clampTrim (signed 11 v.toNat))
    | 0x58040 => s.keyed v 0x5E fun s => s.secCommand op
    | 0x59060 => s.keyed v 0x6B fun s => s.keyCommand op (wordField v 0 3)
    | 0x5A048 => (s.storeReg a (v &&& 0x7FFFFFFF)).when (wordField v 31 1 == 1) State.alarmClear
    | _ => s.storeReg a v

/-- Why a word of the page is refused by what the register itself says: absence first, then the domain, then the rules of the
register (R71, R73).
(DEDUCED, notes/assumptions/10.md.) -/
def State.writeWordStatus (s : State) (req : Requester) (a : Nat) (v : Word) : Status :=
  let shadowWord (p b : Nat) : Status :=
    if cfgMask b = 0 ∧ b < 0x100000 then .ok else if !s.isOwner req then .notOwner else if s.committing p then .busy else .ok
  let lockedWord (p off : Nat) : Bool := s.locked.contains p && ((rowAt? p off).map RegRow.rwl).getD 0 != 0
  match (placeOf a).page? with
  | none => if mayWrite req 0 then .unmapped else .role
  | some p =>
    if mayWrite req p && wordAbsent s.variant (placeOf a).inner then .absent
    else
      match s.writeStatus req p with
      | .ok =>
        match placeOf a with
        | .reg p off =>
          let b := 0x1000 * p + off
          if off = 0x028 then shadowWord p (if pageShadowed p then 0x100000 else 0)
          else if off = 0x02C then (if pageShadowed p && !s.isOwner req then .notOwner else .ok)
          else if off = 0x00C then (if wordField v 3 1 = 1 ∧ pageShadowed p ∧ s.committing p then .busy else .ok)
          else if p = 0x59 ∧ 0x40 ≤ off ∧ off < 0x60 ∧ req ≠ .host then .perm
          else if b = 0x48 ∧ wordField v 24 8 = 0x1C ∧ !s.isOwner req then .notOwner
          else if b = 0x100BC ∧ wordField v 0 1 = 1 ∧ !s.mayFieldCal req then .notOwner
          else if lockedWord p off then .locked
          else shadowWord p b
        | .regMirror _ _ => .ok
        | .table b => shadowWord p b
        | .tableLive _ => .readonly
        | _ => .unmapped
      | st => st

/-- One word is written. -/
def State.writeWord (s : State) (req : Requester) (a : Nat) (v : Word) : State :=
  match placeOf a with
  | .reg p off => if off < 0x40 then s.writeHeader p off v else if cfgMask a ≠ 0 then s.storeShadow p a v else s.writeBlock req p off v
  | .table b => s.storeShadow (((regionOf? b).map TableRegion.page).getD 0) b v
  | _ => s

/-! ### Bursts -/

/-- What an access is answered with: the status, the address reported with it (R71), and the data of a read. -/
structure Answer where
  status : Status
  addr : Nat
  data : List Byte
  deriving DecidableEq, Repr

/-- An answer without data. -/
def refusal (st : Status) (a : Nat) : Answer := ⟨st, a, []⟩

/-- The addresses of the words of a burst, ascending. -/
def wordsFrom (a n : Nat) : List Nat := (List.range (n / 4)).map fun i => a + 4 * i

/-- The first cause in the order of R73, with the lowest word that has it. -/
def worst : List (Status × Nat) → Status × Nat
  | [] => (.ok, 0)
  | (st, a) :: l => if (worst l).1.rank < st.rank then worst l else (st, a)

/-- Whether `n` bytes from an address cross a boundary of R70. -/
def crosses (a n : Nat) : Bool :=
  let e := a + n
  let cut (lo hi : Nat) : Bool := decide ((a < lo ∧ lo < e) ∨ (a < hi ∧ hi < e))
  if a < 0x100000 then a / 0x1000 != (e - 1) / 0x1000
  else if a < 0x500000 then decide (0x500000 < e) || tableRegions.any fun r => cut r.base (r.base + r.size * r.count)
  else if a < 0x900000 then
    decide (0x900000 < e) || tableRegions.any fun r => cut (r.base + 0x400000) (r.base + 0x400000 + r.size * r.count)
  else if 0x1000000 ≤ a ∧ a < 0x1400000 then decide (0x1400000 < e)
  else if 0x4000000 ≤ a ∧ a < 0x6000000 then decide (0x6000000 < e)
  else false

/-- The refusal of a burst's form (R69, R70), if it has one: ALIGN, then BOUNDS. -/
def burstForm (a n : Nat) : Option Status :=
  if a < 0x900000 ∧ (a % 4 ≠ 0 ∨ n % 4 ≠ 0) then some .align else if crosses a n then some .bounds else none

/-- Words are read in ascending order; `taken` says how many bytes of the data reached the requester (R47).
(DEDUCED, notes/assumptions/9.md.) -/
def State.readWords (s : State) (req : Requester) (taken : Nat) : List Nat → List Byte × State
  | [] => ([], s)
  | a :: l =>
    let (v, s1) := s.readWord req a (decide (4 ≤ taken))
    let (bs, s2) := State.readWords s1 req (taken - 4) l
    (bytesLE 4 v ++ bs, s2)

/-- The external address of the first uncorrectable SRAM word that a burst meets. -/
def State.eccAddr (s : State) (cls : Nat) (write : Bool) (a n : Nat) : Nat :=
  ((pageStarts a n).findSome? fun x =>
    match s.translate cls write x with
    | .ok pa =>
      match touched s.sramBad pa (min (a + n) ((x / 0x1000 + 1) * 0x1000) - x) with
      | [] => none
      | w :: ws => some (x + (8 * ws.foldl min w - pa))
    | .error _ => none).getD a

/-- Reads the SRAM for a requester (R75, R417, R423). -/
def State.readSram (s : State) (req : Requester) (a n : Nat) : Answer × State :=
  let cls := mptuClass req
  let ((st, bs), s1) := s.externalRead cls a n
  match st with
  | .perm => (refusal .perm (((s.mptuCheck cls false a n).map Prod.fst).getD a), s1)
  | .ecc => (refusal .ecc (s.eccAddr cls false a n), s1)
  | .timeout => (refusal .timeout a, s1)
  | st => (⟨st, a, bs⟩, s1)

/-- Reads the store window (R39, R435); with NVM off or held it answers as a page of a domain that is off.
(DEDUCED, notes/assumptions/11.md.) -/
def State.readStore (s : State) (a n : Nat) : Answer × State :=
  let off := a - 0x4000000
  if !s.alive 0x48 then (⟨.domainOff, a, List.replicate n 0⟩, s)
  else
    match s.storeRead off n with
    | (some bs, s1) => (⟨.ok, a, bs⟩, s1)
    | (none, s1) =>
      let blocks := (s.nvm.bad.filter fun b => decide (off < 32 * b + 32) && decide (32 * b < off + n))
      (refusal .ecc (0x4000000 + max off (32 * blocks.foldl min 0x100000)), s1)

/-- A read of `n` bytes (R39, R69 to R73, R78). -/
def State.readAccess (s : State) (req : Requester) (a n taken : Nat) : Answer × State :=
  let mayRead := match req with
    | .remote _ role _ => decide (1 ≤ role)
    | _ => true
  match burstForm a n with
  | some st => (refusal st a, s)
  | none =>
    if !mayRead then (refusal .role a, s)
    else
      match placeOf a with
      | .sram _ => s.readSram req a n
      | .store _ => s.readStore a n
      | .unmapped => (refusal .unmapped a, s)
      | _ =>
        match worst ((wordsFrom a n).map fun w => (s.readStatus w, w)) with
        | (.ok, _) => let (bs, s1) := s.readWords req taken (wordsFrom a n); (⟨.ok, a, bs⟩, s1)
        | (.unmapped, x) => (refusal .unmapped x, s)
        | (st, x) => let (bs, s1) := s.readWords req taken (wordsFrom a n); (⟨st, x, bs⟩, s1)

/-- Writes the SRAM for a requester (R75, R423). -/
def State.writeSram (s : State) (req : Requester) (a : Nat) (bs : List Byte) : Answer × State :=
  let cls := mptuClass req
  let (st, s1) := s.externalWrite cls a bs
  let at_ := match st with
    | .perm => ((s.mptuCheck cls true a bs.length).map Prod.fst).getD a
    | .ecc => s.eccAddr cls true a bs.length
    | _ => a
  (refusal st at_, s1)

/-- A write of bytes (R39, R69 to R73, R77, R78): all of it, or nothing.
(DEDUCED, notes/assumptions/9.md.)
(DEDUCED, notes/assumptions/11.md.) -/
def State.writeAccess (s : State) (req : Requester) (a : Nat) (bs : List Byte) : Answer × State :=
  match burstForm a bs.length with
  | some st => (refusal st a, s)
  | none =>
    match placeOf a with
    | .sram _ => if mayWrite req 0 then s.writeSram req a bs else (refusal .role a, s)
    | .store _ => (refusal (if mayWrite req 0 then .readonly else .role) a, s)
    | .unmapped => (refusal (if mayWrite req 0 then .unmapped else .role) a, s)
    | _ =>
      let words := (wordsFrom a bs.length).zip (wordsOfBytes bs)
      match worst (words.map fun e => (s.writeWordStatus req e.1 e.2, e.1)) with
      | (.ok, _) => (refusal .ok a, s.each words fun st e => st.writeWord req e.1 e.2)
      | (st, x) => (refusal st x, s)

/-- The answer goes to the requester. -/
def answered (r : Answer × State) : State := { r.2 with status := r.1.status.code, response := r.1.data }

/-- REGISTER_WRITE: a write of one word (R45). -/
def execRegisterWrite (req : Requester) (addr : Nat) (value : Word) (s : State) : Result :=
  if !s.reachable req then .next s else .next (answered (s.awake.writeAccess req addr (wordBytes value)))

/-! ### The host port -/

/-- The registers of HOST follow a frame's status (R76).
(DESIGN CHOICE, notes/assumptions/14.md.) -/
def State.hostNote (s : State) (st : Status) (a : Nat) : State :=
  match st with
  | .ok => s.wrap HOST.FRAMES.count
  | .crc => s.stick HOST.CRCERR.count HOST.CNTOVF.crcerr none
  | st => (s.wr HOST.LASTERR.status st.code).wr HOST.LASTADDR.addr a

/-- A frame is answered: the status, the data, and the node's CRC over the two (R67). -/
def State.hostAnswer (s : State) (r : Answer × State) : State :=
  let t := { answered r with responseCrc := crc16 (bytesLE 1 r.1.status.code ++ r.1.data) }
  if s.alive 0x60 then t.hostNote r.1.status r.1.addr else t

/-- The bytes that the host sends before its CRC (R67). -/
def frameBytes (command addr len : Nat) (data : List Byte) : List Byte :=
  bytesLE 1 command ++ bytesBE 4 addr ++ bytesBE 2 len ++ data

/-- A frame that the host port cannot answer: CSn low wakes the node from Nap or Stow (R544, R545). A frame cut short is taken
to have held CSn low for the 1 µs of the wake too.
(DESIGN CHOICE, notes/assumptions/14.md.) -/
def State.chipSelect (s : State) : State := if s.alive 4 then s.wakeBy 4 else s

/-- A frame that arrived whole with the host's CRC: refused with CRC, or handled (R71).
(DESIGN CHOICE, notes/assumptions/14.md.) -/
def State.hostFrame (s : State) (command addr len : Nat) (data : List Byte) (crc : Nat) (f : State → Answer × State) : Result :=
  if !s.alive 0x60 then .next s.chipSelect
  else
    let s1 := s.awake
    if crc16 (frameBytes command addr len data) ≠ crc % 65536 then .next (s1.hostAnswer (refusal .crc addr, s1))
    else .next (s1.hostAnswer (f s1))

/-- A READ or READ4 frame (R66, R69). -/
def State.hostReadFrame (s : State) (command addr len crc taken : Nat) : Result :=
  let a := addr % 2 ^ 32
  let n := len % 65536
  s.hostFrame command a n [] crc fun s =>
    let top := if 0x4000000 ≤ a ∧ a < 0x6000000 then 4096 else 65535
    if n = 0 ∨ top < n then (refusal .len a, s) else s.readAccess .host a n taken

/-- A WRITE or WRITE4 frame (R66, R69). The length field says how many bytes the node takes as data; a frame with fewer ends before its
CRC and is discarded (R71).
(DESIGN CHOICE, notes/assumptions/14.md.) -/
def State.hostWriteFrame (s : State) (command addr len : Nat) (data : List Byte) (crc : Nat) : Result :=
  let a := addr % 2 ^ 32
  let n := len % 65536
  if data.length < n then .next (if s.alive 0x60 then s.awake else s.chipSelect)
  else
    s.hostFrame command a n (data.take n) crc fun s =>
      if n = 0 ∨ 4096 < n then (refusal .len a, s) else s.writeAccess .host a (data.take n)

/-- HOST_READ. -/
def execHostRead (addr len crc taken : Nat) (s : State) : Result := s.hostReadFrame 0x0B addr len crc taken
/-- HOST_READ4. -/
def execHostRead4 (addr len crc taken : Nat) (s : State) : Result := s.hostReadFrame 0xEB addr len crc taken
/-- HOST_WRITE. -/
def execHostWrite (addr len : Nat) (data : List Byte) (crc : Nat) (s : State) : Result := s.hostWriteFrame 0x02 addr len data crc
/-- HOST_WRITE4. -/
def execHostWrite4 (addr len : Nat) (data : List Byte) (crc : Nat) (s : State) : Result := s.hostWriteFrame 0x32 addr len data crc

/-- HOST_RESET_FRAME (R66, R69, R74): the answer, and then the host-port reset.
(DESIGN CHOICE, notes/assumptions/14.md.) -/
def execHostResetFrame (addr len crc : Nat) (s : State) : Result :=
  let a := addr % 2 ^ 32
  let n := len % 65536
  let ok := s.alive 0x60 && crc16 (frameBytes 0x99 a n []) == crc % 65536 && a == 0xC0DE && n == 0
  match s.hostFrame 0x99 a n [] crc fun s =>
      (if a ≠ 0xC0DE then refusal .cmd a else if n ≠ 0 then refusal .len a else refusal .ok a, s) with
  | .next t => .next (if ok then { t.assertReset 9 false with status := t.status, response := t.response, responseCrc := t.responseCrc } else t)
  | r => r

/-- UNKNOWN_COMMAND_FRAME (R66): status CMD, without a CRC check. -/
def execUnknownCommandFrame (command : Byte) (s : State) : Result :=
  if [0x0B, 0xEB, 0x02, 0x32, 0x99].contains command.toNat then .next s
  else if !s.alive 0x60 then .next s.chipSelect
  else .next (s.awake.hostAnswer (refusal .cmd 0, s.awake))

/-- HOST_FRAME_CUT_SHORT (R71): discarded without a response; CSn alone wakes the node (R544). -/
def execHostFrameCutShort (s : State) : Result := .next (if s.alive 0x60 then s.awake else s.chipSelect)

/-- HOST_STATUS_TIMEOUT (R68). -/
def execHostStatusTimeout (addr : Nat) (s : State) : Result :=
  if !s.alive 0x60 then .next s else .next (s.awake.hostAnswer (refusal .timeout addr, s.awake))

/-! ### The partner -/

/-- REGACC_RECEIVED (R77, R79): byte 0 is 0 for a read and 1 for a write, then the address, the length and the data; the answer goes
back with byte 0 = 2, the status and the data.
(DESIGN CHOICE, notes/assumptions/15.md.) -/
def execRegaccReceived (lane : Nat) (payload : List Byte) (s : State) : Result :=
  s.fromPartner lane fun s =>
    let kind := field payload 0 1
    let a := field payload 1 4
    let n := field payload 5 2
    if payload.length < 7 ∨ 1 < kind then s
    else
      let s1 := s.awake
      let r :=
        if n = 0 ∨ 1016 < n ∨ (kind = 1 ∧ payload.length ≠ 7 + n) then (refusal .len a, s1)
        else if kind = 0 then s1.readAccess .pair a n n
        else s1.writeAccess .pair a (payload.drop 7)
      (answered r).uhlizSend 10 (bytesLE 1 2 ++ bytesLE 1 r.1.status.code ++ r.1.data)

end Sys2Proof.Machine
end

