-- ==== Sys2Proof/Machine/Msg.lean ====
section
/-!
DEFINITION. The commands of the message layer and of system time: what is sent, what is accepted, and what accepted frames do
(R253 to R258, R386 to R408).
-/

namespace Sys2Proof.Machine

/-! ### Sending -/

/-- The priority class of an ALARM message (R388). -/
def alarmClass (entry : List Byte) : Nat :=
  let kind := field entry 0 2 / 4096
  let category := field entry 3 1 / 16 % 8
  if kind ≠ 0 then 3 else if category = 0 then 0 else if category = 1 ∨ category = 2 then 1 else 3

/-- The unit code of the source channel of a notification entry (R390); 0 where the entry has no source channel. -/
def State.entryUnit (s : State) (entry : List Byte) : Nat :=
  let kind := field entry 0 2 / 4096
  let k := field entry 0 2 % 1024
  let type := s.rd (ALM.CTXA.src_type k)
  let src := s.rd (ALM.CTXA.src k)
  if kind = 3 ∨ kind = 4 ∨ 6 ≤ kind ∧ kind ≠ 9 ∨ type = 4 ∨ type = 6 ∨ !(src < 160 ∨ (512 ≤ src ∧ src < 520)) then 0 else s.unitCode src

/-- The oldest notification entry as it stands in SRAM. -/
def State.oldestEntry (s : State) : Option (List Byte) × State :=
  s.sramRead (s.rd ALM.NQBASE.base * 0x2000 + s.rd ALM.NQREL.index % 256 * 32) 32

/-- The oldest entry is released (R245).
(DEDUCED, notes/assumptions/49.md.) -/
def State.releaseEntry (s : State) : State := ((s.wrap ALM.NQREL.index).showQueue).rescanAfterDrops

/-- NOTIFICATION_CONSUME (R245, R391, R398, R401): an entry is held while there are network ports and all are
stopped, and while its frame would wait for a freshness value; a standby releases it
without sending it (R25). An entry that SRAM cannot give back is released unsent.
(DEDUCED, notes/assumptions/49.md.) -/
def execNotificationConsume (s : State) : Result :=
  let networks := s.portsOf 1
  if !s.working 0x34 ∨ !s.alive 0x20 ∨ !s.alive 0x40 ∨ s.rd ALM.CFG.consumer ≠ 0 ∨ s.nqOccupancy = 0 then .next s
  else if !s.holds then .next s.releaseEntry
  else if !s.maySend 1 ∨ (!networks.isEmpty ∧ networks.all fun n => s.portStopped n) then .next s
  else
    match s.oldestEntry with
    | (none, s1) => .next s1.releaseEntry
    | (some e, s1) =>
      let body := e ++ bytesLE 1 (s1.entryUnit e) ++ bytesLE 7 0
      .next (if s1.fvWaits (alarmClass e) then s1 else ((s1.sendTml (alarmClass e) 1 none body).releaseEntry).pump)

/-- DEMAND_SEND (R254, R391): a node that is not master tells the system master its demand.
(DEDUCED, notes/assumptions/49.md.) -/
def execDemandSend (s : State) : Result :=
  if !s.alive 0x28 ∨ s.flag CALL.CFG.master ∨ !s.maySend 3 then .next s
  else
    let master := s.rd MSG.CFG.master_nid
    let body := bytesLE 2 master ++ bytesLE 1 (s.rd CALL.STATE.demand + 2 * s.rd CALL.STATE.pers) ++ bytesLE 1 0
    .next (((s.sendTml 1 3 (some master) body).modCall fun c => { c with sentDemand := some (s.flag CALL.STATE.demand) }).pump)

/-- A CALL body for a call point (R390).
(DEDUCED, notes/assumptions/49.md.) -/
def State.callBody (s : State) (j : Nat) : List Byte :=
  bytesLE 2 (s.rd (CALL.CP.nid j)) ++ bytesLE 1 (s.rd (CALL.CP.panel j)) ++
    bytesLE 1 (s.rd CALL.STATE.stage + 8 * ofBool (bit (s.rd CALL.CPDRIVE.cp) j)) ++ bytesLE 1 (s.rd CALL.STATE.duty) ++ bytesLE 3 0 ++
    bytesLE 6 (s.rd CALL.TCALL.t_call) ++ bytesLE 2 0

/-- CALL_MESSAGE_SEND (R259, R391): the master tells every TML call point the stage and whether it is driven, at each change of the
stage and while it is not idle. -/
def execCallMessageSend (s : State) : Result :=
  let stage := s.rd CALL.STATE.stage
  if !s.alive 0x28 ∨ !s.flag CALL.CFG.master ∨ (stage = 0 ∧ s.msg.callSent = 0) ∨ !s.maySend 4 then .next s
  else
    let panels := (List.range 32).filter fun j => s.flag (CALL.CP.enable j) && s.rd (CALL.CP.kind j) != 0
    let s1 := s.each panels fun st j => st.sendTml 1 4 (some (st.rd (CALL.CP.nid j))) (st.callBody j)
    .next (s1.modMsg fun m => { m with callSent := stage }).pump

/-- HEALTH_SEND (R390, R391, R496). -/
def execHealthSend (s : State) : Result :=
  if !s.maySend 0x1A then .next s
  else
    let body := bytesLE 1 (if s.alive 0x38 then s.rd PAIR.STAT.score else s.ownScore) ++ bytesLE 1 s.level ++ bytesLE 2 0 ++ bytesLE 4 s.lapCount ++
      (List.range 8).flatMap fun i => bytesLE 4 (s.faultSum i)
    .next (s.sendTml 7 0x1A none body).pump

/-- PAIR_STATUS_SEND (R390, R391). -/
def execPairStatusSend (s : State) : Result :=
  if !s.alive 0x38 ∨ !s.paired ∨ !s.maySend 0x19 then .next s
  else
    let partner := s.rd PAIR.CFG.partner
    let body := bytesLE 2 partner ++ bytesLE 1 s.role ++ bytesLE 1 (s.rd PAIR.STAT.partner) ++
      bytesLE 1 (s.rd PAIR.FAULT.degraded + 2 * s.rd PAIR.STAT.cfgdiff + 4 * s.rd PAIR.FAULT.xchk) ++ bytesLE 3 0
    .next ((s.sendTml 3 0x19 (some partner) body).modMsg fun m => { m with statusSent := body }).pump

/-! ### Accepting a frame -/

/-- The bytes of body that a type requires (R390, R392); none where R390 has no such type. -/
def bodyLength (type seq : Nat) : Option Nat :=
  match type with
  | 0x01 => some 40
  | 0x02 => some 56
  | 0x03 => some 4
  | 0x04 => some 16
  | 0x05 => some 4
  | 0x06 => some 8
  | 0x07 => some 12
  | 0x08 => some 8
  | 0x10 => some 2
  | 0x11 => some 16
  | 0x18 => some 12
  | 0x19 => some 8
  | 0x1A => some 40
  | 0x20 => some (if seq % 128 = 0 then 12 else 4)
  | 0x21 => some (if seq % 128 = 0 then 8 else 4)
  | 0x28 => some 1
  | _ => none

/-- The destination a body names, if its type has one (R390, R392). -/
def bodyDest (type : Nat) (body : List Byte) : Option Nat :=
  if [0x03, 0x04, 0x05, 0x06, 0x07, 0x08, 0x18, 0x19].contains type then some (field body 0 2 % 1024)
  else if type = 0x20 ∨ type = 0x21 then some (field body 2 2 % 1024)
  else none

/-- The request of a source and tag whose fragments are being collected. -/
def State.partial? (s : State) (source tag : Nat) : Option Partial := s.msg.partials.find? fun p => p.source == source && p.tag == tag

/-- The role whose key a frame is to verify with: 0 the system's (R390); a later fragment has the role of its fragment 0 (R392). -/
def State.frameRole (s : State) (type seq source : Nat) (body : List Byte) : Option Nat :=
  let named : Nat → Option Nat := fun r => if 1 ≤ r ∧ r ≤ 4 then some r else none
  match type with
  | 0x05 => named (field body 3 1)
  | 0x06 => named (field body 2 1)
  | 0x07 => named (field body 2 1)
  | 0x20 => if seq % 128 = 0 then named (field body 4 1) else (s.partial? source (field body 0 2)).map Partial.role
  | _ => some 0

/-- The least role of a COMMAND (R394, R395).
(DEDUCED, notes/assumptions/47.md.) -/
def commandRole (block op : Nat) : Nat :=
  match block with
  | 0 => if op = 6 ∨ op = 7 then 2 else 1
  | 2 => 2
  | 3 => 3
  | _ => 1

/-- The least role of a REG_REQ (R78). -/
def requestRole (op a : Nat) : Nat := if op = 2 then leastWriteRole (((placeOf a).page?).getD 0) else 1

/-- The role rules of a frame (R78, R394, R395). -/
def roleMet (type seq : Nat) (body : List Byte) (role : Nat) : Bool :=
  match type with
  | 0x07 => decide (commandRole (field body 3 1) (field body 4 4 / 2 ^ 20 % 16) ≤ role)
  | 0x20 => seq % 128 != 0 || decide (requestRole (field body 5 1) (field body 6 4) ≤ role)
  | _ => true

/-- The time that a freshness value names (R399): the value with its bits [31:12] that lies nearest STIME. -/
def State.frameTime (s : State) (fv : Nat) : Nat :=
  let base := fv / 4096 * 4096
  let top := s.stime / 2 ^ 32
  let near : Nat → Nat → Nat := fun x y =>
    if ((x : Int) - s.stime).natAbs ≤ ((y : Int) - s.stime).natAbs then x else y
  let here := top * 2 ^ 32 + base
  let best := near here (here + 2 ^ 32)
  if top = 0 then best else near best (here - 2 ^ 32)

/-- A frame is rejected (R399): MSG.LASTREJ says why. -/
def State.reject (s : State) (id reason : Nat) : State :=
  (((s.wr MSG.LASTREJ.source (tmlSource id)).wr MSG.LASTREJ.type_ (tmlType id)).wr MSG.LASTREJ.reason reason).irq MSG.IRQRAW.rx_reject

/-- A node finds its own address in a frame that it did not send (R33, R400). -/
def State.foundTwice (s : State) : State := (((s.wr MSG.STAT.dupaddr 1).fault MSG.FAULT.dupaddr 0x0110).irq MSG.IRQRAW.dupaddr).purge

/-- A gateway forwards an accepted frame unchanged (R403); of a pair only the holder does (R25), and no node whose address is used
twice (R33).
(DEDUCED, notes/assumptions/46.md.) -/
def State.forwardFrame (s : State) (port id : Nat) (data : List Byte) (dest : Option Nat) : State :=
  let use := s.portUse port
  let toLegs := use == 1
  let far := s.portsOf (if toLegs then 3 else 1)
  if !(use = 1 ∨ use = 3) ∨ far.isEmpty ∨ !s.holds ∨ s.flag MSG.STAT.dupaddr ∨ !s.crosses toLegs (tmlClass id) (tmlSource id) dest then s
  else
    let stamp := s.msg.formed
    ((s.modMsg fun m => { m with formed := stamp + 1 }).enqueue far { id := id, data := data, stamp := stamp }).wrap MSG.FWDCNT.count

/-- The types whose frames a node itself consumes. -/
def consumedTypes : List Nat := [0x03, 0x05, 0x06, 0x07, 0x10, 0x11, 0x18, 0x20]

/-- A frame goes to its consumer, unless it names another node. -/
def State.deliverFrame (s : State) (port id : Nat) (body : List Byte) (stime : Nat) : State :=
  let type := tmlType id % 128
  let mine := match bodyDest type body with
    | some d => d == s.straps.nid % 1024
    | none => true
  if mine && consumedTypes.contains type && tmlSource id != s.straps.nid % 1024 then
    s.modMsg fun m => { m with accepted := m.accepted ++ [⟨port, id, body, stime⟩] }
  else s

/-- A frame with type bit 15 set (R397): it is delivered with that bit kept, and never applied as more than the consumer allows.
(DEDUCED, notes/assumptions/46.md.) -/
def State.takeUnauth (s : State) (port id : Nat) (body : List Byte) (stime : Nat) : State :=
  if s.flag MSG.AUTHCFG.auth_req then s
  else if !unauthTypes.contains (tmlType id % 128) then s.reject id 4
  else (s.deliverFrame port id body stime).irq MSG.IRQRAW.unauth_rx

/-- A frame that verified and meets the role rules: the time check, the freshness check, and acceptance (R399, R400). -/
def State.takeFresh (s : State) (port id fv : Nat) (data body : List Byte) (stime : Nat) : State :=
  let type := tmlType id
  let cls := tmlClass id
  let source := tmlSource id
  let t := s.frameTime fv
  let skip := (type == 0x10 || type == 0x11) && s.rd TSYNC.STATE.state == 0
  if !skip ∧ s.rd MSG.AUTHCFG.fwin * 1000 < ((t : Int) - s.stime).natAbs then s.reject id 2
  else if (match Keyed.get? s.msg.newest (source * 8 + cls) with
      | some n => decide (t + fv % 4096 ≤ n)
      | none => false) then s.wrap MSG.DUPCNT.count
  else
    let s1 := ((s.wrap MSG.RXCNT.count).modMsg fun m => { m with newest := Keyed.put m.newest (source * 8 + cls) (t + fv % 4096) })
    let own := source == s.straps.nid % 1024
    let s2 := if own && !(Keyed.get [] s.msg.recent cls).contains fv then s1.foundTwice else s1
    if own then s2 else (s2.deliverFrame port id body stime).forwardFrame port id data (bodyDest type body)

/-- A frame whose MAC does not verify, for want of its key too (R399); only with an empty vault it does not count toward the tamper
source (R495). -/
def State.notVerified (s : State) (id : Nat) : State :=
  let s1 := (s.stick MSG.AUTHFAIL.count MSG.CNTOVF.auth (some MSG.IRQRAW.cnt_event)).reject id 1
  if s.sec.slots.isEmpty then s1 else s1.macFailed

/-- A TML frame is checked (R389, R396, R399).
(DEDUCED, notes/assumptions/46.md.) -/
def State.takeFrame (s : State) (port id : Nat) (data : List Byte) (stime : Nat) : State :=
  let type := tmlType id % 128
  let seq := id % 256
  let n := data.length
  match bodyLength type seq with
  | none => s
  | some need =>
    if n < need + 8 then s.reject id 6
    else
      let body := data.take (if fragmented type then n - 8 else need)
      let fv := field data (n - 8) 4
      if 128 ≤ tmlType id then s.takeUnauth port id body stime
      else
        match s.frameRole type seq (tmlSource id) body with
        | none => s.notVerified id
        | some role =>
          match s.macKey role with
          | none => s.notVerified id
          | some key =>
            if tmlMac key id body fv ≠ data.drop (n - 4) then s.notVerified id
            else if !roleMet type seq body role then (s.stick MSG.ROLEFAIL.count MSG.CNTOVF.role (some MSG.IRQRAW.cnt_ovf)).reject id 3
            else s.takeFresh port id fv data body stime

/-- TML_FRAME_ACCEPT (R386, R399): MSG takes the oldest entry of a receive queue that is its own; classical frames and base identifiers
are not its business. An entry that SRAM cannot give back is released.
(DEDUCED, notes/assumptions/46.md.) -/
def execTmlFrameAccept (port queue : Nat) (s : State) : Result :=
  if 4 ≤ port ∨ 2 ≤ queue ∨ !s.working 0x34 ∨ !s.alive (0x30 + port) ∨ !s.alive 0x40 ∨ s.rd (BUS.RXQ.consumer port queue) ≠ 0 ∨
      s.rxOccupancy port queue = 0 then .next s
  else
    let i := s.rd (BUS.RXREL.index port queue)
    let (r, s1) := s.sramRead (s.rxEntry port queue i) 80
    let s2 := s1.wrap (BUS.RXREL.index port queue)
    match r with
    | none => .next s2
    | some e =>
      let word := field e 0 4
      let format := field e 4 1
      if !bit word 29 ∨ bit word 30 ∨ !bit format 4 then .next s2
      else
        let data := (e.drop 16).take (dlcBytes true (format % 16))
        .next ((s2.takeFrame port (word % 2 ^ 29) data (Keyed.get 0 (s.port port).rxStime (32 * queue + i % 32))).pump)

/-! ### What accepted frames do -/

/-- The oldest accepted frame that a test takes, and the others. -/
def takeFirst (f : Accepted → Bool) (l : List Accepted) : Option (Accepted × List Accepted) :=
  match l.find? f with
  | some a => some (a, l.erase a)
  | none => none

/-- The oldest accepted frame of some types that passes a test is consumed, if MSG takes frames. -/
def State.consume (s : State) (f : Accepted → Bool) (g : State → Accepted → State) : Result :=
  if !s.working 0x34 then .next s
  else
    match takeFirst f s.msg.accepted with
    | none => .next s
    | some (a, rest) => .next (g (s.modMsg fun m => { m with accepted := rest }) a).pump

/-- A frame of a type. -/
def ofType (type : Nat) (a : Accepted) : Bool := tmlType a.id % 128 == type

/-- The block that a COMMAND names. -/
def commandBlock (a : Accepted) : Nat := field a.body 3 1

/-- A party on the bus as a requester. -/
def State.remoteOf (s : State) (source role : Nat) : Requester := .remote source role (source == s.rd MSG.CFG.master_nid)

/-- The page of a block of R390. -/
def blockPage (block : Nat) : Nat :=
  match block with
  | 0 => 0x20
  | 1 => 0x28
  | 2 => 0x38
  | _ => 0x10

/-- A CMD_RESULT (R390, R393). -/
def State.sendResult (s : State) (requester block stat : Nat) : State :=
  s.sendTml 1 8 (some requester) (bytesLE 2 requester ++ bytesLE 1 block ++ bytesLE 1 0 ++ bytesLE 4 stat)

/-- The results of COMMANDs that have completed are sent, each with the CMDSTAT of its own completion (R393).
(DEDUCED, notes/assumptions/42.md.) -/
def State.sendResults (s : State) : State :=
  if !s.working 0x34 then s
  else (s.modMsg fun m => { m with results := [] }).each s.msg.results fun st r => st.sendResult r.1 r.2.1 r.2.2

/-- The key that opens CMD of a block of R390. -/
def blockKey (block : Nat) : Nat :=
  match block with
  | 0 => 0xA1
  | 1 => 0xCE
  | 2 => 0xB7
  | _ => 0xCA

/-- The command word of a COMMAND reaches its block as if written to CMD (R393). A word that the block does not take, for want of power
or of its key, changes nothing there, and its result is CMDSTAT as it stands.
(DEDUCED, notes/assumptions/47.md.) -/
def State.applyCommand (s : State) (a : Accepted) : State :=
  let block := commandBlock a
  let word := BitVec.ofNat 32 (field a.body 4 4)
  let source := tmlSource a.id
  let req := s.remoteOf source (field a.body 2 1)
  let op := wordField word 20 4
  let s1 := if block = 0 ∧ s.alive 0x20 then s.wr ALM.CMDARG (field a.body 8 4) else s
  if !s.alive (blockPage block) ∨ wordField word 24 8 ≠ blockKey block then s1.replyTo (some source) block
  else
    match block with
    | 0 => s1.almCommand req op (wordField word 0 10) (some source)
    | 1 => s1.callCommand req op (wordField word 5 5) (wordField word 0 4) false (some source)
    | 2 => s1.pairCommand req op (some source)
    | _ => s1.calCommand op (wordField word 10 3) (wordField word 0 10) (some source)

/-- COMMAND_MESSAGE (R393): the result follows when the command has completed.
(DEDUCED, notes/assumptions/47.md.) -/
def execCommandMessage (s : State) : Result :=
  s.consume (fun a => ofType 0x07 a && decide (tmlType a.id < 128) && decide (commandBlock a ≤ 3)) fun s a =>
    (s.applyCommand a).sendResults

/-- UNKNOWN_BLOCK_COMMAND (R395). -/
def execUnknownBlockCommand (s : State) : Result :=
  s.consume (fun a => ofType 0x07 a && decide (tmlType a.id < 128) && decide (3 < commandBlock a)) fun s a =>
    if s.holds then (s.reject a.id 7).sendResult (tmlSource a.id) (commandBlock a) 0xFF04 else s

/-- CALL_ACK_MESSAGE (R261, R264, R390).
(DEDUCED, notes/assumptions/47.md.) -/
def execCallAckMessage (s : State) : Result :=
  s.consume (fun a => ofType 0x06 a && decide (tmlType a.id < 128)) fun s a =>
    let op := field a.body 3 1
    if !s.alive 0x28 ∨ op = 0 ∨ 4 < op then s
    else s.callCommand (s.remoteOf (tmlSource a.id) (field a.body 2 1)) op (field a.body 4 1) (field a.body 5 1) true

/-- CP_PRESENCE_MESSAGE (R258). -/
def execCpPresenceMessage (s : State) : Result :=
  s.consume (fun a => ofType 0x05 a && decide (tmlType a.id < 128)) fun s a =>
    if !s.alive 0x28 then s
    else
      let heard := (List.range 32).filter fun j => s.flag (CALL.CP.enable j) && s.rd (CALL.CP.kind j) != 0 &&
        s.rd (CALL.CP.nid j) == tmlSource a.id && s.rd (CALL.CP.panel j) == field a.body 2 1
      s.each heard fun st j =>
        (st.wr CALL.CPLOST.cp (putBits (st.rd CALL.CPLOST.cp) j 1 0)).modCall fun c => { c with presence := Keyed.put c.presence j st.stime }

/-- DEMAND_MESSAGE (R254): the system master keeps each node's newest demand. -/
def execDemandMessage (s : State) : Result :=
  s.consume (ofType 0x03) fun s a =>
    if !s.alive 0x28 ∨ !s.flag CALL.CFG.master then s
    else s.modCall fun c => { c with demands := Keyed.put c.demands (tmlSource a.id) (bit (field a.body 2 1) 0, s.stime) }

/-- PAIR_PRESENCE_MESSAGE (R348, R397): an unauthenticated one has no effect. -/
def execPairPresenceMessage (s : State) : Result :=
  s.consume (ofType 0x18) fun s a =>
    if tmlType a.id < 128 ∧ tmlSource a.id = s.rd PAIR.CFG.partner then s.presenceHeard a.body else s

/-! ### Remote register access -/

/-- The fragments of a request in order, if all are there: whether each from 0 on is, up to one without another behind it. -/
def collected : Nat → Nat → Keyed (Bool × List Byte) → Option (List Byte)
  | 0, _, _ => none
  | n + 1, i, l =>
    match Keyed.get? l i with
    | none => none
    | some (true, bs) => (collected n (i + 1) l).map fun r => bs ++ r
    | some (false, bs) => some bs

/-- A request is discarded (R392). -/
def State.dropRequest (s : State) : State :=
  (s.stick MSG.FRAGDROP.count MSG.CNTOVF.frag (some MSG.IRQRAW.cnt_ovf)).irq MSG.IRQRAW.frag_drop

/-- The fragments of a REG_RESP (R392). -/
def State.respond (s : State) (p : Partial) (r : Answer) : State :=
  let head := bytesLE 2 p.tag ++ bytesLE 2 p.source
  let first := head ++ bytesLE 1 r.status.code ++ bytesLE 1 0 ++ bytesLE 2 r.data.length ++ r.data.take 48
  let later := (pieces 52 20 (r.data.drop 48)).map fun b => head ++ b
  s.sendFragments 5 0x21 (some p.source) (first :: later)

/-- A complete request is carried out and answered (R77 to R79, R392). -/
def State.carryOut (s : State) (p : Partial) (data : List Byte) : State :=
  let req := s.remoteOf p.source p.role
  let s1 := s.awake
  let r :=
    if p.op ≠ 1 ∧ p.op ≠ 2 then (refusal .cmd p.addr, s1)
    else if p.len < 4 ∨ 1024 < p.len then (refusal .len p.addr, s1)
    else if p.op = 1 then s1.readAccess req p.addr p.len p.len
    else s1.writeAccess req p.addr (data.take p.len)
  if p.op = 2 ∧ data.length < p.len then s.dropRequest else (answered r).respond p r.1

/-- REG_REQ_FRAGMENT (R392): the fragment joins its request, which is carried out once every fragment is there.
(DEDUCED, notes/assumptions/47.md.) -/
def execRegReqFragment (s : State) : Result :=
  s.consume (fun a => ofType 0x20 a && decide (tmlType a.id < 128)) fun s a =>
    let source := tmlSource a.id
    let tag := field a.body 0 2
    let i := a.id % 128
    let more := bit a.id 7
    let old := (s.partial? source tag).getD { source := source, tag := tag }
    let p : Partial :=
      if i = 0 then
        { source := source, tag := tag, role := field a.body 4 1, op := field a.body 5 1, addr := field a.body 6 4
          len := field a.body 10 2, started := some s.stime, parts := [(0, (more, a.body.drop 12))] }
      else { old with parts := Keyed.put old.parts i (more, a.body.drop 4) }
    let others := s.msg.partials.filter fun q => !(q.source == source && q.tag == tag)
    match collected 128 0 p.parts with
    | some data => (s.modMsg fun m => { m with partials := others }).carryOut p data
    | none => s.modMsg fun m => { m with partials := others ++ [p] }

/-- REG_REQ_TIMEOUT (R392): the oldest request of a source is discarded.
(DEDUCED, notes/assumptions/47.md.) -/
def execRegReqTimeout (source : Nat) (s : State) : Result :=
  match s.msg.partials.find? fun p => p.source == source with
  | none => .next s
  | some p => .next (s.modMsg fun m => { m with partials := m.partials.erase p }).dropRequest

/-! ### System time -/

/-- The ports toward the slaves of a time source (R404, R405): of the system master every network port and leg, of a boundary those
away from the master's segment. -/
def State.slavePorts (s : State) : List Nat :=
  if s.rd TSYNC.CFG.role = 1 then s.portsOf 1 ++ s.portsOf 3
  else
    let m := segmentOf (s.rd MSG.CFG.master_nid)
    if s.flag (MSG.ROUTE.enable m) && s.flag (MSG.ROUTE.side m) then s.portsOf 1 else s.portsOf 3

/-- Whether the node sends time: the system master once laps have begun since TSYNC was cleared (R415), a boundary while it keeps the
time of its own source (R404). -/
def State.sendsTime (s : State) : Bool :=
  let st := s.rd TSYNC.STATE.state
  s.alive 0x35 && !s.quiesced 0x35 && s.holds && s.tsync.started &&
    (s.rd TSYNC.CFG.role == 1 || (s.rd TSYNC.CFG.role == 2 && (st == 2 || st == 3)))

/-- The network of a port: BUS0 and BUS2 carry A, BUS1 and BUS3 carry B. -/
def networkOf (n : Nat) : Nat := n % 2

/-- SYNC_SEND (R405): on each port its own frame, with the next sequence of its network. -/
def execSyncSend (s : State) : Result :=
  if !s.sendsTime then .next s
  else
    .next (s.each s.slavePorts fun st n =>
      let seq := Keyed.get 0 st.msg.syncSeq n
      ((st.sendOn [n] 2 0x10 (bytesLE 1 (networkOf n) ++ bytesLE 1 seq)).modMsg fun m => { m with
        syncSeq := Keyed.put m.syncSeq n ((seq + 1) % 256) })).pump

/-- FOLLOW_UP_SEND (R405): for every SYNC whose start of frame has been captured, on the same port. -/
def execFollowUpSend (s : State) : Result :=
  if !s.sendsTime ∨ s.tsync.sent.isEmpty then .next s
  else
    let hops := if s.rd TSYNC.CFG.role = 1 then 0 else s.rd TSYNC.STATE.hops + 1
    let s1 := { s with tsync := { s.tsync with sent := [] } }
    .next (s1.each s.tsync.sent fun st (n, seq, t) =>
      (st.sendOn [n] 2 0x11 (bytesLE 1 (networkOf n) ++ bytesLE 1 seq ++ bytesLE 1 hops ++ bytesLE 1 0 ++ bytesLE 8 t ++
        bytesLE 2 (if st.rd TSYNC.CFG.role = 1 then st.straps.nid else st.rd MSG.CFG.master_nid) ++ bytesLE 2 0)).wrap TSYNC.SYNCCNT.count).pump

/-- adj is held to ±500,000 ppb (R406). -/
def clampAdj (x : Int) : Int := if x > 500000 then 500000 else if x < -500000 then -500000 else x

/-- A pair within step_us slews (R406). An interval of zero or less gives no quotient: freq and p are then open.
(DEDUCED, notes/assumptions/48.md.) -/
def State.slew (s : State) (o delta : Int) : State :=
  if delta ≤ 0 then
    let (x, s1) := s.draw
    let (y, s2) := s1.draw
    (s2.wrInt TSYNC.FREQ.ppb (signed 32 x)).wrInt TSYNC.ADJ.ppb (clampAdj (signed 32 y))
  else
    let freq := s.rdInt TSYNC.FREQ.ppb + roundEven (o * 1000000000) (16 * delta).toNat
    let p := roundEven (o * 1000000000) (2 * delta).toNat
    (s.wrInt TSYNC.FREQ.ppb freq).wrInt TSYNC.ADJ.ppb (clampAdj (freq + p))

/-- The count of pairs within 10 µs, and the lock at the second (R406). STIME never steps backward once the node has been locked: a
backward step that still waits is not made. -/
def State.nearLock (s : State) (o : Int) : State :=
  let near := if o.natAbs ≤ 10 then s.tsync.near + 1 else 0
  let s1 := { s with tsync := { s.tsync with near := near } }
  let st := s.rd TSYNC.STATE.state
  if (st = 1 ∨ st = 3) ∧ 2 ≤ near then
    let s2 := { s1 with tsync := { s1.tsync with step := if s1.tsync.settime then s1.tsync.step else s1.tsync.step.filter fun x => 0 ≤ x } }
    (s2.wr TSYNC.STATE.state 2).irq TSYNC.IRQRAW.locked
  else s1

/-- A step is to be made at the next boundary (R406). -/
def State.stepBy (s : State) (o : Int) : State := { s with tsync := { s.tsync with step := some o, settime := false, near := 0 } }

/-- A slave takes a pair: T_m and T_s, from a source at so many hops (R406).
(DEDUCED, notes/assumptions/48.md.) -/
def State.takePair (s : State) (tm ts net hops source : Nat) : State :=
  let o := (tm : Int) - ts
  let st := s.rd TSYNC.STATE.state
  let limit := s.rd TSYNC.CFG2.step_us
  let delta := (s.tsync.lastTm.map fun l => (tm : Int) - l).getD 0
  let s1 := ((((s.wrInt TSYNC.OFFSET.us o).wr TSYNC.STATE.net net).wr TSYNC.STATE.hops hops).wr TSYNC.STATE.srcnid source).wrap TSYNC.SYNCCNT.count
  let s2 := { s1 with tsync := { s1.tsync with lastTm := some tm } }
  if st = 0 then (s2.stepBy o).wr TSYNC.STATE.state 1
  else if o.natAbs ≤ limit then (s2.slew o delta).nearLock o
  else if st = 1 then s2.stepBy o
  else if o > 0 then (s2.stepBy o).fault TSYNC.FAULT.step 0x0110
  else ({ s2 with tsync := { s2.tsync with near := 0 } }.wrInt TSYNC.ADJ.ppb (-500000)).fault TSYNC.FAULT.step 0x0110

/-- A FOLLOW_UP completes a pair; the pair of the network that CFG.pref does not name is used once that network failed to deliver
(R405).
(DEDUCED, notes/assumptions/48.md.) -/
def State.followUp (s : State) (a : Accepted) : State :=
  let net := field a.body 0 1 % 2
  let hops := field a.body 2 1
  let pref := s.rd TSYNC.CFG.pref
  if 2 < hops then (s.fault TSYNC.FAULT.hops 0x0112).reject a.id 5
  else
    match Keyed.get? s.tsync.syncs net with
    | none => s
    | some (seq, ts) =>
      if seq ≠ field a.body 1 1 then s
      else
        let s1 := { s with tsync := { s.tsync with syncs := Keyed.drop s.tsync.syncs net } }
        if net ≠ pref ∧ s.tsync.delivers.contains pref then { s1 with tsync := { s1.tsync with delivers := dropFrom s1.tsync.delivers pref } }
        else
          let s2 := { s1 with tsync := { s1.tsync with delivers := addTo s1.tsync.delivers net } }
          s2.takePair (field a.body 4 8) ts net hops (tmlSource a.id)

/-- SYNC_PAIR_RECEIVED (R405, R406): a SYNC is kept with STIME at its start of frame, a FOLLOW_UP completes its pair. A time source takes
neither. -/
def execSyncPairReceived (s : State) : Result :=
  s.consume (fun a => (ofType 0x10 a || ofType 0x11 a) && decide (tmlType a.id < 128)) fun s a =>
    if !s.alive 0x35 ∨ s.quiesced 0x35 ∨ s.rd TSYNC.STATE.state = 4 then s
    else if ofType 0x10 a then
      { s with tsync := { s.tsync with syncs := Keyed.put s.tsync.syncs (field a.body 0 1 % 2) (field a.body 1 1, a.stime) } }
    else s.followUp a

/-- TIME_HOLDOVER (R406): no pair for loss_s. -/
def execTimeHoldover (s : State) : Result :=
  let st := s.rd TSYNC.STATE.state
  if !s.alive 0x35 ∨ st = 0 ∨ st = 4 then .next s
  else
    let s1 := ((s.wr TSYNC.STATE.state 3).wrInt TSYNC.ADJ.ppb (s.rdInt TSYNC.FREQ.ppb)).fault TSYNC.FAULT.loss 0x0111
    .next { (if st = 3 then s1 else s1.irq TSYNC.IRQRAW.holdover) with tsync := { s1.tsync with near := 0, delivers := [] } }

end Sys2Proof.Machine
end

