-- ==== Sys2Proof/Machine/Dispatch.lean ====
section
/-!
DEFINITION. The dispatcher: one arm for each constructor of Instr, in the order of the opcode table, each one call of that
command's meaning.
-/

namespace Sys2Proof.Machine

/-- The effect of a command on everything but the queue.
(DESIGN CHOICE, notes/assumptions/1.md.) -/
def exec (i : Instr) (s : State) : Host.Outcome State Fault Refusal :=
  match i with
  | .hostRead addr len crc taken => Sys2Proof.Machine.execHostRead addr len crc taken s
  | .hostRead4 addr len crc taken => Sys2Proof.Machine.execHostRead4 addr len crc taken s
  | .hostWrite addr len data crc => Sys2Proof.Machine.execHostWrite addr len data crc s
  | .hostWrite4 addr len data crc => Sys2Proof.Machine.execHostWrite4 addr len data crc s
  | .hostResetFrame addr len crc => Sys2Proof.Machine.execHostResetFrame addr len crc s
  | .unknownCommandFrame command => Sys2Proof.Machine.execUnknownCommandFrame command s
  | .hostFrameCutShort => Sys2Proof.Machine.execHostFrameCutShort s
  | .hostStatusTimeout addr => Sys2Proof.Machine.execHostStatusTimeout addr s
  | .registerWrite req addr value => Sys2Proof.Machine.execRegisterWrite req addr value s
  | .commitNextLap req page => Sys2Proof.Machine.execCommitNextLap req page s
  | .commitImmediate req page => Sys2Proof.Machine.execCommitImmediate req page s
  | .commitCancel req page => Sys2Proof.Machine.execCommitCancel req page s
  | .commitCheckEnd page => Sys2Proof.Machine.execCommitCheckEnd page s
  | .ctlRevert req page => Sys2Proof.Machine.execCtlRevert req page s
  | .ctlEnableWrite req page enable => Sys2Proof.Machine.execCtlEnableWrite req page enable s
  | .quiesceRequest req page qreq => Sys2Proof.Machine.execQuiesceRequest req page qreq s
  | .quiesceTimeout page => Sys2Proof.Machine.execQuiesceTimeout page s
  | .blockResetRequest req page => Sys2Proof.Machine.execBlockResetRequest req page s
  | .lockWrite req page => Sys2Proof.Machine.execLockWrite req page s
  | .cfgOwnerHandover req owner => Sys2Proof.Machine.execCfgOwnerHandover req owner s
  | .cfgOwnerReclaim owner => Sys2Proof.Machine.execCfgOwnerReclaim owner s
  | .imageSwitchRequest req imgB => Sys2Proof.Machine.execImageSwitchRequest req imgB s
  | .imageSwitchCancel req => Sys2Proof.Machine.execImageSwitchCancel req s
  | .imageSwitchCheckEnd => Sys2Proof.Machine.execImageSwitchCheckEnd s
  | .lapBoundary modT late => Sys2Proof.Machine.execLapBoundary modT late s
  | .lapEnable req modT => Sys2Proof.Machine.execLapEnable req modT s
  | .lapDisable req => Sys2Proof.Machine.execLapDisable req s
  | .slotStart bank ctx => Sys2Proof.Machine.execSlotStart bank ctx s
  | .burnoutCheckEnd bank ctx microvolts => Sys2Proof.Machine.execBurnoutCheckEnd bank ctx microvolts s
  | .senseCheckEnd bank ctx negative microvolts => Sys2Proof.Machine.execSenseCheckEnd bank ctx negative microvolts s
  | .settleEnd bank ctx => Sys2Proof.Machine.execSettleEnd bank ctx s
  | .sampleOut bank ctx code spareCode overload => Sys2Proof.Machine.execSampleOut bank ctx code spareCode overload s
  | .slotEnd bank ctx => Sys2Proof.Machine.execSlotEnd bank ctx s
  | .sourceCompliance bank ctx => Sys2Proof.Machine.execSourceCompliance bank ctx s
  | .excitationChange bank ctx elapsed absent => Sys2Proof.Machine.execExcitationChange bank ctx elapsed absent s
  | .bridgeOvercurrent bank => Sys2Proof.Machine.execBridgeOvercurrent bank s
  | .pinWindowFault bank pin => Sys2Proof.Machine.execPinWindowFault bank pin s
  | .recordFormation => Sys2Proof.Machine.execRecordFormation s
  | .testRecordStart req ch => Sys2Proof.Machine.execTestRecordStart req ch s
  | .referenceMonitorEnd dev01 dev02 dev12 rrdev => Sys2Proof.Machine.execReferenceMonitorEnd dev01 dev02 dev12 rrdev s
  | .referenceConversionEnd bank codes overload => Sys2Proof.Machine.execReferenceConversionEnd bank codes overload s
  | .overlapReferenceEnd bank liveSum spareSum => Sys2Proof.Machine.execOverlapReferenceEnd bank liveSum spareSum s
  | .reinstateChannel req ch => Sys2Proof.Machine.execReinstateChannel req ch s
  | .reinstateModulator req bank modulator => Sys2Proof.Machine.execReinstateModulator req bank modulator s
  | .reinstateReference req ref => Sys2Proof.Machine.execReinstateReference req ref s
  | .retireChannelCommand req ch => Sys2Proof.Machine.execRetireChannelCommand req ch s
  | .fieldCalStart req => Sys2Proof.Machine.execFieldCalStart req s
  | .fieldCalRunEnd measured conversionFault => Sys2Proof.Machine.execFieldCalRunEnd measured conversionFault s
  | .fieldCalAccept req => Sys2Proof.Machine.execFieldCalAccept req s
  | .fieldCalAbort req => Sys2Proof.Machine.execFieldCalAbort req s
  | .calStoreCopyVerified verified => Sys2Proof.Machine.execCalStoreCopyVerified verified s
  | .almEvaluation cycles => Sys2Proof.Machine.execAlmEvaluation cycles s
  | .lampFlashEdge => Sys2Proof.Machine.execLampFlashEdge s
  | .acknowledge req ctx => Sys2Proof.Machine.execAcknowledge req ctx s
  | .acknowledgeGroup req group => Sys2Proof.Machine.execAcknowledgeGroup req group s
  | .acknowledgeAll req => Sys2Proof.Machine.execAcknowledgeAll req s
  | .shelve req ctx => Sys2Proof.Machine.execShelve req ctx s
  | .unshelve req ctx => Sys2Proof.Machine.execUnshelve req ctx s
  | .outOfService req ctx => Sys2Proof.Machine.execOutOfService req ctx s
  | .returnToService req ctx => Sys2Proof.Machine.execReturnToService req ctx s
  | .latchReset req ctx => Sys2Proof.Machine.execLatchReset req ctx s
  | .silenceHorn req group => Sys2Proof.Machine.execSilenceHorn req group s
  | .resetFirstOut req group => Sys2Proof.Machine.execResetFirstOut req group s
  | .rescanCommand req => Sys2Proof.Machine.execRescanCommand req s
  | .clearFalseStarts req ctx => Sys2Proof.Machine.execClearFalseStarts req ctx s
  | .groupAckInput group => Sys2Proof.Machine.execGroupAckInput group s
  | .nqRelease req index => Sys2Proof.Machine.execNqRelease req index s
  | .callAcknowledge req cp => Sys2Proof.Machine.execCallAcknowledge req cp s
  | .dutyOffer req cp eng => Sys2Proof.Machine.execDutyOffer req cp eng s
  | .dutyConfirm req cp => Sys2Proof.Machine.execDutyConfirm req cp s
  | .offerCancel req => Sys2Proof.Machine.execOfferCancel req s
  | .personnelArm req => Sys2Proof.Machine.execPersonnelArm req s
  | .personnelDisarm req => Sys2Proof.Machine.execPersonnelDisarm req s
  | .personnelReset req => Sys2Proof.Machine.execPersonnelReset req s
  | .callPointAckInput cp => Sys2Proof.Machine.execCallPointAckInput cp s
  | .armPinChange rising => Sys2Proof.Machine.execArmPinChange rising s
  | .resetPinEdge watch => Sys2Proof.Machine.execResetPinEdge watch s
  | .offerTimeout => Sys2Proof.Machine.execOfferTimeout s
  | .callPointLost cp => Sys2Proof.Machine.execCallPointLost cp s
  | .demandSend => Sys2Proof.Machine.execDemandSend s
  | .demandStale nid => Sys2Proof.Machine.execDemandStale nid s
  | .readbackSample u rb tv saturated => Sys2Proof.Machine.execReadbackSample u rb tv saturated s
  | .loopWindowEnd u => Sys2Proof.Machine.execLoopWindowEnd u s
  | .loopSetWrite req u value => Sys2Proof.Machine.execLoopSetWrite req u value s
  | .stageThermal u celsius => Sys2Proof.Machine.execStageThermal u celsius s
  | .inputSample pin r => Sys2Proof.Machine.execInputSample pin r s
  | .outputTrip pin thermal => Sys2Proof.Machine.execOutputTrip pin thermal s
  | .outputRestart pin => Sys2Proof.Machine.execOutputRestart pin s
  | .wireBreakTest pin millivolts => Sys2Proof.Machine.execWireBreakTest pin millivolts s
  | .openLoadConfirm pin => Sys2Proof.Machine.execOpenLoadConfirm pin s
  | .extdrvConfirm pin => Sys2Proof.Machine.execExtdrvConfirm pin s
  | .disagreeConfirm pin => Sys2Proof.Machine.execDisagreeConfirm pin s
  | .outsetWrite req index value => Sys2Proof.Machine.execOutsetWrite req index value s
  | .vfieldMeasure millivolts die => Sys2Proof.Machine.execVfieldMeasure millivolts die s
  | .jacketDownstreamFrame => Sys2Proof.Machine.execJacketDownstreamFrame s
  | .jacketUpstreamFrame noise => Sys2Proof.Machine.execJacketUpstreamFrame noise s
  | .jacketFrameAtField noise => Sys2Proof.Machine.execJacketFrameAtField noise s
  | .jacketFrameMissing atField => Sys2Proof.Machine.execJacketFrameMissing atField s
  | .leaseSend => Sys2Proof.Machine.execLeaseSend s
  | .leaseReceived lane payload => Sys2Proof.Machine.execLeaseReceived lane payload s
  | .lapmarkReceived lane payload => Sys2Proof.Machine.execLapmarkReceived lane payload s
  | .excrepSend => Sys2Proof.Machine.execExcrepSend s
  | .excrepReceived lane payload => Sys2Proof.Machine.execExcrepReceived lane payload s
  | .digestReceived lane payload => Sys2Proof.Machine.execDigestReceived lane payload s
  | .digestWaitTimeout ch => Sys2Proof.Machine.execDigestWaitTimeout ch s
  | .mirrorEndReceived lane payload mirrors => Sys2Proof.Machine.execMirrorEndReceived lane payload mirrors s
  | .cmdfwdReceived lane payload => Sys2Proof.Machine.execCmdfwdReceived lane payload s
  | .cmdresReceived lane payload => Sys2Proof.Machine.execCmdresReceived lane payload s
  | .cmdresTimeout => Sys2Proof.Machine.execCmdresTimeout s
  | .cfgfwdReceived lane payloads => Sys2Proof.Machine.execCfgfwdReceived lane payloads s
  | .regaccReceived lane payload => Sys2Proof.Machine.execRegaccReceived lane payload s
  | .imageFrameReceived lane payload => Sys2Proof.Machine.execImageFrameReceived lane payload s
  | .evaldoneReceived lane payload => Sys2Proof.Machine.execEvaldoneReceived lane payload s
  | .evaldoneTimeout => Sys2Proof.Machine.execEvaldoneTimeout s
  | .laneDown lane => Sys2Proof.Machine.execLaneDown lane s
  | .uhlizFrameError lane => Sys2Proof.Machine.execUhlizFrameError lane s
  | .pairStartTimeout => Sys2Proof.Machine.execPairStartTimeout s
  | .takeover silent => Sys2Proof.Machine.execTakeover silent s
  | .partnerLost => Sys2Proof.Machine.execPartnerLost s
  | .batonRelease => Sys2Proof.Machine.execBatonRelease s
  | .plannedHandover req => Sys2Proof.Machine.execPlannedHandover req s
  | .resynchronise req => Sys2Proof.Machine.execResynchronise req s
  | .handoverOfferLapse => Sys2Proof.Machine.execHandoverOfferLapse s
  | .handoverNoClaim => Sys2Proof.Machine.execHandoverNoClaim s
  | .pairPresenceSend => Sys2Proof.Machine.execPairPresenceSend s
  | .canFrameReceived port frame age => Sys2Proof.Machine.execCanFrameReceived port frame age s
  | .txRequest req port buffer => Sys2Proof.Machine.execTxRequest req port buffer s
  | .txCancel req port buffer => Sys2Proof.Machine.execTxCancel req port buffer s
  | .txAttemptStart port => Sys2Proof.Machine.execTxAttemptStart port s
  | .txAttemptEnd port outcome delay => Sys2Proof.Machine.execTxAttemptEnd port outcome delay s
  | .busError port kind code dataPhase => Sys2Proof.Machine.execBusError port kind code dataPhase s
  | .soloPauseEnd port => Sys2Proof.Machine.execSoloPauseEnd port s
  | .busRecover req port => Sys2Proof.Machine.execBusRecover req port s
  | .busRecoveryComplete port => Sys2Proof.Machine.execBusRecoveryComplete port s
  | .integrationComplete port => Sys2Proof.Machine.execIntegrationComplete port s
  | .rxRelease req port queue index => Sys2Proof.Machine.execRxRelease req port queue index s
  | .busWake port => Sys2Proof.Machine.execBusWake port s
  | .notificationConsume => Sys2Proof.Machine.execNotificationConsume s
  | .tmlFrameAccept port queue => Sys2Proof.Machine.execTmlFrameAccept port queue s
  | .commandMessage => Sys2Proof.Machine.execCommandMessage s
  | .unknownBlockCommand => Sys2Proof.Machine.execUnknownBlockCommand s
  | .callAckMessage => Sys2Proof.Machine.execCallAckMessage s
  | .cpPresenceMessage => Sys2Proof.Machine.execCpPresenceMessage s
  | .demandMessage => Sys2Proof.Machine.execDemandMessage s
  | .pairPresenceMessage => Sys2Proof.Machine.execPairPresenceMessage s
  | .regReqFragment => Sys2Proof.Machine.execRegReqFragment s
  | .regReqTimeout source => Sys2Proof.Machine.execRegReqTimeout source s
  | .healthSend => Sys2Proof.Machine.execHealthSend s
  | .pairStatusSend => Sys2Proof.Machine.execPairStatusSend s
  | .callMessageSend => Sys2Proof.Machine.execCallMessageSend s
  | .syncSend => Sys2Proof.Machine.execSyncSend s
  | .followUpSend => Sys2Proof.Machine.execFollowUpSend s
  | .syncPairReceived => Sys2Proof.Machine.execSyncPairReceived s
  | .timeHoldover => Sys2Proof.Machine.execTimeHoldover s
  | .timeSetCommand req => Sys2Proof.Machine.execTimeSetCommand req s
  | .sramInitDone kept => Sys2Proof.Machine.execSramInitDone kept s
  | .scrubStep finding => Sys2Proof.Machine.execScrubStep finding s
  | .dmaStart req stream => Sys2Proof.Machine.execDmaStart req stream s
  | .dmaRestart req stream => Sys2Proof.Machine.execDmaRestart req stream s
  | .dmaAbort req stream => Sys2Proof.Machine.execDmaAbort req stream s
  | .dmaBurstEnd => Sys2Proof.Machine.execDmaBurstEnd s
  | .resultRingRelease req index => Sys2Proof.Machine.execResultRingRelease req index s
  | .nvmProgram req => Sys2Proof.Machine.execNvmProgram req s
  | .nvmErase req => Sys2Proof.Machine.execNvmErase req s
  | .nvmCrc req => Sys2Proof.Machine.execNvmCrc req s
  | .nvmAbort req => Sys2Proof.Machine.execNvmAbort req s
  | .nvmCommandEnd taken => Sys2Proof.Machine.execNvmCommandEnd taken s
  | .newLeg req => Sys2Proof.Machine.execNewLeg req s
  | .histogramClear req arg => Sys2Proof.Machine.execHistogramClear req arg s
  | .archiveAcknowledge req => Sys2Proof.Machine.execArchiveAcknowledge req s
  | .clearLog req => Sys2Proof.Machine.execClearLog req s
  | .writeRecord req => Sys2Proof.Machine.execWriteRecord req s
  | .captureBase req => Sys2Proof.Machine.execCaptureBase req s
  | .hselWrite req ch => Sys2Proof.Machine.execHselWrite req ch s
  | .baseVerified verified => Sys2Proof.Machine.execBaseVerified verified s
  | .stagedRecordProgram taken => Sys2Proof.Machine.execStagedRecordProgram taken s
  | .tokenRefill cls => Sys2Proof.Machine.execTokenRefill cls s
  | .summaryInterval cls => Sys2Proof.Machine.execSummaryInterval cls s
  | .rtcSecondCarry => Sys2Proof.Machine.execRtcSecondCarry s
  | .rtcTimeRead req index => Sys2Proof.Machine.execRtcTimeRead req index s
  | .rtcFreezeTimeout req => Sys2Proof.Machine.execRtcFreezeTimeout req s
  | .rtcSet req => Sys2Proof.Machine.execRtcSet req s
  | .rtcAdd1h req => Sys2Proof.Machine.execRtcAdd1h req s
  | .rtcSub1h req => Sys2Proof.Machine.execRtcSub1h req s
  | .rtcShift req back n => Sys2Proof.Machine.execRtcShift req back n s
  | .rtcReleaseFreeze req => Sys2Proof.Machine.execRtcReleaseFreeze req s
  | .pacerStop => Sys2Proof.Machine.execPacerStop s
  | .pacerRecovered => Sys2Proof.Machine.execPacerRecovered s
  | .bkpPowerUp => Sys2Proof.Machine.execBkpPowerUp s
  | .vbatLow => Sys2Proof.Machine.execVbatLow s
  | .keyLoad req slot => Sys2Proof.Machine.execKeyLoad req slot s
  | .keyClear req slot => Sys2Proof.Machine.execKeyClear req slot s
  | .vaultErase req => Sys2Proof.Machine.execVaultErase req s
  | .identityGenerate req => Sys2Proof.Machine.execIdentityGenerate req s
  | .attest req => Sys2Proof.Machine.execAttest req s
  | .attestDone => Sys2Proof.Machine.execAttestDone s
  | .verifyImageA req => Sys2Proof.Machine.execVerifyImageA req s
  | .verifyImageB req => Sys2Proof.Machine.execVerifyImageB req s
  | .imageVerifyEnd => Sys2Proof.Machine.execImageVerifyEnd s
  | .tamperDetect source present => Sys2Proof.Machine.execTamperDetect source present s
  | .securityAlarmClear req => Sys2Proof.Machine.execSecurityAlarmClear req s
  | .vmonSample millivolts => Sys2Proof.Machine.execVmonSample millivolts s
  | .coreRailWarning present => Sys2Proof.Machine.execCoreRailWarning present s
  | .stowCommand req => Sys2Proof.Machine.execStowCommand req s
  | .coreStateSaved => Sys2Proof.Machine.execCoreStateSaved s
  | .restoration => Sys2Proof.Machine.execRestoration s
  | .vddaLow => Sys2Proof.Machine.execVddaLow s
  | .vddaRecover => Sys2Proof.Machine.execVddaRecover s
  | .domainPowerGoodTimeout domain => Sys2Proof.Machine.execDomainPowerGoodTimeout domain s
  | .governorCheck milliwatts => Sys2Proof.Machine.execGovernorCheck milliwatts s
  | .clockFailure pll => Sys2Proof.Machine.execClockFailure pll s
  | .apllUnlock locked => Sys2Proof.Machine.execApllUnlock locked s
  | .pacerCalibration ppb => Sys2Proof.Machine.execPacerCalibration ppb s
  | .dozeEntry => Sys2Proof.Machine.execDozeEntry s
  | .napEntry => Sys2Proof.Machine.execNapEntry s
  | .lapWake late => Sys2Proof.Machine.execLapWake late s
  | .wakeEvent source => Sys2Proof.Machine.execWakeEvent source s
  | .powerOnReset => Sys2Proof.Machine.execPowerOnReset s
  | .brownOut vddio => Sys2Proof.Machine.execBrownOut vddio s
  | .rstnPin => Sys2Proof.Machine.execRstnPin s
  | .sequenceViolation => Sys2Proof.Machine.execSequenceViolation s
  | .supervisorTrip => Sys2Proof.Machine.execSupervisorTrip s
  | .nodeResetCommand req => Sys2Proof.Machine.execNodeResetCommand req s
  | .fullResetCommand req => Sys2Proof.Machine.execFullResetCommand req s
  | .domainResetCommand req domain => Sys2Proof.Machine.execDomainResetCommand req domain s
  | .resetRelease good => Sys2Proof.Machine.execResetRelease good s
  | .releaseRetry good => Sys2Proof.Machine.execReleaseRetry good s
  | .jtagBypass => Sys2Proof.Machine.execJtagBypass s
  | .jtagIdcode => Sys2Proof.Machine.execJtagIdcode s
  | .jtagSamplePreload sample preload => Sys2Proof.Machine.execJtagSamplePreload sample preload s
  | .jtagExtest => Sys2Proof.Machine.execJtagExtest s
  | .jtagTapReset => Sys2Proof.Machine.execJtagTapReset s
  | .mainPhaseStart bank ctx => Sys2Proof.Machine.execMainPhaseStart bank ctx s
  | .outputFlagClear pin flag => Sys2Proof.Machine.execOutputFlagClear pin flag s
  | .operatingTimeStuck => Sys2Proof.Machine.execOperatingTimeStuck s

end Sys2Proof.Machine
end

