-- ==== Sys2Proof/Machine/Tick.lean ====
section
/-!
DEFINITION. What one microsecond brings when no command waits: the clocks of the node (R378, R469, R517, R537, R538), and work
that waited for time or for idle blocks (R393, R398, R494, R551).
-/

namespace Sys2Proof.Machine

/-- STIME and its fraction moved on by an amount in 2^-32 · 10^-9 µs. -/
def State.stimeBy (s : State) (n : Nat) : State :=
  let x := s.stimeFrac + n
  { s with stime := (s.stime + x / (2 ^ 32 * 10 ^ 9)) % 2 ^ 64, stimeFrac := x % (2 ^ 32 * 10 ^ 9) }

/-- Whether the HFXO runs (R514, R536). -/
def State.hfxoRuns (s : State) : Bool := decide (s.rd PWR.STAT.state < 2) && !s.rst.hfxoLost

/-- STIME in one µs of the HFXO (R406, R537). -/
def State.stimeMicro (s : State) : State := s.stimeBy ((10 ^ 9 + s.rdInt TSYNC.ADJ.ppb).toNat * 2 ^ 32)

/-- STIME at a pacer tick while the HFXO is stopped; the fraction is kept to 2^-32 µs (R537). -/
def State.stimePacer (s : State) : State :=
  let r := if s.flag RTC.STAT.rcfb then 0 else s.rdInt CLK.PACERCAL.ppb
  let s1 := s.stimeBy ((10 ^ 9 + r).toNat * 10 ^ 6 * 2 ^ 17)
  { s1 with stimeFrac := s1.stimeFrac / 10 ^ 9 * 10 ^ 9 }

/-- A pacer tick: RTC (R469), and STIME in Nap and Stow. -/
def State.pacerEdge (s : State) : State :=
  let s1 := if s.domainOn .aon && !s.hfxoRuns then s.stimePacer else s
  s1.pacerTick.rtcWake

/-- One µs of the pacer, which makes 32,768 ticks in 10^6 µs.
(DESIGN CHOICE, notes/assumptions/2.md.) -/
def State.pacerMicro (s : State) : State :=
  let x := s.pacerFrac + 32768
  let s1 := { s with pacerFrac := x % 10 ^ 6 }
  if x ≥ 10 ^ 6 then s1.pacerEdge else s1

/-- Bits of the SRAM and of the store may have turned over in this ms (R417, R435): whether, where, and beyond correction or not is
open.
(DESIGN CHOICE, notes/assumptions/86.md.) -/
def State.bitErrors (s : State) : State :=
  let (x, s1) := s.draw
  let (y, s2) := s1.draw
  let word := sramWord sramBase + x / 4 % 524288
  let block := y / 4 % 1048576
  let s3 := match x % 4 with
    | 1 => if s2.sramBad.contains word then s2 else { s2 with sramWeak := addTo s2.sramWeak word }
    | 2 => { s2 with sramBad := addTo s2.sramBad word, sramWeak := dropFrom s2.sramWeak word }
    | _ => s2
  match y % 4 with
  | 1 => if s3.nvm.bad.contains block then s3 else { s3 with nvm := { s3.nvm with weak := addTo s3.nvm.weak block } }
  | 2 => { s3 with nvm := { s3.nvm with bad := addTo s3.nvm.bad block, weak := dropFrom s3.nvm.weak block } }
  | _ => s3

/-- REC's page program in progress comes to its end (R467). -/
def State.recMicro (s : State) : State :=
  if s.recorder.finishing = 0 then s else { s with recorder := { s.recorder with finishing := s.recorder.finishing - 1 } }

/-- One µs of the operating time (R517). -/
def State.optimeMicro (s : State) : State :=
  if s.optimeFrac + 1 < 1000 then { s with optimeFrac := s.optimeFrac + 1 }
  else (({ s with optimeFrac := 0 }.countMs).authWindow.tamperSample).vbatSample.bitErrors

/-- The TSC of each port (R378). -/
def State.tscMicro (s : State) : State :=
  s.each (List.range s.variant.ports) fun st n => st.wr (BUS.TSC.us n) (st.rd (BUS.TSC.us n) + 1)

/-- Sequences of recessive bits that recovering ports may have counted (R365): how many the bus brought in this µs is open.
(DESIGN CHOICE, notes/assumptions/44.md.) -/
def State.recoverMicro (s : State) : State :=
  s.each (s.portList.filter fun n => s.alive (0x30 + n) && s.portMode n == 5 && decide (s.rd (BUS.STATE.recov n) < 127)) fun st n =>
    let (x, t) := st.draw
    t.wr (BUS.STATE.recov n) (t.rd (BUS.STATE.recov n) + x % 2)

/-- The lap timer, which Stow and a reset stop (R537, R544, R557).
(DESIGN CHOICE, notes/assumptions/30.md.) -/
def State.lapMicro (s : State) : State :=
  if s.powered 4 && decide (s.rd PWR.STAT.state < 3) then { s with lap := { s.lap with timer := s.lap.timer + 1 } } else s

/-- An erase that runs comes to its end (R494). -/
def State.eraseMicro (s : State) : State :=
  match s.sec.erasing with
  | 0 => s
  | 1 => (s.modSec fun x => { x with erasing := 0 }).wr TAMP.STAT.erasing 0
  | n + 2 => s.modSec fun x => { x with erasing := n + 1 }

/-- Work that waited: frames of the Uhliz link have left, resets whose blocks have become idle go on, work ends Doze, results of commands
are sent, messages are formed and loaded.
(DESIGN CHOICE, notes/assumptions/2.md.) -/
def State.waitingWork (s : State) : State :=
  let s1 := ({ s with pair := { s.pair with sent := [] } }).recMicro.goRestore.proceedResets.skipEvaluation.leaveDoze
  if s1.working 0x34 then ((s1.sendResults).formWaiting).pump else s1

/-- The field time (R312), which runs while DIO is powered. -/
def State.fieldMicro (s : State) : State :=
  if s.domainOn .dio then s.modJkt fun j => { j with time := (j.time + 1) % 2 ^ 32 } else s

/-- One µs passes (notes/assumptions/2.md). -/
def State.tick (s : State) : State :=
  let s2 := (s.fieldMicro.eraseMicro).pacerMicro
  if s2.domainOn .aon then
    let s3 := (s2.optimeMicro).lapMicro
    let s4 := if s3.hfxoRuns then ((s3.stimeMicro).tscMicro).recoverMicro else s3
    s4.waitingWork
  else s2

end Sys2Proof.Machine
end

