-- ==== Sys2Proof/Machine/Step.lean ====
section
/-!
DEFINITION. One step of the node: the command at the front of the queue is taken and has its effect; with none waiting, one µs
passes.
-/

namespace Sys2Proof.Machine

/-- The step: the oldest waiting command is taken from the queue and executed; with none waiting one µs passes.
(DESIGN CHOICE, notes/assumptions/1.md.) -/
def step (s : State) : Host.Outcome State Fault Refusal :=
  match s.pending with
  | [] => .next s.tick
  | c :: rest => exec c { s with pending := rest }

/-- The command that a word of the opcode table spells is put at the front of the queue; no row of the table has bits, so no
word spells one.
(DESIGN CHOICE, notes/assumptions/7.md.) -/
def State.withFetchWord (s : State) (nbits w : Nat) : State :=
  match decodeTableWord nbits w with
  | some c => { s with pending := c :: s.pending }
  | none => s

end Sys2Proof.Machine
end

