-- ==== Sys2Proof/Safety.lean ====
section
/-!
DEFINITION. What claims call a well-kept state and a safe run: sparse maps in their canonical form, straps as sampled, and steps
that never stop.
-/

namespace Sys2Proof.Machine

/-- The register words and the three copies of the configuration are in canonical form. -/
def State.wordsCanonical (s : State) : Prop :=
  Sparse.wf resetWord s.regs = true ∧ Sparse.wf resetWord s.live = true ∧ Sparse.wf resetWord s.shadow = true ∧
    Sparse.wf resetWord s.mirror = true

/-- The two memories are in canonical form: SRAM reads 0 where nothing is listed (R420), the store 0xFF (R437). -/
def State.memoryCanonical (s : State) : Prop := Memory.wf 0 s.sram = true ∧ Memory.wf 0xFF s.store = true

/-- Every sparse map of the state is in canonical form, so that equal contents are equal data. -/
def State.canonical (s : State) : Prop := s.wordsCanonical ∧ s.memoryCanonical

/-- The parts of the state, by the field that holds them, and zones of the register words: of page `n` all but the header (of a
table all), the word at an offset of the header on every page, and of the pages from `lo` up to `hi` all but the headers (of tables
all). `switched` is the pages of the domains that can be switched off, with the tables, and `regs` all of the register words. -/
inductive Part where
  | straps | regs | live | shadow | mirror | dirty | locked | immediate | latched | status | response | responseCrc | freeCount
  | stime | stimeFrac | optimeFrac | pacerFrac | sram | sramBad | sramWeak | store | terms | arith | afe | cal
  | recorder | nvm | dma | pwr | rst | lap | rtc | alarm | call | loops | jkt | pair | ports | msg | tsync | sec | jtag
  | switchTo | pending
  | page (n : Nat) | head (off : Nat) | pages (lo hi : Nat) | switched
  deriving DecidableEq, Repr

/-- Whether a zone takes in a register word. -/
def Part.covers : Part → Nat → Bool
  | .regs, _ => true
  | .page n, a => a / 0x1000 == n && (decide (0x40 ≤ a % 0x1000) || decide (0x100 ≤ n))
  | .head off, a => a % 0x1000 == off
  | .pages lo hi, a => decide (lo ≤ a / 0x1000) && decide (a / 0x1000 < hi) && (decide (0x40 ≤ a % 0x1000) || decide (0x100 ≤ lo))
  | .switched, a => decide (0x100000 ≤ a) || (pageDomain (a / 0x1000) != .aon && pageDomain (a / 0x1000) != .bkp)
  | _, _ => false

/-- Two states agree in a part. -/
def Part.same : Part → State → State → Prop
  | .straps, s, t => t.straps = s.straps
  | .live, s, t => t.live = s.live
  | .shadow, s, t => t.shadow = s.shadow
  | .mirror, s, t => t.mirror = s.mirror
  | .dirty, s, t => t.dirty = s.dirty
  | .locked, s, t => t.locked = s.locked
  | .immediate, s, t => t.immediate = s.immediate
  | .latched, s, t => t.latched = s.latched
  | .status, s, t => t.status = s.status
  | .response, s, t => t.response = s.response
  | .responseCrc, s, t => t.responseCrc = s.responseCrc
  | .freeCount, s, t => t.freeCount = s.freeCount
  | .stime, s, t => t.stime = s.stime
  | .stimeFrac, s, t => t.stimeFrac = s.stimeFrac
  | .optimeFrac, s, t => t.optimeFrac = s.optimeFrac
  | .pacerFrac, s, t => t.pacerFrac = s.pacerFrac
  | .sram, s, t => t.sram = s.sram
  | .sramBad, s, t => t.sramBad = s.sramBad
  | .sramWeak, s, t => t.sramWeak = s.sramWeak
  | .store, s, t => t.store = s.store
  | .terms, s, t => t.terms = s.terms
  | .arith, s, t => t.arith = s.arith
  | .afe, s, t => t.afe = s.afe
  | .cal, s, t => t.cal = s.cal
  | .recorder, s, t => t.recorder = s.recorder
  | .nvm, s, t => t.nvm = s.nvm
  | .dma, s, t => t.dma = s.dma
  | .pwr, s, t => t.pwr = s.pwr
  | .rst, s, t => t.rst = s.rst
  | .lap, s, t => t.lap = s.lap
  | .rtc, s, t => t.rtc = s.rtc
  | .alarm, s, t => t.alarm = s.alarm
  | .call, s, t => t.call = s.call
  | .loops, s, t => t.loops = s.loops
  | .jkt, s, t => t.jkt = s.jkt
  | .pair, s, t => t.pair = s.pair
  | .ports, s, t => t.ports = s.ports
  | .msg, s, t => t.msg = s.msg
  | .tsync, s, t => t.tsync = s.tsync
  | .sec, s, t => t.sec = s.sec
  | .jtag, s, t => t.jtag = s.jtag
  | .switchTo, s, t => t.switchTo = s.switchTo
  | .pending, s, t => t.pending = s.pending
  | _, _, _ => True

/-- A later state differs from an earlier one in no part but those listed, and in no register word outside the zones listed. -/
def onlyChanges (l : List Part) (s t : State) : Prop :=
  (∀ p : Part, p ∉ l → p.same s t) ∧ ∀ a, (∀ p ∈ l, p.covers a = false) → t.wordAt false a = s.wordAt false a

/-- A command of a requester reaches a register of a page, and nothing that comes before the register's own rule refuses it (R39,
R71, R73). -/
def State.admits (s : State) (q : Requester) (p : Nat) : Prop := s.reachable q = true ∧ s.writeStatus q p = .ok

/-- What a command on alarm contexts or groups may change: its block, the contexts and groups, the notification queue and its stream, and the
records that it makes. -/
def alarmParts : List Part :=
  [.page 0x01, .status, .page 0x20, .alarm, .pages 0x120 0x130, .head 0x14, .page 0x130, .dma, .head 0x24, .page 0x42, .head 0x20, .page 0x41,
    .page 0x40, .sram, .sramBad, .sramWeak, .recorder, .page 0x49, .msg, .page 0x178]

/-- What a command of CALL may change: its block, its state, its interrupts and faults, and the alarm state that its failures make. -/
def callParts : List Part := [.page 0x01, .status, .page 0x28, .call, .head 0x14, .head 0x24, .head 0x20, .alarm]

/-- A command answers a next state of which something holds. -/
def answers (c : Instr) (s : State) (post : State → Prop) : Prop := ∃ t, exec c s = .next t ∧ post t

/-- Fields with the reset values that the register tables of the spec give them (R76, R158, R204, R252, R272, R293, R322, R358, R411, R414, R442, R446, R448,
R466, R483, R484, R502, R503, R533, R561, R562, R563, R568). -/
def resetValues : List (Ref × Nat) :=
  [(HOST.CFG.faultn_en, 1), (ARITH.CFG.covk, 0x2000), (ARITH.CFG.mod_u, 200), (CAL.CFG.persist, 10), (CAL.CFG.ovl_ppm, 20), (CAL.CFG.gstep, 20), (CAL.CFG.sigmax, 16), (CAL.CFG2.stale_s, 900)] ++
  [(CAL.CFG2.dfloor, 1000), (CAL.CFG3.rrfail_u, 100), (CAL.CFG3.drift_log, 5), (ALM.CFG.flood_quiet, 10), (ALM.CFG.flood_on, 64), (ALM.CFG.flood_off, 16), (CALL.CFG.call_cat, 3), (CALL.CFG.master, 1)] ++
  [(CALL.CFG.cp_timeout, 10), (CALL.CFG.officer_pin, 0x3F), (CALL.TIMES.t1, 120), (CALL.TIMES.t2, 300), (CALL.TIMES2.t3, 600), (CALL.TIMES2.relay_to, 60), (CALL.PERS.interval, 1620), (CALL.PERS2.prewarn, 180)] ++
  [(UIO.CFG.win, 10), (UIO.CFG.settle_ms, 5), (UIO.CFG.fault_ms, 50), (DIO.CFG.ext_ms, 2), (DIO.CFG.ol_ma, 20), (PAIR.CFG.margin, 32), (PAIR.CFG.xchk_n, 8), (PAIR.CFG2.start_ms, 500)] ++
  [(PAIR.STAT.role, 1), (PAIR.LEASEAGE.age, 0xFFFF), (MSG.CFG.valdiv, 1), (MSG.AUTHCFG.fwin, 1000), (MSG.KEYSEL.operator, 1), (MSG.KEYSEL.engineer, 2), (MSG.KEYSEL.service, 3), (MSG.KEYSEL.vendor, 4)] ++
  [(TSYNC.CFG.sync_ms, 250), (TSYNC.CFG.loss_s, 3), (TSYNC.CFG2.step_us, 1000), (MEM.SCRUBCFG.en, 1), (MEM.SCRUBCFG.pass_s, 60), (DMA.CFG.rr_n, 10), (NVM.CFG.defer, 1), (REC.CFG.snap_s, 600)] ++
  [(REC.CFG.snap_min_s, 300), (REC.CFG2.rec_pages, 8), (REC.CFG2.summ_s, 60), (REC.CFG2.rec_ms, 1000), (REC.LOGSTART.offset, 0x400000), (REC.LOGEND.offset, 0x400020), (RTC.STAT.osf, 1), (BKPM.STAT.lost, 1)] ++
  [(KEYV.CMDEN.load_en, 1), (TAMP.POLICY.policy, 0x2683), (PWR.CFG.vmon_en, 1), (PWR.CFG.vmon_nom, 2000), (PWR.CFG.hyst, 3), (PWR.CFG.dwell, 10), (PWR.SHEDTHR.shed1, 90), (PWR.SHEDTHR.shed2, 80)] ++
  [(PWR.SHEDTHR.shed3, 70), (PWR.SHEDTHR.shed4, 60), (PWR.DOMREQ.req, 0xFF), (PWR.GOVLIM.mw, 10000), (RST.CFG.sup_en, 1), (RST.CFG.sup_s, 10), (LAP.PERIOD.period_ms, 100), (LAP.CFG.lead, 30)] ++
  [(DBG.JTAGCFG.jtag_en, 1), (SYS.IMGLAP.lap, 0xFFFFFFFF)]

end Sys2Proof.Machine
end

