-- ==== Sys2Proof/Certificates/Slice0/Obligations.lean ====
section
/-!
DEFINITION. The statements for the provers: what the node does with each command, what each leaves as it was, and what every step keeps.
A clause `answers c s post` says that command `c` at state `s` answers a next state of which `post` holds.
-/

open Sys2Proof Sys2Proof.Machine

/-! ### The machine -/

/-- One step takes the command at the front of the queue and runs it with the rest of the queue; with none waiting one µs passes. -/
def Obligations.StepRunsTheFrontCommand : Prop :=
  (∀ (s : State) (c : Instr) (l : List Instr), step { s with pending := c :: l } = exec c { s with pending := l }) ∧
    ∀ s : State, s.pending = [] → step s = .next s.tick

/-- Every step from a state whose register words, configuration copies and memories are in canonical form ends in such a state. -/
def Obligations.EveryStepKeepsTheMapsCanonical : Prop := ∀ s t : State, s.canonical → step s = .next t → t.canonical

/-- No step but the release of a full reset changes the straps as sampled, none changes the variant and the levels at the strap pins, and every
step takes just the front of the queue. -/
def Obligations.EveryStepKeepsStrapsAndTheQueue : Prop :=
  ∀ s t : State, step s = .next t → t.straps.variant = s.straps.variant ∧ t.straps.pins = s.straps.pins ∧
    t.pending = s.pending.tail ∧
    (t.straps = s.straps ∨ (∃ n : Nat, s.pending.head? = some (.resetRelease n)) ∧ s.rst.reach = 0 ∧ s.rst.asserted ≠ [] ∧ s.rst.sequenceHold = false)

/-- Every command answers a next state, whatever the state: ordinary data never ends a run. -/
def Obligations.EveryCommandAnswersAState : Prop := ∀ (s : State) (c : Instr), ∃ t, exec c s = .next t

/-! ### The host port -/

/-- A host frame that arrives with its CRC right writes the SCRATCH register of any page that answers, in single or quad width, and a
READ of it returns the stored bytes, least significant first; each counts in HOST.FRAMES and answers OK, with the node's CRC over the status byte
and the data. -/
def Obligations.HostFramesWriteAndReadScratch : Prop :=
  ∀ (s : State) (p : Nat) (v : Word) (crc taken : Nat), s.canonical → s.alive 0x60 = true → s.alive p = true →
    (crc % 65536 = crc16 (frameBytes 0x02 (0x1000 * p + 0x3C) 4 (wordBytes v)) →
      answers (.hostWrite (0x1000 * p + 0x3C) 4 (wordBytes v) crc) s fun t =>
        t.status = 0 ∧ t.responseCrc = crc16 (bytesLE 1 t.status ++ t.response) ∧ t.response = [] ∧ t.rd (HDR.SCRATCH p) = v.toNat ∧ t.rd HOST.FRAMES.count = (s.rd HOST.FRAMES.count + 1) % 2 ^ 32 ∧
          onlyChanges [.status, .response, .responseCrc, .page 0x01, .head 0x3C, .page 0x60] s t) ∧
    (crc % 65536 = crc16 (frameBytes 0x32 (0x1000 * p + 0x3C) 4 (wordBytes v)) →
      answers (.hostWrite4 (0x1000 * p + 0x3C) 4 (wordBytes v) crc) s fun t =>
        t.status = 0 ∧ t.responseCrc = crc16 (bytesLE 1 t.status ++ t.response) ∧ t.response = [] ∧ t.rd (HDR.SCRATCH p) = v.toNat ∧ t.rd HOST.FRAMES.count = (s.rd HOST.FRAMES.count + 1) % 2 ^ 32 ∧
          onlyChanges [.status, .response, .responseCrc, .page 0x01, .head 0x3C, .page 0x60] s t) ∧
    (crc % 65536 = crc16 (frameBytes 0x0B (0x1000 * p + 0x3C) 4 []) →
      answers (.hostRead (0x1000 * p + 0x3C) 4 crc taken) s fun t =>
        t.status = 0 ∧ t.responseCrc = crc16 (bytesLE 1 t.status ++ t.response) ∧ t.response = bytesLE 4 (s.rd (HDR.SCRATCH p)) ∧ t.rd HOST.FRAMES.count = (s.rd HOST.FRAMES.count + 1) % 2 ^ 32 ∧
          onlyChanges [.status, .response, .responseCrc, .page 0x01, .page 0x60] s t) ∧
    (crc % 65536 = crc16 (frameBytes 0xEB (0x1000 * p + 0x3C) 4 []) →
      answers (.hostRead4 (0x1000 * p + 0x3C) 4 crc taken) s fun t =>
        t.status = 0 ∧ t.responseCrc = crc16 (bytesLE 1 t.status ++ t.response) ∧ t.response = bytesLE 4 (s.rd (HDR.SCRATCH p)) ∧ t.rd HOST.FRAMES.count = (s.rd HOST.FRAMES.count + 1) % 2 ^ 32 ∧
          onlyChanges [.status, .response, .responseCrc, .page 0x01, .page 0x60] s t)

/-- Frames that the host port refuses: an unknown command answers CMD without a CRC check, a wrong CRC answers CRC and counts, a status
that is late answers TIMEOUT and leaves status and address in LASTERR and LASTADDR, and a frame cut short answers nothing. -/
def Obligations.HostRefusesBadFrames : Prop :=
  ∀ s : State, s.canonical → s.alive 0x60 = true →
    (∀ c : Byte, c ≠ 0x0B → c ≠ 0xEB → c ≠ 0x02 → c ≠ 0x32 → c ≠ 0x99 → answers (.unknownCommandFrame c) s fun t =>
      t.status = 0x0E ∧ t.response = [] ∧ t.rd HOST.LASTERR.status = 0x0E ∧ onlyChanges [.status, .response, .responseCrc, .page 0x01, .page 0x60] s t) ∧
    (∀ a n crc taken : Nat, crc % 65536 ≠ crc16 (frameBytes 0x0B (a % 2 ^ 32) (n % 65536) []) → answers (.hostRead a n crc taken) s fun t =>
      t.status = 0x01 ∧ t.response = [] ∧ t.rd HOST.CRCERR.count = min (s.rd HOST.CRCERR.count + 1) (2 ^ 32 - 1) ∧
        onlyChanges [.status, .response, .responseCrc, .page 0x01, .page 0x60] s t) ∧
    (∀ a : Nat, answers (.hostStatusTimeout a) s fun t =>
      t.status = 0x0D ∧ t.rd HOST.LASTERR.status = 0x0D ∧ t.rd HOST.LASTADDR.addr = a % 2 ^ 32 ∧
        onlyChanges [.status, .response, .responseCrc, .page 0x01, .page 0x60] s t) ∧
    answers .hostFrameCutShort s fun t =>
      t.status = s.status ∧ t.response = s.response ∧ (s.rd PWR.STAT.state = 1 → t.rd PWR.STAT.state = 0) ∧ onlyChanges [.page 0x01] s t

/-- A RESET frame with the address 0xC0DE, length 0 and the right CRC answers OK and asserts the host-port reset, which holds every page of
the domains but AON and BKP; a wrong address answers CMD and resets nothing. -/
def Obligations.HostResetFrameResetsTheNode : Prop :=
  ∀ (s : State) (crc : Nat), s.canonical → s.alive 0x60 = true →
    (crc % 65536 = crc16 (frameBytes 0x99 0xC0DE 0 []) → answers (.hostResetFrame 0xC0DE 0 crc) s fun t =>
      t.status = 0 ∧ 9 ∈ t.rst.asserted ∧
        ∀ (d : Domain) (p : Nat), d ≠ .bkp → d ≠ .aon → p ∈ s.pagesOf d → p ∈ t.rst.held) ∧
    (∀ a n : Nat, a % 2 ^ 32 ≠ 0xC0DE → crc % 65536 = crc16 (frameBytes 0x99 (a % 2 ^ 32) (n % 65536) []) →
      answers (.hostResetFrame a n crc) s fun t =>
        t.status = 0x0E ∧ t.rd HOST.LASTERR.status = 0x0E ∧ t.rst = s.rst ∧ onlyChanges [.status, .response, .responseCrc, .page 0x01, .page 0x60] s t)

/-! ### The page header and the configuration -/

/-- A write of one word: any requester that is admitted stores SCRATCH; the owner stores a configuration word in the shadow alone, and
marks the page dirty (STAT.shadow_dirty), unless its commit is checking or pending (BUSY); another than the owner gets NOT_OWNER. -/
def Obligations.RegisterWriteStoresTheWord : Prop :=
  ∀ (s : State) (q : Requester) (p off : Nat) (v : Word), s.canonical → s.admits q p →
    answers (.registerWrite q (0x1000 * p + 0x3C) v) s (fun t =>
      t.status = 0 ∧ t.rd (HDR.SCRATCH p) = v.toNat ∧ onlyChanges [.status, .response, .responseCrc, .page 0x01, .head 0x3C] s t) ∧
    (0x40 ≤ off → off < 0x800 → off % 4 = 0 → cfgMask (0x1000 * p + off) ≠ 0 → wordAbsent s.variant (0x1000 * p + off) = false →
      ((rowAt? p off).map RegRow.rwl).getD 0 = 0 → p ≠ 0x59 → 0x1000 * p + off ≠ 0x100BC →
      answers (.registerWrite q (0x1000 * p + off) v) s fun t =>
        (s.isOwner q = false → t.status = 0x05 ∧ onlyChanges [.status, .response, .responseCrc, .page 0x01] s t) ∧
        (s.isOwner q = true → s.committing p = true → t.status = 0x07 ∧ onlyChanges [.status, .response, .responseCrc, .page 0x01] s t) ∧
        (s.isOwner q = true → s.committing p = false → t.status = 0 ∧ p ∈ t.dirty ∧
          Sparse.get resetWord t.shadow (0x1000 * p + off) =
            v &&& BitVec.ofNat 32 (cfgMask (0x1000 * p + off) &&& variantMask s.variant (0x1000 * p + off)) ∧
          (∀ a, a ≠ 0x1000 * p + off → Sparse.get resetWord t.shadow a = Sparse.get resetWord s.shadow a) ∧
          onlyChanges [.status, .response, .responseCrc, .page 0x01, .shadow, .dirty] s t))

/-- The keys of COMMIT: 0xC0A1 starts a check that waits for the next boundary, 0xC0A2 an immediate one or applies a commit that waits at once,
0xC0A0 cancels a commit that is checking or pending and else is ignored; on a page without a shadow every key is ignored, and on a page with one a
key by another than the configuration owner changes nothing and answers NOT_OWNER. -/
def Obligations.CommitKeysMoveTheCommitState : Prop :=
  ∀ (s : State) (q : Requester) (p : Nat), s.canonical → s.admits q p →
    (pageShadowed p = true → s.isOwner q = true →
      answers (.commitNextLap q p) s (fun t =>
        t.status = 0 ∧ t.rd (HDR.COMMIT.state p) = (if s.committing p then s.rd (HDR.COMMIT.state p) else 1) ∧
          (s.committing p = false → p ∉ t.immediate) ∧ onlyChanges [.status, .page 0x01, .head 0x2C, .immediate] s t) ∧
      (s.rd (HDR.COMMIT.state p) ≠ 2 → answers (.commitImmediate q p) s fun t =>
        t.status = 0 ∧ t.rd (HDR.COMMIT.state p) = 1 ∧ p ∈ t.immediate ∧ onlyChanges [.status, .page 0x01, .head 0x2C, .immediate] s t) ∧
      (s.rd (HDR.COMMIT.state p) = 2 → answers (.commitImmediate q p) s fun t =>
        t.status = 0 ∧ t.rd (HDR.COMMIT.state p) = 3 ∧ t.rd (HDR.IRQRAW.commit_done p) = 1 ∧ t.mirror = copyPage p s.shadow s.mirror ∧
          (p ≠ 0x01 → t.live = copyPage p s.shadow s.live ∧ t.shadow = s.shadow ∧ p ∉ t.dirty) ∧ t.store = s.store ∧ t.straps = s.straps) ∧
      answers (.commitCancel q p) s fun t =>
        t.status = 0 ∧ t.rd (HDR.COMMIT.state p) = (if s.committing p then 5 else s.rd (HDR.COMMIT.state p)) ∧ t.shadow = s.shadow ∧
          onlyChanges [.status, .page 0x01, .head 0x2C, .immediate, .pair] s t) ∧
    (pageShadowed p = true → s.isOwner q = false →
      answers (.commitNextLap q p) s (fun t => t.status = 0x05 ∧ onlyChanges [.status, .page 0x01] s t) ∧
      answers (.commitImmediate q p) s (fun t => t.status = 0x05 ∧ onlyChanges [.status, .page 0x01] s t) ∧
      answers (.commitCancel q p) s fun t => t.status = 0x05 ∧ onlyChanges [.status, .page 0x01] s t) ∧
    (pageShadowed p = false →
      answers (.commitNextLap q p) s (fun t => t.status = 0 ∧ onlyChanges [.status, .page 0x01] s t) ∧
      answers (.commitImmediate q p) s (fun t => t.status = 0 ∧ onlyChanges [.status, .page 0x01] s t) ∧
      answers (.commitCancel q p) s fun t => t.status = 0 ∧ onlyChanges [.status, .page 0x01] s t)

/-- The check of a commit: where SHCRC is not the CRC of the shadow region the commit is refused with FAULT.crc; where a check of the
page fails it is refused with FAULT.invalid; else it waits for the boundary, the live configuration as it was. -/
def Obligations.CommitCheckRefusesOrWaits : Prop :=
  ∀ (s : State) (p : Nat), s.canonical → s.alive p = true → pageShadowed p = true → s.rd (HDR.COMMIT.state p) = 1 →
    (s.regionCrc s.shadow p ≠ s.rd (HDR.SHCRC.crc p) → answers (.commitCheckEnd p) s fun t =>
      t.rd (HDR.COMMIT.state p) = 4 ∧ t.rd (HDR.FAULT.crc p) = 1 ∧ t.rd (HDR.IRQRAW.commit_refused p) = 1 ∧
        onlyChanges [.head 0x14, .head 0x20, .head 0x24, .head 0x2C, .immediate, .pair] s t) ∧
    (s.regionCrc s.shadow p = s.rd (HDR.SHCRC.crc p) → ∀ x, s.verdict s.shadow p = some x → answers (.commitCheckEnd p) s fun t =>
      t.rd (HDR.COMMIT.state p) = 4 ∧ t.rd (HDR.FAULT.invalid p) = 1 ∧
        onlyChanges [.head 0x14, .head 0x20, .head 0x24, .head 0x2C, .immediate, .pair] s t) ∧
    (s.regionCrc s.shadow p = s.rd (HDR.SHCRC.crc p) → s.verdict s.shadow p = none → p ∉ s.immediate →
      answers (.commitCheckEnd p) s fun t => t.rd (HDR.COMMIT.state p) = 2 ∧ onlyChanges [.head 0x2C, .pair, .page 0x38] s t)

/-- CTL.revert gives the shadow of a page its live configuration back and clears STAT.shadow_dirty; while a commit of the page is checking
or pending it answers BUSY, and on a page without a shadow it has no effect. LOCK locks the page. None of them changes a register. -/
def Obligations.RevertAndLock : Prop :=
  ∀ (s : State) (q : Requester) (p : Nat), s.canonical → s.admits q p →
    (pageShadowed p = true → s.committing p = false → answers (.ctlRevert q p) s fun t =>
      t.status = 0 ∧ t.shadow = copyPage p s.live s.shadow ∧ p ∉ t.dirty ∧ onlyChanges [.status, .page 0x01, .shadow, .dirty] s t) ∧
    (pageShadowed p = true → s.committing p = true → answers (.ctlRevert q p) s fun t =>
      t.status = 0x07 ∧ onlyChanges [.status, .page 0x01] s t) ∧
    (pageShadowed p = false → answers (.ctlRevert q p) s fun t => t.status = 0 ∧ onlyChanges [.status, .page 0x01] s t) ∧
    answers (.lockWrite q p) s fun t => t.status = 0 ∧ p ∈ t.locked ∧ onlyChanges [.status, .page 0x01, .locked] s t

/-- The owner of the configuration hands it over; another's write changes nothing. The host port reclaims it with the key. -/
def Obligations.OwnershipMovesByItsOwnerOrTheHost : Prop :=
  ∀ (s : State) (q : Requester) (n : Nat), s.canonical →
    (s.admits q 0 → answers (.cfgOwnerHandover q n) s fun t =>
      t.status = 0 ∧ t.rd SYS.CFGOWNER.owner = (if s.isOwner q then n % 4 else s.rd SYS.CFGOWNER.owner) ∧
        onlyChanges [.status, .page 0x00, .page 0x01] s t) ∧
    (s.admits .host 0 → answers (.cfgOwnerReclaim n) s fun t =>
      t.status = 0 ∧ t.rd SYS.CFGOWNER.owner = n % 4 ∧ t.live = s.live ∧ t.shadow = s.shadow ∧ t.mirror = s.mirror)

/-- An image switch is requested, cancelled and checked: a request while none is under way starts the check, a cancel ends a switch that is
checking or pending in state 5, and the end of the check refuses with its reason or leaves the switch pending. -/
def Obligations.ImageSwitchMovesThroughItsStates : Prop :=
  ∀ (s : State) (q : Requester) (b : Bool), s.canonical →
    (s.admits q 0 → s.isOwner q = true →
      (s.switching = false → answers (.imageSwitchRequest q b) s fun t =>
        t.status = 0 ∧ t.rd SYS.IMGSTAT.state = 1 ∧ t.switchTo = (if b then 1 else 0) ∧ onlyChanges [.status, .page 0x00, .page 0x01, .switchTo] s t) ∧
      (s.switching = true → answers (.imageSwitchRequest q b) s fun t =>
        t.status = 0 ∧ t.rd SYS.IMGSTAT.state = s.rd SYS.IMGSTAT.state ∧ t.rd SYS.IMGSTAT.reason = 7 ∧ t.switchTo = s.switchTo) ∧
      answers (.imageSwitchCancel q) s fun t =>
        t.status = 0 ∧ t.rd SYS.IMGSTAT.state = (if s.switching then 5 else s.rd SYS.IMGSTAT.state) ∧ onlyChanges [.status, .page 0x00, .page 0x01] s t) ∧
    (s.alive 0x00 = true → s.rd SYS.IMGSTAT.state = 1 →
      (∀ reason page code : Nat, s.switchVerdict s.switchTo = some (reason, page, code) → answers .imageSwitchCheckEnd s fun t =>
        t.rd SYS.IMGSTAT.state = 4 ∧ t.rd SYS.IMGSTAT.reason = reason % 256 ∧ onlyChanges [.page 0x00, .page 0x48, .head 0x14, .head 0x24, .head 0x20] s t) ∧
      (s.switchVerdict s.switchTo = none → answers .imageSwitchCheckEnd s fun t =>
        t.rd SYS.IMGSTAT.state = (if s.switchAhead then 2 else 4) ∧ onlyChanges [.page 0x00, .page 0x48, .head 0x14, .head 0x24, .head 0x20] s t))

/-- The bits of CTL: enable and qreq take the value written, each leaving the other; a block under a quiesce request is quiesced at once, and
one that is disabled too where disabling has an effect. A write of 1 to breset sets the quiesce request: where that leaves the block idle the reset
is made at once, else it waits for the block to become idle; for a block whose reset waits already the write changes nothing. -/
def Obligations.ControlBitsOfAPage : Prop :=
  ∀ (s : State) (q : Requester) (p : Nat) (b : Bool), s.canonical → s.admits q p →
    let touched : List Part := [.page 0x01, .status, .head 0x0C, .lap, .pages 0x30 0x34, .ports, .page 0x38, .cal,
      .page 0x10, .head 0x14, .page 0x11, .arith, .pair, .afe, .pages 0x8 0x10, .call, .page 0x42, .dma, .head 0x24, .head 0x20, .freeCount, .recorder, .page 0x58, .sec, .loops, .page 0x18, .jkt,
      .page 0x19, .alarm, .pages 0x120 0x130, .page 0x130, .page 0x20, .page 0x41, .page 0x40, .sram, .sramBad, .sramWeak, .page 0x49, .msg, .page 0x178, .page 0x28, .page 0x34, .page 0x48, .nvm, .page 0x51]
    answers (.ctlEnableWrite q p true) s (fun t => t.status = 0 ∧ t.rd (HDR.CTL.enable p) = 1 ∧ t.rd (HDR.CTL.qreq p) = s.rd (HDR.CTL.qreq p) ∧
      (s.rd (HDR.CTL.qreq p) = 0 → t.quiesced p = false) ∧ onlyChanges touched s t) ∧
    answers (.ctlEnableWrite q p false) s (fun t => t.status = 0 ∧ t.rd (HDR.CTL.enable p) = 0 ∧ t.rd (HDR.CTL.qreq p) = s.rd (HDR.CTL.qreq p) ∧
      (enableExempt p = false → t.quiesced p = true) ∧ onlyChanges touched s t) ∧
    answers (.quiesceRequest q p b) s (fun t => t.status = 0 ∧ t.rd (HDR.CTL.qreq p) = (if b then 1 else 0) ∧ t.rd (HDR.CTL.enable p) = s.rd (HDR.CTL.enable p) ∧
      (b = true → t.quiesced p = true) ∧ onlyChanges touched s t) ∧
    (p ∈ s.rst.blockWait → answers (.blockResetRequest q p) s fun t => t.status = 0 ∧ onlyChanges [.status, .page 0x01] s t) ∧
    (p ∉ s.rst.blockWait → (s.awake.setCtl p (HDR.CTL.qreq p) true).idle p = false → answers (.blockResetRequest q p) s fun t =>
      t.status = 0 ∧ t.rd (HDR.CTL.qreq p) = 1 ∧ t.rst = { s.rst with blockWait := addTo s.rst.blockWait p } ∧ onlyChanges (.rst :: touched) s t) ∧
    (p ∉ s.rst.blockWait → (s.awake.setCtl p (HDR.CTL.qreq p) true).idle p = true → answers (.blockResetRequest q p) s fun t =>
      t.status = 0 ∧ p ∉ t.rst.blockWait ∧ p ∉ t.rst.held ∧ t.rd RST.LAST.reach = 3 ∧ t.rd RST.LAST.page = p ∧ t.rd RST.IRQRAW.released = 1 ∧
        bit (t.rd RST.CAUSE.cause) 13 = true ∧ t.store = s.store ∧ t.mirror = s.mirror ∧ t.locked = s.locked)

/-- A block whose quiesce runs out of time is reset without being idle, and FAULT.qtimeout of its page stands after the reset. -/
def Obligations.QuiesceTimeoutResetsTheBlock : Prop :=
  ∀ (s : State) (p : Nat), s.canonical → s.present p = true → p ≠ 0x01 → s.rst.blockWait = [p] → s.rst.domainWait = [] → s.idle p = false →
    answers (.quiesceTimeout p) s fun t =>
      t.rd (HDR.FAULT.qtimeout p) = 1 ∧ t.rd RST.LAST.reach = 3 ∧ t.rd RST.LAST.page = p ∧ t.rst.blockWait = [] ∧ t.store = s.store

/-! ### Resets -/

/-- The sources of a full reset: each is in force after its command, and live configuration, shadow and mirror are lost; a loss of power
leaves only BKP powered, a violation of the rail sequence holds the node, and another requester than the host is refused. -/
def Obligations.FullResetsLoseTheConfiguration : Prop :=
  ∀ s : State,
    answers .powerOnReset s (fun t => 0 ∈ t.rst.asserted ∧ t.live = [] ∧ t.shadow = [] ∧ t.mirror = [] ∧ t.dirty = [] ∧ t.locked = [] ∧
      t.pwr.on = [.bkp] ∧ t.rst.sequenceHold = false ∧ t.rst.cold = true ∧ t.sram = s.sram ∧ t.store = s.store) ∧
    (∀ b : Bool, answers (.brownOut b) s fun t => (if b then 2 else 1) ∈ t.rst.asserted ∧ t.live = [] ∧ t.shadow = [] ∧ t.mirror = [] ∧ t.pwr.on = [.bkp] ∧
      t.store = s.store) ∧
    answers .rstnPin s (fun t => 3 ∈ t.rst.asserted ∧ t.live = [] ∧ t.shadow = [] ∧ t.mirror = [] ∧ t.locked = [] ∧ t.store = s.store) ∧
    answers .sequenceViolation s (fun t => 4 ∈ t.rst.asserted ∧ t.live = [] ∧ t.shadow = [] ∧ t.mirror = [] ∧ t.rst.sequenceHold = true ∧ t.store = s.store) ∧
    (s.admits .host 3 → answers (.fullResetCommand .host) s fun t => t.status = 0 ∧ 8 ∈ t.rst.asserted ∧ t.live = [] ∧ t.shadow = [] ∧ t.mirror = [] ∧ t.store = s.store) ∧
    (∀ q : Requester, q ≠ .host → s.canonical → s.admits q 3 → answers (.fullResetCommand q) s fun t =>
      t.status = 0 ∧ t.rd RST.CMDSTAT.state = 4 ∧ t.rd RST.CMDSTAT.reason = 1 ∧ onlyChanges [.status, .page 0x01, .page 0x03] s t)

/-- The sources of a node reset: each is in force after its command, every page of a domain but AON and BKP is held, and the configuration
mirror, the store and the locks are kept; the partner may reset only while partner_en is 1. -/
def Obligations.NodeResetsHoldEveryPageButAonAndBkp : Prop :=
  ∀ s : State, s.canonical →
    (s.alive 3 = true → s.flag RST.CFG.sup_en = true → s.flag (HDR.CTL.enable 4) = true → s.rd PWR.STAT.state < 2 → s.flag PWR.STAT.saving = false →
      answers .supervisorTrip s fun t => 6 ∈ t.rst.asserted ∧ t.mirror = s.mirror ∧ t.store = s.store ∧ t.locked = s.locked ∧
        ∀ (d : Domain) (p : Nat), d ≠ .bkp → d ≠ .aon → p ∈ s.pagesOf d → p ∈ t.rst.held) ∧
    (∀ pll : Bool, s.domainOn .aon = true → s.rd PWR.STAT.state < 2 → answers (.clockFailure pll) s fun t =>
      5 ∈ t.rst.asserted ∧ t.mirror = s.mirror ∧ t.store = s.store ∧ t.locked = s.locked ∧
        ∀ (d : Domain) (p : Nat), d ≠ .bkp → d ≠ .aon → p ∈ s.pagesOf d → p ∈ t.rst.held) ∧
    ∀ q : Requester, s.admits q 3 →
      (q ≠ .pair → answers (.nodeResetCommand q) s fun t => t.status = 0 ∧ 7 ∈ t.rst.asserted ∧ t.mirror = s.mirror ∧ t.store = s.store ∧ t.locked = s.locked ∧
        ∀ (d : Domain) (p : Nat), d ≠ .bkp → d ≠ .aon → p ∈ s.pagesOf d → p ∈ t.rst.held) ∧
      (q = .pair → s.flag RST.CFG.partner_en = true → answers (.nodeResetCommand q) s fun t => t.status = 0 ∧ 10 ∈ t.rst.asserted ∧ t.mirror = s.mirror ∧ t.store = s.store ∧ t.locked = s.locked ∧
        ∀ (d : Domain) (p : Nat), d ≠ .bkp → d ≠ .aon → p ∈ s.pagesOf d → p ∈ t.rst.held) ∧
      (q = .pair → s.flag RST.CFG.partner_en = false → answers (.nodeResetCommand q) s fun t =>
        t.status = 0 ∧ t.rd RST.CMDSTAT.state = 4 ∧ t.rd RST.CMDSTAT.reason = 2 ∧ onlyChanges [.status, .page 0x01, .page 0x03] s t)

/-- A release with every clock good ends the reset; where a clock is missing the rest of the release is abandoned, with the place in the order
from which a retry goes on and with FAULT.clkfail. A release of a full reset samples the straps, and no other does. A release while nothing is asserted changes nothing. -/
def Obligations.ReleaseEndsOrAbandonsTheReset : Prop :=
  ∀ (s : State) (good : Nat),
    (s.rst.asserted ≠ [] → s.rst.sequenceHold = false → answers (.resetRelease good) s fun t =>
      t.rst.asserted = [] ∧ t.rst.releaseFrom = (if good < 11 then some good else none) ∧ (good < 11 → t.rd RST.FAULT.clkfail = 1) ∧
        (11 ≤ good → t.rd RST.LAST.reach = s.rst.reach % 2) ∧ t.store = s.store ∧ t.mirror = s.mirror ∧
        (s.rst.reach = 0 → t.straps.nid = s.straps.pins.nid ∧ t.straps.boot = s.straps.pins.boot ∧ t.straps.clkmode = s.straps.pins.clkmode ∧
          t.straps.pairpos = s.straps.pins.pairpos) ∧ (s.rst.reach ≠ 0 → t.straps = s.straps)) ∧
    (s.rst.asserted = [] → answers (.resetRelease good) s fun t => t = s) ∧
    (∀ k, s.rst.releaseFrom = some k → answers (.releaseRetry good) s fun t =>
      t.rst.asserted = [] ∧ t.rst.releaseFrom = (if max k good < 11 then some (max k good) else none) ∧ t.store = s.store)

/-- A domain reset sets the quiesce request of every page of the domain, of DIO those of UIO too; where that leaves each of them idle it is made
at once, and else it waits; AON and BKP are refused with FAULT.notres, and for a domain that is off there is nothing to do. -/
def Obligations.DomainResetIsMadeOrWaits : Prop :=
  ∀ (s : State) (q : Requester) (n : Nat) (d : Domain), s.canonical → s.admits q 3 → Domain.ofCode (n % 16) = some d →
    ((d = .aon ∨ d = .bkp) → answers (.domainResetCommand q n) s fun t =>
      t.status = 0 ∧ t.rd RST.CMDSTAT.state = 4 ∧ t.rd RST.CMDSTAT.reason = 3 ∧ t.rd RST.FAULT.notres = 1 ∧
        onlyChanges [.status, .page 0x01, .page 0x03, .head 0x14, .head 0x20, .head 0x24] s t) ∧
    (d ≠ .aon → d ≠ .bkp → s.pagesOf d ≠ [] → s.domainOn d = false → answers (.domainResetCommand q n) s fun t =>
      t.status = 0 ∧ t.rd RST.CMDSTAT.state = 3 ∧ onlyChanges [.status, .page 0x01, .page 0x03] s t) ∧
    (d ≠ .aon → d ≠ .bkp → s.pagesOf d ≠ [] → s.domainOn d = true → answers (.domainResetCommand q n) s fun t =>
      t.status = 0 ∧ t.store = s.store ∧ t.mirror = s.mirror ∧
        (if ((s.awake.each (s.resetPages d) fun st p => st.setCtl p (HDR.CTL.qreq p) true).rstStat 1 0).domainIdle d then
          t.rd RST.CMDSTAT.state = 2 ∧ t.rd RST.LAST.reach = 2 ∧ t.rd RST.LAST.domain = d.code ∧ t.rd RST.IRQRAW.released = 1 ∧ bit (t.rd RST.CAUSE.cause) 12 = true
        else t.rd RST.CMDSTAT.state = 1 ∧ d ∈ t.rst.domainWait))

/-- The loss of the APLL's lock holds every page of AFE-L and AFE-H that is on; its return releases them and ends the loss. -/
def Obligations.ApllUnlockHoldsTheBanks : Prop :=
  ∀ s : State, s.domainOn .aon = true → s.rd PWR.STAT.state < 2 →
    (s.rst.apllLost = false → answers (.apllUnlock false) s fun t =>
      t.rst.apllLost = true ∧ (∀ (d : Domain) (p : Nat), (d = .afeL ∨ d = .afeH) → s.domainOn d = true → p ∈ s.pagesOf d → p ∈ t.rst.held) ∧
        t.live = s.live ∧ t.mirror = s.mirror ∧ t.store = s.store) ∧
    (s.rst.apllLost = true → answers (.apllUnlock true) s fun t => t.rst.apllLost = false ∧
      (∀ (d : Domain) (p : Nat), (d = .afeL ∨ d = .afeH) → s.domainOn d = true → p ∈ s.pagesOf d → p ∉ t.rst.held) ∧ t.mirror = s.mirror ∧ t.store = s.store)

/-! ### Power -/

/-- The rails' warnings: VDDA low and its recovery show in PWR.STAT, and VDDA low takes the AFE domains off, a domain whose power does not come is
shown by FAULT.domain, and a warning of the core rail shows until it ends and takes the node to Shed 4. -/
def Obligations.RailWarningsShowInTheStatus : Prop :=
  ∀ s : State, s.canonical → s.alive 1 = true →
    (s.flag PWR.STAT.vdda_low = false → answers .vddaLow s fun t =>
      t.rd PWR.STAT.vdda_low = 1 ∧ t.rd PWR.FAULT.vdda = 1 ∧
        (s.rst.asserted = [] → s.rst.releaseFrom = none → t.domainOn .afeL = false ∧ t.domainOn .afeH = false) ∧ t.store = s.store ∧ t.mirror = s.mirror) ∧
    (s.flag PWR.STAT.vdda_low = true → answers .vddaRecover s fun t => t.rd PWR.STAT.vdda_low = 0 ∧ t.store = s.store ∧ t.mirror = s.mirror) ∧
    (∀ (n : Nat) (d : Domain), Domain.ofCode n = some d → d ≠ .bkp → d ≠ .aon → s.domainOn d = true →
      answers (.domainPowerGoodTimeout n) s fun t => t.rd PWR.FAULT.domain = 1 ∧ t.store = s.store ∧ t.mirror = s.mirror) ∧
    answers (.coreRailWarning false) s (fun t => t.rd PWR.STAT.core_warn = 0 ∧ onlyChanges [.page 0x01] s t) ∧
    answers (.coreRailWarning true) s fun t => t.rd PWR.STAT.core_warn = 1 ∧ t.rd PWR.IRQRAW.core_warn = 1 ∧ t.rd PWR.STAT.level = 4 ∧ t.mirror = s.mirror ∧ t.locked = s.locked

/-- A sample of the supply: it becomes the newest of the last four, whose mean is shown once there are four, and a mean below the threshold of a
shedding level takes the node to that level at least; in Shed 4 no level changes. Without judging there is no sample kept. -/
def Obligations.SupplySamplesAreKeptAndMeaned : Prop :=
  ∀ (s : State) (mv : Nat), s.canonical → s.alive 1 = true →
    (answers (.vmonSample mv) s fun t =>
      let l := if s.flag PWR.CFG.vmon_en then (s.pwr.vmon ++ [mv]).drop (s.pwr.vmon.length + 1 - 4) else []
      t.pwr.vmon = l ∧ (l.length = 4 → t.rd PWR.STAT.vmon = l.sum / 4 % 2 ^ PWR.STAT.vmon.w) ∧ s.rd PWR.STAT.level ≤ t.rd PWR.STAT.level ∧
        (∀ j, 1 ≤ j → j ≤ 4 → l.length = 4 → l.sum * 100 < 4 * s.shedThr j * s.rd PWR.CFG.vmon_nom → j ≤ t.rd PWR.STAT.level) ∧ t.live = s.live) ∧
    (s.level = 4 → answers (.vmonSample mv) s fun t => t.rd PWR.STAT.level = 4 ∧ onlyChanges [.pwr, .page 0x01] s t)

/-- The governor shows the power it measured; above its limit it asks for the cap and tells it where the cap was already in force. -/
def Obligations.GovernorCapsAboveItsLimit : Prop :=
  ∀ (s : State) (mw : Nat), s.canonical → s.alive 1 = true → answers (.governorCheck mw) s fun t =>
    t.rd PWR.POWER.mw = mw % 2 ^ PWR.POWER.mw.w ∧ onlyChanges [.pwr, .page 0x01, .head 0x14] s t ∧
      (s.flag PWR.CFG.gov_en = true → s.rd PWR.GOVLIM.mw < mw → t.rd PWR.STAT.cap = 1 ∧ t.pwr.govCap = true ∧ t.pwr.under = 0 ∧
        (s.rd PWR.STAT.cap = 1 → t.rd PWR.STAT.gov_over = 1 ∧ t.rd PWR.IRQRAW.gov_over = 1)) ∧
      (s.flag PWR.CFG.gov_en = true → mw ≤ s.rd PWR.GOVLIM.mw → t.rd PWR.STAT.gov_over = 0)

/-- The way into Stow and out of it: the command announces the jacket's hold and begins to save, the end of the save, once
the streams take up work, leaves the node in Stow, and a restoration ends Stow, with the configuration mirror and the store as they were. -/
def Obligations.StowSavesAndRestores : Prop :=
  ∀ s : State, s.canonical →
    (∀ q : Requester, s.admits q 1 → s.flag PWR.STAT.saving = false → s.rd PWR.STAT.state ≠ 3 → answers (.stowCommand q) s fun t =>
      t.status = 0 ∧ t.rd PWR.STAT.saving = 1 ∧ t.rd PWR.CMDSTAT.state = 2 ∧ t.pwr.saveReason = 2 ∧ t.jkt.hold = 1 ∧ t.live = s.live) ∧
    (∀ q : Requester, s.admits q 1 → s.flag PWR.STAT.saving = true → answers (.stowCommand q) s fun t =>
      t.status = 0 ∧ t.rd PWR.CMDSTAT.state = 4 ∧ t.rd PWR.CMDSTAT.reason = 1 ∧ onlyChanges [.status, .page 0x01] s t) ∧
    (s.flag PWR.STAT.saving = true → s.dmaHolds = false → answers .coreStateSaved s fun t =>
      t.rd PWR.STAT.saving = 0 ∧ t.rd PWR.STAT.state = 3 ∧ t.mirror = s.mirror ∧ t.store = s.store) ∧
    (s.mayRestore = true → answers .restoration s fun t =>
      t.rd PWR.STAT.state = 0 ∧ t.lap.fresh = true ∧ t.mirror = s.mirror ∧ t.store = s.store)

/-- Doze, Nap and the wakes: an idle node dozes and naps; a lap wake and a wake by another source record the source and end Nap; the
calibration of the pacer is stored. -/
def Obligations.SleepAndWake : Prop :=
  ∀ s : State, s.canonical →
    (s.alive 1 = true → s.rd PWR.STAT.state = 0 → s.nodeIdle = true → answers .dozeEntry s fun t =>
      t.rd PWR.STAT.state = 1 ∧ onlyChanges [.page 0x01] s t) ∧
    (s.alive 1 = true → s.rd PWR.STAT.state < 2 → s.nodeIdle = true → s.mayNap = true → answers .napEntry s fun t =>
      t.rd PWR.STAT.state = 2 ∧ t.jkt.hold = 1 ∧ t.mirror = s.mirror ∧ t.store = s.store) ∧
    (∀ late : Bool, s.alive 4 = true → s.rd PWR.STAT.state = 2 → s.flag (HDR.CTL.enable 4) = true → answers (.lapWake late) s fun t =>
      t.rd PWR.STAT.state = 0 ∧ bit (t.rd LAP.WAKESRC.src) 0 = true ∧ bit (t.rd LAP.WAKESRC.src) 6 = (late || bit (s.rd LAP.WAKESRC.src) 6) ∧
        (late = true → t.rd LAP.FAULT.lead = 1)) ∧
    (∀ n : Nat, s.alive 4 = true → s.wakeCause n = true → s.rd PWR.STAT.state = 2 → answers (.wakeEvent n) s fun t =>
      t.rd PWR.STAT.state = 0 ∧ bit (t.rd LAP.WAKESRC.src) n = true) ∧
    (∀ n : Nat, s.alive 4 = true → n < s.variant.ports → s.flag (BUS.WAKE.wake_en n) = true → s.rd PWR.STAT.state = 2 →
      answers (.busWake n) s fun t => t.rd PWR.STAT.state = 0 ∧ bit (t.rd LAP.WAKESRC.src) 2 = true) ∧
    (∀ ppb : Int, s.alive 2 = true → s.rd PWR.STAT.state < 2 → answers (.pacerCalibration ppb) s fun t =>
      t.rd CLK.PACERCAL.ppb = unsigned CLK.PACERCAL.ppb.w ppb ∧ onlyChanges [.page 0x02] s t)

/-- The operating time stays at all ones once it is reached, with its overflow bit. -/
def Obligations.OperatingTimeSticks : Prop :=
  ∀ s : State, s.canonical → s.domainOn .aon = true → 2 ^ 40 - 2 ≤ s.optime → answers .operatingTimeStuck s fun t =>
    t.optime = 2 ^ 40 - 1 ∧ t.rd PWR.STAT.opt_ovf = 1 ∧ onlyChanges [.page 0x01, .head 0x14] s t

/-- The TAP: it takes each instruction; while jtag_en is 1 each acts as itself, EXTEST only in factory hold with extest_en, and else every
one acts as BYPASS, which captures 0. No register and no memory changes. -/
def Obligations.JtagInstructions : Prop :=
  ∀ (s : State) (x y : Nat), s.domainOn .aon = true →
    answers .jtagBypass s (fun t => t.jtagActs = .bypass ∧ t.jtag.captured = 0 ∧ t.jtag.cells = s.jtag.cells ∧ onlyChanges [.jtag] s t) ∧
    answers .jtagIdcode s (fun t =>
      (if s.flag DBG.JTAGCFG.jtag_en then t.jtagActs = .idcode ∧ t.jtag.captured = s.variant.idcode else t.jtagActs = .bypass ∧ t.jtag.captured = 0) ∧
        t.jtag.cells = s.jtag.cells ∧ onlyChanges [.jtag] s t) ∧
    answers (.jtagSamplePreload x y) s (fun t =>
      (if s.flag DBG.JTAGCFG.jtag_en then t.jtagActs = .sample ∧ t.jtag.captured = x ∧ t.jtag.cells = y
        else t.jtagActs = .bypass ∧ t.jtag.captured = 0 ∧ t.jtag.cells = s.jtag.cells) ∧ onlyChanges [.jtag] s t) ∧
    answers .jtagExtest s (fun t =>
      t.jtagActs = (if s.flag DBG.JTAGCFG.jtag_en = true ∧ s.flag DBG.JTAGCFG.extest_en = true ∧ s.factoryHold = true then .extest else .bypass) ∧
        t.jtag.cells = s.jtag.cells ∧ onlyChanges [.jtag] s t) ∧
    answers .jtagTapReset s fun t =>
      t.jtagActs = (if s.flag DBG.JTAGCFG.jtag_en then .idcode else .bypass) ∧ t.jtag = { s.jtag with instr := .idcode } ∧ onlyChanges [.jtag] s t
/-! ### Laps and the scan -/

/-- A boundary that may be taken counts the lap (0 at boundary 0, the holder's count at its LAPMARK), and starts the lap on the lap timer; one
that may not be taken changes nothing more. While ALM is quiesced an evaluation that would be in progress counts as completed
first. Enabling LAP takes boundary 0 at once where it may be taken; disabling it only clears CTL.enable. -/
def Obligations.BoundariesCountTheLaps : Prop :=
  ∀ (s : State) (m : Option Int) (late : Nat), s.canonical →
    (s.skipEvaluation.mayTakeLap = true → answers (.lapBoundary m late) s fun t =>
      t.rd LAP.COUNT.count = (if s.lap.zero then 0 else match (if s.lapMarked then s.pair.lapMark else none) with
        | some k => k.1
        | none => s.lapCount + 1) % 2 ^ 32 ∧
        t.lap.lapStart = t.lap.timer ∧ t.store = s.store ∧ t.straps = s.straps ∧ t.optime = s.optime ∧ t.flag (HDR.CTL.enable 4) = true) ∧
    (s.skipEvaluation.mayTakeLap = false → answers (.lapBoundary m late) s fun t => t = s.skipEvaluation ∧ (s.lap.evalDone = true ∨ s.working 0x20 = true → t = s)) ∧
    ∀ q : Requester, s.admits q 4 →
      answers (.lapEnable q m) s (fun t => t.status = 0 ∧ t.flag (HDR.CTL.enable 4) = true ∧ t.store = s.store ∧
        (s.flag (HDR.CTL.enable 4) = false → (s.awake.setEnable 4 true).skipEvaluation.mayTakeLap = true → t.rd LAP.COUNT.count = 0)) ∧
      answers (.lapDisable q) s fun t => t.status = 0 ∧ t.flag (HDR.CTL.enable 4) = false ∧ onlyChanges [.status, .page 0x01, .head 0x0C] s t

/-- A slot of a context that is still to be scanned starts in the first phase its type and its lead mode ask for; the main phase of a slot
that waits begins with its configuration and terms fixed; settled, its samples count; the N-th sample ends it, and the end of the slot takes
it from the running ones. -/
def Obligations.SlotsRunThroughTheirPhases : Prop :=
  ∀ (s : State) (b k : Nat), s.canonical → b < 8 →
    (∀ o, (s.bank b).sched.find? (fun o => o.ctx == k) = some o → s.working (8 + b) = true → k ∈ (s.bank b).todo →
      (∀ r ∈ (s.bank b).running, r.lane ≠ o.lane ∧ r.ctx ≠ k) → s.flag (AFE.CTX.enable b k) = true → s.hasSpare b = true →
      (s.bank b).bridgeTripped = false → (o.source = 0 ∨ s.flag (AFE.MODE.listen b) = true ∨ s.flag (AFE.MODE.excown b) = true) →
      answers (.slotStart b k) s fun t =>
        (t.slotRun b k).map SlotRun.phase = some (if s.rd (AFE.CTX.type_ b k) = 1 then .burnout else
          if s.rd (AFE.CTX.lead_mode b k) = 3 then (if s.leadLap b k then .lead else .waiting) else .main) ∧
          k ∉ (t.bank b).todo ∧ onlyChanges [.afe, .cal, .pair] s t) ∧
    ∀ r, s.slotRun b k = some r →
      (r.phase = .waiting → answers (.mainPhaseStart b k) s fun t =>
        (t.slotRun b k).map SlotRun.phase = some .main ∧ ((t.slotRun b k).bind SlotRun.entry).map ConvEntry.words = some (s.ctxWords b k) ∧
          onlyChanges [.afe, .cal] s t) ∧
      (r.phase = .lead ∨ r.phase = .main → answers (.settleEnd b k) s fun t =>
        t.slotRun b k = some { r with settled := true } ∧ onlyChanges [.afe, .page 0x38] s t) ∧
      (∀ (c d : Int) (x : Bool), r.phase = .main → r.settled = true → ∀ e, r.entry = some e →
        (r.count + 1 < e.n → answers (.sampleOut b k c d x) s fun t =>
          t.slotRun b k = some { r with sum := r.sum + clampSigned 24 c, spareSum := r.spareSum + clampSigned 24 d, count := r.count + 1, overload := r.overload || x } ∧
            onlyChanges [.afe] s t) ∧
        (e.n ≤ r.count + 1 → answers (.sampleOut b k c d x) s fun t =>
          (t.slotRun b k).map SlotRun.phase = some .ended ∧ onlyChanges [.afe, .pages 0x08 0x10, .head 0x14, .head 0x24, .head 0x20, .lap, .page 0x10, .page 0x11, .arith, .pair, .cal] s t)) ∧
      (r.phase = .ended → answers (.slotEnd b k) s fun t => t.slotRun b k = none ∧ onlyChanges [.afe, .pages 0x08 0x10, .page 0x10] s t) ∧
      (r.phase ≠ .ended → answers (.slotEnd b k) s fun t => t = s)

/-- A wire that is found open, at the burn-out check, at the check of a sense wire or by the compliance of a source that is steered, ends the conversion,
marks its context for CHOPEN and counts; a burn-out check that finds the wires whole begins the main phase. -/
def Obligations.OpenWiresEndTheConversion : Prop :=
  ∀ (s : State) (b k : Nat) (uv : Int) (neg : Bool), s.canonical → ∀ r, s.slotRun b k = some r → s.flag (AFE.MODE.listen b) = false →
    let parts : List Part := [.afe, .head 0x14, .lap, .page 0x11, .arith, .pair, .pages 0x08 0x10]
    (r.phase = .burnout → 100000 < uv.natAbs → answers (.burnoutCheckEnd b k uv) s fun t =>
      (t.slotRun b k).map SlotRun.phase = some .ended ∧ bit (t.bank b).openNow k = true ∧ t.rd (AFE.IRQRAW.open_ b) = 1 ∧
        t.rd (AFE.OPENCNT.count b) = min (s.rd (AFE.OPENCNT.count b) + 1) (2 ^ 32 - 1) ∧ onlyChanges parts s t) ∧
    (r.phase = .burnout → uv.natAbs ≤ 100000 → answers (.burnoutCheckEnd b k uv) s fun t =>
      (t.slotRun b k).map SlotRun.phase = some .main ∧ onlyChanges [.afe, .page 0x10, .cal, .pages 0x08 0x10] s t) ∧
    (r.phase = .main → r.settled = false → 100000 < uv.natAbs → (r.ctxField (AFE.CTX.type_ 0 0) = 4 ∨ r.ctxField (AFE.CTX.type_ 0 0) = 7 ∨
      ((r.ctxField (AFE.CTX.type_ 0 0) = 3 ∨ r.ctxField (AFE.CTX.type_ 0 0) = 6) ∧ neg = false)) →
      answers (.senseCheckEnd b k neg uv) s fun t =>
        (t.slotRun b k).map SlotRun.phase = some .ended ∧ bit (t.bank b).openNow k = true ∧ t.rd (AFE.IRQRAW.open_ b) = 1 ∧
          t.rd (AFE.OPENCNT.count b) = min (s.rd (AFE.OPENCNT.count b) + 1) (2 ^ 32 - 1) ∧ onlyChanges parts s t) ∧
    ((s.steering b r).source ≠ 0 → r.phase ≠ .ended → answers (.sourceCompliance b k) s fun t =>
      (t.slotRun b k).map SlotRun.phase = some .ended ∧ bit (t.bank b).openNow k = true ∧ t.rd (AFE.IRQRAW.open_ b) = 1 ∧
        t.rd (AFE.OPENCNT.count b) = min (s.rd (AFE.OPENCNT.count b) + 1) (2 ^ 32 - 1) ∧ onlyChanges parts s t)

/-- A change of the excitation discards the phase: it restarts, its context marked for CHRESTART and counted, up to two times; the third
change abandons it with CHABORT. Where the partner's excitation is absent, a listening bank ends it without a restart, and the newest slot with a
source since the newest claim tells PAIR.STAT.evidence of it. -/
def Obligations.ExcitationChangesRestartOrAbandon : Prop :=
  ∀ (s : State) (b k us : Nat) (absent : Bool), s.canonical → ∀ r, s.slotRun b k = some r → (r.phase = .lead ∨ r.phase = .main) →
    (r.source ≠ 0 ∨ r.ctxField (AFE.CTX.type_ 0 0) = 9) →
    ((s.flag (AFE.MODE.listen b) = false ∨ absent = false) → r.restarts < 2 → answers (.excitationChange b k us absent) s fun t =>
      ((t.slotRun b k).map fun x => (x.phase, x.restarts, x.count, x.settled)) = some (r.phase, r.restarts + 1, 0, false) ∧
        bit (t.bank b).restartNow k = true ∧ t.rd (AFE.IRQRAW.restart b) = 1 ∧
        t.rd (AFE.RESTARTCNT.count b) = min (s.rd (AFE.RESTARTCNT.count b) + 1) (2 ^ 32 - 1) ∧ onlyChanges [.afe, .head 0x14, .pages 0x08 0x10] s t) ∧
    ((s.flag (AFE.MODE.listen b) = false ∨ absent = false) → 2 ≤ r.restarts → answers (.excitationChange b k us absent) s fun t =>
      (t.slotRun b k).map SlotRun.phase = some .ended ∧ bit (t.bank b).abortNow k = true ∧ t.rd (AFE.IRQRAW.abort b) = 1 ∧
        onlyChanges [.afe, .head 0x14, .lap, .page 0x11, .arith, .pair, .pages 0x08 0x10] s t) ∧
    (s.flag (AFE.MODE.listen b) = true → absent = true → answers (.excitationChange b k us absent) s fun t =>
      (t.slotRun b k).map SlotRun.phase = some .ended ∧
        t.rd PAIR.STAT.evidence = (if s.pair.slot = some (20 * b + k) then 2 else s.rd PAIR.STAT.evidence) ∧ onlyChanges [.afe, .head 0x14, .lap, .page 0x11, .arith, .pair, .page 0x38] s t)

/-- Faults of a bank: too much current from the bridge supply turns it off, with its fault shown; a pin outside the operating window is
shown, and overloads the conversions that use it. -/
def Obligations.BankFaultsAreShown : Prop :=
  ∀ (s : State) (b : Nat), s.canonical →
    (s.bridgeOn b = true → answers (.bridgeOvercurrent b) s fun t =>
      t.rd (AFE.FAULT.bridge b) = 1 ∧ t.bridgeOn b = false ∧ (t.bank b).bridgeTripped = true ∧
        onlyChanges [.head 0x24, .head 0x14, .afe, .head 0x20, .lap, .page 0x11, .arith, .pair] s t) ∧
    ∀ p, b < 8 → s.alive (8 + b) = true → p < 48 → answers (.pinWindowFault b p) s fun t =>
      bit (if p < 32 then t.rd (AFE.PINFLT0 b) else t.rd (AFE.PINFLT1 b)) (p % 32) = true ∧ t.rd (AFE.IRQRAW.pin_fault b) = 1 ∧
        (∀ r ∈ (t.bank b).running, r.pins.contains (48 * b + p) = true → r.overload = true) ∧
        onlyChanges [.pages 0x08 0x10, .head 0x14, .afe] s t
/-! ### The arithmetic pipeline and calibration -/

/-- ARITH takes the head of its queue: a test entry gives the test record and nothing else, the entry of a channel that is not retired becomes
the channel's newest record and moves its health counter, and the lap no longer waits for it. -/
def Obligations.RecordsAreFormedFromTheQueue : Prop :=
  ∀ s : State, s.canonical → s.alive 0x11 = true → ∀ (e : ConvEntry) (es : List ConvEntry), s.arith.queue = e :: es →
    (e.kind = .test → answers .recordFormation s fun t =>
      (List.range 4).flatMap (fun i => bytesLE 4 (t.rd (ARITH.TESTREC.bytes i))) =
        recordBytes { (s.formOwn e).1 with lap := s.lapCount, stime := s.stime } ∧
        t.rd ARITH.TESTCTL.busy = 0 ∧ t.rd ARITH.IRQRAW.test_done = 1 ∧ t.arith = { s.arith with queue := es } ∧
        onlyChanges [.arith, .page 0x11, .head 0x14] s t) ∧
    (e.kind ≠ .test → e.ch < s.variant.channels → s.terms.retiredCh = [] → (∀ o ∈ s.arith.owed, o.ch ≠ e.ch) → answers .recordFormation s fun t =>
      let r := ({ s with arith := { s.arith with queue := es } }.formOwn e).1
      t.arith.queue = es ∧ Keyed.get? t.arith.newest e.ch = some r ∧ e.ch ∉ t.lap.awaited ∧
        (s.working 0x10 = true → t.rd (healthRef e.ch) = match r.health with
          | .good => s.rd (healthRef e.ch) - 1
          | .failure => min 255 (s.rd (healthRef e.ch) + 16)
          | .neutral => s.rd (healthRef e.ch)) ∧
        onlyChanges [.arith, .page 0x11, .head 0x14, .head 0x24, .head 0x20, .afe, .pages 0x08 0x10, .cal, .page 0x10, .lap, .dma, .page 0x42,
          .page 0x41, .page 0x40, .sram, .sramBad, .sramWeak, .alarm, .recorder, .loops, .pair, .page 0x38, .msg, .page 0x18, .terms, .page 0x49,
          .page 0x178, .nvm] s t)

/-- A test record is started while none is busy: its channel is written, and an entry with the code of TESTCODE joins the end of the queue,
also while ARITH is quiesced. A start while one is busy, or for a channel that is not present, writes only the channel, and none becomes busy. -/
def Obligations.TestRecordsJoinTheQueue : Prop :=
  ∀ (s : State) (q : Requester) (ch : Nat), s.canonical → s.admits q 0x11 →
    (s.rd ARITH.TESTCTL.busy = 0 → ch < s.variant.channels → answers (.testRecordStart q ch) s fun t =>
      t.status = 0 ∧ t.rd ARITH.TESTCTL.busy = 1 ∧ t.rd ARITH.TESTCTL.ch = ch ∧
        t.arith.queue.dropLast = s.arith.queue ∧ (t.arith.queue.getLast?.map fun e => (e.kind, e.ch, e.sum, e.n, e.words)) =
          some (.test, ch, signed 24 (s.rd ARITH.TESTCODE.code), 1, s.ctxWords (ch / 20) (ch % 20)) ∧ onlyChanges [.status, .page 0x01, .page 0x11, .arith] s t) ∧
    (s.rd ARITH.TESTCTL.busy = 1 ∨ s.variant.channels ≤ ch → ch < 1024 → answers (.testRecordStart q ch) s fun t =>
      t.status = 0 ∧ t.rd ARITH.TESTCTL.busy = s.rd ARITH.TESTCTL.busy ∧ t.rd ARITH.TESTCTL.ch = ch ∧ t.arith = s.arith ∧
        (∀ r : Ref, r ∈ [ARITH.TESTCODE.code, ARITH.TESTREC.bytes 0, ARITH.TESTREC.bytes 1, ARITH.TESTREC.bytes 2, ARITH.TESTREC.bytes 3, ARITH.QMAX.entries] → t.rd r = s.rd r) ∧
        onlyChanges [.status, .page 0x01, .page 0x11] s t)

/-- The end of a reference monitor run writes the four deviations and judges them against 20 ppm: the pair of resistors by itself; of three
usable references, one from which both others differ is marked failed, none is where all agree, and another pattern is ambiguous; of two,
a difference is a loss of the reference; with fewer the loss stands. A reference that a reinstate command named and this run took back is usable. -/
def Obligations.ReferenceMonitorJudgesTheReferences : Prop :=
  ∀ (s : State) (d01 d02 d12 rr : Int), s.canonical → s.cal.monitorRunning = true → s.alive 0x10 = true →
    answers (.referenceMonitorEnd d01 d02 d12 rr) s fun t =>
      let f := s.terms.failedRefs &&& (s.cal.rejoin ^^^ 7)
      t.cal.monitorRunning = false ∧ t.rd (CAL.REFDEV.ppb 0) = unsigned 32 d01 ∧ t.rd (CAL.REFDEV.ppb 1) = unsigned 32 d02 ∧
        t.rd (CAL.REFDEV.ppb 2) = unsigned 32 d12 ∧ t.rd CAL.RRDEV.ppb = unsigned 32 rr ∧
        t.rd CAL.REFSTAT.rr_fail = (if 20000 < rr.natAbs then 1 else 0) ∧
        (f = 0 →
          (d01.natAbs ≤ 20000 → d02.natAbs ≤ 20000 → d12.natAbs ≤ 20000 →
            t.terms.failedRefs = 0 ∧ t.rd CAL.REFSTAT.refloss = 0 ∧ t.rd CAL.REFSTAT.ambig = 0) ∧
          (20000 < d01.natAbs → 20000 < d02.natAbs → d12.natAbs ≤ 20000 → t.terms.failedRefs = 1) ∧
          (20000 < d01.natAbs → d02.natAbs ≤ 20000 → 20000 < d12.natAbs → t.terms.failedRefs = 2) ∧
          (d01.natAbs ≤ 20000 → 20000 < d02.natAbs → 20000 < d12.natAbs → t.terms.failedRefs = 4) ∧
          (20000 < d01.natAbs → (20000 < d02.natAbs ↔ 20000 < d12.natAbs) → t.rd CAL.REFSTAT.ambig = 1 ∧ t.terms.failedRefs = 0) ∧
          (d01.natAbs ≤ 20000 → (20000 < d02.natAbs ↔ d12.natAbs ≤ 20000) → t.rd CAL.REFSTAT.ambig = 1 ∧ t.terms.failedRefs = 0)) ∧
        (f = 1 → t.rd CAL.REFSTAT.refloss = if 20000 < d12.natAbs then 1 else 0) ∧
        (f = 2 → t.rd CAL.REFSTAT.refloss = if 20000 < d02.natAbs then 1 else 0) ∧
        (f = 4 → t.rd CAL.REFSTAT.refloss = if 20000 < d01.natAbs then 1 else 0) ∧
        (f = 3 ∨ f = 5 ∨ f = 6 ∨ f = 7 → t.rd CAL.REFSTAT.refloss = 1) ∧
        onlyChanges [.terms, .cal, .nvm, .page 0x10, .pages 0x8 0x10, .head 0x24, .head 0x14, .head 0x20, .recorder, .page 0x49, .page 0x42, .page 0x41, .page 0x40, .sram, .sramBad, .sramWeak, .msg, .page 0x178] s t

/-- The reference conversions of a stride are taken in order: one that is bad by itself is put at the end once and as a repeat fails the stride, a
good one is kept; the one in progress at a quiesce of CAL ends with nothing more. The comparison that CAL makes in the overlap on the median
reference reports its difference and passes, is repeated once where it fails, or fails as a repeat. -/
def Obligations.StrideConversionsAreKeptOrRepeated : Prop :=
  ∀ (s : State) (b : Nat) (codes : List Int) (x : Bool) (l p : Int), s.canonical → b < 8 →
    (s.alive 0x10 = true → s.alive (8 + b) = true →
      ((s.stride b).finishing = true → answers (.referenceConversionEnd b codes x) s fun t =>
        t.stride b = { s.stride b with finishing := false } ∧ onlyChanges [.cal] s t) ∧
      ∀ (c : RefConv) (rest : List RefConv), (s.stride b).convs = c :: rest → (s.stride b).started = true → (s.stride b).deferred = false →
        (s.stride b).finishing = false → s.rd (CAL.BANKSTAT.phase b) = 1 → answers (.referenceConversionEnd b codes x) s fun t =>
        let r : RefResult := { conv := c, sum := (codes.map (clampSigned 24)).sum, sumSq := ((codes.map (clampSigned 24)).map fun v => v.natAbs ^ 2).sum, stime := s.stime }
        (t.stride b).convs.take rest.length = rest ∧ (rest ≠ [] →
          (s.convBad r x = true → c ∈ (s.stride b).repeated → (t.stride b).refFailed = true) ∧
          (s.convBad r x = true → c ∉ (s.stride b).repeated → c ∈ (t.stride b).convs ∧ c ∈ (t.stride b).repeated ∧
            min (s.rd CAL.REPEATCNT.count + 1) (2 ^ CAL.REPEATCNT.count.w - 1) ≤ t.rd CAL.REPEATCNT.count) ∧
          (s.convBad r x = false → (match c with | .source .. => false | _ => true) = true → (s.stride b).results = [] →
            (t.stride b).convs = rest ∧ (t.stride b).results = [r])) ∧
        onlyChanges [.cal, .page 0x10, .head 0x14, .terms, .recorder, .page 0x49, .head 0x24, .page 0x42, .head 0x20, .page 0x41, .page 0x40, .sram, .sramBad, .sramWeak, .msg, .page 0x178, .nvm, .pages 0x8 0x10] s t) ∧
    (s.overlapOn b (s.rd (CAL.BANKSTAT.target b)) = true → (∀ r ∈ (s.bank b).running, r.lane ≠ s.rd (CAL.BANKSTAT.target b)) →
      (∀ o ∈ (s.bank b).sched, o.lane = s.rd (CAL.BANKSTAT.target b) → o.ctx ∉ (s.bank b).todo) →
      ((s.stride b).repeatDue = true ∨ ((s.stride b).compared = false ∧ (s.stride b).mainSeen = false)) → s.lap.timer + 1000 ≤ s.lap.nextGrid →
      answers (.overlapReferenceEnd b l p) s fun t =>
        let g := (s.gainPlan b).headD 0
        let live := s.modTerm b (s.laneMod b (s.rd (CAL.BANKSTAT.target b))) g
        let spare := s.modTerm b (s.rd (AFE.LANEMAP.spare b)) g
        let diff := (fraction p 32 spare).v - (fraction l 32 live).v
        let excess : Int := (diff.natAbs * 1000000 : Nat) - ((s.rd CAL.CFG.ovl_ppm * one56 : Nat) : Int)
        t.rd (CAL.OVLDIFF.ppb b) = unsigned (CAL.OVLDIFF.ppb b).w (roundEven (diff * 1000000000) one56) ∧
          (if excess ≤ 0 ∨ excess.toNat ^ 2 * 32 * 2 ^ 78 ≤ 9 * (live.sigma ^ 2 + spare.sigma ^ 2) * 10 ^ 12 * 2 ^ 112 then
            t.stride b = { s.stride b with compared := true, repeatDue := false }
          else if (s.stride b).repeatDue = true then t.stride b = { s.stride b with compared := true, repeatDue := false, cmpFailed := true }
          else t.stride b = { s.stride b with repeatDue := true } ∧
            t.rd CAL.REPEATCNT.count = min (s.rd CAL.REPEATCNT.count + 1) (2 ^ CAL.REPEATCNT.count.w - 1)) ∧
          onlyChanges [.page 0x10, .cal, .head 0x14] s t)

/-- The commands of CAL wait for the next boundary: a known one is pending until its step applies it, which reinstates or retires what it names,
one that names what is not present is refused, and one that comes while another waits sets `busy` and leaves that one waiting. -/
def Obligations.CalibrationCommandsWait : Prop :=
  ∀ (s : State) (q : Requester) (a m : Nat), s.canonical → s.admits q 0x10 →
    answers (.reinstateChannel q a) s (fun t =>
      t.status = 0 ∧ onlyChanges [.status, .page 0x01, .page 0x10, .cal] s t ∧
        (s.rd CAL.CMDSTAT.state = 1 → t.rd CAL.CMDSTAT.busy = 1 ∧ t.rd CAL.CMDSTAT.state = 1 ∧ t.cal = s.cal) ∧
        (s.rd CAL.CMDSTAT.state ≠ 1 → a < s.variant.channels → t.rd CAL.CMDSTAT.state = 1 ∧ t.rd CAL.CMDSTAT.busy = 0 ∧ t.cal.pendingCmd.isSome = true ∧
          (s.alive 0x10 = true → t.calApply.rd CAL.CMDSTAT.state = 2 ∧ t.calApply.cal.pendingCmd = none ∧ a ∉ t.calApply.terms.retiredCh)) ∧
        (s.rd CAL.CMDSTAT.state ≠ 1 → ¬ (a < s.variant.channels) → t.rd CAL.CMDSTAT.state = 3 ∧ t.cal = s.cal)) ∧
    answers (.reinstateModulator q a m) s (fun t =>
      t.status = 0 ∧ onlyChanges [.status, .page 0x01, .page 0x10, .cal] s t ∧
        (s.rd CAL.CMDSTAT.state = 1 → t.rd CAL.CMDSTAT.busy = 1 ∧ t.rd CAL.CMDSTAT.state = 1 ∧ t.cal = s.cal) ∧
        (s.rd CAL.CMDSTAT.state ≠ 1 → (a < s.variant.banks ∧ m % 8 ≤ 4) → t.rd CAL.CMDSTAT.state = 1 ∧ t.rd CAL.CMDSTAT.busy = 0 ∧ t.cal.pendingCmd.isSome = true ∧
          (s.alive 0x10 = true → t.calApply.rd CAL.CMDSTAT.state = 2 ∧ t.calApply.cal.pendingCmd = none ∧ bit (Keyed.get 0 t.calApply.terms.retiredMods a) (m % 8) = false)) ∧
        (s.rd CAL.CMDSTAT.state ≠ 1 → ¬ ((a < s.variant.banks ∧ m % 8 ≤ 4)) → t.rd CAL.CMDSTAT.state = 3 ∧ t.cal = s.cal)) ∧
    answers (.reinstateReference q a) s (fun t =>
      t.status = 0 ∧ onlyChanges [.status, .page 0x01, .page 0x10, .cal] s t ∧
        (s.rd CAL.CMDSTAT.state = 1 → t.rd CAL.CMDSTAT.busy = 1 ∧ t.rd CAL.CMDSTAT.state = 1 ∧ t.cal = s.cal) ∧
        (s.rd CAL.CMDSTAT.state ≠ 1 → a % 4 ≤ 2 → t.rd CAL.CMDSTAT.state = 1 ∧ t.rd CAL.CMDSTAT.busy = 0 ∧ t.cal.pendingCmd.isSome = true ∧
          (s.alive 0x10 = true → t.calApply.rd CAL.CMDSTAT.state = 2 ∧ t.calApply.cal.pendingCmd = none ∧ (bit t.calApply.cal.reinstate (a % 4) = true ∨ bit t.calApply.terms.failedRefs (a % 4) = false))) ∧
        (s.rd CAL.CMDSTAT.state ≠ 1 → ¬ (a % 4 ≤ 2) → t.rd CAL.CMDSTAT.state = 3 ∧ t.cal = s.cal)) ∧
    answers (.retireChannelCommand q a) s (fun t =>
      t.status = 0 ∧ onlyChanges [.status, .page 0x01, .page 0x10, .cal] s t ∧
        (s.rd CAL.CMDSTAT.state = 1 → t.rd CAL.CMDSTAT.busy = 1 ∧ t.rd CAL.CMDSTAT.state = 1 ∧ t.cal = s.cal) ∧
        (s.rd CAL.CMDSTAT.state ≠ 1 → a < s.variant.channels → t.rd CAL.CMDSTAT.state = 1 ∧ t.rd CAL.CMDSTAT.busy = 0 ∧ t.cal.pendingCmd.isSome = true ∧
          (s.alive 0x10 = true → t.calApply.rd CAL.CMDSTAT.state = 2 ∧ t.calApply.cal.pendingCmd = none ∧ a ∈ t.calApply.terms.retiredCh)) ∧
        (s.rd CAL.CMDSTAT.state ≠ 1 → ¬ (a < s.variant.channels) → t.rd CAL.CMDSTAT.state = 3 ∧ t.cal = s.cal))

/-- A field calibration starts where nothing refuses it, its run ends with the correction in 10^-9 or refused, its acceptance waits for
the store, an abort returns it, and the first copy that verifies completes it; one that does not verify is a fault, its content is written no more, and the result stays ready. -/
def Obligations.FieldCalibrationRunsThroughItsStates : Prop :=
  ∀ s : State, s.canonical →
    (∀ q : Requester, s.admits q 0x10 → s.mayFieldCal q = true → s.fcalRefusal = 0 → s.rd CAL.FCALCFG.kind ≠ 0 → answers (.fieldCalStart q) s fun t =>
      t.status = 0 ∧ t.fcalState = 1 ∧ t.rd CAL.FCALSTAT.reason = 0 ∧ t.cal.fcal.requested = true ∧ onlyChanges [.status, .page 0x01, .page 0x10, .cal] s t) ∧
    (∀ q : Requester, s.admits q 0x10 → s.mayFieldCal q = true → s.fcalRefusal ≠ 0 → answers (.fieldCalStart q) s fun t =>
      t.status = 0 ∧ t.fcalState = 5 ∧ t.rd CAL.FCALSTAT.reason = s.fcalRefusal ∧ onlyChanges [.status, .page 0x01, .page 0x10, .head 0x14] s t) ∧
    (∀ (m : Int) (bad : Bool), s.working 0x10 = true → s.cal.fcal.running = true → answers (.fieldCalRunEnd m bad) s fun t =>
      let c := roundEven ((if m < 0 then -1 else 1) * (s.rdInt CAL.FCALVAL.value * 1000000 - m) * 1000000000) m.natAbs
      t.rd CAL.IRQRAW.fcal = 1 ∧ t.cal = { s.cal with fcal := { ready := t.fcalState == 2 } } ∧ onlyChanges [.page 0x10, .head 0x14, .cal] s t ∧
        (if bad then t.fcalState = 5 ∧ t.rd CAL.FCALSTAT.reason = 3
         else if m = 0 ∨ 200000 < c.natAbs then t.fcalState = 5 ∧ t.rd CAL.FCALSTAT.reason = 4
         else t.fcalState = 2 ∧ t.rdInt CAL.FCALRES.ppb = c)) ∧
    (∀ q : Requester, s.admits q 0x10 → s.cal.fcal.ready = true → s.cal.fcal.storing = false → answers (.fieldCalAccept q) s fun t =>
      t.status = 0 ∧ t.cal.fcal.storing = true ∧ t.cal.fcal.ready = true ∧ t.fcalState = s.fcalState ∧ s.cal.writes.length < t.cal.writes.length ∧ onlyChanges [.status, .page 0x01, .cal, .nvm] s t) ∧
    (∀ q : Requester, s.admits q 0x10 → answers (.fieldCalAbort q) s fun t =>
      t.status = 0 ∧ (let c := s.cal.fcal; (c.requested = true ∨ c.running = true ∨ c.ready = true) → t.fcalState = 4 ∧ t.cal.fcal = {}) ∧
        (let c := s.cal.fcal; (c.requested = false ∧ c.running = false ∧ c.ready = false) → t.fcalState = s.fcalState ∧ t.cal = s.cal) ∧
        (let c := s.cal.fcal; (c.requested = false ∧ c.running = false ∧ c.ready = false) → s.fcalState = 3 → t.rd CAL.FCALSTAT.already_done = 1) ∧ onlyChanges [.status, .page 0x01, .page 0x10, .head 0x14, .cal, .nvm] s t) ∧
    ∀ (c : Bool) (bs : List Byte) (rest : List (Bool × List Byte)), s.cal.writes = (c, bs) :: rest → s.storeRuns .calCopy = true → bs.length ≤ 0x10000 →
      answers (.calStoreCopyVerified true) s (fun t =>
        t.cal.copy = bs ∧ t.cal.writes = rest ∧ t.rd CAL.STORESEQ.seq = copyNum bs 8 4 ∧
          (s.carries (c, bs) = true → t.fcalState = 3 ∧ t.cal.fcal = {}) ∧ (s.carries (c, bs) = false → t.fcalState = s.fcalState ∧ t.cal.fcal = s.cal.fcal) ∧ t.live = s.live ∧ t.mirror = s.mirror) ∧
      answers (.calStoreCopyVerified false) s fun t =>
        t.cal.copy = s.cal.copy ∧ t.rd CAL.FAULT.storewr = 1 ∧ (∀ w ∈ t.cal.writes, w.2 ≠ bs) ∧ (s.carries (c, bs) = true → t.cal.fcal.storing = false ∧ t.cal.fcal.ready = s.cal.fcal.ready) ∧ t.live = s.live ∧ t.mirror = s.mirror
/-! ### Alarms and the duty-engineer call -/

/-- The commands on one enabled alarm context, each in the states where it has something to do: acknowledgement moves the process layer on and
clears the unacknowledged fault, shelving and its end, removal from service and the return, the latch reset and the clearing of the false
starts. Each is applied, and its context then reports what its layers say. -/
def Obligations.AlarmCommandsActOnTheirContext : Prop :=
  ∀ (s : State) (q : Requester) (k : Nat), s.canonical → s.admits q 0x20 → s.role ≠ 3 → s.quiesced 0x20 = false → k < s.variant.contexts →
    s.rd (ALM.CTXA.enable k) = 1 →
    ((s.rd (ALM.CTXA.sf_unack k) = 1 ∨ (s.rd (ALM.CTXA.layers k) = 0 ∧ (s.rd (ALM.CTXA.process k) = 1 ∨ s.rd (ALM.CTXA.process k) = 3))) →
      (s.rd ALM.CMDARG.occ_chk = 1 → s.rd ALM.CMDARG.occ = s.rd (ALM.CTXA.occurrence k)) → answers (.acknowledge q k) s fun t =>
        t.status = 0 ∧ t.rd ALM.CMDSTAT.state = 2 ∧ t.rd ALM.IRQRAW.cmd_done = 1 ∧ t.rd (ALM.CTXA.state k) = t.reported k ∧
        t.rd (ALM.CTXA.layers k) = s.rd (ALM.CTXA.layers k) ∧
        (s.rd (ALM.CTXA.state k) = s.reported k → t.rd (ALM.CTXA.sf_unack k) = 0) ∧
        t.rd (ALM.CTXA.process k) = (if s.rd (ALM.CTXA.layers k) = 0 ∧ s.rd (ALM.CTXA.process k) = 1 then 2
          else if s.rd (ALM.CTXA.layers k) = 0 ∧ s.rd (ALM.CTXA.process k) = 3 then 0 else s.rd (ALM.CTXA.process k)) ∧ onlyChanges alarmParts s t) ∧
    (s.rd (ALM.CTXA.shelve_ok k) = 1 → s.rd (ALM.CTXA.category k) ≠ 0 → s.layer k 3 = false → 1 ≤ s.rd ALM.CMDARG.duration →
      s.rd ALM.CMDARG.duration ≤ 86400 → answers (.shelve q k) s fun t =>
        t.status = 0 ∧ t.rd ALM.CMDSTAT.state = 2 ∧ t.rd ALM.IRQRAW.cmd_done = 1 ∧ t.rd (ALM.CTXA.state k) = t.reported k ∧
        t.layer k 2 = true ∧ t.rd (ALM.CTXA.shelve_left k) = s.rd ALM.CMDARG.duration * 100 ∧ onlyChanges alarmParts s t) ∧
    (s.layer k 2 = true → answers (.unshelve q k) s fun t =>
      t.status = 0 ∧ t.rd ALM.CMDSTAT.state = 2 ∧ t.rd ALM.IRQRAW.cmd_done = 1 ∧ t.rd (ALM.CTXA.state k) = t.reported k ∧
        t.layer k 2 = false ∧ t.rd (ALM.CTXA.shelve_left k) = 0 ∧ onlyChanges alarmParts s t) ∧
    (s.layer k 3 = false → answers (.outOfService q k) s fun t =>
      t.status = 0 ∧ t.rd ALM.CMDSTAT.state = 2 ∧ t.rd ALM.IRQRAW.cmd_done = 1 ∧ t.rd (ALM.CTXA.state k) = t.reported k ∧
        t.layer k 3 = true ∧ t.rd (ALM.CTXA.state k) = 6 ∧ onlyChanges alarmParts s t) ∧
    (s.layer k 3 = true → answers (.returnToService q k) s fun t =>
      t.status = 0 ∧ t.rd ALM.CMDSTAT.state = 2 ∧ t.rd ALM.IRQRAW.cmd_done = 1 ∧ t.rd (ALM.CTXA.state k) = t.reported k ∧
        t.layer k 3 = false ∧ t.rd (ALM.CTXA.process k) = 0 ∧ t.rd (ALM.CTXA.q k) = 0 ∧ t.rd (ALM.CTXA.latched k) = 0 ∧ onlyChanges alarmParts s t) ∧
    (s.rd (ALM.CTXA.latched k) = 1 → s.rd (ALM.CTXA.process k) ≠ 1 → s.rd (ALM.CTXA.layers k) = 0 → answers (.latchReset q k) s fun t =>
      t.status = 0 ∧ t.rd ALM.CMDSTAT.state = 2 ∧ t.rd ALM.IRQRAW.cmd_done = 1 ∧ t.rd (ALM.CTXA.state k) = t.reported k ∧
        t.rd (ALM.CTXA.process k) = 0 ∧ t.rd (ALM.CTXA.latched k) = 0 ∧ onlyChanges alarmParts s t) ∧
    ((s.rd (ALM.CTXA.false_starts k) ≠ 0 ∨ s.rd (ALM.CTXA.fs_ovf k) = 1) → answers (.clearFalseStarts q k) s fun t =>
      t.status = 0 ∧ t.rd ALM.CMDSTAT.state = 2 ∧ t.rd ALM.IRQRAW.cmd_done = 1 ∧
        t.rd (ALM.CTXA.false_starts k) = 0 ∧ t.rd (ALM.CTXA.fs_ovf k) = 0 ∧ onlyChanges alarmParts s t)

/-- The commands on groups: an acknowledgement by command, by the group's input or of everything acknowledges every open context of its set
and no other, silencing stops the horn until a context becomes unacknowledged, a reset clears the first-out, and a re-scan runs until it is
complete or the queue holds 192 entries, but not in a flood. -/
def Obligations.AlarmGroupCommandsActOnTheirMembers : Prop :=
  ∀ (s : State) (q : Requester) (g : Nat), s.canonical → s.admits q 0x20 → s.role ≠ 3 → s.quiesced 0x20 = false → s.alarm.changes = [] →
    (g < 64 → s.rd (ALM.GRP.enable g) = 1 → answers (.acknowledgeGroup q g) s fun t =>
      let ks := s.members g
      let openCtx : Nat → Bool := fun k => s.rd (ALM.CTXA.layers k) == 0 && (s.rd (ALM.CTXA.process k) == 1 || s.rd (ALM.CTXA.process k) == 3)
      t.rd ALM.CMDSTAT.state = (if ks.any fun k => openCtx k || s.flag (ALM.CTXA.sf_unack k) then 2 else 3) ∧ t.rd ALM.IRQRAW.cmd_done = 1 ∧
        (∀ k, k ∈ List.range s.variant.contexts → t.rd (ALM.CTXA.process k) =
          if k ∈ ks ∧ openCtx k then (if s.rd (ALM.CTXA.process k) = 1 then 2 else 0) else s.rd (ALM.CTXA.process k)) ∧
        onlyChanges alarmParts s t) ∧
    (answers (.acknowledgeAll q) s fun t =>
      let ks := s.almEnabled
      let openCtx : Nat → Bool := fun k => s.rd (ALM.CTXA.layers k) == 0 && (s.rd (ALM.CTXA.process k) == 1 || s.rd (ALM.CTXA.process k) == 3)
      t.rd ALM.CMDSTAT.state = (if ks.any fun k => openCtx k || s.flag (ALM.CTXA.sf_unack k) then 2 else 3) ∧ t.rd ALM.IRQRAW.cmd_done = 1 ∧
        (∀ k, k ∈ List.range s.variant.contexts → t.rd (ALM.CTXA.process k) =
          if k ∈ ks ∧ openCtx k then (if s.rd (ALM.CTXA.process k) = 1 then 2 else 0) else s.rd (ALM.CTXA.process k)) ∧
        onlyChanges alarmParts s t) ∧
    (g < 64 → s.rd (ALM.GRP.enable g) = 1 → s.pinReads (s.rd (ALM.GRP.ackin g)) true = true → answers (.groupAckInput g) s fun t =>
      let ks := s.members g
      let openCtx : Nat → Bool := fun k => s.rd (ALM.CTXA.layers k) == 0 && (s.rd (ALM.CTXA.process k) == 1 || s.rd (ALM.CTXA.process k) == 3)
      t.rd ALM.CMDSTAT.state = (if ks.any fun k => openCtx k || s.flag (ALM.CTXA.sf_unack k) then 2 else 3) ∧ t.rd ALM.IRQRAW.cmd_done = 1 ∧
        (∀ k, k ∈ List.range s.variant.contexts → t.rd (ALM.CTXA.process k) =
          if k ∈ ks ∧ openCtx k then (if s.rd (ALM.CTXA.process k) = 1 then 2 else 0) else s.rd (ALM.CTXA.process k)) ∧
        onlyChanges alarmParts s t) ∧
    (g < 64 → s.rd (ALM.GRP.enable g) = 1 → s.rd (ALM.GRP.silenced g) = 0 → s.alarm.became = [] → answers (.silenceHorn q g) s fun t =>
      t.status = 0 ∧ t.rd ALM.CMDSTAT.state = 2 ∧ t.rd (ALM.GRP.silenced g) = 1 ∧ t.rd (ALM.GRP.horn_on g) = 0 ∧
        (∀ h, h ∈ List.range 64 → h ≠ g → t.rd (ALM.GRP.silenced h) = s.rd (ALM.GRP.silenced h))) ∧
    (g < 64 → s.rd (ALM.GRP.enable g) = 1 → s.rd (ALM.GRP.fo_valid g) = 1 → answers (.resetFirstOut q g) s fun t =>
      t.status = 0 ∧ t.rd ALM.CMDSTAT.state = 2 ∧ t.rd (ALM.GRP.fo_valid g) = 0 ∧
        (∀ h, h ∈ List.range 64 → h ≠ g → t.rd (ALM.GRP.fo_valid h) = s.rd (ALM.GRP.fo_valid h))) ∧
    answers (.rescanCommand q) s fun t =>
      t.status = 0 ∧ t.rd ALM.CMDSTAT.state = 2 ∧
        (if s.flooded then t.alarm.rescan = some 0 ∧ t.rd ALM.NQSTAT.rescan = 1
         else s.dmaHolds = false → t.alarm.rescan = none ∨ 192 ≤ t.nqOccupancy) ∧
        onlyChanges alarmParts s t

/-- A delivered lap is evaluated and its evaluation ends: every enabled context reports what its layers say unless the holder's state waits to replace it, the time the evaluation took is kept
and one above 20,000 cycles is a fault. The lamps that flash are lit in the first half of each second. A release moves the notification queue's index within what the queue holds, and is ignored outside it. -/
def Obligations.EvaluationsEndAndTheQueueIsReleased : Prop :=
  ∀ s : State, s.canonical →
    (∀ n : Nat, s.lapDelivered = true → s.rd PWR.STAT.saving = 0 → s.pwr.restoring = false → s.working 0x20 = true →
      answers (.almEvaluation n) s fun t =>
        t.lap.evalDone = true ∧ t.rd ALM.EVALTIME.cycles = n % 2 ^ ALM.EVALTIME.cycles.w ∧ t.rd ALM.EVALLAP.lap = s.lapCount % 2 ^ ALM.EVALLAP.lap.w ∧
          (20000 < n → t.rd ALM.FAULT.evaltime = 1) ∧
          (s.pair.mirrorReady = none → ∀ k, k ∈ s.almEnabled → t.rd (ALM.CTXA.state k) = t.reported k) ∧ (s.arith.owed = [] → t.lap = { s.lap with evalDone := true }) ∧ t.live = s.live ∧ t.store = s.store ∧ t.mirror = s.mirror) ∧
    answers .lampFlashEdge s (fun t => t.alarm = { s.alarm with driven := t.alarm.driven } ∧ onlyChanges [.alarm] s t ∧ (s.working 0x20 = false → t = s) ∧
      (s.working 0x20 = true → ∀ (g : Nat) (c : GroupCfg), Keyed.get? s.alarm.groups g = some c → s.rd (ALM.GRP.horn_on g) = 0 → s.rd (ALM.GRP.lamp_st g) = 2 → c.lamp < 48 →
        (Keyed.get? t.alarm.driven g).map (fun m => bit m c.lamp) = some (decide (s.stime % 1000000 < 500000)))) ∧
    ∀ (q : Requester) (i : Nat), s.admits q 0x20 → answers (.nqRelease q i) s fun t =>
      t.status = 0 ∧ t.rd ALM.NQREL.index =
        (if i < 512 ∧ (i + 512 - s.rd ALM.NQREL.index) % 512 ≤ s.nqOccupancy then i else s.rd ALM.NQREL.index) ∧
        onlyChanges [.page 0x01, .status, .page 0x20, .alarm] s t

/-- The commands of CALL, told by the state that its evaluation leaves before them: the acknowledgement answers a call that drives its call
point, an offer names the engineer who may take the duty, the confirmation from that engineer's call point makes him the duty engineer, a
cancelled offer fails, and the personnel alarm is armed, disarmed and reset. -/
def Obligations.CallCommandsFollowTheCall : Prop :=
  ∀ (s : State) (q : Requester) (cp e : Nat), s.canonical → s.admits q 0x28 → s.role ≠ 3 → s.quiesced 0x28 = false →
    let u := { s.awake with status := 0 }.callEvaluate
    (cp < 32 → bit (u.rd CALL.CPDRIVE.cp) cp = true → 1 ≤ u.rd CALL.STATE.stage → u.rd CALL.STATE.stage ≤ 3 → answers (.callAcknowledge q cp) s fun t =>
      t.status = 0 ∧ t.rd CALL.CMDSTAT.state = 2 ∧ t.rd CALL.IRQRAW.answered = 1 ∧ t.call.tAns = s.stime % 2 ^ 48 ∧ onlyChanges callParts s t) ∧
    (cp < 32 → e < 16 → u.onRoster e = true → u.rd CALL.STATE.duty ≠ e → u.rd CALL.STATE.relay_pend = 0 → answers (.dutyOffer q cp e) s fun t =>
      t.status = 0 ∧ t.rd CALL.CMDSTAT.state = 2 ∧ (0 < s.rd CALL.TIMES2.relay_to → t.rd CALL.STATE.relay_pend = 1 ∧ t.rd CALL.STATE.relay_tgt = e ∧
        t.call.tOffer = s.stime % 2 ^ 48) ∧ onlyChanges callParts s t) ∧
    (cp < 32 → u.rd CALL.STATE.relay_pend = 1 → cp ∈ u.cpsOf (u.rd CALL.STATE.relay_tgt) → answers (.dutyConfirm q cp) s fun t =>
      t.status = 0 ∧ t.rd CALL.CMDSTAT.state = 2 ∧ t.rd CALL.STATE.duty = u.rd CALL.STATE.relay_tgt ∧ t.rd CALL.STATE.relay_pend = 0 ∧
        t.rd CALL.IRQRAW.relay_done = 1 ∧ onlyChanges callParts s t) ∧
    (u.rd CALL.STATE.relay_pend = 1 → answers (.offerCancel q) s fun t =>
      t.status = 0 ∧ t.rd CALL.CMDSTAT.state = 2 ∧ t.rd CALL.STATE.relay_pend = 0 ∧ t.rd CALL.IRQRAW.relay_fail = 1 ∧ onlyChanges callParts s t) ∧
    (u.rd CALL.PERS.enable = 1 → u.rd CALL.STATE.pers = 0 → answers (.personnelArm q) s fun t =>
      t.status = 0 ∧ t.rd CALL.CMDSTAT.state = 2 ∧ t.call.tReset = s.stime % 2 ^ 48 ∧ (0 < s.rd CALL.PERS.interval → t.rd CALL.STATE.pers = 1) ∧
        onlyChanges callParts s t) ∧
    (u.rd CALL.STATE.pers ≠ 0 → answers (.personnelDisarm q) s fun t =>
      t.status = 0 ∧ t.rd CALL.CMDSTAT.state = 2 ∧ t.rd CALL.STATE.pers = 0 ∧ onlyChanges callParts s t) ∧
    (u.rd CALL.STATE.pers ≠ 0 → answers (.personnelReset q) s fun t =>
      t.status = 0 ∧ t.rd CALL.CMDSTAT.state = 2 ∧ t.call.tReset = s.stime % 2 ^ 48 ∧
        (0 < s.rd CALL.PERS.interval → s.rd CALL.PERS.enable = 1 → t.rd CALL.STATE.pers = 1) ∧ onlyChanges callParts s t)

/-- The pins and events of CALL: an acknowledge pin answers the call, the arm and reset pins act on the personnel alarm, an offer that is not
confirmed in time fails, a lost call point is shown, a demand that is not refreshed keeps its value, and a node that is not the master sends
its own with the next sequence number of that type. -/
def Obligations.CallPinsAndEventsAct : Prop :=
  ∀ s : State, s.canonical →
    (s.alive 0x28 = true → s.quiesced 0x28 = false → let u := s.callEvaluate
      (∀ cp : Nat, cp < 32 → s.rd (CALL.CP.enable cp) = 1 → s.rd (CALL.CP.watch cp) = 0 → s.pinReads (s.rd (CALL.CP.ack_pin cp)) true = true →
        bit (u.rd CALL.CPDRIVE.cp) cp = true → 1 ≤ u.rd CALL.STATE.stage → u.rd CALL.STATE.stage ≤ 3 → answers (.callPointAckInput cp) s fun t =>
          t.rd CALL.CMDSTAT.state = 2 ∧ t.rd CALL.IRQRAW.answered = 1 ∧ t.call.tAns = s.stime % 2 ^ 48 ∧
            onlyChanges [.page 0x28, .call, .head 0x14, .head 0x24, .head 0x20, .alarm] s t) ∧
      (∀ up : Bool, s.rd CALL.PERS.enable = 1 → s.pinReads (s.rd CALL.PERS.arm_pin) up = true → 0 < s.rd CALL.PERS.interval →
        answers (.armPinChange up) s fun t =>
          (if up then (u.rd CALL.STATE.pers = 0 → t.rd CALL.STATE.pers = 1 ∧ t.call.tReset = s.stime % 2 ^ 48) else t.rd CALL.STATE.pers = 0) ∧
            onlyChanges [.page 0x28, .call, .head 0x14, .head 0x24, .head 0x20, .alarm] s t) ∧
      (s.rd CALL.PERS.enable = 1 → s.pinReads (s.rd CALL.PERS.reset_pin) true = true → 0 < s.rd CALL.PERS.interval → u.rd CALL.STATE.pers ≠ 0 →
        answers (.resetPinEdge none) s fun t => t.rd CALL.STATE.pers = 1 ∧ t.call.tReset = s.stime % 2 ^ 48 ∧
          onlyChanges [.page 0x28, .call, .head 0x14, .head 0x24, .head 0x20, .alarm] s t) ∧
      (∀ cp : Nat, s.rd CALL.PERS.enable = 1 → cp < 32 → s.rd (CALL.CP.enable cp) = 1 → s.rd (CALL.CP.watch cp) = 1 → s.pinReads (s.rd (CALL.CP.ack_pin cp)) true = true →
        0 < s.rd CALL.PERS.interval → u.rd CALL.STATE.pers ≠ 0 → answers (.resetPinEdge (some cp)) s fun t => t.rd CALL.STATE.pers = 1 ∧ t.call.tReset = s.stime % 2 ^ 48 ∧
          onlyChanges [.page 0x28, .call, .head 0x14, .head 0x24, .head 0x20, .alarm] s t)) ∧
    (s.working 0x28 = true → s.rd CALL.STATE.relay_pend = 1 → answers .offerTimeout s fun t =>
      t.rd CALL.STATE.relay_pend = 0 ∧ t.rd CALL.IRQRAW.relay_fail = 1 ∧ onlyChanges [.page 0x28, .head 0x14] s t) ∧
    (∀ cp : Nat, s.alive 0x28 = true → cp < 32 → s.rd (CALL.CP.enable cp) = 1 → (s.rd (CALL.CP.kind cp) = 1 ∨ s.rd (CALL.CP.kind cp) = 3 ∨ (s.rd (CALL.CP.kind cp) = 2 ∧ s.rd (CALL.CP.out_pin cp) = 0x3F)) → answers (.callPointLost cp) s fun t =>
      bit (t.rd CALL.CPLOST.cp) cp = true ∧ t.rd CALL.IRQRAW.cp_lost = 1 ∧
        (∀ j, j ∈ List.range 32 → j ≠ cp → bit (t.rd CALL.CPLOST.cp) j = bit (s.rd CALL.CPLOST.cp) j) ∧ onlyChanges [.page 0x28, .head 0x14, .head 0x24, .head 0x20] s t) ∧
    (∀ n : Nat, s.alive 0x28 = true → s.rd CALL.CFG.master = 1 → (Keyed.get? s.call.demands n).isSome = true → answers (.demandStale n) s fun t =>
      t.rd CALL.IRQRAW.demand_stale = 1 ∧ t.call = s.call ∧ onlyChanges [.head 0x14] s t) ∧
    (s.alive 0x28 = true → s.rd CALL.CFG.master = 0 → s.maySend 3 = true → answers .demandSend s fun t =>
      t.call = { s.call with sentDemand := some (s.flag CALL.STATE.demand) } ∧ t.rd CALL.STATE.demand = s.rd CALL.STATE.demand ∧ t.live = s.live ∧
      (s.msg.records = [] → t.msg.formed + t.msg.waiting.length = s.msg.formed + s.msg.waiting.length + 1 ∧
        Keyed.get 0 t.msg.seqs 3 = (Keyed.get 0 s.msg.seqs 3 + 1) % 256))
/-! ### Field channels and the jacket link -/

/-- A readback sample is shown, joins an open window, and moves the runs that its flags follow; the end of a window passes its mean to ARITH;
a host value is kept, and drives a channel that follows it; a stage above 150 °C is switched off until it is below 130 °C. -/
def Obligations.LoopChannelsSampleDriveAndProtect : Prop :=
  ∀ (s : State) (u : Nat), s.canonical → u < 8 →
    (∀ (rb tv : Int) (sat : Bool), s.alive 0x18 = true → u < s.variant.loops → s.loopMode u ≠ 0 → answers (.readbackSample u rb tv sat) s fun t =>
      let m := s.loopMode u
      t.rd (UIO.RB.rb u) = unsigned (UIO.RB.rb u).w rb ∧ t.rd (UIO.TV.tv u) = unsigned (UIO.TV.tv u).w tv ∧
        (t.loop u).satRun = (if sat = true ∧ s.loopOff u = false ∧ (m = 1 ∨ m = 3 ∨ m = 4 ∨ m = 5) then (s.loop u).satRun + 1 else 0) ∧
        ((t.loop u).satRun = 2 → t.rd (UIO.STAT.compliance u) = 1) ∧ (10 ≤ (t.loop u).clearRun → t.rd (UIO.STAT.compliance u) = 0) ∧
        (10 ≤ (t.loop u).lowRun → t.rd (UIO.STAT.loop_low u) = 1) ∧ (10 ≤ (t.loop u).highRun → t.rd (UIO.STAT.loop_low u) = 0) ∧
        (0 < s.rd UIO.CFG.fault_ms →
          ((t.loop u).matchRun = 0 → s.rd UIO.CFG.fault_ms ≤ (t.loop u).mismatch → t.rd (UIO.STAT.outflt u) = 1) ∧
          (s.rd UIO.CFG.fault_ms ≤ (t.loop u).matchRun → t.rd (UIO.STAT.outflt u) = 0)) ∧
        ((s.loop u).winOpen = true →
          (t.loop u).winSum = (s.loop u).winSum + rb ∧ (t.loop u).winCount = (s.loop u).winCount + 1) ∧
        onlyChanges [.loops, .page 0x18, .head 0x14, .head 0x24, .head 0x20] s t) ∧
    (s.alive 0x18 = true → s.alive 0x11 = true → s.quiesced 0x11 = false → (s.loop u).winOpen = true → answers (.loopWindowEnd u) s fun t =>
      (t.loop u).winOpen = false ∧ t.arith.queue.dropLast = s.arith.queue ∧
        (t.arith.queue.getLast?.map fun e => (e.kind, e.ch, e.lap, e.n)) = some (.loop, 512 + u, (s.loop u).winLap, max 1 (s.loop u).winCount) ∧
        (0 < (s.loop u).winCount → (t.arith.queue.getLast?.map ConvEntry.sum) = some (s.loop u).winSum) ∧
        onlyChanges [.freeCount, .loops, .lap, .page 0x11, .head 0x14, .arith] s t) ∧
    (∀ (q : Requester) (v : Int), s.admits q 0x18 → answers (.loopSetWrite q u v) s fun t =>
      t.status = 0 ∧ t.rd (UIO.SET.set_ u) = unsigned (UIO.SET.set_ u).w v ∧
        t.rd (UIO.OUT.out u) = (if s.loopFrom u 0 then unsigned (UIO.OUT.out u).w (clampSet (s.loopMode u) v) else s.rd (UIO.OUT.out u)) ∧
        onlyChanges [.status, .page 0x01, .page 0x18, .loops] s t) ∧
    ∀ c : Int, s.alive 0x18 = true → u < s.variant.loops → answers (.stageThermal u c) s fun t =>
      (150 < c → t.rd (UIO.STAT.thermal u) = 1 ∧ t.rd UIO.FAULT.thermal = 1 ∧
        ((s.loop u).started = true → s.jkt.vstate ≠ 2 → t.rd (UIO.STAT.row u) = 3)) ∧
      (c < 130 → t.rd (UIO.STAT.thermal u) = 0) ∧ (130 ≤ c → c ≤ 150 → t = s) ∧
      onlyChanges [.loops, .page 0x18, .head 0x24, .head 0x14, .head 0x20] s t

/-- Digital pins: an input's counter moves between 0 and its threshold and a change is queued with its time, or counted as lost where the queue is full, an output that trips is off with
its whole group until its restart, the tests and confirmations set their flags and count, and a flag clears by its own condition; the host's
values are kept as written, and the supply of the field changes its state at 16.8, 17.3, 18.0 and 18.5 V. -/
def Obligations.DigitalPinsFollowTheirRules : Prop :=
  ∀ (s : State) (p : Nat), s.canonical → s.alive 0x19 = true → p < s.variant.pins →
    (∀ r : Bool, s.copyRd (DIO.PIN.dir p) = 1 → 0 < s.copyRd (DIO.PIN.thr p) → s.jkt.vstate ≠ 2 → answers (.inputSample p r) s fun t =>
      let f := s.fieldPin p
      let n := if r then min (f.count + 1) (s.copyRd (DIO.PIN.thr p)) else f.count - 1
      (t.fieldPin p).count = n ∧
        (t.fieldPin p).s = ((f.s || decide (n = s.copyRd (DIO.PIN.thr p))) && decide (s.copyRd (DIO.PIN.lo p) < n)) ∧
        ((t.fieldPin p).s = f.s → t.jkt.events = s.jkt.events) ∧
        ((t.fieldPin p).s ≠ f.s → s.jkt.events.length < 64 →
          t.jkt.events = s.jkt.events ++ [⟨p, (t.fieldPin p).s, !t.fieldValid p, s.jkt.time, s.jkt.lateNext.contains p⟩]) ∧
        ((t.fieldPin p).s ≠ f.s → 64 ≤ s.jkt.events.length → t.jkt.events = s.jkt.events ∧ t.jkt.lost = s.jkt.lost + 1 ∧ p ∈ t.jkt.lateNext) ∧
        ((t.fieldPin p).s ≠ f.s → s.jkt.fHold ≠ 0 → s.copyRd (DIO.PIN.wake p) = 1 → t.jkt.wakeLine = true) ∧ onlyChanges [.jkt] s t) ∧
    (∀ hot : Bool, s.isOutput p = true → (s.fieldPin p).driven = true → bit s.jkt.commanded p = true →
      answers (.outputTrip p hot) s fun t =>
        (if hot then (t.fieldPin p).therm = true else (t.fieldPin p).short = true) ∧ (t.fieldPin p).trip ≠ 0 ∧ (t.fieldPin p).driven = false ∧
          (∀ k, k ∈ s.pinGroup p → k < s.variant.pins → (t.fieldPin k).driven = false) ∧
          (s.linkLost = false → (if hot then t.nth DIO.THERM.flag p = true else t.nth DIO.SHORT.flag p = true)) ∧
          onlyChanges [.jkt, .page 0x19, .head 0x14, .head 0x24, .head 0x20] s t) ∧
    ((s.fieldPin p).trip ≠ 0 → p ∈ s.pinGroup p → answers (.outputRestart p) s fun t =>
      (t.fieldPin p).trip = 0 ∧ (t.fieldPin p).therm = false ∧ t.rd DIO.TRIPCNT.count = min (s.rd DIO.TRIPCNT.count + 1) (2 ^ DIO.TRIPCNT.count.w - 1) ∧
        onlyChanges [.jkt, .page 0x19, .head 0x14, .head 0x24, .head 0x20] s t) ∧
    (∀ mv : Nat, s.isOutput p = true → s.copyRd (DIO.PIN.wb_en (s.pinHead p)) = 1 → s.expectedOf p = false → s.holds = true →
      answers (.wireBreakTest p mv) s fun t =>
        (t.fieldPin p).tests = (if 3000 < mv then (s.fieldPin p).tests + 1 else 0) ∧
          (t.fieldPin p).openOff = (if 3000 < mv then (s.fieldPin p).openOff || decide (1 ≤ (s.fieldPin p).tests) else false) ∧ (t.fieldPin p).open_ = (s.fieldPin p).open_ ∧
          (s.linkLost = false → t.nth DIO.OPEN.flag p = ((t.fieldPin p).open_ || (t.fieldPin p).openOff)) ∧
          onlyChanges [.page 0x19, .head 0x14, .head 0x24, .head 0x20, .jkt] s t) ∧
    (s.isOutput p = true → bit s.jkt.commanded p = true → s.copyRd (DIO.PIN.ol_en (s.pinHead p)) = 1 → answers (.openLoadConfirm p) s fun t =>
      (t.fieldPin p).open_ = true ∧ (s.linkLost = false → t.nth DIO.OPEN.flag p = true) ∧
        onlyChanges [.page 0x19, .head 0x14, .head 0x24, .head 0x20, .jkt] s t) ∧
    (s.isOutput p = true → s.expectedOf p = false → s.linkLost = false → s.nth DIO.EXTDRV.flag (s.pinHead p) = false → answers (.extdrvConfirm p) s fun t =>
      t.nth DIO.EXTDRV.flag (s.pinHead p) = true ∧ t.rd DIO.IRQRAW.extdrv = 1 ∧ t.rd DIO.FAULT.extdrv = 1 ∧
        t.rd DIO.EXTCNT.count = min (s.rd DIO.EXTCNT.count + 1) (2 ^ DIO.EXTCNT.count.w - 1) ∧
        onlyChanges [.jkt, .head 0x24, .head 0x14, .page 0x19, .head 0x20] s t) ∧
    (s.isOutput p = true → s.paired = true → s.rd PAIR.STAT.link = 1 → s.linkLost = false → s.nth DIO.SHORT.flag p = false → s.nth DIO.THERM.flag p = false →
      s.nth DIO.EXTDRV.flag (s.pinHead p) = false → s.nth DIO.DISAGREE.flag (s.pinHead p) = false → answers (.disagreeConfirm p) s fun t =>
        t.nth DIO.DISAGREE.flag (s.pinHead p) = true ∧ t.rd DIO.IRQRAW.disagree = 1 ∧ t.rd DIO.FAULT.disagree = 1 ∧
          t.rd DIO.DISCNT.count = min (s.rd DIO.DISCNT.count + 1) (2 ^ DIO.DISCNT.count.w - 1) ∧
          onlyChanges [.head 0x24, .head 0x14, .page 0x19, .head 0x20] s t) ∧
    (answers (.outputFlagClear p 0) s (fun t => (t.fieldPin p).open_ = false ∧ (s.linkLost = false → t.nth DIO.OPEN.flag p = (s.fieldPin p).openOff)) ∧
      answers (.outputFlagClear p 1) s (fun t => t.nth DIO.EXTDRV.flag (s.pinHead p) = false ∧ onlyChanges [.jkt, .page 0x19] s t) ∧
      answers (.outputFlagClear p 2) s (fun t => t.nth DIO.DISAGREE.flag (s.pinHead p) = false ∧ onlyChanges [.page 0x19] s t) ∧
      answers (.outputFlagClear p 3) s fun t =>
        ((s.fieldPin p).driven = true → (t.fieldPin p).short = false ∧ (s.linkLost = false → t.nth DIO.SHORT.flag p = false)) ∧
          ((s.fieldPin p).driven = false → t = s)) ∧
    (∀ (q : Requester) (v : Word), s.admits q 0x19 → answers (.outsetWrite q 0 v) s (fun t =>
        t.status = 0 ∧ t.rd (DIO.OUTSET.set_ 0) = v.toNat ∧ onlyChanges [.status, .page 0x01, .page 0x19] s t) ∧
      answers (.outsetWrite q 1 v) s fun t =>
        t.status = 0 ∧ t.rd (DIO.OUTSET.set_ 1) = v.toNat % 65536 ∧ onlyChanges [.status, .page 0x01, .page 0x19] s t) ∧
    ∀ (mv : Nat) (c : Int), answers (.vfieldMeasure mv c) s fun t =>
      let m := meanOf (mv :: s.jkt.volts.take 3)
      t.jkt.volts = mv :: s.jkt.volts.take 3 ∧ t.jkt.temp = c ∧
        (m < 16800 → t.jkt.vstate = 2) ∧ (s.jkt.vstate = 2 → 16800 ≤ m → t.jkt.vstate = if m < 17300 then 2 else 3) ∧
        (s.jkt.vstate = 0 → 16800 ≤ m → t.jkt.vstate = if m < 18000 then 1 else 0) ∧
        (s.jkt.vstate = 1 → 16800 ≤ m → t.jkt.vstate = if m < 18500 then 1 else 0) ∧
        (s.jkt.vstate ≠ 2 → m < 16800 → t.rd DIO.IRQRAW.vfield_low = 1 ∧ t.rd DIO.FAULT.vfield = 1) ∧
        (s.linkLost = false → t.rd DIO.VFIELD.state = t.jkt.vstate % 4 ∧ t.rd DIO.VFIELD.mv = m % 2 ^ DIO.VFIELD.mv.w) ∧
        onlyChanges [.jkt, .head 0x14, .head 0x24, .head 0x20, .page 0x18, .loops, .page 0x19] s t

/-- The jacket link carries both directions: the frame of a slot is sealed by its CRC and holds the commanded states; a good one is taken at
the field end, another is an error there; undisturbed frames give the field end the logic end's commands, and, once the link is up, the logic
end every input's filtered state; a frame that is missing is an error, and forty in a row are a fault of that end. -/
def Obligations.TheJacketCarriesCommandsAndStates : Prop :=
  ∀ s : State, s.canonical →
    (s.alive 0x1A = true → answers .jacketDownstreamFrame s fun t =>
      frameGood t.jkt.wire = true ∧ ofBytesLE ((t.jkt.wire.drop 4).take 6) = s.commands ∧
        t.jkt.seq = (if s.jkt.sent then (s.jkt.seq + 1) % 256 else 0) ∧
        (s.jkt.sent = true → s.jkt.heard.isSome = true → s.jkt.acked ≠ s.jkt.seq → t.jkt.last = s.jkt.last ∧
          t.rd JKT.RETRYCNT.count = min (s.rd JKT.RETRYCNT.count + 1) (2 ^ JKT.RETRYCNT.count.w - 1)) ∧
        (s.alive 0x19 = true → answers (.jacketFrameAtField []) t fun f => f.jkt.commanded = s.commands ∧ f.jkt.fErrors = 0 ∧
          f.jkt.fHeard = some t.jkt.seq ∧ f.jkt.fHold = s.holdNow) ∧
        onlyChanges [.page 0x1A, .head 0x14, .jkt, .head 0x24, .head 0x20, .pair] s t) ∧
    (∀ noise : List Byte, s.alive 0x19 = true → s.jkt.wire ≠ [] → answers (.jacketFrameAtField noise) s fun t =>
      let f := disturbed s.jkt.wire noise
      (frameGood f = true → t.jkt.fErrors = 0 ∧ t.jkt.commanded = ofBytesLE ((f.drop 4).take 6) ∧ t.jkt.fHeard = some (ofBytesLE (f.take 1))) ∧
        (frameGood f = false → t.jkt.fErrCount = (s.jkt.fErrCount + 1) % 65536 ∧ t.jkt.commanded = s.jkt.commanded ∧ t.jkt.config = s.jkt.config ∧
          (s.alive 0x1A = true → t.rd JKT.ERRCNT.count = min (s.rd JKT.ERRCNT.count + 1) (2 ^ JKT.ERRCNT.count.w - 1))) ∧
        onlyChanges [.jkt, .page 0x19, .page 0x18, .loops, .page 0x1A, .head 0x14] s t) ∧
    (s.alive 0x1A = true → s.alive 0x19 = true → answers (.jacketUpstreamFrame []) s fun t =>
      let after := (linkAfterGood (if s.rd JKT.STAT.link = 4 then 1 else s.rd JKT.STAT.link) s.jkt.good s.jkt.echo).2
      t.rd JKT.STAT.consec = 0 ∧ t.rd JKT.FTIME.us = s.jkt.time % 2 ^ 32 ∧
        t.rd JKT.STAT.link = (if after = 1 ∧ s.jkt.follow = false then 4 else after) ∧
        (after = 1 ∨ after = 2 → ∀ p, p ∈ s.pinList → s.isInput p = true → t.nth DIO.STATE.state p = (s.fieldPin p).s) ∧
        (after ≠ 1 → after ≠ 2 → ∀ p, p ∈ s.pinList → t.nth DIO.STATE.state p = s.nth DIO.STATE.state p) ∧
        onlyChanges [.jkt, .page 0x1A, .head 0x14, .head 0x24, .head 0x20, .page 0x19, .page 0x18, .loops, .freeCount, .page 0x38] s t) ∧
    (s.alive 0x19 = true → s.jkt.fHold = 0 → answers (.jacketFrameMissing true) s fun t =>
      t.jkt.fErrors = s.jkt.fErrors + 1 ∧ t.jkt.fGood = 0 ∧
        (39 ≤ s.jkt.fErrors → (s.jkt.fLink = 1 ∨ s.jkt.fLink = 2) → t.jkt.fLink = 3 ∧ t.jkt.failact = true) ∧
        onlyChanges [.jkt, .page 0x19, .page 0x18, .loops, .page 0x1A, .head 0x14] s t) ∧
    (s.alive 0x19 = true → s.jkt.fHold ≠ 0 → answers (.jacketFrameMissing true) s fun t =>
      t.jkt.fErrors = s.jkt.fErrors ∧ t.jkt.fLink = s.jkt.fLink ∧ t.jkt.fErrCount = (s.jkt.fErrCount + 1) % 65536 ∧
        onlyChanges [.jkt, .page 0x19, .page 0x1A, .head 0x14] s t) ∧
    (s.alive 0x1A = true → answers (.jacketFrameMissing false) s fun t =>
      t.rd JKT.STAT.consec = min 255 (s.rd JKT.STAT.consec + 1) ∧ t.rd JKT.ERRCNT.count = min (s.rd JKT.ERRCNT.count + 1) (2 ^ JKT.ERRCNT.count.w - 1) ∧
        (39 ≤ s.rd JKT.STAT.consec → (s.rd JKT.STAT.link = 1 ∨ s.rd JKT.STAT.link = 2 ∨ s.rd JKT.STAT.link = 4) →
          t.rd JKT.STAT.link = 3 ∧ t.rd JKT.FAULT.link = 1 ∧ t.jkt.follow = false) ∧
        onlyChanges [.jkt, .page 0x1A, .page 0x18, .loops, .page 0x19, .head 0x14, .head 0x24, .head 0x20, .page 0x38] s t)
/-! ### The redundant pair -/

/-- What a node of a pair takes from its partner's frames: the partner's claim, score, role and readiness from LEASE, the boundary from LAPMARK, the
sources from EXCREP, the outcome of a record from DIGEST, the end of an evaluation, the answer to a forwarded command, a command for the holder (an
acknowledgement acts on its context), a register access, a committed page, and the blocks of an image. -/
def Obligations.FramesOfThePartnerTakeEffect : Prop :=
  ∀ (s : State) (lane : Nat), s.canonical → lane < 2 → s.alive 0x38 = true → s.paired = true →
    (∀ b : List Byte, b.length = 40 → field b 0 2 % 1024 = s.rd PAIR.CFG.partner → answers (.leaseReceived lane b) s fun t =>
      t.rd PAIR.STAT.partner = 1 ∧ t.rd PAIR.STAT.pscore = field b 18 1 ∧ t.rd PAIR.PDIGEST.crc = field b 30 4 ∧ t.pair.heardAt = some s.stime ∧ t.pair.peer = some (field b 0 2 % 1024) ∧
        t.pair.pRole = field b 2 1 % 8 ∧ t.pair.pReady = bit (field b 3 1) 2 ∧ t.pair.dout = field b 24 6 ∧
        (s.role = 4 → bit (field b 3 1) 0 = true →
          (t.role = 4 ↔ (s.goodFrame lane).rd PAIR.STAT.score < field b 18 1 ∨ ((s.goodFrame lane).rd PAIR.STAT.score = field b 18 1 ∧ s.straps.pairpos % 2 = 0)) ∧
          ((∀ x, s.pair.splitAt = some x → x + 100000 ≤ s.stime) → t.rd PAIR.FAULT.split = 1 ∧
            t.rd PAIR.SPLITCNT.count = min (s.rd PAIR.SPLITCNT.count + 1) (2 ^ PAIR.SPLITCNT.count.w - 1))) ∧
        ((s.role = 2 ∨ s.role = 3) → bit (field b 3 1) 0 = true → bit (field b 3 1) 1 = false → t.rd PAIR.LEASESEQ.seq = field b 4 4 ∧ t.pair.claimAt = some s.stime) ∧
        ((s.role = 2 ∨ s.role = 3) → bit (field b 3 1) 1 = true → s.pair.silentUntil ≤ s.stime → t.role = 4) ∧
        (s.role = 1 → bit (field b 3 1) 0 = true → t.role = 2 ∧ ∀ k, k ∈ List.range s.variant.banks → t.rd (AFE.MODE.listen k) = 1 ∧ t.rd (AFE.MODE.excown k) = 0) ∧
        onlyChanges [.pair, .page 0x38, .head 0x14, .head 0x24, .head 0x20, .lap, .page 0x11, .arith, .afe, .recorder, .page 0x49, .page 0x42, .page 0x41, .page 0x40, .sram, .sramBad, .sramWeak, .msg, .page 0x178, .ports, .pages 0x30 0x34, .page 0x35, .tsync, .loops, .page 0x18, .jkt, .page 0x19, .pages 0x8 0x10] s t) ∧
    (∀ b : List Byte, s.holds = false → b.length = 16 → s.pair.lapMark = none → (s.rd PAIR.STAT.aligned = 1 → field b 0 4 ≠ s.lapCount) →
      answers (.lapmarkReceived lane b) s fun t => t.pair.lapMark = some (field b 0 4, field b 4 4, field b 8 8) ∧
        onlyChanges [.pair, .page 0x38, .head 0x14, .head 0x24, .head 0x20] s t) ∧
    (∀ b : List Byte, b.length = 642 → s.role ≠ 4 → answers (.excrepReceived lane b) s fun t =>
      t.pair.excrep = true ∧ t.pair.srcOut = setBits (field b 640 2) 16 ∧
        (∀ k, k ∈ List.range 64 → (Keyed.get? t.pair.srcs k).map SrcTerm.iex = some (field b (10 * k) 2 % 4096)) ∧
        onlyChanges [.pair, .page 0x38, .head 0x14, .head 0x24, .head 0x20, .afe] s t) ∧
    (∀ b : List Byte, b.length = 12 → s.role ≠ 4 → answers (.digestReceived lane b) s fun t =>
      (Keyed.get? t.pair.digests (field b 0 2)).map (fun d => (d.lap, d.status, d.value, d.outcome)) = some (field b 2 1, field b 3 1, signed 32 (field b 4 4), field b 10 1) ∧
        (∀ e, e ∈ t.pair.held → e.ch ≠ field b 0 2 ∨ e.lap % 256 ≠ field b 2 1) ∧
        onlyChanges [.pair, .page 0x38, .head 0x14, .head 0x24, .head 0x20, .lap, .page 0x11, .arith] s t) ∧
    (∀ b : List Byte, answers (.evaldoneReceived lane b) s fun t => t.pair.partnerDone = some (field b 0 4) ∧
      onlyChanges [.pair, .page 0x38, .head 0x14, .head 0x24, .head 0x20] s t) ∧
    (∀ (b : List Byte) (e : Nat × Option Nat), b.length = 5 → s.pair.forwarded.find? (fun e => e.1 == field b 0 1) = some e → answers (.cmdresReceived lane b) s fun t =>
      t.pair.forwarded = s.pair.forwarded.erase e ∧
        (field b 0 1 = 0x20 → t.rd ALM.CMDSTAT.state = field b 1 1 % 8 ∧ t.rd ALM.CMDSTAT.reason = field b 2 1 % 2 ^ ALM.CMDSTAT.reason.w ∧ t.rd ALM.IRQRAW.cmd_done = 1) ∧
        (field b 0 1 = 0x28 → t.rd CALL.CMDSTAT.state = field b 1 1 % 8 ∧ t.rd CALL.CMDSTAT.reason = field b 2 1 % 2 ^ CALL.CMDSTAT.reason.w) ∧
        (field b 0 1 = 0x38 → t.rd PAIR.CMDSTAT.state = field b 1 1 % 8 ∧ t.rd PAIR.CMDSTAT.reason = field b 2 1 % 2 ^ PAIR.CMDSTAT.reason.w) ∧
        onlyChanges [.pair, .page 0x38, .head 0x14, .head 0x24, .head 0x20, .msg, .page 0x20, .page 0x28] s t) ∧
    (∀ b : List Byte, b.length = 11 → s.role = 4 → s.quiesced 0x38 = false → s.alive 0x20 = true → s.quiesced 0x20 = false → field b 0 1 = 0x20 →
      answers (.cmdfwdReceived lane b) s fun t => t.rd ALM.IRQRAW.cmd_done = 1 ∧ t.pair.sent.length = s.pair.sent.length + 1 ∧ 2 ≤ t.rd ALM.CMDSTAT.state ∧
        (∀ k : Nat, k < s.variant.contexts → field b 1 4 % 2 ^ 24 = 2 ^ 20 + k → bit (field b 5 4) 31 = false → s.rd (ALM.CTXA.enable k) = 1 →
          s.rd (ALM.CTXA.layers k) = 0 → s.rd (ALM.CTXA.process k) = 1 → t.rd ALM.CMDSTAT.state = 2 ∧ t.rd (ALM.CTXA.process k) = 2)) ∧
    (∀ b : List Byte, 7 ≤ b.length → field b 0 1 = 0 → s.quiesced 0x38 = false → 0 < field b 5 2 → field b 5 2 ≤ 1016 →
      answers (.regaccReceived lane b) s fun t =>
        let r := ((s.goodFrame lane).awake.readAccess .pair (field b 1 4) (field b 5 2) (field b 5 2)).1
        (t.pair.sent.getLast?.map fun e => (e.2.drop 8).take (2 + r.data.length)) = some (bytesLE 1 2 ++ bytesLE 1 r.status.code ++ r.data) ∧
          t.status = r.status.code ∧ t.store = s.store ∧ t.live = s.live) ∧
    (∀ bs : List Byte, bs.length = 8 + 4 * (shadowAddrs (field bs 0 2)).length → s.shadowedPages.contains (field bs 0 2) = true → s.alive (field bs 0 2) = true →
      s.isOwner .pair = true → s.rd PAIR.CFG.follow = 1 → s.committing (field bs 0 2) = false → field bs 2 2 = 0 →
      answers (.cfgfwdReceived lane [bs]) s fun t =>
        t.shadow = s.putRegion (field bs 0 2) (bs.drop 8) s.shadow ∧ field bs 0 2 ∈ t.dirty ∧ t.rd (HDR.SHCRC.crc (field bs 0 2)) = field bs 4 4 ∧
          field bs 0 2 ∈ t.pair.foreign ∧ t.live = s.live ∧ t.mirror = s.mirror ∧ t.store = s.store) ∧
    (s.rd SYS.IMGSTAT.live_ok = 1 → s.quiesced 0x38 = false → s.alive 0x48 = true → answers (.imageFrameReceived lane []) s fun t =>
      s.pair.sent.length < t.pair.sent.length ∧ t.store = s.store ∧ t.live = s.live) ∧
    ∀ b : List Byte, 5 ≤ b.length → s.straps.boot = 2 → s.rd SYS.IMGSTAT.live_ok = 0 →
      let l := (s.pair.image.filter fun e => e.1 != field b 0 4) ++ [(field b 0 4, b.drop 4)]
      (joinBlocks l.length l []).length < 256 → answers (.imageFrameReceived lane b) s fun t =>
        t.pair.image = l ∧ onlyChanges [.pair, .page 0x38, .head 0x14, .head 0x24, .head 0x20] s t

/-- The mirror carries the holder's alarm and call state: a node in sync or standby whose configuration enables the same contexts and groups, and
that has evaluated the same lap, holds the holder's state of every enabled context, every enabled group and CALL after it. -/
def Obligations.TheMirrorGivesTheStandbyTheHoldersState : Prop :=
  ∀ (s u : State) (lane : Nat), u.canonical → lane < 2 → u.alive 0x38 = true → u.working 0x38 = true → u.working 0x20 = true → u.working 0x28 = true →
    (u.role = 2 ∨ u.role = 3) → u.lap.evalDone = true → u.lapCount = s.lapCount → s.lapCount < 2 ^ 32 → u.almEnabled = s.almEnabled → u.almGroups = s.almGroups →
    answers (.mirrorEndReceived lane (bytesLE 4 s.lapCount ++ bytesLE 4 (crc32 s.mirrorBytes)) [s.mirrorBytes]) u fun t =>
      t.pair.mirrored = true ∧ t.pair.mirrorDone = true ∧
        (∀ k, k ∈ s.almEnabled → ∀ i, i < 8 → t.wordAt false (0x120020 + 0x40 * k + 4 * i) = s.wordAt false (0x120020 + 0x40 * k + 4 * i)) ∧
        (∀ g, g ∈ s.almGroups → ∀ i, i < 6 → t.wordAt false (0x130008 + 0x20 * g + 4 * i) = s.wordAt false (0x130008 + 0x20 * g + 4 * i)) ∧
        t.rd ALM.SUPACT.cond = s.rd ALM.SUPACT.cond ∧ t.rd CALL.STATE.stage = s.rd CALL.STATE.stage ∧ t.rd CALL.STATE.demand = s.rd CALL.STATE.demand ∧
        t.rd CALL.STATE.duty = s.rd CALL.STATE.duty ∧ t.rd CALL.STATE.pers = s.rd CALL.STATE.pers ∧ t.rd CALL.TCALL.t_call = s.rd CALL.TCALL.t_call ∧
        t.rd CALL.CPLOST.cp = s.rd CALL.CPLOST.cp ∧ t.call.tAns = s.call.tAns % 2 ^ 48 ∧ t.call.tReset = s.call.tReset % 2 ^ 48 ∧
        t.live = u.live ∧ t.store = u.store

/-- What the node sends to its partner, and what becomes of an answer or a frame that does not come: a holder's LEASE renews the lease with the
next sequence number and leaves on both lanes, EXCREP leaves on one, a pair-presence message is formed or waits for the next unit, a held record goes on by itself, a forwarded command without an answer
is dropped, and a lane with an error or without frames starts its count of good frames anew. -/
def Obligations.FramesAreSentAndAwaited : Prop :=
  ∀ s : State, s.canonical → s.alive 0x38 = true →
    (s.paired = true → answers .leaseSend s fun t =>
      t.rd PAIR.LEASESEQ.seq = (if bit s.leaseFlags 0 then (s.rd PAIR.LEASESEQ.seq + 1) % 2 ^ 32 else s.rd PAIR.LEASESEQ.seq) ∧
        t.pair.sent.length = s.pair.sent.length + 2 ∧ t.pair.seq0 = (s.pair.seq0 + 1) % 2 ^ 32 ∧ t.pair.seq1 = (s.pair.seq1 + 1) % 2 ^ 32 ∧
        (∀ e, e ∈ (t.pair.sent.reverse.take 2) → ((e.2.drop 8).take 40) = t.leaseBytes) ∧ onlyChanges [.page 0x38, .pair] s t) ∧
    (s.role = 4 → s.quiesced 0x38 = false → answers .excrepSend s fun t =>
      t.pair.sent.dropLast = s.pair.sent ∧ (t.pair.sent.getLast?.map fun e => (e.2.drop 8).take 642) = some s.excrepBytes ∧ onlyChanges [.pair] s t) ∧
    (s.paired = true → answers .pairPresenceSend s fun t => t.pair = s.pair ∧ t.live = s.live ∧
      (s.maySend 0x18 = true → s.msg.records = [] → t.msg.formed + t.msg.waiting.length = s.msg.formed + s.msg.waiting.length + 1 ∧
        Keyed.get 0 t.msg.seqs 0x18 = (Keyed.get 0 s.msg.seqs 0x18 + 1) % 256) ∧
      onlyChanges [.msg, .head 0x24, .head 0x14, .page 0x34, .head 0x20, .pages 0x30 0x34, .ports] s t) ∧
    (∀ ch : Nat, ∀ e : ConvEntry, s.pair.held.find? (fun e => e.ch == ch) = some e → s.alive 0x11 = true → s.quiesced 0x11 = false →
      answers (.digestWaitTimeout ch) s fun t => t.arith.queue = s.arith.queue ++ [e] ∧
        t.pair.held = s.pair.held.filter (fun x => !(x.ch == ch && x.lap == e.lap)) ∧ onlyChanges [.lap, .page 0x11, .head 0x14, .arith, .pair] s t) ∧
    (∀ (e : Nat × Option Nat) (rest : List (Nat × Option Nat)), s.pair.forwarded = e :: rest → answers .cmdresTimeout s fun t =>
      t.pair.forwarded = rest ∧ (if e.1 = 0x20 then t.rd ALM.CMDSTAT.state = 5 else if e.1 = 0x28 then t.rd CALL.CMDSTAT.state = 5 else t.rd PAIR.CMDSTAT.state = 5) ∧
        onlyChanges [.msg, .page 0x20, .page 0x28, .page 0x38, .pair] s t) ∧
    (s.role = 4 → s.lap.evalDone = true → answers .evaldoneTimeout s fun t => t.pair = { s.pair with doneTimeout := true } ∧ onlyChanges [.pair] s t) ∧
    (∀ l : Nat, l < 2 → bit (s.rd PAIR.STAT.lanes) l = true → answers (.laneDown l) s fun t =>
      t.rd PAIR.STAT.lanes = s.rd PAIR.STAT.lanes - 2 ^ l ∧ t.rd PAIR.IRQRAW.lane_down = 1 ∧
        (s.rd PAIR.STAT.lanes = 2 ^ l → t.rd PAIR.STAT.link = 0 ∧ t.rd PAIR.STAT.ready = 0 ∧ (s.rd PAIR.STAT.link = 1 → t.rd PAIR.IRQRAW.link_lost = 1) ∧ (s.role = 3 → t.role = 2)) ∧
        onlyChanges [.pair, .head 0x14, .recorder, .page 0x49, .head 0x24, .page 0x42, .head 0x20, .page 0x41, .page 0x40, .sram, .sramBad, .sramWeak, .msg, .page 0x178, .page 0x38, .lap, .ports, .pages 0x30 0x34, .page 0x35, .tsync, .loops, .page 0x18, .jkt, .page 0x19] s t) ∧
    (answers (.uhlizFrameError 0) s (fun t => t.pair.good0 = 0 ∧ t.rd PAIR.LANEERR0.count = min (s.rd PAIR.LANEERR0.count + 1) (2 ^ PAIR.LANEERR0.count.w - 1) ∧
        onlyChanges [.pair, .page 0x38, .head 0x14] s t) ∧
      answers (.uhlizFrameError 1) s fun t => t.pair.good1 = 0 ∧ t.rd PAIR.LANEERR1.count = min (s.rd PAIR.LANEERR1.count + 1) (2 ^ PAIR.LANEERR1.count.w - 1) ∧
        onlyChanges [.pair, .page 0x38, .head 0x14] s t)

/-- How the baton moves: a node without a sign of its partner becomes the holder, one in sync or standby takes the baton when the lease has expired and
nothing shows that the partner still excites, a holder without buses releases it while the link is up, and a planned handover is offered to a ready standby, lapses
without its answer, and is taken back without its claim; the loss of the partner is a fault, and a standby may return to sync. -/
def Obligations.TheBatonMovesByItsRules : Prop :=
  ∀ s : State, s.canonical → s.alive 0x38 = true →
    (s.role = 1 → answers .pairStartTimeout s fun t => t.role = 4 ∧ t.rd PAIR.IRQRAW.role_change = 1 ∧
      onlyChanges [.page 0x38, .pair, .afe, .pages 0x8 0x10, .recorder, .page 0x49, .head 0x14, .head 0x24, .page 0x42, .head 0x20, .page 0x41, .page 0x40, .sram, .sramBad, .sramWeak, .msg, .page 0x178, .lap, .ports, .pages 0x30 0x34, .page 0x35, .tsync, .loops, .page 0x18, .jkt, .page 0x19] s t) ∧
    (∀ silent : Bool, (s.role = 2 ∨ s.role = 3) → (silent = true ∨ (s.usable 0 = false ∧ s.usable 1 = false)) →
      s.rd PAIR.STAT.evidence = 2 ∨ (s.rd PAIR.STAT.evidence = 0 ∧ silent = true) → s.pair.silentUntil ≤ s.stime → answers (.takeover silent) s fun t =>
      t.role = 4 ∧ t.pair.exciteAt = true ∧ t.rd PAIR.IRQRAW.takeover = 1 ∧
        t.rd PAIR.TAKEOVERCNT.count = min (s.rd PAIR.TAKEOVERCNT.count + 1) (2 ^ PAIR.TAKEOVERCNT.count.w - 1) ∧
        (∀ b, b ∈ List.range s.variant.banks → t.rd (AFE.MODE.listen b) = 0 ∧ t.rd (AFE.MODE.excown b) = 0) ∧
        onlyChanges [.pair, .afe, .pages 0x8 0x10, .lap, .page 0x11, .head 0x14, .arith, .recorder, .page 0x49, .head 0x24, .page 0x42, .head 0x20, .page 0x41, .page 0x40, .sram, .sramBad, .sramWeak, .msg, .page 0x178, .page 0x38, .ports, .pages 0x30 0x34, .page 0x35, .tsync, .loops, .page 0x18, .jkt, .page 0x19] s t) ∧
    ((s.rd PAIR.STAT.evidence = 1 ∨ s.stime < s.pair.silentUntil ∨ s.role = 0 ∨ s.role = 1 ∨ s.role = 4) → ∀ b : Bool, answers (.takeover b) s fun t => t = s) ∧
    (s.paired = true → s.rd PAIR.STAT.partner ≠ 2 → answers .partnerLost s fun t =>
      t.rd PAIR.STAT.partner = 2 ∧ t.rd PAIR.IRQRAW.partner_lost = 1 ∧ t.rd PAIR.FAULT.partner = 1 ∧
        onlyChanges [.head 0x24, .head 0x14, .page 0x38, .head 0x20] s t) ∧
    (s.role = 4 → s.rd PAIR.STAT.link = 1 → s.usable 0 = false → s.usable 1 = false → answers .batonRelease s fun t =>
      t.role = 3 ∧ t.pair.releasing = true ∧ t.rd PAIR.STAT.ho_pend = 0 ∧ t.pair.offered = none ∧
        onlyChanges [.page 0x38, .pair, .recorder, .page 0x49, .head 0x14, .head 0x24, .page 0x42, .head 0x20, .page 0x41, .page 0x40, .sram, .sramBad, .sramWeak, .msg, .page 0x178, .lap, .ports, .pages 0x30 0x34, .page 0x35, .tsync, .loops, .page 0x18, .jkt, .page 0x19] s t) ∧
    (∀ q : Requester, s.admits q 0x38 → s.role = 4 → s.pair.offered = none → s.pair.pReady = true → s.pair.pRole = 3 → s.rd PAIR.STAT.link = 1 →
      answers (.plannedHandover q) s fun t =>
        let b := (s.lapCount + (if s.lap.timer + 2000 ≤ s.lap.nextGrid then 1 else 2)) % 2 ^ 32
        t.status = 0 ∧ t.rd PAIR.CMDSTAT.state = 1 ∧ t.rd PAIR.HOLAP.lap = b ∧ t.pair.offered = some b ∧ t.rd PAIR.STAT.ho_pend = 1 ∧ t.role = 4 ∧
          onlyChanges [.page 0x01, .status, .page 0x38, .pair] s t) ∧
    (∀ q : Requester, s.admits q 0x38 → s.role ≠ 4 → s.role ≠ 3 → answers (.plannedHandover q) s fun t =>
      t.status = 0 ∧ t.rd PAIR.CMDSTAT.state = 4 ∧ t.rd PAIR.CMDSTAT.reason = 1 ∧ onlyChanges [.page 0x01, .status, .page 0x38] s t) ∧
    (∀ q : Requester, s.admits q 0x38 → s.role = 3 → answers (.resynchronise q) s fun t =>
      t.status = 0 ∧ t.rd PAIR.CMDSTAT.state = 2 ∧ t.role = 2 ∧ t.pair.mirrored = false ∧ t.pair.alignRun = 0 ∧
        onlyChanges [.page 0x01, .status, .page 0x38, .pair, .msg, .recorder, .page 0x49, .head 0x14, .head 0x24, .page 0x42, .head 0x20, .page 0x41, .page 0x40, .sram, .sramBad, .sramWeak, .page 0x178, .lap, .ports, .pages 0x30 0x34, .page 0x35, .tsync, .loops, .page 0x18, .jkt, .page 0x19] s t) ∧
    (s.role = 4 → s.pair.offered.isSome = true → s.pair.accepted = false → answers .handoverOfferLapse s fun t =>
      t.pair.offered = none ∧ t.rd PAIR.STAT.ho_pend = 0 ∧ t.rd PAIR.CMDSTAT.state = 4 ∧ t.rd PAIR.CMDSTAT.reason = 2 ∧ onlyChanges [.pair, .page 0x38, .msg] s t) ∧
    (s.paired = true → s.pair.handedAt.isSome = true → answers .handoverNoClaim s fun t =>
      t.role = 4 ∧ t.pair.exciteAt = true ∧ t.pair.handedAt = none ∧ t.rd PAIR.CMDSTAT.state = 4 ∧ t.rd PAIR.CMDSTAT.reason = 5 ∧
        onlyChanges [.pair, .page 0x38, .msg, .recorder, .page 0x49, .head 0x14, .head 0x24, .page 0x42, .head 0x20, .page 0x41, .page 0x40, .sram, .sramBad, .sramWeak, .page 0x178, .lap, .ports, .pages 0x30 0x34, .page 0x35, .tsync, .loops, .page 0x18, .jkt, .page 0x19] s t)
/-! ### The bus ports -/

/-- The transmit buffers of a port: a request makes a buffer of host software pending, or failed where its frame is none, a cancel ends it at
once or after the running attempt, an attempt takes the buffer that the port picks and stamps it, and ends as sent, or returned to
pending, cancelled or failed; a release moves the index of a receive queue within what it holds. -/
def Obligations.TransmitBuffersRunThroughTheirStates : Prop :=
  ∀ (s : State) (n k : Nat), s.canonical → n < 4 → k < 3 →
    (∀ q : Requester, s.admits q (0x30 + n) → bit (s.rd (BUS.CFG.txown n)) k = true → s.rd (BUS.TXSTAT.state n k) ≠ 1 → s.rd (BUS.TXSTAT.state n k) ≠ 2 →
      answers (.txRequest q n k) s fun t => t.status = 0 ∧ t.rd (BUS.TXSTAT.attempts n k) = 0 ∧ t.rd (BUS.TXSTAT.cancel_late n k) = 0 ∧
        t.rd (BUS.TXSTAT.state n k) = (if (s.rd (BUS.TXCTL.fdf n k) = 1 ∧ s.rd (BUS.TXID.rtr n k) = 1) ∨
          (s.rd (BUS.TXCTL.brs n k) = 1 ∧ s.rd (BUS.TXCTL.fdf n k) = 0) then 5 else 1) ∧
        onlyChanges [.page 0x01, .status, .head 0x24, .head 0x14, .head 0x20, .pages 0x30 0x34] s t) ∧
    (∀ q : Requester, s.admits q (0x30 + n) → bit (s.rd (BUS.CFG.txown n)) k = true → answers (.txCancel q n k) s fun t =>
      t.status = 0 ∧ (s.rd (BUS.TXSTAT.state n k) = 1 → t.rd (BUS.TXSTAT.state n k) = 4 ∧ t.rd (BUS.IRQRAW.tx_cancel n) = 1) ∧
        (s.rd (BUS.TXSTAT.state n k) = 2 → t.rd (BUS.TXSTAT.state n k) = 2 ∧ t.rd (BUS.TXSTAT.cancel_late n k) = 1) ∧
        (s.rd (BUS.TXSTAT.state n k) ≠ 1 → s.rd (BUS.TXSTAT.state n k) ≠ 2 → t.rd (BUS.TXSTAT.state n k) = s.rd (BUS.TXSTAT.state n k)) ∧
        onlyChanges [.page 0x01, .status, .head 0x24, .head 0x14, .head 0x20, .ports, .pages 0x30 0x34] s t) ∧
    (∀ q : Requester, s.admits q (0x30 + n) → bit (s.rd (BUS.CFG.txown n)) k = false → answers (.txRequest q n k) s fun t =>
      t.status = 0 ∧ t.rd (BUS.FAULT.txown n) = 1 ∧ t.rd (BUS.TXSTAT.state n k) = s.rd (BUS.TXSTAT.state n k)) ∧
    (s.portActive n = true → s.rd (BUS.CFG.mode n) ≠ 1 → (s.port n).pausing = false → s.onWire n = none → s.txPick n = some k →
      answers (.txAttemptStart n) s fun t =>
        t.rd (BUS.TXSTAT.state n k) = 2 ∧ t.rd (BUS.TXSTAT.attempts n k) = min (s.rd (BUS.TXSTAT.attempts n k) + 1) 255 ∧ t.onWire n = some k ∧
          (t.port n).sofTsc = s.rd (BUS.TSC.us n) ∧ (t.port n).sofStime = s.stime ∧ (t.port n).designated = none ∧
          onlyChanges [.pages 0x30 0x34, .head 0x14, .ports] s t) ∧
    (s.onWire n = some k → bit (s.rd (BUS.CFG.txown n)) k = true → Keyed.get? s.msg.loaded (3 * n + k) = none →
      (∀ d : Option Nat, answers (.txAttemptEnd n .sent d) s fun t =>
        t.rd (BUS.TXSTAT.state n k) = 3 ∧ t.rd (BUS.TXTSC.us n k) = (s.port n).sofTsc % 2 ^ 32 ∧ t.rd (BUS.IRQRAW.tx_sent n) = 1 ∧ (t.port n).tec = (s.port n).tec - 1 ∧
          t.rd (BUS.STATE.ackseq n) = 0 ∧ t.rd (BUS.STATE.solo n) = 0 ∧
          onlyChanges [.pages 0x30 0x34, .ports, .head 0x14, .head 0x24, .head 0x20, .msg, .page 0x34, .tsync, .dma, .page 0x42, .page 0x41, .page 0x40, .sram, .sramBad, .sramWeak, .page 0x38] s t) ∧
      (∀ d : Option Nat, answers (.txAttemptEnd n .lost d) s fun t =>
        t.rd (BUS.TXSTAT.state n k) = (if s.rd (BUS.TXSTAT.cancel_late n k) = 1 then 4 else if s.rd (BUS.TXCTL.oneshot n k) = 1 then 5 else 1) ∧
          (t.port n).tec = (s.port n).tec ∧ onlyChanges [.pages 0x30 0x34, .ports, .head 0x14, .head 0x24, .head 0x20, .msg, .page 0x34, .tsync, .dma, .page 0x42, .page 0x41, .page 0x40, .sram, .sramBad, .sramWeak, .page 0x38] s t) ∧
      ∀ d : Option Nat, answers (.txAttemptEnd n .error d) s fun t =>
        t.rd (BUS.TXSTAT.state n k) = (if s.rd (BUS.TXSTAT.cancel_late n k) = 1 then 4 else if s.rd (BUS.TXCTL.oneshot n k) = 1 then 5 else 1) ∧
          onlyChanges [.pages 0x30 0x34, .ports, .head 0x14, .head 0x24, .head 0x20, .msg, .page 0x34, .tsync, .dma, .page 0x42, .page 0x41, .page 0x40, .sram, .sramBad, .sramWeak, .page 0x38] s t) ∧
    answers (.soloPauseEnd n) s (fun t => (t.port n).pausing = false ∧ onlyChanges [.ports] s t) ∧
    ∀ (q : Requester) (j i : Nat), s.admits q (0x30 + n) → j < 2 → answers (.rxRelease q n j i) s fun t =>
      t.status = 0 ∧ t.rd (BUS.RXREL.index n j) =
        (if i < 64 ∧ (i + 64 - s.rd (BUS.RXREL.index n j)) % 64 ≤ s.rxOccupancy n j then i else s.rd (BUS.RXREL.index n j)) ∧
        onlyChanges [.page 0x01, .status, .pages 0x30 0x34] s t

/-- Reception and error confinement: a good frame, also one that had begun when the port left bus traffic, lowers the receive counter (above
127 to a value of 119 to 127), ends a run of acknowledgement errors and is offered to the queue that the filters of its start name, an error
raises the counter of its kind by its amount and above 255 makes the port bus-off, with the frame on the wire pending again and the first to
go; recovery is asked for and ends error-active with both counters 0, and an integrated port joins as its counters say. -/
def Obligations.PortsReceiveAndConfineErrors : Prop :=
  ∀ (s : State) (n : Nat), s.canonical → n < 4 →
    (∀ (f : CanFrame) (age : Nat) (c : State), c = s.atStart ((s.port n).before.find? fun e => decide (s.stime - age < e.1)) →
      (s.portActive n = true ∨ (s.alive (0x30 + n) = true ∧ ∃ u, (s.port n).left = some u ∧ s.stime - age < u)) → c.rd (BUS.CFG.mode n) ≠ 2 →
      answers (.canFrameReceived n f age) s fun t =>
      ((s.port n).rec_ ≤ 127 → (t.port n).rec_ = (s.port n).rec_ - 1) ∧ (127 < (s.port n).rec_ → 119 ≤ (t.port n).rec_ ∧ (t.port n).rec_ ≤ 127) ∧ (t.port n).tec = (s.port n).tec ∧ t.rd (BUS.STATE.ackseq n) = 0 ∧ t.rd (BUS.STATE.solo n) = 0 ∧
        (c.filterOf n f = none → t.sram = s.sram ∧ t.dma = s.dma ∧ ∀ j, j ∈ [0, 1] → t.rd (BUS.RXPROD.index n j) = s.rd (BUS.RXPROD.index n j)) ∧
        (∀ e : Nat × Nat × Bool, c.filterOf n f = some e →
          (s.dmaHolds = true → t.dma.jobs.dropLast = s.dma.jobs) ∧
          (s.dmaHolds = false → s.rxOccupancy n e.1 = 32 → t.rd (BUS.RXPROD.index n e.1) = s.rd (BUS.RXPROD.index n e.1) ∧
            t.rd (BUS.RXDROP.count n e.1) = min (s.rd (BUS.RXDROP.count n e.1) + 1) (2 ^ (BUS.RXDROP.count n e.1).w - 1)) ∧
          (s.dmaHolds = false → s.rxOccupancy n e.1 < 32 → t.rd (BUS.RXPROD.index n e.1) = (s.rd (BUS.RXPROD.index n e.1) + 1) % 64 ∨ t.rd (BUS.FAULT.rxwrite n) = 1)) ∧
        onlyChanges [.freeCount, .ports, .pages 0x30 0x34, .head 0x14, .head 0x24, .head 0x20, .dma, .page 0x42, .page 0x41, .page 0x40, .sram, .sramBad, .sramWeak, .page 0x38] s t) ∧
    (∀ (c : Nat) (d : Bool), s.portActive n = true → s.rd (BUS.CFG.pex n) = 0 →
      (answers (.busError n .receiving c d) s fun t => (t.port n).rec_ = min ((s.port n).rec_ + 1) 255 ∧ (t.port n).tec = (s.port n).tec ∧
        t.rd (BUS.LASTERR.code n) = c % 16 ∧ t.rd (BUS.ERRFRM.count n) = min (s.rd (BUS.ERRFRM.count n) + 1) (2 ^ (BUS.ERRFRM.count n).w - 1) ∧
        (127 ≤ (s.port n).rec_ → (s.port n).tec ≤ 255 → t.portMode n = 3)) ∧
      (answers (.busError n .receiverDominant c d) s fun t => (t.port n).rec_ = min ((s.port n).rec_ + 8) 255 ∧ (t.port n).tec = (s.port n).tec) ∧
      (answers (.busError n .transmitting c d) s fun t => (t.port n).tec = (s.port n).tec + 8 ∧ (t.port n).rec_ = min (s.port n).rec_ 255 ∧
        t.rd (BUS.LASTERR.code n) = c % 16 ∧
        (247 < (s.port n).tec → t.rd (BUS.IRQRAW.busoff n) = 1 ∧ t.rd (BUS.FAULT.busoff n) = 1 ∧
          (s.stopCause n = false → t.portMode n = if s.rd (BUS.CFG.boauto n) = 1 then 5 else 4) ∧
          ∀ k, s.onWire n = some k → bit (s.rd (BUS.CFG.txown n)) k = true → Keyed.get? s.msg.loaded (3 * n + k) = none →
            t.rd (BUS.TXSTAT.state n k) = (if s.rd (BUS.TXSTAT.cancel_late n k) = 1 then 4 else 1) ∧
            (s.rd (BUS.TXSTAT.cancel_late n k) = 0 → (t.port n).designated = some k)) ∧ onlyChanges [.pages 0x30 0x34, .head 0x14, .ports, .head 0x24, .head 0x20, .msg, .page 0x34, .page 0x38] s t) ∧
      (answers (.busError n .quietAck c d) s fun t => t.ports = s.ports ∧
        (c = 3 → (s.onWire n).isSome = true → t.rd (BUS.STATE.ackseq n) = min (s.rd (BUS.STATE.ackseq n) + 1) 255 ∧
          (63 ≤ s.rd (BUS.STATE.ackseq n) → t.rd (BUS.STATE.solo n) = 1))) ∧
      (answers (.busError n .arbitrationStuff c d) s fun t => t.ports = s.ports ∧ t.rd (BUS.LASTERR.code n) = c % 16) ∧
      (answers (.busError n .flagBit c d) s fun t =>
        (t.port n).tec + (t.port n).rec_ = (if (s.onWire n).isSome then (s.port n).tec + 8 + min (s.port n).rec_ 255 else (s.port n).tec + min ((s.port n).rec_ + 8) 255)) ∧
      (answers (.busError n .dominantRun c d) s fun t =>
        (t.port n).tec + (t.port n).rec_ = (if (s.onWire n).isSome then (s.port n).tec + 8 + min (s.port n).rec_ 255 else (s.port n).tec + min ((s.port n).rec_ + 8) 255)) ∧
      answers (.busError n .protocolException c d) s fun t => t.rd (BUS.LASTERR.code n) = 2 ∧ (t.port n).rec_ = min ((s.port n).rec_ + 1) 255) ∧
    (∀ q : Requester, s.admits q (0x30 + n) → answers (.busRecover q n) s fun t =>
      t.status = 0 ∧ t.portMode n = (if s.portMode n = 4 then 5 else s.portMode n) ∧ onlyChanges [.page 0x01, .status, .pages 0x30 0x34] s t) ∧
    (s.alive (0x30 + n) = true → s.portMode n = 5 → answers (.busRecoveryComplete n) s fun t =>
      t.portMode n = 2 ∧ (t.port n).tec = 0 ∧ (t.port n).rec_ = 0 ∧ t.rd (BUS.ERRCNT.tec n) = 0 ∧ t.rd (BUS.ERRCNT.rec n) = 0 ∧ t.rd (BUS.IRQRAW.recovered n) = 1 ∧ t.rd (BUS.STATE.recov n) = 128 ∧
        onlyChanges [.pages 0x30 0x34, .page 0x38, .ports, .head 0x14, .head 0x24, .head 0x20] s t) ∧
    (s.alive (0x30 + n) = true → s.portMode n = 1 → answers (.integrationComplete n) s fun t =>
      t.portMode n = (if 255 < (s.port n).tec then (if s.rd (BUS.CFG.boauto n) = 1 then 5 else 4)
        else if 128 ≤ (s.port n).tec ∨ 128 ≤ (s.port n).rec_ then 3 else 2) ∧ onlyChanges [.pages 0x30 0x34, .head 0x14, .ports, .page 0x38, .msg, .head 0x24, .page 0x34, .head 0x20] s t)
/-! ### Messages and system time -/

/-- What the message layer sends: the oldest notification, the health of the node, the state of the pair, the stage of a call, SYNC on each port with
the next sequence of its own and its follow-up; each takes the next sequence number of its type and is formed or waits for the next unit.
A request that does not complete is dropped, a slave without pairs holds over with its own frequency, again after each loss, and a set time waits for the boundary. -/
def Obligations.MessagesAreFormedOrWait : Prop :=
  ∀ s : State, s.canonical → s.msg.records = [] →
    (s.working 0x34 = true → s.alive 0x20 = true → s.alive 0x40 = true → s.rd ALM.CFG.consumer = 0 → s.nqOccupancy ≠ 0 →
      (s.holds = false → answers .notificationConsume s fun t => t.rd ALM.NQREL.index = (s.rd ALM.NQREL.index + 1) % 512 ∧ t.msg = s.msg ∧
        onlyChanges [.page 0x20, .alarm] s t) ∧
      (s.maySend 1 = true → (s.oldestEntry.1.any fun e => s.fvWaits (alarmClass e)) = true → answers .notificationConsume s fun t => t.msg = s.msg ∧
        t.rd ALM.NQREL.index = s.rd ALM.NQREL.index ∧ onlyChanges [.page 0x40, .head 0x14, .sramWeak, .head 0x24, .head 0x20] s t) ∧
      (s.maySend 1 = true → s.portsOf 1 = [] → (s.oldestEntry.1.any fun e => s.fvWaits (alarmClass e)) = false → answers .notificationConsume s fun t => t.rd ALM.NQREL.index = (s.rd ALM.NQREL.index + 1) % 512 ∧
        (s.oldestEntry.1.isSome = true → t.msg.formed + t.msg.waiting.length = s.msg.formed + s.msg.waiting.length + 1 ∧
          Keyed.get 0 t.msg.seqs 1 = (Keyed.get 0 s.msg.seqs 1 + 1) % 256) ∧
        onlyChanges [.page 0x20, .alarm, .page 0x40, .head 0x14, .sramWeak, .head 0x24, .head 0x20, .msg, .page 0x34, .pages 0x30 0x34, .ports] s t)) ∧
    (s.maySend 0x1A = true → answers .healthSend s fun t => t.msg.formed + t.msg.waiting.length = s.msg.formed + s.msg.waiting.length + 1 ∧
      Keyed.get 0 t.msg.seqs 0x1A = (Keyed.get 0 s.msg.seqs 0x1A + 1) % 256 ∧
      onlyChanges [.msg, .head 0x24, .head 0x14, .page 0x34, .head 0x20, .pages 0x30 0x34, .ports] s t) ∧
    (s.alive 0x38 = true → s.paired = true → s.maySend 0x19 = true → answers .pairStatusSend s fun t =>
      t.msg.formed + t.msg.waiting.length = s.msg.formed + s.msg.waiting.length + 1 ∧ t.msg.statusSent.length = 8 ∧ t.msg.statusSent.take 2 = bytesLE 2 (s.rd PAIR.CFG.partner) ∧
        onlyChanges [.msg, .head 0x24, .head 0x14, .page 0x34, .head 0x20, .pages 0x30 0x34, .ports] s t) ∧
    (s.alive 0x28 = true → s.rd CALL.CFG.master = 1 → s.rd CALL.STATE.stage ≠ 0 → s.maySend 4 = true → answers .callMessageSend s fun t =>
      t.msg.callSent = s.rd CALL.STATE.stage ∧ t.msg.formed + t.msg.waiting.length = s.msg.formed + s.msg.waiting.length +
        ((List.range 32).filter fun j => s.flag (CALL.CP.enable j) && s.rd (CALL.CP.kind j) != 0).length ∧
        onlyChanges [.msg, .head 0x24, .head 0x14, .page 0x34, .head 0x20, .pages 0x30 0x34, .ports] s t) ∧
    (s.sendsTime = true → answers .syncSend s fun t =>
      (∀ n, n ∈ s.slavePorts → Keyed.get 0 t.msg.syncSeq n = (Keyed.get 0 s.msg.syncSeq n + 1) % 256) ∧
        onlyChanges [.msg, .head 0x24, .head 0x14, .page 0x34, .head 0x20, .pages 0x30 0x34, .ports] s t) ∧
    (s.sendsTime = true → s.tsync.sent ≠ [] → answers .followUpSend s fun t =>
      t.tsync = { s.tsync with sent := [] } ∧ t.rd TSYNC.SYNCCNT.count = (s.rd TSYNC.SYNCCNT.count + s.tsync.sent.length) % 2 ^ 32 ∧
        onlyChanges [.tsync, .msg, .head 0x24, .head 0x14, .page 0x34, .head 0x20, .pages 0x30 0x34, .ports, .page 0x35] s t) ∧
    (∀ (n : Nat) (p : Partial), s.msg.partials.find? (fun p => p.source == n) = some p → answers (.regReqTimeout n) s fun t =>
      t.msg = { s.msg with partials := s.msg.partials.erase p } ∧ t.rd MSG.IRQRAW.frag_drop = 1 ∧
        t.rd MSG.FRAGDROP.count = min (s.rd MSG.FRAGDROP.count + 1) (2 ^ MSG.FRAGDROP.count.w - 1) ∧ onlyChanges [.page 0x34, .head 0x14, .msg] s t) ∧
    (s.alive 0x35 = true → (s.rd TSYNC.STATE.state = 1 ∨ s.rd TSYNC.STATE.state = 2 ∨ s.rd TSYNC.STATE.state = 3) → answers .timeHoldover s fun t =>
      t.rd TSYNC.STATE.state = 3 ∧ t.rd TSYNC.ADJ.ppb = s.rd TSYNC.FREQ.ppb ∧ t.rd TSYNC.IRQRAW.holdover = (if s.rd TSYNC.STATE.state = 3 then s.rd TSYNC.IRQRAW.holdover else 1) ∧
        t.rd TSYNC.FAULT.loss = 1 ∧ t.stime = s.stime ∧
        onlyChanges [.head 0x24, .head 0x14, .page 0x35, .head 0x20, .tsync] s t) ∧
    ∀ q : Requester, s.admits q 0x35 → answers (.timeSetCommand q) s fun t =>
      t.status = 0 ∧ t.stime = s.stime ∧ (if s.rd TSYNC.CFG.role = 1 ∧ s.holds = true then
          t.tsync = { s.tsync with step := some (s.rd TSYNC.SETTIME.us), settime := true }
        else t.rd TSYNC.IRQRAW.cmd_refused = 1 ∧ t.tsync = s.tsync) ∧ onlyChanges [.status, .page 0x01, .tsync, .head 0x14] s t

/-- What the message layer accepts: the oldest entry of its own receive queue is taken, a TML frame that is too short or whose MAC fails is
rejected with its reason, one that verifies, is in time and is newer than all before is accepted; of the accepted frames, a command reaches
its block and is answered, one for an unknown block is rejected and answered, an acknowledgement answers the call, presence restores a call point or tells of the partner, the master keeps the demand of the source, the fragments of a request are
collected and a complete one is answered, and SYNC and FOLLOW_UP make a pair. -/
def Obligations.AcceptedMessagesAct : Prop :=
  ∀ s : State, s.canonical →
    (∀ n j : Nat, n < 4 → j < 2 → s.working 0x34 = true → s.alive (0x30 + n) = true → s.alive 0x40 = true → s.rd (BUS.RXQ.consumer n j) = 0 → s.rxOccupancy n j ≠ 0 →
      answers (.tmlFrameAccept n j) s fun t =>
        t.rd (BUS.RXREL.index n j) = (s.rd (BUS.RXREL.index n j) + 1) % 64 ∧
        (∀ e : List Byte, (s.sramRead (s.rxEntry n j (s.rd (BUS.RXREL.index n j))) 80).1 = some e →
          let id := field e 0 4 % 2 ^ 29
          let data := (e.drop 16).take (dlcBytes true (field e 4 1 % 16))
          bit (field e 0 4) 29 = true → bit (field e 0 4) 30 = false → bit (field e 4 1) 4 = true →
          ∀ need : Nat, bodyLength (tmlType id % 128) (id % 256) = some need →
            (data.length < need + 8 → t.rd MSG.LASTREJ.reason = 6 ∧ t.rd MSG.LASTREJ.source = tmlSource id ∧ t.rd MSG.IRQRAW.rx_reject = 1) ∧
            (∀ key : List Byte, s.macKey 0 = some key → need + 8 ≤ data.length → tmlType id ∈ [1, 2, 3, 4, 8, 0x18, 0x19, 0x1A] →
              tmlMac key id (data.take need) (field data (data.length - 8) 4) ≠ data.drop (data.length - 4) →
              t.rd MSG.LASTREJ.reason = 1 ∧ t.rd MSG.IRQRAW.rx_reject = 1 ∧ t.rd MSG.AUTHFAIL.count = min (s.rd MSG.AUTHFAIL.count + 1) (2 ^ MSG.AUTHFAIL.count.w - 1) ∧
                t.msg.accepted = s.msg.accepted) ∧
            (∀ key : List Byte, s.macKey 0 = some key → need + 8 ≤ data.length → tmlType id ∈ [3, 0x18] →
              tmlMac key id (data.take need) (field data (data.length - 8) 4) = data.drop (data.length - 4) →
              tmlSource id ≠ s.straps.nid % 1024 → field (data.take need) 0 2 % 1024 = s.straps.nid % 1024 →
              let fv := field data (data.length - 8) 4
              ((s.frameTime fv : Int) - s.stime).natAbs ≤ s.rd MSG.AUTHCFG.fwin * 1000 →
              (∀ m, Keyed.get? s.msg.newest (tmlSource id * 8 + tmlClass id) = some m → m < s.frameTime fv + fv % 4096) →
              t.rd MSG.RXCNT.count = (s.rd MSG.RXCNT.count + 1) % 2 ^ MSG.RXCNT.count.w ∧
                t.msg.accepted = s.msg.accepted ++ [⟨n, id, data.take need, Keyed.get 0 (s.port n).rxStime (32 * j + s.rd (BUS.RXREL.index n j) % 32)⟩] ∧
                Keyed.get? t.msg.newest (tmlSource id * 8 + tmlClass id) = some (s.frameTime fv + fv % 4096)))) ∧
    ∀ (a : Accepted) (rest : List Accepted), s.msg.accepted = a :: rest → s.working 0x34 = true → tmlType a.id < 128 →
      (tmlType a.id = 7 → commandBlock a = 0 → s.alive 0x20 = true → s.quiesced 0x20 = false → s.role ≠ 3 → field a.body 4 4 / 2 ^ 24 = 0xA1 →
        answers .commandMessage s fun t => t.rd ALM.CMDARG = field a.body 8 4 ∧ 2 ≤ t.rd ALM.CMDSTAT.state ∧ t.rd ALM.IRQRAW.cmd_done = 1 ∧ t.msg.accepted = rest ∧
          (s.msg.results = [] → s.maySend 8 = true → Keyed.get 0 t.msg.seqs 8 = (Keyed.get 0 s.msg.seqs 8 + 1) % 256) ∧
          (∀ k : Nat, field a.body 4 4 = 0xA1100000 + k → k < s.variant.contexts → s.rd (ALM.CTXA.enable k) = 1 → bit (field a.body 8 4) 31 = false →
            s.rd (ALM.CTXA.layers k) = 0 → (s.rd (ALM.CTXA.process k) = 1 ∨ s.rd (ALM.CTXA.process k) = 3) →
            t.rd ALM.CMDSTAT.state = 2 ∧ t.rd (ALM.CTXA.process k) = (if s.rd (ALM.CTXA.process k) = 1 then 2 else 0))) ∧
      (tmlType a.id = 7 → 3 < commandBlock a → answers .unknownBlockCommand s fun t =>
        t.msg.accepted = rest ∧ (s.holds = true → t.rd MSG.LASTREJ.reason = 7 ∧ t.rd MSG.LASTREJ.source = tmlSource a.id ∧ t.rd MSG.IRQRAW.rx_reject = 1 ∧
          (s.maySend 8 = true → Keyed.get 0 t.msg.seqs 8 = (Keyed.get 0 s.msg.seqs 8 + 1) % 256)) ∧
          onlyChanges [.msg, .head 0x24, .head 0x14, .page 0x34, .head 0x20, .pages 0x30 0x34, .ports] s t) ∧
      (tmlType a.id = 6 → 1 ≤ field a.body 3 1 → field a.body 3 1 ≤ 4 → s.alive 0x28 = true → s.quiesced 0x28 = false → s.role ≠ 3 → answers .callAckMessage s fun t =>
        2 ≤ t.rd CALL.CMDSTAT.state ∧ t.msg.accepted = rest ∧
          let u := (s.modMsg fun m => { m with accepted := rest }).callEvaluate
          (field a.body 3 1 = 1 → bit (u.rd CALL.CPDRIVE.cp) (field a.body 4 1 % 32) = true → 1 ≤ u.rd CALL.STATE.stage → u.rd CALL.STATE.stage ≤ 3 →
            t.rd CALL.CMDSTAT.state = 2 ∧ t.rd CALL.IRQRAW.answered = 1 ∧ t.call.tAns = s.stime % 2 ^ 48)) ∧
      (tmlType a.id = 5 → s.alive 0x28 = true → answers .cpPresenceMessage s fun t => t.msg.accepted = rest ∧
        (∀ j, j ∈ List.range 32 → bit (t.rd CALL.CPLOST.cp) j =
          if s.flag (CALL.CP.enable j) ∧ s.rd (CALL.CP.kind j) ≠ 0 ∧ s.rd (CALL.CP.nid j) = tmlSource a.id ∧ s.rd (CALL.CP.panel j) = field a.body 2 1 then false
          else bit (s.rd CALL.CPLOST.cp) j) ∧
        onlyChanges [.msg, .head 0x24, .head 0x14, .page 0x34, .head 0x20, .pages 0x30 0x34, .ports, .call, .page 0x28] s t) ∧
      (tmlType a.id = 3 → s.alive 0x28 = true → s.rd CALL.CFG.master = 1 → answers .demandMessage s fun t =>
        t.msg.accepted = rest ∧ Keyed.get? t.call.demands (tmlSource a.id) = some (bit (field a.body 2 1) 0, s.stime) ∧
          onlyChanges [.msg, .head 0x24, .head 0x14, .page 0x34, .head 0x20, .pages 0x30 0x34, .ports, .call] s t) ∧
      (tmlType a.id = 0x18 → s.alive 0x38 = true → s.paired = true → tmlSource a.id = s.rd PAIR.CFG.partner → answers .pairPresenceMessage s fun t =>
        t.pair.presenceAt = some s.stime ∧ t.msg.accepted = rest ∧ (s.rd PAIR.STAT.link = 0 → t.rd PAIR.FAULT.degraded = 1)) ∧
      (tmlType a.id = 0x20 → a.id % 128 = 0 → bit a.id 7 = true → s.partial? (tmlSource a.id) (field a.body 0 2) = none → answers .regReqFragment s fun t =>
        t.msg.accepted = rest ∧ (t.msg.partials.getLast?.map fun p => (p.source, p.tag, p.role, p.op, p.addr, p.len)) =
          some (tmlSource a.id, field a.body 0 2, field a.body 4 1, field a.body 5 1, field a.body 6 4, field a.body 10 2) ∧
          onlyChanges [.msg, .head 0x24, .head 0x14, .page 0x34, .head 0x20, .pages 0x30 0x34, .ports] s t) ∧
      (tmlType a.id = 0x20 → a.id % 128 = 0 → bit a.id 7 = false → field a.body 5 1 = 1 → 4 ≤ field a.body 10 2 → field a.body 10 2 ≤ 48 → s.msg.records = [] →
        s.maySend 0x21 = true → (s.macKey 0).isSome = true → answers .regReqFragment s fun t =>
          t.msg.formed + t.msg.waiting.length = s.msg.formed + s.msg.waiting.length + 1 ∧ t.store = s.store ∧ t.live = s.live) ∧
      (tmlType a.id = 0x10 → s.alive 0x35 = true → s.quiesced 0x35 = false → s.rd TSYNC.STATE.state ≠ 4 → answers .syncPairReceived s fun t =>
        Keyed.get? t.tsync.syncs (field a.body 0 1 % 2) = some (field a.body 1 1, a.stime) ∧ t.msg.accepted = rest ∧
          onlyChanges [.msg, .head 0x24, .head 0x14, .page 0x34, .head 0x20, .pages 0x30 0x34, .ports, .tsync] s t) ∧
      (tmlType a.id = 0x11 → s.alive 0x35 = true → s.quiesced 0x35 = false → s.rd TSYNC.STATE.state ≠ 4 → field a.body 2 1 ≤ 2 →
        field a.body 0 1 % 2 = s.rd TSYNC.CFG.pref → ∀ p : Nat × Nat, Keyed.get? s.tsync.syncs (field a.body 0 1 % 2) = some p → p.1 = field a.body 1 1 →
        answers .syncPairReceived s fun t =>
          t.rd TSYNC.OFFSET.us = unsigned TSYNC.OFFSET.us.w ((field a.body 4 8 : Int) - p.2) ∧ t.rd TSYNC.STATE.hops = field a.body 2 1 ∧
            t.rd TSYNC.STATE.net = s.rd TSYNC.CFG.pref ∧ t.rd TSYNC.STATE.srcnid = tmlSource a.id ∧ t.tsync.lastTm = some (field a.body 4 8) ∧
            (s.rd TSYNC.STATE.state = 0 → t.rd TSYNC.STATE.state = 1 ∧ t.tsync.step = some ((field a.body 4 8 : Int) - p.2)) ∧
            (s.rd TSYNC.STATE.state ≠ 0 → ((field a.body 4 8 : Int) - p.2).natAbs ≤ s.rd TSYNC.CFG2.step_us → ∀ l : Nat, s.tsync.lastTm = some l → l < field a.body 4 8 →
              let o := (field a.body 4 8 : Int) - p.2
              let freq := s.rdInt TSYNC.FREQ.ppb + roundEven (o * 1000000000) (16 * (field a.body 4 8 - l))
              t.rd TSYNC.FREQ.ppb = unsigned TSYNC.FREQ.ppb.w freq ∧
                t.rd TSYNC.ADJ.ppb = unsigned TSYNC.ADJ.ppb.w (clampAdj (freq + roundEven (o * 1000000000) (2 * (field a.body 4 8 - l))))) ∧
            onlyChanges [.msg, .head 0x24, .head 0x14, .page 0x34, .head 0x20, .pages 0x30 0x34, .ports, .tsync, .page 0x35, .freeCount] s t)
/-! ### Memory, streams and the store -/

/-- Memory, streams and the store: initialisation ends once, with the SRAM readable, a scrub step moves on by one word and notes what it finds there; a chained stream is started
with its first descriptor, restarted where it halted and aborted, and a burst of a fill moves its bytes and no others; a command of the store
runs on valid operands, or waits while the store is quiesced; an erase leaves 0xFF, a program can only clear bits and is refused where it does
not read back as its source, a CRC is that of the range, and an abort ends the command. -/
def Obligations.MemoryStreamsAndTheStoreAct : Prop :=
  ∀ s : State, s.canonical →
    (∀ kept : Bool, s.rd MEM.INFO.init_done = 1 → answers (.sramInitDone kept) s fun t => t = s) ∧
    (∀ kept : Bool, s.alive 0x40 = true → s.rd MEM.INFO.init_done = 0 → answers (.sramInitDone kept) s fun t =>
      t.rd MEM.INFO.init_done = 1 ∧ t.rd MEM.INFO.retvalid = (if kept = true ∧ s.rst.cold = false then 1 else 0) ∧ t.rd MEM.IRQRAW.init_done = 1 ∧ t.rst.cold = false ∧
        onlyChanges [.sram, .sramBad, .sramWeak, .rst, .page 0x40, .head 0x14, .page 0x178, .recorder, .page 0x49, .head 0x24, .page 0x42, .head 0x20, .page 0x41, .msg, .page 0x48, .nvm, .page 0x51, .dma, .page 0x20, .alarm, .pages 0x30 0x34, .ports, .pwr, .call, .page 0x28, .pages 0x120 0x130, .page 0x130, .terms, .page 0x10, .pages 0x8 0x10, .page 0x35, .jkt, .page 0x19, .loops, .page 0x18, .cal] s t) ∧
    (∀ k : Nat, s.scrubs = true → answers (.scrubStep k) s fun t =>
      let first := if s.rd PWR.STAT.state = 3 then 491520 else 0
      let word := max first (s.rd MEM.SCRUBPOS.word)
      t.rd MEM.SCRUBPOS.word = (if word + 1 < 524288 then word + 1 else first) ∧
        t.rd MEM.PASSCNT.count = (if word + 1 < 524288 then s.rd MEM.PASSCNT.count else (s.rd MEM.PASSCNT.count + 1) % 2 ^ MEM.PASSCNT.count.w) ∧
        (k = 1 → t.rd MEM.CECNT.count = min (s.rd MEM.CECNT.count + 1) (2 ^ MEM.CECNT.count.w - 1) ∧ t.rd MEM.CEADDR.addr = 8 * (sramWord sramBase + word) % 2 ^ MEM.CEADDR.addr.w) ∧
        (k = 2 → s.sramWeak = [] → t.rd MEM.UECNT.count = min (s.rd MEM.UECNT.count + 1) (2 ^ MEM.UECNT.count.w - 1) ∧ sramWord sramBase + word ∈ t.sramBad ∧ t.rd MEM.FAULT.ue = 1) ∧
        t.sram = s.sram ∧
        onlyChanges [.page 0x40, .head 0x14, .sramWeak, .head 0x24, .head 0x20, .sramBad] s t) ∧
    (∀ (q : Requester) (k : Nat), s.admits q 0x42 → 16 ≤ k → k < 64 → s.rd (DMA.SCFG.enable k) = 1 → (match q with | .remote .. => false | _ => true) = true →
      (s.working 0x40 = true → s.sramBad = [] → inSram (s.rd (DMA.SHEAD.desc k) * 32) 32 = true → (s.streamState k = 0 ∨ s.streamState k = 4 ∨ s.streamState k = 5) →
        let bs := s.sramBytes (s.rd (DMA.SHEAD.desc k) * 32) 32
        let c : DmaStream := { desc := s.rd (DMA.SHEAD.desc k) * 32, src := field bs 0 4, dst := field bs 4 4, len := field bs 8 3, ctl := field bs 12 2, next := field bs 16 4 }
        s.descFault c (field bs 11 1 != 0 || field bs 12 2 / 32 != 0 || field bs 28 4 != 0) = 0 → answers (.dmaStart q k) s fun t =>
          t.status = 0 ∧ t.rd (DMA.SCTL.refused k) = 0 ∧ ((t.streamState k = 1 ∧ t.stream k = { desc := c.desc, unread := some false }) ∨ (t.streamState k = 2 ∧ t.stream k = c)) ∧
            onlyChanges [.page 0x01, .status, .page 0x42, .dma, .head 0x24, .head 0x14, .head 0x20, .page 0x40, .sramWeak] s t) ∧
      (s.streamState k = 3 → answers (.dmaRestart q k) s fun t => t.status = 0 ∧ t.rd (DMA.SCTL.refused k) = 0 ∧ (t.stream k).desc = s.rd (DMA.SRESD.desc k) ∧
        (t.streamState k = 1 ∧ (t.stream k).off = s.rd (DMA.SRESO.offset k) ∧ (t.stream k).unread = some true ∨
          t.streamState k = 2 ∧ (t.stream k).off = s.rd (DMA.SRESO.offset k) ∧ t.activeStream = some k ∨ t.streamState k = 3 ∧ t.rd (DMA.SCTL.code k) ≠ 0) ∧
        (s.activeStream.isSome = true → t.streamState k = 1) ∧
        onlyChanges [.page 0x01, .status, .page 0x42, .dma, .head 0x24, .head 0x14, .head 0x20, .page 0x40, .sramWeak] s t) ∧
      ((s.streamState k = 1 ∨ s.streamState k = 2 ∨ s.streamState k = 3) → answers (.dmaAbort q k) s fun t =>
        t.status = 0 ∧ t.streamState k = 5 ∧ t.rd DMA.IRQRAW.aborted = 1 ∧ t.sram = s.sram ∧
          (s.streamState k ≠ 3 → t.rd (DMA.SRESD.desc k) = (s.stream k).desc % 2 ^ 32 ∧
            t.rd (DMA.SRESO.offset k) = if s.streamState k = 1 then 0 else (s.stream k).off % 2 ^ (DMA.SRESO.offset k).w) ∧
          onlyChanges [.page 0x01, .status, .page 0x42, .dma, .head 0x24, .head 0x14, .head 0x20, .page 0x40, .sramWeak] s t)) ∧
    (∀ k : Nat, s.activeStream = some k → s.alive 0x42 = true → s.sramBad = [] → bit (s.stream k).ctl 3 = true → (s.stream k).unread = none →
      let c := s.stream k
      let n := min (c.len - c.off) (64 - (c.dst + c.off) % 64)
      c.off + n < c.len → s.streamRefused k (c.dst + c.off) n = none → answers .dmaBurstEnd s fun t =>
        (t.stream k).off = c.off + n ∧ (∀ i, i ∈ List.range n → Memory.byte 0 t.sram (c.dst + c.off + i) = (bytesLE 4 c.src).getD ((c.off + i) % 4) 0) ∧
          (∀ a : Nat, a < c.dst + c.off ∨ c.dst + c.off + n ≤ a → Memory.byte 0 t.sram a = Memory.byte 0 s.sram a) ∧
          onlyChanges [.dma, .page 0x42, .sram, .sramWeak, .head 0x24, .head 0x14, .head 0x20, .page 0x40] s t) ∧
    (∀ (q : Requester) (i : Nat), s.admits q 0x42 → i < 2 ^ 32 → answers (.resultRingRelease q i) s fun t =>
      t.status = 0 ∧ t.rd DMA.RRREL.index = (if (i + 2 ^ 32 - s.rd DMA.RRREL.index) % 2 ^ 32 ≤ (s.rd DMA.RRPROD.index + 2 ^ 32 - s.rd DMA.RRREL.index) % 2 ^ 32 then i
        else s.rd DMA.RRREL.index) ∧ onlyChanges [.page 0x01, .status, .page 0x42] s t) ∧
    (∀ q : Requester, s.admits q 0x48 → s.nvm.running = none → s.nvm.waiting = [] →
      (s.nvmOperands 1 = true → s.mayStore q (s.rd NVM.ADDR.offset) = true → answers (.nvmProgram q) s fun t =>
        t.status = 0 ∧ t.rd NVM.CMDSTAT.state = (if s.working 0x48 = true then 2 else 1) ∧
          t.nvm = (if s.working 0x48 = true then { s.nvm with running := some ⟨.host, 1, s.rd NVM.SRCADDR.addr, s.rd NVM.ADDR.offset, s.rd NVM.LEN.bytes⟩ } else { s.nvm with waiting := [⟨.host, 1, s.rd NVM.SRCADDR.addr, s.rd NVM.ADDR.offset, s.rd NVM.LEN.bytes⟩] }) ∧
          onlyChanges [.page 0x01, .status, .nvm, .page 0x48] s t) ∧
      (s.nvmOperands 2 = true → s.mayStore q (s.rd NVM.ADDR.offset) = true → answers (.nvmErase q) s fun t =>
        t.status = 0 ∧ t.rd NVM.CMDSTAT.state = (if s.working 0x48 = true then 2 else 1) ∧
          t.nvm = (if s.working 0x48 = true then { s.nvm with running := some ⟨.host, 2, s.rd NVM.SRCADDR.addr, s.rd NVM.ADDR.offset, 0x10000⟩ } else { s.nvm with waiting := [⟨.host, 2, s.rd NVM.SRCADDR.addr, s.rd NVM.ADDR.offset, 0x10000⟩] }) ∧
          onlyChanges [.page 0x01, .status, .nvm, .page 0x48] s t) ∧
      (s.nvmOperands 3 = true → answers (.nvmCrc q) s fun t =>
        t.status = 0 ∧ t.rd NVM.CMDSTAT.state = (if s.working 0x48 = true then 2 else 1) ∧
          t.nvm = (if s.working 0x48 = true then { s.nvm with running := some ⟨.host, 3, s.rd NVM.SRCADDR.addr, s.rd NVM.ADDR.offset, s.rd NVM.LEN.bytes⟩ } else { s.nvm with waiting := [⟨.host, 3, s.rd NVM.SRCADDR.addr, s.rd NVM.ADDR.offset, s.rd NVM.LEN.bytes⟩] }) ∧
          onlyChanges [.page 0x01, .status, .nvm, .page 0x48] s t)) ∧
    (∀ (q : Requester) (c : NvmCmd), s.nvm.running = some c → s.admits q 0x48 → c.owner = .host → s.nvm.waiting = [] → answers (.nvmAbort q) s fun t =>
      t.status = 0 ∧ t.rd NVM.CMDSTAT.state = 4 ∧ t.nvm.running = none ∧ t.store = s.store ∧
        onlyChanges [.page 0x01, .status, .freeCount, .page 0x58, .page 0x48, .head 0x14, .head 0x24, .head 0x20, .nvm] s t) ∧
    ∀ c : NvmCmd, s.nvm.running = some c → c.owner = .host → s.rd PWR.STAT.saving = 0 → s.nvm.waiting = [] →
      (c.op = 2 → ∀ b : Bool, answers (.nvmCommandEnd b) s fun t => t.rd NVM.CMDSTAT.state = 3 ∧ t.nvm.running = none ∧
        ∀ a : Nat, t.storeByte a = if a / 0x10000 = c.addr / 0x10000 then 0xFF else s.storeByte a) ∧
      (c.op = 3 → s.nvm.bad = [] → ∀ b : Bool, answers (.nvmCommandEnd b) s fun t => t.rd NVM.CMDSTAT.state = 3 ∧
        t.rd NVM.RESULT.crc = crc32 (s.storeBytes c.addr c.len) ∧ t.store = s.store) ∧
      (c.op = 1 → s.sramBad = [] → answers (.nvmCommandEnd true) s fun t =>
        let fits : Prop := ∀ i, i ∈ List.range c.len → s.storeByte (c.addr + i) &&& Memory.byte 0 s.sram (c.src + i) = Memory.byte 0 s.sram (c.src + i)
        (fits → t.rd NVM.CMDSTAT.state = 3 ∧ ∀ i, i ∈ List.range c.len → t.storeByte (c.addr + i) = Memory.byte 0 s.sram (c.src + i)) ∧
          (¬fits → t.rd NVM.CMDSTAT.state = 5 ∧ t.rd NVM.CMDSTAT.reason = 4 ∧ t.rd NVM.FAULT.verify = 1 ∧
            ∀ i, i ∈ List.range c.len → t.storeByte (c.addr + i) = s.storeByte (c.addr + i) ∨
              t.storeByte (c.addr + i) = s.storeByte (c.addr + i) &&& Memory.byte 0 s.sram (c.src + i)) ∧
          (∀ a : Nat, a < c.addr ∨ c.addr + c.len ≤ a → t.storeByte a = s.storeByte a) ∧ t.nvm.running = none ∧
          onlyChanges [.page 0x48, .nvm, .page 0x58, .head 0x14, .head 0x24, .head 0x20, .store, .recorder, .page 0x49, .page 0x42, .page 0x41, .page 0x40, .sram, .sramBad, .sramWeak, .msg, .page 0x178, .page 0x51, .freeCount, .cal, .page 0x10] s t)
/-! ### The recorder -/

/-- The commands of REC wait for a boundary that applies them: a new leg counts the leg, a cleared histogram and a captured base make a base due, a
written record is staged, an archive whose record and CRC agree is acknowledged and any other refused, and a log is cleared sector by sector
only where its archive stands. A channel's block is shown, a base that reads back becomes the newest and one that does not leaves the old one,
staged records are programmed at the end of the log, or wait for their turn of the store, and a suppressed class is summarised. -/
def Obligations.RecorderCommandsWaitAndAct : Prop :=
  ∀ s : State, s.canonical →
    (∀ (q : Requester) (n : Nat), s.admits q 0x49 → s.variant = .lm160 → s.recHolds = false → s.recorder.waiting = [] →
      (answers (.newLeg q) s fun t =>
        t.status = 0 ∧ t.rd REC.CMDSTAT.state = 1 ∧ t.recorder.waiting.length = 1 ∧ onlyChanges [.page 0x01, .status, .page 0x49, .recorder] s t ∧
          t.recCommands.recorder.waiting = [] ∧ t.recCommands.rd REC.LEG.leg = (s.rd REC.LEG.leg + 1) % 2 ^ REC.LEG.leg.w ∧ t.recCommands.rd REC.CMDSTAT.state = 2 ∧
            t.recCommands.recorder.changes.legStart = s.optime) ∧
      ((n = 0x3FF ∨ n < s.variant.channels) → answers (.histogramClear q n) s fun t =>
        t.status = 0 ∧ t.rd REC.CMDSTAT.state = 1 ∧ t.recorder.waiting.length = 1 ∧ onlyChanges [.page 0x01, .status, .page 0x49, .recorder] s t ∧
          t.recCommands.recorder.waiting = [] ∧ t.recCommands.recorder.baseDue = true ∧ t.recCommands.rd REC.CMDSTAT.state = 2) ∧
      (answers (.captureBase q) s fun t =>
        t.status = 0 ∧ t.rd REC.CMDSTAT.state = 1 ∧ t.recorder.waiting.length = 1 ∧ onlyChanges [.page 0x01, .status, .page 0x49, .recorder] s t ∧
          t.recCommands.recorder.waiting = [] ∧ t.recCommands.recorder.baseDue = true ∧ t.recCommands.rd REC.CMDSTAT.state = 2) ∧
      (s.rd REC.STAT.clearing = 0 → answers (.archiveAcknowledge q) s fun t =>
        t.status = 0 ∧ t.rd REC.CMDSTAT.state = 1 ∧ t.recorder.waiting.length = 1 ∧ onlyChanges [.page 0x01, .status, .page 0x49, .recorder] s t ∧
          t.recCommands.recorder.waiting = [] ∧ t.recCommands.rd REC.IRQRAW.cmd_done = 1 ∧
          (let found := if t.alive 0x48 then t.findRecord (t.rd REC.CMDARG.seq) 1600000 (t.rd REC.LOGSTART.offset / 0x10000 * 0x10000) 0 else none;
            (found = none → t.recCommands.rd REC.CMDSTAT.state = 4 ∧ t.recCommands.rd REC.CMDSTAT.reason = 6) ∧
            ∀ off : Nat, found = some off → if t.archiveOk off = true ∧ crc32 (t.archiveBytes off) = t.rd REC.ARCCRC.crc then
                t.recCommands.rd REC.CMDSTAT.state = 2 ∧ t.recCommands.rd REC.STAT.archived = 1 ∧ t.recCommands.recorder.archive = some (t.rd REC.CMDARG.seq, off, t.rd REC.ARCCRC.crc)
              else t.recCommands.rd REC.CMDSTAT.state = 4 ∧ t.recCommands.rd REC.CMDSTAT.reason = 6)) ∧
      (0x8000 ≤ s.rd REC.WRCTL.code → answers (.writeRecord q) s fun t =>
        t.status = 0 ∧ t.rd REC.CMDSTAT.state = 1 ∧ t.recorder.waiting.length = 1 ∧ onlyChanges [.page 0x01, .status, .page 0x49, .recorder] s t ∧
          t.recCommands.recorder.waiting = [] ∧ t.recCommands.rd REC.CMDSTAT.state = 2 ∧ t.recCommands.rd REC.IRQRAW.cmd_done = 1 ∧
          (let r := t.recordOf (t.rd REC.WRCTL.code) (t.rd REC.WRCTL.k + 1) ((List.range 60).flatMap fun i => bytesLE 4 (t.rd (REC.WRDATA.bytes i)));
            t.rd (REC.CLS.enable (t.rd REC.WRCTL.code / 1024)) = 0 → t.recorder.untold = 0 → t.stagedBytes + 16 * (t.rd REC.WRCTL.k + 1) ≤ 0x4000 →
            (t.boundWrite 6 (t.stagingArea + t.stagedBytes) r).1 = true → t.recCommands.recorder.staged = t.recorder.staged ++ [r])) ∧
      (s.rd REC.STAT.archived = 1 → s.rd REC.STAT.clearing = 0 → answers (.clearLog q) s fun t =>
        t.status = 0 ∧ t.rd REC.CMDSTAT.state = 1 ∧ t.recorder.waiting.length = 1 ∧ onlyChanges [.page 0x01, .status, .page 0x49, .recorder] s t ∧
          t.recCommands.recorder.waiting = [] ∧
          (s.recorder.archive = none → t.recCommands.rd REC.CMDSTAT.state = 4 ∧ t.recCommands.rd REC.CMDSTAT.reason = 2) ∧
          ∀ a : Nat × Nat × Nat, s.recorder.archive = some a →
            let l := sectorsTo (a.2.1 / 0x10000) 384 (s.rd REC.LOGSTART.offset / 0x10000)
            (l = [] → t.recCommands.rd REC.CMDSTAT.state = 2 ∧ t.recCommands.rd REC.STAT.archived = 0 ∧ t.recCommands.rd REC.STAT.logfull = 0 ∧
              t.recCommands.rd REC.LOGSTART.offset = a.2.1 / 0x10000 * 0x10000 % 2 ^ REC.LOGSTART.offset.w) ∧
            (l ≠ [] → t.recCommands.rd REC.STAT.clearing = 1 ∧ t.recCommands.recorder.clearing = l.tail ∧
              ∀ c, l.head? = some c → t.recCommands.nvmHas (.recErase c) = true))) ∧
    (∀ q : Requester, s.admits q 0x49 → s.rd REC.STAT.archived = 0 → s.variant = .lm160 → answers (.clearLog q) s fun t =>
      t.status = 0 ∧ t.rd REC.CMDSTAT.state = 4 ∧ t.rd REC.CMDSTAT.reason = 2 ∧ t.recorder = s.recorder ∧ t.store = s.store) ∧
    (∀ (q : Requester) (ch : Nat), s.admits q 0x49 → ch < 1024 → answers (.hselWrite q ch) s fun t =>
      t.status = 0 ∧ t.rd REC.HSEL.ch = ch % 2 ^ REC.HSEL.ch.w ∧
        (∀ i, i ∈ List.range 64 → t.rd (REC.HWIN.bytes i) = if ch < s.variant.channels then s.sramNum (s.chanBlock ch + 4 * i) 4 else 0) ∧
        onlyChanges [.page 0x01, .status, .page 0x49] s t) ∧
    (∀ w : Nat × Nat × List Byte, s.recorder.writing = some w → s.working 0x49 = true → s.storeRuns .recBase = true →
      let fits : Prop := ∀ i, i ∈ List.range w.2.2.length → s.storeByte (snapSector w.1 + i) &&& w.2.2.getD i 0 = w.2.2.getD i 0
      (fits → answers (.baseVerified true) s fun t => t.rd REC.SNAPSEQ.seq = w.2.1 % 2 ^ 32 ∧ t.rd REC.STAT.snapping = 0 ∧ t.rd REC.IRQRAW.snap_done = 1 ∧
        t.recorder.baseSector = w.1 ∧ t.recorder.deltaPage = 0 ∧ t.recorder.writing = none ∧ t.recorder.baseTime = s.recorder.captureTime ∧
        t.recorder.changes = s.recorder.sinceCapture ∧ (∀ i, i ∈ List.range w.2.2.length → t.storeByte (snapSector w.1 + i) = w.2.2.getD i 0) ∧
        onlyChanges [.nvm, .page 0x48, .page 0x49, .recorder, .store, .page 0x58, .head 0x14, .head 0x24, .head 0x20, .freeCount, .page 0x42, .page 0x41, .page 0x40, .sram, .sramBad, .sramWeak] s t) ∧
      (¬fits → answers (.baseVerified true) s fun t => t.rd REC.SNAPSEQ.seq = s.rd REC.SNAPSEQ.seq ∧ t.rd REC.STAT.snapping = 0 ∧ t.rd REC.FAULT.snapwr = 1 ∧
        t.rd NVM.FAULT.verify = 1 ∧ t.recorder.writing = none ∧ t.recorder.baseSector = s.recorder.baseSector) ∧
      answers (.baseVerified false) s fun t => t.rd REC.SNAPSEQ.seq = s.rd REC.SNAPSEQ.seq ∧ t.rd REC.STAT.snapping = 0 ∧ t.rd REC.FAULT.snapwr = 1 ∧
        t.recorder.writing = none ∧ t.store = s.store ∧ t.recorder.baseSector = s.recorder.baseSector) ∧
    (s.working 0x49 = true → s.working 0x48 = true → s.rd PWR.STAT.saving = 0 → (s.rd NVM.CFG.defer = 0 ∨ s.level = 0) → s.recorder.staged ≠ [] →
      (s.nvm.running = none →
        (∀ r : List Byte, s.recorder.staged = [r] → r.length ≤ 256 → s.recorder.untold = 0 → answers (.stagedRecordProgram true) s fun t => t.recorder.staged = [] ∧
          (s.rd REC.STAT.logfull = 1 → t.rd REC.LOGDROP.count = min (s.rd BKPM.DATA30.drop + 1) (2 ^ 32 - 1) ∧ t.store = s.store) ∧
          (s.rd REC.STAT.logfull = 0 → s.rd REC.LOGEND.offset % 0x10000 ≠ 0 → s.rd REC.LOGEND.offset % 0x10000 + r.length ≤ 0x10000 → s.rd REC.LOGEND.offset + r.length < 2 ^ 25 →
            t.rd REC.LOGEND.offset = s.rd REC.LOGEND.offset + r.length ∧ t.rd REC.IRQRAW.record = 1 ∧
            (s.recorder.sectorOpen = some (s.rd REC.LOGEND.offset / 0x10000) → (∀ i, i ∈ List.range r.length → s.storeByte (s.rd REC.LOGEND.offset + i) = 0xFF) →
              ∀ i, i ∈ List.range r.length → t.storeByte (s.rd REC.LOGEND.offset + i) = r.getD i 0)) ∧
          onlyChanges [.page 0x49, .head 0x14, .recorder, .head 0x24, .page 0x42, .head 0x20, .page 0x41, .page 0x40, .sram, .sramBad, .sramWeak, .msg, .store, .nvm, .page 0x58, .page 0x48, .page 0x51] s t) ∧
        answers (.stagedRecordProgram false) s fun t => t.rd REC.FAULT.logwr = 1 ∧ t.recorder = s.recorder ∧ t.store = s.store) ∧
      (s.nvm.running ≠ none → s.nvmHas .recRecords = false → ∀ b : Bool, answers (.stagedRecordProgram b) s fun t =>
        t.nvm = { s.nvm with waiting := s.nvm.waiting ++ [⟨.recRecords, 1, 0, s.rd REC.LOGEND.offset, min s.stagedBytes 0x4000⟩] } ∧ onlyChanges [.nvm] s t)) ∧
    (∀ k : Nat, k < 64 → s.alive 0x49 = true →
      (s.rd (REC.CLS.enable k) = 1 → s.rd (REC.CLS.tokens k) + 1 < s.rd (REC.CLS.burst k) → answers (.tokenRefill k) s fun t =>
        t.rd (REC.CLS.tokens k) = s.rd (REC.CLS.tokens k) + 1 ∧ onlyChanges [.page 0x178] s t) ∧
      (s.rd (REC.CLS.enable k) = 1 → s.rd (REC.CLS.burst k) ≤ s.rd (REC.CLS.tokens k) + 1 → answers (.tokenRefill k) s fun t =>
        t.rd (REC.CLS.tokens k) = s.rd (REC.CLS.burst k) % 2 ^ (REC.CLS.tokens k).w ∧ Keyed.get? t.recorder.suppressed k = none ∧
          (Keyed.get? s.recorder.suppressed k = none → onlyChanges [.page 0x178] s t)) ∧
      (Keyed.get? s.recorder.suppressed k = none → answers (.summaryInterval k) s fun t => t = s) ∧
      ∀ e : Suppressed, Keyed.get? s.recorder.suppressed k = some e → answers (.summaryInterval k) s fun t =>
        t.rd (REC.CLS.suppressed k) = 0 ∧ Keyed.get? t.recorder.suppressed k = none ∧ onlyChanges [.recorder, .page 0x49, .head 0x14, .head 0x24, .page 0x42, .head 0x20, .page 0x41, .page 0x40, .sram, .sramBad, .sramWeak, .msg, .page 0x178] s t ∧
          (s.variant = .lm160 → s.recHolds = false → s.recorder.untold = 0 →
            let r := s.recordOf 0x0002 2 (bytesLE 1 k ++ bytesLE 3 (s.rd (REC.CLS.suppressed k)) ++ bytesLE 5 e.first ++ bytesLE 5 e.last ++ bytesLE 2 e.code)
            if s.stagedBytes + 32 ≤ 0x4000 ∧ (s.boundWrite 6 (s.stagingArea + s.stagedBytes) r).1 = true then
              t.recorder.staged = s.recorder.staged ++ [r] ∧ t.rd REC.IRQRAW.summary = 1
            else t.recorder.staged = s.recorder.staged ∧ t.rd REC.STAGEDROP.count = min (s.rd REC.STAGEDROP.count + 1) (2 ^ REC.STAGEDROP.count.w - 1)))
/-! ### The calendar clock, keys, images and tamper -/

/-- The calendar clock: a second carries into the calendar and past the last second of 2399 into the first of 2000, a read takes and keeps the
requester's frozen set until CENT or its end, a command is applied with the tick after it, to the time of that tick or refused, and the stop of
the pacer is kept in osf until it is cleared after a SET, while the recovery ends only the fallback. -/
def Obligations.TheCalendarClockKeepsTime : Prop :=
  ∀ s : State, s.canonical →
    (s.alive 0x50 = true → s.rtc.pendingCmd = none → s.rtc.subsec < 32768 → s.rtc.trimTick < 2 ^ 20 → s.rtc.trim.natAbs ≤ 537 → (s.rdInt RTC.TRIM.n).natAbs ≤ 537 →
      answers .rtcSecondCarry s fun t =>
        t.rtc.seconds = (if s.rtc.seconds + 1 < calendarEnd then s.rtc.seconds + 1 else 0) ∧ t.rtc.subsec ≤ 1 ∧
          (s.rtc.trim = 0 → s.rd RTC.TRIM.n = 0 → t.rtc.subsec = 0) ∧
          (calendarEnd ≤ s.rtc.seconds + 1 → t.rd RTC.STAT.wrap = 1 ∧ t.rd RTC.IRQRAW.wrap = 1) ∧ t.rtc.freezes = s.rtc.freezes ∧
          (s.rtc.wake = false → (∀ a, a ∈ [0, 1] → s.rd (RTC.ALMCTL.wake a) = 0) → onlyChanges [.rtc, .page 0x50, .head 0x14] s t) ∧
          onlyChanges [.rtc, .page 0x04, .head 0x14, .page 0x178, .recorder, .page 0x49, .head 0x24, .page 0x42, .head 0x20, .page 0x41, .page 0x40, .sram, .sramBad, .sramWeak, .msg, .page 0x48, .nvm, .page 0x51, .switched, .pwr, .terms, .immediate, .latched, .pair, .dma, .pages 0x30 0x34, .cal, .page 0x10, .afe, .arith, .lap, .ports, .loops, .jkt, .page 0x1A, .page 0x38, .page 0x19, .alarm, .pages 0x120 0x131, .call, .tsync, .freeCount, .page 0x58, .sec, .response, .responseCrc, .page 0x11, .pages 0x8 0x10, .page 0x18, .rst, .page 0x28, .page 0x34, .live, .shadow, .dirty, .page 0x01, .page 0x50] s t) ∧
    (∀ (q : Requester) (i : Nat), s.alive 0x50 = true → i ≤ 8 → answers (.rtcTimeRead q i) s fun t =>
      let vs := ((Keyed.get? s.rtc.freezes (mptuClass q)).map Freeze.values).getD s.rtcNow
      t.status = 0 ∧ t.response = bytesLE 4 (vs.getD i 0) ∧
        (Keyed.get? t.rtc.freezes (mptuClass q)).map Freeze.values = (if i = 8 then none else some vs) ∧ t.rtc.seconds = s.rtc.seconds ∧
        onlyChanges [.status, .response, .responseCrc, .rtc] s t) ∧
    (∀ q : Requester, (Keyed.get? s.rtc.freezes (mptuClass q)).isSome = true → answers (.rtcFreezeTimeout q) s fun t =>
      Keyed.get? t.rtc.freezes (mptuClass q) = none ∧ t.rd RTC.IRQRAW.freeze_to = 1 ∧ onlyChanges [.rtc, .head 0x14] s t) ∧
    (∀ q : Requester, s.admits q 0x50 → s.rtc.pendingCmd = none →
      (s.setField = none → answers (.rtcSet q) s fun t => t.status = 0 ∧ t.rtc.seconds = s.setSeconds ∧ t.rtc.subsec = s.rd (RTC.SET.set_ 0) ∧
        t.rd RTC.CMDSTAT.state = 2 ∧ t.rd RTC.IRQRAW.cmd_done = 1 ∧ t.rtc.setSince = true ∧ t.rd RTC.STAT.wrap = 0 ∧
          onlyChanges [.page 0x01, .status, .rtc, .page 0x04, .head 0x14, .page 0x178, .recorder, .page 0x49, .head 0x24, .page 0x42, .head 0x20, .page 0x41, .page 0x40, .sram, .sramBad, .sramWeak, .msg, .page 0x48, .nvm, .page 0x51, .switched, .pwr, .terms, .immediate, .latched, .pair, .dma, .pages 0x30 0x34, .cal, .page 0x10, .afe, .arith, .lap, .ports, .loops, .jkt, .page 0x1A, .page 0x38, .page 0x19, .alarm, .pages 0x120 0x131, .call, .tsync, .freeCount, .page 0x58, .sec, .response, .responseCrc, .page 0x11, .pages 0x8 0x10, .page 0x18, .rst, .page 0x28, .page 0x34, .live, .shadow, .dirty, .page 0x50] s t) ∧
      (∀ f : Nat, s.setField = some f → answers (.rtcSet q) s fun t => t.status = 0 ∧ t.rd RTC.CMDSTAT.state = 4 ∧ t.rd RTC.CMDSTAT.reason = 6 ∧
        t.rd RTC.CMDSTAT.setfld = f ∧ t.rd RTC.STAT.seterr = 1) ∧
      (s.rtc.trim = 0 → s.rtcTicks + 3601 * 32768 < calendarEnd * 32768 →
        (s.rd RTC.STAT.dst = 0 → answers (.rtcAdd1h q) s fun t => t.status = 0 ∧ t.rtcTicks = s.rtcTicks + 1 + 3600 * 32768 ∧ t.rd RTC.STAT.dst = 1 ∧ t.rd RTC.CMDSTAT.state = 2) ∧
        (s.rd RTC.STAT.dst = 1 → answers (.rtcAdd1h q) s fun t => t.rtcTicks = s.rtcTicks + 1 ∧ t.rd RTC.CMDSTAT.state = 4 ∧ t.rd RTC.CMDSTAT.reason = 2) ∧
        (s.rd RTC.STAT.dst = 1 → 3600 * 32768 ≤ s.rtcTicks + 1 → answers (.rtcSub1h q) s fun t =>
          t.status = 0 ∧ t.rtcTicks = s.rtcTicks + 1 - 3600 * 32768 ∧ t.rd RTC.STAT.dst = 0 ∧ t.rd RTC.CMDSTAT.state = 2) ∧
        (∀ n : Nat, 0 < n → n < 32768 → answers (.rtcShift q false n) s (fun t => t.status = 0 ∧ t.rtcTicks = s.rtcTicks + 1 + n ∧ t.rd RTC.CMDSTAT.state = 2) ∧
          (n ≤ s.rtcTicks + 1 → answers (.rtcShift q true n) s fun t => t.status = 0 ∧ t.rtcTicks = s.rtcTicks + 1 - n ∧ t.rd RTC.CMDSTAT.state = 2)) ∧
        answers (.rtcReleaseFreeze q) s fun t => t.status = 0 ∧ t.rtcTicks = s.rtcTicks + 1 ∧ Keyed.get? t.rtc.freezes (mptuClass q) = none ∧ t.rd RTC.CMDSTAT.state = 2)) ∧
    answers .pacerStop s (fun t => t.rd RTC.STAT.osf = 1 ∧ t.rd RTC.STAT.rcfb = 1 ∧ t.rd RTC.IRQRAW.osf = 1 ∧ t.rd RTC.FAULT.osc = 1 ∧ t.rtc.setSince = false ∧
      bit (t.rd TAMP.STAT.active) 5 = true ∧ t.rtc.seconds = s.rtc.seconds ∧
        onlyChanges [.page 0x5A, .head 0x14, .sec, .page 0x59, .head 0x24, .head 0x20, .page 0x51, .page 0x03, .page 0x34, .page 0x58, .page 0x48, .recorder, .page 0x49, .page 0x42, .page 0x41, .page 0x40, .sram, .sramBad, .sramWeak, .msg, .page 0x178, .page 0x50, .rtc] s t) ∧
    answers .pacerRecovered s fun t => t.rd RTC.STAT.rcfb = 0 ∧ bit (t.rd TAMP.STAT.active) 5 = false ∧ t.rd RTC.STAT.osf = s.rd RTC.STAT.osf ∧
      onlyChanges [.page 0x50, .page 0x5A] s t

/-- Keys, images, tamper and backup power: a key is loaded and cleared in its slot and every command clears the key data, an erase empties the vault, an
identity takes slot 6 and its place in the store, an attestation and the check of an image run to their ends, a tamper source is shown,
latched and acted on by its policy, the alarm clears only while no source keeps it, and a first power-up of the backup domain empties it. -/
def Obligations.KeysImagesTamperAndBackupAct : Prop :=
  ∀ s : State, s.canonical →
    (∀ (q : Requester) (n : Nat), s.admits q 0x59 → n < 8 → s.sec.erasing = 0 → s.rd KEYV.CMDEN.load_en = 1 →
      (n ≠ 6 → (∀ i, i ∈ List.range 8 → (Keyed.get? s.sec.keyData i).isSome = true) → answers (.keyLoad q n) s fun t =>
        t.status = 0 ∧ Keyed.get? t.sec.slots n = some ((List.range 8).flatMap fun i => wordBytes (Keyed.get 0 s.sec.keyData i)) ∧ bit (t.rd KEYV.STAT.valid) n = true ∧
          t.rd KEYV.CMDSTAT.state = 2 ∧ t.rd KEYV.IRQRAW.loaded = 1 ∧ t.sec.keyData = [] ∧
          onlyChanges [.page 0x01, .status, .sec, .page 0x59, .head 0x14, .page 0x34, .head 0x24, .head 0x20] s t) ∧
      answers (.keyClear q n) s fun t => t.status = 0 ∧ Keyed.get? t.sec.slots n = none ∧ bit (t.rd KEYV.STAT.valid) n = false ∧ t.rd (KEYV.KCV.kcv n) = 0 ∧
        t.rd KEYV.CMDSTAT.state = 2 ∧ t.sec.keyData = [] ∧ (n = 6 → s.powered 0x58 = true → t.rd SEC.STAT.id_valid = 0) ∧
        onlyChanges [.page 0x01, .status, .sec, .page 0x59, .head 0x14, .page 0x34, .head 0x24, .head 0x20, .page 0x58] s t) ∧
    (∀ q : Requester, s.admits q 0x59 → s.sec.erasing = 0 → answers (.vaultErase q) s fun t =>
      t.status = 0 ∧ t.sec.slots = [] ∧ t.sec.keyData = [] ∧ t.rd KEYV.STAT.valid = 0 ∧ t.rd KEYV.STAT.erased = 1 ∧ t.rd TAMP.STAT.erasing = 1 ∧ t.rd KEYV.CMDSTAT.state = 2 ∧
        t.rd KEYV.ERASECNT.count = min (s.rd KEYV.ERASECNT.count + 1) (2 ^ KEYV.ERASECNT.count.w - 1) ∧ bit (t.rd RST.CAUSE.cause) 11 = true ∧ t.store = s.store ∧
        onlyChanges [.page 0x01, .status, .sec, .page 0x59, .page 0x34, .head 0x24, .head 0x14, .head 0x20, .page 0x58, .page 0x48, .page 0x5A, .page 0x51, .page 0x03, .recorder, .page 0x49, .page 0x42, .page 0x41, .page 0x40, .sram, .sramBad, .sramWeak, .msg, .page 0x178] s t) ∧
    (∀ q : Requester, s.admits q 0x58 → s.sec.running = none → s.quiesced 0x58 = false → s.rst.bootPending = false →
      (s.factoryHold = true → answers (.identityGenerate q) s fun t => t.status = 0 ∧ t.rd SEC.CMDSTAT.state = 2 ∧ t.rd SEC.IRQRAW.gen_done = 1 ∧
        (∃ key d, key.length = 32 ∧ 1 ≤ d ∧ d < n256 ∧ Keyed.get? t.sec.slots 6 = some key ∧ t.storeBytes identityAt 40 = keyWrap key (bytesBE 32 d)) ∧
        (∀ a : Nat, a < identityAt ∨ identityAt + 40 ≤ a → t.storeByte a = s.storeByte a) ∧
        onlyChanges [.page 0x01, .status, .page 0x58, .freeCount, .page 0x59, .sec, .head 0x14, .page 0x48, .head 0x24, .head 0x20, .store, .nvm] s t) ∧
      (s.rd SEC.STAT.id_valid = 1 → answers (.attest q) s fun t => t.status = 0 ∧ t.rd SEC.CMDSTAT.state = 1 ∧ t.sec.running = some 2 ∧ t.sec.hash = ofBytesBE (sha256 t.attestBytes) ∧
        onlyChanges [.page 0x01, .status, .page 0x58, .sec] s t) ∧
      answers (.verifyImageA q) s (fun t => t.status = 0 ∧ t.rd SEC.CMDSTAT.state = 1 ∧ t.rd (SEC.IMGSTAT.state 0) = 1 ∧ t.sec.running = some 3 ∧
        t.rd (SEC.IMGSTAT.state 1) = s.rd (SEC.IMGSTAT.state 1) ∧ onlyChanges [.page 0x01, .status, .page 0x58, .sec] s t) ∧
      answers (.verifyImageB q) s fun t => t.status = 0 ∧ t.rd SEC.CMDSTAT.state = 1 ∧ t.rd (SEC.IMGSTAT.state 1) = 1 ∧ t.sec.running = some 4 ∧
        t.rd (SEC.IMGSTAT.state 0) = s.rd (SEC.IMGSTAT.state 0) ∧ onlyChanges [.page 0x01, .status, .page 0x58, .sec] s t) ∧
    (s.sec.running = some 2 → answers .attestDone s fun t => t.sec.running = none ∧ t.sec.hash = 0 ∧ t.rd SEC.IRQRAW.attest_done = 1 ∧
      (s.identity = none → t.rd SEC.CMDSTAT.state = 4 ∧ t.rd SEC.CMDSTAT.reason = 3 ∧ ∀ i, i ∈ List.range 16 → t.rd (SEC.SIG.bytes i) = 0) ∧
      (∀ d, s.identity = some d → ∃ k, 1 ≤ k ∧ k < n256 ∧
        (∀ x y, ecdsaSign d k s.sec.hash = some (x, y) → t.rd SEC.CMDSTAT.state = 2 ∧
          ∀ i, i ∈ List.range 8 → t.rd (SEC.SIG.bytes i) = ofBytesLE (((bytesBE 32 x).drop (4 * i)).take 4) ∧
            t.rd (SEC.SIG.bytes (8 + i)) = ofBytesLE (((bytesBE 32 y).drop (4 * i)).take 4)) ∧
        (ecdsaSign d k s.sec.hash = none → t.rd SEC.CMDSTAT.state = 4 ∧ t.rd SEC.CMDSTAT.reason = 3)) ∧
      onlyChanges [.freeCount, .sec, .page 0x58, .head 0x14] s t) ∧
    (∀ i : Nat, i < 2 → s.alive 0x58 = true → s.rst.bootPending = false → s.sec.running = some (3 + i) → answers .imageVerifyEnd s fun t =>
      t.rd (SEC.IMGSTAT.state i) = (if s.imageReason i = 0 then 2 else 3) ∧ t.rd (SEC.IMGSTAT.reason i) = s.imageReason i ∧ t.rd SEC.CMDSTAT.state = 2 ∧
        t.rd SEC.IRQRAW.img_done = 1 ∧ t.sec.running = none ∧ t.rd (SEC.IMGSEQ.seq i) = (if s.imageReason i = 0 then s.storeNum (imageBase i + 8) 4 else 0) ∧
        onlyChanges [.page 0x58, .sec, .head 0x14, .page 0x48, .head 0x24, .head 0x20] s t) ∧
    (∀ n : Nat, s.tamperSensed n = true →
      (answers (.tamperDetect n true) s fun t => bit (t.rd TAMP.STAT.active) n = true ∧
        (s.tamperPolicy n ≠ 0 → bit (t.rd TAMP.STAT.latched) n = true ∧ t.rd TAMP.IRQRAW.event = 1) ∧
        (s.tamperPolicy n = 3 → s.sec.erasing = 0 → t.sec.slots = [] ∧ t.sec.keyData = []) ∧
        (2 ≤ s.tamperPolicy n → s.inBackup = false → t.rd TAMP.STAT.alarm = 1 ∧ t.rd TAMP.FAULT.alarm = 1) ∧
        (n = 1 ∨ n = 2 → bit t.sec.pins n = !s.armedLevel n) ∧ onlyChanges [.sec, .page 0x5A, .head 0x14, .page 0x59, .head 0x24, .head 0x20, .page 0x51, .page 0x03, .page 0x34, .page 0x58, .page 0x48, .recorder, .page 0x49, .page 0x42, .page 0x41, .page 0x40, .sram, .sramBad, .sramWeak, .msg, .page 0x178] s t) ∧
      answers (.tamperDetect n false) s fun t => (n ≠ 5 ∨ s.rd RTC.STAT.rcfb = 0 → bit (t.rd TAMP.STAT.active) n = false) ∧ (n = 5 → s.rd RTC.STAT.rcfb = 1 → t = s) ∧
        t.rd TAMP.STAT.latched = s.rd TAMP.STAT.latched ∧ t.sec = { s.sec with pins := t.sec.pins } ∧ (n = 1 ∨ n = 2 → bit t.sec.pins n = s.armedLevel n) ∧
        onlyChanges [.page 0x5A, .sec] s t) ∧
    (∀ q : Requester, s.admits q 0x5A → answers (.securityAlarmClear q) s fun t =>
      t.status = 0 ∧ t.rd TAMP.STAT.alarm = (if (List.range 7).any (fun i => bit (s.rd TAMP.STAT.active) i && decide (2 ≤ s.tamperPolicy i)) then s.rd TAMP.STAT.alarm else 0) ∧
        onlyChanges [.page 0x01, .status, .page 0x5A] s t) ∧
    answers .bkpPowerUp s (fun t => t.sec.slots = [] ∧ t.sec.keyData = [] ∧ t.rtc.seconds = 0 ∧ t.rd RST.CAUSE.cause = 1 ∧ t.rd RTC.STAT.osf = 1 ∧ t.rtc.setSince = false ∧
      t.rd TAMP.STAT.latched = 0 ∧ t.rd KEYV.STAT.valid = 0 ∧ 
      onlyChanges [.regs, .rtc, .sec] s t ∧ ∀ a, a / 0x1000 ∉ [0x50, 0x51, 0x59, 0x5A] → a ≠ RST.CAUSE.cause.addr → t.wordAt false a = s.wordAt false a) ∧
    answers .vbatLow s fun t => t.rd BKPM.STAT.vbat_low = 1 ∧ t.rd BKPM.STAT.vbat_ok = 0 ∧ t.rd BKPM.IRQRAW.vbat_low = (if s.rst.vddio = true then 1 else s.rd BKPM.IRQRAW.vbat_low) ∧ onlyChanges [.page 0x51, .head 0x14] s t

/-! ### Reset and idle time -/

/-- The machine right after reset: nothing waits, the configuration, its mirror, the store and the SRAM are empty, no key is held, and the fields
show the reset values that the spec's register tables give. The variant and the straps are the model's choice (log entry 4). -/
def Obligations.ResetHoldsTheResetValues : Prop :=
  State.reset.canonical ∧ State.reset.pending = [] ∧ State.reset.live = [] ∧ State.reset.shadow = [] ∧ State.reset.mirror = [] ∧ State.reset.sram = [] ∧
    State.reset.store = [] ∧ State.reset.sec.slots = [] ∧ State.reset.variant = .lm160 ∧ State.reset.straps = {} ∧
    State.reset.stime = 0 ∧ State.reset.lap.timer = 0 ∧ State.reset.rst.bootPending = true ∧
    (∀ p, p ∈ (List.range 0x61).filter (fun p => !(pageRows p).isEmpty) → State.reset.rd (HDR.CTL.qreq p) = 0 ∧ State.reset.rd (HDR.CTL.breset p) = 0 ∧ State.reset.rd (HDR.COMMIT.state p) = 0 ∧
      State.reset.rd (HDR.QTIMEOUT.timeout_us p) = 1000) ∧
    (∀ x, x ∈ resetValues → State.reset.rd x.1 = x.2) ∧
    (∀ b, b ∈ List.range 8 → State.reset.rd (AFE.LANEMAP.lanes b) = 0x3210 ∧ State.reset.rd (AFE.LANEMAP.spare b) = 4 ∧ State.reset.rd (AFE.LANEMAP.live b) = 4) ∧
    (∀ n, n ∈ List.range 4 → State.reset.rd (BUS.CFG.boauto n) = 1 ∧ State.reset.rd (BUS.CFG.nomatch n) = 2 ∧ State.reset.rd (BUS.NBT.tseg1 n) = 0x3E ∧
      State.reset.rd (BUS.NBT.tseg2 n) = 0x0F ∧ State.reset.rd (BUS.DBT.tseg1 n) = 0x0E ∧ State.reset.rd (BUS.TDC.offset n) = 32) ∧
    (∀ i, i ∈ List.range 128 → State.reset.rd (MPTU.TAG.tags i) = 0x77777777)

/-- An idle block lets a microsecond pass (the model's choice, log entry 2): nothing comes to wait, and the straps, the mirror of the configuration
and the store stay. A pacer tick moves the calendar on by one count. In a microsecond that brings no pacer tick and ends no ms, and where no
reset waits for its block and no restoration for its image, the field time, the lap timer, the system time by the rate in force, the ports'
counters and the erase that runs go on by that microsecond, the frames of the pair have left, and only the parts that hold time and what
waits for it change; with the end of a ms the operating time goes on by one. -/
def Obligations.AnIdleStepLetsAMicrosecondPass : Prop :=
  ∀ s : State, s.canonical → s.pending = [] → ∃ t, step s = .next t ∧ t.pending = [] ∧ t.straps = s.straps ∧ t.variant = s.variant ∧ t.mirror = s.mirror ∧
    t.store = s.store ∧ t.pacerFrac = (s.pacerFrac + 32768) % 10 ^ 6 ∧ onlyChanges [.pacerFrac, .stime, .stimeFrac, .rtc, .recorder, .sram, .sramBad, .sramWeak, .msg, .nvm, .pwr, .terms, .immediate, .latched, .pair, .dma, .cal, .afe, .arith, .lap, .ports, .loops, .jkt, .alarm, .call, .tsync, .freeCount, .sec, .response, .responseCrc, .rst, .live, .shadow, .dirty, .optimeFrac, .regs] s t ∧
    (10 ^ 6 ≤ s.pacerFrac + 32768 → s.rtc.pendingCmd = none → s.rtc.trim = 0 → s.rtcTicks + 1 < calendarEnd * 32768 → t.rtcTicks = s.rtcTicks + 1) ∧
    (s.rst.blockWait = [] → s.rst.domainWait = [] → s.pwr.restoring = false → s.pacerFrac + 32768 < 10 ^ 6 →
      (s.optimeFrac + 1 < 1000 →
        t.sec.erasing = s.sec.erasing - 1 ∧ (s.domainOn .dio = true → t.jkt.time = (s.jkt.time + 1) % 2 ^ 32) ∧
        t.lap.timer = (if s.domainOn .aon && s.powered 4 && decide (s.rd PWR.STAT.state < 3) then s.lap.timer + 1 else s.lap.timer) ∧
        (s.domainOn .aon = true → t.pair.sent = [] ∧ t.optimeFrac = s.optimeFrac + 1) ∧
        (s.domainOn .aon = true → s.hfxoRuns = true → s.stime + 2 < 2 ^ 64 → s.stimeFrac < 2 ^ 32 * 10 ^ 9 →
          t.stime * (2 ^ 32 * 10 ^ 9) + t.stimeFrac = s.stime * (2 ^ 32 * 10 ^ 9) + s.stimeFrac + (10 ^ 9 + s.rdInt TSYNC.ADJ.ppb).toNat * 2 ^ 32) ∧
        (s.domainOn .aon = true → s.hfxoRuns = true → ∀ n, n ∈ List.range s.variant.ports → t.rd (BUS.TSC.us n) = (s.rd (BUS.TSC.us n) + 1) % 2 ^ 32) ∧
        onlyChanges [.jkt, .pacerFrac, .stime, .stimeFrac, .sec, .optimeFrac, .lap, .ports, .pair, .msg, .freeCount, .recorder, .regs] s t) ∧
      (s.domainOn .aon = true → s.optimeFrac = 999 → t.optimeFrac = 0 ∧ t.optime = min (s.optime + 1) (2 ^ PWR.OPTIME.ms.w - 1)))
end

