-- ==== Sys2Proof/Laws/Sparse.lean ====
section
/-!
SUPPORT. Laws of sparse maps and memories: what a read gives after a write, and that every write keeps the canonical form.
-/

namespace Sys2Proof.Machine

section
variable {α : Type} [DecidableEq α] {d : Nat → α}

theorem Sparse.wfFrom_le {lo lo' : Nat} (h : lo' ≤ lo) : ∀ {m : Sparse α}, Sparse.wfFrom d lo m = true → Sparse.wfFrom d lo' m = true
  | [], _ => rfl
  | (b, v) :: m, hw => by
    simp only [Sparse.wfFrom, Bool.and_eq_true, decide_eq_true_eq] at hw ⊢
    exact ⟨⟨by omega, hw.1.2⟩, hw.2⟩

theorem Sparse.wfFrom_set {a : Nat} {v : α} : ∀ {m : Sparse α} {lo : Nat}, lo ≤ a → Sparse.wfFrom d lo m = true →
    Sparse.wfFrom d lo (Sparse.set d m a v) = true
  | [], lo, hlo, _ => by
    unfold Sparse.set
    split
    · rfl
    · next hv => simp [Sparse.wfFrom, hlo, hv]
  | (b, w) :: m, lo, hlo, hw => by
    have hw' := hw
    simp only [Sparse.wfFrom, Bool.and_eq_true, decide_eq_true_eq] at hw
    obtain ⟨⟨hlb, hwd⟩, hm⟩ := hw
    unfold Sparse.set
    split
    · next hab =>
      split
      · exact hw'
      · next hv =>
        simp only [Sparse.wfFrom, Bool.and_eq_true, decide_eq_true_eq]
        exact ⟨⟨hlo, hv⟩, ⟨by omega, hwd⟩, hm⟩
    · split
      · next hab =>
        subst hab
        split
        · exact Sparse.wfFrom_le (by omega) hm
        · next hv =>
          simp only [Sparse.wfFrom, Bool.and_eq_true, decide_eq_true_eq]
          exact ⟨⟨hlo, hv⟩, hm⟩
      · simp only [Sparse.wfFrom, Bool.and_eq_true, decide_eq_true_eq]
        exact ⟨⟨hlb, hwd⟩, Sparse.wfFrom_set (by omega) hm⟩

/-- A write keeps the canonical form. -/
theorem Sparse.wf_set {m : Sparse α} {a : Nat} {v : α} (h : Sparse.wf d m = true) : Sparse.wf d (Sparse.set d m a v) = true :=
  Sparse.wfFrom_set (Nat.zero_le a) h

/-- Writes one after another keep the canonical form. -/
theorem Sparse.wf_foldl_set {β : Type} {k : β → Nat} {v : Sparse α → β → α} :
    ∀ (l : List β) {m : Sparse α}, Sparse.wf d m = true → Sparse.wf d (l.foldl (fun m x => Sparse.set d m (k x) (v m x)) m) = true
  | [], _, h => h
  | _ :: l, _, h => Sparse.wf_foldl_set l (Sparse.wf_set h)

theorem Sparse.wf_nil : Sparse.wf d ([] : Sparse α) = true := rfl

theorem Sparse.get_of_lt {a : Nat} : ∀ {m : Sparse α} {lo : Nat}, a < lo → Sparse.wfFrom d lo m = true → Sparse.get d m a = d a
  | [], _, _, _ => rfl
  | (b, v) :: m, lo, h, hw => by
    simp only [Sparse.wfFrom, Bool.and_eq_true, decide_eq_true_eq] at hw
    unfold Sparse.get
    split
    · omega
    · exact Sparse.get_of_lt (by omega) hw.2

theorem Sparse.wf_filter {p : Nat × α → Bool} : ∀ {m : Sparse α} {lo : Nat}, Sparse.wfFrom d lo m = true → Sparse.wfFrom d lo (m.filter p) = true
  | [], _, _ => rfl
  | (b, v) :: m, lo, hw => by
    simp only [Sparse.wfFrom, Bool.and_eq_true, decide_eq_true_eq] at hw
    rw [List.filter_cons]
    split
    · simp only [Sparse.wfFrom, Bool.and_eq_true, decide_eq_true_eq]
      exact ⟨hw.1, Sparse.wf_filter hw.2⟩
    · exact Sparse.wfFrom_le (by omega) (Sparse.wf_filter hw.2)

theorem Sparse.get_filter {k : Nat → Bool} {a : Nat} (ha : k a = true) : ∀ {m : Sparse α}, Sparse.get d (m.filter fun e => k e.1) a = Sparse.get d m a
  | [] => rfl
  | (b, v) :: m => by
    rw [List.filter_cons]
    split
    · simp only [Sparse.get, Sparse.get_filter ha]
    · next hb =>
      have : a ≠ b := fun e => hb (by rw [← e]; exact ha)
      simp only [Sparse.get, Sparse.get_filter ha, this, if_false]

/-- Entries may be left out. -/
theorem Sparse.wf_of_filter {m : Sparse α} {p : Nat × α → Bool} (h : Sparse.wf d m = true) : Sparse.wf d (m.filter p) = true := Sparse.wf_filter h

/-- What was written is read. -/
theorem Sparse.get_set_same {a : Nat} {v : α} : ∀ {m : Sparse α} {lo : Nat}, Sparse.wfFrom d lo m = true →
    Sparse.get d (Sparse.set d m a v) a = v
  | [], _, _ => by
    unfold Sparse.set
    split
    · next h => simp [Sparse.get, h]
    · simp [Sparse.get]
  | (b, w) :: m, lo, hw => by
    have hw' := hw
    simp only [Sparse.wfFrom, Bool.and_eq_true, decide_eq_true_eq] at hw
    unfold Sparse.set
    split
    · next hab =>
      split
      · next hv =>
        unfold Sparse.get
        split
        · omega
        · rw [Sparse.get_of_lt (by omega) hw.2, hv]
      · simp [Sparse.get]
    · split
      · next hab =>
        subst hab
        split
        · next hv => rw [Sparse.get_of_lt (by omega) hw.2, hv]
        · simp [Sparse.get]
      · next h1 h2 =>
        unfold Sparse.get
        split
        · omega
        · exact Sparse.get_set_same hw.2

/-- Other addresses read as before. -/
theorem Sparse.get_set_other {a c : Nat} {v : α} (hc : c ≠ a) : ∀ {m : Sparse α}, Sparse.get d (Sparse.set d m a v) c = Sparse.get d m c
  | [] => by
    unfold Sparse.set
    split
    · rfl
    · simp [Sparse.get, hc]
  | (b, w) :: m => by
    unfold Sparse.set
    split
    · split
      · rfl
      · rw [Sparse.get, if_neg hc]
    · split
      · next hab =>
        subst hab
        split
        · rw [Sparse.get, if_neg hc]
        · rw [Sparse.get, if_neg hc, Sparse.get, if_neg hc]
      · rw [Sparse.get, Sparse.get, Sparse.get_set_other hc]

theorem Sparse.get_set {m : Sparse α} {a c : Nat} {v : α} (h : Sparse.wf d m = true) :
    Sparse.get d (Sparse.set d m a v) c = if c = a then v else Sparse.get d m c := by
  split
  · next e => subst e; exact Sparse.get_set_same h
  · next e => exact Sparse.get_set_other e

end

/-- A store of one byte keeps the canonical form. -/
theorem Memory.wf_store {blank : Byte} {m : Memory} {a : Nat} {v : Byte} (h : Memory.wf blank m = true) :
    Memory.wf blank (Memory.store blank m a v) = true := Sparse.wf_set h

/-- So does a store of bytes. -/
theorem Memory.wf_storeAll {blank : Byte} : ∀ {l : List Byte} {m : Memory} {a : Nat}, Memory.wf blank m = true →
    Memory.wf blank (Memory.storeAll blank m a l) = true
  | [], _, _, h => h
  | v :: l, m, a, h => by
    rw [Memory.storeAll]
    exact Memory.wf_storeAll (l := l) (Memory.wf_store h)

/-- A byte outside those stored reads as before. -/
theorem Memory.byte_storeAll_other {blank : Byte} {c : Nat} : ∀ {l : List Byte} {m : Memory} {a : Nat}, c < a ∨ a + l.length ≤ c →
    Memory.byte blank (Memory.storeAll blank m a l) c = Memory.byte blank m c
  | [], _, _, _ => rfl
  | v :: l, m, a, h => by
    rw [Memory.storeAll, Memory.byte_storeAll_other (by simp only [List.length_cons] at h; omega)]
    exact Sparse.get_set_other (by simp only [List.length_cons] at h; omega)

/-- A byte stored is read. -/
theorem Memory.byte_storeAll {blank : Byte} : ∀ {l : List Byte} {m : Memory} {a i : Nat}, Memory.wf blank m = true → i < l.length →
    Memory.byte blank (Memory.storeAll blank m a l) (a + i) = l.getD i 0
  | v :: l, m, a, 0, h, _ => by
    rw [Memory.storeAll, Memory.byte_storeAll_other (by omega)]
    exact Sparse.get_set_same h
  | v :: l, m, a, i + 1, h, hi => by
    rw [Memory.storeAll, show a + (i + 1) = a + 1 + i by omega,
      Memory.byte_storeAll (Memory.wf_store h) (by simpa using hi)]
    rfl

end Sys2Proof.Machine
end

