-- ==== Sys2Proof/Laws/Kept.lean ====
section
/-!
SUPPORT. What an operation keeps: every part of the state but those it names, every register word outside the zones it names, and
the canonical form of the sparse maps. One rule for each part that an operation may set, and one for each way in which operations
are put together.
-/

namespace Sys2Proof.Machine

/-- A part lies in another: itself, or a zone in a wider one. -/
def Part.le : Part → Part → Bool
  | .page n, .page m => n == m
  | .page n, .pages lo hi => Nat.ble lo n && Nat.blt n hi && (Nat.blt n 0x100 || Nat.ble 0x100 lo)
  | .page _, .regs => true
  | .switched, .regs => true
  | .head a, .head b => a == b
  | .head _, .regs => true
  | .pages a b, .pages c d => Nat.ble c a && Nat.ble b d && (Nat.blt a 0x100 || Nat.ble 0x100 c)
  | .pages _ _, .regs => true
  | a, b => decide (a = b)

/-- A part lies in one of a list. -/
def Part.among (p : Part) (l : List Part) : Prop := ∃ q ∈ l, p.le q = true

/-- Every part of a list lies in one of another. -/
def Part.within (a b : List Part) : Prop := ∀ p ∈ a, p.among b

/-- The same, as a check. -/
def Part.withinCheck (a b : List Part) : Bool := a.all fun p => b.any fun q => p.le q

theorem Part.le_refl (p : Part) : p.le p = true := by
  cases p <;> simp [Part.le] <;> omega

theorem Part.le_trans {p q r : Part} (h : p.le q = true) (k : q.le r = true) : p.le r = true := by
  cases p <;> cases q <;> simp [Part.le] at h <;> cases r <;> simp_all [Part.le] <;> omega

theorem Part.covers_of_le {p q : Part} {a : Nat} (h : p.le q = true) (c : p.covers a = true) : q.covers a = true := by
  cases p <;> simp [Part.covers] at c <;> cases q <;> simp_all [Part.le, Part.covers] <;> omega

theorem Part.same_of_le {p q : Part} {s t : State} (h : p.le q = true) (k : p.same s t → False) : p = q := by
  cases p <;> cases q <;> simp_all [Part.le, Part.same]

theorem Part.among_self {p : Part} {l : List Part} (h : p ∈ l) : p.among l := ⟨p, h, p.le_refl⟩

theorem Part.among_trans {p : Part} {a b : List Part} (h : p.among a) (k : Part.within a b) : p.among b := by
  obtain ⟨q, hq, e⟩ := h
  obtain ⟨r, hr, f⟩ := k q hq
  exact ⟨r, hr, Part.le_trans e f⟩

theorem Part.within_of_check {a b : List Part} (h : Part.withinCheck a b = true) : Part.within a b := fun p hp => by
  have := List.all_eq_true.mp h p hp
  obtain ⟨q, hq, e⟩ := List.any_eq_true.mp this
  exact ⟨q, hq, e⟩

theorem Part.sub {a b l : List Part} (h : Part.within b l) (s : Part.withinCheck a b = true := by decide) : Part.within a l :=
  fun p hp => Part.among_trans (Part.within_of_check s p hp) h

theorem Part.at {p : Part} {b l : List Part} (h : Part.within b l) (s : Part.withinCheck [p] b = true := by decide) : p.among l :=
  Part.sub h s p (List.mem_singleton.mpr rfl)

theorem Part.within_one {p : Part} {l : List Part} (h : p.among l) : Part.within [p] l := fun _ hq => List.mem_singleton.mp hq ▸ h

/-- Register words that a list of parts takes in. -/
def Zoned (l : List Part) (r : Ref) : Prop :=
  (∃ p ∈ l, p.covers r.addr = true) ∧ (32 < r.lo + r.w → ∃ p ∈ l, p.covers (r.addr + 4) = true)

/-- Pages that a list of parts takes in whole. -/
def PageZoned (l : List Part) (p : Nat) : Prop := ∀ a, a / 0x1000 = p → ∃ q ∈ l, q.covers a = true

theorem PageZoned.all {l : List Part} {p : Nat} (h : Part.among .regs l) : PageZoned l p := fun _ _ => by
  obtain ⟨q, hq, e⟩ := h
  exact ⟨q, hq, Part.covers_of_le e rfl⟩

theorem pageTable_domain (v : Variant) : ∀ i ∈ pageTable v, pageDomain i.number = i.domain := by
  cases v <;> decide

/-- The pages of a domain that can be switched off. -/
theorem PageZoned.of_pagesOf {l : List Part} {s : State} {d : Domain} {p : Nat} (h : Part.among .switched l) (ha : d ≠ .aon) (hb : d ≠ .bkp)
    (hp : p ∈ s.pagesOf d) : PageZoned l p := fun a e => by
  obtain ⟨q, hq, k⟩ := h
  refine ⟨q, hq, Part.covers_of_le k ?_⟩
  have hd : pageDomain p = d := by
    simp only [State.pagesOf, List.mem_map, List.mem_filter, Bool.and_eq_true, beq_iff_eq] at hp
    obtain ⟨i, ⟨hi, hdi, -⟩, rfl⟩ := hp
    rw [← hdi]
    exact pageTable_domain s.variant i hi
  simp only [Part.covers, e, hd, Bool.or_eq_true, Bool.and_eq_true, bne_iff_ne]
  exact Or.inr ⟨ha, hb⟩

/-- Arrays of registers that a list of parts takes in. -/
def ZonedFn (l : List Part) (r : Nat → Ref) : Prop :=
  ∀ i, (∃ p ∈ l, p.covers (r i).addr = true) ∧ ∃ p ∈ l, p.covers ((r i).addr + 4) = true

/-- A register that may be absent. -/
def ZonedOpt (l : List Part) (r : Option Ref) : Prop := ∀ x, r = some x → Zoned l x

theorem Zoned.of {p : Part} {l : List Part} {r : Ref} (h : p.among l) (c : p.covers r.addr = true)
    (w : 32 < r.lo + r.w → p.covers (r.addr + 4) = true) : Zoned l r := by
  obtain ⟨q, hq, e⟩ := h
  exact ⟨⟨q, hq, Part.covers_of_le e c⟩, fun k => ⟨q, hq, Part.covers_of_le e (w k)⟩⟩

/-- A register word of a page, below its header. -/
theorem Zoned.pageOf {n : Nat} {l : List Part} {r : Ref} (h : Part.among (.page n) l) (c : 0x1000 * n ≤ r.addr) (d : r.addr < 0x1000 * n + 0x1000)
    (k : 0x1000 * n + 0x40 ≤ r.addr ∨ 0x100 ≤ n) (w : r.lo + r.w ≤ 32 ∨ r.addr + 4 < 0x1000 * n + 0x1000) : Zoned l r :=
  Zoned.of h (by simp [Part.covers]; omega) (fun _ => by simp [Part.covers]; omega)

/-- A register word of one of a range of pages, below their headers. -/
theorem Zoned.pagesOf {lo hi : Nat} {l : List Part} {r : Ref} (h : Part.among (.pages lo hi) l) (c : 0x1000 * lo ≤ r.addr)
    (d : r.addr < 0x1000 * hi) (k : 0x40 ≤ r.addr % 0x1000 ∨ 0x100 ≤ lo)
    (w : r.lo + r.w ≤ 32 ∨ r.addr + 4 < 0x1000 * hi ∧ (0x40 ≤ (r.addr + 4) % 0x1000 ∨ 0x100 ≤ lo)) : Zoned l r :=
  Zoned.of h (by simp [Part.covers]; omega) (fun _ => by simp [Part.covers]; omega)

theorem Zoned.headOf {n : Nat} {l : List Part} {r : Ref} (h : Part.among (.head n) l) (c : r.addr % 0x1000 = n) (w : r.lo + r.w ≤ 32) : Zoned l r :=
  Zoned.of h (by simp [Part.covers, c]) (fun _ => by omega)

theorem ZonedFn.of {p : Part} {l : List Part} {r : Nat → Ref} (h : p.among l) (c : ∀ i, p.covers (r i).addr = true)
    (w : ∀ i, p.covers ((r i).addr + 4) = true) : ZonedFn l r := fun i => by
  obtain ⟨q, hq, e⟩ := h
  exact ⟨⟨q, hq, Part.covers_of_le e (c i)⟩, ⟨q, hq, Part.covers_of_le e (w i)⟩⟩

theorem ZonedFn.pageOf {n : Nat} {l : List Part} {r : Nat → Ref} (h : Part.among (.page n) l)
    (c : ∀ i, 0x1000 * n ≤ (r i).addr ∧ (r i).addr + 4 < 0x1000 * n + 0x1000 ∧ (0x1000 * n + 0x40 ≤ (r i).addr ∨ 0x100 ≤ n)) : ZonedFn l r :=
  ZonedFn.of h (fun i => by have := c i; simp [Part.covers]; omega) fun i => by have := c i; simp [Part.covers]; omega

theorem ZonedFn.at {l : List Part} {r : Nat → Ref} (h : ZonedFn l r) (i : Nat) : Zoned l (r i) := ⟨(h i).1, fun _ => (h i).2⟩

theorem Zoned.all {l : List Part} {r : Ref} (h : Part.among .regs l) : Zoned l r := Zoned.of h rfl fun _ => rfl

theorem ZonedFn.all {l : List Part} {r : Nat → Ref} (h : Part.among .regs l) : ZonedFn l r := ZonedFn.of h (fun _ => rfl) fun _ => rfl

theorem Zoned.ite {l : List Part} {c : Prop} [Decidable c] {x y : Ref} (hx : Zoned l x) (hy : Zoned l y) : Zoned l (if c then x else y) := by
  split
  · exact hx
  · exact hy

theorem ZonedOpt.none {l : List Part} : ZonedOpt l none := fun _ e => by cases e

theorem ZonedOpt.some {l : List Part} {r : Ref} (h : Zoned l r) : ZonedOpt l (some r) := fun x e => by
  injection e with e; exact e ▸ h

/-- From `s` to `t` only the parts and words listed may have changed, and canonical maps have stayed canonical. -/
structure Kept (l : List Part) (s t : State) : Prop where
  only : onlyChanges l s t
  canon : s.canonical → t.canonical

theorem Kept.refl (l : List Part) (s : State) : Kept l s s :=
  ⟨⟨fun p _ => by cases p <;> first | rfl | exact True.intro, fun _ _ => rfl⟩, id⟩

theorem Part.same_trans {p : Part} {s t u : State} (h : p.same s t) (k : p.same t u) : p.same s u := by
  cases p <;> first | exact True.intro | exact Eq.trans k h

theorem Kept.trans {l : List Part} {s t u : State} (h : Kept l s t) (k : Kept l t u) : Kept l s u :=
  ⟨⟨fun p hp => Part.same_trans (h.only.1 p hp) (k.only.1 p hp), fun a ha => (k.only.2 a ha).trans (h.only.2 a ha)⟩,
    fun c => k.canon (h.canon c)⟩

theorem Kept.mono {l m : List Part} {s t : State} (h : Kept l s t) (hs : Part.within l m) : Kept m s t := by
  refine ⟨⟨fun p hp => Classical.byContradiction fun k => ?_, fun a ha => h.only.2 a fun p hp => ?_⟩, h.canon⟩
  · refine k (h.only.1 p fun q => ?_)
    obtain ⟨r, hr, e⟩ := hs p q
    exact hp (Part.same_of_le e k ▸ hr)
  · obtain ⟨r, hr, e⟩ := hs p hp
    cases hc : p.covers a with
    | false => rfl
    | true => have := Part.covers_of_le e hc; rw [ha r hr] at this; cases this

/-- A field outside the zones keeps its value. -/
theorem Kept.rd {l : List Part} {s t : State} (h : Kept l s t) {r : Ref} (hc : r.cfg = false) (ha : ∀ p ∈ l, p.covers r.addr = false)
    (hb : r.lo + r.w ≤ 32 ∨ ∀ p ∈ l, p.covers (r.addr + 4) = false) : t.rd r = s.rd r := by
  unfold State.rd
  rw [hc, h.only.2 _ ha]
  split
  · rfl
  · next k =>
    cases hb with
    | inl hb => exact absurd hb k
    | inr hb => rw [h.only.2 _ hb]

/-- Configuration keeps its value where the live copy is kept. -/
theorem Kept.rdLive {l : List Part} {s t : State} (h : Kept l s t) {r : Ref} (hc : r.cfg = true) (hl : Part.live ∉ l) : t.rd r = s.rd r := by
  have e : t.live = s.live := h.only.1 .live hl
  unfold State.rd State.wordAt
  simp only [hc, e, if_true]

variable {l : List Part} {s0 s : State}

theorem Kept.ite {c : Prop} [Decidable c] {x y : State} (hx : Kept l s0 x) (hy : Kept l s0 y) : Kept l s0 (if c then x else y) := by
  split
  · exact hx
  · exact hy

theorem Kept.beside {α : Type} {a : α} (h : Kept l s0 s) : Kept l s0 (a, s).2 := h

theorem Kept.iteSnd {α : Type} {c : Prop} [Decidable c] {x y : α × State} (hx : Kept l s0 x.2) (hy : Kept l s0 y.2) :
    Kept l s0 (if c then x else y).2 := by
  split
  · exact hx
  · exact hy

theorem Kept.snd {α : Type} {p : α × State} {a : α} {t : State} (e : p = (a, t)) (h : Kept l s0 p.2) : Kept l s0 t := by
  rw [e] at h; exact h

theorem Kept.foldl {α : Type} {f : State → α → State} (hf : ∀ t a, Kept l s0 t → Kept l s0 (f t a)) :
    ∀ (as : List α) (t : State), Kept l s0 t → Kept l s0 (as.foldl f t)
  | [], _, h => h
  | a :: as, t, h => Kept.foldl hf as (f t a) (hf t a h)

theorem Kept.foldlSnd {α β : Type} {f : β × State → α → β × State} (hf : ∀ t a, Kept l s0 t.2 → Kept l s0 (f t a).2) :
    ∀ (as : List α) (t : β × State), Kept l s0 t.2 → Kept l s0 (as.foldl f t).2
  | [], _, h => h
  | a :: as, t, h => Kept.foldlSnd hf as (f t a) (hf t a h)

theorem Kept.each {α : Type} {as : List α} {f : State → α → State} (h : Kept l s0 s)
    (hf : ∀ t a, Kept l s0 t → Kept l s0 (f t a)) : Kept l s0 (s.each as f) := Kept.foldl hf as s h

theorem Kept.eachMem {α : Type} {f : State → α → State} : ∀ (as : List α) {t : State}, Kept l s0 t →
    (∀ u a, a ∈ as → Kept l s0 u → Kept l s0 (f u a)) → Kept l s0 (t.each as f)
  | [], _, h, _ => h
  | a :: as, _, h, hf => Kept.eachMem as (hf _ a (List.mem_cons_self ..) h) fun u b hb k => hf u b (List.mem_cons_of_mem _ hb) k

theorem Kept.when {c : Bool} {f : State → State} (h : Kept l s0 s) (hf : ∀ t, Kept l s0 t → Kept l s0 (f t)) :
    Kept l s0 (s.when c f) := by
  unfold State.when
  split
  · exact hf s h
  · exact h

/-- Every answer of a command is a state that an operation keeps so. -/
def KeptR (l : List Part) (s : State) (r : Result) : Prop := ∀ t, r = .next t → Kept l s t

theorem KeptR.next {t : State} (h : Kept l s0 t) : KeptR l s0 (.next t) := fun u e => by
  injection e with e; exact e ▸ h

theorem KeptR.ite {c : Prop} [Decidable c] {x y : Result} (hx : KeptR l s0 x) (hy : KeptR l s0 y) : KeptR l s0 (if c then x else y) := by
  split
  · exact hx
  · exact hy

theorem Kept.straps (h : Kept l s0 s) (hp : Part.among .straps l) {x : Straps} : Kept l s0 { s with straps := x } :=
  h.trans (Kept.mono (l := [.straps]) ⟨⟨fun p hn => by cases p <;> first | rfl | exact True.intro | exact absurd (by decide) hn, fun _ _ => rfl⟩, id⟩
    (Part.within_one hp))

theorem Kept.regs (h : Kept l s0 s) (hp : Part.among .regs l) {x : WordMap} (hx : s.canonical → Sparse.wf resetWord x = true) : Kept l s0 { s with regs := x } :=
  h.trans (Kept.mono (l := [.regs]) ⟨⟨fun p hn => by cases p <;> first | rfl | exact True.intro | exact absurd (by decide) hn, fun _ ha => nomatch (ha .regs (by decide) : true = false)⟩, fun c => ⟨⟨hx c, c.1.2.1, c.1.2.2.1, c.1.2.2.2⟩, c.2⟩⟩
    (Part.within_one hp))

theorem Kept.live (h : Kept l s0 s) (hp : Part.among .live l) {x : WordMap} (hx : s.canonical → Sparse.wf resetWord x = true) : Kept l s0 { s with live := x } :=
  h.trans (Kept.mono (l := [.live]) ⟨⟨fun p hn => by cases p <;> first | rfl | exact True.intro | exact absurd (by decide) hn, fun _ _ => rfl⟩, fun c => ⟨⟨c.1.1, hx c, c.1.2.2.1, c.1.2.2.2⟩, c.2⟩⟩
    (Part.within_one hp))

theorem Kept.shadow (h : Kept l s0 s) (hp : Part.among .shadow l) {x : WordMap} (hx : s.canonical → Sparse.wf resetWord x = true) : Kept l s0 { s with shadow := x } :=
  h.trans (Kept.mono (l := [.shadow]) ⟨⟨fun p hn => by cases p <;> first | rfl | exact True.intro | exact absurd (by decide) hn, fun _ _ => rfl⟩, fun c => ⟨⟨c.1.1, c.1.2.1, hx c, c.1.2.2.2⟩, c.2⟩⟩
    (Part.within_one hp))

theorem Kept.mirror (h : Kept l s0 s) (hp : Part.among .mirror l) {x : WordMap} (hx : s.canonical → Sparse.wf resetWord x = true) : Kept l s0 { s with mirror := x } :=
  h.trans (Kept.mono (l := [.mirror]) ⟨⟨fun p hn => by cases p <;> first | rfl | exact True.intro | exact absurd (by decide) hn, fun _ _ => rfl⟩, fun c => ⟨⟨c.1.1, c.1.2.1, c.1.2.2.1, hx c⟩, c.2⟩⟩
    (Part.within_one hp))

theorem Kept.dirty (h : Kept l s0 s) (hp : Part.among .dirty l) {x : List Nat} : Kept l s0 { s with dirty := x } :=
  h.trans (Kept.mono (l := [.dirty]) ⟨⟨fun p hn => by cases p <;> first | rfl | exact True.intro | exact absurd (by decide) hn, fun _ _ => rfl⟩, id⟩
    (Part.within_one hp))

theorem Kept.locked (h : Kept l s0 s) (hp : Part.among .locked l) {x : List Nat} : Kept l s0 { s with locked := x } :=
  h.trans (Kept.mono (l := [.locked]) ⟨⟨fun p hn => by cases p <;> first | rfl | exact True.intro | exact absurd (by decide) hn, fun _ _ => rfl⟩, id⟩
    (Part.within_one hp))

theorem Kept.immediate (h : Kept l s0 s) (hp : Part.among .immediate l) {x : List Nat} : Kept l s0 { s with immediate := x } :=
  h.trans (Kept.mono (l := [.immediate]) ⟨⟨fun p hn => by cases p <;> first | rfl | exact True.intro | exact absurd (by decide) hn, fun _ _ => rfl⟩, id⟩
    (Part.within_one hp))

theorem Kept.latched (h : Kept l s0 s) (hp : Part.among .latched l) {x : Keyed Word} : Kept l s0 { s with latched := x } :=
  h.trans (Kept.mono (l := [.latched]) ⟨⟨fun p hn => by cases p <;> first | rfl | exact True.intro | exact absurd (by decide) hn, fun _ _ => rfl⟩, id⟩
    (Part.within_one hp))

theorem Kept.status (h : Kept l s0 s) (hp : Part.among .status l) {x : Nat} : Kept l s0 { s with status := x } :=
  h.trans (Kept.mono (l := [.status]) ⟨⟨fun p hn => by cases p <;> first | rfl | exact True.intro | exact absurd (by decide) hn, fun _ _ => rfl⟩, id⟩
    (Part.within_one hp))

theorem Kept.response (h : Kept l s0 s) (hp : Part.among .response l) {x : List Byte} : Kept l s0 { s with response := x } :=
  h.trans (Kept.mono (l := [.response]) ⟨⟨fun p hn => by cases p <;> first | rfl | exact True.intro | exact absurd (by decide) hn, fun _ _ => rfl⟩, id⟩
    (Part.within_one hp))

theorem Kept.responseCrc (h : Kept l s0 s) (hp : Part.among .responseCrc l) {x : Nat} : Kept l s0 { s with responseCrc := x } :=
  h.trans (Kept.mono (l := [.responseCrc]) ⟨⟨fun p hn => by cases p <;> first | rfl | exact True.intro | exact absurd (by decide) hn, fun _ _ => rfl⟩, id⟩
    (Part.within_one hp))

theorem Kept.freeCount (h : Kept l s0 s) (hp : Part.among .freeCount l) {x : Nat} : Kept l s0 { s with freeCount := x } :=
  h.trans (Kept.mono (l := [.freeCount]) ⟨⟨fun p hn => by cases p <;> first | rfl | exact True.intro | exact absurd (by decide) hn, fun _ _ => rfl⟩, id⟩
    (Part.within_one hp))

theorem Kept.stime (h : Kept l s0 s) (hp : Part.among .stime l) {x : Nat} : Kept l s0 { s with stime := x } :=
  h.trans (Kept.mono (l := [.stime]) ⟨⟨fun p hn => by cases p <;> first | rfl | exact True.intro | exact absurd (by decide) hn, fun _ _ => rfl⟩, id⟩
    (Part.within_one hp))

theorem Kept.stimeFrac (h : Kept l s0 s) (hp : Part.among .stimeFrac l) {x : Nat} : Kept l s0 { s with stimeFrac := x } :=
  h.trans (Kept.mono (l := [.stimeFrac]) ⟨⟨fun p hn => by cases p <;> first | rfl | exact True.intro | exact absurd (by decide) hn, fun _ _ => rfl⟩, id⟩
    (Part.within_one hp))

theorem Kept.optimeFrac (h : Kept l s0 s) (hp : Part.among .optimeFrac l) {x : Nat} : Kept l s0 { s with optimeFrac := x } :=
  h.trans (Kept.mono (l := [.optimeFrac]) ⟨⟨fun p hn => by cases p <;> first | rfl | exact True.intro | exact absurd (by decide) hn, fun _ _ => rfl⟩, id⟩
    (Part.within_one hp))

theorem Kept.pacerFrac (h : Kept l s0 s) (hp : Part.among .pacerFrac l) {x : Nat} : Kept l s0 { s with pacerFrac := x } :=
  h.trans (Kept.mono (l := [.pacerFrac]) ⟨⟨fun p hn => by cases p <;> first | rfl | exact True.intro | exact absurd (by decide) hn, fun _ _ => rfl⟩, id⟩
    (Part.within_one hp))

theorem Kept.sram (h : Kept l s0 s) (hp : Part.among .sram l) {x : Memory} (hx : s.canonical → Memory.wf 0 x = true) : Kept l s0 { s with sram := x } :=
  h.trans (Kept.mono (l := [.sram]) ⟨⟨fun p hn => by cases p <;> first | rfl | exact True.intro | exact absurd (by decide) hn, fun _ _ => rfl⟩, fun c => ⟨c.1, hx c, c.2.2⟩⟩
    (Part.within_one hp))

theorem Kept.sramBad (h : Kept l s0 s) (hp : Part.among .sramBad l) {x : List Nat} : Kept l s0 { s with sramBad := x } :=
  h.trans (Kept.mono (l := [.sramBad]) ⟨⟨fun p hn => by cases p <;> first | rfl | exact True.intro | exact absurd (by decide) hn, fun _ _ => rfl⟩, id⟩
    (Part.within_one hp))

theorem Kept.sramWeak (h : Kept l s0 s) (hp : Part.among .sramWeak l) {x : List Nat} : Kept l s0 { s with sramWeak := x } :=
  h.trans (Kept.mono (l := [.sramWeak]) ⟨⟨fun p hn => by cases p <;> first | rfl | exact True.intro | exact absurd (by decide) hn, fun _ _ => rfl⟩, id⟩
    (Part.within_one hp))

theorem Kept.store (h : Kept l s0 s) (hp : Part.among .store l) {x : Memory} (hx : s.canonical → Memory.wf 0xFF x = true) : Kept l s0 { s with store := x } :=
  h.trans (Kept.mono (l := [.store]) ⟨⟨fun p hn => by cases p <;> first | rfl | exact True.intro | exact absurd (by decide) hn, fun _ _ => rfl⟩, fun c => ⟨c.1, c.2.1, hx c⟩⟩
    (Part.within_one hp))

theorem Kept.terms (h : Kept l s0 s) (hp : Part.among .terms l) {x : TermTable} : Kept l s0 { s with terms := x } :=
  h.trans (Kept.mono (l := [.terms]) ⟨⟨fun p hn => by cases p <;> first | rfl | exact True.intro | exact absurd (by decide) hn, fun _ _ => rfl⟩, id⟩
    (Part.within_one hp))

theorem Kept.arith (h : Kept l s0 s) (hp : Part.among .arith l) {x : ArithState} : Kept l s0 { s with arith := x } :=
  h.trans (Kept.mono (l := [.arith]) ⟨⟨fun p hn => by cases p <;> first | rfl | exact True.intro | exact absurd (by decide) hn, fun _ _ => rfl⟩, id⟩
    (Part.within_one hp))

theorem Kept.afe (h : Kept l s0 s) (hp : Part.among .afe l) {x : Keyed AfeBank} : Kept l s0 { s with afe := x } :=
  h.trans (Kept.mono (l := [.afe]) ⟨⟨fun p hn => by cases p <;> first | rfl | exact True.intro | exact absurd (by decide) hn, fun _ _ => rfl⟩, id⟩
    (Part.within_one hp))

theorem Kept.cal (h : Kept l s0 s) (hp : Part.among .cal l) {x : CalState} : Kept l s0 { s with cal := x } :=
  h.trans (Kept.mono (l := [.cal]) ⟨⟨fun p hn => by cases p <;> first | rfl | exact True.intro | exact absurd (by decide) hn, fun _ _ => rfl⟩, id⟩
    (Part.within_one hp))

theorem Kept.recorder (h : Kept l s0 s) (hp : Part.among .recorder l) {x : RecState} : Kept l s0 { s with recorder := x } :=
  h.trans (Kept.mono (l := [.recorder]) ⟨⟨fun p hn => by cases p <;> first | rfl | exact True.intro | exact absurd (by decide) hn, fun _ _ => rfl⟩, id⟩
    (Part.within_one hp))

theorem Kept.nvm (h : Kept l s0 s) (hp : Part.among .nvm l) {x : NvmState} : Kept l s0 { s with nvm := x } :=
  h.trans (Kept.mono (l := [.nvm]) ⟨⟨fun p hn => by cases p <;> first | rfl | exact True.intro | exact absurd (by decide) hn, fun _ _ => rfl⟩, id⟩
    (Part.within_one hp))

theorem Kept.dma (h : Kept l s0 s) (hp : Part.among .dma l) {x : DmaState} : Kept l s0 { s with dma := x } :=
  h.trans (Kept.mono (l := [.dma]) ⟨⟨fun p hn => by cases p <;> first | rfl | exact True.intro | exact absurd (by decide) hn, fun _ _ => rfl⟩, id⟩
    (Part.within_one hp))

theorem Kept.pwr (h : Kept l s0 s) (hp : Part.among .pwr l) {x : PwrState} : Kept l s0 { s with pwr := x } :=
  h.trans (Kept.mono (l := [.pwr]) ⟨⟨fun p hn => by cases p <;> first | rfl | exact True.intro | exact absurd (by decide) hn, fun _ _ => rfl⟩, id⟩
    (Part.within_one hp))

theorem Kept.rst (h : Kept l s0 s) (hp : Part.among .rst l) {x : RstState} : Kept l s0 { s with rst := x } :=
  h.trans (Kept.mono (l := [.rst]) ⟨⟨fun p hn => by cases p <;> first | rfl | exact True.intro | exact absurd (by decide) hn, fun _ _ => rfl⟩, id⟩
    (Part.within_one hp))

theorem Kept.lap (h : Kept l s0 s) (hp : Part.among .lap l) {x : LapState} : Kept l s0 { s with lap := x } :=
  h.trans (Kept.mono (l := [.lap]) ⟨⟨fun p hn => by cases p <;> first | rfl | exact True.intro | exact absurd (by decide) hn, fun _ _ => rfl⟩, id⟩
    (Part.within_one hp))

theorem Kept.rtc (h : Kept l s0 s) (hp : Part.among .rtc l) {x : RtcState} : Kept l s0 { s with rtc := x } :=
  h.trans (Kept.mono (l := [.rtc]) ⟨⟨fun p hn => by cases p <;> first | rfl | exact True.intro | exact absurd (by decide) hn, fun _ _ => rfl⟩, id⟩
    (Part.within_one hp))

theorem Kept.alarm (h : Kept l s0 s) (hp : Part.among .alarm l) {x : AlmState} : Kept l s0 { s with alarm := x } :=
  h.trans (Kept.mono (l := [.alarm]) ⟨⟨fun p hn => by cases p <;> first | rfl | exact True.intro | exact absurd (by decide) hn, fun _ _ => rfl⟩, id⟩
    (Part.within_one hp))

theorem Kept.call (h : Kept l s0 s) (hp : Part.among .call l) {x : CallState} : Kept l s0 { s with call := x } :=
  h.trans (Kept.mono (l := [.call]) ⟨⟨fun p hn => by cases p <;> first | rfl | exact True.intro | exact absurd (by decide) hn, fun _ _ => rfl⟩, id⟩
    (Part.within_one hp))

theorem Kept.loops (h : Kept l s0 s) (hp : Part.among .loops l) {x : Keyed LoopState} : Kept l s0 { s with loops := x } :=
  h.trans (Kept.mono (l := [.loops]) ⟨⟨fun p hn => by cases p <;> first | rfl | exact True.intro | exact absurd (by decide) hn, fun _ _ => rfl⟩, id⟩
    (Part.within_one hp))

theorem Kept.jkt (h : Kept l s0 s) (hp : Part.among .jkt l) {x : JacketState} : Kept l s0 { s with jkt := x } :=
  h.trans (Kept.mono (l := [.jkt]) ⟨⟨fun p hn => by cases p <;> first | rfl | exact True.intro | exact absurd (by decide) hn, fun _ _ => rfl⟩, id⟩
    (Part.within_one hp))

theorem Kept.pair (h : Kept l s0 s) (hp : Part.among .pair l) {x : PairState} : Kept l s0 { s with pair := x } :=
  h.trans (Kept.mono (l := [.pair]) ⟨⟨fun p hn => by cases p <;> first | rfl | exact True.intro | exact absurd (by decide) hn, fun _ _ => rfl⟩, id⟩
    (Part.within_one hp))

theorem Kept.ports (h : Kept l s0 s) (hp : Part.among .ports l) {x : Keyed PortState} : Kept l s0 { s with ports := x } :=
  h.trans (Kept.mono (l := [.ports]) ⟨⟨fun p hn => by cases p <;> first | rfl | exact True.intro | exact absurd (by decide) hn, fun _ _ => rfl⟩, id⟩
    (Part.within_one hp))

theorem Kept.msg (h : Kept l s0 s) (hp : Part.among .msg l) {x : MsgState} : Kept l s0 { s with msg := x } :=
  h.trans (Kept.mono (l := [.msg]) ⟨⟨fun p hn => by cases p <;> first | rfl | exact True.intro | exact absurd (by decide) hn, fun _ _ => rfl⟩, id⟩
    (Part.within_one hp))

theorem Kept.tsync (h : Kept l s0 s) (hp : Part.among .tsync l) {x : TsyncState} : Kept l s0 { s with tsync := x } :=
  h.trans (Kept.mono (l := [.tsync]) ⟨⟨fun p hn => by cases p <;> first | rfl | exact True.intro | exact absurd (by decide) hn, fun _ _ => rfl⟩, id⟩
    (Part.within_one hp))

theorem Kept.sec (h : Kept l s0 s) (hp : Part.among .sec l) {x : SecState} : Kept l s0 { s with sec := x } :=
  h.trans (Kept.mono (l := [.sec]) ⟨⟨fun p hn => by cases p <;> first | rfl | exact True.intro | exact absurd (by decide) hn, fun _ _ => rfl⟩, id⟩
    (Part.within_one hp))

theorem Kept.jtag (h : Kept l s0 s) (hp : Part.among .jtag l) {x : JtagState} : Kept l s0 { s with jtag := x } :=
  h.trans (Kept.mono (l := [.jtag]) ⟨⟨fun p hn => by cases p <;> first | rfl | exact True.intro | exact absurd (by decide) hn, fun _ _ => rfl⟩, id⟩
    (Part.within_one hp))

theorem Kept.switchTo (h : Kept l s0 s) (hp : Part.among .switchTo l) {x : Nat} : Kept l s0 { s with switchTo := x } :=
  h.trans (Kept.mono (l := [.switchTo]) ⟨⟨fun p hn => by cases p <;> first | rfl | exact True.intro | exact absurd (by decide) hn, fun _ _ => rfl⟩, id⟩
    (Part.within_one hp))

theorem Kept.pending (h : Kept l s0 s) (hp : Part.among .pending l) {x : List Instr} : Kept l s0 { s with pending := x } :=
  h.trans (Kept.mono (l := [.pending]) ⟨⟨fun p hn => by cases p <;> first | rfl | exact True.intro | exact absurd (by decide) hn, fun _ _ => rfl⟩, id⟩
    (Part.within_one hp))

/-- Words outside a zone keep their values when the register words are filtered by address. -/
theorem Kept.cleared {p : Part} {k : Nat → Bool} (h : Kept l s0 s) (hp : p.among l) (hk : ∀ a, k a = false → p.covers a = true) :
    Kept l s0 { s with regs := s.regs.filter fun e => k e.1 } := by
  refine h.trans (Kept.mono (l := [p]) ⟨⟨fun q _ => by cases q <;> first | rfl | exact True.intro, fun a ha => ?_⟩, fun c => ?_⟩
    (Part.within_one hp))
  · have e : k a = true := by
      cases e : k a with
      | true => rfl
      | false => have c := hk a e; rw [ha p (by simp)] at c; cases c
    exact Sparse.get_filter e
  · exact ⟨⟨Sparse.wf_of_filter c.1.1, c.1.2⟩, c.2⟩

theorem Kept.clearedBy {k : Nat → Bool} (h : Kept l s0 s) (hk : ∀ a, k a = false → ∃ q ∈ l, q.covers a = true) :
    Kept l s0 { s with regs := s.regs.filter fun e => k e.1 } := by
  refine h.trans ⟨⟨fun q _ => by cases q <;> first | rfl | exact True.intro, fun a ha => ?_⟩, fun c => ?_⟩
  · have e : k a = true := by
      cases e : k a with
      | true => rfl
      | false =>
        obtain ⟨q, hq, c⟩ := hk a e
        rw [ha q hq] at c; cases c
    exact Sparse.get_filter e
  · exact ⟨⟨Sparse.wf_of_filter c.1.1, c.1.2⟩, c.2⟩

/-- Whether a range of addresses lies in a page below its header. -/
def Part.holdsRange (n lo hi : Nat) : Bool :=
  decide (0x1000 * n ≤ lo) && decide (hi ≤ 0x1000 * n + 0x1000) && (decide (0x1000 * n + 0x40 ≤ lo) || decide (0x100 ≤ n))

theorem Part.covers_range {n lo hi a : Nat} (h : Part.holdsRange n lo hi = true) (c : (!(decide (lo ≤ a) && decide (a < hi))) = false) :
    (Part.page n).covers a = true := by
  simp only [Part.holdsRange, Bool.and_eq_true, Bool.or_eq_true, decide_eq_true_eq, Bool.not_eq_false', Part.covers, beq_iff_eq] at *
  omega

theorem Variant.pick_le {a b c : Nat} (v : Variant) (hb : b ≤ a) (hc : c ≤ a) : v.pick a b c ≤ a := by
  cases v <;> simp only [Variant.pick] <;> omega

/-- An update of several parts at once. -/
theorem Kept.upd {t : State} (h : Kept l s0 s) (m : List Part) (hp : Part.within m l) (ho : ∀ p : Part, p ∉ m → p.same s t)
    (hr : t.regs = s.regs) (hc : s.canonical → t.canonical) : Kept l s0 t :=
  h.trans (Kept.mono ⟨⟨ho, fun a _ => by unfold State.wordAt; rw [hr]; rfl⟩, hc⟩ hp)

end Sys2Proof.Machine
end

