-- ==== Sys2Proof/Laws/Base.lean ====
section
/-!
SUPPORT. Canonical copies of the configuration: copying a page, writing a word, replacing a region, and the copy an image spells.
-/

namespace Sys2Proof.Machine

theorem wf_copyPage {p : Nat} {from_ to_ : WordMap} (h : Sparse.wf resetWord to_ = true) :
    Sparse.wf resetWord (copyPage p from_ to_) = true := Sparse.wf_foldl_set _ (Sparse.wf_of_filter h)

theorem State.wf_putCfg {s : State} {a : Nat} {v : Word} {m : WordMap} (h : Sparse.wf resetWord m = true) :
    Sparse.wf resetWord (s.putCfg a v m) = true := by
  unfold State.putCfg
  split
  · exact h
  · exact Sparse.wf_set h

theorem State.wf_putCfgs {s : State} : ∀ (l : List (Nat × Word)) {m : WordMap}, Sparse.wf resetWord m = true →
    Sparse.wf resetWord (l.foldl (fun m e => s.putCfg e.1 e.2 m) m) = true
  | [], _, h => h
  | _ :: l, _, h => State.wf_putCfgs l (State.wf_putCfg h)

theorem State.wf_putRegion {s : State} {p : Nat} {bs : List Byte} {m : WordMap} (h : Sparse.wf resetWord m = true) :
    Sparse.wf resetWord (s.putRegion p bs m) = true := State.wf_putCfgs _ (Sparse.wf_of_filter h)

theorem State.wf_imageMapFrom {s : State} : ∀ (l : List Section) {m : WordMap}, Sparse.wf resetWord m = true →
    Sparse.wf resetWord (l.foldl (fun m x => s.putRegion x.page x.region m) m) = true
  | [], _, h => h
  | _ :: l, _, h => State.wf_imageMapFrom l (State.wf_putRegion h)

theorem State.wf_imageMap {s : State} {l : List Section} : Sparse.wf resetWord (s.imageMap l) = true :=
  State.wf_imageMapFrom l rfl

end Sys2Proof.Machine
end

