-- ==== Sys2Proof/Laws/Zones.lean ====
section
/-!
SUPPORT. The zone in which each register field that is written lies.
-/

set_option Elab.async false

namespace Sys2Proof.Machine

theorem ARITH.DROPCNT.count_zoned {l} (h : Part.among (.page 0x11) l) : Zoned l (ARITH.DROPCNT.count) :=
  Zoned.of h (by decide) (by decide)

theorem ARITH.CNTOVF.drop_zoned {l} (h : Part.among (.page 0x11) l) : Zoned l (ARITH.CNTOVF.drop) :=
  Zoned.of h (by decide) (by decide)

theorem ARITH.IRQRAW.cnt_ovf_zoned {l} (h : Part.among (.head 0x14) l) : Zoned l (ARITH.IRQRAW.cnt_ovf) :=
  Zoned.of h (by decide) (by decide)

theorem ARITH.IRQRAW.drop_zoned {l} (h : Part.among (.head 0x14) l) : Zoned l (ARITH.IRQRAW.drop) :=
  Zoned.of h (by decide) (by decide)

theorem ARITH.QMAX.entries_zoned {l} (h : Part.among (.page 0x11) l) : Zoned l (ARITH.QMAX.entries) :=
  Zoned.of h (by decide) (by decide)

theorem AFE.CHOPEN.ctx_zoned {l} {x0 : Nat} (h : Part.among (.pages 0x8 0x10) l) : Zoned l (AFE.CHOPEN.ctx x0) :=
  Zoned.pagesOf h (by simp only [AFE.CHOPEN.ctx]; omega) (by simp only [AFE.CHOPEN.ctx]; omega) (by simp only [AFE.CHOPEN.ctx]; omega) (.inl (Nat.le_of_ble_eq_true rfl))

theorem AFE.CHSHORT.ctx_zoned {l} {x0 : Nat} (h : Part.among (.pages 0x8 0x10) l) : Zoned l (AFE.CHSHORT.ctx x0) :=
  Zoned.pagesOf h (by simp only [AFE.CHSHORT.ctx]; omega) (by simp only [AFE.CHSHORT.ctx]; omega) (by simp only [AFE.CHSHORT.ctx]; omega) (.inl (Nat.le_of_ble_eq_true rfl))

theorem AFE.CHRESTART.ctx_zoned {l} {x0 : Nat} (h : Part.among (.pages 0x8 0x10) l) : Zoned l (AFE.CHRESTART.ctx x0) :=
  Zoned.pagesOf h (by simp only [AFE.CHRESTART.ctx]; omega) (by simp only [AFE.CHRESTART.ctx]; omega) (by simp only [AFE.CHRESTART.ctx]; omega) (.inl (Nat.le_of_ble_eq_true rfl))

theorem AFE.CHABORT.ctx_zoned {l} {x0 : Nat} (h : Part.among (.pages 0x8 0x10) l) : Zoned l (AFE.CHABORT.ctx x0) :=
  Zoned.pagesOf h (by simp only [AFE.CHABORT.ctx]; omega) (by simp only [AFE.CHABORT.ctx]; omega) (by simp only [AFE.CHABORT.ctx]; omega) (.inl (Nat.le_of_ble_eq_true rfl))

theorem AFE.LAPUSED.us_zoned {l} {x0 : Nat} (h : Part.among (.pages 0x8 0x10) l) : Zoned l (AFE.LAPUSED.us x0) :=
  Zoned.pagesOf h (by simp only [AFE.LAPUSED.us]; omega) (by simp only [AFE.LAPUSED.us]; omega) (by simp only [AFE.LAPUSED.us]; omega) (.inl (Nat.le_of_ble_eq_true rfl))

theorem ALM.CTXA.process_zoned {l} {x0 : Nat} (h : Part.among (.pages 0x120 0x130) l) : Zoned l (ALM.CTXA.process x0) :=
  Zoned.pagesOf h (by simp only [ALM.CTXA.process]; omega) (by simp only [ALM.CTXA.process]; omega) (by simp only [ALM.CTXA.process]; omega) (.inl (Nat.le_of_ble_eq_true rfl))

theorem ALM.CTXA.sf_unack_zoned {l} {x0 : Nat} (h : Part.among (.pages 0x120 0x130) l) : Zoned l (ALM.CTXA.sf_unack x0) :=
  Zoned.pagesOf h (by simp only [ALM.CTXA.sf_unack]; omega) (by simp only [ALM.CTXA.sf_unack]; omega) (by simp only [ALM.CTXA.sf_unack]; omega) (.inl (Nat.le_of_ble_eq_true rfl))

theorem ALM.CTXA.state_zoned {l} {x0 : Nat} (h : Part.among (.pages 0x120 0x130) l) : Zoned l (ALM.CTXA.state x0) :=
  Zoned.pagesOf h (by simp only [ALM.CTXA.state]; omega) (by simp only [ALM.CTXA.state]; omega) (by simp only [ALM.CTXA.state]; omega) (.inl (Nat.le_of_ble_eq_true rfl))

theorem ALM.IRQRAW.state_change_zoned {l} (h : Part.among (.head 0x14) l) : Zoned l (ALM.IRQRAW.state_change) :=
  Zoned.of h (by decide) (by decide)

theorem ALM.IRQRAW.sensor_fault_zoned {l} (h : Part.among (.head 0x14) l) : Zoned l (ALM.IRQRAW.sensor_fault) :=
  Zoned.of h (by decide) (by decide)

theorem ALM.IRQRAW.unack_zoned {l} (h : Part.among (.head 0x14) l) : Zoned l (ALM.IRQRAW.unack) :=
  Zoned.of h (by decide) (by decide)

theorem BUS.STATE.ackseq_zoned {l} {x0 : Nat} (h : Part.among (.pages 0x30 0x34) l) : Zoned l (BUS.STATE.ackseq x0) :=
  Zoned.pagesOf h (by simp only [BUS.STATE.ackseq]; omega) (by simp only [BUS.STATE.ackseq]; omega) (by simp only [BUS.STATE.ackseq]; rcases (show x0 % 4 = 0 ∨ x0 % 4 = 1 ∨ x0 % 4 = 2 ∨ x0 % 4 = 3 by omega) with e | e | e | e <;> rw [e] <;> omega) (.inl (Nat.le_of_ble_eq_true rfl))

theorem BUS.STATE.solo_zoned {l} {x0 : Nat} (h : Part.among (.pages 0x30 0x34) l) : Zoned l (BUS.STATE.solo x0) :=
  Zoned.pagesOf h (by simp only [BUS.STATE.solo]; omega) (by simp only [BUS.STATE.solo]; omega) (by simp only [BUS.STATE.solo]; rcases (show x0 % 4 = 0 ∨ x0 % 4 = 1 ∨ x0 % 4 = 2 ∨ x0 % 4 = 3 by omega) with e | e | e | e <;> rw [e] <;> omega) (.inl (Nat.le_of_ble_eq_true rfl))

theorem BUS.IRQRAW.solo_zoned {l} {x0 : Nat} (h : Part.among (.head 0x14) l) : Zoned l (BUS.IRQRAW.solo x0) :=
  Zoned.headOf h (by simp only [BUS.IRQRAW.solo]; omega) (Nat.le_of_ble_eq_true rfl)

theorem CAL.BANKSTAT.target_zoned {l} {x0 : Nat} (h : Part.among (.page 0x10) l) : Zoned l (CAL.BANKSTAT.target x0) :=
  Zoned.pageOf h (by simp only [CAL.BANKSTAT.target]; omega) (by simp only [CAL.BANKSTAT.target]; omega) (by simp only [CAL.BANKSTAT.target]; omega) (.inl (Nat.le_of_ble_eq_true rfl))

theorem AFE.SCHEDEND.us_zoned {l} {x0 : Nat} (h : Part.among (.pages 0x8 0x10) l) : Zoned l (AFE.SCHEDEND.us x0) :=
  Zoned.pagesOf h (by simp only [AFE.SCHEDEND.us]; omega) (by simp only [AFE.SCHEDEND.us]; omega) (by simp only [AFE.SCHEDEND.us]; omega) (.inl (Nat.le_of_ble_eq_true rfl))

theorem CAL.BANKSTAT.phase_zoned {l} {x0 : Nat} (h : Part.among (.page 0x10) l) : Zoned l (CAL.BANKSTAT.phase x0) :=
  Zoned.pageOf h (by simp only [CAL.BANKSTAT.phase]; omega) (by simp only [CAL.BANKSTAT.phase]; omega) (by simp only [CAL.BANKSTAT.phase]; omega) (.inl (Nat.le_of_ble_eq_true rfl))

theorem CAL.DEFERCNT.count_zoned {l} (h : Part.among (.page 0x10) l) : Zoned l (CAL.DEFERCNT.count) :=
  Zoned.of h (by decide) (by decide)

theorem CAL.CNTOVF.defer_zoned {l} (h : Part.among (.page 0x10) l) : Zoned l (CAL.CNTOVF.defer) :=
  Zoned.of h (by decide) (by decide)

theorem CAL.IRQRAW.cnt_ovf_zoned {l} (h : Part.among (.head 0x14) l) : Zoned l (CAL.IRQRAW.cnt_ovf) :=
  Zoned.of h (by decide) (by decide)

theorem CAL.IRQRAW.stride_defer_zoned {l} (h : Part.among (.head 0x14) l) : Zoned l (CAL.IRQRAW.stride_defer) :=
  Zoned.of h (by decide) (by decide)

theorem CAL.BANKSTAT.outcome_zoned {l} {x0 : Nat} (h : Part.among (.page 0x10) l) : Zoned l (CAL.BANKSTAT.outcome x0) :=
  Zoned.pageOf h (by simp only [CAL.BANKSTAT.outcome]; omega) (by simp only [CAL.BANKSTAT.outcome]; omega) (by simp only [CAL.BANKSTAT.outcome]; omega) (.inl (Nat.le_of_ble_eq_true rfl))

theorem TAMP.STAT.alarm_zoned {l} (h : Part.among (.page 0x5A) l) : Zoned l (TAMP.STAT.alarm) :=
  Zoned.of h (by decide) (by decide)

theorem RTC.IRQRAW.alm0_zoned {l} (h : Part.among (.head 0x14) l) : Zoned l (RTC.IRQRAW.alm0) :=
  Zoned.of h (by decide) (by decide)

theorem RTC.IRQRAW.alm1_zoned {l} (h : Part.among (.head 0x14) l) : Zoned l (RTC.IRQRAW.alm1) :=
  Zoned.of h (by decide) (by decide)

theorem RTC.STAT.skip0_zoned {l} (h : Part.among (.page 0x50) l) : Zoned l (RTC.STAT.skip0) :=
  Zoned.of h (by decide) (by decide)

theorem RTC.STAT.skip1_zoned {l} (h : Part.among (.page 0x50) l) : Zoned l (RTC.STAT.skip1) :=
  Zoned.of h (by decide) (by decide)

theorem ALM.CTXA.caution_zoned {l} {x0 : Nat} (h : Part.among (.pages 0x120 0x130) l) : Zoned l (ALM.CTXA.caution x0) :=
  Zoned.pagesOf h (by simp only [ALM.CTXA.caution]; omega) (by simp only [ALM.CTXA.caution]; omega) (by simp only [ALM.CTXA.caution]; omega) (.inl (Nat.le_of_ble_eq_true rfl))

theorem ALM.CTXA.occurrence_zoned {l} {x0 : Nat} (h : Part.among (.pages 0x120 0x130) l) : Zoned l (ALM.CTXA.occurrence x0) :=
  Zoned.pagesOf h (by simp only [ALM.CTXA.occurrence]; omega) (by simp only [ALM.CTXA.occurrence]; omega) (by simp only [ALM.CTXA.occurrence]; omega) (.inl (Nat.le_of_ble_eq_true rfl))

theorem ALM.CTXA.latched_zoned {l} {x0 : Nat} (h : Part.among (.pages 0x120 0x130) l) : Zoned l (ALM.CTXA.latched x0) :=
  Zoned.pagesOf h (by simp only [ALM.CTXA.latched]; omega) (by simp only [ALM.CTXA.latched]; omega) (by simp only [ALM.CTXA.latched]; omega) (.inl (Nat.le_of_ble_eq_true rfl))

theorem ALM.CTXA.layers_zoned {l} {x0 : Nat} (h : Part.among (.pages 0x120 0x130) l) : Zoned l (ALM.CTXA.layers x0) :=
  Zoned.pagesOf h (by simp only [ALM.CTXA.layers]; omega) (by simp only [ALM.CTXA.layers]; omega) (by simp only [ALM.CTXA.layers]; omega) (.inl (Nat.le_of_ble_eq_true rfl))

theorem ALM.CTXA.shelve_left_zoned {l} {x0 : Nat} (h : Part.among (.pages 0x120 0x130) l) : Zoned l (ALM.CTXA.shelve_left x0) :=
  Zoned.pagesOf h (by simp only [ALM.CTXA.shelve_left]; omega) (by simp only [ALM.CTXA.shelve_left]; omega) (by simp only [ALM.CTXA.shelve_left]; omega) (.inl (Nat.le_of_ble_eq_true rfl))

theorem ALM.CTXA.cond_zoned {l} {x0 : Nat} (h : Part.among (.pages 0x120 0x130) l) : Zoned l (ALM.CTXA.cond x0) :=
  Zoned.pagesOf h (by simp only [ALM.CTXA.cond]; omega) (by simp only [ALM.CTXA.cond]; omega) (by simp only [ALM.CTXA.cond]; omega) (.inl (Nat.le_of_ble_eq_true rfl))

theorem ALM.CTXA.q_zoned {l} {x0 : Nat} (h : Part.among (.pages 0x120 0x130) l) : Zoned l (ALM.CTXA.q x0) :=
  Zoned.pagesOf h (by simp only [ALM.CTXA.q]; omega) (by simp only [ALM.CTXA.q]; omega) (by simp only [ALM.CTXA.q]; omega) (.inl (Nat.le_of_ble_eq_true rfl))

theorem ALM.CTXA.inv_cnt_zoned {l} {x0 : Nat} (h : Part.among (.pages 0x120 0x130) l) : Zoned l (ALM.CTXA.inv_cnt x0) :=
  Zoned.pagesOf h (by simp only [ALM.CTXA.inv_cnt]; omega) (by simp only [ALM.CTXA.inv_cnt]; omega) (by simp only [ALM.CTXA.inv_cnt]; omega) (.inl (Nat.le_of_ble_eq_true rfl))

theorem ALM.CTXA.miss_cnt_zoned {l} {x0 : Nat} (h : Part.among (.pages 0x120 0x130) l) : Zoned l (ALM.CTXA.miss_cnt x0) :=
  Zoned.pagesOf h (by simp only [ALM.CTXA.miss_cnt]; omega) (by simp only [ALM.CTXA.miss_cnt]; omega) (by simp only [ALM.CTXA.miss_cnt]; omega) (.inl (Nat.le_of_ble_eq_true rfl))

theorem ALM.CTXA.t_timer_zoned {l} {x0 : Nat} (h : Part.among (.pages 0x120 0x130) l) : Zoned l (ALM.CTXA.t_timer x0) :=
  Zoned.pagesOf h (by simp only [ALM.CTXA.t_timer]; omega) (by simp only [ALM.CTXA.t_timer]; omega) (by simp only [ALM.CTXA.t_timer]; omega) (.inr (by simp only [ALM.CTXA.t_timer]; omega))

theorem ALM.CTXA.false_starts_zoned {l} {x0 : Nat} (h : Part.among (.pages 0x120 0x130) l) : Zoned l (ALM.CTXA.false_starts x0) :=
  Zoned.pagesOf h (by simp only [ALM.CTXA.false_starts]; omega) (by simp only [ALM.CTXA.false_starts]; omega) (by simp only [ALM.CTXA.false_starts]; omega) (.inl (Nat.le_of_ble_eq_true rfl))

theorem ALM.CTXA.fs_ovf_zoned {l} {x0 : Nat} (h : Part.among (.pages 0x120 0x130) l) : Zoned l (ALM.CTXA.fs_ovf x0) :=
  Zoned.pagesOf h (by simp only [ALM.CTXA.fs_ovf]; omega) (by simp only [ALM.CTXA.fs_ovf]; omega) (by simp only [ALM.CTXA.fs_ovf]; omega) (.inl (Nat.le_of_ble_eq_true rfl))

theorem ALM.GRP.silenced_zoned {l} {x0 : Nat} (h : Part.among (.page 0x130) l) : Zoned l (ALM.GRP.silenced x0) :=
  Zoned.pageOf h (by simp only [ALM.GRP.silenced]; omega) (by simp only [ALM.GRP.silenced]; omega) (by simp only [ALM.GRP.silenced]; omega) (.inl (Nat.le_of_ble_eq_true rfl))

theorem ALM.GRP.fo_valid_zoned {l} {x0 : Nat} (h : Part.among (.page 0x130) l) : Zoned l (ALM.GRP.fo_valid x0) :=
  Zoned.pageOf h (by simp only [ALM.GRP.fo_valid]; omega) (by simp only [ALM.GRP.fo_valid]; omega) (by simp only [ALM.GRP.fo_valid]; omega) (.inl (Nat.le_of_ble_eq_true rfl))

theorem ALM.IRQRAW.first_out_zoned {l} (h : Part.among (.head 0x14) l) : Zoned l (ALM.IRQRAW.first_out) :=
  Zoned.of h (by decide) (by decide)

theorem ALM.NQSTAT.occupancy_zoned {l} (h : Part.among (.page 0x20) l) : Zoned l (ALM.NQSTAT.occupancy) :=
  Zoned.of h (by decide) (by decide)

theorem ALM.NQSTAT.rescan_zoned {l} (h : Part.among (.page 0x20) l) : Zoned l (ALM.NQSTAT.rescan) :=
  Zoned.of h (by decide) (by decide)

theorem ALM.GRP.fo_ctx_zoned {l} {x0 : Nat} (h : Part.among (.page 0x130) l) : Zoned l (ALM.GRP.fo_ctx x0) :=
  Zoned.pageOf h (by simp only [ALM.GRP.fo_ctx]; omega) (by simp only [ALM.GRP.fo_ctx]; omega) (by simp only [ALM.GRP.fo_ctx]; omega) (.inl (Nat.le_of_ble_eq_true rfl))

theorem ALM.GRP.fo_onset_zoned {l} {x0 : Nat} (h : Part.among (.page 0x130) l) : Zoned l (ALM.GRP.fo_onset x0) :=
  Zoned.pageOf h (by simp only [ALM.GRP.fo_onset]; omega) (by simp only [ALM.GRP.fo_onset]; omega) (by simp only [ALM.GRP.fo_onset]; omega) (.inr (by simp only [ALM.GRP.fo_onset]; omega))

theorem ALM.GRP.au_zoned {l} {x0 : Nat} (h : Part.among (.page 0x130) l) : Zoned l (ALM.GRP.au x0) :=
  Zoned.pageOf h (by simp only [ALM.GRP.au]; omega) (by simp only [ALM.GRP.au]; omega) (by simp only [ALM.GRP.au]; omega) (.inl (Nat.le_of_ble_eq_true rfl))

theorem ALM.GRP.aa_zoned {l} {x0 : Nat} (h : Part.among (.page 0x130) l) : Zoned l (ALM.GRP.aa x0) :=
  Zoned.pageOf h (by simp only [ALM.GRP.aa]; omega) (by simp only [ALM.GRP.aa]; omega) (by simp only [ALM.GRP.aa]; omega) (.inl (Nat.le_of_ble_eq_true rfl))

theorem ALM.GRP.nu_zoned {l} {x0 : Nat} (h : Part.among (.page 0x130) l) : Zoned l (ALM.GRP.nu x0) :=
  Zoned.pageOf h (by simp only [ALM.GRP.nu]; omega) (by simp only [ALM.GRP.nu]; omega) (by simp only [ALM.GRP.nu]; omega) (.inl (Nat.le_of_ble_eq_true rfl))

theorem ALM.GRP.sf_zoned {l} {x0 : Nat} (h : Part.among (.page 0x130) l) : Zoned l (ALM.GRP.sf x0) :=
  Zoned.pageOf h (by simp only [ALM.GRP.sf]; omega) (by simp only [ALM.GRP.sf]; omega) (by simp only [ALM.GRP.sf]; omega) (.inl (Nat.le_of_ble_eq_true rfl))

theorem ALM.GRP.sh_zoned {l} {x0 : Nat} (h : Part.among (.page 0x130) l) : Zoned l (ALM.GRP.sh x0) :=
  Zoned.pageOf h (by simp only [ALM.GRP.sh]; omega) (by simp only [ALM.GRP.sh]; omega) (by simp only [ALM.GRP.sh]; omega) (.inl (Nat.le_of_ble_eq_true rfl))

theorem ALM.GRP.su_zoned {l} {x0 : Nat} (h : Part.among (.page 0x130) l) : Zoned l (ALM.GRP.su x0) :=
  Zoned.pageOf h (by simp only [ALM.GRP.su]; omega) (by simp only [ALM.GRP.su]; omega) (by simp only [ALM.GRP.su]; omega) (.inl (Nat.le_of_ble_eq_true rfl))

theorem ALM.GRP.horn_on_zoned {l} {x0 : Nat} (h : Part.among (.page 0x130) l) : Zoned l (ALM.GRP.horn_on x0) :=
  Zoned.pageOf h (by simp only [ALM.GRP.horn_on]; omega) (by simp only [ALM.GRP.horn_on]; omega) (by simp only [ALM.GRP.horn_on]; omega) (.inl (Nat.le_of_ble_eq_true rfl))

theorem ALM.GRP.lamp_st_zoned {l} {x0 : Nat} (h : Part.among (.page 0x130) l) : Zoned l (ALM.GRP.lamp_st x0) :=
  Zoned.pageOf h (by simp only [ALM.GRP.lamp_st]; omega) (by simp only [ALM.GRP.lamp_st]; omega) (by simp only [ALM.GRP.lamp_st]; omega) (.inl (Nat.le_of_ble_eq_true rfl))

theorem ALM.QMAP.q_zoned {l} {x0 : Nat} (h : Part.among (.page 0x20) l) : Zoned l (ALM.QMAP.q x0) :=
  Zoned.pageOf h (by simp only [ALM.QMAP.q]; omega) (by simp only [ALM.QMAP.q]; omega) (by simp only [ALM.QMAP.q]; omega) (.inl (Nat.le_of_ble_eq_true rfl))

theorem ALM.UNACK.unack_zoned {l} {x0 : Nat} (h : Part.among (.page 0x20) l) : Zoned l (ALM.UNACK.unack x0) :=
  Zoned.pageOf h (by simp only [ALM.UNACK.unack]; omega) (by simp only [ALM.UNACK.unack]; omega) (by simp only [ALM.UNACK.unack]; omega) (.inl (Nat.le_of_ble_eq_true rfl))

theorem ALM.NQSEQ.seq_zoned {l} (h : Part.among (.page 0x20) l) : Zoned l (ALM.NQSEQ.seq) :=
  Zoned.of h (by decide) (by decide)

theorem ALM.NQDROP.count_zoned {l} (h : Part.among (.page 0x20) l) : Zoned l (ALM.NQDROP.count) :=
  Zoned.of h (by decide) (by decide)

theorem ALM.CNTOVF.nqdrop_zoned {l} (h : Part.among (.page 0x20) l) : Zoned l (ALM.CNTOVF.nqdrop) :=
  Zoned.of h (by decide) (by decide)

theorem ALM.IRQRAW.cnt_ovf_zoned {l} (h : Part.among (.head 0x14) l) : Zoned l (ALM.IRQRAW.cnt_ovf) :=
  Zoned.of h (by decide) (by decide)

theorem ALM.IRQRAW.nq_drop_zoned {l} (h : Part.among (.head 0x14) l) : Zoned l (ALM.IRQRAW.nq_drop) :=
  Zoned.of h (by decide) (by decide)

theorem HDR.FAULTINFO_zoned {l} {x0 : Nat} (h : Part.among (.head 0x24) l) : Zoned l (HDR.FAULTINFO x0) :=
  Zoned.headOf h (by simp only [HDR.FAULTINFO]; omega) (Nat.le_of_ble_eq_true rfl)

theorem HDR.IRQRAW.fault_set_zoned {l} {x0 : Nat} (h : Part.among (.head 0x14) l) : Zoned l (HDR.IRQRAW.fault_set x0) :=
  Zoned.headOf h (by simp only [HDR.IRQRAW.fault_set]; omega) (Nat.le_of_ble_eq_true rfl)

theorem DMA.BFAULTCNT.count_zoned {l} (h : Part.among (.page 0x42) l) : Zoned l (DMA.BFAULTCNT.count) :=
  Zoned.of h (by decide) (by decide)

theorem DMA.CNTOVF.bfault_zoned {l} (h : Part.among (.page 0x42) l) : Zoned l (DMA.CNTOVF.bfault) :=
  Zoned.of h (by decide) (by decide)

theorem DMA.IRQRAW.cnt_ovf_zoned {l} (h : Part.among (.head 0x14) l) : Zoned l (DMA.IRQRAW.cnt_ovf) :=
  Zoned.of h (by decide) (by decide)

theorem DMA.FAULT.bound_zoned {l} (h : Part.among (.head 0x20) l) : Zoned l (DMA.FAULT.bound) :=
  Zoned.of h (by decide) (by decide)

theorem MPTU.VIOL_zoned {l} (h : Part.among (.page 0x41) l) : Zoned l (MPTU.VIOL) :=
  Zoned.of h (by decide) (by decide)

theorem MPTU.VIOLADDR.addr_zoned {l} (h : Part.among (.page 0x41) l) : Zoned l (MPTU.VIOLADDR.addr) :=
  Zoned.of h (by decide) (by decide)

theorem MPTU.VIOLCNT.count_zoned {l} (h : Part.among (.page 0x41) l) : Zoned l (MPTU.VIOLCNT.count) :=
  Zoned.of h (by decide) (by decide)

theorem MPTU.CNTOVF.viol_zoned {l} (h : Part.among (.page 0x41) l) : Zoned l (MPTU.CNTOVF.viol) :=
  Zoned.of h (by decide) (by decide)

theorem MPTU.IRQRAW.cnt_ovf_zoned {l} (h : Part.among (.head 0x14) l) : Zoned l (MPTU.IRQRAW.cnt_ovf) :=
  Zoned.of h (by decide) (by decide)

theorem MPTU.IRQRAW.viol_zoned {l} (h : Part.among (.head 0x14) l) : Zoned l (MPTU.IRQRAW.viol) :=
  Zoned.of h (by decide) (by decide)

theorem MEM.UECNT.count_zoned {l} (h : Part.among (.page 0x40) l) : Zoned l (MEM.UECNT.count) :=
  Zoned.of h (by decide) (by decide)

theorem MEM.CNTOVF.ue_zoned {l} (h : Part.among (.page 0x40) l) : Zoned l (MEM.CNTOVF.ue) :=
  Zoned.of h (by decide) (by decide)

theorem MEM.IRQRAW.cnt_ovf_zoned {l} (h : Part.among (.head 0x14) l) : Zoned l (MEM.IRQRAW.cnt_ovf) :=
  Zoned.of h (by decide) (by decide)

theorem MEM.UEADDR.addr_zoned {l} (h : Part.among (.page 0x40) l) : Zoned l (MEM.UEADDR.addr) :=
  Zoned.of h (by decide) (by decide)

theorem MEM.IRQRAW.ue_zoned {l} (h : Part.among (.head 0x14) l) : Zoned l (MEM.IRQRAW.ue) :=
  Zoned.of h (by decide) (by decide)

theorem MEM.FAULT.ue_zoned {l} (h : Part.among (.head 0x20) l) : Zoned l (MEM.FAULT.ue) :=
  Zoned.of h (by decide) (by decide)

theorem ALM.NQPROD.index_zoned {l} (h : Part.among (.page 0x20) l) : Zoned l (ALM.NQPROD.index) :=
  Zoned.of h (by decide) (by decide)

theorem ALM.FAULT.nqwrite_zoned {l} (h : Part.among (.head 0x20) l) : Zoned l (ALM.FAULT.nqwrite) :=
  Zoned.of h (by decide) (by decide)

theorem REC.STAGEDROP.count_zoned {l} (h : Part.among (.page 0x49) l) : Zoned l (REC.STAGEDROP.count) :=
  Zoned.of h (by decide) (by decide)

theorem REC.CNTOVF.stage_zoned {l} (h : Part.among (.page 0x49) l) : Zoned l (REC.CNTOVF.stage) :=
  Zoned.of h (by decide) (by decide)

theorem REC.IRQRAW.cnt_ovf_zoned {l} (h : Part.among (.head 0x14) l) : Zoned l (REC.IRQRAW.cnt_ovf) :=
  Zoned.of h (by decide) (by decide)

theorem REC.IRQRAW.stage_drop_zoned {l} (h : Part.among (.head 0x14) l) : Zoned l (REC.IRQRAW.stage_drop) :=
  Zoned.of h (by decide) (by decide)

theorem REC.LOGSEQ.seq_zoned {l} (h : Part.among (.page 0x49) l) : Zoned l (REC.LOGSEQ.seq) :=
  Zoned.of h (by decide) (by decide)

theorem REC.IRQRAW.summary_zoned {l} (h : Part.among (.head 0x14) l) : Zoned l (REC.IRQRAW.summary) :=
  Zoned.of h (by decide) (by decide)

theorem REC.CLS.tokens_zoned {l} {x0 : Nat} (h : Part.among (.page 0x178) l) : Zoned l (REC.CLS.tokens x0) :=
  Zoned.pageOf h (by simp only [REC.CLS.tokens]; omega) (by simp only [REC.CLS.tokens]; omega) (by simp only [REC.CLS.tokens]; omega) (.inl (Nat.le_of_ble_eq_true rfl))

theorem REC.CLS.suppressed_zoned {l} {x0 : Nat} (h : Part.among (.page 0x178) l) : Zoned l (REC.CLS.suppressed x0) :=
  Zoned.pageOf h (by simp only [REC.CLS.suppressed]; omega) (by simp only [REC.CLS.suppressed]; omega) (by simp only [REC.CLS.suppressed]; omega) (.inl (Nat.le_of_ble_eq_true rfl))

theorem REC.CLS.sup_ovf_zoned {l} {x0 : Nat} (h : Part.among (.page 0x178) l) : Zoned l (REC.CLS.sup_ovf x0) :=
  Zoned.pageOf h (by simp only [REC.CLS.sup_ovf]; omega) (by simp only [REC.CLS.sup_ovf]; omega) (by simp only [REC.CLS.sup_ovf]; omega) (.inl (Nat.le_of_ble_eq_true rfl))

theorem ALM.CMDSTAT.state_zoned {l} (h : Part.among (.page 0x20) l) : Zoned l (ALM.CMDSTAT.state) :=
  Zoned.of h (by decide) (by decide)

theorem ALM.CMDSTAT.reason_zoned {l} (h : Part.among (.page 0x20) l) : Zoned l (ALM.CMDSTAT.reason) :=
  Zoned.of h (by decide) (by decide)

theorem ALM.IRQRAW.cmd_done_zoned {l} (h : Part.among (.head 0x14) l) : Zoned l (ALM.IRQRAW.cmd_done) :=
  Zoned.of h (by decide) (by decide)

theorem ALM.SUPACT.cond_zoned {l} (h : Part.among (.page 0x20) l) : Zoned l (ALM.SUPACT.cond) :=
  Zoned.of h (by decide) (by decide)

theorem ALM.FAULT.cfgmis_zoned {l} (h : Part.among (.head 0x20) l) : Zoned l (ALM.FAULT.cfgmis) :=
  Zoned.of h (by decide) (by decide)

theorem ALM.CTXA.inv_ovf_zoned {l} {x0 : Nat} (h : Part.among (.pages 0x120 0x130) l) : Zoned l (ALM.CTXA.inv_ovf x0) :=
  Zoned.pagesOf h (by simp only [ALM.CTXA.inv_ovf]; omega) (by simp only [ALM.CTXA.inv_ovf]; omega) (by simp only [ALM.CTXA.inv_ovf]; omega) (.inl (Nat.le_of_ble_eq_true rfl))

theorem ALM.CTXA.miss_ovf_zoned {l} {x0 : Nat} (h : Part.among (.pages 0x120 0x130) l) : Zoned l (ALM.CTXA.miss_ovf x0) :=
  Zoned.pagesOf h (by simp only [ALM.CTXA.miss_ovf]; omega) (by simp only [ALM.CTXA.miss_ovf]; omega) (by simp only [ALM.CTXA.miss_ovf]; omega) (.inl (Nat.le_of_ble_eq_true rfl))

theorem ALM.CTXA.t_onset_zoned {l} {x0 : Nat} (h : Part.among (.pages 0x120 0x130) l) : Zoned l (ALM.CTXA.t_onset x0) :=
  Zoned.pagesOf h (by simp only [ALM.CTXA.t_onset]; omega) (by simp only [ALM.CTXA.t_onset]; omega) (by simp only [ALM.CTXA.t_onset]; omega) (.inr (by simp only [ALM.CTXA.t_onset]; omega))

theorem ALM.CTXA.last_v_zoned {l} {x0 : Nat} (h : Part.among (.pages 0x120 0x130) l) : Zoned l (ALM.CTXA.last_v x0) :=
  Zoned.pagesOf h (by simp only [ALM.CTXA.last_v]; omega) (by simp only [ALM.CTXA.last_v]; omega) (by simp only [ALM.CTXA.last_v]; omega) (.inl (Nat.le_of_ble_eq_true rfl))

theorem ALM.GRP.shed_zoned {l} {x0 : Nat} (h : Part.among (.page 0x130) l) : Zoned l (ALM.GRP.shed x0) :=
  Zoned.pageOf h (by simp only [ALM.GRP.shed]; omega) (by simp only [ALM.GRP.shed]; omega) (by simp only [ALM.GRP.shed]; omega) (.inl (Nat.le_of_ble_eq_true rfl))

theorem ALM.NQSTAT.flood_zoned {l} (h : Part.among (.page 0x20) l) : Zoned l (ALM.NQSTAT.flood) :=
  Zoned.of h (by decide) (by decide)

theorem ALM.IRQRAW.flood_end_zoned {l} (h : Part.among (.head 0x14) l) : Zoned l (ALM.IRQRAW.flood_end) :=
  Zoned.of h (by decide) (by decide)

theorem ALM.IRQRAW.flood_begin_zoned {l} (h : Part.among (.head 0x14) l) : Zoned l (ALM.IRQRAW.flood_begin) :=
  Zoned.of h (by decide) (by decide)

theorem ALM.FLOODCNT.count_zoned {l} (h : Part.among (.page 0x20) l) : Zoned l (ALM.FLOODCNT.count) :=
  Zoned.of h (by decide) (by decide)

theorem ALM.CNTOVF.flood_zoned {l} (h : Part.among (.page 0x20) l) : Zoned l (ALM.CNTOVF.flood) :=
  Zoned.of h (by decide) (by decide)

theorem ALM.EVALLAP.lap_zoned {l} (h : Part.among (.page 0x20) l) : Zoned l (ALM.EVALLAP.lap) :=
  Zoned.of h (by decide) (by decide)

theorem ALM.SHEDLVL.level_zoned {l} (h : Part.among (.page 0x20) l) : Zoned l (ALM.SHEDLVL.level) :=
  Zoned.of h (by decide) (by decide)

theorem REC.ANCHOR.bytes_zoned {l} {x0 : Nat} (h : Part.among (.page 0x49) l) : Zoned l (REC.ANCHOR.bytes x0) :=
  Zoned.pageOf h (by simp only [REC.ANCHOR.bytes]; omega) (by simp only [REC.ANCHOR.bytes]; omega) (by simp only [REC.ANCHOR.bytes]; omega) (.inl (Nat.le_of_ble_eq_true rfl))

theorem ALM.CMDARG_zoned {l} (h : Part.among (.page 0x20) l) : Zoned l (ALM.CMDARG) :=
  Zoned.of h (by decide) (by decide)

theorem CALL.CMDSTAT.state_zoned {l} (h : Part.among (.page 0x28) l) : Zoned l (CALL.CMDSTAT.state) :=
  Zoned.of h (by decide) (by decide)

theorem CALL.CMDSTAT.reason_zoned {l} (h : Part.among (.page 0x28) l) : Zoned l (CALL.CMDSTAT.reason) :=
  Zoned.of h (by decide) (by decide)

theorem CALL.STATE.pers_zoned {l} (h : Part.among (.page 0x28) l) : Zoned l (CALL.STATE.pers) :=
  Zoned.of h (by decide) (by decide)

theorem CALL.STATE.stage_zoned {l} (h : Part.among (.page 0x28) l) : Zoned l (CALL.STATE.stage) :=
  Zoned.of h (by decide) (by decide)

theorem CALL.TCALL.t_call_zoned {l} (h : Part.among (.page 0x28) l) : Zoned l (CALL.TCALL.t_call) :=
  Zoned.of h (by decide) (by decide)

theorem CALL.STATE.officer_zoned {l} (h : Part.among (.page 0x28) l) : Zoned l (CALL.STATE.officer) :=
  Zoned.of h (by decide) (by decide)

theorem CALL.IRQRAW.call_start_zoned {l} (h : Part.among (.head 0x14) l) : Zoned l (CALL.IRQRAW.call_start) :=
  Zoned.of h (by decide) (by decide)

theorem CALL.CALLCNT.count_zoned {l} (h : Part.among (.page 0x28) l) : Zoned l (CALL.CALLCNT.count) :=
  Zoned.of h (by decide) (by decide)

theorem CALL.CNTOVF.call_zoned {l} (h : Part.among (.page 0x28) l) : Zoned l (CALL.CNTOVF.call) :=
  Zoned.of h (by decide) (by decide)

theorem CALL.IRQRAW.cnt_ovf_zoned {l} (h : Part.among (.head 0x14) l) : Zoned l (CALL.IRQRAW.cnt_ovf) :=
  Zoned.of h (by decide) (by decide)

theorem CALL.IRQRAW.escalate_zoned {l} (h : Part.among (.head 0x14) l) : Zoned l (CALL.IRQRAW.escalate) :=
  Zoned.of h (by decide) (by decide)

theorem CALL.IRQRAW.officer_zoned {l} (h : Part.among (.head 0x14) l) : Zoned l (CALL.IRQRAW.officer) :=
  Zoned.of h (by decide) (by decide)

theorem CALL.OFFCNT.count_zoned {l} (h : Part.among (.page 0x28) l) : Zoned l (CALL.OFFCNT.count) :=
  Zoned.of h (by decide) (by decide)

theorem CALL.CNTOVF.off_zoned {l} (h : Part.among (.page 0x28) l) : Zoned l (CALL.CNTOVF.off) :=
  Zoned.of h (by decide) (by decide)

theorem CALL.FAULT.nocp_zoned {l} (h : Part.among (.head 0x20) l) : Zoned l (CALL.FAULT.nocp) :=
  Zoned.of h (by decide) (by decide)

theorem CALL.IRQRAW.answered_zoned {l} (h : Part.among (.head 0x14) l) : Zoned l (CALL.IRQRAW.answered) :=
  Zoned.of h (by decide) (by decide)

theorem CALL.STATE.relay_pend_zoned {l} (h : Part.among (.page 0x28) l) : Zoned l (CALL.STATE.relay_pend) :=
  Zoned.of h (by decide) (by decide)

theorem CALL.STATE.relay_tgt_zoned {l} (h : Part.among (.page 0x28) l) : Zoned l (CALL.STATE.relay_tgt) :=
  Zoned.of h (by decide) (by decide)

theorem CALL.STATE.duty_zoned {l} (h : Part.among (.page 0x28) l) : Zoned l (CALL.STATE.duty) :=
  Zoned.of h (by decide) (by decide)

theorem CALL.IRQRAW.relay_done_zoned {l} (h : Part.among (.head 0x14) l) : Zoned l (CALL.IRQRAW.relay_done) :=
  Zoned.of h (by decide) (by decide)

theorem CALL.IRQRAW.relay_fail_zoned {l} (h : Part.among (.head 0x14) l) : Zoned l (CALL.IRQRAW.relay_fail) :=
  Zoned.of h (by decide) (by decide)

theorem CALL.IRQRAW.pers_prewarn_zoned {l} (h : Part.among (.head 0x14) l) : Zoned l (CALL.IRQRAW.pers_prewarn) :=
  Zoned.of h (by decide) (by decide)

theorem CALL.IRQRAW.pers_alarm_zoned {l} (h : Part.among (.head 0x14) l) : Zoned l (CALL.IRQRAW.pers_alarm) :=
  Zoned.of h (by decide) (by decide)

theorem CALL.STATE.demand_zoned {l} (h : Part.among (.page 0x28) l) : Zoned l (CALL.STATE.demand) :=
  Zoned.of h (by decide) (by decide)

theorem CALL.CPDRIVE.cp_zoned {l} (h : Part.among (.page 0x28) l) : Zoned l (CALL.CPDRIVE.cp) :=
  Zoned.of h (by decide) (by decide)

theorem PAIR.CMDSTAT.state_zoned {l} (h : Part.among (.page 0x38) l) : Zoned l (PAIR.CMDSTAT.state) :=
  Zoned.of h (by decide) (by decide)

theorem PAIR.CMDSTAT.reason_zoned {l} (h : Part.among (.page 0x38) l) : Zoned l (PAIR.CMDSTAT.reason) :=
  Zoned.of h (by decide) (by decide)

theorem PAIR.LEASESEQ.seq_zoned {l} (h : Part.among (.page 0x38) l) : Zoned l (PAIR.LEASESEQ.seq) :=
  Zoned.of h (by decide) (by decide)

theorem PAIR.HOLAP.lap_zoned {l} (h : Part.among (.page 0x38) l) : Zoned l (PAIR.HOLAP.lap) :=
  Zoned.of h (by decide) (by decide)

theorem PAIR.STAT.ho_pend_zoned {l} (h : Part.among (.page 0x38) l) : Zoned l (PAIR.STAT.ho_pend) :=
  Zoned.of h (by decide) (by decide)

theorem PAIR.IRQRAW.role_change_zoned {l} (h : Part.among (.head 0x14) l) : Zoned l (PAIR.IRQRAW.role_change) :=
  Zoned.of h (by decide) (by decide)

theorem PAIR.STAT.role_zoned {l} (h : Part.among (.page 0x38) l) : Zoned l (PAIR.STAT.role) :=
  Zoned.of h (by decide) (by decide)

theorem BUS.TXSTAT.state_zoned {l} {x0 x1 : Nat} (h : Part.among (.pages 0x30 0x34) l) : Zoned l (BUS.TXSTAT.state x0 x1) :=
  Zoned.pagesOf h (by simp only [BUS.TXSTAT.state]; omega) (by simp only [BUS.TXSTAT.state]; omega) (by simp only [BUS.TXSTAT.state]; rcases (show x0 % 4 = 0 ∨ x0 % 4 = 1 ∨ x0 % 4 = 2 ∨ x0 % 4 = 3 by omega) with e | e | e | e <;> rw [e] <;> first | omega | (rcases (show x1 % 3 = 0 ∨ x1 % 3 = 1 ∨ x1 % 3 = 2 by omega) with f | f | f <;> rw [f] <;> omega)) (.inl (Nat.le_of_ble_eq_true rfl))

theorem BUS.IRQRAW.tx_cancel_zoned {l} {x0 : Nat} (h : Part.among (.head 0x14) l) : Zoned l (BUS.IRQRAW.tx_cancel x0) :=
  Zoned.headOf h (by simp only [BUS.IRQRAW.tx_cancel]; omega) (Nat.le_of_ble_eq_true rfl)

theorem BUS.TXSTAT.cancel_late_zoned {l} {x0 x1 : Nat} (h : Part.among (.pages 0x30 0x34) l) : Zoned l (BUS.TXSTAT.cancel_late x0 x1) :=
  Zoned.pagesOf h (by simp only [BUS.TXSTAT.cancel_late]; omega) (by simp only [BUS.TXSTAT.cancel_late]; omega) (by simp only [BUS.TXSTAT.cancel_late]; rcases (show x0 % 4 = 0 ∨ x0 % 4 = 1 ∨ x0 % 4 = 2 ∨ x0 % 4 = 3 by omega) with e | e | e | e <;> rw [e] <;> first | omega | (rcases (show x1 % 3 = 0 ∨ x1 % 3 = 1 ∨ x1 % 3 = 2 by omega) with f | f | f <;> rw [f] <;> omega)) (.inl (Nat.le_of_ble_eq_true rfl))

theorem TSYNC.STATE.state_zoned {l} (h : Part.among (.page 0x35) l) : Zoned l (TSYNC.STATE.state) :=
  Zoned.of h (by decide) (by decide)

theorem TSYNC.STATE.hops_zoned {l} (h : Part.among (.page 0x35) l) : Zoned l (TSYNC.STATE.hops) :=
  Zoned.of h (by decide) (by decide)

theorem TSYNC.STATE.srcnid_zoned {l} (h : Part.among (.page 0x35) l) : Zoned l (TSYNC.STATE.srcnid) :=
  Zoned.of h (by decide) (by decide)

theorem UIO.STAT.row_zoned {l} {x0 : Nat} (h : Part.among (.page 0x18) l) : Zoned l (UIO.STAT.row x0) :=
  Zoned.pageOf h (by simp only [UIO.STAT.row]; omega) (by simp only [UIO.STAT.row]; omega) (by simp only [UIO.STAT.row]; omega) (.inl (Nat.le_of_ble_eq_true rfl))

theorem UIO.STAT.code_zoned {l} {x0 : Nat} (h : Part.among (.page 0x18) l) : Zoned l (UIO.STAT.code x0) :=
  Zoned.pageOf h (by simp only [UIO.STAT.code]; omega) (by simp only [UIO.STAT.code]; omega) (by simp only [UIO.STAT.code]; omega) (.inl (Nat.le_of_ble_eq_true rfl))

theorem DIO.DRIVE.drive_zoned {l} {x0 : Nat} (h : Part.among (.page 0x19) l) : Zoned l (DIO.DRIVE.drive x0) :=
  Zoned.pageOf h (by simp only [DIO.DRIVE.drive]; omega) (by simp only [DIO.DRIVE.drive]; omega) (by simp only [DIO.DRIVE.drive]; omega) (.inl (Nat.le_of_ble_eq_true rfl))

theorem DIO.EXTDRV.flag_zoned {l} {x0 : Nat} (h : Part.among (.page 0x19) l) : Zoned l (DIO.EXTDRV.flag x0) :=
  Zoned.pageOf h (by simp only [DIO.EXTDRV.flag]; omega) (by simp only [DIO.EXTDRV.flag]; omega) (by simp only [DIO.EXTDRV.flag]; omega) (.inl (Nat.le_of_ble_eq_true rfl))

theorem PAIR.STAT.ready_zoned {l} (h : Part.among (.page 0x38) l) : Zoned l (PAIR.STAT.ready) :=
  Zoned.of h (by decide) (by decide)

theorem CAL.CMDSTAT.busy_zoned {l} (h : Part.among (.page 0x10) l) : Zoned l (CAL.CMDSTAT.busy) :=
  Zoned.of h (by decide) (by decide)

theorem CAL.CMDSTAT.state_zoned {l} (h : Part.among (.page 0x10) l) : Zoned l (CAL.CMDSTAT.state) :=
  Zoned.of h (by decide) (by decide)

theorem BUS.STATE.state_zoned {l} {x0 : Nat} (h : Part.among (.pages 0x30 0x34) l) : Zoned l (BUS.STATE.state x0) :=
  Zoned.pagesOf h (by simp only [BUS.STATE.state]; omega) (by simp only [BUS.STATE.state]; omega) (by simp only [BUS.STATE.state]; rcases (show x0 % 4 = 0 ∨ x0 % 4 = 1 ∨ x0 % 4 = 2 ∨ x0 % 4 = 3 by omega) with e | e | e | e <;> rw [e] <;> omega) (.inl (Nat.le_of_ble_eq_true rfl))

theorem BUS.STATE.shedstop_zoned {l} {x0 : Nat} (h : Part.among (.pages 0x30 0x34) l) : Zoned l (BUS.STATE.shedstop x0) :=
  Zoned.pagesOf h (by simp only [BUS.STATE.shedstop]; omega) (by simp only [BUS.STATE.shedstop]; omega) (by simp only [BUS.STATE.shedstop]; rcases (show x0 % 4 = 0 ∨ x0 % 4 = 1 ∨ x0 % 4 = 2 ∨ x0 % 4 = 3 by omega) with e | e | e | e <;> rw [e] <;> omega) (.inl (Nat.le_of_ble_eq_true rfl))

theorem BUS.STATE.recov_zoned {l} {x0 : Nat} (h : Part.among (.pages 0x30 0x34) l) : Zoned l (BUS.STATE.recov x0) :=
  Zoned.pagesOf h (by simp only [BUS.STATE.recov]; omega) (by simp only [BUS.STATE.recov]; omega) (by simp only [BUS.STATE.recov]; rcases (show x0 % 4 = 0 ∨ x0 % 4 = 1 ∨ x0 % 4 = 2 ∨ x0 % 4 = 3 by omega) with e | e | e | e <;> rw [e] <;> omega) (.inl (Nat.le_of_ble_eq_true rfl))

theorem PAIR.STAT.score_zoned {l} (h : Part.among (.page 0x38) l) : Zoned l (PAIR.STAT.score) :=
  Zoned.of h (by decide) (by decide)

theorem MSG.TXDROP.count_zoned {l} (h : Part.among (.page 0x34) l) : Zoned l (MSG.TXDROP.count) :=
  Zoned.of h (by decide) (by decide)

theorem MSG.CNTOVF.txdrop_zoned {l} (h : Part.among (.page 0x34) l) : Zoned l (MSG.CNTOVF.txdrop) :=
  Zoned.of h (by decide) (by decide)

theorem MSG.IRQRAW.cnt_ovf_zoned {l} (h : Part.among (.head 0x14) l) : Zoned l (MSG.IRQRAW.cnt_ovf) :=
  Zoned.of h (by decide) (by decide)

theorem BUS.RXPROD.index_zoned {l} {x0 x1 : Nat} (h : Part.among (.pages 0x30 0x34) l) : Zoned l (BUS.RXPROD.index x0 x1) :=
  Zoned.pagesOf h (by simp only [BUS.RXPROD.index]; omega) (by simp only [BUS.RXPROD.index]; omega) (by simp only [BUS.RXPROD.index]; rcases (show x0 % 4 = 0 ∨ x0 % 4 = 1 ∨ x0 % 4 = 2 ∨ x0 % 4 = 3 by omega) with e | e | e | e <;> rw [e] <;> first | omega | (rcases (show x1 % 3 = 0 ∨ x1 % 3 = 1 ∨ x1 % 3 = 2 by omega) with f | f | f <;> rw [f] <;> omega)) (.inl (Nat.le_of_ble_eq_true rfl))

theorem BUS.RXREL.index_zoned {l} {x0 x1 : Nat} (h : Part.among (.pages 0x30 0x34) l) : Zoned l (BUS.RXREL.index x0 x1) :=
  Zoned.pagesOf h (by simp only [BUS.RXREL.index]; omega) (by simp only [BUS.RXREL.index]; omega) (by simp only [BUS.RXREL.index]; rcases (show x0 % 4 = 0 ∨ x0 % 4 = 1 ∨ x0 % 4 = 2 ∨ x0 % 4 = 3 by omega) with e | e | e | e <;> rw [e] <;> first | omega | (rcases (show x1 % 3 = 0 ∨ x1 % 3 = 1 ∨ x1 % 3 = 2 by omega) with f | f | f <;> rw [f] <;> omega)) (.inl (Nat.le_of_ble_eq_true rfl))

theorem JKT.STAT.link_zoned {l} (h : Part.among (.page 0x1A) l) : Zoned l (JKT.STAT.link) :=
  Zoned.of h (by decide) (by decide)

theorem DIO.VALID.valid_zoned {l} {x0 : Nat} (h : Part.among (.page 0x19) l) : Zoned l (DIO.VALID.valid x0) :=
  Zoned.pageOf h (by simp only [DIO.VALID.valid]; omega) (by simp only [DIO.VALID.valid]; omega) (by simp only [DIO.VALID.valid]; omega) (.inl (Nat.le_of_ble_eq_true rfl))

theorem SEC.IMGSTAT.reason_zoned {l} {x0 : Nat} (h : Part.among (.page 0x58) l) : Zoned l (SEC.IMGSTAT.reason x0) :=
  Zoned.pageOf h (by simp only [SEC.IMGSTAT.reason]; omega) (by simp only [SEC.IMGSTAT.reason]; omega) (by simp only [SEC.IMGSTAT.reason]; omega) (.inl (Nat.le_of_ble_eq_true rfl))

theorem SEC.IMGSTAT.state_zoned {l} {x0 : Nat} (h : Part.among (.page 0x58) l) : Zoned l (SEC.IMGSTAT.state x0) :=
  Zoned.pageOf h (by simp only [SEC.IMGSTAT.state]; omega) (by simp only [SEC.IMGSTAT.state]; omega) (by simp only [SEC.IMGSTAT.state]; omega) (.inl (Nat.le_of_ble_eq_true rfl))

theorem SEC.IMGSEQ.seq_zoned {l} {x0 : Nat} (h : Part.among (.page 0x58) l) : Zoned l (SEC.IMGSEQ.seq x0) :=
  Zoned.pageOf h (by simp only [SEC.IMGSEQ.seq]; omega) (by simp only [SEC.IMGSEQ.seq]; omega) (by simp only [SEC.IMGSEQ.seq]; omega) (.inl (Nat.le_of_ble_eq_true rfl))

theorem SEC.STAT.id_valid_zoned {l} (h : Part.among (.page 0x58) l) : Zoned l (SEC.STAT.id_valid) :=
  Zoned.of h (by decide) (by decide)

theorem SEC.IDPUB.bytes_zoned {l} {x0 : Nat} (h : Part.among (.page 0x58) l) : Zoned l (SEC.IDPUB.bytes x0) :=
  Zoned.pageOf h (by simp only [SEC.IDPUB.bytes]; omega) (by simp only [SEC.IDPUB.bytes]; omega) (by simp only [SEC.IDPUB.bytes]; omega) (.inl (Nat.le_of_ble_eq_true rfl))

theorem NVM.ECCCNT.count_zoned {l} (h : Part.among (.page 0x48) l) : Zoned l (NVM.ECCCNT.count) :=
  Zoned.of h (by decide) (by decide)

theorem NVM.CNTOVF.ecc_zoned {l} (h : Part.among (.page 0x48) l) : Zoned l (NVM.CNTOVF.ecc) :=
  Zoned.of h (by decide) (by decide)

theorem NVM.IRQRAW.cnt_ovf_zoned {l} (h : Part.among (.head 0x14) l) : Zoned l (NVM.IRQRAW.cnt_ovf) :=
  Zoned.of h (by decide) (by decide)

theorem NVM.UECNT.count_zoned {l} (h : Part.among (.page 0x48) l) : Zoned l (NVM.UECNT.count) :=
  Zoned.of h (by decide) (by decide)

theorem NVM.CNTOVF.ue_zoned {l} (h : Part.among (.page 0x48) l) : Zoned l (NVM.CNTOVF.ue) :=
  Zoned.of h (by decide) (by decide)

theorem NVM.IRQRAW.ue_zoned {l} (h : Part.among (.head 0x14) l) : Zoned l (NVM.IRQRAW.ue) :=
  Zoned.of h (by decide) (by decide)

theorem NVM.FAULT.ue_zoned {l} (h : Part.among (.head 0x20) l) : Zoned l (NVM.FAULT.ue) :=
  Zoned.of h (by decide) (by decide)

theorem NVM.CMDSTAT.state_zoned {l} (h : Part.among (.page 0x48) l) : Zoned l (NVM.CMDSTAT.state) :=
  Zoned.of h (by decide) (by decide)

theorem REC.STAT.snapping_zoned {l} (h : Part.among (.page 0x49) l) : Zoned l (REC.STAT.snapping) :=
  Zoned.of h (by decide) (by decide)

theorem REC.FAULT.snapwr_zoned {l} (h : Part.among (.head 0x20) l) : Zoned l (REC.FAULT.snapwr) :=
  Zoned.of h (by decide) (by decide)

theorem SEC.CMDSTAT.state_zoned {l} (h : Part.among (.page 0x58) l) : Zoned l (SEC.CMDSTAT.state) :=
  Zoned.of h (by decide) (by decide)

theorem SEC.CMDSTAT.reason_zoned {l} (h : Part.among (.page 0x58) l) : Zoned l (SEC.CMDSTAT.reason) :=
  Zoned.of h (by decide) (by decide)

theorem SEC.IRQRAW.gen_done_zoned {l} (h : Part.among (.head 0x14) l) : Zoned l (SEC.IRQRAW.gen_done) :=
  Zoned.of h (by decide) (by decide)

theorem SEC.IRQRAW.attest_done_zoned {l} (h : Part.among (.head 0x14) l) : Zoned l (SEC.IRQRAW.attest_done) :=
  Zoned.of h (by decide) (by decide)

theorem SEC.IRQRAW.img_done_zoned {l} (h : Part.among (.head 0x14) l) : Zoned l (SEC.IRQRAW.img_done) :=
  Zoned.of h (by decide) (by decide)

theorem SEC.SIG.bytes_zoned {l} {x0 : Nat} (h : Part.among (.page 0x58) l) : Zoned l (SEC.SIG.bytes x0) :=
  Zoned.pageOf h (by simp only [SEC.SIG.bytes]; omega) (by simp only [SEC.SIG.bytes]; omega) (by simp only [SEC.SIG.bytes]; omega) (.inl (Nat.le_of_ble_eq_true rfl))

theorem SEC.CMDSTAT_zoned {l} (h : Part.among (.page 0x58) l) : Zoned l (SEC.CMDSTAT) :=
  Zoned.of h (by decide) (by decide)

theorem DMA.SCTL.state_zoned {l} {x0 : Nat} (h : Part.among (.page 0x42) l) : Zoned l (DMA.SCTL.state x0) :=
  Zoned.pageOf h (by simp only [DMA.SCTL.state]; omega) (by simp only [DMA.SCTL.state]; omega) (by simp only [DMA.SCTL.state]; omega) (.inl (Nat.le_of_ble_eq_true rfl))

theorem DMA.SCTL.code_zoned {l} {x0 : Nat} (h : Part.among (.page 0x42) l) : Zoned l (DMA.SCTL.code x0) :=
  Zoned.pageOf h (by simp only [DMA.SCTL.code]; omega) (by simp only [DMA.SCTL.code]; omega) (by simp only [DMA.SCTL.code]; omega) (.inl (Nat.le_of_ble_eq_true rfl))

theorem DMA.SRESD.desc_zoned {l} {x0 : Nat} (h : Part.among (.page 0x42) l) : Zoned l (DMA.SRESD.desc x0) :=
  Zoned.pageOf h (by simp only [DMA.SRESD.desc]; omega) (by simp only [DMA.SRESD.desc]; omega) (by simp only [DMA.SRESD.desc]; omega) (.inl (Nat.le_of_ble_eq_true rfl))

theorem DMA.SRESO.offset_zoned {l} {x0 : Nat} (h : Part.among (.page 0x42) l) : Zoned l (DMA.SRESO.offset x0) :=
  Zoned.pageOf h (by simp only [DMA.SRESO.offset]; omega) (by simp only [DMA.SRESO.offset]; omega) (by simp only [DMA.SRESO.offset]; omega) (.inl (Nat.le_of_ble_eq_true rfl))

theorem DMA.HALT.s_zoned {l} {x0 : Nat} (h : Part.among (.page 0x42) l) : Zoned l (DMA.HALT.s x0) :=
  Zoned.pageOf h (by simp only [DMA.HALT.s]; omega) (by simp only [DMA.HALT.s]; omega) (by simp only [DMA.HALT.s]; omega) (.inl (Nat.le_of_ble_eq_true rfl))

theorem DMA.IRQRAW.halt_zoned {l} (h : Part.among (.head 0x14) l) : Zoned l (DMA.IRQRAW.halt) :=
  Zoned.of h (by decide) (by decide)

theorem DMA.FAULT.halt_zoned {l} (h : Part.among (.head 0x20) l) : Zoned l (DMA.FAULT.halt) :=
  Zoned.of h (by decide) (by decide)

theorem DMA.ACTIVE.busy_zoned {l} (h : Part.among (.page 0x42) l) : Zoned l (DMA.ACTIVE.busy) :=
  Zoned.of h (by decide) (by decide)

theorem DMA.ACTIVE.stream_zoned {l} (h : Part.among (.page 0x42) l) : Zoned l (DMA.ACTIVE.stream) :=
  Zoned.of h (by decide) (by decide)

theorem UIO.STAT.failact_zoned {l} {x0 : Nat} (h : Part.among (.page 0x18) l) : Zoned l (UIO.STAT.failact x0) :=
  Zoned.pageOf h (by simp only [UIO.STAT.failact]; omega) (by simp only [UIO.STAT.failact]; omega) (by simp only [UIO.STAT.failact]; omega) (.inl (Nat.le_of_ble_eq_true rfl))

theorem AFE.MODE.listen_zoned {l} {x0 : Nat} (h : Part.among (.pages 0x8 0x10) l) : Zoned l (AFE.MODE.listen x0) :=
  Zoned.pagesOf h (by simp only [AFE.MODE.listen]; omega) (by simp only [AFE.MODE.listen]; omega) (by simp only [AFE.MODE.listen]; omega) (.inl (Nat.le_of_ble_eq_true rfl))

theorem AFE.MODE.excown_zoned {l} {x0 : Nat} (h : Part.among (.pages 0x8 0x10) l) : Zoned l (AFE.MODE.excown x0) :=
  Zoned.pagesOf h (by simp only [AFE.MODE.excown]; omega) (by simp only [AFE.MODE.excown]; omega) (by simp only [AFE.MODE.excown]; omega) (.inl (Nat.le_of_ble_eq_true rfl))

theorem AFE.LANEMAP.retired_zoned {l} {x0 : Nat} (h : Part.among (.pages 0x8 0x10) l) : Zoned l (AFE.LANEMAP.retired x0) :=
  Zoned.pagesOf h (by simp only [AFE.LANEMAP.retired]; omega) (by simp only [AFE.LANEMAP.retired]; omega) (by simp only [AFE.LANEMAP.retired]; omega) (.inl (Nat.le_of_ble_eq_true rfl))

theorem BUS.LAPTSC.us_zoned {l} {x0 : Nat} (h : Part.among (.pages 0x30 0x34) l) : Zoned l (BUS.LAPTSC.us x0) :=
  Zoned.pagesOf h (by simp only [BUS.LAPTSC.us]; omega) (by simp only [BUS.LAPTSC.us]; omega) (by simp only [BUS.LAPTSC.us]; rcases (show x0 % 4 = 0 ∨ x0 % 4 = 1 ∨ x0 % 4 = 2 ∨ x0 % 4 = 3 by omega) with e | e | e | e <;> rw [e] <;> omega) (.inl (Nat.le_of_ble_eq_true rfl))

theorem BUS.LAPSTIME.stime_zoned {l} {x0 : Nat} (h : Part.among (.pages 0x30 0x34) l) : Zoned l (BUS.LAPSTIME.stime x0) :=
  Zoned.pagesOf h (by simp only [BUS.LAPSTIME.stime]; omega) (by simp only [BUS.LAPSTIME.stime]; omega) (by simp only [BUS.LAPSTIME.stime]; rcases (show x0 % 4 = 0 ∨ x0 % 4 = 1 ∨ x0 % 4 = 2 ∨ x0 % 4 = 3 by omega) with e | e | e | e <;> rw [e] <;> omega) (.inr (by simp only [BUS.LAPSTIME.stime]; rcases (show x0 % 4 = 0 ∨ x0 % 4 = 1 ∨ x0 % 4 = 2 ∨ x0 % 4 = 3 by omega) with e | e | e | e <;> rw [e] <;> omega))

theorem healthRef_zoned {l} {x0 : Nat} (h : Part.among (.page 0x10) l) : Zoned l (healthRef x0) :=
  Zoned.pageOf h (by simp only [healthRef, CAL.HEALTH.counters]; omega) (by simp only [healthRef, CAL.HEALTH.counters]; omega) (by simp only [healthRef, CAL.HEALTH.counters]; omega) (.inr (by simp only [healthRef, CAL.HEALTH.counters]; omega))

theorem CAL.BANKSTAT.initial_zoned {l} {x0 : Nat} (h : Part.among (.page 0x10) l) : Zoned l (CAL.BANKSTAT.initial x0) :=
  Zoned.pageOf h (by simp only [CAL.BANKSTAT.initial]; omega) (by simp only [CAL.BANKSTAT.initial]; omega) (by simp only [CAL.BANKSTAT.initial]; omega) (.inl (Nat.le_of_ble_eq_true rfl))

theorem CAL.BANKSTAT.forced_zoned {l} {x0 : Nat} (h : Part.among (.page 0x10) l) : Zoned l (CAL.BANKSTAT.forced x0) :=
  Zoned.pageOf h (by simp only [CAL.BANKSTAT.forced]; omega) (by simp only [CAL.BANKSTAT.forced]; omega) (by simp only [CAL.BANKSTAT.forced]; omega) (.inl (Nat.le_of_ble_eq_true rfl))

theorem CAL.RETIRED.ch_zoned {l} {x0 : Nat} (h : Part.among (.page 0x10) l) : Zoned l (CAL.RETIRED.ch x0) :=
  Zoned.pageOf h (by simp only [CAL.RETIRED.ch]; omega) (by simp only [CAL.RETIRED.ch]; omega) (by simp only [CAL.RETIRED.ch]; omega) (.inl (Nat.le_of_ble_eq_true rfl))

theorem CAL.REFSTAT.failed_zoned {l} (h : Part.among (.page 0x10) l) : Zoned l (CAL.REFSTAT.failed) :=
  Zoned.of h (by decide) (by decide)

theorem CAL.STORESEQ.seq_zoned {l} (h : Part.among (.page 0x10) l) : Zoned l (CAL.STORESEQ.seq) :=
  Zoned.of h (by decide) (by decide)

theorem MSG.STAT.unauth_zoned {l} (h : Part.among (.page 0x34) l) : Zoned l (MSG.STAT.unauth) :=
  Zoned.of h (by decide) (by decide)

theorem MSG.FAULT.nokey_zoned {l} (h : Part.among (.head 0x20) l) : Zoned l (MSG.FAULT.nokey) :=
  Zoned.of h (by decide) (by decide)

theorem MEM.INFO.init_done_zoned {l} (h : Part.among (.page 0x40) l) : Zoned l (MEM.INFO.init_done) :=
  Zoned.of h (by decide) (by decide)

theorem MEM.INFO.retvalid_zoned {l} (h : Part.among (.page 0x40) l) : Zoned l (MEM.INFO.retvalid) :=
  Zoned.of h (by decide) (by decide)

theorem REC.STAT.restore_zoned {l} (h : Part.among (.page 0x49) l) : Zoned l (REC.STAT.restore) :=
  Zoned.of h (by decide) (by decide)

theorem REC.LEG.leg_zoned {l} (h : Part.among (.page 0x49) l) : Zoned l (REC.LEG.leg) :=
  Zoned.of h (by decide) (by decide)

theorem REC.SNAPSEQ.seq_zoned {l} (h : Part.among (.page 0x49) l) : Zoned l (REC.SNAPSEQ.seq) :=
  Zoned.of h (by decide) (by decide)

theorem MEM.CECNT.count_zoned {l} (h : Part.among (.page 0x40) l) : Zoned l (MEM.CECNT.count) :=
  Zoned.of h (by decide) (by decide)

theorem MEM.CNTOVF.ce_zoned {l} (h : Part.among (.page 0x40) l) : Zoned l (MEM.CNTOVF.ce) :=
  Zoned.of h (by decide) (by decide)

theorem MEM.CEADDR.addr_zoned {l} (h : Part.among (.page 0x40) l) : Zoned l (MEM.CEADDR.addr) :=
  Zoned.of h (by decide) (by decide)

theorem MEM.IRQRAW.ce_zoned {l} (h : Part.among (.head 0x14) l) : Zoned l (MEM.IRQRAW.ce) :=
  Zoned.of h (by decide) (by decide)

theorem REC.STAT.shortfall_zoned {l} (h : Part.among (.page 0x49) l) : Zoned l (REC.STAT.shortfall) :=
  Zoned.of h (by decide) (by decide)

theorem REC.IRQRAW.shortfall_zoned {l} (h : Part.among (.head 0x14) l) : Zoned l (REC.IRQRAW.shortfall) :=
  Zoned.of h (by decide) (by decide)

theorem REC.FAULT.restore_zoned {l} (h : Part.among (.head 0x20) l) : Zoned l (REC.FAULT.restore) :=
  Zoned.of h (by decide) (by decide)

theorem REC.FAULT.cfgmis_zoned {l} (h : Part.among (.head 0x20) l) : Zoned l (REC.FAULT.cfgmis) :=
  Zoned.of h (by decide) (by decide)

theorem REC.LOGSTART.offset_zoned {l} (h : Part.among (.page 0x49) l) : Zoned l (REC.LOGSTART.offset) :=
  Zoned.of h (by decide) (by decide)

theorem REC.STAT.clearing_zoned {l} (h : Part.among (.page 0x49) l) : Zoned l (REC.STAT.clearing) :=
  Zoned.of h (by decide) (by decide)

theorem REC.STAT.archived_zoned {l} (h : Part.among (.page 0x49) l) : Zoned l (REC.STAT.archived) :=
  Zoned.of h (by decide) (by decide)

theorem REC.IRQRAW.clear_done_zoned {l} (h : Part.among (.head 0x14) l) : Zoned l (REC.IRQRAW.clear_done) :=
  Zoned.of h (by decide) (by decide)

theorem REC.STAT.logfull_zoned {l} (h : Part.among (.page 0x49) l) : Zoned l (REC.STAT.logfull) :=
  Zoned.of h (by decide) (by decide)

theorem BKPM.DATA30.drop_zoned {l} (h : Part.among (.page 0x51) l) : Zoned l (BKPM.DATA30.drop) :=
  Zoned.of h (by decide) (by decide)

theorem REC.LOGDROP.count_zoned {l} (h : Part.among (.page 0x49) l) : Zoned l (REC.LOGDROP.count) :=
  Zoned.of h (by decide) (by decide)

theorem REC.CMDSTAT.state_zoned {l} (h : Part.among (.page 0x49) l) : Zoned l (REC.CMDSTAT.state) :=
  Zoned.of h (by decide) (by decide)

theorem REC.CMDSTAT.reason_zoned {l} (h : Part.among (.page 0x49) l) : Zoned l (REC.CMDSTAT.reason) :=
  Zoned.of h (by decide) (by decide)

theorem REC.IRQRAW.cmd_done_zoned {l} (h : Part.among (.head 0x14) l) : Zoned l (REC.IRQRAW.cmd_done) :=
  Zoned.of h (by decide) (by decide)

theorem SEC.FAULT.identity_zoned {l} (h : Part.among (.head 0x20) l) : Zoned l (SEC.FAULT.identity) :=
  Zoned.of h (by decide) (by decide)

theorem HDR.FAULT.qtimeout_zoned {l} {x0 : Nat} (h : Part.among (.head 0x20) l) : Zoned l (HDR.FAULT.qtimeout x0) :=
  Zoned.headOf h (by simp only [HDR.FAULT.qtimeout]; omega) (Nat.le_of_ble_eq_true rfl)

theorem UIO.OUT.out_zoned {l} {x0 : Nat} (h : Part.among (.page 0x18) l) : Zoned l (UIO.OUT.out x0) :=
  Zoned.pageOf h (by simp only [UIO.OUT.out]; omega) (by simp only [UIO.OUT.out]; omega) (by simp only [UIO.OUT.out]; omega) (.inl (Nat.le_of_ble_eq_true rfl))

theorem MSG.FAULT.qfull_zoned {l} (h : Part.among (.head 0x20) l) : Zoned l (MSG.FAULT.qfull) :=
  Zoned.of h (by decide) (by decide)

theorem BUS.TXID_zoned {l} {x0 x1 : Nat} (h : Part.among (.pages 0x30 0x34) l) : Zoned l (BUS.TXID x0 x1) :=
  Zoned.pagesOf h (by simp only [BUS.TXID]; omega) (by simp only [BUS.TXID]; omega) (by simp only [BUS.TXID]; rcases (show x0 % 4 = 0 ∨ x0 % 4 = 1 ∨ x0 % 4 = 2 ∨ x0 % 4 = 3 by omega) with e | e | e | e <;> rw [e] <;> first | omega | (rcases (show x1 % 3 = 0 ∨ x1 % 3 = 1 ∨ x1 % 3 = 2 by omega) with f | f | f <;> rw [f] <;> omega)) (.inl (Nat.le_of_ble_eq_true rfl))

theorem BUS.TXCTL_zoned {l} {x0 x1 : Nat} (h : Part.among (.pages 0x30 0x34) l) : Zoned l (BUS.TXCTL x0 x1) :=
  Zoned.pagesOf h (by simp only [BUS.TXCTL]; omega) (by simp only [BUS.TXCTL]; omega) (by simp only [BUS.TXCTL]; rcases (show x0 % 4 = 0 ∨ x0 % 4 = 1 ∨ x0 % 4 = 2 ∨ x0 % 4 = 3 by omega) with e | e | e | e <;> rw [e] <;> first | omega | (rcases (show x1 % 3 = 0 ∨ x1 % 3 = 1 ∨ x1 % 3 = 2 by omega) with f | f | f <;> rw [f] <;> omega)) (.inl (Nat.le_of_ble_eq_true rfl))

theorem BUS.TXDATA.data_zoned {l} {x0 x1 x2 : Nat} (h : Part.among (.pages 0x30 0x34) l) : Zoned l (BUS.TXDATA.data x0 x1 x2) :=
  Zoned.pagesOf h (by simp only [BUS.TXDATA.data]; omega) (by simp only [BUS.TXDATA.data]; omega) (by simp only [BUS.TXDATA.data]; rcases (show x0 % 4 = 0 ∨ x0 % 4 = 1 ∨ x0 % 4 = 2 ∨ x0 % 4 = 3 by omega) with e | e | e | e <;> rw [e] <;> first | omega | (rcases (show x1 % 3 = 0 ∨ x1 % 3 = 1 ∨ x1 % 3 = 2 by omega) with f | f | f <;> rw [f] <;> omega)) (.inl (Nat.le_of_ble_eq_true rfl))

theorem BUS.TXSTAT.attempts_zoned {l} {x0 x1 : Nat} (h : Part.among (.pages 0x30 0x34) l) : Zoned l (BUS.TXSTAT.attempts x0 x1) :=
  Zoned.pagesOf h (by simp only [BUS.TXSTAT.attempts]; omega) (by simp only [BUS.TXSTAT.attempts]; omega) (by simp only [BUS.TXSTAT.attempts]; rcases (show x0 % 4 = 0 ∨ x0 % 4 = 1 ∨ x0 % 4 = 2 ∨ x0 % 4 = 3 by omega) with e | e | e | e <;> rw [e] <;> first | omega | (rcases (show x1 % 3 = 0 ∨ x1 % 3 = 1 ∨ x1 % 3 = 2 by omega) with f | f | f <;> rw [f] <;> omega)) (.inl (Nat.le_of_ble_eq_true rfl))

theorem HDR.COMMIT.state_zoned {l} {x0 : Nat} (h : Part.among (.head 0x2C) l) : Zoned l (HDR.COMMIT.state x0) :=
  Zoned.headOf h (by simp only [HDR.COMMIT.state]; omega) (Nat.le_of_ble_eq_true rfl)

theorem HDR.IRQRAW.commit_done_zoned {l} {x0 : Nat} (h : Part.among (.head 0x14) l) : Zoned l (HDR.IRQRAW.commit_done x0) :=
  Zoned.headOf h (by simp only [HDR.IRQRAW.commit_done]; omega) (Nat.le_of_ble_eq_true rfl)

theorem PAIR.STAT.cfgdiff_zoned {l} (h : Part.among (.page 0x38) l) : Zoned l (PAIR.STAT.cfgdiff) :=
  Zoned.of h (by decide) (by decide)

theorem PAIR.DIGEST.crc_zoned {l} (h : Part.among (.page 0x38) l) : Zoned l (PAIR.DIGEST.crc) :=
  Zoned.of h (by decide) (by decide)

theorem ALM.PAIRDIFF.count_zoned {l} (h : Part.among (.page 0x20) l) : Zoned l (ALM.PAIRDIFF.count) :=
  Zoned.of h (by decide) (by decide)

theorem ALM.CNTOVF.pair_zoned {l} (h : Part.among (.page 0x20) l) : Zoned l (ALM.CNTOVF.pair) :=
  Zoned.of h (by decide) (by decide)

theorem CALL.CPLOST.cp_zoned {l} (h : Part.among (.page 0x28) l) : Zoned l (CALL.CPLOST.cp) :=
  Zoned.of h (by decide) (by decide)

theorem RST.CAUSE.cause_zoned {l} (h : Part.among (.page 0x3) l) : Zoned l (RST.CAUSE.cause) :=
  Zoned.of h (by decide) (by decide)

theorem AFE.LANEMAP.lanes_zoned {l} {x0 : Nat} (h : Part.among (.pages 0x8 0x10) l) : Zoned l (AFE.LANEMAP.lanes x0) :=
  Zoned.pagesOf h (by simp only [AFE.LANEMAP.lanes]; omega) (by simp only [AFE.LANEMAP.lanes]; omega) (by simp only [AFE.LANEMAP.lanes]; omega) (.inl (Nat.le_of_ble_eq_true rfl))

theorem AFE.LANEMAP.live_zoned {l} {x0 : Nat} (h : Part.among (.pages 0x8 0x10) l) : Zoned l (AFE.LANEMAP.live x0) :=
  Zoned.pagesOf h (by simp only [AFE.LANEMAP.live]; omega) (by simp only [AFE.LANEMAP.live]; omega) (by simp only [AFE.LANEMAP.live]; omega) (.inl (Nat.le_of_ble_eq_true rfl))

theorem AFE.LANEMAP.spare_zoned {l} {x0 : Nat} (h : Part.among (.pages 0x8 0x10) l) : Zoned l (AFE.LANEMAP.spare x0) :=
  Zoned.pagesOf h (by simp only [AFE.LANEMAP.spare]; omega) (by simp only [AFE.LANEMAP.spare]; omega) (by simp only [AFE.LANEMAP.spare]; omega) (.inl (Nat.le_of_ble_eq_true rfl))

theorem TAMP.AUTHWIN.count_zoned {l} (h : Part.among (.page 0x5A) l) : Zoned l (TAMP.AUTHWIN.count) :=
  Zoned.of h (by decide) (by decide)

theorem TAMP.STAT.active_zoned {l} (h : Part.among (.page 0x5A) l) : Zoned l (TAMP.STAT.active) :=
  Zoned.of h (by decide) (by decide)

theorem PWR.STAT.state_zoned {l} (h : Part.among (.page 0x1) l) : Zoned l (PWR.STAT.state) :=
  Zoned.of h (by decide) (by decide)

theorem CAL.FAULT.nolane_zoned {l} (h : Part.among (.head 0x20) l) : Zoned l (CAL.FAULT.nolane) :=
  Zoned.of h (by decide) (by decide)

theorem NVM.FAULT.verify_zoned {l} (h : Part.among (.head 0x20) l) : Zoned l (NVM.FAULT.verify) :=
  Zoned.of h (by decide) (by decide)

theorem REC.IRQRAW.snap_done_zoned {l} (h : Part.among (.head 0x14) l) : Zoned l (REC.IRQRAW.snap_done) :=
  Zoned.of h (by decide) (by decide)

theorem PWR.STAT.cap_zoned {l} (h : Part.among (.page 0x1) l) : Zoned l (PWR.STAT.cap) :=
  Zoned.of h (by decide) (by decide)

theorem RST.LAST.reach_zoned {l} (h : Part.among (.page 0x3) l) : Zoned l (RST.LAST.reach) :=
  Zoned.of h (by decide) (by decide)

theorem RST.LAST.page_zoned {l} (h : Part.among (.page 0x3) l) : Zoned l (RST.LAST.page) :=
  Zoned.of h (by decide) (by decide)

theorem RST.IRQRAW.released_zoned {l} (h : Part.among (.head 0x14) l) : Zoned l (RST.IRQRAW.released) :=
  Zoned.of h (by decide) (by decide)

theorem SEC.STAT.booted_zoned {l} (h : Part.among (.page 0x58) l) : Zoned l (SEC.STAT.booted) :=
  Zoned.of h (by decide) (by decide)

theorem HDR.CTL.enable_zoned {l} {x0 : Nat} (h : Part.among (.head 0xC) l) : Zoned l (HDR.CTL.enable x0) :=
  Zoned.headOf h (by simp only [HDR.CTL.enable]; omega) (Nat.le_of_ble_eq_true rfl)

theorem DMA.RRDROP.count_zoned {l} (h : Part.among (.page 0x42) l) : Zoned l (DMA.RRDROP.count) :=
  Zoned.of h (by decide) (by decide)

theorem DMA.CNTOVF.rrdrop_zoned {l} (h : Part.among (.page 0x42) l) : Zoned l (DMA.CNTOVF.rrdrop) :=
  Zoned.of h (by decide) (by decide)

theorem DMA.IRQRAW.rr_drop_zoned {l} (h : Part.among (.head 0x14) l) : Zoned l (DMA.IRQRAW.rr_drop) :=
  Zoned.of h (by decide) (by decide)

theorem DMA.RRPROD.index_zoned {l} (h : Part.among (.page 0x42) l) : Zoned l (DMA.RRPROD.index) :=
  Zoned.of h (by decide) (by decide)

theorem PAIR.XFAIL.ch_zoned {l} {x0 : Nat} (h : Part.among (.page 0x38) l) : Zoned l (PAIR.XFAIL.ch x0) :=
  Zoned.pageOf h (by simp only [PAIR.XFAIL.ch]; omega) (by simp only [PAIR.XFAIL.ch]; omega) (by simp only [PAIR.XFAIL.ch]; omega) (.inl (Nat.le_of_ble_eq_true rfl))

theorem PAIR.XDISCNT.count_zoned {l} (h : Part.among (.page 0x38) l) : Zoned l (PAIR.XDISCNT.count) :=
  Zoned.of h (by decide) (by decide)

theorem PAIR.CNTOVF.xdis_zoned {l} (h : Part.among (.page 0x38) l) : Zoned l (PAIR.CNTOVF.xdis) :=
  Zoned.of h (by decide) (by decide)

theorem PAIR.IRQRAW.cnt_ovf_zoned {l} (h : Part.among (.head 0x14) l) : Zoned l (PAIR.IRQRAW.cnt_ovf) :=
  Zoned.of h (by decide) (by decide)

theorem PAIR.IRQRAW.xchk_zoned {l} (h : Part.among (.head 0x14) l) : Zoned l (PAIR.IRQRAW.xchk) :=
  Zoned.of h (by decide) (by decide)

theorem PAIR.FAULT.xchk_zoned {l} (h : Part.among (.head 0x20) l) : Zoned l (PAIR.FAULT.xchk) :=
  Zoned.of h (by decide) (by decide)

theorem CAL.IRQRAW.stale_zoned {l} (h : Part.among (.head 0x14) l) : Zoned l (CAL.IRQRAW.stale) :=
  Zoned.of h (by decide) (by decide)

theorem ALM.EVALTIME.cycles_zoned {l} (h : Part.among (.page 0x20) l) : Zoned l (ALM.EVALTIME.cycles) :=
  Zoned.of h (by decide) (by decide)

theorem ALM.FAULT.evaltime_zoned {l} (h : Part.among (.head 0x20) l) : Zoned l (ALM.FAULT.evaltime) :=
  Zoned.of h (by decide) (by decide)

theorem DIO.IRQRAW.vfield_ok_zoned {l} (h : Part.among (.head 0x14) l) : Zoned l (DIO.IRQRAW.vfield_ok) :=
  Zoned.of h (by decide) (by decide)

theorem DIO.VFIELD.state_zoned {l} (h : Part.among (.page 0x19) l) : Zoned l (DIO.VFIELD.state) :=
  Zoned.of h (by decide) (by decide)

theorem DIO.VFIELD.mv_zoned {l} (h : Part.among (.page 0x19) l) : Zoned l (DIO.VFIELD.mv) :=
  Zoned.of h (by decide) (by decide)

theorem BUS.RXDROP.count_zoned {l} {x0 x1 : Nat} (h : Part.among (.pages 0x30 0x34) l) : Zoned l (BUS.RXDROP.count x0 x1) :=
  Zoned.pagesOf h (by simp only [BUS.RXDROP.count]; omega) (by simp only [BUS.RXDROP.count]; omega) (by simp only [BUS.RXDROP.count]; rcases (show x0 % 4 = 0 ∨ x0 % 4 = 1 ∨ x0 % 4 = 2 ∨ x0 % 4 = 3 by omega) with e | e | e | e <;> rw [e] <;> first | omega | (rcases (show x1 % 3 = 0 ∨ x1 % 3 = 1 ∨ x1 % 3 = 2 by omega) with f | f | f <;> rw [f] <;> omega)) (.inl (Nat.le_of_ble_eq_true rfl))

theorem BUS.CNTOVF.drop0_zoned {l} {x0 : Nat} (h : Part.among (.pages 0x30 0x34) l) : Zoned l (BUS.CNTOVF.drop0 x0) :=
  Zoned.pagesOf h (by simp only [BUS.CNTOVF.drop0]; omega) (by simp only [BUS.CNTOVF.drop0]; omega) (by simp only [BUS.CNTOVF.drop0]; rcases (show x0 % 4 = 0 ∨ x0 % 4 = 1 ∨ x0 % 4 = 2 ∨ x0 % 4 = 3 by omega) with e | e | e | e <;> rw [e] <;> omega) (.inl (Nat.le_of_ble_eq_true rfl))

theorem BUS.CNTOVF.drop1_zoned {l} {x0 : Nat} (h : Part.among (.pages 0x30 0x34) l) : Zoned l (BUS.CNTOVF.drop1 x0) :=
  Zoned.pagesOf h (by simp only [BUS.CNTOVF.drop1]; omega) (by simp only [BUS.CNTOVF.drop1]; omega) (by simp only [BUS.CNTOVF.drop1]; rcases (show x0 % 4 = 0 ∨ x0 % 4 = 1 ∨ x0 % 4 = 2 ∨ x0 % 4 = 3 by omega) with e | e | e | e <;> rw [e] <;> omega) (.inl (Nat.le_of_ble_eq_true rfl))

theorem BUS.IRQRAW.cnt_ovf_zoned {l} {x0 : Nat} (h : Part.among (.head 0x14) l) : Zoned l (BUS.IRQRAW.cnt_ovf x0) :=
  Zoned.headOf h (by simp only [BUS.IRQRAW.cnt_ovf]; omega) (Nat.le_of_ble_eq_true rfl)

theorem BUS.IRQRAW.rx_drop_zoned {l} {x0 : Nat} (h : Part.among (.head 0x14) l) : Zoned l (BUS.IRQRAW.rx_drop x0) :=
  Zoned.headOf h (by simp only [BUS.IRQRAW.rx_drop]; omega) (Nat.le_of_ble_eq_true rfl)

theorem BUS.IRQRAW.rx0_zoned {l} {x0 : Nat} (h : Part.among (.head 0x14) l) : Zoned l (BUS.IRQRAW.rx0 x0) :=
  Zoned.headOf h (by simp only [BUS.IRQRAW.rx0]; omega) (Nat.le_of_ble_eq_true rfl)

theorem BUS.IRQRAW.rx1_zoned {l} {x0 : Nat} (h : Part.among (.head 0x14) l) : Zoned l (BUS.IRQRAW.rx1 x0) :=
  Zoned.headOf h (by simp only [BUS.IRQRAW.rx1]; omega) (Nat.le_of_ble_eq_true rfl)

theorem BUS.FAULT.rxwrite_zoned {l} {x0 : Nat} (h : Part.among (.head 0x20) l) : Zoned l (BUS.FAULT.rxwrite x0) :=
  Zoned.headOf h (by simp only [BUS.FAULT.rxwrite]; omega) (Nat.le_of_ble_eq_true rfl)

theorem SYS.CFGOWNER.owner_zoned {l} (h : Part.among (.page 0x0) l) : Zoned l (SYS.CFGOWNER.owner) :=
  Zoned.of h (by decide) (by decide)

theorem SEC.FAULT.noimage_zoned {l} (h : Part.among (.head 0x20) l) : Zoned l (SEC.FAULT.noimage) :=
  Zoned.of h (by decide) (by decide)

theorem HDR.CTL.qreq_zoned {l} {x0 : Nat} (h : Part.among (.head 0xC) l) : Zoned l (HDR.CTL.qreq x0) :=
  Zoned.headOf h (by simp only [HDR.CTL.qreq]; omega) (Nat.le_of_ble_eq_true rfl)

theorem DMA.DONE.s_zoned {l} {x0 : Nat} (h : Part.among (.page 0x42) l) : Zoned l (DMA.DONE.s x0) :=
  Zoned.pageOf h (by simp only [DMA.DONE.s]; omega) (by simp only [DMA.DONE.s]; omega) (by simp only [DMA.DONE.s]; omega) (.inl (Nat.le_of_ble_eq_true rfl))

theorem DMA.IRQRAW.done_zoned {l} (h : Part.among (.head 0x14) l) : Zoned l (DMA.IRQRAW.done) :=
  Zoned.of h (by decide) (by decide)

theorem BUS.IRQRAW.busoff_zoned {l} {x0 : Nat} (h : Part.among (.head 0x14) l) : Zoned l (BUS.IRQRAW.busoff x0) :=
  Zoned.headOf h (by simp only [BUS.IRQRAW.busoff]; omega) (Nat.le_of_ble_eq_true rfl)

theorem BUS.FAULT.busoff_zoned {l} {x0 : Nat} (h : Part.among (.head 0x20) l) : Zoned l (BUS.FAULT.busoff x0) :=
  Zoned.headOf h (by simp only [BUS.FAULT.busoff]; omega) (Nat.le_of_ble_eq_true rfl)

theorem BUS.BUSOFFCNT.count_zoned {l} {x0 : Nat} (h : Part.among (.pages 0x30 0x34) l) : Zoned l (BUS.BUSOFFCNT.count x0) :=
  Zoned.pagesOf h (by simp only [BUS.BUSOFFCNT.count]; omega) (by simp only [BUS.BUSOFFCNT.count]; omega) (by simp only [BUS.BUSOFFCNT.count]; rcases (show x0 % 4 = 0 ∨ x0 % 4 = 1 ∨ x0 % 4 = 2 ∨ x0 % 4 = 3 by omega) with e | e | e | e <;> rw [e] <;> omega) (.inl (Nat.le_of_ble_eq_true rfl))

theorem BUS.CNTOVF.busoff_zoned {l} {x0 : Nat} (h : Part.among (.pages 0x30 0x34) l) : Zoned l (BUS.CNTOVF.busoff x0) :=
  Zoned.pagesOf h (by simp only [BUS.CNTOVF.busoff]; omega) (by simp only [BUS.CNTOVF.busoff]; omega) (by simp only [BUS.CNTOVF.busoff]; rcases (show x0 % 4 = 0 ∨ x0 % 4 = 1 ∨ x0 % 4 = 2 ∨ x0 % 4 = 3 by omega) with e | e | e | e <;> rw [e] <;> omega) (.inl (Nat.le_of_ble_eq_true rfl))

theorem modFail_zoned {l} {x0 x1 : Nat} (h : Part.among (.page 0x10) l) : Zoned l (modFail x0 x1) :=
  Zoned.pageOf h (by simp only [modFail, CAL.MODFAIL.count]; omega) (by simp only [modFail, CAL.MODFAIL.count]; omega) (by simp only [modFail, CAL.MODFAIL.count]; omega) (.inr (by simp only [modFail, CAL.MODFAIL.count]; omega))

theorem CAL.BANKSTAT.mode_zoned {l} {x0 : Nat} (h : Part.among (.page 0x10) l) : Zoned l (CAL.BANKSTAT.mode x0) :=
  Zoned.pageOf h (by simp only [CAL.BANKSTAT.mode]; omega) (by simp only [CAL.BANKSTAT.mode]; omega) (by simp only [CAL.BANKSTAT.mode]; omega) (.inl (Nat.le_of_ble_eq_true rfl))

theorem CAL.IRQRAW.lane_change_zoned {l} (h : Part.among (.head 0x14) l) : Zoned l (CAL.IRQRAW.lane_change) :=
  Zoned.of h (by decide) (by decide)

theorem CAL.IRQRAW.ch_retired_zoned {l} (h : Part.among (.head 0x14) l) : Zoned l (CAL.IRQRAW.ch_retired) :=
  Zoned.of h (by decide) (by decide)

theorem CAL.STORESTAT.valid_zoned {l} (h : Part.among (.page 0x10) l) : Zoned l (CAL.STORESTAT.valid) :=
  Zoned.of h (by decide) (by decide)

theorem CAL.IRQRAW.store_repair_zoned {l} (h : Part.among (.head 0x14) l) : Zoned l (CAL.IRQRAW.store_repair) :=
  Zoned.of h (by decide) (by decide)

theorem CAL.FAULT.store_zoned {l} (h : Part.among (.head 0x20) l) : Zoned l (CAL.FAULT.store) :=
  Zoned.of h (by decide) (by decide)

theorem HDR.IRQRAW_zoned {l} {x0 : Nat} (h : Part.among (.head 0x14) l) : Zoned l (HDR.IRQRAW x0) :=
  Zoned.headOf h (by simp only [HDR.IRQRAW]; omega) (Nat.le_of_ble_eq_true rfl)

theorem HDR.IRQEN_zoned {l} {x0 : Nat} (h : Part.among (.head 0x18) l) : Zoned l (HDR.IRQEN x0) :=
  Zoned.headOf h (by simp only [HDR.IRQEN]; omega) (Nat.le_of_ble_eq_true rfl)

theorem HDR.FAULT_zoned {l} {x0 : Nat} (h : Part.among (.head 0x20) l) : Zoned l (HDR.FAULT x0) :=
  Zoned.headOf h (by simp only [HDR.FAULT]; omega) (Nat.le_of_ble_eq_true rfl)

theorem HDR.SHCRC_zoned {l} {x0 : Nat} (h : Part.among (.head 0x28) l) : Zoned l (HDR.SHCRC x0) :=
  Zoned.headOf h (by simp only [HDR.SHCRC]; omega) (Nat.le_of_ble_eq_true rfl)

theorem HDR.QTIMEOUT_zoned {l} {x0 : Nat} (h : Part.among (.head 0x38) l) : Zoned l (HDR.QTIMEOUT x0) :=
  Zoned.headOf h (by simp only [HDR.QTIMEOUT]; omega) (Nat.le_of_ble_eq_true rfl)

theorem HDR.SCRATCH_zoned {l} {x0 : Nat} (h : Part.among (.head 0x3C) l) : Zoned l (HDR.SCRATCH x0) :=
  Zoned.headOf h (by simp only [HDR.SCRATCH]; omega) (Nat.le_of_ble_eq_true rfl)

theorem BUS.FAULT.txown_zoned {l} {x0 : Nat} (h : Part.among (.head 0x20) l) : Zoned l (BUS.FAULT.txown x0) :=
  Zoned.headOf h (by simp only [BUS.FAULT.txown]; omega) (Nat.le_of_ble_eq_true rfl)

theorem BUS.FAULT.txwrite_zoned {l} {x0 : Nat} (h : Part.among (.head 0x20) l) : Zoned l (BUS.FAULT.txwrite x0) :=
  Zoned.headOf h (by simp only [BUS.FAULT.txwrite]; omega) (Nat.le_of_ble_eq_true rfl)

theorem UIO.SET.set__zoned {l} {x0 : Nat} (h : Part.among (.page 0x18) l) : Zoned l (UIO.SET.set_ x0) :=
  Zoned.pageOf h (by simp only [UIO.SET.set_]; omega) (by simp only [UIO.SET.set_]; omega) (by simp only [UIO.SET.set_]; omega) (.inl (Nat.le_of_ble_eq_true rfl))

theorem DMA.SCTL.refused_zoned {l} {x0 : Nat} (h : Part.among (.page 0x42) l) : Zoned l (DMA.SCTL.refused x0) :=
  Zoned.pageOf h (by simp only [DMA.SCTL.refused]; omega) (by simp only [DMA.SCTL.refused]; omega) (by simp only [DMA.SCTL.refused]; omega) (.inl (Nat.le_of_ble_eq_true rfl))

theorem DMA.SCTL.already_done_zoned {l} {x0 : Nat} (h : Part.among (.page 0x42) l) : Zoned l (DMA.SCTL.already_done x0) :=
  Zoned.pageOf h (by simp only [DMA.SCTL.already_done]; omega) (by simp only [DMA.SCTL.already_done]; omega) (by simp only [DMA.SCTL.already_done]; omega) (.inl (Nat.le_of_ble_eq_true rfl))

theorem DMA.IRQRAW.aborted_zoned {l} (h : Part.among (.head 0x14) l) : Zoned l (DMA.IRQRAW.aborted) :=
  Zoned.of h (by decide) (by decide)

theorem SYS.IMGSTAT.reason_zoned {l} (h : Part.among (.page 0x0) l) : Zoned l (SYS.IMGSTAT.reason) :=
  Zoned.of h (by decide) (by decide)

theorem SYS.IMGSTAT.state_zoned {l} (h : Part.among (.page 0x0) l) : Zoned l (SYS.IMGSTAT.state) :=
  Zoned.of h (by decide) (by decide)

theorem SYS.IMGSTAT.page_zoned {l} (h : Part.among (.page 0x0) l) : Zoned l (SYS.IMGSTAT.page) :=
  Zoned.of h (by decide) (by decide)

theorem SYS.IMGCODE.code_zoned {l} (h : Part.among (.page 0x0) l) : Zoned l (SYS.IMGCODE.code) :=
  Zoned.of h (by decide) (by decide)

theorem PWR.GOVLIM.mw_zoned {l} (h : Part.among (.page 0x1) l) : Zoned l (PWR.GOVLIM.mw) :=
  Zoned.of h (by decide) (by decide)

theorem PWR.CMDSTAT.state_zoned {l} (h : Part.among (.page 0x1) l) : Zoned l (PWR.CMDSTAT.state) :=
  Zoned.of h (by decide) (by decide)

theorem PWR.CMDSTAT.reason_zoned {l} (h : Part.among (.page 0x1) l) : Zoned l (PWR.CMDSTAT.reason) :=
  Zoned.of h (by decide) (by decide)

theorem PWR.SHED4CNT.count_zoned {l} (h : Part.among (.page 0x1) l) : Zoned l (PWR.SHED4CNT.count) :=
  Zoned.of h (by decide) (by decide)

theorem PWR.CNTOVF.shed4_zoned {l} (h : Part.among (.page 0x1) l) : Zoned l (PWR.CNTOVF.shed4) :=
  Zoned.of h (by decide) (by decide)

theorem PWR.IRQRAW.cnt_ovf_zoned {l} (h : Part.among (.head 0x14) l) : Zoned l (PWR.IRQRAW.cnt_ovf) :=
  Zoned.of h (by decide) (by decide)

theorem PWR.STAT.saving_zoned {l} (h : Part.among (.page 0x1) l) : Zoned l (PWR.STAT.saving) :=
  Zoned.of h (by decide) (by decide)

theorem REC.FAULT.logwr_zoned {l} (h : Part.among (.head 0x20) l) : Zoned l (REC.FAULT.logwr) :=
  Zoned.of h (by decide) (by decide)

theorem REC.LOGEND.offset_zoned {l} (h : Part.among (.page 0x49) l) : Zoned l (REC.LOGEND.offset) :=
  Zoned.of h (by decide) (by decide)

theorem REC.IRQRAW.record_zoned {l} (h : Part.among (.head 0x14) l) : Zoned l (REC.IRQRAW.record) :=
  Zoned.of h (by decide) (by decide)

theorem REC.IRQRAW.log_full_zoned {l} (h : Part.among (.head 0x14) l) : Zoned l (REC.IRQRAW.log_full) :=
  Zoned.of h (by decide) (by decide)

theorem RST.CFG.sup_s_zoned {l} (h : Part.among (.page 0x3) l) : Zoned l (RST.CFG.sup_s) :=
  Zoned.of h (by decide) (by decide)

theorem RST.CMDSTAT.state_zoned {l} (h : Part.among (.page 0x3) l) : Zoned l (RST.CMDSTAT.state) :=
  Zoned.of h (by decide) (by decide)

theorem RST.CMDSTAT.reason_zoned {l} (h : Part.among (.page 0x3) l) : Zoned l (RST.CMDSTAT.reason) :=
  Zoned.of h (by decide) (by decide)

theorem RST.FAULT.notres_zoned {l} (h : Part.among (.head 0x20) l) : Zoned l (RST.FAULT.notres) :=
  Zoned.of h (by decide) (by decide)

theorem RST.LAST.domain_zoned {l} (h : Part.among (.page 0x3) l) : Zoned l (RST.LAST.domain) :=
  Zoned.of h (by decide) (by decide)

theorem CAL.FCALSTAT.state_zoned {l} (h : Part.among (.page 0x10) l) : Zoned l (CAL.FCALSTAT.state) :=
  Zoned.of h (by decide) (by decide)

theorem CAL.FCALSTAT.reason_zoned {l} (h : Part.among (.page 0x10) l) : Zoned l (CAL.FCALSTAT.reason) :=
  Zoned.of h (by decide) (by decide)

theorem CAL.IRQRAW.fcal_zoned {l} (h : Part.among (.head 0x14) l) : Zoned l (CAL.IRQRAW.fcal) :=
  Zoned.of h (by decide) (by decide)

theorem CAL.FCALSTAT.already_done_zoned {l} (h : Part.among (.page 0x10) l) : Zoned l (CAL.FCALSTAT.already_done) :=
  Zoned.of h (by decide) (by decide)

theorem ARITH.TESTCTL.ch_zoned {l} (h : Part.among (.page 0x11) l) : Zoned l (ARITH.TESTCTL.ch) :=
  Zoned.of h (by decide) (by decide)

theorem ARITH.TESTCTL.busy_zoned {l} (h : Part.among (.page 0x11) l) : Zoned l (ARITH.TESTCTL.busy) :=
  Zoned.of h (by decide) (by decide)

theorem ALM.NQREL.index_zoned {l} (h : Part.among (.page 0x20) l) : Zoned l (ALM.NQREL.index) :=
  Zoned.of h (by decide) (by decide)

theorem TSYNC.IRQRAW.cmd_refused_zoned {l} (h : Part.among (.head 0x14) l) : Zoned l (TSYNC.IRQRAW.cmd_refused) :=
  Zoned.of h (by decide) (by decide)

theorem DMA.RRREL.index_zoned {l} (h : Part.among (.page 0x42) l) : Zoned l (DMA.RRREL.index) :=
  Zoned.of h (by decide) (by decide)

theorem NVM.CMDSTAT.already_done_zoned {l} (h : Part.among (.page 0x48) l) : Zoned l (NVM.CMDSTAT.already_done) :=
  Zoned.of h (by decide) (by decide)

theorem NVM.IRQRAW.cmd_done_zoned {l} (h : Part.among (.head 0x14) l) : Zoned l (NVM.IRQRAW.cmd_done) :=
  Zoned.of h (by decide) (by decide)

theorem NVM.CMDSTAT.reason_zoned {l} (h : Part.among (.page 0x48) l) : Zoned l (NVM.CMDSTAT.reason) :=
  Zoned.of h (by decide) (by decide)

theorem NVM.IRQRAW.cmd_refused_zoned {l} (h : Part.among (.head 0x14) l) : Zoned l (NVM.IRQRAW.cmd_refused) :=
  Zoned.of h (by decide) (by decide)

theorem REC.HSEL.ch_zoned {l} (h : Part.among (.page 0x49) l) : Zoned l (REC.HSEL.ch) :=
  Zoned.of h (by decide) (by decide)

theorem REC.HWIN.bytes_zoned {l} {x0 : Nat} (h : Part.among (.page 0x49) l) : Zoned l (REC.HWIN.bytes x0) :=
  Zoned.pageOf h (by simp only [REC.HWIN.bytes]; omega) (by simp only [REC.HWIN.bytes]; omega) (by simp only [REC.HWIN.bytes]; omega) (.inl (Nat.le_of_ble_eq_true rfl))

theorem RTC.CMDSTAT.reason_zoned {l} (h : Part.among (.page 0x50) l) : Zoned l (RTC.CMDSTAT.reason) :=
  Zoned.of h (by decide) (by decide)

theorem RTC.CMDSTAT.state_zoned {l} (h : Part.among (.page 0x50) l) : Zoned l (RTC.CMDSTAT.state) :=
  Zoned.of h (by decide) (by decide)

theorem RTC.STAT.osf_zoned {l} (h : Part.among (.page 0x50) l) : Zoned l (RTC.STAT.osf) :=
  Zoned.of h (by decide) (by decide)

theorem RTC.TRIM.n_zoned {l} (h : Part.among (.page 0x50) l) : Zoned l (RTC.TRIM.n) :=
  Zoned.of h (by decide) (by decide)

theorem KEYV.STAT.valid_zoned {l} (h : Part.among (.page 0x59) l) : Zoned l (KEYV.STAT.valid) :=
  Zoned.of h (by decide) (by decide)

theorem KEYV.KCV.kcv_zoned {l} {x0 : Nat} (h : Part.among (.page 0x59) l) : Zoned l (KEYV.KCV.kcv x0) :=
  Zoned.pageOf h (by simp only [KEYV.KCV.kcv]; omega) (by simp only [KEYV.KCV.kcv]; omega) (by simp only [KEYV.KCV.kcv]; omega) (.inl (Nat.le_of_ble_eq_true rfl))

theorem KEYV.CMDSTAT.state_zoned {l} (h : Part.among (.page 0x59) l) : Zoned l (KEYV.CMDSTAT.state) :=
  Zoned.of h (by decide) (by decide)

theorem KEYV.CMDSTAT.reason_zoned {l} (h : Part.among (.page 0x59) l) : Zoned l (KEYV.CMDSTAT.reason) :=
  Zoned.of h (by decide) (by decide)

theorem KEYV.IRQRAW.loaded_zoned {l} (h : Part.among (.head 0x14) l) : Zoned l (KEYV.IRQRAW.loaded) :=
  Zoned.of h (by decide) (by decide)

theorem TAMP.STAT.erasing_zoned {l} (h : Part.among (.page 0x5A) l) : Zoned l (TAMP.STAT.erasing) :=
  Zoned.of h (by decide) (by decide)

theorem KEYV.STAT.erased_zoned {l} (h : Part.among (.page 0x59) l) : Zoned l (KEYV.STAT.erased) :=
  Zoned.of h (by decide) (by decide)

theorem KEYV.ERASECNT.count_zoned {l} (h : Part.among (.page 0x59) l) : Zoned l (KEYV.ERASECNT.count) :=
  Zoned.of h (by decide) (by decide)

theorem KEYV.CNTOVF.erase_zoned {l} (h : Part.among (.page 0x59) l) : Zoned l (KEYV.CNTOVF.erase) :=
  Zoned.of h (by decide) (by decide)

theorem KEYV.IRQRAW.cnt_event_zoned {l} (h : Part.among (.head 0x14) l) : Zoned l (KEYV.IRQRAW.cnt_event) :=
  Zoned.of h (by decide) (by decide)

theorem KEYV.IRQRAW.erased_zoned {l} (h : Part.among (.head 0x14) l) : Zoned l (KEYV.IRQRAW.erased) :=
  Zoned.of h (by decide) (by decide)

theorem KEYV.FAULT.erased_zoned {l} (h : Part.among (.head 0x20) l) : Zoned l (KEYV.FAULT.erased) :=
  Zoned.of h (by decide) (by decide)

theorem TAMP.FAULT.erase_zoned {l} (h : Part.among (.head 0x20) l) : Zoned l (TAMP.FAULT.erase) :=
  Zoned.of h (by decide) (by decide)

theorem BKPM.STAT.erased_zoned {l} (h : Part.among (.page 0x51) l) : Zoned l (BKPM.STAT.erased) :=
  Zoned.of h (by decide) (by decide)

theorem MSG.FRAGDROP.count_zoned {l} (h : Part.among (.page 0x34) l) : Zoned l (MSG.FRAGDROP.count) :=
  Zoned.of h (by decide) (by decide)

theorem MSG.CNTOVF.frag_zoned {l} (h : Part.among (.page 0x34) l) : Zoned l (MSG.CNTOVF.frag) :=
  Zoned.of h (by decide) (by decide)

theorem MSG.IRQRAW.frag_drop_zoned {l} (h : Part.among (.head 0x14) l) : Zoned l (MSG.IRQRAW.frag_drop) :=
  Zoned.of h (by decide) (by decide)

theorem CAL.IRQRAW.mod_retired_zoned {l} (h : Part.among (.head 0x14) l) : Zoned l (CAL.IRQRAW.mod_retired) :=
  Zoned.of h (by decide) (by decide)

theorem LAP.WAKESRC.src_zoned {l} (h : Part.among (.page 0x4) l) : Zoned l (LAP.WAKESRC.src) :=
  Zoned.of h (by decide) (by decide)

theorem LAP.IRQRAW.wake_zoned {l} (h : Part.among (.head 0x14) l) : Zoned l (LAP.IRQRAW.wake) :=
  Zoned.of h (by decide) (by decide)

theorem PAIR.STAT.evidence_zoned {l} (h : Part.among (.page 0x38) l) : Zoned l (PAIR.STAT.evidence) :=
  Zoned.of h (by decide) (by decide)

theorem CAL.OVLDIFF.ppb_zoned {l} {x0 : Nat} (h : Part.among (.page 0x10) l) : Zoned l (CAL.OVLDIFF.ppb x0) :=
  Zoned.pageOf h (by simp only [CAL.OVLDIFF.ppb]; omega) (by simp only [CAL.OVLDIFF.ppb]; omega) (by simp only [CAL.OVLDIFF.ppb]; omega) (.inl (Nat.le_of_ble_eq_true rfl))

theorem CAL.REPEATCNT.count_zoned {l} (h : Part.among (.page 0x10) l) : Zoned l (CAL.REPEATCNT.count) :=
  Zoned.of h (by decide) (by decide)

theorem CAL.CNTOVF.repeat_zoned {l} (h : Part.among (.page 0x10) l) : Zoned l (CAL.CNTOVF.repeat) :=
  Zoned.of h (by decide) (by decide)

theorem CAL.IRQRAW.cnt_event_zoned {l} (h : Part.among (.head 0x14) l) : Zoned l (CAL.IRQRAW.cnt_event) :=
  Zoned.of h (by decide) (by decide)

theorem CAL.FAULT.storewr_zoned {l} (h : Part.among (.head 0x20) l) : Zoned l (CAL.FAULT.storewr) :=
  Zoned.of h (by decide) (by decide)

theorem JKT.FAULT.cfgecho_zoned {l} (h : Part.among (.head 0x20) l) : Zoned l (JKT.FAULT.cfgecho) :=
  Zoned.of h (by decide) (by decide)

theorem PWR.OPTIME.ms_zoned {l} (h : Part.among (.page 0x1) l) : Zoned l (PWR.OPTIME.ms) :=
  Zoned.of h (by decide) (by decide)

theorem PWR.STAT.opt_ovf_zoned {l} (h : Part.among (.page 0x1) l) : Zoned l (PWR.STAT.opt_ovf) :=
  Zoned.of h (by decide) (by decide)

theorem PWR.IRQRAW.cnt_event_zoned {l} (h : Part.among (.head 0x14) l) : Zoned l (PWR.IRQRAW.cnt_event) :=
  Zoned.of h (by decide) (by decide)

theorem PAIR.SPLITCNT.count_zoned {l} (h : Part.among (.page 0x38) l) : Zoned l (PAIR.SPLITCNT.count) :=
  Zoned.of h (by decide) (by decide)

theorem PAIR.CNTOVF.split_zoned {l} (h : Part.among (.page 0x38) l) : Zoned l (PAIR.CNTOVF.split) :=
  Zoned.of h (by decide) (by decide)

theorem PAIR.IRQRAW.split_zoned {l} (h : Part.among (.head 0x14) l) : Zoned l (PAIR.IRQRAW.split) :=
  Zoned.of h (by decide) (by decide)

theorem PAIR.FAULT.split_zoned {l} (h : Part.among (.head 0x20) l) : Zoned l (PAIR.FAULT.split) :=
  Zoned.of h (by decide) (by decide)

theorem PWR.STAT.level_zoned {l} (h : Part.among (.page 0x1) l) : Zoned l (PWR.STAT.level) :=
  Zoned.of h (by decide) (by decide)

theorem PWR.IRQRAW.level_down_zoned {l} (h : Part.among (.head 0x14) l) : Zoned l (PWR.IRQRAW.level_down) :=
  Zoned.of h (by decide) (by decide)

theorem ARITH.SATCNT.count_zoned {l} (h : Part.among (.page 0x11) l) : Zoned l (ARITH.SATCNT.count) :=
  Zoned.of h (by decide) (by decide)

theorem ARITH.CNTOVF.sat_zoned {l} (h : Part.among (.page 0x11) l) : Zoned l (ARITH.CNTOVF.sat) :=
  Zoned.of h (by decide) (by decide)

theorem ARITH.IRQRAW.sat_zoned {l} (h : Part.among (.head 0x14) l) : Zoned l (ARITH.IRQRAW.sat) :=
  Zoned.of h (by decide) (by decide)

theorem ARITH.DOMCNT.count_zoned {l} (h : Part.among (.page 0x11) l) : Zoned l (ARITH.DOMCNT.count) :=
  Zoned.of h (by decide) (by decide)

theorem ARITH.CNTOVF.dom_zoned {l} (h : Part.among (.page 0x11) l) : Zoned l (ARITH.CNTOVF.dom) :=
  Zoned.of h (by decide) (by decide)

theorem ARITH.IRQRAW.dom_zoned {l} (h : Part.among (.head 0x14) l) : Zoned l (ARITH.IRQRAW.dom) :=
  Zoned.of h (by decide) (by decide)

theorem ARITH.NE43FLT.ch_zoned {l} {x0 : Nat} (h : Part.among (.page 0x11) l) : Zoned l (ARITH.NE43FLT.ch x0) :=
  Zoned.pageOf h (by simp only [ARITH.NE43FLT.ch]; omega) (by simp only [ARITH.NE43FLT.ch]; omega) (by simp only [ARITH.NE43FLT.ch]; omega) (.inl (Nat.le_of_ble_eq_true rfl))

theorem JKT.IRQRAW.evt_ovf_zoned {l} (h : Part.among (.head 0x14) l) : Zoned l (JKT.IRQRAW.evt_ovf) :=
  Zoned.of h (by decide) (by decide)

theorem JKT.LATECNT.count_zoned {l} (h : Part.among (.page 0x1A) l) : Zoned l (JKT.LATECNT.count) :=
  Zoned.of h (by decide) (by decide)

theorem JKT.CNTOVF.late_zoned {l} (h : Part.among (.page 0x1A) l) : Zoned l (JKT.CNTOVF.late) :=
  Zoned.of h (by decide) (by decide)

theorem JKT.IRQRAW.cnt_ovf_zoned {l} (h : Part.among (.head 0x14) l) : Zoned l (JKT.IRQRAW.cnt_ovf) :=
  Zoned.of h (by decide) (by decide)

theorem DIO.STAMP.stime_zoned {l} {x0 : Nat} (h : Part.among (.page 0x19) l) : Zoned l (DIO.STAMP.stime x0) :=
  Zoned.pageOf h (by simp only [DIO.STAMP.stime]; omega) (by simp only [DIO.STAMP.stime]; omega) (by simp only [DIO.STAMP.stime]; omega) (.inr (by simp only [DIO.STAMP.stime]; omega))

theorem DIO.IRQRAW.in_change_zoned {l} (h : Part.among (.head 0x14) l) : Zoned l (DIO.IRQRAW.in_change) :=
  Zoned.of h (by decide) (by decide)

theorem JKT.FAULT.evtovf_zoned {l} (h : Part.among (.head 0x20) l) : Zoned l (JKT.FAULT.evtovf) :=
  Zoned.of h (by decide) (by decide)

theorem JKT.ERRCNT.count_zoned {l} (h : Part.among (.page 0x1A) l) : Zoned l (JKT.ERRCNT.count) :=
  Zoned.of h (by decide) (by decide)

theorem JKT.CNTOVF.err_zoned {l} (h : Part.among (.page 0x1A) l) : Zoned l (JKT.CNTOVF.err) :=
  Zoned.of h (by decide) (by decide)

theorem MSG.LASTREJ.source_zoned {l} (h : Part.among (.page 0x34) l) : Zoned l (MSG.LASTREJ.source) :=
  Zoned.of h (by decide) (by decide)

theorem MSG.LASTREJ.type__zoned {l} (h : Part.among (.page 0x34) l) : Zoned l (MSG.LASTREJ.type_) :=
  Zoned.of h (by decide) (by decide)

theorem MSG.LASTREJ.reason_zoned {l} (h : Part.among (.page 0x34) l) : Zoned l (MSG.LASTREJ.reason) :=
  Zoned.of h (by decide) (by decide)

theorem MSG.IRQRAW.rx_reject_zoned {l} (h : Part.among (.head 0x14) l) : Zoned l (MSG.IRQRAW.rx_reject) :=
  Zoned.of h (by decide) (by decide)

theorem TSYNC.FAULT.hops_zoned {l} (h : Part.among (.head 0x20) l) : Zoned l (TSYNC.FAULT.hops) :=
  Zoned.of h (by decide) (by decide)

theorem TSYNC.OFFSET.us_zoned {l} (h : Part.among (.page 0x35) l) : Zoned l (TSYNC.OFFSET.us) :=
  Zoned.of h (by decide) (by decide)

theorem TSYNC.STATE.net_zoned {l} (h : Part.among (.page 0x35) l) : Zoned l (TSYNC.STATE.net) :=
  Zoned.of h (by decide) (by decide)

theorem TSYNC.SYNCCNT.count_zoned {l} (h : Part.among (.page 0x35) l) : Zoned l (TSYNC.SYNCCNT.count) :=
  Zoned.of h (by decide) (by decide)

theorem TSYNC.IRQRAW.locked_zoned {l} (h : Part.among (.head 0x14) l) : Zoned l (TSYNC.IRQRAW.locked) :=
  Zoned.of h (by decide) (by decide)

theorem TSYNC.FREQ.ppb_zoned {l} (h : Part.among (.page 0x35) l) : Zoned l (TSYNC.FREQ.ppb) :=
  Zoned.of h (by decide) (by decide)

theorem TSYNC.ADJ.ppb_zoned {l} (h : Part.among (.page 0x35) l) : Zoned l (TSYNC.ADJ.ppb) :=
  Zoned.of h (by decide) (by decide)

theorem TSYNC.FAULT.step_zoned {l} (h : Part.among (.head 0x20) l) : Zoned l (TSYNC.FAULT.step) :=
  Zoned.of h (by decide) (by decide)

theorem ARITH.NE43CNT.count_zoned {l} (h : Part.among (.page 0x11) l) : Zoned l (ARITH.NE43CNT.count) :=
  Zoned.of h (by decide) (by decide)

theorem ARITH.CNTOVF.ne43_zoned {l} (h : Part.among (.page 0x11) l) : Zoned l (ARITH.CNTOVF.ne43) :=
  Zoned.of h (by decide) (by decide)

theorem ARITH.IRQRAW.ne43_zoned {l} (h : Part.among (.head 0x14) l) : Zoned l (ARITH.IRQRAW.ne43) :=
  Zoned.of h (by decide) (by decide)

theorem ARITH.CJFBCNT.count_zoned {l} (h : Part.among (.page 0x11) l) : Zoned l (ARITH.CJFBCNT.count) :=
  Zoned.of h (by decide) (by decide)

theorem ARITH.CNTOVF.cjfb_zoned {l} (h : Part.among (.page 0x11) l) : Zoned l (ARITH.CNTOVF.cjfb) :=
  Zoned.of h (by decide) (by decide)

theorem ARITH.IRQRAW.cj_fallback_zoned {l} (h : Part.among (.head 0x14) l) : Zoned l (ARITH.IRQRAW.cj_fallback) :=
  Zoned.of h (by decide) (by decide)

theorem ARITH.ITERCNT.count_zoned {l} (h : Part.among (.page 0x11) l) : Zoned l (ARITH.ITERCNT.count) :=
  Zoned.of h (by decide) (by decide)

theorem ARITH.CNTOVF.iter_zoned {l} (h : Part.among (.page 0x11) l) : Zoned l (ARITH.CNTOVF.iter) :=
  Zoned.of h (by decide) (by decide)

theorem ARITH.FAULT.iterlim_zoned {l} (h : Part.among (.head 0x20) l) : Zoned l (ARITH.FAULT.iterlim) :=
  Zoned.of h (by decide) (by decide)

theorem ARITH.FAULT.slot_zoned {l} (h : Part.among (.head 0x20) l) : Zoned l (ARITH.FAULT.slot) :=
  Zoned.of h (by decide) (by decide)

theorem AFE.IRQRAW.short_zoned {l} {x0 : Nat} (h : Part.among (.head 0x14) l) : Zoned l (AFE.IRQRAW.short x0) :=
  Zoned.headOf h (by simp only [AFE.IRQRAW.short]; omega) (Nat.le_of_ble_eq_true rfl)

theorem MSG.FWDCNT.count_zoned {l} (h : Part.among (.page 0x34) l) : Zoned l (MSG.FWDCNT.count) :=
  Zoned.of h (by decide) (by decide)

theorem MSG.STAT.dupaddr_zoned {l} (h : Part.among (.page 0x34) l) : Zoned l (MSG.STAT.dupaddr) :=
  Zoned.of h (by decide) (by decide)

theorem MSG.FAULT.dupaddr_zoned {l} (h : Part.among (.head 0x20) l) : Zoned l (MSG.FAULT.dupaddr) :=
  Zoned.of h (by decide) (by decide)

theorem MSG.IRQRAW.dupaddr_zoned {l} (h : Part.among (.head 0x14) l) : Zoned l (MSG.IRQRAW.dupaddr) :=
  Zoned.of h (by decide) (by decide)

theorem PAIR.STAT.lanes_zoned {l} (h : Part.among (.page 0x38) l) : Zoned l (PAIR.STAT.lanes) :=
  Zoned.of h (by decide) (by decide)

theorem PAIR.STAT.link_zoned {l} (h : Part.among (.page 0x38) l) : Zoned l (PAIR.STAT.link) :=
  Zoned.of h (by decide) (by decide)

theorem PAIR.IRQRAW.link_up_zoned {l} (h : Part.among (.head 0x14) l) : Zoned l (PAIR.IRQRAW.link_up) :=
  Zoned.of h (by decide) (by decide)

theorem PAIR.IRQRAW.link_lost_zoned {l} (h : Part.among (.head 0x14) l) : Zoned l (PAIR.IRQRAW.link_lost) :=
  Zoned.of h (by decide) (by decide)

theorem PAIR.STAT.aligned_zoned {l} (h : Part.among (.page 0x38) l) : Zoned l (PAIR.STAT.aligned) :=
  Zoned.of h (by decide) (by decide)

theorem PAIR.STAT.partner_zoned {l} (h : Part.among (.page 0x38) l) : Zoned l (PAIR.STAT.partner) :=
  Zoned.of h (by decide) (by decide)

theorem PAIR.FAULT.degraded_zoned {l} (h : Part.among (.head 0x20) l) : Zoned l (PAIR.FAULT.degraded) :=
  Zoned.of h (by decide) (by decide)

theorem PWR.FAULT.holdup_zoned {l} (h : Part.among (.head 0x20) l) : Zoned l (PWR.FAULT.holdup) :=
  Zoned.of h (by decide) (by decide)

theorem PWR.IRQRAW.restore_done_zoned {l} (h : Part.among (.head 0x14) l) : Zoned l (PWR.IRQRAW.restore_done) :=
  Zoned.of h (by decide) (by decide)

theorem PAIR.HANDOVERCNT.count_zoned {l} (h : Part.among (.page 0x38) l) : Zoned l (PAIR.HANDOVERCNT.count) :=
  Zoned.of h (by decide) (by decide)

theorem PAIR.IRQRAW.handover_zoned {l} (h : Part.among (.head 0x14) l) : Zoned l (PAIR.IRQRAW.handover) :=
  Zoned.of h (by decide) (by decide)

theorem HOST.FRAMES.count_zoned {l} (h : Part.among (.page 0x60) l) : Zoned l (HOST.FRAMES.count) :=
  Zoned.of h (by decide) (by decide)

theorem HOST.CRCERR.count_zoned {l} (h : Part.among (.page 0x60) l) : Zoned l (HOST.CRCERR.count) :=
  Zoned.of h (by decide) (by decide)

theorem HOST.CNTOVF.crcerr_zoned {l} (h : Part.among (.page 0x60) l) : Zoned l (HOST.CNTOVF.crcerr) :=
  Zoned.of h (by decide) (by decide)

theorem HOST.LASTERR.status_zoned {l} (h : Part.among (.page 0x60) l) : Zoned l (HOST.LASTERR.status) :=
  Zoned.of h (by decide) (by decide)

theorem HOST.LASTADDR.addr_zoned {l} (h : Part.among (.page 0x60) l) : Zoned l (HOST.LASTADDR.addr) :=
  Zoned.of h (by decide) (by decide)

theorem JKT.IRQRAW.restored_zoned {l} (h : Part.among (.head 0x14) l) : Zoned l (JKT.IRQRAW.restored) :=
  Zoned.of h (by decide) (by decide)

theorem CAL.BANKSTAT.srcfail_zoned {l} {x0 : Nat} (h : Part.among (.page 0x10) l) : Zoned l (CAL.BANKSTAT.srcfail x0) :=
  Zoned.pageOf h (by simp only [CAL.BANKSTAT.srcfail]; omega) (by simp only [CAL.BANKSTAT.srcfail]; omega) (by simp only [CAL.BANKSTAT.srcfail]; omega) (.inl (Nat.le_of_ble_eq_true rfl))

theorem CAL.IRQRAW.src_fail_zoned {l} (h : Part.among (.head 0x14) l) : Zoned l (CAL.IRQRAW.src_fail) :=
  Zoned.of h (by decide) (by decide)

theorem AFE.FAULT.iexa_zoned {l} {x0 : Nat} (h : Part.among (.head 0x20) l) : Zoned l (AFE.FAULT.iexa x0) :=
  Zoned.headOf h (by simp only [AFE.FAULT.iexa]; omega) (Nat.le_of_ble_eq_true rfl)

theorem AFE.FAULT.iexb_zoned {l} {x0 : Nat} (h : Part.among (.head 0x20) l) : Zoned l (AFE.FAULT.iexb x0) :=
  Zoned.headOf h (by simp only [AFE.FAULT.iexb]; omega) (Nat.le_of_ble_eq_true rfl)

theorem ARITH.MODT.valid_zoned {l} (h : Part.among (.page 0x11) l) : Zoned l (ARITH.MODT.valid) :=
  Zoned.of h (by decide) (by decide)

theorem ARITH.MODT.temp_mk_zoned {l} (h : Part.among (.page 0x11) l) : Zoned l (ARITH.MODT.temp_mk) :=
  Zoned.of h (by decide) (by decide)

theorem ARITH.FAULT.modt_zoned {l} (h : Part.among (.head 0x20) l) : Zoned l (ARITH.FAULT.modt) :=
  Zoned.of h (by decide) (by decide)

theorem TSYNC.STEPCNT.count_zoned {l} (h : Part.among (.page 0x35) l) : Zoned l (TSYNC.STEPCNT.count) :=
  Zoned.of h (by decide) (by decide)

theorem TSYNC.CNTOVF.step_zoned {l} (h : Part.among (.page 0x35) l) : Zoned l (TSYNC.CNTOVF.step) :=
  Zoned.of h (by decide) (by decide)

theorem TSYNC.IRQRAW.cnt_event_zoned {l} (h : Part.among (.head 0x14) l) : Zoned l (TSYNC.IRQRAW.cnt_event) :=
  Zoned.of h (by decide) (by decide)

theorem TSYNC.IRQRAW.step_zoned {l} (h : Part.among (.head 0x14) l) : Zoned l (TSYNC.IRQRAW.step) :=
  Zoned.of h (by decide) (by decide)

theorem LAP.COUNT.count_zoned {l} (h : Part.among (.page 0x4) l) : Zoned l (LAP.COUNT.count) :=
  Zoned.of h (by decide) (by decide)

theorem LAP.OVRCNT.count_zoned {l} (h : Part.among (.page 0x4) l) : Zoned l (LAP.OVRCNT.count) :=
  Zoned.of h (by decide) (by decide)

theorem LAP.CNTOVF.ovr_zoned {l} (h : Part.among (.page 0x4) l) : Zoned l (LAP.CNTOVF.ovr) :=
  Zoned.of h (by decide) (by decide)

theorem LAP.IRQRAW.cnt_ovf_zoned {l} (h : Part.among (.head 0x14) l) : Zoned l (LAP.IRQRAW.cnt_ovf) :=
  Zoned.of h (by decide) (by decide)

theorem LAP.LATE.us_zoned {l} (h : Part.among (.page 0x4) l) : Zoned l (LAP.LATE.us) :=
  Zoned.of h (by decide) (by decide)

theorem LAP.IRQRAW.overrun_zoned {l} (h : Part.among (.head 0x14) l) : Zoned l (LAP.IRQRAW.overrun) :=
  Zoned.of h (by decide) (by decide)

theorem PWR.IRQRAW.level_up_zoned {l} (h : Part.among (.head 0x14) l) : Zoned l (PWR.IRQRAW.level_up) :=
  Zoned.of h (by decide) (by decide)

theorem AFE.FAULT.sched_zoned {l} {x0 : Nat} (h : Part.among (.head 0x20) l) : Zoned l (AFE.FAULT.sched x0) :=
  Zoned.headOf h (by simp only [AFE.FAULT.sched]; omega) (Nat.le_of_ble_eq_true rfl)

theorem AFE.LEADR.f_uohm_zoned {l} {x0 x1 : Nat} (h : Part.among (.pages 0x8 0x10) l) : Zoned l (AFE.LEADR.f_uohm x0 x1) :=
  Zoned.pagesOf h (by simp only [AFE.LEADR.f_uohm]; omega) (by simp only [AFE.LEADR.f_uohm]; omega) (by simp only [AFE.LEADR.f_uohm]; omega) (.inl (Nat.le_of_ble_eq_true rfl))

theorem AFE.LEADREJCNT.count_zoned {l} {x0 : Nat} (h : Part.among (.pages 0x8 0x10) l) : Zoned l (AFE.LEADREJCNT.count x0) :=
  Zoned.pagesOf h (by simp only [AFE.LEADREJCNT.count]; omega) (by simp only [AFE.LEADREJCNT.count]; omega) (by simp only [AFE.LEADREJCNT.count]; omega) (.inl (Nat.le_of_ble_eq_true rfl))

theorem AFE.CNTOVF.leadrej_zoned {l} {x0 : Nat} (h : Part.among (.pages 0x8 0x10) l) : Zoned l (AFE.CNTOVF.leadrej x0) :=
  Zoned.pagesOf h (by simp only [AFE.CNTOVF.leadrej]; omega) (by simp only [AFE.CNTOVF.leadrej]; omega) (by simp only [AFE.CNTOVF.leadrej]; omega) (.inl (Nat.le_of_ble_eq_true rfl))

theorem AFE.IRQRAW.cnt_ovf_zoned {l} {x0 : Nat} (h : Part.among (.head 0x14) l) : Zoned l (AFE.IRQRAW.cnt_ovf x0) :=
  Zoned.headOf h (by simp only [AFE.IRQRAW.cnt_ovf]; omega) (Nat.le_of_ble_eq_true rfl)

theorem AFE.IRQRAW.lead_reject_zoned {l} {x0 : Nat} (h : Part.among (.head 0x14) l) : Zoned l (AFE.IRQRAW.lead_reject x0) :=
  Zoned.headOf h (by simp only [AFE.IRQRAW.lead_reject]; omega) (Nat.le_of_ble_eq_true rfl)

theorem AFE.FAULT.lead_reinit_zoned {l} {x0 : Nat} (h : Part.among (.head 0x20) l) : Zoned l (AFE.FAULT.lead_reinit x0) :=
  Zoned.headOf h (by simp only [AFE.FAULT.lead_reinit]; omega) (Nat.le_of_ble_eq_true rfl)

theorem PAIR.STAT.pscore_zoned {l} (h : Part.among (.page 0x38) l) : Zoned l (PAIR.STAT.pscore) :=
  Zoned.of h (by decide) (by decide)

theorem PAIR.PDIGEST.crc_zoned {l} (h : Part.among (.page 0x38) l) : Zoned l (PAIR.PDIGEST.crc) :=
  Zoned.of h (by decide) (by decide)

theorem PAIR.FAULT.time_zoned {l} (h : Part.among (.head 0x20) l) : Zoned l (PAIR.FAULT.time) :=
  Zoned.of h (by decide) (by decide)

theorem PAIR.TAKEOVERCNT.count_zoned {l} (h : Part.among (.page 0x38) l) : Zoned l (PAIR.TAKEOVERCNT.count) :=
  Zoned.of h (by decide) (by decide)

theorem PAIR.CNTOVF.take_zoned {l} (h : Part.among (.page 0x38) l) : Zoned l (PAIR.CNTOVF.take) :=
  Zoned.of h (by decide) (by decide)

theorem PAIR.IRQRAW.cnt_event_zoned {l} (h : Part.among (.head 0x14) l) : Zoned l (PAIR.IRQRAW.cnt_event) :=
  Zoned.of h (by decide) (by decide)

theorem PAIR.IRQRAW.takeover_zoned {l} (h : Part.among (.head 0x14) l) : Zoned l (PAIR.IRQRAW.takeover) :=
  Zoned.of h (by decide) (by decide)

theorem JKT.IRQRAW.fault_zoned {l} (h : Part.among (.head 0x14) l) : Zoned l (JKT.IRQRAW.fault) :=
  Zoned.of h (by decide) (by decide)

theorem JKT.FAULT.link_zoned {l} (h : Part.among (.head 0x20) l) : Zoned l (JKT.FAULT.link) :=
  Zoned.of h (by decide) (by decide)

theorem JKT.FAULTCNT.count_zoned {l} (h : Part.among (.page 0x1A) l) : Zoned l (JKT.FAULTCNT.count) :=
  Zoned.of h (by decide) (by decide)

theorem JKT.CNTOVF.fault_zoned {l} (h : Part.among (.page 0x1A) l) : Zoned l (JKT.CNTOVF.fault) :=
  Zoned.of h (by decide) (by decide)

theorem JKT.STAT.consec_zoned {l} (h : Part.among (.page 0x1A) l) : Zoned l (JKT.STAT.consec) :=
  Zoned.of h (by decide) (by decide)

theorem JKT.IRQRAW.degraded_zoned {l} (h : Part.among (.head 0x14) l) : Zoned l (JKT.IRQRAW.degraded) :=
  Zoned.of h (by decide) (by decide)

theorem UIO.IRQRAW.cnt_ovf_zoned {l} (h : Part.among (.head 0x14) l) : Zoned l (UIO.IRQRAW.cnt_ovf) :=
  Zoned.of h (by decide) (by decide)

theorem TAMP.FIRST.bcd_zoned {l} {x0 : Nat} (h : Part.among (.page 0x5A) l) : Zoned l (TAMP.FIRST.bcd x0) :=
  Zoned.pageOf h (by simp only [TAMP.FIRST.bcd]; omega) (by simp only [TAMP.FIRST.bcd]; omega) (by simp only [TAMP.FIRST.bcd]; omega) (.inl (Nat.le_of_ble_eq_true rfl))

theorem TAMP.STAT.latched_zoned {l} (h : Part.among (.page 0x5A) l) : Zoned l (TAMP.STAT.latched) :=
  Zoned.of h (by decide) (by decide)

theorem TAMP.IRQRAW.event_zoned {l} (h : Part.among (.head 0x14) l) : Zoned l (TAMP.IRQRAW.event) :=
  Zoned.of h (by decide) (by decide)

theorem TAMP.STAT.bkp_zoned {l} (h : Part.among (.page 0x5A) l) : Zoned l (TAMP.STAT.bkp) :=
  Zoned.of h (by decide) (by decide)

theorem TAMP.FAULT.alarm_zoned {l} (h : Part.among (.head 0x20) l) : Zoned l (TAMP.FAULT.alarm) :=
  Zoned.of h (by decide) (by decide)

theorem TAMP.IRQRAW.alarm_zoned {l} (h : Part.among (.head 0x14) l) : Zoned l (TAMP.IRQRAW.alarm) :=
  Zoned.of h (by decide) (by decide)

theorem PWR.STAT.io33_zoned {l} (h : Part.among (.page 0x1) l) : Zoned l (PWR.STAT.io33) :=
  Zoned.of h (by decide) (by decide)

theorem MSG.TXCNT.count_zoned {l} (h : Part.among (.page 0x34) l) : Zoned l (MSG.TXCNT.count) :=
  Zoned.of h (by decide) (by decide)

theorem MSG.AUTHFAIL.count_zoned {l} (h : Part.among (.page 0x34) l) : Zoned l (MSG.AUTHFAIL.count) :=
  Zoned.of h (by decide) (by decide)

theorem MSG.CNTOVF.auth_zoned {l} (h : Part.among (.page 0x34) l) : Zoned l (MSG.CNTOVF.auth) :=
  Zoned.of h (by decide) (by decide)

theorem MSG.IRQRAW.cnt_event_zoned {l} (h : Part.among (.head 0x14) l) : Zoned l (MSG.IRQRAW.cnt_event) :=
  Zoned.of h (by decide) (by decide)

theorem AFE.IRQRAW.open__zoned {l} {x0 : Nat} (h : Part.among (.head 0x14) l) : Zoned l (AFE.IRQRAW.open_ x0) :=
  Zoned.headOf h (by simp only [AFE.IRQRAW.open_]; omega) (Nat.le_of_ble_eq_true rfl)

theorem AFE.OPENCNT.count_zoned {l} {x0 : Nat} (h : Part.among (.pages 0x8 0x10) l) : Zoned l (AFE.OPENCNT.count x0) :=
  Zoned.pagesOf h (by simp only [AFE.OPENCNT.count]; omega) (by simp only [AFE.OPENCNT.count]; omega) (by simp only [AFE.OPENCNT.count]; omega) (.inl (Nat.le_of_ble_eq_true rfl))

theorem AFE.CNTOVF.open__zoned {l} {x0 : Nat} (h : Part.among (.pages 0x8 0x10) l) : Zoned l (AFE.CNTOVF.open_ x0) :=
  Zoned.pagesOf h (by simp only [AFE.CNTOVF.open_]; omega) (by simp only [AFE.CNTOVF.open_]; omega) (by simp only [AFE.CNTOVF.open_]; omega) (.inl (Nat.le_of_ble_eq_true rfl))

theorem BKPM.STAT.vbat_ok_zoned {l} (h : Part.among (.page 0x51) l) : Zoned l (BKPM.STAT.vbat_ok) :=
  Zoned.of h (by decide) (by decide)

theorem RTC.STAT.wrap_zoned {l} (h : Part.among (.page 0x50) l) : Zoned l (RTC.STAT.wrap) :=
  Zoned.of h (by decide) (by decide)

theorem RTC.IRQRAW.wrap_zoned {l} (h : Part.among (.head 0x14) l) : Zoned l (RTC.IRQRAW.wrap) :=
  Zoned.of h (by decide) (by decide)

theorem RTC.CMDSTAT.setfld_zoned {l} (h : Part.among (.page 0x50) l) : Zoned l (RTC.CMDSTAT.setfld) :=
  Zoned.of h (by decide) (by decide)

theorem RTC.STAT.seterr_zoned {l} (h : Part.among (.page 0x50) l) : Zoned l (RTC.STAT.seterr) :=
  Zoned.of h (by decide) (by decide)

theorem RTC.IRQRAW.seterr_zoned {l} (h : Part.among (.head 0x14) l) : Zoned l (RTC.IRQRAW.seterr) :=
  Zoned.of h (by decide) (by decide)

theorem RTC.IRQRAW.cmd_done_zoned {l} (h : Part.among (.head 0x14) l) : Zoned l (RTC.IRQRAW.cmd_done) :=
  Zoned.of h (by decide) (by decide)

theorem RTC.STAT.dst_zoned {l} (h : Part.among (.page 0x50) l) : Zoned l (RTC.STAT.dst) :=
  Zoned.of h (by decide) (by decide)

theorem PAIR.IRQRAW.cfgdiff_zoned {l} (h : Part.among (.head 0x14) l) : Zoned l (PAIR.IRQRAW.cfgdiff) :=
  Zoned.of h (by decide) (by decide)

theorem PAIR.FAULT.cfgdiff_zoned {l} (h : Part.among (.head 0x20) l) : Zoned l (PAIR.FAULT.cfgdiff) :=
  Zoned.of h (by decide) (by decide)

theorem PAIR.MIRRORMISS.count_zoned {l} (h : Part.among (.page 0x38) l) : Zoned l (PAIR.MIRRORMISS.count) :=
  Zoned.of h (by decide) (by decide)

theorem PAIR.CNTOVF.mirror_zoned {l} (h : Part.among (.page 0x38) l) : Zoned l (PAIR.CNTOVF.mirror) :=
  Zoned.of h (by decide) (by decide)

theorem PAIR.IRQRAW.mirror_miss_zoned {l} (h : Part.among (.head 0x14) l) : Zoned l (PAIR.IRQRAW.mirror_miss) :=
  Zoned.of h (by decide) (by decide)

theorem REC.PWRCYC.count_zoned {l} (h : Part.among (.page 0x49) l) : Zoned l (REC.PWRCYC.count) :=
  Zoned.of h (by decide) (by decide)

theorem BKPM.DATA31.pwrcyc_zoned {l} (h : Part.among (.page 0x51) l) : Zoned l (BKPM.DATA31.pwrcyc) :=
  Zoned.of h (by decide) (by decide)

theorem REC.STAT.pc_ovf_zoned {l} (h : Part.among (.page 0x49) l) : Zoned l (REC.STAT.pc_ovf) :=
  Zoned.of h (by decide) (by decide)

theorem REC.IRQRAW.cnt_event_zoned {l} (h : Part.among (.head 0x14) l) : Zoned l (REC.IRQRAW.cnt_event) :=
  Zoned.of h (by decide) (by decide)

theorem CAL.STRIDEFAIL.count_zoned {l} (h : Part.among (.page 0x10) l) : Zoned l (CAL.STRIDEFAIL.count) :=
  Zoned.of h (by decide) (by decide)

theorem CAL.CNTOVF.fail_zoned {l} (h : Part.among (.page 0x10) l) : Zoned l (CAL.CNTOVF.fail) :=
  Zoned.of h (by decide) (by decide)

theorem CAL.IRQRAW.stride_fail_zoned {l} (h : Part.among (.head 0x14) l) : Zoned l (CAL.IRQRAW.stride_fail) :=
  Zoned.of h (by decide) (by decide)

theorem CAL.STRIDEOK.count_zoned {l} (h : Part.among (.page 0x10) l) : Zoned l (CAL.STRIDEOK.count) :=
  Zoned.of h (by decide) (by decide)

theorem CAL.IRQRAW.stride_pass_zoned {l} (h : Part.among (.head 0x14) l) : Zoned l (CAL.IRQRAW.stride_pass) :=
  Zoned.of h (by decide) (by decide)

theorem HDR.IRQRAW.commit_refused_zoned {l} {x0 : Nat} (h : Part.among (.head 0x14) l) : Zoned l (HDR.IRQRAW.commit_refused x0) :=
  Zoned.headOf h (by simp only [HDR.IRQRAW.commit_refused]; omega) (Nat.le_of_ble_eq_true rfl)

theorem CLK.FAULT.strap_zoned {l} (h : Part.among (.head 0x20) l) : Zoned l (CLK.FAULT.strap) :=
  Zoned.of h (by decide) (by decide)

theorem RST.FAULT.clkfail_zoned {l} (h : Part.among (.head 0x20) l) : Zoned l (RST.FAULT.clkfail) :=
  Zoned.of h (by decide) (by decide)

theorem DIO.SHORT.flag_zoned {l} {x0 : Nat} (h : Part.among (.page 0x19) l) : Zoned l (DIO.SHORT.flag x0) :=
  Zoned.pageOf h (by simp only [DIO.SHORT.flag]; omega) (by simp only [DIO.SHORT.flag]; omega) (by simp only [DIO.SHORT.flag]; omega) (.inl (Nat.le_of_ble_eq_true rfl))

theorem DIO.IRQRAW.short_zoned {l} (h : Part.among (.head 0x14) l) : Zoned l (DIO.IRQRAW.short) :=
  Zoned.of h (by decide) (by decide)

theorem DIO.THERM.flag_zoned {l} {x0 : Nat} (h : Part.among (.page 0x19) l) : Zoned l (DIO.THERM.flag x0) :=
  Zoned.pageOf h (by simp only [DIO.THERM.flag]; omega) (by simp only [DIO.THERM.flag]; omega) (by simp only [DIO.THERM.flag]; omega) (.inl (Nat.le_of_ble_eq_true rfl))

theorem DIO.IRQRAW.thermal_zoned {l} (h : Part.among (.head 0x14) l) : Zoned l (DIO.IRQRAW.thermal) :=
  Zoned.of h (by decide) (by decide)

theorem DIO.OPEN.flag_zoned {l} {x0 : Nat} (h : Part.among (.page 0x19) l) : Zoned l (DIO.OPEN.flag x0) :=
  Zoned.pageOf h (by simp only [DIO.OPEN.flag]; omega) (by simp only [DIO.OPEN.flag]; omega) (by simp only [DIO.OPEN.flag]; omega) (.inl (Nat.le_of_ble_eq_true rfl))

theorem DIO.IRQRAW.open__zoned {l} (h : Part.among (.head 0x14) l) : Zoned l (DIO.IRQRAW.open_) :=
  Zoned.of h (by decide) (by decide)

theorem DIO.FAULT.short_zoned {l} (h : Part.among (.head 0x20) l) : Zoned l (DIO.FAULT.short) :=
  Zoned.of h (by decide) (by decide)

theorem DIO.FAULT.thermal_zoned {l} (h : Part.among (.head 0x20) l) : Zoned l (DIO.FAULT.thermal) :=
  Zoned.of h (by decide) (by decide)

theorem BUS.IRQRAW.epassive_zoned {l} {x0 : Nat} (h : Part.among (.head 0x14) l) : Zoned l (BUS.IRQRAW.epassive x0) :=
  Zoned.headOf h (by simp only [BUS.IRQRAW.epassive]; omega) (Nat.le_of_ble_eq_true rfl)

theorem BUS.ERRCNT.tec_zoned {l} {x0 : Nat} (h : Part.among (.pages 0x30 0x34) l) : Zoned l (BUS.ERRCNT.tec x0) :=
  Zoned.pagesOf h (by simp only [BUS.ERRCNT.tec]; omega) (by simp only [BUS.ERRCNT.tec]; omega) (by simp only [BUS.ERRCNT.tec]; rcases (show x0 % 4 = 0 ∨ x0 % 4 = 1 ∨ x0 % 4 = 2 ∨ x0 % 4 = 3 by omega) with e | e | e | e <;> rw [e] <;> omega) (.inl (Nat.le_of_ble_eq_true rfl))

theorem BUS.ERRCNT.rec_zoned {l} {x0 : Nat} (h : Part.among (.pages 0x30 0x34) l) : Zoned l (BUS.ERRCNT.rec x0) :=
  Zoned.pagesOf h (by simp only [BUS.ERRCNT.rec]; omega) (by simp only [BUS.ERRCNT.rec]; omega) (by simp only [BUS.ERRCNT.rec]; rcases (show x0 % 4 = 0 ∨ x0 % 4 = 1 ∨ x0 % 4 = 2 ∨ x0 % 4 = 3 by omega) with e | e | e | e <;> rw [e] <;> omega) (.inl (Nat.le_of_ble_eq_true rfl))

theorem BUS.ERRCNT.rp_zoned {l} {x0 : Nat} (h : Part.among (.pages 0x30 0x34) l) : Zoned l (BUS.ERRCNT.rp x0) :=
  Zoned.pagesOf h (by simp only [BUS.ERRCNT.rp]; omega) (by simp only [BUS.ERRCNT.rp]; omega) (by simp only [BUS.ERRCNT.rp]; rcases (show x0 % 4 = 0 ∨ x0 % 4 = 1 ∨ x0 % 4 = 2 ∨ x0 % 4 = 3 by omega) with e | e | e | e <;> rw [e] <;> omega) (.inl (Nat.le_of_ble_eq_true rfl))

theorem BUS.IRQRAW.ewarn_zoned {l} {x0 : Nat} (h : Part.among (.head 0x14) l) : Zoned l (BUS.IRQRAW.ewarn x0) :=
  Zoned.headOf h (by simp only [BUS.IRQRAW.ewarn]; omega) (Nat.le_of_ble_eq_true rfl)

theorem BUS.STATE.ewarn_zoned {l} {x0 : Nat} (h : Part.among (.pages 0x30 0x34) l) : Zoned l (BUS.STATE.ewarn x0) :=
  Zoned.pagesOf h (by simp only [BUS.STATE.ewarn]; omega) (by simp only [BUS.STATE.ewarn]; omega) (by simp only [BUS.STATE.ewarn]; rcases (show x0 % 4 = 0 ∨ x0 % 4 = 1 ∨ x0 % 4 = 2 ∨ x0 % 4 = 3 by omega) with e | e | e | e <;> rw [e] <;> omega) (.inl (Nat.le_of_ble_eq_true rfl))

theorem RTC.IRQRAW.osf_zoned {l} (h : Part.among (.head 0x14) l) : Zoned l (RTC.IRQRAW.osf) :=
  Zoned.of h (by decide) (by decide)

theorem RTC.FAULT.osc_zoned {l} (h : Part.among (.head 0x20) l) : Zoned l (RTC.FAULT.osc) :=
  Zoned.of h (by decide) (by decide)

theorem CAL.BANKSTAT.stale_zoned {l} {x0 : Nat} (h : Part.among (.page 0x10) l) : Zoned l (CAL.BANKSTAT.stale x0) :=
  Zoned.pageOf h (by simp only [CAL.BANKSTAT.stale]; omega) (by simp only [CAL.BANKSTAT.stale]; omega) (by simp only [CAL.BANKSTAT.stale]; omega) (.inl (Nat.le_of_ble_eq_true rfl))

theorem MSG.IRQRAW.unauth_rx_zoned {l} (h : Part.among (.head 0x14) l) : Zoned l (MSG.IRQRAW.unauth_rx) :=
  Zoned.of h (by decide) (by decide)

theorem MSG.ROLEFAIL.count_zoned {l} (h : Part.among (.page 0x34) l) : Zoned l (MSG.ROLEFAIL.count) :=
  Zoned.of h (by decide) (by decide)

theorem MSG.CNTOVF.role_zoned {l} (h : Part.among (.page 0x34) l) : Zoned l (MSG.CNTOVF.role) :=
  Zoned.of h (by decide) (by decide)

theorem MSG.DUPCNT.count_zoned {l} (h : Part.among (.page 0x34) l) : Zoned l (MSG.DUPCNT.count) :=
  Zoned.of h (by decide) (by decide)

theorem MSG.RXCNT.count_zoned {l} (h : Part.among (.page 0x34) l) : Zoned l (MSG.RXCNT.count) :=
  Zoned.of h (by decide) (by decide)

theorem JKT.FTIME.us_zoned {l} (h : Part.among (.page 0x1A) l) : Zoned l (JKT.FTIME.us) :=
  Zoned.of h (by decide) (by decide)

theorem JKT.STAT.fdegraded_zoned {l} (h : Part.among (.page 0x1A) l) : Zoned l (JKT.STAT.fdegraded) :=
  Zoned.of h (by decide) (by decide)

theorem JKT.FERR.count_zoned {l} (h : Part.among (.page 0x1A) l) : Zoned l (JKT.FERR.count) :=
  Zoned.of h (by decide) (by decide)

theorem JKT.ECHOCRC.crc_zoned {l} (h : Part.among (.page 0x1A) l) : Zoned l (JKT.ECHOCRC.crc) :=
  Zoned.of h (by decide) (by decide)

theorem JKT.IRQRAW.cfg_mismatch_zoned {l} (h : Part.among (.head 0x14) l) : Zoned l (JKT.IRQRAW.cfg_mismatch) :=
  Zoned.of h (by decide) (by decide)

theorem DIO.STATE.state_zoned {l} {x0 : Nat} (h : Part.among (.page 0x19) l) : Zoned l (DIO.STATE.state x0) :=
  Zoned.pageOf h (by simp only [DIO.STATE.state]; omega) (by simp only [DIO.STATE.state]; omega) (by simp only [DIO.STATE.state]; omega) (.inl (Nat.le_of_ble_eq_true rfl))

theorem JKT.STAT.failact_zoned {l} (h : Part.among (.page 0x1A) l) : Zoned l (JKT.STAT.failact) :=
  Zoned.of h (by decide) (by decide)

theorem UIO.IRQRAW.failact_zoned {l} (h : Part.among (.head 0x14) l) : Zoned l (UIO.IRQRAW.failact) :=
  Zoned.of h (by decide) (by decide)

theorem UIO.FAULT.jkt_zoned {l} (h : Part.among (.head 0x20) l) : Zoned l (UIO.FAULT.jkt) :=
  Zoned.of h (by decide) (by decide)

theorem ARITH.TESTREC.bytes_zoned {l} {x0 : Nat} (h : Part.among (.page 0x11) l) : Zoned l (ARITH.TESTREC.bytes x0) :=
  Zoned.pageOf h (by simp only [ARITH.TESTREC.bytes]; omega) (by simp only [ARITH.TESTREC.bytes]; omega) (by simp only [ARITH.TESTREC.bytes]; omega) (.inl (Nat.le_of_ble_eq_true rfl))

theorem ARITH.IRQRAW.test_done_zoned {l} (h : Part.among (.head 0x14) l) : Zoned l (ARITH.IRQRAW.test_done) :=
  Zoned.of h (by decide) (by decide)

theorem BUS.TSC.us_zoned {l} {x0 : Nat} (h : Part.among (.pages 0x30 0x34) l) : Zoned l (BUS.TSC.us x0) :=
  Zoned.pagesOf h (by simp only [BUS.TSC.us]; omega) (by simp only [BUS.TSC.us]; omega) (by simp only [BUS.TSC.us]; rcases (show x0 % 4 = 0 ∨ x0 % 4 = 1 ∨ x0 % 4 = 2 ∨ x0 % 4 = 3 by omega) with e | e | e | e <;> rw [e] <;> omega) (.inl (Nat.le_of_ble_eq_true rfl))

theorem JKT.RETRYCNT.count_zoned {l} (h : Part.among (.page 0x1A) l) : Zoned l (JKT.RETRYCNT.count) :=
  Zoned.of h (by decide) (by decide)

theorem JKT.CNTOVF.retry_zoned {l} (h : Part.among (.page 0x1A) l) : Zoned l (JKT.CNTOVF.retry) :=
  Zoned.of h (by decide) (by decide)

theorem JKT.IRQRAW.cnt_event_zoned {l} (h : Part.among (.head 0x14) l) : Zoned l (JKT.IRQRAW.cnt_event) :=
  Zoned.of h (by decide) (by decide)

theorem HDR.FAULT.crc_zoned {l} {x0 : Nat} (h : Part.among (.head 0x20) l) : Zoned l (HDR.FAULT.crc x0) :=
  Zoned.headOf h (by simp only [HDR.FAULT.crc]; omega) (Nat.le_of_ble_eq_true rfl)

theorem HDR.FAULT.invalid_zoned {l} {x0 : Nat} (h : Part.among (.head 0x20) l) : Zoned l (HDR.FAULT.invalid x0) :=
  Zoned.headOf h (by simp only [HDR.FAULT.invalid]; omega) (Nat.le_of_ble_eq_true rfl)

theorem CAL.GAPCNT.count_zoned {l} (h : Part.among (.page 0x10) l) : Zoned l (CAL.GAPCNT.count) :=
  Zoned.of h (by decide) (by decide)

theorem CAL.CNTOVF.gap_zoned {l} (h : Part.among (.page 0x10) l) : Zoned l (CAL.CNTOVF.gap) :=
  Zoned.of h (by decide) (by decide)

theorem AFE.BOCNT.count_zoned {l} {x0 : Nat} (h : Part.among (.pages 0x8 0x10) l) : Zoned l (AFE.BOCNT.count x0) :=
  Zoned.pagesOf h (by simp only [AFE.BOCNT.count]; omega) (by simp only [AFE.BOCNT.count]; omega) (by simp only [AFE.BOCNT.count]; omega) (.inl (Nat.le_of_ble_eq_true rfl))

theorem AFE.CNTOVF.bo_zoned {l} {x0 : Nat} (h : Part.among (.pages 0x8 0x10) l) : Zoned l (AFE.CNTOVF.bo x0) :=
  Zoned.pagesOf h (by simp only [AFE.CNTOVF.bo]; omega) (by simp only [AFE.CNTOVF.bo]; omega) (by simp only [AFE.CNTOVF.bo]; omega) (.inl (Nat.le_of_ble_eq_true rfl))

theorem AFE.IRQRAW.abort_zoned {l} {x0 : Nat} (h : Part.among (.head 0x14) l) : Zoned l (AFE.IRQRAW.abort x0) :=
  Zoned.headOf h (by simp only [AFE.IRQRAW.abort]; omega) (Nat.le_of_ble_eq_true rfl)

theorem AFE.IRQRAW.restart_zoned {l} {x0 : Nat} (h : Part.among (.head 0x14) l) : Zoned l (AFE.IRQRAW.restart x0) :=
  Zoned.headOf h (by simp only [AFE.IRQRAW.restart]; omega) (Nat.le_of_ble_eq_true rfl)

theorem AFE.RESTARTCNT.count_zoned {l} {x0 : Nat} (h : Part.among (.pages 0x8 0x10) l) : Zoned l (AFE.RESTARTCNT.count x0) :=
  Zoned.pagesOf h (by simp only [AFE.RESTARTCNT.count]; omega) (by simp only [AFE.RESTARTCNT.count]; omega) (by simp only [AFE.RESTARTCNT.count]; omega) (.inl (Nat.le_of_ble_eq_true rfl))

theorem AFE.CNTOVF.restart_zoned {l} {x0 : Nat} (h : Part.among (.pages 0x8 0x10) l) : Zoned l (AFE.CNTOVF.restart x0) :=
  Zoned.pagesOf h (by simp only [AFE.CNTOVF.restart]; omega) (by simp only [AFE.CNTOVF.restart]; omega) (by simp only [AFE.CNTOVF.restart]; omega) (.inl (Nat.le_of_ble_eq_true rfl))

theorem AFE.FAULT.bridge_zoned {l} {x0 : Nat} (h : Part.among (.head 0x20) l) : Zoned l (AFE.FAULT.bridge x0) :=
  Zoned.headOf h (by simp only [AFE.FAULT.bridge]; omega) (Nat.le_of_ble_eq_true rfl)

theorem AFE.PINFLT0.pin_zoned {l} {x0 : Nat} (h : Part.among (.pages 0x8 0x10) l) : Zoned l (AFE.PINFLT0.pin x0) :=
  Zoned.pagesOf h (by simp only [AFE.PINFLT0.pin]; omega) (by simp only [AFE.PINFLT0.pin]; omega) (by simp only [AFE.PINFLT0.pin]; omega) (.inl (Nat.le_of_ble_eq_true rfl))

theorem AFE.PINFLT1.pin_zoned {l} {x0 : Nat} (h : Part.among (.pages 0x8 0x10) l) : Zoned l (AFE.PINFLT1.pin x0) :=
  Zoned.pagesOf h (by simp only [AFE.PINFLT1.pin]; omega) (by simp only [AFE.PINFLT1.pin]; omega) (by simp only [AFE.PINFLT1.pin]; omega) (.inl (Nat.le_of_ble_eq_true rfl))

theorem AFE.IRQRAW.pin_fault_zoned {l} {x0 : Nat} (h : Part.among (.head 0x14) l) : Zoned l (AFE.IRQRAW.pin_fault x0) :=
  Zoned.headOf h (by simp only [AFE.IRQRAW.pin_fault]; omega) (Nat.le_of_ble_eq_true rfl)

theorem CAL.REFDEV.ppb_zoned {l} {x0 : Nat} (h : Part.among (.page 0x10) l) : Zoned l (CAL.REFDEV.ppb x0) :=
  Zoned.pageOf h (by simp only [CAL.REFDEV.ppb]; omega) (by simp only [CAL.REFDEV.ppb]; omega) (by simp only [CAL.REFDEV.ppb]; omega) (.inl (Nat.le_of_ble_eq_true rfl))

theorem CAL.RRDEV.ppb_zoned {l} (h : Part.among (.page 0x10) l) : Zoned l (CAL.RRDEV.ppb) :=
  Zoned.of h (by decide) (by decide)

theorem CAL.REFSTAT.rr_fail_zoned {l} (h : Part.among (.page 0x10) l) : Zoned l (CAL.REFSTAT.rr_fail) :=
  Zoned.of h (by decide) (by decide)

theorem CAL.FAULT.rr_zoned {l} (h : Part.among (.head 0x20) l) : Zoned l (CAL.FAULT.rr) :=
  Zoned.of h (by decide) (by decide)

theorem CAL.IRQRAW.rr_fail_zoned {l} (h : Part.among (.head 0x14) l) : Zoned l (CAL.IRQRAW.rr_fail) :=
  Zoned.of h (by decide) (by decide)

theorem CAL.REFSTAT.refloss_zoned {l} (h : Part.among (.page 0x10) l) : Zoned l (CAL.REFSTAT.refloss) :=
  Zoned.of h (by decide) (by decide)

theorem CAL.FAULT.refloss_zoned {l} (h : Part.among (.head 0x20) l) : Zoned l (CAL.FAULT.refloss) :=
  Zoned.of h (by decide) (by decide)

theorem CAL.REFSTAT.ambig_zoned {l} (h : Part.among (.page 0x10) l) : Zoned l (CAL.REFSTAT.ambig) :=
  Zoned.of h (by decide) (by decide)

theorem CAL.IRQRAW.ref_fail_zoned {l} (h : Part.among (.head 0x14) l) : Zoned l (CAL.IRQRAW.ref_fail) :=
  Zoned.of h (by decide) (by decide)

theorem CAL.FAULT.refambig_zoned {l} (h : Part.among (.head 0x20) l) : Zoned l (CAL.FAULT.refambig) :=
  Zoned.of h (by decide) (by decide)

theorem CAL.FCALRES.ppb_zoned {l} (h : Part.among (.page 0x10) l) : Zoned l (CAL.FCALRES.ppb) :=
  Zoned.of h (by decide) (by decide)

theorem CALL.IRQRAW.cp_lost_zoned {l} (h : Part.among (.head 0x14) l) : Zoned l (CALL.IRQRAW.cp_lost) :=
  Zoned.of h (by decide) (by decide)

theorem CALL.IRQRAW.demand_stale_zoned {l} (h : Part.among (.head 0x14) l) : Zoned l (CALL.IRQRAW.demand_stale) :=
  Zoned.of h (by decide) (by decide)

theorem UIO.RB.rb_zoned {l} {x0 : Nat} (h : Part.among (.page 0x18) l) : Zoned l (UIO.RB.rb x0) :=
  Zoned.pageOf h (by simp only [UIO.RB.rb]; omega) (by simp only [UIO.RB.rb]; omega) (by simp only [UIO.RB.rb]; omega) (.inl (Nat.le_of_ble_eq_true rfl))

theorem UIO.TV.tv_zoned {l} {x0 : Nat} (h : Part.among (.page 0x18) l) : Zoned l (UIO.TV.tv x0) :=
  Zoned.pageOf h (by simp only [UIO.TV.tv]; omega) (by simp only [UIO.TV.tv]; omega) (by simp only [UIO.TV.tv]; omega) (.inl (Nat.le_of_ble_eq_true rfl))

theorem UIO.STAT.compliance_zoned {l} {x0 : Nat} (h : Part.among (.page 0x18) l) : Zoned l (UIO.STAT.compliance x0) :=
  Zoned.pageOf h (by simp only [UIO.STAT.compliance]; omega) (by simp only [UIO.STAT.compliance]; omega) (by simp only [UIO.STAT.compliance]; omega) (.inl (Nat.le_of_ble_eq_true rfl))

theorem UIO.IRQRAW.compliance_zoned {l} (h : Part.among (.head 0x14) l) : Zoned l (UIO.IRQRAW.compliance) :=
  Zoned.of h (by decide) (by decide)

theorem UIO.COMPCNT.count_zoned {l} (h : Part.among (.page 0x18) l) : Zoned l (UIO.COMPCNT.count) :=
  Zoned.of h (by decide) (by decide)

theorem UIO.CNTOVF.comp_zoned {l} (h : Part.among (.page 0x18) l) : Zoned l (UIO.CNTOVF.comp) :=
  Zoned.of h (by decide) (by decide)

theorem UIO.STAT.loop_low_zoned {l} {x0 : Nat} (h : Part.among (.page 0x18) l) : Zoned l (UIO.STAT.loop_low x0) :=
  Zoned.pageOf h (by simp only [UIO.STAT.loop_low]; omega) (by simp only [UIO.STAT.loop_low]; omega) (by simp only [UIO.STAT.loop_low]; omega) (.inl (Nat.le_of_ble_eq_true rfl))

theorem UIO.IRQRAW.loop_low_zoned {l} (h : Part.among (.head 0x14) l) : Zoned l (UIO.IRQRAW.loop_low) :=
  Zoned.of h (by decide) (by decide)

theorem UIO.LOWCNT.count_zoned {l} (h : Part.among (.page 0x18) l) : Zoned l (UIO.LOWCNT.count) :=
  Zoned.of h (by decide) (by decide)

theorem UIO.CNTOVF.low_zoned {l} (h : Part.among (.page 0x18) l) : Zoned l (UIO.CNTOVF.low) :=
  Zoned.of h (by decide) (by decide)

theorem UIO.STAT.outflt_zoned {l} {x0 : Nat} (h : Part.among (.page 0x18) l) : Zoned l (UIO.STAT.outflt x0) :=
  Zoned.pageOf h (by simp only [UIO.STAT.outflt]; omega) (by simp only [UIO.STAT.outflt]; omega) (by simp only [UIO.STAT.outflt]; omega) (.inl (Nat.le_of_ble_eq_true rfl))

theorem UIO.IRQRAW.outflt_zoned {l} (h : Part.among (.head 0x14) l) : Zoned l (UIO.IRQRAW.outflt) :=
  Zoned.of h (by decide) (by decide)

theorem UIO.OUTFLTCNT.count_zoned {l} (h : Part.among (.page 0x18) l) : Zoned l (UIO.OUTFLTCNT.count) :=
  Zoned.of h (by decide) (by decide)

theorem UIO.CNTOVF.outflt_zoned {l} (h : Part.among (.page 0x18) l) : Zoned l (UIO.CNTOVF.outflt) :=
  Zoned.of h (by decide) (by decide)

theorem UIO.FAULT.outflt_zoned {l} (h : Part.among (.head 0x20) l) : Zoned l (UIO.FAULT.outflt) :=
  Zoned.of h (by decide) (by decide)

theorem UIO.STAT.thermal_zoned {l} {x0 : Nat} (h : Part.among (.page 0x18) l) : Zoned l (UIO.STAT.thermal x0) :=
  Zoned.pageOf h (by simp only [UIO.STAT.thermal]; omega) (by simp only [UIO.STAT.thermal]; omega) (by simp only [UIO.STAT.thermal]; omega) (.inl (Nat.le_of_ble_eq_true rfl))

theorem UIO.FAULT.thermal_zoned {l} (h : Part.among (.head 0x20) l) : Zoned l (UIO.FAULT.thermal) :=
  Zoned.of h (by decide) (by decide)

theorem DIO.TRIPCNT.count_zoned {l} (h : Part.among (.page 0x19) l) : Zoned l (DIO.TRIPCNT.count) :=
  Zoned.of h (by decide) (by decide)

theorem DIO.CNTOVF.trip_zoned {l} (h : Part.among (.page 0x19) l) : Zoned l (DIO.CNTOVF.trip) :=
  Zoned.of h (by decide) (by decide)

theorem DIO.IRQRAW.cnt_event_zoned {l} (h : Part.among (.head 0x14) l) : Zoned l (DIO.IRQRAW.cnt_event) :=
  Zoned.of h (by decide) (by decide)

theorem DIO.IRQRAW.extdrv_zoned {l} (h : Part.among (.head 0x14) l) : Zoned l (DIO.IRQRAW.extdrv) :=
  Zoned.of h (by decide) (by decide)

theorem DIO.EXTCNT.count_zoned {l} (h : Part.among (.page 0x19) l) : Zoned l (DIO.EXTCNT.count) :=
  Zoned.of h (by decide) (by decide)

theorem DIO.CNTOVF.ext_zoned {l} (h : Part.among (.page 0x19) l) : Zoned l (DIO.CNTOVF.ext) :=
  Zoned.of h (by decide) (by decide)

theorem DIO.IRQRAW.cnt_ovf_zoned {l} (h : Part.among (.head 0x14) l) : Zoned l (DIO.IRQRAW.cnt_ovf) :=
  Zoned.of h (by decide) (by decide)

theorem DIO.FAULT.extdrv_zoned {l} (h : Part.among (.head 0x20) l) : Zoned l (DIO.FAULT.extdrv) :=
  Zoned.of h (by decide) (by decide)

theorem DIO.DISAGREE.flag_zoned {l} {x0 : Nat} (h : Part.among (.page 0x19) l) : Zoned l (DIO.DISAGREE.flag x0) :=
  Zoned.pageOf h (by simp only [DIO.DISAGREE.flag]; omega) (by simp only [DIO.DISAGREE.flag]; omega) (by simp only [DIO.DISAGREE.flag]; omega) (.inl (Nat.le_of_ble_eq_true rfl))

theorem DIO.IRQRAW.disagree_zoned {l} (h : Part.among (.head 0x14) l) : Zoned l (DIO.IRQRAW.disagree) :=
  Zoned.of h (by decide) (by decide)

theorem DIO.DISCNT.count_zoned {l} (h : Part.among (.page 0x19) l) : Zoned l (DIO.DISCNT.count) :=
  Zoned.of h (by decide) (by decide)

theorem DIO.CNTOVF.dis_zoned {l} (h : Part.among (.page 0x19) l) : Zoned l (DIO.CNTOVF.dis) :=
  Zoned.of h (by decide) (by decide)

theorem DIO.FAULT.disagree_zoned {l} (h : Part.among (.head 0x20) l) : Zoned l (DIO.FAULT.disagree) :=
  Zoned.of h (by decide) (by decide)

theorem DIO.OUTSET.set__zoned {l} {x0 : Nat} (h : Part.among (.page 0x19) l) : Zoned l (DIO.OUTSET.set_ x0) :=
  Zoned.pageOf h (by simp only [DIO.OUTSET.set_]; omega) (by simp only [DIO.OUTSET.set_]; omega) (by simp only [DIO.OUTSET.set_]; omega) (.inl (Nat.le_of_ble_eq_true rfl))

theorem DIO.IRQRAW.vfield_warn_zoned {l} (h : Part.among (.head 0x14) l) : Zoned l (DIO.IRQRAW.vfield_warn) :=
  Zoned.of h (by decide) (by decide)

theorem DIO.IRQRAW.vfield_low_zoned {l} (h : Part.among (.head 0x14) l) : Zoned l (DIO.IRQRAW.vfield_low) :=
  Zoned.of h (by decide) (by decide)

theorem DIO.FAULT.vfield_zoned {l} (h : Part.among (.head 0x20) l) : Zoned l (DIO.FAULT.vfield) :=
  Zoned.of h (by decide) (by decide)

theorem JKT.STAT.hold_zoned {l} (h : Part.among (.page 0x1A) l) : Zoned l (JKT.STAT.hold) :=
  Zoned.of h (by decide) (by decide)

theorem JKT.CFGCRC.crc_zoned {l} (h : Part.among (.page 0x1A) l) : Zoned l (JKT.CFGCRC.crc) :=
  Zoned.of h (by decide) (by decide)

theorem JKT.IRQRAW.up_zoned {l} (h : Part.among (.head 0x14) l) : Zoned l (JKT.IRQRAW.up) :=
  Zoned.of h (by decide) (by decide)

theorem HDR.SHCRC.crc_zoned {l} {x0 : Nat} (h : Part.among (.head 0x28) l) : Zoned l (HDR.SHCRC.crc x0) :=
  Zoned.headOf h (by simp only [HDR.SHCRC.crc]; omega) (Nat.le_of_ble_eq_true rfl)

theorem PAIR.IRQRAW.lane_down_zoned {l} (h : Part.among (.head 0x14) l) : Zoned l (PAIR.IRQRAW.lane_down) :=
  Zoned.of h (by decide) (by decide)

theorem PAIR.LANEERR0.count_zoned {l} (h : Part.among (.page 0x38) l) : Zoned l (PAIR.LANEERR0.count) :=
  Zoned.of h (by decide) (by decide)

theorem PAIR.CNTOVF.err0_zoned {l} (h : Part.among (.page 0x38) l) : Zoned l (PAIR.CNTOVF.err0) :=
  Zoned.of h (by decide) (by decide)

theorem PAIR.LANEERR1.count_zoned {l} (h : Part.among (.page 0x38) l) : Zoned l (PAIR.LANEERR1.count) :=
  Zoned.of h (by decide) (by decide)

theorem PAIR.CNTOVF.err1_zoned {l} (h : Part.among (.page 0x38) l) : Zoned l (PAIR.CNTOVF.err1) :=
  Zoned.of h (by decide) (by decide)

theorem PAIR.IRQRAW.partner_lost_zoned {l} (h : Part.among (.head 0x14) l) : Zoned l (PAIR.IRQRAW.partner_lost) :=
  Zoned.of h (by decide) (by decide)

theorem PAIR.FAULT.partner_zoned {l} (h : Part.among (.head 0x20) l) : Zoned l (PAIR.FAULT.partner) :=
  Zoned.of h (by decide) (by decide)

theorem BUS.TXRETRY.count_zoned {l} {x0 : Nat} (h : Part.among (.pages 0x30 0x34) l) : Zoned l (BUS.TXRETRY.count x0) :=
  Zoned.pagesOf h (by simp only [BUS.TXRETRY.count]; omega) (by simp only [BUS.TXRETRY.count]; omega) (by simp only [BUS.TXRETRY.count]; rcases (show x0 % 4 = 0 ∨ x0 % 4 = 1 ∨ x0 % 4 = 2 ∨ x0 % 4 = 3 by omega) with e | e | e | e <;> rw [e] <;> omega) (.inl (Nat.le_of_ble_eq_true rfl))

theorem BUS.CNTOVF.retry_zoned {l} {x0 : Nat} (h : Part.among (.pages 0x30 0x34) l) : Zoned l (BUS.CNTOVF.retry x0) :=
  Zoned.pagesOf h (by simp only [BUS.CNTOVF.retry]; omega) (by simp only [BUS.CNTOVF.retry]; omega) (by simp only [BUS.CNTOVF.retry]; rcases (show x0 % 4 = 0 ∨ x0 % 4 = 1 ∨ x0 % 4 = 2 ∨ x0 % 4 = 3 by omega) with e | e | e | e <;> rw [e] <;> omega) (.inl (Nat.le_of_ble_eq_true rfl))

theorem BUS.IRQRAW.cnt_event_zoned {l} {x0 : Nat} (h : Part.among (.head 0x14) l) : Zoned l (BUS.IRQRAW.cnt_event x0) :=
  Zoned.headOf h (by simp only [BUS.IRQRAW.cnt_event]; omega) (Nat.le_of_ble_eq_true rfl)

theorem BUS.STATE.tdcv_zoned {l} {x0 : Nat} (h : Part.among (.pages 0x30 0x34) l) : Zoned l (BUS.STATE.tdcv x0) :=
  Zoned.pagesOf h (by simp only [BUS.STATE.tdcv]; omega) (by simp only [BUS.STATE.tdcv]; omega) (by simp only [BUS.STATE.tdcv]; rcases (show x0 % 4 = 0 ∨ x0 % 4 = 1 ∨ x0 % 4 = 2 ∨ x0 % 4 = 3 by omega) with e | e | e | e <;> rw [e] <;> omega) (.inl (Nat.le_of_ble_eq_true rfl))

theorem BUS.TXTSC.us_zoned {l} {x0 x1 : Nat} (h : Part.among (.pages 0x30 0x34) l) : Zoned l (BUS.TXTSC.us x0 x1) :=
  Zoned.pagesOf h (by simp only [BUS.TXTSC.us]; omega) (by simp only [BUS.TXTSC.us]; omega) (by simp only [BUS.TXTSC.us]; rcases (show x0 % 4 = 0 ∨ x0 % 4 = 1 ∨ x0 % 4 = 2 ∨ x0 % 4 = 3 by omega) with e | e | e | e <;> rw [e] <;> first | omega | (rcases (show x1 % 3 = 0 ∨ x1 % 3 = 1 ∨ x1 % 3 = 2 by omega) with f | f | f <;> rw [f] <;> omega)) (.inl (Nat.le_of_ble_eq_true rfl))

theorem BUS.IRQRAW.tx_sent_zoned {l} {x0 : Nat} (h : Part.among (.head 0x14) l) : Zoned l (BUS.IRQRAW.tx_sent x0) :=
  Zoned.headOf h (by simp only [BUS.IRQRAW.tx_sent]; omega) (Nat.le_of_ble_eq_true rfl)

theorem BUS.LASTERR.code_zoned {l} {x0 : Nat} (h : Part.among (.pages 0x30 0x34) l) : Zoned l (BUS.LASTERR.code x0) :=
  Zoned.pagesOf h (by simp only [BUS.LASTERR.code]; omega) (by simp only [BUS.LASTERR.code]; omega) (by simp only [BUS.LASTERR.code]; rcases (show x0 % 4 = 0 ∨ x0 % 4 = 1 ∨ x0 % 4 = 2 ∨ x0 % 4 = 3 by omega) with e | e | e | e <;> rw [e] <;> omega) (.inl (Nat.le_of_ble_eq_true rfl))

theorem BUS.LASTERR.dphase_zoned {l} {x0 : Nat} (h : Part.among (.pages 0x30 0x34) l) : Zoned l (BUS.LASTERR.dphase x0) :=
  Zoned.pagesOf h (by simp only [BUS.LASTERR.dphase]; omega) (by simp only [BUS.LASTERR.dphase]; omega) (by simp only [BUS.LASTERR.dphase]; rcases (show x0 % 4 = 0 ∨ x0 % 4 = 1 ∨ x0 % 4 = 2 ∨ x0 % 4 = 3 by omega) with e | e | e | e <;> rw [e] <;> omega) (.inl (Nat.le_of_ble_eq_true rfl))

theorem BUS.ERRFRM.count_zoned {l} {x0 : Nat} (h : Part.among (.pages 0x30 0x34) l) : Zoned l (BUS.ERRFRM.count x0) :=
  Zoned.pagesOf h (by simp only [BUS.ERRFRM.count]; omega) (by simp only [BUS.ERRFRM.count]; omega) (by simp only [BUS.ERRFRM.count]; rcases (show x0 % 4 = 0 ∨ x0 % 4 = 1 ∨ x0 % 4 = 2 ∨ x0 % 4 = 3 by omega) with e | e | e | e <;> rw [e] <;> omega) (.inl (Nat.le_of_ble_eq_true rfl))

theorem BUS.CNTOVF.errfrm_zoned {l} {x0 : Nat} (h : Part.among (.pages 0x30 0x34) l) : Zoned l (BUS.CNTOVF.errfrm x0) :=
  Zoned.pagesOf h (by simp only [BUS.CNTOVF.errfrm]; omega) (by simp only [BUS.CNTOVF.errfrm]; omega) (by simp only [BUS.CNTOVF.errfrm]; rcases (show x0 % 4 = 0 ∨ x0 % 4 = 1 ∨ x0 % 4 = 2 ∨ x0 % 4 = 3 by omega) with e | e | e | e <;> rw [e] <;> omega) (.inl (Nat.le_of_ble_eq_true rfl))

theorem BUS.IRQRAW.recovered_zoned {l} {x0 : Nat} (h : Part.among (.head 0x14) l) : Zoned l (BUS.IRQRAW.recovered x0) :=
  Zoned.headOf h (by simp only [BUS.IRQRAW.recovered]; omega) (Nat.le_of_ble_eq_true rfl)

theorem TSYNC.FAULT.loss_zoned {l} (h : Part.among (.head 0x20) l) : Zoned l (TSYNC.FAULT.loss) :=
  Zoned.of h (by decide) (by decide)

theorem TSYNC.IRQRAW.holdover_zoned {l} (h : Part.among (.head 0x14) l) : Zoned l (TSYNC.IRQRAW.holdover) :=
  Zoned.of h (by decide) (by decide)

theorem MEM.IRQRAW.init_done_zoned {l} (h : Part.among (.head 0x14) l) : Zoned l (MEM.IRQRAW.init_done) :=
  Zoned.of h (by decide) (by decide)

theorem MEM.SCRUBPOS.word_zoned {l} (h : Part.among (.page 0x40) l) : Zoned l (MEM.SCRUBPOS.word) :=
  Zoned.of h (by decide) (by decide)

theorem MEM.PASSCNT.count_zoned {l} (h : Part.among (.page 0x40) l) : Zoned l (MEM.PASSCNT.count) :=
  Zoned.of h (by decide) (by decide)

theorem NVM.RESULT.crc_zoned {l} (h : Part.among (.page 0x48) l) : Zoned l (NVM.RESULT.crc) :=
  Zoned.of h (by decide) (by decide)

theorem RTC.IRQRAW.freeze_to_zoned {l} (h : Part.among (.head 0x14) l) : Zoned l (RTC.IRQRAW.freeze_to) :=
  Zoned.of h (by decide) (by decide)

theorem RTC.STAT.rcfb_zoned {l} (h : Part.among (.page 0x50) l) : Zoned l (RTC.STAT.rcfb) :=
  Zoned.of h (by decide) (by decide)

theorem BKPM.STAT.vbat_low_zoned {l} (h : Part.among (.page 0x51) l) : Zoned l (BKPM.STAT.vbat_low) :=
  Zoned.of h (by decide) (by decide)

theorem BKPM.IRQRAW.vbat_low_zoned {l} (h : Part.among (.head 0x14) l) : Zoned l (BKPM.IRQRAW.vbat_low) :=
  Zoned.of h (by decide) (by decide)

theorem PWR.STAT.vmon_zoned {l} (h : Part.among (.page 0x1) l) : Zoned l (PWR.STAT.vmon) :=
  Zoned.of h (by decide) (by decide)

theorem PWR.STAT.core_warn_zoned {l} (h : Part.among (.page 0x1) l) : Zoned l (PWR.STAT.core_warn) :=
  Zoned.of h (by decide) (by decide)

theorem PWR.IRQRAW.core_warn_zoned {l} (h : Part.among (.head 0x14) l) : Zoned l (PWR.IRQRAW.core_warn) :=
  Zoned.of h (by decide) (by decide)

theorem PWR.IRQRAW.save_done_zoned {l} (h : Part.among (.head 0x14) l) : Zoned l (PWR.IRQRAW.save_done) :=
  Zoned.of h (by decide) (by decide)

theorem PWR.STAT.vdda_low_zoned {l} (h : Part.among (.page 0x1) l) : Zoned l (PWR.STAT.vdda_low) :=
  Zoned.of h (by decide) (by decide)

theorem PWR.IRQRAW.vdda_low_zoned {l} (h : Part.among (.head 0x14) l) : Zoned l (PWR.IRQRAW.vdda_low) :=
  Zoned.of h (by decide) (by decide)

theorem PWR.FAULT.vdda_zoned {l} (h : Part.among (.head 0x20) l) : Zoned l (PWR.FAULT.vdda) :=
  Zoned.of h (by decide) (by decide)

theorem PWR.FAULT.domain_zoned {l} (h : Part.among (.head 0x20) l) : Zoned l (PWR.FAULT.domain) :=
  Zoned.of h (by decide) (by decide)

theorem PWR.POWER.mw_zoned {l} (h : Part.among (.page 0x1) l) : Zoned l (PWR.POWER.mw) :=
  Zoned.of h (by decide) (by decide)

theorem PWR.STAT.gov_over_zoned {l} (h : Part.among (.page 0x1) l) : Zoned l (PWR.STAT.gov_over) :=
  Zoned.of h (by decide) (by decide)

theorem PWR.IRQRAW.gov_over_zoned {l} (h : Part.among (.head 0x14) l) : Zoned l (PWR.IRQRAW.gov_over) :=
  Zoned.of h (by decide) (by decide)

theorem CLK.FAULT.pll_zoned {l} (h : Part.among (.head 0x20) l) : Zoned l (CLK.FAULT.pll) :=
  Zoned.of h (by decide) (by decide)

theorem CLK.IRQRAW.pll_unlock_zoned {l} (h : Part.among (.head 0x14) l) : Zoned l (CLK.IRQRAW.pll_unlock) :=
  Zoned.of h (by decide) (by decide)

theorem CLK.FAULT.hfxo_zoned {l} (h : Part.among (.head 0x20) l) : Zoned l (CLK.FAULT.hfxo) :=
  Zoned.of h (by decide) (by decide)

theorem CLK.IRQRAW.hfxo_fail_zoned {l} (h : Part.among (.head 0x14) l) : Zoned l (CLK.IRQRAW.hfxo_fail) :=
  Zoned.of h (by decide) (by decide)

theorem CLK.FAILCNT.count_zoned {l} (h : Part.among (.page 0x2) l) : Zoned l (CLK.FAILCNT.count) :=
  Zoned.of h (by decide) (by decide)

theorem CLK.CNTOVF.fail_zoned {l} (h : Part.among (.page 0x2) l) : Zoned l (CLK.CNTOVF.fail) :=
  Zoned.of h (by decide) (by decide)

theorem CLK.IRQRAW.cnt_ovf_zoned {l} (h : Part.among (.head 0x14) l) : Zoned l (CLK.IRQRAW.cnt_ovf) :=
  Zoned.of h (by decide) (by decide)

theorem CLK.IRQRAW.apll_unlock_zoned {l} (h : Part.among (.head 0x14) l) : Zoned l (CLK.IRQRAW.apll_unlock) :=
  Zoned.of h (by decide) (by decide)

theorem CLK.PACERCAL.ppb_zoned {l} (h : Part.among (.page 0x2) l) : Zoned l (CLK.PACERCAL.ppb) :=
  Zoned.of h (by decide) (by decide)

theorem LAP.FAULT.lead_zoned {l} (h : Part.among (.head 0x20) l) : Zoned l (LAP.FAULT.lead) :=
  Zoned.of h (by decide) (by decide)

end Sys2Proof.Machine
end

