-- ==== Sys2Proof/Laws/Ops.lean ====
section
/-!
SUPPORT. What each operation of Machine/Ops.lean can change: one lemma per operation, named after it. An operation started in a
state that has kept all parts of an earlier one but some keeps all but those and the parts that its lemma lists, and the
canonical form of the sparse maps with them.
-/

set_option Elab.async false

namespace Sys2Proof.Machine

theorem State.wr_kept {l s0} {s} {x1} {x2} (h : Kept l s0 s) (z1 : Zoned l x1) : Kept l s0 (State.wr s x1 x2) := by
  refine h.trans ⟨⟨fun p _ => ?_, fun a ha => ?_⟩, fun c => ?_⟩
  · unfold State.wr
    split <;> cases p <;> first | rfl | exact True.intro
  · have n1 : a ≠ x1.addr := fun e => by
      obtain ⟨p, hp, k⟩ := z1.1
      rw [← e, ha p hp] at k; cases k
    unfold State.wr
    split
    · exact Sparse.get_set_other n1
    · next w =>
      have n2 : a ≠ x1.addr + 4 := fun e => by
        obtain ⟨p, hp, k⟩ := z1.2 (by omega)
        rw [← e, ha p hp] at k; cases k
      exact (Sparse.get_set_other n2).trans (Sparse.get_set_other n1)
  · unfold State.wr
    split
    · exact ⟨⟨Sparse.wf_set c.1.1, c.1.2⟩, c.2⟩
    · exact ⟨⟨Sparse.wf_set (Sparse.wf_set c.1.1), c.1.2⟩, c.2⟩

theorem State.irq_kept {l s0} {s} {x1} (h : Kept l s0 s) (z1 : Zoned l x1) :
    Kept l s0 (State.irq s x1) := by
  unfold State.irq
  exact (State.wr_kept h z1)

theorem State.setBank_kept {l s0} {s} {x1} {x2} (h : Kept l s0 s) (hp : Part.within [.afe] l) :
    Kept l s0 (State.setBank s x1 x2) := by
  unfold State.setBank
  exact (h.afe (Part.at hp))

theorem State.modBank_kept {l s0} {s} {x1} {x2} (h : Kept l s0 s) (hp : Part.within [.afe] l) :
    Kept l s0 (State.modBank s x1 x2) := by
  unfold State.modBank
  exact (State.setBank_kept h (Part.sub hp))

theorem State.put_kept {l s0} {s} {x1} {x2} (h : Kept l s0 s) (z1 : Zoned l x1) :
    Kept l s0 (State.put s x1 x2) := by
  unfold State.put
  exact (State.wr_kept h z1)

theorem State.modStride_kept {l s0} {s} {x1} {x2} (h : Kept l s0 s) (hp : Part.within [.cal] l) :
    Kept l s0 (State.modStride s x1 x2) := by
  unfold State.modStride
  exact (h.cal (Part.at hp))

theorem State.putNth_kept {l s0} {s} {x1} {x2} {x3} (h : Kept l s0 s) (z1 : ZonedFn l x1) : Kept l s0 (State.putNth s x1 x2 x3) :=
  State.wr_kept h ⟨(z1 (x2 / 32)).1, fun _ => (z1 (x2 / 32)).2⟩

theorem State.cmdStat_kept {l s0} {s} {x1} {x2} {x3} {x4} (h : Kept l s0 s) (z1 : Zoned l x1) (z2 : Zoned l x2) :
    Kept l s0 (State.cmdStat s x1 x2 x3 x4) := by
  unfold State.cmdStat
  exact (State.wr_kept (State.wr_kept h z1) z2)

theorem State.setReg_kept {l s0} {s} {x1 : Nat} {x2} {p : Part} (h : Kept l s0 s) (hp : p.among l) (e : p.covers x1 = true) : Kept l s0 (State.setReg s x1 x2) := by
  refine h.trans ⟨⟨fun p _ => by cases p <;> first | rfl | exact True.intro, fun a ha => ?_⟩, fun c => ⟨⟨Sparse.wf_set c.1.1, c.1.2⟩, c.2⟩⟩
  refine Sparse.get_set_other fun w => ?_
  obtain ⟨q, hq, m⟩ := hp
  have u := ha q hq
  rw [w, Part.covers_of_le m e] at u
  cases u

theorem State.setReg_all_kept {l s0} {s} {x1 : Nat} {x2} (h : Kept l s0 s) (hp : Part.among .regs l) : Kept l s0 (State.setReg s x1 x2) :=
  h.regs hp fun c => Sparse.wf_set c.1.1

theorem State.wrInt_kept {l s0} {s} {x1} {x2} (h : Kept l s0 s) (z1 : Zoned l x1) :
    Kept l s0 (State.wrInt s x1 x2) := by
  unfold State.wrInt
  exact (State.wr_kept h z1)

theorem State.draw_kept {l s0} {s} (h : Kept l s0 s) (hp : Part.within [.freeCount] l) :
    Kept l s0 (State.draw s).2 := by
  unfold State.draw
  exact (Kept.beside (h.freeCount (Part.at hp)))

theorem State.drawBits_kept {l s0} {s} {x1 x2} (h : Kept l s0 s) (hp : Part.within [.freeCount] l) : Kept l s0 (State.drawBits s x1 x2).2 := by
  induction x2 generalizing s with
  | zero => exact h
  | succ n ih => exact ih (State.draw_kept h (Part.sub hp))

end Sys2Proof.Machine
end

