-- ==== Sys2Proof/Laws/Flags.lean ====
section
/-!
SUPPORT. What each operation of Machine/Flags.lean can change: one lemma per operation, named after it. An operation started in a
state that has kept all parts of an earlier one but some keeps all but those and the parts that its lemma lists, and the
canonical form of the sparse maps with them.
-/

set_option Elab.async false

namespace Sys2Proof.Machine

theorem State.stick_kept {l s0} {s} {x1} {x2} {x3} (h : Kept l s0 s) (z1 : Zoned l x1) (z2 : Zoned l x2) (z3 : ZonedOpt l x3) :
    Kept l s0 (State.stick s x1 x2 x3) := by
  unfold State.stick
  extract_lets +onlyGivenNames -merge -useContext -underBinder s1
  clear_value s1
  extract_lets +onlyGivenNames -merge -useContext -underBinder s3
  clear_value s3
  extract_lets +onlyGivenNames -merge -useContext -underBinder s5
  have h6 : Kept l s0 s5 := by unfold s5; exact (Kept.ite (State.wr_kept h z1) h)
  clear_value s5
  refine Kept.ite ?_ ?_
  · exact h6
  · extract_lets +onlyGivenNames -merge -useContext -underBinder s7
    clear_value s7
    extract_lets +onlyGivenNames -merge -useContext -underBinder s9
    have h10 : Kept l s0 s9 := by unfold s9; exact (State.wr_kept h6 z2)
    clear_value s9
    split
    · exact (Kept.ite (State.irq_kept h10 (z3 _ rfl)) h10)
    · exact h10

theorem State.wrap_kept {l s0} {s} {x1} (h : Kept l s0 s) (z1 : Zoned l x1) :
    Kept l s0 (State.wrap s x1) := by
  unfold State.wrap
  exact (State.wr_kept h z1)

theorem State.fault_kept {l s0} {s} {x1} {x2} {x3} (h : Kept l s0 s) (z1 : Zoned l x1) (hp : Part.within [.head 0x24, .head 0x14] l) :
    Kept l s0 (State.fault s x1 x2 x3) := by
  unfold State.fault
  extract_lets +onlyGivenNames -merge -useContext -underBinder s1
  clear_value s1
  extract_lets +onlyGivenNames -merge -useContext -underBinder s3
  have h4 : Kept l s0 s3 := by unfold s3; exact (Kept.ite (State.wr_kept h (HDR.FAULTINFO_zoned (Part.at hp))) h)
  clear_value s3
  exact (Kept.ite h4 (State.irq_kept (State.wr_kept h4 z1) (HDR.IRQRAW.fault_set_zoned (Part.at hp))))

theorem State.replyTo_kept {l s0} {s} {x1} {x2} (h : Kept l s0 s) (hp : Part.within [.msg] l) :
    Kept l s0 (State.replyTo s x1 x2) := by
  unfold State.replyTo
  split
  · exact h
  · exact (h.msg (Part.at hp))

theorem State.clearFault_kept {l s0} {s} {x1} {x2} (h : Kept l s0 s) (hp : Part.within [.head 0x20, .head 0x24] l) :
    Kept l s0 (State.clearFault s x1 x2) := by
  unfold State.clearFault
  extract_lets +onlyGivenNames -merge -useContext -underBinder s1
  clear_value s1
  extract_lets +onlyGivenNames -merge -useContext -underBinder s3
  clear_value s3
  extract_lets +onlyGivenNames -merge -useContext -underBinder s5
  clear_value s5
  extract_lets +onlyGivenNames -merge -useContext -underBinder s7
  have h8 : Kept l s0 s7 := by unfold s7; exact (State.wr_kept h (HDR.FAULT_zoned (Part.at hp)))
  clear_value s7
  exact (Kept.ite (State.wr_kept h8 (HDR.FAULTINFO_zoned (Part.at hp))) h8)

end Sys2Proof.Machine
end

