-- ==== Sys2Proof/Laws/Operands.lean ====
section
/-!
SUPPORT. What each operation of Machine/Operands.lean can change: one lemma per operation, named after it. An operation started in a
state that has kept all parts of an earlier one but some keeps all but those and the parts that its lemma lists, and the
canonical form of the sparse maps with them.
-/

set_option Elab.async false

namespace Sys2Proof.Machine

theorem State.awake_kept {l s0} {s} (h : Kept l s0 s) (hp : Part.within [.page 0x1] l) :
    Kept l s0 (State.awake s) := by
  unfold State.awake
  exact (Kept.ite (State.wr_kept h (PWR.STAT.state_zoned (Part.at hp))) h)

theorem State.command_kept {l s0} {s} {x1} {x2} {f3 : Sys2Proof.Machine.State → Sys2Proof.Machine.State} (h : Kept l s0 s) (hf3 : ∀ {t}, Kept l s0 t → Kept l s0 (f3 t)) (hp : Part.within [.page 0x1, .status] l) :
    KeptR l s0 (State.command s x1 x2 f3) := by
  unfold State.command
  refine KeptR.ite ?_ ?_
  · exact (KeptR.next h)
  · split
    · refine KeptR.next ?_
      extract_lets +onlyGivenNames -merge -useContext -underBinder s1
      have h2 : Kept l s0 s1 := by unfold s1; exact (hf3 (State.awake_kept h (Part.sub hp)))
      clear_value s1
      exact (h2.status (Part.at hp))
    · refine KeptR.next ?_
      extract_lets +onlyGivenNames -merge -useContext -underBinder s3
      have h4 : Kept l s0 s3 := by unfold s3; exact (State.awake_kept h (Part.sub hp))
      clear_value s3
      exact (h4.status (Part.at hp))

end Sys2Proof.Machine
end

