-- ==== Sys2Proof/Laws/Mem.lean ====
section
/-!
SUPPORT. What each operation of Machine/Mem.lean can change: one lemma per operation, named after it. An operation started in a
state that has kept all parts of an earlier one but some keeps all but those and the parts that its lemma lists, and the
canonical form of the sparse maps with them.
-/

set_option Elab.async false

namespace Sys2Proof.Machine

theorem State.boundDrop_kept {l s0} {s} (h : Kept l s0 s) (hp : Part.within [.head 0x24, .head 0x14, .page 0x42, .head 0x20] l) :
    Kept l s0 (State.boundDrop s) := by
  unfold State.boundDrop
  exact (State.fault_kept (State.stick_kept h (DMA.BFAULTCNT.count_zoned (Part.at hp)) (DMA.CNTOVF.bfault_zoned (Part.at hp)) (ZonedOpt.some (DMA.IRQRAW.cnt_ovf_zoned (Part.at hp)))) (DMA.FAULT.bound_zoned (Part.at hp)) (Part.sub hp))

theorem State.violation_kept {l s0} {s} {x1} {x2} {x3} {x4} (h : Kept l s0 s) (hp : Part.within [.page 0x41, .head 0x14] l) :
    Kept l s0 (State.violation s x1 x2 x3 x4) := by
  unfold State.violation
  exact (State.irq_kept (State.stick_kept (State.wr_kept (State.wr_kept h (MPTU.VIOL_zoned (Part.at hp))) (MPTU.VIOLADDR.addr_zoned (Part.at hp))) (MPTU.VIOLCNT.count_zoned (Part.at hp)) (MPTU.CNTOVF.viol_zoned (Part.at hp)) (ZonedOpt.some (MPTU.IRQRAW.cnt_ovf_zoned (Part.at hp)))) (MPTU.IRQRAW.viol_zoned (Part.at hp)))

theorem State.noteUncorrectable_kept {l s0} {s} {x1} (h : Kept l s0 s) (hp : Part.within [.head 0x24, .head 0x14, .page 0x40, .head 0x20] l) :
    Kept l s0 (State.noteUncorrectable s x1) := by
  unfold State.noteUncorrectable
  exact (State.fault_kept (State.irq_kept (State.wr_kept (State.stick_kept h (MEM.UECNT.count_zoned (Part.at hp)) (MEM.CNTOVF.ue_zoned (Part.at hp)) (ZonedOpt.some (MEM.IRQRAW.cnt_ovf_zoned (Part.at hp)))) (MEM.UEADDR.addr_zoned (Part.at hp))) (MEM.IRQRAW.ue_zoned (Part.at hp))) (MEM.FAULT.ue_zoned (Part.at hp)) (Part.sub hp))

theorem State.sramWrite_kept {l s0} {s} {x1} {x2} (h : Kept l s0 s) (hp : Part.within [.head 0x24, .head 0x14, .page 0x40, .head 0x20, .sram, .sramBad, .sramWeak] l) :
    Kept l s0 (State.sramWrite s x1 x2).2 := by
  unfold State.sramWrite
  extract_lets +onlyGivenNames -merge -useContext -underBinder s1
  clear_value s1
  split
  · exact (Kept.beside (State.noteUncorrectable_kept h (Part.sub hp)))
  · exact (Kept.beside (h.upd [.sram, .sramBad, .sramWeak] (Part.sub hp) (fun p hn => by cases p <;> first | rfl | exact True.intro | exact absurd (by decide) hn) rfl (fun c => ⟨⟨c.1.1, c.1.2.1, c.1.2.2.1, c.1.2.2.2⟩, Memory.wf_storeAll c.2.1, c.2.2⟩)))

theorem State.boundWrite_kept {l s0} {s} {x1} {x2} {x3} (h : Kept l s0 s) (hp : Part.within [.head 0x24, .head 0x14, .page 0x42, .head 0x20, .page 0x41, .page 0x40, .sram, .sramBad, .sramWeak] l) :
    Kept l s0 (State.boundWrite s x1 x2 x3).2 := by
  unfold State.boundWrite
  refine Kept.iteSnd ?_ ?_
  · exact (Kept.beside h)
  · refine Kept.iteSnd ?_ ?_
    · exact (Kept.beside (State.boundDrop_kept h (Part.sub hp)))
    · split
      · exact (Kept.beside (State.boundDrop_kept (State.violation_kept h (Part.sub hp)) (Part.sub hp)))
      · split
        · rename_i s12 q3
          have h1 : Kept l s0 s12 := Kept.snd q3 (State.sramWrite_kept h (Part.sub hp))
          exact (Kept.beside h1)
        · rename_i s15 q6
          have h4 : Kept l s0 s15 := Kept.snd q6 (State.sramWrite_kept h (Part.sub hp))
          exact (Kept.beside (State.boundDrop_kept h4 (Part.sub hp)))

theorem State.noteCorrected_kept {l s0} {s} {x1} (h : Kept l s0 s) (hp : Part.within [.page 0x40, .head 0x14, .sramWeak] l) :
    Kept l s0 (State.noteCorrected s x1) := by
  unfold State.noteCorrected
  extract_lets +onlyGivenNames -merge -useContext -underBinder s1
  have h2 : Kept l s0 s1 := by unfold s1; exact (State.irq_kept (State.wr_kept (State.stick_kept h (MEM.CECNT.count_zoned (Part.at hp)) (MEM.CNTOVF.ce_zoned (Part.at hp)) (ZonedOpt.some (MEM.IRQRAW.cnt_ovf_zoned (Part.at hp)))) (MEM.CEADDR.addr_zoned (Part.at hp))) (MEM.IRQRAW.ce_zoned (Part.at hp)))
  clear_value s1
  exact (h2.sramWeak (Part.at hp))

theorem State.sramSee_kept {l s0} {s} {x1} {x2} (h : Kept l s0 s) (hp : Part.within [.page 0x40, .head 0x14, .sramWeak, .head 0x24, .head 0x20] l) :
    Kept l s0 (State.sramSee s x1 x2).2 := by
  unfold State.sramSee
  extract_lets +onlyGivenNames -merge -useContext -underBinder s1
  have h2 : Kept l s0 s1 := by unfold s1; exact (Kept.each h (fun _ _ h3 => (State.noteCorrected_kept h3 (Part.sub hp))))
  clear_value s1
  split
  · exact (Kept.beside h2)
  · exact (Kept.beside (State.noteUncorrectable_kept h2 (Part.sub hp)))

theorem State.boundRead_kept {l s0} {s} {x1} {x2} {x3} (h : Kept l s0 s) (hp : Part.within [.head 0x24, .head 0x14, .page 0x42, .head 0x20, .page 0x40, .sramWeak] l) :
    Kept l s0 (State.boundRead s x1 x2 x3).2 := by
  unfold State.boundRead
  exact (Kept.iteSnd (Kept.beside h) (Kept.iteSnd (Kept.beside (State.boundDrop_kept h (Part.sub hp))) (Kept.iteSnd (Kept.beside (State.sramSee_kept h (Part.sub hp))) (Kept.beside (State.boundDrop_kept (State.sramSee_kept h (Part.sub hp)) (Part.sub hp))))))

theorem State.sramRead_kept {l s0} {s} {x1} {x2} (h : Kept l s0 s) (hp : Part.within [.page 0x40, .head 0x14, .sramWeak, .head 0x24, .head 0x20] l) :
    Kept l s0 (State.sramRead s x1 x2).2 := by
  unfold State.sramRead
  exact (Kept.beside (State.sramSee_kept h (Part.sub hp)))

theorem State.externalRead_kept {l s0} {s} {x1} {x2} {x3} (h : Kept l s0 s) (hp : Part.within [.page 0x41, .head 0x14, .page 0x40, .sramWeak, .head 0x24, .head 0x20] l) :
    Kept l s0 (State.externalRead s x1 x2 x3).2 := by
  unfold State.externalRead
  split
  · split
    · exact (Kept.beside (State.violation_kept h (Part.sub hp)))
    · extract_lets +onlyGivenNames -merge -useContext -underBinder s1
      clear_value s1
      split
      · rename_i r4 s15 q18
        have h3 : Kept l s0 s15 := by
          refine Kept.snd q18 ?_
          refine Kept.foldlSnd (fun _ _ h6 => ?_) _ _ ?_
          · split
            · rename_i acc8 st9
              have h7 : Kept l s0 st9 := h6
              split
              · split
                · exact (Kept.beside h7)
                · split
                  · rename_i bs11 st112 q13
                    have h10 : Kept l s0 st112 := Kept.snd q13 (State.sramRead_kept h7 (Part.sub hp))
                    exact (Kept.beside h10)
                  · rename_i st115 q16
                    have h14 : Kept l s0 st115 := Kept.snd q16 (State.sramRead_kept h7 (Part.sub hp))
                    exact (Kept.beside h14)
          · exact (Kept.beside h)
        split
        · exact (Kept.beside h3)
        · exact (Kept.beside h3)
  · exact (Kept.beside h)

theorem State.externalWrite_kept {l s0} {s} {x1} {x2} {x3} (h : Kept l s0 s) (hp : Part.within [.head 0x24, .head 0x14, .page 0x40, .head 0x20, .sram, .sramBad, .sramWeak, .page 0x41] l) :
    Kept l s0 (State.externalWrite s x1 x2 x3).2 := by
  unfold State.externalWrite
  split
  · refine Kept.beside ?_
    refine Kept.each h (fun _ _ h1 => ?_)
    extract_lets +onlyGivenNames -merge -useContext -underBinder s2
    clear_value s2
    split
    · exact (State.sramWrite_kept h1 (Part.sub hp))
    · exact h1
  · split
    · exact (Kept.beside (State.violation_kept h (Part.sub hp)))
    · exact (Kept.beside h)
  · extract_lets +onlyGivenNames -merge -useContext -underBinder s4
    clear_value s4
    exact (Kept.beside (State.noteUncorrectable_kept h (Part.sub hp)))
  · exact (Kept.beside h)

theorem execScrubStep_kept {l s0} {x0} {s} (h : Kept l s0 s) (hp : Part.within [.page 0x40, .head 0x14, .sramWeak, .head 0x24, .head 0x20, .sramBad] l) :
    KeptR l s0 (execScrubStep x0 s) := by
  unfold execScrubStep
  refine KeptR.ite ?_ ?_
  · exact (KeptR.next h)
  · extract_lets +onlyGivenNames -merge -useContext -underBinder s1
    clear_value s1
    extract_lets +onlyGivenNames -merge -useContext -underBinder s3
    clear_value s3
    extract_lets +onlyGivenNames -merge -useContext -underBinder s5
    clear_value s5
    extract_lets +onlyGivenNames -merge -useContext -underBinder s7
    clear_value s7
    extract_lets +onlyGivenNames -merge -useContext -underBinder s9
    have h10 : Kept l s0 s9 := by unfold s9; exact (Kept.ite (State.noteCorrected_kept h (Part.sub hp)) (Kept.ite (State.noteUncorrectable_kept (h.sramBad (Part.at hp)) (Part.sub hp)) h))
    clear_value s9
    exact (KeptR.ite (KeptR.next (State.wr_kept h10 (MEM.SCRUBPOS.word_zoned (Part.at hp)))) (KeptR.next (State.wrap_kept (State.wr_kept h10 (MEM.SCRUBPOS.word_zoned (Part.at hp))) (MEM.PASSCNT.count_zoned (Part.at hp)))))

end Sys2Proof.Machine
end

