-- ==== Sys2Proof/Laws/Nvm.lean ====
section
/-!
SUPPORT. What each operation of Machine/Nvm.lean can change: one lemma per operation, named after it. An operation started in a
state that has kept all parts of an earlier one but some keeps all but those and the parts that its lemma lists, and the
canonical form of the sparse maps with them.
-/

set_option Elab.async false

namespace Sys2Proof.Machine

theorem State.touchImage_kept {l s0} {s} {x1} (h : Kept l s0 s) (hp : Part.within [.page 0x58] l) :
    Kept l s0 (State.touchImage s x1) := by
  unfold State.touchImage
  split
  · exact h
  · exact (Kept.ite (State.wr_kept h (SEC.IMGSTAT.reason_zoned (Part.at hp))) (State.wr_kept (State.wr_kept (State.wr_kept h (SEC.IMGSTAT.state_zoned (Part.at hp))) (SEC.IMGSTAT.reason_zoned (Part.at hp))) (SEC.IMGSEQ.seq_zoned (Part.at hp))))

theorem State.storeSee_kept {l s0} {s} {x1} {x2} (h : Kept l s0 s) (hp : Part.within [.page 0x48, .head 0x14, .head 0x24, .head 0x20] l) :
    Kept l s0 (State.storeSee s x1 x2) := by
  unfold State.storeSee
  extract_lets +onlyGivenNames -merge -useContext -underBinder s1
  have h2 : Kept l s0 s1 := by unfold s1; exact (Kept.each h (fun _ _ h3 => (State.stick_kept h3 (NVM.ECCCNT.count_zoned (Part.at hp)) (NVM.CNTOVF.ecc_zoned (Part.at hp)) (ZonedOpt.some (NVM.IRQRAW.cnt_ovf_zoned (Part.at hp))))))
  clear_value s1
  exact (Kept.ite h2 (State.fault_kept (State.irq_kept (State.stick_kept h2 (NVM.UECNT.count_zoned (Part.at hp)) (NVM.CNTOVF.ue_zoned (Part.at hp)) (ZonedOpt.some (NVM.IRQRAW.cnt_ovf_zoned (Part.at hp)))) (NVM.IRQRAW.ue_zoned (Part.at hp))) (NVM.FAULT.ue_zoned (Part.at hp)) (Part.sub hp)))

theorem State.showBytes_kept {l s0} {s} {x1} {x2} {x3} (h : Kept l s0 s) (z1 : ZonedFn l x1) :
    Kept l s0 (State.showBytes s x1 x2 x3) := by
  unfold State.showBytes
  exact (Kept.each h (fun _ _ h1 => (State.wr_kept h1 (z1.at _))))

theorem State.showIdentity_kept {l s0} {s} (h : Kept l s0 s) (hp : Part.within [.page 0x58, .page 0x48, .head 0x14, .head 0x24, .head 0x20] l) :
    Kept l s0 (State.showIdentity s) := by
  unfold State.showIdentity
  extract_lets +onlyGivenNames -merge -useContext -underBinder s1
  have h2 : Kept l s0 s1 := by unfold s1; exact (Kept.each (State.wr_kept h (SEC.STAT.id_valid_zoned (Part.at hp))) (fun _ _ h3 => (State.wr_kept h3 (SEC.IDPUB.bytes_zoned (Part.at hp)))))
  clear_value s1
  refine Kept.ite ?_ ?_
  · exact h2
  · split
    · exact (State.storeSee_kept h2 (Part.sub hp))
    · split
      · exact (State.storeSee_kept h2 (Part.sub hp))
      · exact (State.storeSee_kept (State.showBytes_kept (State.showBytes_kept (State.wr_kept h (SEC.STAT.id_valid_zoned (Part.at hp))) (ZonedFn.pageOf (n := 88) (Part.at hp) (fun _ => by simp only [SEC.IDPUB.bytes]; omega))) (ZonedFn.pageOf (n := 88) (Part.at hp) (fun _ => by simp only [SEC.IDPUB.bytes]; omega))) (Part.sub hp))

theorem State.touchStore_kept {l s0} {s} {x1} {x2} (h : Kept l s0 s) (hp : Part.within [.page 0x58, .page 0x48, .head 0x14, .head 0x24, .head 0x20] l) :
    Kept l s0 (State.touchStore s x1 x2) := by
  unfold State.touchStore
  exact (Kept.when (State.touchImage_kept h (Part.sub hp)) (fun _ h1 => (State.showIdentity_kept h1 (Part.sub hp))))

theorem State.storeUndefine_kept {l s0} {s} {x1} {x2} (h : Kept l s0 s) (hp : Part.within [.freeCount, .page 0x58, .page 0x48, .head 0x14, .head 0x24, .head 0x20, .nvm] l) :
    Kept l s0 (State.storeUndefine s x1 x2) := by
  unfold State.storeUndefine
  split
  · rename_i tag2 s13 q6
    have h1 : Kept l s0 s13 := Kept.snd q6 (Kept.beside (h.freeCount (Part.at hp)))
    extract_lets +onlyGivenNames -merge -useContext -underBinder s4
    clear_value s4
    exact (State.touchStore_kept (h1.nvm (Part.at hp)) (Part.sub hp))

theorem State.cutStore_kept {l s0} {s} {x1} (h : Kept l s0 s) (hp : Part.within [.freeCount, .page 0x58, .page 0x48, .head 0x14, .head 0x24, .head 0x20, .nvm] l) :
    Kept l s0 (State.cutStore s x1) := by
  unfold State.cutStore
  exact (Kept.ite (State.storeUndefine_kept h (Part.sub hp)) (Kept.ite (State.storeUndefine_kept h (Part.sub hp)) h))

theorem State.nvmCut_kept {l s0} {s} (h : Kept l s0 s) (hp : Part.within [.freeCount, .page 0x58, .page 0x48, .head 0x14, .head 0x24, .head 0x20, .nvm, .page 0x49, .recorder] l) :
    Kept l s0 (State.nvmCut s) := by
  unfold State.nvmCut
  extract_lets +onlyGivenNames -merge -useContext -underBinder s1
  have h2 : Kept l s0 s1 := by
    unfold s1
    split
    · exact (State.cutStore_kept h (Part.sub hp))
    · exact h
  clear_value s1
  extract_lets +onlyGivenNames -merge -useContext -underBinder s3
  have h4 : Kept l s0 s3 := by unfold s3; exact (Kept.ite (State.wr_kept h2 (NVM.CMDSTAT.state_zoned (Part.at hp))) h2)
  clear_value s3
  extract_lets +onlyGivenNames -merge -useContext -underBinder s5 s6 s7
  have h8 : Kept l s0 s5 := by unfold s5; exact (State.wr_kept h4 (REC.STAT.snapping_zoned (Part.at hp)))
  have h10 : Kept l s0 s7 := by unfold s7; exact (Kept.ite (State.fault_kept (h8.recorder (Part.at hp)) (REC.FAULT.snapwr_zoned (Part.at hp)) (Part.sub hp)) h4)
  clear_value s7
  clear_value s6
  clear_value s5
  extract_lets +onlyGivenNames -merge -useContext -underBinder s11
  clear_value s11
  exact (h10.upd [.recorder, .nvm] (Part.sub hp) (fun p hn => by cases p <;> first | rfl | exact True.intro | exact absurd (by decide) hn) rfl id)

theorem State.nvmNext_kept {l s0} {s} (h : Kept l s0 s) (hp : Part.within [.nvm, .page 0x48] l) :
    Kept l s0 (State.nvmNext s) := by
  unfold State.nvmNext
  split
  · exact (h.nvm (Part.at hp))
  · extract_lets +onlyGivenNames -merge -useContext -underBinder s1 s2
    have h4 : Kept l s0 s2 := by unfold s2; exact (h.nvm (Part.at hp))
    clear_value s2
    clear_value s1
    exact (Kept.ite (State.wr_kept h4 (NVM.CMDSTAT.state_zoned (Part.at hp))) h4)

theorem State.nvmGo_kept {l s0} {s} (h : Kept l s0 s) (hp : Part.within [.nvm, .page 0x48] l) :
    Kept l s0 (State.nvmGo s) := by
  unfold State.nvmGo
  exact (Kept.ite (State.nvmNext_kept h (Part.sub hp)) h)

theorem State.nvmIssue_kept {l s0} {s} {x1} (h : Kept l s0 s) (hp : Part.within [.nvm] l) :
    Kept l s0 (State.nvmIssue s x1) := by
  unfold State.nvmIssue
  exact (Kept.ite (h.nvm (Part.at hp)) (h.nvm (Part.at hp)))

theorem State.pageProgram_kept {l s0} {s} {x1} {x2} (h : Kept l s0 s) (hp : Part.within [.store, .nvm, .page 0x58, .page 0x48, .head 0x14, .head 0x24, .head 0x20] l) :
    Kept l s0 (State.pageProgram s x1 x2).2 := by
  unfold State.pageProgram
  extract_lets +onlyGivenNames -merge -useContext -underBinder s1
  clear_value s1
  extract_lets +onlyGivenNames -merge -useContext -underBinder s3
  clear_value s3
  extract_lets +onlyGivenNames -merge -useContext -underBinder s5
  clear_value s5
  extract_lets +onlyGivenNames -merge -useContext -underBinder s7
  clear_value s7
  extract_lets +onlyGivenNames -merge -useContext -underBinder s9
  clear_value s9
  extract_lets +onlyGivenNames -merge -useContext -underBinder s11
  clear_value s11
  extract_lets +onlyGivenNames -merge -useContext -underBinder s13 s14
  have h16 : Kept l s0 s14 := by unfold s14; exact (Kept.ite ((h.store (Part.at hp) (fun c => Memory.wf_storeAll c.2.2)).nvm (Part.at hp)) (h.store (Part.at hp) (fun c => Memory.wf_storeAll c.2.2)))
  clear_value s14
  clear_value s13
  exact (Kept.beside (State.touchStore_kept h16 (Part.sub hp)))

theorem State.storeProgram_kept {l s0} {s} {x1} {x2} (h : Kept l s0 s) (hp : Part.within [.store, .nvm, .page 0x58, .page 0x48, .head 0x14, .head 0x24, .head 0x20] l) :
    Kept l s0 (State.storeProgram s x1 x2).2 := by
  unfold State.storeProgram
  refine Kept.foldlSnd (fun _ _ h1 => ?_) _ _ ?_
  · split
    · rename_i ok3 st4
      have h2 : Kept l s0 st4 := h1
      refine Kept.iteSnd ?_ ?_
      · exact (Kept.beside h2)
      · split
        · rename_i t6 q7
          have h5 : Kept l s0 t6 := Kept.snd q7 (State.pageProgram_kept h2 (Part.sub hp))
          exact (Kept.beside h5)
        · rename_i t9 q10
          have h8 : Kept l s0 t9 := Kept.snd q10 (State.pageProgram_kept h2 (Part.sub hp))
          exact (Kept.beside (State.fault_kept h8 (NVM.FAULT.verify_zoned (Part.at hp)) (Part.sub hp)))
  · exact (Kept.beside h)

theorem State.programFailed_kept {l s0} {s} {x1} {x2} (h : Kept l s0 s) (hp : Part.within [.head 0x24, .head 0x14, .freeCount, .page 0x58, .page 0x48, .head 0x20, .nvm] l) :
    Kept l s0 (State.programFailed s x1 x2) := by
  unfold State.programFailed
  exact (State.fault_kept (State.storeUndefine_kept h (Part.sub hp)) (NVM.FAULT.verify_zoned (Part.at hp)) (Part.sub hp))

theorem State.storeRead_kept {l s0} {s} {x1} {x2} (h : Kept l s0 s) (hp : Part.within [.page 0x48, .head 0x14, .head 0x24, .head 0x20] l) :
    Kept l s0 (State.storeRead s x1 x2).2 := by
  unfold State.storeRead
  exact (Kept.beside (State.storeSee_kept h (Part.sub hp)))

theorem State.nvmRefuse_kept {l s0} {s} {x1} (h : Kept l s0 s) (hp : Part.within [.page 0x48, .head 0x14] l) :
    Kept l s0 (State.nvmRefuse s x1) := by
  unfold State.nvmRefuse
  exact (State.irq_kept (State.wr_kept (State.wr_kept h (NVM.CMDSTAT.state_zoned (Part.at hp))) (NVM.CMDSTAT.reason_zoned (Part.at hp))) (NVM.IRQRAW.cmd_refused_zoned (Part.at hp)))

theorem State.nvmCommand_kept {l s0} {s} {x1} {x2} (h : Kept l s0 s) (hp : Part.within [.freeCount, .page 0x58, .page 0x48, .head 0x14, .head 0x24, .head 0x20, .nvm] l) :
    Kept l s0 (State.nvmCommand s x1 x2) := by
  unfold State.nvmCommand
  refine Kept.ite ?_ ?_
  · refine Kept.ite ?_ ?_
    · extract_lets +onlyGivenNames -merge -useContext -underBinder s1
      clear_value s1
      extract_lets +onlyGivenNames -merge -useContext -underBinder s3
      have h4 : Kept l s0 s3 := by
        unfold s3
        split
        · exact (State.cutStore_kept (State.nvmGo_kept (h.nvm (Part.at hp)) (Part.sub hp)) (Part.sub hp))
        · exact (h.nvm (Part.at hp))
      clear_value s3
      exact (State.irq_kept (State.wr_kept (State.wr_kept h4 (NVM.CMDSTAT.state_zoned (Part.at hp))) (NVM.CMDSTAT.already_done_zoned (Part.at hp))) (NVM.IRQRAW.cmd_done_zoned (Part.at hp)))
    · exact (Kept.ite (State.wr_kept h (NVM.CMDSTAT.already_done_zoned (Part.at hp))) (State.nvmRefuse_kept h (Part.sub hp)))
  · refine Kept.ite ?_ ?_
    · refine Kept.ite ?_ ?_
      · exact (State.nvmRefuse_kept h (Part.sub hp))
      · refine Kept.ite ?_ ?_
        · exact (State.nvmRefuse_kept h (Part.sub hp))
        · refine Kept.ite ?_ ?_
          · exact (State.nvmRefuse_kept h (Part.sub hp))
          · extract_lets +onlyGivenNames -merge -useContext -underBinder s5
            clear_value s5
            extract_lets +onlyGivenNames -merge -useContext -underBinder s7
            clear_value s7
            exact (State.wr_kept (State.wr_kept (State.wr_kept (State.nvmIssue_kept h (Part.sub hp)) (NVM.CMDSTAT.state_zoned (Part.at hp))) (NVM.CMDSTAT.reason_zoned (Part.at hp))) (NVM.CMDSTAT.already_done_zoned (Part.at hp)))
    · exact (State.nvmRefuse_kept h (Part.sub hp))

theorem State.storeIdentity_kept {l s0} {s} {x1} (h : Kept l s0 s) (hp : Part.within [.store, .nvm] l) :
    Kept l s0 (State.storeIdentity s x1) := by
  unfold State.storeIdentity
  extract_lets +onlyGivenNames -merge -useContext -underBinder s1
  clear_value s1
  extract_lets +onlyGivenNames -merge -useContext -underBinder s3
  clear_value s3
  exact ((h.store (Part.at hp) (fun c => Memory.wf_storeAll c.2.2)).nvm (Part.at hp))

theorem State.storeErase_kept {l s0} {s} {x1} (h : Kept l s0 s) (hp : Part.within [.page 0x58, .page 0x48, .head 0x14, .head 0x24, .head 0x20, .store, .nvm] l) :
    Kept l s0 (State.storeErase s x1) := by
  unfold State.storeErase
  extract_lets +onlyGivenNames -merge -useContext -underBinder s1
  clear_value s1
  exact (State.touchStore_kept ((h.store (Part.at hp) (fun c => Sparse.wf_of_filter c.2.2)).nvm (Part.at hp)) (Part.sub hp))

theorem execNvmProgram_kept {l s0} {x0} {s} (h : Kept l s0 s) (hp : Part.within [.page 0x1, .status, .freeCount, .page 0x58, .page 0x48, .head 0x14, .head 0x24, .head 0x20, .nvm] l) :
    KeptR l s0 (execNvmProgram x0 s) := by
  unfold execNvmProgram
  exact (State.command_kept h (fun h1 => (State.nvmCommand_kept h1 (Part.sub hp))) (Part.sub hp))

theorem execNvmErase_kept {l s0} {x0} {s} (h : Kept l s0 s) (hp : Part.within [.page 0x1, .status, .freeCount, .page 0x58, .page 0x48, .head 0x14, .head 0x24, .head 0x20, .nvm] l) :
    KeptR l s0 (execNvmErase x0 s) := by
  unfold execNvmErase
  exact (State.command_kept h (fun h1 => (State.nvmCommand_kept h1 (Part.sub hp))) (Part.sub hp))

theorem execNvmCrc_kept {l s0} {x0} {s} (h : Kept l s0 s) (hp : Part.within [.page 0x1, .status, .freeCount, .page 0x58, .page 0x48, .head 0x14, .head 0x24, .head 0x20, .nvm] l) :
    KeptR l s0 (execNvmCrc x0 s) := by
  unfold execNvmCrc
  exact (State.command_kept h (fun h1 => (State.nvmCommand_kept h1 (Part.sub hp))) (Part.sub hp))

theorem execNvmAbort_kept {l s0} {x0} {s} (h : Kept l s0 s) (hp : Part.within [.page 0x1, .status, .freeCount, .page 0x58, .page 0x48, .head 0x14, .head 0x24, .head 0x20, .nvm] l) :
    KeptR l s0 (execNvmAbort x0 s) := by
  unfold execNvmAbort
  exact (State.command_kept h (fun h1 => (State.nvmCommand_kept h1 (Part.sub hp))) (Part.sub hp))

end Sys2Proof.Machine
end

