-- ==== Sys2Proof/Laws/Dma.lean ====
section
/-!
SUPPORT. What each operation of Machine/Dma.lean can change: one lemma per operation, named after it. An operation started in a
state that has kept all parts of an earlier one but some keeps all but those and the parts that its lemma lists, and the
canonical form of the sparse maps with them.
-/

set_option Elab.async false

namespace Sys2Proof.Machine

theorem State.setStream_kept {l s0} {s} {x1} {x2} (h : Kept l s0 s) (hp : Part.within [.dma] l) :
    Kept l s0 (State.setStream s x1 x2) := by
  unfold State.setStream
  exact (h.dma (Part.at hp))

theorem State.freeEngine_kept {l s0} {s} (h : Kept l s0 s) (hp : Part.within [.page 0x42] l) :
    Kept l s0 (State.freeEngine s) := by
  unfold State.freeEngine
  exact (State.wr_kept (State.wr_kept h (DMA.ACTIVE.busy_zoned (Part.at hp))) (DMA.ACTIVE.stream_zoned (Part.at hp)))

theorem State.haltStream_kept {l s0} {s} {x1} {x2} {x3} (h : Kept l s0 s) (hp : Part.within [.page 0x42, .dma, .head 0x24, .head 0x14, .head 0x20] l) :
    Kept l s0 (State.haltStream s x1 x2 x3) := by
  unfold State.haltStream
  extract_lets +onlyGivenNames -merge -useContext -underBinder s1
  clear_value s1
  extract_lets +onlyGivenNames -merge -useContext -underBinder s3
  have h4 : Kept l s0 s3 := by unfold s3; exact (State.putNth_kept (State.wr_kept (State.wr_kept (State.wr_kept (State.wr_kept h (DMA.SCTL.state_zoned (Part.at hp))) (DMA.SCTL.code_zoned (Part.at hp))) (DMA.SRESD.desc_zoned (Part.at hp))) (DMA.SRESO.offset_zoned (Part.at hp))) (ZonedFn.pageOf (n := 66) (Part.at hp) (fun _ => by simp only [DMA.HALT.s]; omega)))
  clear_value s3
  extract_lets +onlyGivenNames -merge -useContext -underBinder s5
  have h6 : Kept l s0 s5 := by unfold s5; exact (State.setStream_kept (State.fault_kept (State.irq_kept h4 (DMA.IRQRAW.halt_zoned (Part.at hp))) (DMA.FAULT.halt_zoned (Part.at hp)) (Part.sub hp)) (Part.sub hp))
  clear_value s5
  exact (Kept.ite (State.freeEngine_kept h6 (Part.sub hp)) h6)

theorem State.haltStreams_kept {l s0} {s} {x1} (h : Kept l s0 s) (hp : Part.within [.page 0x42, .dma, .head 0x24, .head 0x14, .head 0x20] l) :
    Kept l s0 (State.haltStreams s x1) := by
  unfold State.haltStreams
  exact (Kept.each h (fun _ _ h1 => (Kept.ite (State.haltStream_kept h1 (Part.sub hp)) h1)))

theorem State.beginDesc_kept {l s0} {s} {x1} {x2} {x3} {x4} (h : Kept l s0 s) (hp : Part.within [.dma, .page 0x42, .head 0x24, .head 0x14, .head 0x20, .page 0x40, .sramWeak] l) :
    Kept l s0 (State.beginDesc s x1 x2 x3 x4) := by
  unfold State.beginDesc
  extract_lets +onlyGivenNames -merge -useContext -underBinder s1
  clear_value s1
  extract_lets +onlyGivenNames -merge -useContext -underBinder s3
  have h4 : Kept l s0 s3 := by unfold s3; exact (State.setStream_kept h (Part.sub hp))
  clear_value s3
  refine Kept.ite ?_ ?_
  · exact (State.haltStream_kept h4 (Part.sub hp))
  · refine Kept.ite ?_ ?_
    · exact (State.haltStream_kept h4 (Part.sub hp))
    · split
      · rename_i s16 q7
        have h5 : Kept l s0 s16 := Kept.snd q7 (State.sramRead_kept h4 (Part.sub hp))
        exact (State.haltStream_kept h5 (Part.sub hp))
      · rename_i bs9 s110 q21
        have h8 : Kept l s0 s110 := Kept.snd q21 (State.sramRead_kept h4 (Part.sub hp))
        extract_lets +onlyGivenNames -merge -useContext -underBinder s11
        clear_value s11
        extract_lets +onlyGivenNames -merge -useContext -underBinder s13
        clear_value s13
        extract_lets +onlyGivenNames -merge -useContext -underBinder s15
        clear_value s15
        extract_lets +onlyGivenNames -merge -useContext -underBinder s17
        have h18 : Kept l s0 s17 := by unfold s17; exact (State.setStream_kept h8 (Part.sub hp))
        clear_value s17
        extract_lets +onlyGivenNames -merge -useContext -underBinder s19
        clear_value s19
        exact (Kept.ite (State.haltStream_kept h18 (Part.sub hp)) (Kept.ite (State.haltStream_kept h18 (Part.sub hp)) h18))

theorem State.ringWrite_kept {l s0} {s} {x1} (h : Kept l s0 s) (hp : Part.within [.dma, .page 0x42, .head 0x14, .head 0x24, .head 0x20, .page 0x41, .page 0x40, .sram, .sramBad, .sramWeak] l) :
    Kept l s0 (State.ringWrite s x1) := by
  unfold State.ringWrite
  refine Kept.ite ?_ ?_
  · exact h
  · refine Kept.ite ?_ ?_
    · exact (h.dma (Part.at hp))
    · extract_lets +onlyGivenNames -merge -useContext -underBinder s1
      clear_value s1
      extract_lets +onlyGivenNames -merge -useContext -underBinder s3
      clear_value s3
      refine Kept.ite ?_ ?_
      · exact (State.irq_kept (State.stick_kept h (DMA.RRDROP.count_zoned (Part.at hp)) (DMA.CNTOVF.rrdrop_zoned (Part.at hp)) (ZonedOpt.some (DMA.IRQRAW.cnt_ovf_zoned (Part.at hp)))) (DMA.IRQRAW.rr_drop_zoned (Part.at hp)))
      · split
        · rename_i s16 q7
          have h5 : Kept l s0 s16 := Kept.snd q7 (State.boundWrite_kept h (Part.sub hp))
          exact (State.wrap_kept h5 (DMA.RRPROD.index_zoned (Part.at hp)))
        · rename_i s19 q10
          have h8 : Kept l s0 s19 := Kept.snd q10 (State.boundWrite_kept h (Part.sub hp))
          exact h8

theorem State.takeEngine_kept {l s0} {s} {x1} (h : Kept l s0 s) (hp : Part.within [.dma, .page 0x42, .head 0x24, .head 0x14, .head 0x20, .page 0x40, .sramWeak] l) :
    Kept l s0 (State.takeEngine s x1) := by
  unfold State.takeEngine
  extract_lets +onlyGivenNames -merge -useContext -underBinder s1
  clear_value s1
  extract_lets +onlyGivenNames -merge -useContext -underBinder s3
  have h4 : Kept l s0 s3 := by unfold s3; exact (State.setStream_kept (State.wr_kept (State.wr_kept (State.wr_kept h (DMA.SCTL.state_zoned (Part.at hp))) (DMA.ACTIVE.busy_zoned (Part.at hp))) (DMA.ACTIVE.stream_zoned (Part.at hp))) (Part.sub hp))
  clear_value s3
  split
  · exact (State.beginDesc_kept h4 (Part.sub hp))
  · exact h4

theorem State.pickNext_kept {l s0} {s} {x1} (h : Kept l s0 s) (hp : Part.within [.dma, .page 0x42, .head 0x24, .head 0x14, .head 0x20, .page 0x40, .sramWeak] l) :
    Kept l s0 (State.pickNext s x1) := by
  unfold State.pickNext
  refine Kept.ite ?_ ?_
  · exact h
  · split
    · exact h
    · split
      · exact (State.takeEngine_kept h (Part.sub hp))
      · exact h

theorem State.pickStream_kept {l s0} {s} {x1} (h : Kept l s0 s) (hp : Part.within [.dma, .page 0x42, .head 0x24, .head 0x14, .head 0x20, .page 0x40, .sramWeak] l) :
    Kept l s0 (State.pickStream s x1) := by
  unfold State.pickStream
  exact (Kept.each h (fun _ _ h1 => (State.pickNext_kept h1 (Part.sub hp))))

theorem State.completeDesc_kept {l s0} {s} {x1} (h : Kept l s0 s) (hp : Part.within [.page 0x41, .head 0x14, .head 0x24, .page 0x40, .head 0x20, .sram, .sramBad, .sramWeak, .page 0x42, .dma] l) :
    Kept l s0 (State.completeDesc s x1) := by
  unfold State.completeDesc
  extract_lets +onlyGivenNames -merge -useContext -underBinder s1
  clear_value s1
  extract_lets +onlyGivenNames -merge -useContext -underBinder s3
  clear_value s3
  extract_lets +onlyGivenNames -merge -useContext -underBinder s5
  clear_value s5
  extract_lets +onlyGivenNames -merge -useContext -underBinder s7
  clear_value s7
  split
  · rename_i ok10 s111 q16
    have h9 : Kept l s0 s111 := by
      refine Kept.snd q16 ?_
      refine Kept.iteSnd ?_ ?_
      · split
        · exact (Kept.beside (State.violation_kept h (Part.sub hp)))
        · exact (State.sramWrite_kept h (Part.sub hp))
      · exact (Kept.beside h)
    refine Kept.ite ?_ ?_
    · exact (State.haltStream_kept h9 (Part.sub hp))
    · extract_lets +onlyGivenNames -merge -useContext -underBinder s12
      clear_value s12
      extract_lets +onlyGivenNames -merge -useContext -underBinder s14
      have h15 : Kept l s0 s14 := by unfold s14; exact (Kept.ite (State.irq_kept (State.putNth_kept h9 (ZonedFn.pageOf (n := 66) (Part.at hp) (fun _ => by simp only [DMA.DONE.s]; omega))) (DMA.IRQRAW.done_zoned (Part.at hp))) h9)
      clear_value s14
      exact (Kept.ite (State.freeEngine_kept (State.wr_kept h15 (DMA.SCTL.state_zoned (Part.at hp))) (Part.sub hp)) (State.beginDesc_kept (State.setStream_kept h15 (Part.sub hp)) (Part.sub hp)))

theorem State.burstData_kept {l s0} {s} {x1} {x2} (h : Kept l s0 s) (hp : Part.within [.page 0x40, .head 0x14, .sramWeak, .head 0x24, .head 0x20, .page 0x48] l) :
    Kept l s0 (State.burstData s x1 x2).2 := by
  unfold State.burstData
  refine Kept.iteSnd ?_ ?_
  · exact (Kept.beside h)
  · refine Kept.iteSnd ?_ ?_
    · split
      · rename_i bs2 s13 q4
        have h1 : Kept l s0 s13 := Kept.snd q4 (State.sramRead_kept h (Part.sub hp))
        exact (Kept.beside h1)
      · rename_i s16 q11
        have h5 : Kept l s0 s16 := Kept.snd q11 (State.sramRead_kept h (Part.sub hp))
        extract_lets +onlyGivenNames -merge -useContext -underBinder s7
        clear_value s7
        extract_lets +onlyGivenNames -merge -useContext -underBinder s9
        clear_value s9
        exact (Kept.beside h5)
    · extract_lets +onlyGivenNames -merge -useContext -underBinder s12
      clear_value s12
      split
      · rename_i bs15 s116 q17
        have h14 : Kept l s0 s116 := Kept.snd q17 (State.storeRead_kept h (Part.sub hp))
        exact (Kept.beside h14)
      · rename_i s119 q24
        have h18 : Kept l s0 s119 := Kept.snd q24 (State.storeRead_kept h (Part.sub hp))
        extract_lets +onlyGivenNames -merge -useContext -underBinder s20
        clear_value s20
        extract_lets +onlyGivenNames -merge -useContext -underBinder s22
        clear_value s22
        exact (Kept.beside h18)

theorem State.burst_kept {l s0} {s} {x1} (h : Kept l s0 s) (hp : Part.within [.page 0x41, .head 0x14, .head 0x24, .page 0x40, .head 0x20, .sram, .sramBad, .sramWeak, .page 0x42, .dma, .page 0x48] l) :
    Kept l s0 (State.burst s x1) := by
  unfold State.burst
  extract_lets +onlyGivenNames -merge -useContext -underBinder s1
  clear_value s1
  refine Kept.ite ?_ ?_
  · exact (State.completeDesc_kept h (Part.sub hp))
  · extract_lets +onlyGivenNames -merge -useContext -underBinder s3
    clear_value s3
    split
    · exact (State.haltStream_kept (State.violation_kept h (Part.sub hp)) (Part.sub hp))
    · split
      · rename_i good6 bs7 s18 q15
        have h5 : Kept l s0 s18 := Kept.snd q15 (State.burstData_kept h (Part.sub hp))
        split
        · rename_i ok10 s211 q14
          have h9 : Kept l s0 s211 := Kept.snd q14 (State.sramWrite_kept h5 (Part.sub hp))
          refine Kept.ite ?_ ?_
          · exact (State.haltStream_kept h9 (Part.sub hp))
          · extract_lets +onlyGivenNames -merge -useContext -underBinder s12
            have h13 : Kept l s0 s12 := by unfold s12; exact (State.setStream_kept h9 (Part.sub hp))
            clear_value s12
            exact (Kept.ite (State.haltStream_kept h13 (Part.sub hp)) (Kept.ite (State.completeDesc_kept h13 (Part.sub hp)) h13))

theorem State.dmaOp_kept {l s0} {s} {x1} {x2} {x3} (h : Kept l s0 s) (hp : Part.within [.page 0x42, .dma, .head 0x24, .head 0x14, .head 0x20, .page 0x40, .sramWeak] l) :
    Kept l s0 (State.dmaOp s x1 x2 x3) := by
  unfold State.dmaOp
  extract_lets +onlyGivenNames -merge -useContext -underBinder s1
  clear_value s1
  extract_lets +onlyGivenNames -merge -useContext -underBinder s3
  have h4 : Kept l s0 s3 := by unfold s3; exact (State.wr_kept h (DMA.SCTL.refused_zoned (Part.at hp)))
  clear_value s3
  extract_lets +onlyGivenNames -merge -useContext -underBinder s5
  have h6 : Kept l s0 s5 := by unfold s5; exact (State.wr_kept (State.wr_kept (State.wr_kept h (DMA.SCTL.code_zoned (Part.at hp))) (DMA.SCTL.refused_zoned (Part.at hp))) (DMA.SCTL.already_done_zoned (Part.at hp)))
  clear_value s5
  extract_lets +onlyGivenNames -merge -useContext -underBinder s7
  clear_value s7
  refine Kept.ite ?_ ?_
  · exact h
  · refine Kept.ite ?_ ?_
    · exact h4
    · split
      · exact (Kept.ite (State.pickStream_kept (State.setStream_kept (State.wr_kept h6 (DMA.SCTL.state_zoned (Part.at hp))) (Part.sub hp)) (Part.sub hp)) h4)
      · exact (Kept.ite (State.pickStream_kept (State.setStream_kept (State.wr_kept h6 (DMA.SCTL.state_zoned (Part.at hp))) (Part.sub hp)) (Part.sub hp)) h4)
      · extract_lets +onlyGivenNames -merge -useContext -underBinder s9
        clear_value s9
        refine Kept.ite ?_ ?_
        · extract_lets +onlyGivenNames -merge -useContext -underBinder s11
          have h12 : Kept l s0 s11 := by unfold s11; exact (State.wr_kept (State.wr_kept (State.wr_kept h (DMA.SCTL.state_zoned (Part.at hp))) (DMA.SRESD.desc_zoned (Part.at hp))) (DMA.SRESO.offset_zoned (Part.at hp)))
          clear_value s11
          extract_lets +onlyGivenNames -merge -useContext -underBinder s13
          have h14 : Kept l s0 s13 := by unfold s13; exact (State.irq_kept h12 (DMA.IRQRAW.aborted_zoned (Part.at hp)))
          clear_value s13
          exact (Kept.ite (State.pickStream_kept (State.freeEngine_kept h14 (Part.sub hp)) (Part.sub hp)) h14)
        · exact (Kept.ite (State.irq_kept (State.wr_kept h (DMA.SCTL.state_zoned (Part.at hp))) (DMA.IRQRAW.aborted_zoned (Part.at hp))) (State.wr_kept h (DMA.SCTL.already_done_zoned (Part.at hp))))
      · exact h4

theorem State.ringRelease_kept {l s0} {s} {x1} (h : Kept l s0 s) (hp : Part.within [.page 0x42] l) :
    Kept l s0 (State.ringRelease s x1) := by
  unfold State.ringRelease
  exact (Kept.ite (State.wr_kept h (DMA.RRREL.index_zoned (Part.at hp))) h)

theorem execDmaStart_kept {l s0} {x0} {x1} {s} (h : Kept l s0 s) (hp : Part.within [.page 0x1, .status, .page 0x42, .dma, .head 0x24, .head 0x14, .head 0x20, .page 0x40, .sramWeak] l) :
    KeptR l s0 (execDmaStart x0 x1 s) := by
  unfold execDmaStart
  exact (State.command_kept h (fun h1 => (State.dmaOp_kept h1 (Part.sub hp))) (Part.sub hp))

theorem execDmaRestart_kept {l s0} {x0} {x1} {s} (h : Kept l s0 s) (hp : Part.within [.page 0x1, .status, .page 0x42, .dma, .head 0x24, .head 0x14, .head 0x20, .page 0x40, .sramWeak] l) :
    KeptR l s0 (execDmaRestart x0 x1 s) := by
  unfold execDmaRestart
  exact (State.command_kept h (fun h1 => (State.dmaOp_kept h1 (Part.sub hp))) (Part.sub hp))

theorem execDmaAbort_kept {l s0} {x0} {x1} {s} (h : Kept l s0 s) (hp : Part.within [.page 0x1, .status, .page 0x42, .dma, .head 0x24, .head 0x14, .head 0x20, .page 0x40, .sramWeak] l) :
    KeptR l s0 (execDmaAbort x0 x1 s) := by
  unfold execDmaAbort
  exact (State.command_kept h (fun h1 => (State.dmaOp_kept h1 (Part.sub hp))) (Part.sub hp))

theorem execDmaBurstEnd_kept {l s0} {s} (h : Kept l s0 s) (hp : Part.within [.dma, .page 0x42, .head 0x24, .head 0x14, .head 0x20, .page 0x40, .sramWeak, .page 0x41, .sram, .sramBad, .page 0x48] l) :
    KeptR l s0 (execDmaBurstEnd s) := by
  unfold execDmaBurstEnd
  split
  · exact (KeptR.next (State.pickStream_kept h (Part.sub hp)))
  · refine KeptR.ite ?_ ?_
    · exact (KeptR.next h)
    · extract_lets +onlyGivenNames -merge -useContext -underBinder s1 s2
      have h4 : Kept l s0 s2 := by unfold s2; exact (State.burst_kept (State.setStream_kept h (Part.sub hp)) (Part.sub hp))
      clear_value s2
      clear_value s1
      refine KeptR.ite ?_ ?_
      · exact (KeptR.next (State.pickStream_kept h4 (Part.sub hp)))
      · refine KeptR.ite ?_ ?_
        · exact (KeptR.next (State.freeEngine_kept (State.wr_kept h4 (DMA.SCTL.state_zoned (Part.at hp))) (Part.sub hp)))
        · extract_lets +onlyGivenNames -merge -useContext -underBinder s5
          clear_value s5
          extract_lets +onlyGivenNames -merge -useContext -underBinder s7
          clear_value s7
          extract_lets +onlyGivenNames -merge -useContext -underBinder s9
          clear_value s9
          exact (KeptR.ite (KeptR.next (State.pickStream_kept (State.freeEngine_kept (State.wr_kept h4 (DMA.SCTL.state_zoned (Part.at hp))) (Part.sub hp)) (Part.sub hp))) (KeptR.next h4))

theorem execResultRingRelease_kept {l s0} {x0} {x1} {s} (h : Kept l s0 s) (hp : Part.within [.page 0x1, .status, .page 0x42] l) :
    KeptR l s0 (execResultRingRelease x0 x1 s) := by
  unfold execResultRingRelease
  exact (State.command_kept h (fun h1 => (State.ringRelease_kept h1 (Part.sub hp))) (Part.sub hp))

end Sys2Proof.Machine
end

