-- ==== Sys2Proof/Laws/Rec.lean ====
section
/-!
SUPPORT. What each operation of Machine/Rec.lean can change: one lemma per operation, named after it. An operation started in a
state that has kept all parts of an earlier one but some keeps all but those and the parts that its lemma lists, and the
canonical form of the sparse maps with them.
-/

set_option Elab.async false

namespace Sys2Proof.Machine

theorem State.stageDrop_kept {l s0} {s} {x1} (h : Kept l s0 s) (hp : Part.within [.page 0x49, .head 0x14, .recorder] l) :
    Kept l s0 (State.stageDrop s x1) := by
  unfold State.stageDrop
  extract_lets +onlyGivenNames -merge -useContext -underBinder s1
  have h2 : Kept l s0 s1 := by unfold s1; exact (Kept.each h (fun _ _ h3 => (State.stick_kept h3 (REC.STAGEDROP.count_zoned (Part.at hp)) (REC.CNTOVF.stage_zoned (Part.at hp)) (ZonedOpt.some (REC.IRQRAW.cnt_ovf_zoned (Part.at hp))))))
  clear_value s1
  extract_lets +onlyGivenNames -merge -useContext -underBinder s4
  have h5 : Kept l s0 s4 := by unfold s4; exact (State.irq_kept h2 (REC.IRQRAW.stage_drop_zoned (Part.at hp)))
  clear_value s4
  exact (h5.recorder (Part.at hp))

theorem State.stage_kept {l s0} {s} {x1} {x2} {x3} (h : Kept l s0 s) (hp : Part.within [.page 0x49, .head 0x14, .recorder, .head 0x24, .page 0x42, .head 0x20, .page 0x41, .page 0x40, .sram, .sramBad, .sramWeak, .msg] l) :
    Kept l s0 (State.stage s x1 x2 x3) := by
  unfold State.stage
  refine Kept.ite ?_ ?_
  · exact (State.stageDrop_kept h (Part.sub hp))
  · extract_lets +onlyGivenNames -merge -useContext -underBinder s1
    clear_value s1
    split
    · rename_i s14 q5
      have h3 : Kept l s0 s14 := Kept.snd q5 (State.boundWrite_kept h (Part.sub hp))
      exact (State.stageDrop_kept h3 (Part.sub hp))
    · rename_i s17 q17
      have h6 : Kept l s0 s17 := Kept.snd q17 (State.boundWrite_kept h (Part.sub hp))
      extract_lets +onlyGivenNames -merge -useContext -underBinder s8
      clear_value s8
      extract_lets +onlyGivenNames -merge -useContext -underBinder s10 s11 s12
      have h15 : Kept l s0 s12 := by unfold s12; exact (h6.upd [.recorder, .msg] (Part.sub hp) (fun p hn => by cases p <;> first | rfl | exact True.intro | exact absurd (by decide) hn) rfl id)
      clear_value s12
      clear_value s11
      clear_value s10
      exact (Kept.when (State.wr_kept h15 (REC.LOGSEQ.seq_zoned (Part.at hp))) (fun _ h16 => (State.irq_kept h16 (REC.IRQRAW.summary_zoned (Part.at hp)))))

theorem State.letIn_kept {l s0} {s} {x1} {x2} {x3} (h : Kept l s0 s) (hp : Part.within [.page 0x49, .head 0x14, .recorder, .head 0x24, .page 0x42, .head 0x20, .page 0x41, .page 0x40, .sram, .sramBad, .sramWeak, .msg, .page 0x178] l) :
    Kept l s0 (State.letIn s x1 x2 x3) := by
  unfold State.letIn
  extract_lets +onlyGivenNames -merge -useContext -underBinder s1
  clear_value s1
  refine Kept.ite ?_ ?_
  · refine Kept.ite ?_ ?_
    · exact (State.stage_kept (State.wr_kept h (REC.CLS.tokens_zoned (Part.at hp))) (Part.sub hp))
    · extract_lets +onlyGivenNames -merge -useContext -underBinder s3
      clear_value s3
      extract_lets +onlyGivenNames -merge -useContext -underBinder s5
      clear_value s5
      extract_lets +onlyGivenNames -merge -useContext -underBinder s7
      have h8 : Kept l s0 s7 := by unfold s7; exact (State.stick_kept h (REC.CLS.suppressed_zoned (Part.at hp)) (REC.CLS.sup_ovf_zoned (Part.at hp)) (ZonedOpt.some (REC.IRQRAW.cnt_ovf_zoned (Part.at hp))))
      clear_value s7
      exact (h8.recorder (Part.at hp))
  · exact (State.stage_kept h (Part.sub hp))

theorem State.tellDrops_kept {l s0} {s} (h : Kept l s0 s) (hp : Part.within [.page 0x49, .head 0x14, .recorder, .head 0x24, .page 0x42, .head 0x20, .page 0x41, .page 0x40, .sram, .sramBad, .sramWeak, .msg] l) :
    Kept l s0 (State.tellDrops s) := by
  unfold State.tellDrops
  refine Kept.ite ?_ ?_
  · extract_lets +onlyGivenNames -merge -useContext -underBinder s1
    have h2 : Kept l s0 s1 := by unfold s1; exact (State.stage_kept h (Part.sub hp))
    clear_value s1
    exact (h2.recorder (Part.at hp))
  · exact h

theorem State.recEvent_kept {l s0} {s} {x1} {x2} {x3} (h : Kept l s0 s) (hp : Part.within [.recorder, .page 0x49, .head 0x14, .head 0x24, .page 0x42, .head 0x20, .page 0x41, .page 0x40, .sram, .sramBad, .sramWeak, .msg, .page 0x178] l) :
    Kept l s0 (State.recEvent s x1 x2 x3) := by
  unfold State.recEvent
  exact (Kept.ite h (Kept.ite (h.recorder (Part.at hp)) (State.letIn_kept (State.tellDrops_kept h (Part.sub hp)) (Part.sub hp))))

theorem State.workPut_kept {l s0} {s} {x1} {x2} (h : Kept l s0 s) (hp : Part.within [.head 0x24, .head 0x14, .page 0x42, .head 0x20, .page 0x41, .page 0x40, .sram, .sramBad, .sramWeak] l) :
    Kept l s0 (State.workPut s x1 x2) := by
  unfold State.workPut
  exact (State.boundWrite_kept h (Part.sub hp))

theorem State.putAnchors_kept {l s0} {s} (h : Kept l s0 s) (hp : Part.within [.head 0x24, .head 0x14, .page 0x42, .head 0x20, .page 0x41, .page 0x40, .sram, .sramBad, .sramWeak] l) :
    Kept l s0 (State.putAnchors s) := by
  unfold State.putAnchors
  exact (State.workPut_kept h (Part.sub hp))

theorem State.anchor_kept {l s0} {s} {x1} {x2} {x3} {x4} (h : Kept l s0 s) (hp : Part.within [.page 0x49, .recorder, .head 0x24, .head 0x14, .page 0x42, .head 0x20, .page 0x41, .page 0x40, .sram, .sramBad, .sramWeak, .msg, .page 0x178] l) :
    Kept l s0 (State.anchor s x1 x2 x3 x4) := by
  unfold State.anchor
  extract_lets +onlyGivenNames -merge -useContext -underBinder s1
  clear_value s1
  extract_lets +onlyGivenNames -merge -useContext -underBinder s3
  have h4 : Kept l s0 s3 := by unfold s3; exact (Kept.each h (fun _ _ h5 => (State.wr_kept h5 (REC.ANCHOR.bytes_zoned (Part.at hp)))))
  clear_value s3
  extract_lets +onlyGivenNames -merge -useContext -underBinder s6
  have h7 : Kept l s0 s6 := by unfold s6; exact (Kept.each h4 (fun _ _ h8 => (State.wr_kept h8 (REC.ANCHOR.bytes_zoned (Part.at hp)))))
  clear_value s6
  extract_lets +onlyGivenNames -merge -useContext -underBinder s9 s10
  have h12 : Kept l s0 s10 := by unfold s10; exact (Kept.ite h7 (Kept.ite (h7.recorder (Part.at hp)) (State.putAnchors_kept h7 (Part.sub hp))))
  clear_value s10
  clear_value s9
  exact (State.recEvent_kept h12 (Part.sub hp))

theorem State.refillAll_kept {l s0} {s} (h : Kept l s0 s) (hp : Part.within [.page 0x178] l) :
    Kept l s0 (State.refillAll s) := by
  unfold State.refillAll
  exact (Kept.each h (fun _ _ h1 => (Kept.ite (State.wr_kept h1 (REC.CLS.tokens_zoned (Part.at hp))) h1)))

theorem State.tellRestored_kept {l s0} {s} (h : Kept l s0 s) (hp : Part.within [.recorder, .page 0x49, .head 0x14, .head 0x24, .page 0x42, .head 0x20, .page 0x41, .page 0x40, .sram, .sramBad, .sramWeak, .msg, .page 0x178] l) :
    Kept l s0 (State.tellRestored s) := by
  unfold State.tellRestored
  exact (State.recEvent_kept h (Part.sub hp))

theorem State.seeSnaps_kept {l s0} {s} (h : Kept l s0 s) (hp : Part.within [.page 0x48, .head 0x14, .head 0x24, .head 0x20] l) :
    Kept l s0 (State.seeSnaps s) := by
  unfold State.seeSnaps
  exact (Kept.each h (fun _ _ h1 => (Kept.when (State.storeSee_kept h1 (Part.sub hp)) (fun _ h2 => (State.storeSee_kept h2 (Part.sub hp))))))

theorem State.workUpdate_kept {l s0} {s} {x1} {x2} {x3} (h : Kept l s0 s) (hp : Part.within [.head 0x24, .head 0x14, .page 0x42, .head 0x20, .page 0x40, .sramWeak, .page 0x41, .sram, .sramBad] l) :
    Kept l s0 (State.workUpdate s x1 x2 x3).2 := by
  unfold State.workUpdate
  split
  · rename_i s12 q3
    have h1 : Kept l s0 s12 := Kept.snd q3 (State.boundRead_kept h (Part.sub hp))
    exact (Kept.beside h1)
  · rename_i bs5 s16 q7
    have h4 : Kept l s0 s16 := Kept.snd q7 (State.boundRead_kept h (Part.sub hp))
    exact (Kept.iteSnd (Kept.beside h4) (State.boundWrite_kept h4 (Part.sub hp)))

theorem State.markChange_kept {l s0} {s} {x1} {x2} (h : Kept l s0 s) (hp : Part.within [.head 0x24, .head 0x14, .page 0x42, .head 0x20, .page 0x40, .sramWeak, .page 0x41, .sram, .sramBad] l) :
    Kept l s0 (State.markChange s x1 x2) := by
  unfold State.markChange
  exact (State.workUpdate_kept h (Part.sub hp))

theorem State.binAdd_kept {l s0} {s} {x1} {x2} {x3} (h : Kept l s0 s) (hp : Part.within [.head 0x24, .head 0x14, .page 0x42, .head 0x20, .page 0x40, .sramWeak, .page 0x41, .sram, .sramBad] l) :
    Kept l s0 (State.binAdd s x1 x2 x3).2 := by
  unfold State.binAdd
  extract_lets +onlyGivenNames -merge -useContext -underBinder s1
  clear_value s1
  extract_lets +onlyGivenNames -merge -useContext -underBinder s3
  clear_value s3
  split
  · rename_i s16 q7
    have h5 : Kept l s0 s16 := Kept.snd q7 (State.workUpdate_kept h (Part.sub hp))
    exact (Kept.beside h5)
  · rename_i s19 q21
    have h8 : Kept l s0 s19 := Kept.snd q21 (State.workUpdate_kept h (Part.sub hp))
    refine Kept.iteSnd ?_ ?_
    · exact (Kept.beside h8)
    · extract_lets +onlyGivenNames -merge -useContext -underBinder s10
      clear_value s10
      extract_lets +onlyGivenNames -merge -useContext -underBinder s12
      clear_value s12
      extract_lets +onlyGivenNames -merge -useContext -underBinder s14
      clear_value s14
      split
      · rename_i done17 s218 q20
        have h16 : Kept l s0 s218 := Kept.snd q20 (State.workUpdate_kept h8 (Part.sub hp))
        exact (Kept.beside (Kept.when h16 (fun _ h19 => (State.irq_kept h19 (REC.IRQRAW.cnt_ovf_zoned (Part.at hp))))))

theorem State.modChanges_kept {l s0} {s} {x1} (h : Kept l s0 s) (hp : Part.within [.recorder] l) :
    Kept l s0 (State.modChanges s x1) := by
  unfold State.modChanges
  exact (h.recorder (Part.at hp))

theorem State.applyDelta_kept {l s0} {s} {x1} (h : Kept l s0 s) (hp : Part.within [.head 0x24, .head 0x14, .page 0x42, .head 0x20, .page 0x41, .page 0x40, .sram, .sramBad, .sramWeak, .recorder, .page 0x49] l) :
    Kept l s0 (State.applyDelta s x1) := by
  unfold State.applyDelta
  extract_lets +onlyGivenNames -merge -useContext -underBinder s1
  clear_value s1
  extract_lets +onlyGivenNames -merge -useContext -underBinder s3
  have h4 : Kept l s0 s3 := by unfold s3; exact (Kept.ite h (State.workPut_kept (Kept.each h (fun _ _ h5 => (State.workPut_kept h5 (Part.sub hp)))) (Part.sub hp)))
  clear_value s3
  extract_lets +onlyGivenNames -merge -useContext -underBinder s6
  have h7 : Kept l s0 s6 := by
    unfold s6
    refine Kept.each h4 (fun _ _ h8 => ?_)
    split
    · exact (State.markChange_kept (State.workPut_kept h8 (Part.sub hp)) (Part.sub hp))
  clear_value s6
  extract_lets +onlyGivenNames -merge -useContext -underBinder s9
  have h10 : Kept l s0 s9 := by
    unfold s9
    refine Kept.each h7 (fun _ _ h11 => ?_)
    split
    · exact (State.markChange_kept (State.binAdd_kept h11 (Part.sub hp)) (Part.sub hp))
  clear_value s9
  extract_lets +onlyGivenNames -merge -useContext -underBinder s12
  have h13 : Kept l s0 s12 := by unfold s12; exact (State.modChanges_kept (State.wr_kept h10 (REC.LEG.leg_zoned (Part.at hp))) (Part.sub hp))
  clear_value s12
  extract_lets +onlyGivenNames -merge -useContext -underBinder s14 s15
  have h17 : Kept l s0 s15 := by unfold s15; exact (h13.recorder (Part.at hp))
  clear_value s15
  clear_value s14
  refine Kept.ite ?_ ?_
  · extract_lets +onlyGivenNames -merge -useContext -underBinder s18
    clear_value s18
    exact (Kept.each (State.irq_kept (State.wr_kept h17 (REC.STAT.shortfall_zoned (Part.at hp))) (REC.IRQRAW.shortfall_zoned (Part.at hp))) (fun _ _ h20 => (State.workUpdate_kept h20 (Part.sub hp))))
  · exact h17

theorem State.recLoad_kept {l s0} {s} {x1} (h : Kept l s0 s) (hp : Part.within [.head 0x24, .head 0x14, .page 0x42, .head 0x20, .page 0x41, .page 0x40, .sram, .sramBad, .sramWeak, .page 0x49, .recorder] l) :
    Kept l s0 (State.recLoad s x1) := by
  unfold State.recLoad
  extract_lets +onlyGivenNames -merge -useContext -underBinder s1
  clear_value s1
  extract_lets +onlyGivenNames -merge -useContext -underBinder s3
  clear_value s3
  extract_lets +onlyGivenNames -merge -useContext -underBinder s5
  have h6 : Kept l s0 s5 := by unfold s5; exact (State.workPut_kept h (Part.sub hp))
  clear_value s5
  extract_lets +onlyGivenNames -merge -useContext -underBinder s7
  have h8 : Kept l s0 s7 := by unfold s7; exact (State.wr_kept (State.wr_kept (State.wr_kept h6 (REC.LEG.leg_zoned (Part.at hp))) (REC.SNAPSEQ.seq_zoned (Part.at hp))) (REC.STAT.restore_zoned (Part.at hp)))
  clear_value s7
  extract_lets +onlyGivenNames -merge -useContext -underBinder s9
  have h10 : Kept l s0 s9 := by unfold s9; exact (Kept.each h8 (fun _ _ h11 => (State.wr_kept h11 (REC.ANCHOR.bytes_zoned (Part.at hp)))))
  clear_value s9
  extract_lets +onlyGivenNames -merge -useContext -underBinder s12 s13
  have h15 : Kept l s0 s13 := by unfold s13; exact (h10.recorder (Part.at hp))
  clear_value s13
  clear_value s12
  extract_lets +onlyGivenNames -merge -useContext -underBinder s16
  have h17 : Kept l s0 s16 := by unfold s16; exact (State.workPut_kept h15 (Part.sub hp))
  clear_value s16
  extract_lets +onlyGivenNames -merge -useContext -underBinder s18
  clear_value s18
  split
  · extract_lets +onlyGivenNames -merge -useContext -underBinder s20
    have h21 : Kept l s0 s20 := by unfold s20; exact (State.wr_kept (State.applyDelta_kept h17 (Part.sub hp)) (REC.STAT.restore_zoned (Part.at hp)))
    clear_value s20
    exact (h21.recorder (Part.at hp))
  · exact h17

theorem State.recResume_kept {l s0} {s} (h : Kept l s0 s) (hp : Part.within [.page 0x178, .recorder, .page 0x49, .head 0x14, .head 0x24, .page 0x42, .head 0x20, .page 0x41, .page 0x40, .sram, .sramBad, .sramWeak, .msg, .page 0x48] l) :
    Kept l s0 (State.recResume s) := by
  unfold State.recResume
  extract_lets +onlyGivenNames -merge -useContext -underBinder s1 s2 s3
  have h4 : Kept l s0 s1 := by unfold s1; exact (State.refillAll_kept h (Part.sub hp))
  have h6 : Kept l s0 s3 := by unfold s3; exact (h4.recorder (Part.at hp))
  clear_value s3
  clear_value s2
  clear_value s1
  refine Kept.ite ?_ ?_
  · exact (State.tellRestored_kept (State.wr_kept h6 (REC.STAT.restore_zoned (Part.at hp))) (Part.sub hp))
  · extract_lets +onlyGivenNames -merge -useContext -underBinder s7
    have h8 : Kept l s0 s7 := by unfold s7; exact (State.seeSnaps_kept h6 (Part.sub hp))
    clear_value s7
    extract_lets +onlyGivenNames -merge -useContext -underBinder s9
    have h10 : Kept l s0 s9 := by
      unfold s9
      split
      · exact (State.recLoad_kept h8 (Part.sub hp))
      · extract_lets +onlyGivenNames -merge -useContext -underBinder s11
        have h12 : Kept l s0 s11 := by unfold s11; exact (State.fault_kept (State.wr_kept (State.workPut_kept h8 (Part.sub hp)) (REC.STAT.restore_zoned (Part.at hp))) (REC.FAULT.restore_zoned (Part.at hp)) (Part.sub hp))
        clear_value s11
        exact (State.modChanges_kept (State.workPut_kept h12 (Part.sub hp)) (Part.sub hp))
    clear_value s9
    exact (State.tellRestored_kept (h10.recorder (Part.at hp)) (Part.sub hp))

theorem State.setMismatch_kept {l s0} {s} {x1} {x2} (h : Kept l s0 s) (hp : Part.within [.head 0x24, .head 0x14, .page 0x42, .head 0x20, .page 0x40, .sramWeak, .page 0x41, .sram, .sramBad] l) :
    Kept l s0 (State.setMismatch s x1 x2) := by
  unfold State.setMismatch
  exact (State.workUpdate_kept h (Part.sub hp))

theorem State.binCount_kept {l s0} {s} {x1} {x2} (h : Kept l s0 s) (hp : Part.within [.head 0x24, .head 0x14, .page 0x42, .head 0x20, .page 0x40, .sramWeak, .page 0x41, .sram, .sramBad, .recorder] l) :
    Kept l s0 (State.binCount s x1 x2) := by
  unfold State.binCount
  split
  · rename_i s12 q3
    have h1 : Kept l s0 s12 := Kept.snd q3 (State.binAdd_kept h (Part.sub hp))
    exact h1
  · rename_i s15 q6
    have h4 : Kept l s0 s15 := Kept.snd q6 (State.binAdd_kept h (Part.sub hp))
    exact (State.modChanges_kept (State.markChange_kept h4 (Part.sub hp)) (Part.sub hp))

theorem State.extremeUpdate_kept {l s0} {s} {x1} {x2} (h : Kept l s0 s) (hp : Part.within [.head 0x24, .head 0x14, .page 0x42, .head 0x20, .page 0x40, .sramWeak, .page 0x41, .sram, .sramBad, .recorder] l) :
    Kept l s0 (State.extremeUpdate s x1 x2) := by
  unfold State.extremeUpdate
  extract_lets +onlyGivenNames -merge -useContext -underBinder s1
  clear_value s1
  extract_lets +onlyGivenNames -merge -useContext -underBinder s3
  clear_value s3
  extract_lets +onlyGivenNames -merge -useContext -underBinder s5
  clear_value s5
  extract_lets +onlyGivenNames -merge -useContext -underBinder s7
  clear_value s7
  split
  · rename_i s110 q11
    have h9 : Kept l s0 s110 := Kept.snd q11 (State.workUpdate_kept h (Part.sub hp))
    exact h9
  · rename_i s113 q14
    have h12 : Kept l s0 s113 := Kept.snd q14 (State.workUpdate_kept h (Part.sub hp))
    exact (Kept.ite h12 (State.modChanges_kept (State.markChange_kept h12 (Part.sub hp)) (Part.sub hp)))

theorem State.recTake_kept {l s0} {s} {x1} (h : Kept l s0 s) (hp : Part.within [.head 0x24, .head 0x14, .page 0x42, .head 0x20, .page 0x40, .sramWeak, .page 0x41, .sram, .sramBad, .recorder] l) :
    Kept l s0 (State.recTake s x1) := by
  unfold State.recTake
  refine Kept.ite ?_ ?_
  · exact h
  · extract_lets +onlyGivenNames -merge -useContext -underBinder s1
    clear_value s1
    refine Kept.ite ?_ ?_
    · exact (State.fault_kept (State.setMismatch_kept h (Part.sub hp)) (REC.FAULT.cfgmis_zoned (Part.at hp)) (Part.sub hp))
    · extract_lets +onlyGivenNames -merge -useContext -underBinder s3
      have h4 : Kept l s0 s3 := by unfold s3; exact (State.setMismatch_kept h (Part.sub hp))
      clear_value s3
      extract_lets +onlyGivenNames -merge -useContext -underBinder s5
      have h6 : Kept l s0 s5 := by unfold s5; exact (State.workUpdate_kept h4 (Part.sub hp))
      clear_value s5
      refine Kept.ite ?_ ?_
      · extract_lets +onlyGivenNames -merge -useContext -underBinder s7
        clear_value s7
        extract_lets +onlyGivenNames -merge -useContext -underBinder s9
        clear_value s9
        exact (Kept.each (State.binCount_kept h6 (Part.sub hp)) (fun _ _ h11 => (State.extremeUpdate_kept h11 (Part.sub hp))))
      · exact (State.binCount_kept h6 (Part.sub hp))

theorem State.recFlush_kept {l s0} {s} (h : Kept l s0 s) (hp : Part.within [.recorder, .page 0x49, .head 0x14, .head 0x24, .page 0x42, .head 0x20, .page 0x41, .page 0x40, .sram, .sramBad, .sramWeak, .msg, .page 0x178] l) :
    Kept l s0 (State.recFlush s) := by
  unfold State.recFlush
  refine Kept.ite ?_ ?_
  · exact h
  · extract_lets +onlyGivenNames -merge -useContext -underBinder s1
    clear_value s1
    refine Kept.each (h.recorder (Part.at hp)) (fun _ _ h3 => ?_)
    split
    · exact (State.recEvent_kept h3 (Part.sub hp))
    · exact (State.recTake_kept h3 (Part.sub hp))
    · exact (State.putAnchors_kept h3 (Part.sub hp))

theorem State.clearStep_kept {l s0} {s} (h : Kept l s0 s) (hp : Part.within [.nvm, .recorder, .page 0x49, .head 0x14, .head 0x24, .page 0x42, .head 0x20, .page 0x41, .page 0x40, .sram, .sramBad, .sramWeak, .msg, .page 0x178, .page 0x51] l) :
    Kept l s0 (State.clearStep s) := by
  unfold State.clearStep
  split
  · exact (State.nvmIssue_kept (h.recorder (Part.at hp)) (Part.sub hp))
  · extract_lets +onlyGivenNames -merge -useContext -underBinder s1
    have h2 : Kept l s0 s1 := by unfold s1; exact (State.irq_kept (State.wr_kept (State.wr_kept (State.wr_kept h (REC.LOGSTART.offset_zoned (Part.at hp))) (REC.STAT.clearing_zoned (Part.at hp))) (REC.STAT.archived_zoned (Part.at hp))) (REC.IRQRAW.clear_done_zoned (Part.at hp)))
    clear_value s1
    extract_lets +onlyGivenNames -merge -useContext -underBinder s3 s4 s5
    have h6 : Kept l s0 s3 := by unfold s3; exact (State.wr_kept h2 (REC.STAT.logfull_zoned (Part.at hp)))
    have h8 : Kept l s0 s5 := by unfold s5; exact (h6.recorder (Part.at hp))
    clear_value s5
    clear_value s4
    clear_value s3
    extract_lets +onlyGivenNames -merge -useContext -underBinder s9
    have h10 : Kept l s0 s9 := by unfold s9; exact (State.recEvent_kept h8 (Part.sub hp))
    clear_value s9
    exact (State.irq_kept (State.cmdStat_kept (State.wr_kept (State.wr_kept h10 (BKPM.DATA30.drop_zoned (Part.at hp))) (REC.LOGDROP.count_zoned (Part.at hp))) (REC.CMDSTAT.state_zoned (Part.at hp)) (REC.CMDSTAT.reason_zoned (Part.at hp))) (REC.IRQRAW.cmd_done_zoned (Part.at hp)))

theorem State.recGo_kept {l s0} {s} (h : Kept l s0 s) (hp : Part.within [.page 0x178, .recorder, .page 0x49, .head 0x14, .head 0x24, .page 0x42, .head 0x20, .page 0x41, .page 0x40, .sram, .sramBad, .sramWeak, .msg, .page 0x48, .nvm, .page 0x51] l) :
    Kept l s0 (State.recGo s) := by
  unfold State.recGo
  extract_lets +onlyGivenNames -merge -useContext -underBinder s1
  have h2 : Kept l s0 s1 := by unfold s1; exact (Kept.ite (State.recResume_kept h (Part.sub hp)) h)
  clear_value s1
  extract_lets +onlyGivenNames -merge -useContext -underBinder s3
  clear_value s3
  exact (State.recFlush_kept (Kept.ite (State.clearStep_kept h2 (Part.sub hp)) h2) (Part.sub hp))

theorem State.keepChanges_kept {l s0} {s} {x1} {x2} (h : Kept l s0 s) (hp : Part.within [.head 0x24, .head 0x14, .page 0x42, .head 0x20, .page 0x40, .sramWeak, .page 0x41, .sram, .sramBad] l) :
    Kept l s0 (State.keepChanges s x1 x2) := by
  unfold State.keepChanges
  exact (State.workUpdate_kept h (Part.sub hp))

theorem State.recClear_kept {l s0} {s} {x1} {x2} (h : Kept l s0 s) (hp : Part.within [.head 0x24, .head 0x14, .page 0x42, .head 0x20, .page 0x40, .sramWeak, .recorder, .page 0x49, .page 0x41, .sram, .sramBad, .msg, .page 0x178] l) :
    Kept l s0 (State.recClear s x1 x2) := by
  unfold State.recClear
  extract_lets +onlyGivenNames -merge -useContext -underBinder s1
  clear_value s1
  extract_lets +onlyGivenNames -merge -useContext -underBinder s3
  have h4 : Kept l s0 s3 := by
    unfold s3
    split
    · rename_i t6 q7
      have h5 : Kept l s0 t6 := Kept.snd q7 (State.boundRead_kept h (Part.sub hp))
      exact h5
    · rename_i bs9 t10 q11
      have h8 : Kept l s0 t10 := Kept.snd q11 (State.boundRead_kept h (Part.sub hp))
      exact (State.recEvent_kept h8 (Part.sub hp))
  clear_value s3
  extract_lets +onlyGivenNames -merge -useContext -underBinder s12
  have h13 : Kept l s0 s12 := by unfold s12; exact (State.workPut_kept h4 (Part.sub hp))
  clear_value s12
  extract_lets +onlyGivenNames -merge -useContext -underBinder s14
  have h15 : Kept l s0 s14 := by unfold s14; exact (State.workUpdate_kept h13 (Part.sub hp))
  clear_value s14
  extract_lets +onlyGivenNames -merge -useContext -underBinder s16
  have h17 : Kept l s0 s16 := by unfold s16; exact (State.workPut_kept (State.workPut_kept h15 (Part.sub hp)) (Part.sub hp))
  clear_value s16
  extract_lets +onlyGivenNames -merge -useContext -underBinder s18
  have h19 : Kept l s0 s18 := by unfold s18; exact (State.modChanges_kept (State.keepChanges_kept h17 (Part.sub hp)) (Part.sub hp))
  clear_value s18
  exact (h19.recorder (Part.at hp))

theorem State.changesAnew_kept {l s0} {s} (h : Kept l s0 s) (hp : Part.within [.head 0x24, .head 0x14, .page 0x42, .head 0x20, .page 0x41, .page 0x40, .sram, .sramBad, .sramWeak] l) :
    Kept l s0 (State.changesAnew s) := by
  unfold State.changesAnew
  extract_lets +onlyGivenNames -merge -useContext -underBinder s1
  clear_value s1
  extract_lets +onlyGivenNames -merge -useContext -underBinder s3
  have h4 : Kept l s0 s3 := by unfold s3; exact (State.workPut_kept h (Part.sub hp))
  clear_value s3
  extract_lets +onlyGivenNames -merge -useContext -underBinder s5
  have h6 : Kept l s0 s5 := by unfold s5; exact (Kept.each h4 (fun _ _ h7 => (State.markChange_kept h7 (Part.sub hp))))
  clear_value s5
  exact (Kept.each h6 (fun _ _ h8 => (State.markChange_kept h8 (Part.sub hp))))

theorem State.eraseSnap_kept {l s0} {s} {x1} (h : Kept l s0 s) (hp : Part.within [.nvm] l) :
    Kept l s0 (State.eraseSnap s x1) := by
  unfold State.eraseSnap
  extract_lets +onlyGivenNames -merge -useContext -underBinder s1
  clear_value s1
  exact (Kept.ite h (State.nvmIssue_kept h (Part.sub hp)))

theorem State.baseEnd_kept {l s0} {x0} {s} (h : Kept l s0 s) (hp : Part.within [.nvm, .page 0x48, .page 0x49, .recorder, .store, .page 0x58, .head 0x14, .head 0x24, .head 0x20, .freeCount, .page 0x42, .page 0x41, .page 0x40, .sram, .sramBad, .sramWeak] l) :
    Kept l s0 (State.baseEnd x0 s) := by
  unfold State.baseEnd
  split
  · exact (State.nvmNext_kept h (Part.sub hp))
  · extract_lets +onlyGivenNames -merge -useContext -underBinder s1 s2 s3
    have h4 : Kept l s0 s1 := by unfold s1; exact (State.wr_kept h (REC.STAT.snapping_zoned (Part.at hp)))
    have h6 : Kept l s0 s3 := by unfold s3; exact (h4.recorder (Part.at hp))
    clear_value s3
    clear_value s2
    clear_value s1
    split
    · rename_i s18 q9
      have h7 : Kept l s0 s18 := Kept.snd q9 (Kept.iteSnd (State.storeProgram_kept h6 (Part.sub hp)) (Kept.beside (State.programFailed_kept h6 (Part.sub hp))))
      exact (State.nvmNext_kept (State.fault_kept h7 (REC.FAULT.snapwr_zoned (Part.at hp)) (Part.sub hp)) (Part.sub hp))
    · rename_i s111 q18
      have h10 : Kept l s0 s111 := Kept.snd q18 (Kept.iteSnd (State.storeProgram_kept h6 (Part.sub hp)) (Kept.beside (State.programFailed_kept h6 (Part.sub hp))))
      extract_lets +onlyGivenNames -merge -useContext -underBinder s12
      have h13 : Kept l s0 s12 := by unfold s12; exact (State.changesAnew_kept (State.irq_kept (State.wr_kept h10 (REC.SNAPSEQ.seq_zoned (Part.at hp))) (REC.IRQRAW.snap_done_zoned (Part.at hp))) (Part.sub hp))
      clear_value s12
      extract_lets +onlyGivenNames -merge -useContext -underBinder s14 s15
      have h17 : Kept l s0 s15 := by unfold s15; exact (h13.recorder (Part.at hp))
      clear_value s15
      clear_value s14
      exact (State.eraseSnap_kept (State.nvmNext_kept h17 (Part.sub hp)) (Part.sub hp))

theorem State.recResult_kept {l s0} {s} {x1} (h : Kept l s0 s) (hp : Part.within [.recorder, .head 0x24, .head 0x14, .page 0x42, .head 0x20, .page 0x40, .sramWeak, .page 0x41, .sram, .sramBad] l) :
    Kept l s0 (State.recResult s x1) := by
  unfold State.recResult
  exact (Kept.ite h (Kept.ite (h.recorder (Part.at hp)) (State.recTake_kept h (Part.sub hp))))

theorem State.logProgram_kept {l s0} {s} {x1} {x2} (h : Kept l s0 s) (hp : Part.within [.store, .nvm, .page 0x58, .page 0x48, .head 0x14, .head 0x24, .head 0x20] l) :
    Kept l s0 (State.logProgram s x1 x2) := by
  unfold State.logProgram
  split
  · rename_i s12 q3
    have h1 : Kept l s0 s12 := Kept.snd q3 (State.storeProgram_kept h (Part.sub hp))
    exact h1
  · rename_i s15 q6
    have h4 : Kept l s0 s15 := Kept.snd q6 (State.storeProgram_kept h (Part.sub hp))
    exact (State.fault_kept h4 (REC.FAULT.logwr_zoned (Part.at hp)) (Part.sub hp))

theorem State.logLost_kept {l s0} {s} (h : Kept l s0 s) (hp : Part.within [.page 0x51, .page 0x49, .head 0x14] l) :
    Kept l s0 (State.logLost s) := by
  unfold State.logLost
  extract_lets +onlyGivenNames -merge -useContext -underBinder s1
  clear_value s1
  extract_lets +onlyGivenNames -merge -useContext -underBinder s3
  clear_value s3
  exact (Kept.when (State.wr_kept (State.wr_kept h (BKPM.DATA30.drop_zoned (Part.at hp))) (REC.LOGDROP.count_zoned (Part.at hp))) (fun _ h5 => (State.irq_kept h5 (REC.IRQRAW.cnt_ovf_zoned (Part.at hp)))))

theorem State.openSector_kept {l s0} {s} {x1} {x2} (h : Kept l s0 s) (hp : Part.within [.store, .nvm, .page 0x58, .page 0x48, .head 0x14, .head 0x24, .head 0x20, .recorder] l) :
    Kept l s0 (State.openSector s x1 x2) := by
  unfold State.openSector
  extract_lets +onlyGivenNames -merge -useContext -underBinder s1
  have h2 : Kept l s0 s1 := by unfold s1; exact (State.logProgram_kept h (Part.sub hp))
  clear_value s1
  exact (h2.recorder (Part.at hp))

theorem State.logWrite_kept {l s0} {s} {x1} (h : Kept l s0 s) (hp : Part.within [.store, .nvm, .page 0x58, .page 0x48, .head 0x14, .head 0x24, .head 0x20, .page 0x49, .page 0x51, .recorder] l) :
    Kept l s0 (State.logWrite s x1) := by
  unfold State.logWrite
  extract_lets +onlyGivenNames -merge -useContext -underBinder s1
  clear_value s1
  extract_lets +onlyGivenNames -merge -useContext -underBinder s3
  clear_value s3
  extract_lets +onlyGivenNames -merge -useContext -underBinder s5
  clear_value s5
  extract_lets +onlyGivenNames -merge -useContext -underBinder s7
  have h8 : ∀ {t} {y1}, Kept l s0 t → Kept l s0 (s7 t y1) := by
    intro t y1 h9
    unfold s7
    exact (State.irq_kept (State.wr_kept (State.logProgram_kept h9 (Part.sub hp)) (REC.LOGEND.offset_zoned (Part.at hp))) (REC.IRQRAW.record_zoned (Part.at hp)))
  clear_value s7
  refine Kept.ite ?_ ?_
  · exact (State.logLost_kept h (Part.sub hp))
  · refine Kept.ite ?_ ?_
    · exact (h8 (Kept.ite h (State.openSector_kept h (Part.sub hp))))
    · extract_lets +onlyGivenNames -merge -useContext -underBinder s10
      clear_value s10
      exact (Kept.ite (State.logLost_kept (State.irq_kept (State.wr_kept h (REC.STAT.logfull_zoned (Part.at hp))) (REC.IRQRAW.log_full_zoned (Part.at hp))) (Part.sub hp)) (h8 (State.openSector_kept h (Part.sub hp))))

theorem State.programStaged_kept {l s0} {s} {x1} (h : Kept l s0 s) (hp : Part.within [.store, .nvm, .page 0x58, .page 0x48, .head 0x14, .head 0x24, .head 0x20, .page 0x49, .page 0x51, .recorder, .page 0x42, .page 0x41, .page 0x40, .sram, .sramBad, .sramWeak] l) :
    Kept l s0 (State.programStaged s x1) := by
  unfold State.programStaged
  extract_lets +onlyGivenNames -merge -useContext -underBinder s1
  extract_lets +onlyGivenNames -merge -useContext -underBinder s3
  have h4 : Kept l s0 s3 := by unfold s3; exact (Kept.each h (fun _ _ h5 => (State.logWrite_kept h5 (Part.sub hp))))
  extract_lets +onlyGivenNames -merge -useContext -underBinder s6 s7
  have h9 : Kept l s0 s7 := by unfold s7; exact (h4.recorder (Part.at hp))
  exact (Kept.ite h9 (State.workPut_kept h9 (Part.sub hp)))

theorem State.writeDelta_kept {l s0} {s} {x1} (h : Kept l s0 s) (hp : Part.within [.page 0x40, .head 0x14, .sramWeak, .head 0x24, .head 0x20, .store, .nvm, .page 0x58, .page 0x48, .recorder] l) :
    Kept l s0 (State.writeDelta s x1) := by
  unfold State.writeDelta
  extract_lets +onlyGivenNames -merge -useContext -underBinder s1
  have h2 : Kept l s0 s1 := by unfold s1; exact (Kept.each h (fun _ _ h3 => (State.sramSee_kept h3 (Part.sub hp))))
  clear_value s1
  extract_lets +onlyGivenNames -merge -useContext -underBinder s4
  clear_value s4
  extract_lets +onlyGivenNames -merge -useContext -underBinder s6
  clear_value s6
  extract_lets +onlyGivenNames -merge -useContext -underBinder s8
  clear_value s8
  refine Kept.ite ?_ ?_
  · exact h2
  · extract_lets +onlyGivenNames -merge -useContext -underBinder s10
    have h11 : Kept l s0 s10 := by unfold s10; exact (State.storeProgram_kept h2 (Part.sub hp))
    clear_value s10
    exact (h11.recorder (Part.at hp))

theorem State.recCommit_kept {l s0} {s} (h : Kept l s0 s) (hp : Part.within [.store, .nvm, .page 0x58, .page 0x48, .head 0x14, .head 0x24, .head 0x20, .page 0x49, .page 0x51, .recorder, .page 0x42, .page 0x41, .page 0x40, .sram, .sramBad, .sramWeak, .msg] l) :
    Kept l s0 (State.recCommit s) := by
  unfold State.recCommit
  refine Kept.ite ?_ ?_
  · exact h
  · extract_lets +onlyGivenNames -merge -useContext -underBinder s1
    clear_value s1
    extract_lets +onlyGivenNames -merge -useContext -underBinder s3
    have h4 : Kept l s0 s3 := by unfold s3; exact (State.programStaged_kept h (Part.sub hp))
    clear_value s3
    extract_lets +onlyGivenNames -merge -useContext -underBinder s5
    clear_value s5
    extract_lets +onlyGivenNames -merge -useContext -underBinder s7 s8 s9
    have h10 : Kept l s0 s7 := by unfold s7; exact (State.stageDrop_kept h4 (Part.sub hp))
    have h12 : Kept l s0 s9 := by unfold s9; exact (Kept.ite h4 (h10.recorder (Part.at hp)))
    clear_value s9
    clear_value s8
    clear_value s7
    exact (State.tellDrops_kept (State.writeDelta_kept h12 (Part.sub hp)) (Part.sub hp))

theorem State.recCommand_kept {l s0} {s} {x1} {x2} (h : Kept l s0 s) (hp : Part.within [.page 0x49, .recorder, .head 0x14] l) :
    Kept l s0 (State.recCommand s x1 x2) := by
  unfold State.recCommand
  extract_lets +onlyGivenNames -merge -useContext -underBinder s1
  clear_value s1
  refine Kept.ite ?_ ?_
  · extract_lets +onlyGivenNames -merge -useContext -underBinder s3
    have h4 : Kept l s0 s3 := by unfold s3; exact (State.cmdStat_kept h (REC.CMDSTAT.state_zoned (Part.at hp)) (REC.CMDSTAT.reason_zoned (Part.at hp)))
    clear_value s3
    exact (h4.recorder (Part.at hp))
  · exact (State.irq_kept (State.cmdStat_kept h (REC.CMDSTAT.state_zoned (Part.at hp)) (REC.CMDSTAT.reason_zoned (Part.at hp))) (REC.IRQRAW.cmd_done_zoned (Part.at hp)))

theorem State.hsel_kept {l s0} {s} {x1} (h : Kept l s0 s) (hp : Part.within [.page 0x49] l) :
    Kept l s0 (State.hsel s x1) := by
  unfold State.hsel
  exact (Kept.each (State.wr_kept h (REC.HSEL.ch_zoned (Part.at hp))) (fun _ _ h1 => (State.wr_kept h1 (REC.HWIN.bytes_zoned (Part.at hp)))))

theorem State.recNewLeg_kept {l s0} {s} (h : Kept l s0 s) (hp : Part.within [.head 0x24, .head 0x14, .page 0x42, .head 0x20, .page 0x40, .sramWeak, .page 0x41, .sram, .sramBad, .page 0x49, .recorder] l) :
    Kept l s0 (State.recNewLeg s) := by
  unfold State.recNewLeg
  extract_lets +onlyGivenNames -merge -useContext -underBinder s1
  have h2 : Kept l s0 s1 := by unfold s1; exact (Kept.each h (fun _ _ h3 => (State.keepChanges_kept (State.workPut_kept h3 (Part.sub hp)) (Part.sub hp))))
  clear_value s1
  extract_lets +onlyGivenNames -merge -useContext -underBinder s4
  have h5 : Kept l s0 s4 := by unfold s4; exact (State.wr_kept h2 (REC.LEG.leg_zoned (Part.at hp)))
  clear_value s4
  exact (State.modChanges_kept (State.workPut_kept h5 (Part.sub hp)) (Part.sub hp))

theorem State.seeArchive_kept {l s0} {s} {x1} (h : Kept l s0 s) (hp : Part.within [.page 0x48, .head 0x14, .head 0x24, .head 0x20] l) :
    Kept l s0 (State.seeArchive s x1) := by
  unfold State.seeArchive
  extract_lets +onlyGivenNames -merge -useContext -underBinder s1
  clear_value s1
  exact (Kept.ite (State.storeSee_kept h (Part.sub hp)) (State.storeSee_kept (State.storeSee_kept h (Part.sub hp)) (Part.sub hp)))

theorem State.recApply_kept {l s0} {s} {x1} {x2} (h : Kept l s0 s) (hp : Part.within [.page 0x49, .head 0x14, .head 0x24, .page 0x42, .head 0x20, .page 0x40, .sramWeak, .page 0x41, .sram, .sramBad, .recorder, .msg, .page 0x178, .page 0x48, .nvm, .page 0x51] l) :
    Kept l s0 (State.recApply s x1 x2) := by
  unfold State.recApply
  extract_lets +onlyGivenNames -merge -useContext -underBinder s1
  have h2 : Kept l s0 s1 := by unfold s1; exact (State.irq_kept (State.cmdStat_kept h (REC.CMDSTAT.state_zoned (Part.at hp)) (REC.CMDSTAT.reason_zoned (Part.at hp))) (REC.IRQRAW.cmd_done_zoned (Part.at hp)))
  clear_value s1
  extract_lets +onlyGivenNames -merge -useContext -underBinder s3
  have h4 : ∀ {y0}, Kept l s0 (s3 y0) := by
    intro y0
    unfold s3
    exact (State.irq_kept (State.cmdStat_kept h (REC.CMDSTAT.state_zoned (Part.at hp)) (REC.CMDSTAT.reason_zoned (Part.at hp))) (REC.IRQRAW.cmd_done_zoned (Part.at hp)))
  clear_value s3
  split
  · exact (State.recNewLeg_kept h2 (Part.sub hp))
  · exact (Kept.each h2 (fun _ _ h5 => (State.recClear_kept h5 (Part.sub hp))))
  · extract_lets +onlyGivenNames -merge -useContext -underBinder s6
    clear_value s6
    extract_lets +onlyGivenNames -merge -useContext -underBinder s8
    clear_value s8
    split
    · extract_lets +onlyGivenNames -merge -useContext -underBinder s10
      have h11 : ∀ {t}, Kept l s0 t → Kept l s0 (s10 t) := by
        intro t h12
        unfold s10
        exact (State.seeArchive_kept h12 (Part.sub hp))
      clear_value s10
      refine Kept.ite ?_ ?_
      · extract_lets +onlyGivenNames -merge -useContext -underBinder s13
        have h14 : Kept l s0 s13 := by unfold s13; exact (h11 (State.wr_kept h2 (REC.STAT.archived_zoned (Part.at hp))))
        clear_value s13
        exact (h14.recorder (Part.at hp))
      · exact (h11 h4)
    · exact h4
  · refine Kept.ite ?_ ?_
    · exact h4
    · split
      · extract_lets +onlyGivenNames -merge -useContext -underBinder s15
        clear_value s15
        extract_lets +onlyGivenNames -merge -useContext -underBinder s17
        have h18 : Kept l s0 s17 := by unfold s17; exact (State.wr_kept h (REC.STAT.clearing_zoned (Part.at hp)))
        clear_value s17
        exact (State.clearStep_kept (h18.recorder (Part.at hp)) (Part.sub hp))
      · exact h4
  · exact (State.recEvent_kept h2 (Part.sub hp))
  · exact (h2.recorder (Part.at hp))
  · exact h4

theorem State.recCommands_kept {l s0} {s} (h : Kept l s0 s) (hp : Part.within [.recorder, .page 0x49, .head 0x14, .head 0x24, .page 0x42, .head 0x20, .page 0x40, .sramWeak, .page 0x41, .sram, .sramBad, .msg, .page 0x178, .page 0x48, .nvm, .page 0x51] l) :
    Kept l s0 (State.recCommands s) := by
  unfold State.recCommands
  refine Kept.ite ?_ ?_
  · exact h
  · extract_lets +onlyGivenNames -merge -useContext -underBinder s1
    clear_value s1
    exact (Kept.each (h.recorder (Part.at hp)) (fun _ _ h3 => (State.recApply_kept h3 (Part.sub hp))))

theorem State.recCapture_kept {l s0} {s} (h : Kept l s0 s) (hp : Part.within [.nvm, .head 0x24, .head 0x14, .page 0x42, .head 0x20, .page 0x41, .page 0x40, .sram, .sramBad, .sramWeak, .page 0x49, .recorder] l) :
    Kept l s0 (State.recCapture s) := by
  unfold State.recCapture
  extract_lets +onlyGivenNames -merge -useContext -underBinder s1
  clear_value s1
  extract_lets +onlyGivenNames -merge -useContext -underBinder s3
  clear_value s3
  refine Kept.ite ?_ ?_
  · exact h
  · split
    · exact (State.eraseSnap_kept h (Part.sub hp))
    · extract_lets +onlyGivenNames -merge -useContext -underBinder s5
      clear_value s5
      extract_lets +onlyGivenNames -merge -useContext -underBinder s7
      have h8 : Kept l s0 s7 := by unfold s7; exact (State.workPut_kept h (Part.sub hp))
      clear_value s7
      split
      · rename_i s210 q11
        have h9 : Kept l s0 s210 := Kept.snd q11 (State.boundRead_kept h8 (Part.sub hp))
        exact h9
      · rename_i val13 s214 q25
        have h12 : Kept l s0 s214 := Kept.snd q25 (State.boundRead_kept h8 (Part.sub hp))
        extract_lets +onlyGivenNames -merge -useContext -underBinder s15
        clear_value s15
        extract_lets +onlyGivenNames -merge -useContext -underBinder s17
        have h18 : Kept l s0 s17 := by unfold s17; exact (State.boundWrite_kept h12 (Part.sub hp))
        clear_value s17
        extract_lets +onlyGivenNames -merge -useContext -underBinder s19 s20 s21
        have h22 : Kept l s0 s19 := by unfold s19; exact (State.wr_kept h18 (REC.STAT.snapping_zoned (Part.at hp)))
        have h24 : Kept l s0 s21 := by unfold s21; exact (h22.recorder (Part.at hp))
        clear_value s21
        clear_value s20
        clear_value s19
        exact (State.nvmIssue_kept h24 (Part.sub hp))

theorem State.recordsEnd_kept {l s0} {x0} {s} (h : Kept l s0 s) (hp : Part.within [.page 0x49, .head 0x14, .recorder, .head 0x24, .page 0x42, .head 0x20, .page 0x41, .page 0x40, .sram, .sramBad, .sramWeak, .msg, .store, .nvm, .page 0x58, .page 0x48, .page 0x51] l) :
    Kept l s0 (State.recordsEnd x0 s) := by
  unfold State.recordsEnd
  exact (Kept.ite (State.tellDrops_kept (State.programStaged_kept h (Part.sub hp)) (Part.sub hp)) (State.fault_kept h (REC.FAULT.logwr_zoned (Part.at hp)) (Part.sub hp)))

theorem State.summarise_kept {l s0} {s} {x1} (h : Kept l s0 s) (hp : Part.within [.recorder, .page 0x49, .head 0x14, .head 0x24, .page 0x42, .head 0x20, .page 0x41, .page 0x40, .sram, .sramBad, .sramWeak, .msg, .page 0x178] l) :
    Kept l s0 (State.summarise s x1) := by
  unfold State.summarise
  split
  · exact h
  · extract_lets +onlyGivenNames -merge -useContext -underBinder s1
    clear_value s1
    extract_lets +onlyGivenNames -merge -useContext -underBinder s3
    have h4 : Kept l s0 s3 := by unfold s3; exact (State.recEvent_kept h (Part.sub hp))
    clear_value s3
    extract_lets +onlyGivenNames -merge -useContext -underBinder s5
    have h6 : Kept l s0 s5 := by unfold s5; exact (State.wr_kept h4 (REC.CLS.suppressed_zoned (Part.at hp)))
    clear_value s5
    exact (h6.recorder (Part.at hp))

theorem execNewLeg_kept {l s0} {x0} {s} (h : Kept l s0 s) (hp : Part.within [.page 0x1, .status, .page 0x49, .recorder, .head 0x14] l) :
    KeptR l s0 (execNewLeg x0 s) := by
  unfold execNewLeg
  exact (State.command_kept h (fun h1 => (State.recCommand_kept h1 (Part.sub hp))) (Part.sub hp))

theorem execHistogramClear_kept {l s0} {x0} {x1} {s} (h : Kept l s0 s) (hp : Part.within [.page 0x1, .status, .page 0x49, .recorder, .head 0x14] l) :
    KeptR l s0 (execHistogramClear x0 x1 s) := by
  unfold execHistogramClear
  exact (State.command_kept h (fun h1 => (State.recCommand_kept h1 (Part.sub hp))) (Part.sub hp))

theorem execArchiveAcknowledge_kept {l s0} {x0} {s} (h : Kept l s0 s) (hp : Part.within [.page 0x1, .status, .page 0x49, .recorder, .head 0x14] l) :
    KeptR l s0 (execArchiveAcknowledge x0 s) := by
  unfold execArchiveAcknowledge
  exact (State.command_kept h (fun h1 => (State.recCommand_kept h1 (Part.sub hp))) (Part.sub hp))

theorem execClearLog_kept {l s0} {x0} {s} (h : Kept l s0 s) (hp : Part.within [.page 0x1, .status, .page 0x49, .recorder, .head 0x14] l) :
    KeptR l s0 (execClearLog x0 s) := by
  unfold execClearLog
  exact (State.command_kept h (fun h1 => (State.recCommand_kept h1 (Part.sub hp))) (Part.sub hp))

theorem execWriteRecord_kept {l s0} {x0} {s} (h : Kept l s0 s) (hp : Part.within [.page 0x1, .status, .page 0x49, .recorder, .head 0x14] l) :
    KeptR l s0 (execWriteRecord x0 s) := by
  unfold execWriteRecord
  exact (State.command_kept h (fun h1 => (State.recCommand_kept h1 (Part.sub hp))) (Part.sub hp))

theorem execCaptureBase_kept {l s0} {x0} {s} (h : Kept l s0 s) (hp : Part.within [.page 0x1, .status, .page 0x49, .recorder, .head 0x14] l) :
    KeptR l s0 (execCaptureBase x0 s) := by
  unfold execCaptureBase
  exact (State.command_kept h (fun h1 => (State.recCommand_kept h1 (Part.sub hp))) (Part.sub hp))

theorem execHselWrite_kept {l s0} {x0} {x1} {s} (h : Kept l s0 s) (hp : Part.within [.page 0x1, .status, .page 0x49] l) :
    KeptR l s0 (execHselWrite x0 x1 s) := by
  unfold execHselWrite
  exact (State.command_kept h (fun h1 => (State.hsel_kept h1 (Part.sub hp))) (Part.sub hp))

theorem execBaseVerified_kept {l s0} {x0} {s} (h : Kept l s0 s) (hp : Part.within [.nvm, .page 0x48, .page 0x49, .recorder, .store, .page 0x58, .head 0x14, .head 0x24, .head 0x20, .freeCount, .page 0x42, .page 0x41, .page 0x40, .sram, .sramBad, .sramWeak] l) :
    KeptR l s0 (execBaseVerified x0 s) := by
  unfold execBaseVerified
  exact (KeptR.ite (KeptR.next (State.baseEnd_kept h (Part.sub hp))) (KeptR.next h))

theorem execStagedRecordProgram_kept {l s0} {x0} {s} (h : Kept l s0 s) (hp : Part.within [.page 0x49, .head 0x14, .recorder, .head 0x24, .page 0x42, .head 0x20, .page 0x41, .page 0x40, .sram, .sramBad, .sramWeak, .msg, .store, .nvm, .page 0x58, .page 0x48, .page 0x51] l) :
    KeptR l s0 (execStagedRecordProgram x0 s) := by
  unfold execStagedRecordProgram
  exact (KeptR.ite (KeptR.next h) (KeptR.ite (KeptR.next (State.recordsEnd_kept h (Part.sub hp))) (KeptR.ite (KeptR.next h) (KeptR.next (State.nvmIssue_kept h (Part.sub hp))))))

theorem execTokenRefill_kept {l s0} {x0} {s} (h : Kept l s0 s) (hp : Part.within [.page 0x178, .recorder, .page 0x49, .head 0x14, .head 0x24, .page 0x42, .head 0x20, .page 0x41, .page 0x40, .sram, .sramBad, .sramWeak, .msg] l) :
    KeptR l s0 (execTokenRefill x0 s) := by
  unfold execTokenRefill
  refine KeptR.ite ?_ ?_
  · exact (KeptR.next h)
  · extract_lets +onlyGivenNames -merge -useContext -underBinder s1
    clear_value s1
    extract_lets +onlyGivenNames -merge -useContext -underBinder s3
    clear_value s3
    extract_lets +onlyGivenNames -merge -useContext -underBinder s5
    have h6 : Kept l s0 s5 := by unfold s5; exact (State.wr_kept h (REC.CLS.tokens_zoned (Part.at hp)))
    clear_value s5
    exact (KeptR.next (Kept.ite (State.summarise_kept h6 (Part.sub hp)) h6))

theorem execSummaryInterval_kept {l s0} {x0} {s} (h : Kept l s0 s) (hp : Part.within [.recorder, .page 0x49, .head 0x14, .head 0x24, .page 0x42, .head 0x20, .page 0x41, .page 0x40, .sram, .sramBad, .sramWeak, .msg, .page 0x178] l) :
    KeptR l s0 (execSummaryInterval x0 s) := by
  unfold execSummaryInterval
  exact (KeptR.ite (KeptR.next h) (KeptR.next (State.summarise_kept h (Part.sub hp))))

end Sys2Proof.Machine
end

