-- ==== Sys2Proof/Laws/Rtc.lean ====
section
/-!
SUPPORT. What each operation of Machine/Rtc.lean can change: one lemma per operation, named after it. An operation started in a
state that has kept all parts of an earlier one but some keeps all but those and the parts that its lemma lists, and the
canonical form of the sparse maps with them.
-/

set_option Elab.async false

namespace Sys2Proof.Machine

theorem State.alarmFire_kept {l s0} {s} {x1} {x2} {x3} (h : Kept l s0 s) (hp : Part.within [.head 0x14, .page 0x50, .rtc] l) :
    Kept l s0 (State.alarmFire s x1 x2 x3) := by
  unfold State.alarmFire
  extract_lets +onlyGivenNames -merge -useContext -underBinder s1
  have h2 : Kept l s0 s1 := by unfold s1; exact (State.put_kept (State.irq_kept h (Zoned.ite (RTC.IRQRAW.alm0_zoned (Part.at hp)) (RTC.IRQRAW.alm1_zoned (Part.at hp)))) (Zoned.ite (RTC.STAT.skip0_zoned (Part.at hp)) (RTC.STAT.skip1_zoned (Part.at hp))))
  clear_value s1
  exact (h2.rtc (Part.at hp))

theorem State.alarms_kept {l s0} {s} {x1} {x2} (h : Kept l s0 s) (hp : Part.within [.head 0x14, .page 0x50, .rtc] l) :
    Kept l s0 (State.alarms s x1 x2) := by
  unfold State.alarms
  extract_lets +onlyGivenNames -merge -useContext -underBinder s1
  clear_value s1
  refine Kept.ite ?_ ?_
  · exact h
  · refine Kept.each h (fun _ _ h3 => ?_)
    extract_lets +onlyGivenNames -merge -useContext -underBinder s4
    clear_value s4
    split
    · exact (State.alarmFire_kept h3 (Part.sub hp))
    · exact (Kept.ite (State.alarmFire_kept h3 (Part.sub hp)) h3)

theorem State.answerWord_kept {l s0} {s} {x1} {x2} (h : Kept l s0 s) (hp : Part.within [.status, .response] l) :
    Kept l s0 (State.answerWord s x1 x2) := by
  unfold State.answerWord
  exact (h.upd [.status, .response] (Part.sub hp) (fun p hn => by cases p <;> first | rfl | exact True.intro | exact absurd (by decide) hn) rfl id)

theorem State.clearRange_kept {l s0} {s} {lo hi n : Nat} (h : Kept l s0 s) (hp : Part.among (.page n) l) (e : Part.holdsRange n lo hi = true) : Kept l s0 (State.clearRange s lo hi) :=
  h.cleared (k := fun a => !(decide (lo ≤ a) && decide (a < hi))) hp fun _ c => Part.covers_range e c

theorem State.clearRange_all_kept {l s0} {s} {lo hi : Nat} (h : Kept l s0 s) (hp : Part.among .regs l) : Kept l s0 (State.clearRange s lo hi) :=
  h.cleared (k := fun a => !(decide (lo ≤ a) && decide (a < hi))) hp fun _ _ => rfl

theorem State.rtcRead_kept {l s0} {s} {x1} {x2} (h : Kept l s0 s) (hp : Part.within [.rtc] l) :
    Kept l s0 (State.rtcRead s x1 x2).2 := by
  unfold State.rtcRead
  extract_lets +onlyGivenNames -merge -useContext -underBinder s1
  clear_value s1
  extract_lets +onlyGivenNames -merge -useContext -underBinder s3
  clear_value s3
  extract_lets +onlyGivenNames -merge -useContext -underBinder s5 s6
  have h8 : Kept l s0 s6 := by unfold s6; exact (h.rtc (Part.at hp))
  clear_value s6
  clear_value s5
  exact (Kept.beside h8)

theorem State.rtcRefuse_kept {l s0} {s} {x1} (h : Kept l s0 s) (hp : Part.within [.page 0x50] l) :
    Kept l s0 (State.rtcRefuse s x1) := by
  unfold State.rtcRefuse
  exact (State.cmdStat_kept h (RTC.CMDSTAT.state_zoned (Part.at hp)) (RTC.CMDSTAT.reason_zoned (Part.at hp)))

theorem State.rtcCommand_kept {l s0} {s} {x1} {x2} {x3} {x4} (h : Kept l s0 s) (hp : Part.within [.page 0x50, .rtc] l) :
    Kept l s0 (State.rtcCommand s x1 x2 x3 x4) := by
  unfold State.rtcCommand
  refine Kept.ite ?_ ?_
  · exact (State.wr_kept h (RTC.CMDSTAT.reason_zoned (Part.at hp)))
  · refine Kept.ite ?_ ?_
    · exact (State.rtcRefuse_kept h (Part.sub hp))
    · refine Kept.ite ?_ ?_
      · exact (State.rtcRefuse_kept h (Part.sub hp))
      · extract_lets +onlyGivenNames -merge -useContext -underBinder s1
        have h2 : Kept l s0 s1 := by unfold s1; exact (State.cmdStat_kept h (RTC.CMDSTAT.state_zoned (Part.at hp)) (RTC.CMDSTAT.reason_zoned (Part.at hp)))
        clear_value s1
        exact (h2.rtc (Part.at hp))

theorem State.clearOsf_kept {l s0} {s} (h : Kept l s0 s) (hp : Part.within [.page 0x50] l) :
    Kept l s0 (State.clearOsf s) := by
  unfold State.clearOsf
  exact (Kept.ite (State.wr_kept h (RTC.STAT.osf_zoned (Part.at hp))) h)

theorem State.vbatSample_kept {l s0} {s} (h : Kept l s0 s) (hp : Part.within [.freeCount, .page 0x51] l) :
    Kept l s0 (State.vbatSample s) := by
  unfold State.vbatSample
  refine Kept.ite ?_ ?_
  · exact h
  · split
    · rename_i x2 t3 q4
      have h1 : Kept l s0 t3 := Kept.snd q4 (State.draw_kept h (Part.sub hp))
      exact (State.wr_kept h1 (BKPM.STAT.vbat_ok_zoned (Part.at hp)))

theorem State.rtcTo_kept {l s0} {s} {x1} (h : Kept l s0 s) (hp : Part.within [.rtc, .page 0x50, .head 0x14] l) :
    Kept l s0 (State.rtcTo s x1) := by
  unfold State.rtcTo
  extract_lets +onlyGivenNames -merge -useContext -underBinder s1
  clear_value s1
  extract_lets +onlyGivenNames -merge -useContext -underBinder s3 s4
  have h6 : Kept l s0 s4 := by unfold s4; exact (h.rtc (Part.at hp))
  clear_value s4
  clear_value s3
  exact (Kept.ite h6 (State.irq_kept (State.wr_kept h6 (RTC.STAT.wrap_zoned (Part.at hp))) (RTC.IRQRAW.wrap_zoned (Part.at hp))))

theorem State.rtcApplied_kept {l s0} {s} {x1} (h : Kept l s0 s) (hp : Part.within [.page 0x50, .head 0x14, .page 0x49, .recorder, .head 0x24, .page 0x42, .head 0x20, .page 0x41, .page 0x40, .sram, .sramBad, .sramWeak, .msg, .page 0x178] l) :
    Kept l s0 (State.rtcApplied s x1) := by
  unfold State.rtcApplied
  extract_lets +onlyGivenNames -merge -useContext -underBinder s1
  have h2 : Kept l s0 s1 := by unfold s1; exact (State.irq_kept (State.cmdStat_kept h (RTC.CMDSTAT.state_zoned (Part.at hp)) (RTC.CMDSTAT.reason_zoned (Part.at hp))) (RTC.IRQRAW.cmd_done_zoned (Part.at hp)))
  clear_value s1
  exact (State.anchor_kept h2 (Part.sub hp))

theorem State.rtcApply_kept {l s0} {s} {x1} {x2} {x3} {x4} {x5} (h : Kept l s0 s) (hp : Part.within [.head 0x14, .page 0x50, .rtc, .page 0x49, .recorder, .head 0x24, .page 0x42, .head 0x20, .page 0x41, .page 0x40, .sram, .sramBad, .sramWeak, .msg, .page 0x178] l) :
    Kept l s0 (State.rtcApply s x1 x2 x3 x4 x5) := by
  unfold State.rtcApply
  split
  · split
    · exact (State.alarms_kept (State.irq_kept (State.wr_kept (State.wr_kept (State.rtcRefuse_kept h (Part.sub hp)) (RTC.CMDSTAT.setfld_zoned (Part.at hp))) (RTC.STAT.seterr_zoned (Part.at hp))) (RTC.IRQRAW.seterr_zoned (Part.at hp))) (Part.sub hp))
    · extract_lets +onlyGivenNames -merge -useContext -underBinder s1 s2
      have h4 : Kept l s0 s2 := by unfold s2; exact (h.rtc (Part.at hp))
      clear_value s2
      clear_value s1
      exact (State.rtcApplied_kept (State.alarms_kept (State.wr_kept h4 (RTC.STAT.wrap_zoned (Part.at hp))) (Part.sub hp)) (Part.sub hp))
  · exact (Kept.ite (State.alarms_kept (State.rtcRefuse_kept h (Part.sub hp)) (Part.sub hp)) (State.rtcApplied_kept (State.alarms_kept (State.wr_kept (State.rtcTo_kept h (Part.sub hp)) (RTC.STAT.dst_zoned (Part.at hp))) (Part.sub hp)) (Part.sub hp)))
  · exact (Kept.ite (State.alarms_kept (State.rtcRefuse_kept h (Part.sub hp)) (Part.sub hp)) (Kept.ite (State.alarms_kept (State.rtcRefuse_kept h (Part.sub hp)) (Part.sub hp)) (State.rtcApplied_kept (State.alarms_kept (State.wr_kept (State.rtcTo_kept h (Part.sub hp)) (RTC.STAT.dst_zoned (Part.at hp))) (Part.sub hp)) (Part.sub hp))))
  · exact (Kept.ite (Kept.ite (State.alarms_kept (State.rtcRefuse_kept h (Part.sub hp)) (Part.sub hp)) (State.rtcApplied_kept (State.alarms_kept (State.rtcTo_kept h (Part.sub hp)) (Part.sub hp)) (Part.sub hp))) (State.rtcApplied_kept (State.alarms_kept (State.rtcTo_kept h (Part.sub hp)) (Part.sub hp)) (Part.sub hp)))
  · extract_lets +onlyGivenNames -merge -useContext -underBinder s5 s6
    have h8 : Kept l s0 s6 := by unfold s6; exact (h.rtc (Part.at hp))
    clear_value s6
    clear_value s5
    exact (State.alarms_kept (State.irq_kept (State.cmdStat_kept h8 (RTC.CMDSTAT.state_zoned (Part.at hp)) (RTC.CMDSTAT.reason_zoned (Part.at hp))) (RTC.IRQRAW.cmd_done_zoned (Part.at hp))) (Part.sub hp))

theorem State.rtcAdvance_kept {l s0} {s} {x1} (h : Kept l s0 s) (hp : Part.within [.rtc, .page 0x50, .head 0x14, .page 0x49, .recorder, .head 0x24, .page 0x42, .head 0x20, .page 0x41, .page 0x40, .sram, .sramBad, .sramWeak, .msg, .page 0x178] l) :
    Kept l s0 (State.rtcAdvance s x1) := by
  unfold State.rtcAdvance
  extract_lets +onlyGivenNames -merge -useContext -underBinder s1
  clear_value s1
  extract_lets +onlyGivenNames -merge -useContext -underBinder s3
  clear_value s3
  extract_lets +onlyGivenNames -merge -useContext -underBinder s5 s6
  have h8 : Kept l s0 s6 := by unfold s6; exact (Kept.ite (State.irq_kept (State.wr_kept (h.rtc (Part.at hp)) (RTC.STAT.wrap_zoned (Part.at hp))) (RTC.IRQRAW.wrap_zoned (Part.at hp))) (State.rtcTo_kept h (Part.sub hp)))
  clear_value s6
  clear_value s5
  split
  · exact (State.alarms_kept h8 (Part.sub hp))
  · exact (State.rtcApply_kept (h8.rtc (Part.at hp)) (Part.sub hp))

theorem State.pacerTick_kept {l s0} {s} (h : Kept l s0 s) (hp : Part.within [.rtc, .page 0x50, .head 0x14, .page 0x49, .recorder, .head 0x24, .page 0x42, .head 0x20, .page 0x41, .page 0x40, .sram, .sramBad, .sramWeak, .msg, .page 0x178] l) :
    Kept l s0 (State.pacerTick s) := by
  unfold State.pacerTick
  extract_lets +onlyGivenNames -merge -useContext -underBinder s1
  clear_value s1
  extract_lets +onlyGivenNames -merge -useContext -underBinder s3
  clear_value s3
  extract_lets +onlyGivenNames -merge -useContext -underBinder s5
  clear_value s5
  extract_lets +onlyGivenNames -merge -useContext -underBinder s7
  clear_value s7
  extract_lets +onlyGivenNames -merge -useContext -underBinder s9
  clear_value s9
  extract_lets +onlyGivenNames -merge -useContext -underBinder s11 s12 s13
  have h16 : Kept l s0 s13 := by unfold s13; exact (Kept.ite (h.rtc (Part.at hp)) (h.rtc (Part.at hp)))
  clear_value s13
  clear_value s12
  clear_value s11
  exact (State.rtcAdvance_kept h16 (Part.sub hp))

theorem State.secondCarry_kept {l s0} {s} (h : Kept l s0 s) (hp : Part.within [.rtc, .page 0x50, .head 0x14, .page 0x49, .recorder, .head 0x24, .page 0x42, .head 0x20, .page 0x41, .page 0x40, .sram, .sramBad, .sramWeak, .msg, .page 0x178] l) :
    Kept l s0 (State.secondCarry s) := by
  unfold State.secondCarry
  extract_lets +onlyGivenNames -merge -useContext -underBinder s1
  clear_value s1
  extract_lets +onlyGivenNames -merge -useContext -underBinder s3
  clear_value s3
  exact (State.pacerTick_kept (h.rtc (Part.at hp)) (Part.sub hp))

theorem State.setOsf_kept {l s0} {s} (h : Kept l s0 s) (hp : Part.within [.head 0x24, .head 0x14, .page 0x50, .head 0x20, .rtc] l) :
    Kept l s0 (State.setOsf s) := by
  unfold State.setOsf
  extract_lets +onlyGivenNames -merge -useContext -underBinder s1
  have h2 : Kept l s0 s1 := by unfold s1; exact (State.fault_kept (State.irq_kept (State.wr_kept h (RTC.STAT.osf_zoned (Part.at hp))) (RTC.IRQRAW.osf_zoned (Part.at hp))) (RTC.FAULT.osc_zoned (Part.at hp)) (Part.sub hp))
  clear_value s1
  exact (h2.rtc (Part.at hp))

theorem execRtcTimeRead_kept {l s0} {x0} {x1} {s} (h : Kept l s0 s) (hp : Part.within [.status, .response, .rtc] l) :
    KeptR l s0 (execRtcTimeRead x0 x1 s) := by
  unfold execRtcTimeRead
  refine KeptR.ite ?_ ?_
  · exact (KeptR.next h)
  · refine KeptR.ite ?_ ?_
    · exact (KeptR.next (State.answerWord_kept h (Part.sub hp)))
    · split
      · rename_i v2 s13 q4
        have h1 : Kept l s0 s13 := Kept.snd q4 (State.rtcRead_kept h (Part.sub hp))
        exact (KeptR.next (State.answerWord_kept h1 (Part.sub hp)))

theorem execRtcFreezeTimeout_kept {l s0} {x0} {s} (h : Kept l s0 s) (hp : Part.within [.rtc, .head 0x14] l) :
    KeptR l s0 (execRtcFreezeTimeout x0 s) := by
  unfold execRtcFreezeTimeout
  exact (KeptR.ite (KeptR.next (State.irq_kept (h.rtc (Part.at hp)) (RTC.IRQRAW.freeze_to_zoned (Part.at hp)))) (KeptR.next h))

theorem execVbatLow_kept {l s0} {s} (h : Kept l s0 s) (hp : Part.within [.page 0x51, .head 0x14] l) :
    KeptR l s0 (execVbatLow s) := by
  unfold execVbatLow
  exact (KeptR.next (Kept.when (State.wr_kept (State.wr_kept h (BKPM.STAT.vbat_low_zoned (Part.at hp))) (BKPM.STAT.vbat_ok_zoned (Part.at hp))) (fun _ h1 => (State.irq_kept h1 (BKPM.IRQRAW.vbat_low_zoned (Part.at hp))))))

end Sys2Proof.Machine
end

