-- ==== Sys2Proof/Laws/Terms.lean ====
section
/-!
SUPPORT. What each operation of Machine/Terms.lean can change: one lemma per operation, named after it. An operation started in a
state that has kept all parts of an earlier one but some keeps all but those and the parts that its lemma lists, and the
canonical form of the sparse maps with them.
-/

set_option Elab.async false

namespace Sys2Proof.Machine

theorem State.advanceTarget_kept {l s0} {s} {x1} (h : Kept l s0 s) (hp : Part.within [.page 0x10] l) :
    Kept l s0 (State.advanceTarget s x1) := by
  unfold State.advanceTarget
  exact (State.wr_kept h (CAL.BANKSTAT.target_zoned (Part.at hp)))

theorem State.setPhase_kept {l s0} {s} {x1} {x2} (h : Kept l s0 s) (hp : Part.within [.page 0x10] l) :
    Kept l s0 (State.setPhase s x1 x2) := by
  unfold State.setPhase
  exact (Kept.ite h (State.wr_kept h (CAL.BANKSTAT.phase_zoned (Part.at hp))))

theorem State.strideDefer_kept {l s0} {s} {x1} (h : Kept l s0 s) (hp : Part.within [.page 0x10, .head 0x14] l) :
    Kept l s0 (State.strideDefer s x1) := by
  unfold State.strideDefer
  exact (State.wr_kept (State.irq_kept (State.stick_kept h (CAL.DEFERCNT.count_zoned (Part.at hp)) (CAL.CNTOVF.defer_zoned (Part.at hp)) (ZonedOpt.some (CAL.IRQRAW.cnt_ovf_zoned (Part.at hp)))) (CAL.IRQRAW.stride_defer_zoned (Part.at hp))) (CAL.BANKSTAT.outcome_zoned (Part.at hp)))

theorem State.deferStride_kept {l s0} {s} {x1} (h : Kept l s0 s) (hp : Part.within [.cal, .page 0x10, .head 0x14] l) :
    Kept l s0 (State.deferStride s x1) := by
  unfold State.deferStride
  exact (Kept.ite h (Kept.ite (State.modStride_kept h (Part.sub hp)) (State.modStride_kept (State.advanceTarget_kept (State.setPhase_kept (State.strideDefer_kept h (Part.sub hp)) (Part.sub hp)) (Part.sub hp)) (Part.sub hp))))

theorem State.deferStrides_kept {l s0} {s} (h : Kept l s0 s) (hp : Part.within [.cal, .page 0x10, .head 0x14] l) :
    Kept l s0 (State.deferStrides s) := by
  unfold State.deferStrides
  exact (Kept.each h (fun _ _ h1 => (State.deferStride_kept h1 (Part.sub hp))))

theorem State.showPersistent_kept {l s0} {s} (h : Kept l s0 s) (hp : Part.within [.page 0x10, .pages 0x8 0x10] l) :
    Kept l s0 (State.showPersistent s) := by
  unfold State.showPersistent
  extract_lets +onlyGivenNames -merge -useContext -underBinder s1
  have h2 : Kept l s0 s1 := by unfold s1; exact (Kept.each h (fun _ _ h3 => (State.putNth_kept h3 (ZonedFn.pageOf (n := 16) (Part.at hp) (fun _ => by simp only [CAL.RETIRED.ch]; omega)))))
  clear_value s1
  extract_lets +onlyGivenNames -merge -useContext -underBinder s4
  have h5 : Kept l s0 s4 := by unfold s4; exact (State.wr_kept h2 (CAL.REFSTAT.failed_zoned (Part.at hp)))
  clear_value s4
  exact (Kept.each h5 (fun _ _ h6 => (State.wr_kept h6 (AFE.LANEMAP.retired_zoned (Part.at hp)))))

theorem State.calIssue_kept {l s0} {s} (h : Kept l s0 s) (hp : Part.within [.nvm] l) :
    Kept l s0 (State.calIssue s) := by
  unfold State.calIssue
  split
  · exact h
  · exact (Kept.ite h (State.nvmIssue_kept h (Part.sub hp)))

theorem State.startRotation_kept {l s0} {s} {x1} (h : Kept l s0 s) (hp : Part.within [.cal, .page 0x10] l) :
    Kept l s0 (State.startRotation s x1) := by
  unfold State.startRotation
  exact (State.wr_kept (State.modStride_kept h (Part.sub hp)) (CAL.BANKSTAT.initial_zoned (Part.at hp)))

theorem State.queueCopy_kept {l s0} {s} {x1} (h : Kept l s0 s) (hp : Part.within [.nvm, .cal] l) :
    Kept l s0 (State.queueCopy s x1) := by
  unfold State.queueCopy
  extract_lets +onlyGivenNames -merge -useContext -underBinder s1
  clear_value s1
  extract_lets +onlyGivenNames -merge -useContext -underBinder s3
  clear_value s3
  extract_lets +onlyGivenNames -merge -useContext -underBinder s5
  clear_value s5
  exact (State.calIssue_kept (h.cal (Part.at hp)) (Part.sub hp))

theorem State.persist_kept {l s0} {s} (h : Kept l s0 s) (hp : Part.within [.nvm, .cal] l) :
    Kept l s0 (State.persist s) := by
  unfold State.persist
  exact (Kept.ite h (State.queueCopy_kept h (Part.sub hp)))

theorem State.updateShunts_kept {l s0} {s} (h : Kept l s0 s) (hp : Part.within [.terms] l) :
    Kept l s0 (State.updateShunts s) := by
  unfold State.updateShunts
  extract_lets +onlyGivenNames -merge -useContext -underBinder s1
  clear_value s1
  extract_lets +onlyGivenNames -merge -useContext -underBinder s3
  clear_value s3
  refine Kept.ite ?_ ?_
  · exact (h.terms (Part.at hp))
  · refine Kept.each h (fun _ _ h5 => ?_)
    extract_lets +onlyGivenNames -merge -useContext -underBinder s6
    clear_value s6
    extract_lets +onlyGivenNames -merge -useContext -underBinder s8
    clear_value s8
    extract_lets +onlyGivenNames -merge -useContext -underBinder s10
    clear_value s10
    extract_lets +onlyGivenNames -merge -useContext -underBinder s12
    clear_value s12
    extract_lets +onlyGivenNames -merge -useContext -underBinder s14
    clear_value s14
    extract_lets +onlyGivenNames -merge -useContext -underBinder s16
    clear_value s16
    exact (h5.terms (Part.at hp))

theorem State.calLoad_kept {l s0} {s} (h : Kept l s0 s) (hp : Part.within [.page 0x48, .head 0x14, .head 0x24, .head 0x20, .page 0x10, .terms, .cal, .nvm, .pages 0x8 0x10] l) :
    Kept l s0 (State.calLoad s) := by
  unfold State.calLoad
  extract_lets +onlyGivenNames -merge -useContext -underBinder s1
  clear_value s1
  extract_lets +onlyGivenNames -merge -useContext -underBinder s3
  clear_value s3
  extract_lets +onlyGivenNames -merge -useContext -underBinder s5
  have h6 : Kept l s0 s5 := by unfold s5; exact (State.storeSee_kept (State.storeSee_kept h (Part.sub hp)) (Part.sub hp))
  clear_value s5
  extract_lets +onlyGivenNames -merge -useContext -underBinder s7
  clear_value s7
  extract_lets +onlyGivenNames -merge -useContext -underBinder s9
  have h10 : Kept l s0 s9 := by unfold s9; exact (State.wr_kept h6 (CAL.STORESTAT.valid_zoned (Part.at hp)))
  clear_value s9
  extract_lets +onlyGivenNames -merge -useContext -underBinder s11
  clear_value s11
  split
  · extract_lets +onlyGivenNames -merge -useContext -underBinder s13
    clear_value s13
    extract_lets +onlyGivenNames -merge -useContext -underBinder s15
    clear_value s15
    extract_lets +onlyGivenNames -merge -useContext -underBinder s17
    clear_value s17
    extract_lets +onlyGivenNames -merge -useContext -underBinder s19 s20
    have h22 : Kept l s0 s20 := by unfold s20; exact (h10.upd [.terms, .cal] (Part.sub hp) (fun p hn => by cases p <;> first | rfl | exact True.intro | exact absurd (by decide) hn) rfl id)
    clear_value s20
    clear_value s19
    extract_lets +onlyGivenNames -merge -useContext -underBinder s23
    have h24 : Kept l s0 s23 := by unfold s23; exact (Kept.ite h22 (State.calIssue_kept (State.irq_kept h22 (CAL.IRQRAW.store_repair_zoned (Part.at hp))) (Part.sub hp)))
    clear_value s23
    exact (State.updateShunts_kept (State.showPersistent_kept (State.wr_kept h24 (CAL.STORESEQ.seq_zoned (Part.at hp))) (Part.sub hp)) (Part.sub hp))
  · extract_lets +onlyGivenNames -merge -useContext -underBinder s25 s26
    have h28 : Kept l s0 s26 := by unfold s26; exact (h10.upd [.terms, .cal] (Part.sub hp) (fun p hn => by cases p <;> first | rfl | exact True.intro | exact absurd (by decide) hn) rfl id)
    clear_value s26
    clear_value s25
    exact (State.updateShunts_kept (State.showPersistent_kept (State.wr_kept (State.fault_kept h28 (CAL.FAULT.store_zoned (Part.at hp)) (Part.sub hp)) (CAL.STORESEQ.seq_zoned (Part.at hp))) (Part.sub hp)) (Part.sub hp))

theorem State.setModTerm_kept {l s0} {s} {x1} {x2} {x3} {x4} (h : Kept l s0 s) (hp : Part.within [.terms] l) :
    Kept l s0 (State.setModTerm s x1 x2 x3 x4) := by
  unfold State.setModTerm
  exact (h.terms (Part.at hp))

end Sys2Proof.Machine
end

