-- ==== Sys2Proof/Laws/Afe.lean ====
section
/-!
SUPPORT. What each operation of Machine/Afe.lean can change: one lemma per operation, named after it. An operation started in a
state that has kept all parts of an earlier one but some keeps all but those and the parts that its lemma lists, and the
canonical form of the sparse maps with them.
-/

set_option Elab.async false

namespace Sys2Proof.Machine

theorem State.arithQueue_kept {l s0} {s} {x1} (h : Kept l s0 s) (hp : Part.within [.lap, .page 0x11, .head 0x14, .arith] l) :
    Kept l s0 (State.arithQueue s x1) := by
  unfold State.arithQueue
  refine Kept.ite ?_ ?_
  · exact (h.lap (Part.at hp))
  · refine Kept.ite ?_ ?_
    · extract_lets +onlyGivenNames -merge -useContext -underBinder s1
      have h2 : Kept l s0 s1 := by unfold s1; exact (State.irq_kept (State.stick_kept h (ARITH.DROPCNT.count_zoned (Part.at hp)) (ARITH.CNTOVF.drop_zoned (Part.at hp)) (ZonedOpt.some (ARITH.IRQRAW.cnt_ovf_zoned (Part.at hp)))) (ARITH.IRQRAW.drop_zoned (Part.at hp)))
      clear_value s1
      exact (h2.lap (Part.at hp))
    · extract_lets +onlyGivenNames -merge -useContext -underBinder s3 s4
      have h6 : Kept l s0 s4 := by unfold s4; exact (h.arith (Part.at hp))
      clear_value s4
      clear_value s3
      exact (Kept.ite (State.wr_kept h6 (ARITH.QMAX.entries_zoned (Part.at hp))) h6)

theorem State.passEntry_kept {l s0} {s} {x1} {x2} (h : Kept l s0 s) (hp : Part.within [.lap, .page 0x11, .head 0x14, .arith, .pair] l) :
    Kept l s0 (State.passEntry s x1 x2) := by
  unfold State.passEntry
  extract_lets +onlyGivenNames -merge -useContext -underBinder s1
  clear_value s1
  refine Kept.ite ?_ ?_
  · exact (State.arithQueue_kept h (Part.sub hp))
  · split
    · exact (Kept.ite (State.arithQueue_kept h (Part.sub hp)) (h.pair (Part.at hp)))
    · exact (h.pair (Part.at hp))

theorem State.setRun_kept {l s0} {s} {x1} {x2} (h : Kept l s0 s) (hp : Part.within [.afe] l) :
    Kept l s0 (State.setRun s x1 x2) := by
  unfold State.setRun
  exact (State.modBank_kept h (Part.sub hp))

theorem State.endRun_kept {l s0} {s} {x1} {x2} {x3} (h : Kept l s0 s) (hp : Part.within [.lap, .page 0x11, .head 0x14, .arith, .pair, .afe] l) :
    Kept l s0 (State.endRun s x1 x2 x3) := by
  unfold State.endRun
  extract_lets +onlyGivenNames -merge -useContext -underBinder s1 s2
  clear_value s2
  clear_value s1
  exact (State.passEntry_kept (State.modBank_kept (State.setRun_kept h (Part.sub hp)) (Part.sub hp)) (Part.sub hp))

theorem State.scanEnd_kept {l s0} {s} {x1} (h : Kept l s0 s) (hp : Part.within [.pages 0x8 0x10, .afe] l) :
    Kept l s0 (State.scanEnd s x1) := by
  unfold State.scanEnd
  extract_lets +onlyGivenNames -merge -useContext -underBinder s1
  clear_value s1
  refine Kept.ite ?_ ?_
  · exact h
  · extract_lets +onlyGivenNames -merge -useContext -underBinder s3
    have h4 : Kept l s0 s3 := by unfold s3; exact (State.wr_kept (State.wr_kept (State.wr_kept (State.wr_kept h (AFE.CHOPEN.ctx_zoned (Part.at hp))) (AFE.CHSHORT.ctx_zoned (Part.at hp))) (AFE.CHRESTART.ctx_zoned (Part.at hp))) (AFE.CHABORT.ctx_zoned (Part.at hp)))
    clear_value s3
    exact (State.modBank_kept (State.wr_kept h4 (AFE.LAPUSED.us_zoned (Part.at hp))) (Part.sub hp))

theorem State.abandonBank_kept {l s0} {s} {x1} (h : Kept l s0 s) (hp : Part.within [.lap, .page 0x11, .head 0x14, .arith, .pair, .afe, .pages 0x8 0x10] l) :
    Kept l s0 (State.abandonBank s x1) := by
  unfold State.abandonBank
  extract_lets +onlyGivenNames -merge -useContext -underBinder s1
  clear_value s1
  extract_lets +onlyGivenNames -merge -useContext -underBinder s3
  have h4 : Kept l s0 s3 := by unfold s3; exact (Kept.each h (fun _ _ h5 => (State.endRun_kept h5 (Part.sub hp))))
  clear_value s3
  extract_lets +onlyGivenNames -merge -useContext -underBinder s6
  clear_value s6
  extract_lets +onlyGivenNames -merge -useContext -underBinder s8 s9
  have h11 : Kept l s0 s9 := by unfold s9; exact (h4.lap (Part.at hp))
  clear_value s9
  clear_value s8
  exact (State.scanEnd_kept (State.modBank_kept h11 (Part.sub hp)) (Part.sub hp))

theorem State.dropBank_kept {l s0} {s} {x1} (h : Kept l s0 s) (hp : Part.within [.afe, .arith, .lap, .pair] l) :
    Kept l s0 (State.dropBank s x1) := by
  unfold State.dropBank
  exact (State.setBank_kept (h.upd [.arith, .lap, .pair] (Part.sub hp) (fun p hn => by cases p <;> first | rfl | exact True.intro | exact absurd (by decide) hn) rfl id) (Part.sub hp))

theorem State.clearSources_kept {l s0} {s} {x1} (h : Kept l s0 s) (hp : Part.within [.afe] l) :
    Kept l s0 (State.clearSources s x1) := by
  unfold State.clearSources
  exact (State.modBank_kept h (Part.sub hp))

theorem State.beginMain_kept {l s0} {s} {x1} {x2} (h : Kept l s0 s) (hp : Part.within [.cal, .afe] l) :
    Kept l s0 (State.beginMain s x1 x2) := by
  unfold State.beginMain
  extract_lets +onlyGivenNames -merge -useContext -underBinder s1
  clear_value s1
  extract_lets +onlyGivenNames -merge -useContext -underBinder s3
  have h4 : Kept l s0 s3 := by unfold s3; exact (Kept.ite (State.modStride_kept h (Part.sub hp)) h)
  clear_value s3
  exact (State.setRun_kept h4 (Part.sub hp))

theorem State.compareSpare_kept {l s0} {s} {x1} {x2} {x3} {x4} {x5} {x6} (h : Kept l s0 s) (hp : Part.within [.page 0x10, .cal, .head 0x14] l) :
    Kept l s0 (State.compareSpare s x1 x2 x3 x4 x5 x6) := by
  unfold State.compareSpare
  extract_lets +onlyGivenNames -merge -useContext -underBinder s1
  extract_lets +onlyGivenNames -merge -useContext -underBinder s3
  extract_lets +onlyGivenNames -merge -useContext -underBinder s5
  extract_lets +onlyGivenNames -merge -useContext -underBinder s7
  extract_lets +onlyGivenNames -merge -useContext -underBinder s9
  have h10 : Kept l s0 s9 := by unfold s9; exact (State.wrInt_kept h (CAL.OVLDIFF.ppb_zoned (Part.at hp)))
  clear_value s9
  extract_lets +onlyGivenNames -merge -useContext -underBinder s11
  exact (Kept.ite (State.modStride_kept h10 (Part.sub hp)) (Kept.ite (State.modStride_kept h10 (Part.sub hp)) (State.modStride_kept (State.stick_kept h10 (CAL.REPEATCNT.count_zoned (Part.at hp)) (CAL.CNTOVF.repeat_zoned (Part.at hp)) (ZonedOpt.some (CAL.IRQRAW.cnt_event_zoned (Part.at hp)))) (Part.sub hp))))

theorem State.evidence_kept {l s0} {s} {x1} {x2} {x3} (h : Kept l s0 s) (hp : Part.within [.page 0x38] l) :
    Kept l s0 (State.evidence s x1 x2 x3) := by
  unfold State.evidence
  exact (Kept.ite (State.wr_kept h (PAIR.STAT.evidence_zoned (Part.at hp))) h)

theorem State.handoverWait_kept {l s0} {s} {x1} (h : Kept l s0 s) (hp : Part.within [.page 0x10] l) :
    Kept l s0 (State.handoverWait s x1) := by
  unfold State.handoverWait
  extract_lets +onlyGivenNames -merge -useContext -underBinder s1
  clear_value s1
  extract_lets +onlyGivenNames -merge -useContext -underBinder s3
  clear_value s3
  extract_lets +onlyGivenNames -merge -useContext -underBinder s5
  clear_value s5
  extract_lets +onlyGivenNames -merge -useContext -underBinder s7
  clear_value s7
  exact (Kept.ite (State.wr_kept h (CAL.BANKSTAT.phase_zoned (Part.at hp))) h)

theorem State.judgeSources_kept {l s0} {s} {x1} (h : Kept l s0 s) (hp : Part.within [.afe, .head 0x24, .head 0x14, .head 0x20, .cal, .page 0x10] l) :
    Kept l s0 (State.judgeSources s x1) := by
  unfold State.judgeSources
  extract_lets +onlyGivenNames -merge -useContext -underBinder s1
  clear_value s1
  extract_lets +onlyGivenNames -merge -useContext -underBinder s3
  clear_value s3
  extract_lets +onlyGivenNames -merge -useContext -underBinder s5
  clear_value s5
  extract_lets +onlyGivenNames -merge -useContext -underBinder s7
  clear_value s7
  extract_lets +onlyGivenNames -merge -useContext -underBinder s9
  clear_value s9
  extract_lets +onlyGivenNames -merge -useContext -underBinder s11
  clear_value s11
  extract_lets +onlyGivenNames -merge -useContext -underBinder s13
  have h14 : Kept l s0 s13 := by unfold s13; exact (State.modBank_kept h (Part.sub hp))
  clear_value s13
  extract_lets +onlyGivenNames -merge -useContext -underBinder s15
  have h16 : Kept l s0 s15 := by unfold s15; exact (Kept.ite (State.fault_kept h14 (AFE.FAULT.iexa_zoned (Part.at hp)) (Part.sub hp)) h14)
  clear_value s15
  extract_lets +onlyGivenNames -merge -useContext -underBinder s17
  have h18 : Kept l s0 s17 := by unfold s17; exact (Kept.ite (State.fault_kept h16 (AFE.FAULT.iexb_zoned (Part.at hp)) (Part.sub hp)) h16)
  clear_value s17
  extract_lets +onlyGivenNames -merge -useContext -underBinder s19
  clear_value s19
  exact (Kept.ite (State.deferStride_kept h18 (Part.sub hp)) h18)

theorem State.reschedule_kept {l s0} {s} {x1} (h : Kept l s0 s) (hp : Part.within [.afe, .pages 0x8 0x10, .head 0x24, .head 0x14, .head 0x20] l) :
    Kept l s0 (State.reschedule s x1) := by
  unfold State.reschedule
  split
  · extract_lets +onlyGivenNames -merge -useContext -underBinder s1
    have h2 : Kept l s0 s1 := by unfold s1; exact (State.wr_kept (State.modBank_kept h (Part.sub hp)) (AFE.SCHEDEND.us_zoned (Part.at hp)))
    clear_value s1
    exact (Kept.ite (State.fault_kept h2 (AFE.FAULT.sched_zoned (Part.at hp)) (Part.sub hp)) h2)

theorem State.passBare_kept {l s0} {s} {x1} {x2} {x3} (h : Kept l s0 s) (hp : Part.within [.lap, .page 0x11, .head 0x14, .arith, .pair] l) :
    Kept l s0 (State.passBare s x1 x2 x3) := by
  unfold State.passBare
  exact (State.passEntry_kept h (Part.sub hp))

theorem State.scanStart_kept {l s0} {s} {x1} {x2} (h : Kept l s0 s) (hp : Part.within [.afe, .head 0x24, .head 0x14, .head 0x20, .cal, .page 0x10, .pages 0x8 0x10, .lap, .page 0x11, .arith, .pair] l) :
    Kept l s0 (State.scanStart s x1 x2) := by
  unfold State.scanStart
  extract_lets +onlyGivenNames -merge -useContext -underBinder s1
  have h2 : Kept l s0 s1 := by unfold s1; exact (State.judgeSources_kept h (Part.sub hp))
  clear_value s1
  extract_lets +onlyGivenNames -merge -useContext -underBinder s3
  have h4 : Kept l s0 s3 := by unfold s3; exact (Kept.ite (State.reschedule_kept h2 (Part.sub hp)) h2)
  clear_value s3
  extract_lets +onlyGivenNames -merge -useContext -underBinder s5
  clear_value s5
  extract_lets +onlyGivenNames -merge -useContext -underBinder s7
  clear_value s7
  extract_lets +onlyGivenNames -merge -useContext -underBinder s9
  clear_value s9
  extract_lets +onlyGivenNames -merge -useContext -underBinder s11
  clear_value s11
  extract_lets +onlyGivenNames -merge -useContext -underBinder s13
  have h14 : Kept l s0 s13 := by unfold s13; exact (State.modBank_kept h4 (Part.sub hp))
  clear_value s13
  extract_lets +onlyGivenNames -merge -useContext -underBinder s15
  clear_value s15
  extract_lets +onlyGivenNames -merge -useContext -underBinder s17 s18
  have h20 : Kept l s0 s18 := by unfold s18; exact (h14.lap (Part.at hp))
  clear_value s18
  clear_value s17
  exact (State.scanEnd_kept (Kept.each h20 (fun _ _ h21 => (State.passBare_kept h21 (Part.sub hp)))) (Part.sub hp))

theorem State.leadTake_kept {l s0} {s} {x1} {x2} {x3} (h : Kept l s0 s) (hp : Part.within [.afe, .pages 0x8 0x10, .head 0x14, .head 0x24, .head 0x20] l) :
    Kept l s0 (State.leadTake s x1 x2 x3) := by
  unfold State.leadTake
  extract_lets +onlyGivenNames -merge -useContext -underBinder s1
  clear_value s1
  extract_lets +onlyGivenNames -merge -useContext -underBinder s3
  clear_value s3
  extract_lets +onlyGivenNames -merge -useContext -underBinder s5
  clear_value s5
  extract_lets +onlyGivenNames -merge -useContext -underBinder s7
  clear_value s7
  extract_lets +onlyGivenNames -merge -useContext -underBinder s9
  clear_value s9
  extract_lets +onlyGivenNames -merge -useContext -underBinder s11
  have h12 : ∀ {t} {y1}, Kept l s0 t → Kept l s0 (s11 t y1) := by
    intro t y1 h13
    unfold s11
    exact (State.modBank_kept h13 (Part.sub hp))
  clear_value s11
  refine Kept.ite ?_ ?_
  · exact (h12 (State.wrInt_kept h (AFE.LEADR.f_uohm_zoned (Part.at hp))))
  · refine Kept.ite ?_ ?_
    · extract_lets +onlyGivenNames -merge -useContext -underBinder s14
      have h15 : Kept l s0 s14 := by unfold s14; exact (State.irq_kept (State.stick_kept h (AFE.LEADREJCNT.count_zoned (Part.at hp)) (AFE.CNTOVF.leadrej_zoned (Part.at hp)) (ZonedOpt.some (AFE.IRQRAW.cnt_ovf_zoned (Part.at hp)))) (AFE.IRQRAW.lead_reject_zoned (Part.at hp)))
      clear_value s14
      exact (Kept.ite (h12 (State.fault_kept (State.wrInt_kept h15 (AFE.LEADR.f_uohm_zoned (Part.at hp))) (AFE.FAULT.lead_reinit_zoned (Part.at hp)) (Part.sub hp))) (State.modBank_kept (h12 h15) (Part.sub hp)))
    · extract_lets +onlyGivenNames -merge -useContext -underBinder s16
      clear_value s16
      extract_lets +onlyGivenNames -merge -useContext -underBinder s18
      clear_value s18
      exact (h12 (State.wrInt_kept h (AFE.LEADR.f_uohm_zoned (Part.at hp))))

theorem State.leadSample_kept {l s0} {s} {x1} {x2} {x3} {x4} (h : Kept l s0 s) (hp : Part.within [.afe, .pages 0x8 0x10, .head 0x14, .head 0x24, .head 0x20] l) :
    Kept l s0 (State.leadSample s x1 x2 x3 x4) := by
  unfold State.leadSample
  extract_lets +onlyGivenNames -merge -useContext -underBinder s1
  have h2 : Kept l s0 s1 := by unfold s1; exact (State.setRun_kept h (Part.sub hp))
  clear_value s1
  exact (Kept.ite (State.modBank_kept h2 (Part.sub hp)) (State.leadTake_kept h2 (Part.sub hp)))

theorem State.openFound_kept {l s0} {s} {x1} {x2} (h : Kept l s0 s) (hp : Part.within [.afe, .head 0x14, .lap, .page 0x11, .arith, .pair, .pages 0x8 0x10] l) :
    Kept l s0 (State.openFound s x1 x2) := by
  unfold State.openFound
  extract_lets +onlyGivenNames -merge -useContext -underBinder s1
  have h2 : Kept l s0 s1 := by unfold s1; exact (State.irq_kept (State.modBank_kept h (Part.sub hp)) (AFE.IRQRAW.open__zoned (Part.at hp)))
  clear_value s1
  exact (State.endRun_kept (State.stick_kept h2 (AFE.OPENCNT.count_zoned (Part.at hp)) (AFE.CNTOVF.open__zoned (Part.at hp)) (ZonedOpt.some (AFE.IRQRAW.cnt_ovf_zoned (Part.at hp)))) (Part.sub hp))

theorem State.skipContext_kept {l s0} {s} {x1} {x2} (h : Kept l s0 s) (hp : Part.within [.pages 0x8 0x10, .afe, .lap] l) :
    Kept l s0 (State.skipContext s x1 x2) := by
  unfold State.skipContext
  exact (State.scanEnd_kept (State.modBank_kept (h.lap (Part.at hp)) (Part.sub hp)) (Part.sub hp))

theorem execSlotStart_kept {l s0} {x0} {x1} {s} (h : Kept l s0 s) (hp : Part.within [.afe, .pages 0x8 0x10, .lap, .page 0x10, .head 0x14, .pair, .page 0x11, .arith, .cal] l) :
    KeptR l s0 (execSlotStart x0 x1 s) := by
  unfold execSlotStart
  extract_lets +onlyGivenNames -merge -useContext -underBinder s1
  clear_value s1
  split
  · exact (KeptR.next h)
  · extract_lets +onlyGivenNames -merge -useContext -underBinder s3
    have h4 : Kept l s0 s3 := by unfold s3; exact (State.modBank_kept h (Part.sub hp))
    clear_value s3
    extract_lets +onlyGivenNames -merge -useContext -underBinder s5
    clear_value s5
    refine KeptR.ite ?_ ?_
    · exact (KeptR.next h)
    · refine KeptR.ite ?_ ?_
      · refine KeptR.next ?_
        extract_lets +onlyGivenNames -merge -useContext -underBinder s7
        have h8 : Kept l s0 s7 := by unfold s7; exact (State.skipContext_kept h (Part.sub hp))
        clear_value s7
        exact (h8.lap (Part.at hp))
      · refine KeptR.ite ?_ ?_
        · exact (KeptR.next (State.skipContext_kept (State.stick_kept h (CAL.GAPCNT.count_zoned (Part.at hp)) (CAL.CNTOVF.gap_zoned (Part.at hp)) (ZonedOpt.some (CAL.IRQRAW.cnt_ovf_zoned (Part.at hp)))) (Part.sub hp)))
        · extract_lets +onlyGivenNames -merge -useContext -underBinder s9
          clear_value s9
          extract_lets +onlyGivenNames -merge -useContext -underBinder s11
          clear_value s11
          extract_lets +onlyGivenNames -merge -useContext -underBinder s13
          clear_value s13
          extract_lets +onlyGivenNames -merge -useContext -underBinder s15
          clear_value s15
          extract_lets +onlyGivenNames -merge -useContext -underBinder s17
          clear_value s17
          extract_lets +onlyGivenNames -merge -useContext -underBinder s19
          have h20 : Kept l s0 s19 := by unfold s19; exact (State.modBank_kept h4 (Part.sub hp))
          clear_value s19
          extract_lets +onlyGivenNames -merge -useContext -underBinder s21 s22
          have h24 : Kept l s0 s22 := by unfold s22; exact (Kept.ite (h20.pair (Part.at hp)) h20)
          clear_value s22
          clear_value s21
          exact (KeptR.ite (KeptR.next (State.endRun_kept (State.modBank_kept h24 (Part.sub hp)) (Part.sub hp))) (KeptR.ite (KeptR.next (State.endRun_kept h24 (Part.sub hp))) (KeptR.ite (KeptR.next (State.beginMain_kept h24 (Part.sub hp))) (KeptR.next h24))))

theorem execBurnoutCheckEnd_kept {l s0} {x0} {x1} {x2} {s} (h : Kept l s0 s) (hp : Part.within [.afe, .head 0x14, .lap, .page 0x11, .arith, .pair, .pages 0x8 0x10, .cal] l) :
    KeptR l s0 (execBurnoutCheckEnd x0 x1 x2 s) := by
  unfold execBurnoutCheckEnd
  split
  · exact (KeptR.ite (KeptR.next h) (KeptR.ite (KeptR.next (State.openFound_kept (State.stick_kept h (AFE.BOCNT.count_zoned (Part.at hp)) (AFE.CNTOVF.bo_zoned (Part.at hp)) (ZonedOpt.some (AFE.IRQRAW.cnt_ovf_zoned (Part.at hp)))) (Part.sub hp))) (KeptR.next (State.beginMain_kept h (Part.sub hp)))))
  · exact (KeptR.next h)

theorem execSenseCheckEnd_kept {l s0} {x0} {x1} {x2} {x3} {s} (h : Kept l s0 s) (hp : Part.within [.afe, .head 0x14, .lap, .page 0x11, .arith, .pair, .pages 0x8 0x10] l) :
    KeptR l s0 (execSenseCheckEnd x0 x1 x2 x3 s) := by
  unfold execSenseCheckEnd
  split
  · extract_lets +onlyGivenNames -merge -useContext -underBinder s1
    clear_value s1
    extract_lets +onlyGivenNames -merge -useContext -underBinder s3
    clear_value s3
    extract_lets +onlyGivenNames -merge -useContext -underBinder s5
    clear_value s5
    exact (KeptR.ite (KeptR.ite (KeptR.next (State.openFound_kept h (Part.sub hp))) (KeptR.next (State.setRun_kept h (Part.sub hp)))) (KeptR.next h))
  · exact (KeptR.next h)

theorem execSettleEnd_kept {l s0} {x0} {x1} {s} (h : Kept l s0 s) (hp : Part.within [.afe, .page 0x38] l) :
    KeptR l s0 (execSettleEnd x0 x1 s) := by
  unfold execSettleEnd
  split
  · refine KeptR.ite ?_ ?_
    · extract_lets +onlyGivenNames -merge -useContext -underBinder s1
      have h2 : Kept l s0 s1 := by unfold s1; exact (State.setRun_kept h (Part.sub hp))
      clear_value s1
      exact (KeptR.next (State.evidence_kept h2 (Part.sub hp)))
    · exact (KeptR.next h)
  · exact (KeptR.next h)

theorem execSampleOut_kept {l s0} {x0} {x1} {x2} {x3} {x4} {s} (h : Kept l s0 s) (hp : Part.within [.afe, .pages 0x8 0x10, .head 0x14, .head 0x24, .head 0x20, .lap, .page 0x11, .arith, .pair, .page 0x10, .cal] l) :
    KeptR l s0 (execSampleOut x0 x1 x2 x3 x4 s) := by
  unfold execSampleOut
  split
  · exact (KeptR.next h)
  · extract_lets +onlyGivenNames -merge -useContext -underBinder s1
    clear_value s1
    refine KeptR.ite ?_ ?_
    · exact (KeptR.next h)
    · refine KeptR.ite ?_ ?_
      · exact (KeptR.next (State.leadSample_kept h (Part.sub hp)))
      · refine KeptR.ite ?_ ?_
        · exact (KeptR.next h)
        · extract_lets +onlyGivenNames -merge -useContext -underBinder s3
          clear_value s3
          split
          · exact (KeptR.next h)
          · refine KeptR.ite ?_ ?_
            · exact (KeptR.next (State.setRun_kept h (Part.sub hp)))
            · extract_lets +onlyGivenNames -merge -useContext -underBinder s5
              have h6 : Kept l s0 s5 := by unfold s5; exact (State.passEntry_kept (State.setRun_kept h (Part.sub hp)) (Part.sub hp))
              clear_value s5
              exact (KeptR.ite (KeptR.next (State.compareSpare_kept h6 (Part.sub hp))) (KeptR.next h6))

theorem execSlotEnd_kept {l s0} {x0} {x1} {s} (h : Kept l s0 s) (hp : Part.within [.page 0x10, .pages 0x8 0x10, .afe] l) :
    KeptR l s0 (execSlotEnd x0 x1 s) := by
  unfold execSlotEnd
  split
  · exact (KeptR.ite (KeptR.next h) (KeptR.next (State.handoverWait_kept (State.scanEnd_kept (State.modBank_kept h (Part.sub hp)) (Part.sub hp)) (Part.sub hp))))
  · exact (KeptR.next h)

theorem execSourceCompliance_kept {l s0} {x0} {x1} {s} (h : Kept l s0 s) (hp : Part.within [.afe, .head 0x14, .lap, .page 0x11, .arith, .pair, .pages 0x8 0x10] l) :
    KeptR l s0 (execSourceCompliance x0 x1 s) := by
  unfold execSourceCompliance
  split
  · exact (KeptR.ite (KeptR.next (State.openFound_kept h (Part.sub hp))) (KeptR.next h))
  · exact (KeptR.next h)

theorem execExcitationChange_kept {l s0} {x0} {x1} {x2} {x3} {s} (h : Kept l s0 s) (hp : Part.within [.lap, .page 0x11, .head 0x14, .arith, .pair, .afe, .page 0x38, .pages 0x8 0x10] l) :
    KeptR l s0 (execExcitationChange x0 x1 x2 x3 s) := by
  unfold execExcitationChange
  split
  · exact (KeptR.next h)
  · extract_lets +onlyGivenNames -merge -useContext -underBinder s1
    clear_value s1
    extract_lets +onlyGivenNames -merge -useContext -underBinder s3
    clear_value s3
    extract_lets +onlyGivenNames -merge -useContext -underBinder s5
    clear_value s5
    refine KeptR.ite ?_ ?_
    · exact (KeptR.next h)
    · refine KeptR.ite ?_ ?_
      · exact (KeptR.next (State.endRun_kept (State.evidence_kept h (Part.sub hp)) (Part.sub hp)))
      · extract_lets +onlyGivenNames -merge -useContext -underBinder s7
        have h8 : Kept l s0 s7 := by unfold s7; exact (State.modBank_kept h (Part.sub hp))
        clear_value s7
        refine KeptR.ite ?_ ?_
        · exact (KeptR.next (State.endRun_kept (State.irq_kept (State.modBank_kept h8 (Part.sub hp)) (AFE.IRQRAW.abort_zoned (Part.at hp))) (Part.sub hp)))
        · extract_lets +onlyGivenNames -merge -useContext -underBinder s9
          clear_value s9
          extract_lets +onlyGivenNames -merge -useContext -underBinder s11
          clear_value s11
          extract_lets +onlyGivenNames -merge -useContext -underBinder s13
          clear_value s13
          extract_lets +onlyGivenNames -merge -useContext -underBinder s15
          clear_value s15
          extract_lets +onlyGivenNames -merge -useContext -underBinder s17
          clear_value s17
          extract_lets +onlyGivenNames -merge -useContext -underBinder s19
          have h20 : Kept l s0 s19 := by unfold s19; exact (State.irq_kept (State.modBank_kept h8 (Part.sub hp)) (AFE.IRQRAW.restart_zoned (Part.at hp)))
          clear_value s19
          exact (KeptR.next (State.setRun_kept (State.stick_kept h20 (AFE.RESTARTCNT.count_zoned (Part.at hp)) (AFE.CNTOVF.restart_zoned (Part.at hp)) (ZonedOpt.some (AFE.IRQRAW.cnt_ovf_zoned (Part.at hp)))) (Part.sub hp)))

theorem execBridgeOvercurrent_kept {l s0} {x0} {s} (h : Kept l s0 s) (hp : Part.within [.head 0x24, .head 0x14, .afe, .head 0x20, .lap, .page 0x11, .arith, .pair] l) :
    KeptR l s0 (execBridgeOvercurrent x0 s) := by
  unfold execBridgeOvercurrent
  refine KeptR.ite ?_ ?_
  · exact (KeptR.next h)
  · extract_lets +onlyGivenNames -merge -useContext -underBinder s1
    have h2 : Kept l s0 s1 := by unfold s1; exact (State.fault_kept (State.modBank_kept h (Part.sub hp)) (AFE.FAULT.bridge_zoned (Part.at hp)) (Part.sub hp))
    clear_value s1
    exact (KeptR.next (Kept.each h2 (fun _ _ h3 => (State.endRun_kept (State.modBank_kept h3 (Part.sub hp)) (Part.sub hp)))))

theorem execPinWindowFault_kept {l s0} {x0} {x1} {s} (h : Kept l s0 s) (hp : Part.within [.pages 0x8 0x10, .head 0x14, .afe] l) :
    KeptR l s0 (execPinWindowFault x0 x1 s) := by
  unfold execPinWindowFault
  refine KeptR.ite ?_ ?_
  · exact (KeptR.next h)
  · extract_lets +onlyGivenNames -merge -useContext -underBinder s1 s2 s3
    have h6 : Kept l s0 s3 := by unfold s3; exact (State.irq_kept (Kept.ite (State.wr_kept h (Zoned.pagesOf (lo := 8) (hi := 16) (Part.at hp) (by simp only [s1, AFE.PINFLT0.pin]; omega) (by simp only [s1, AFE.PINFLT0.pin]; omega) (by simp only [s1, AFE.PINFLT0.pin]; omega) (.inr (by simp only [s1, AFE.PINFLT0.pin]; omega)))) (State.wr_kept h (Zoned.pagesOf (lo := 8) (hi := 16) (Part.at hp) (by simp only [s2, AFE.PINFLT1.pin]; omega) (by simp only [s2, AFE.PINFLT1.pin]; omega) (by simp only [s2, AFE.PINFLT1.pin]; omega) (.inr (by simp only [s2, AFE.PINFLT1.pin]; omega))))) (AFE.IRQRAW.pin_fault_zoned (Part.at hp)))
    clear_value s3
    exact (KeptR.next (State.modBank_kept h6 (Part.sub hp)))

theorem execMainPhaseStart_kept {l s0} {x0} {x1} {s} (h : Kept l s0 s) (hp : Part.within [.cal, .afe] l) :
    KeptR l s0 (execMainPhaseStart x0 x1 s) := by
  unfold execMainPhaseStart
  split
  · exact (KeptR.ite (KeptR.next (State.beginMain_kept h (Part.sub hp))) (KeptR.next h))
  · exact (KeptR.next h)

end Sys2Proof.Machine
end

