-- ==== Sys2Proof/Laws/Cal.lean ====
section
/-!
SUPPORT. What each operation of Machine/Cal.lean can change: one lemma per operation, named after it. An operation started in a
state that has kept all parts of an earlier one but some keeps all but those and the parts that its lemma lists, and the
canonical form of the sparse maps with them.
-/

set_option Elab.async false

namespace Sys2Proof.Machine

theorem State.calCommand_kept {l s0} {s} {x1} {x2} {x3} {x4} (h : Kept l s0 s) (hp : Part.within [.msg, .page 0x10, .cal] l) :
    Kept l s0 (State.calCommand s x1 x2 x3 x4) := by
  unfold State.calCommand
  extract_lets +onlyGivenNames -merge -useContext -underBinder s1
  clear_value s1
  refine Kept.ite ?_ ?_
  · exact (State.replyTo_kept (State.wr_kept h (CAL.CMDSTAT.busy_zoned (Part.at hp))) (Part.sub hp))
  · refine Kept.ite ?_ ?_
    · exact (State.replyTo_kept (State.wr_kept h (CAL.CMDSTAT.state_zoned (Part.at hp))) (Part.sub hp))
    · extract_lets +onlyGivenNames -merge -useContext -underBinder s3
      have h4 : Kept l s0 s3 := by unfold s3; exact (State.wr_kept (State.wr_kept h (CAL.CMDSTAT.busy_zoned (Part.at hp))) (CAL.CMDSTAT.state_zoned (Part.at hp)))
      clear_value s3
      exact (h4.cal (Part.at hp))

theorem State.clearCal_kept {l s0} {s} (h : Kept l s0 s) (hp : Part.within [.cal] l) :
    Kept l s0 (State.clearCal s) := by
  unfold State.clearCal
  extract_lets +onlyGivenNames -merge -useContext -underBinder s1
  clear_value s1
  exact (h.cal (Part.at hp))

theorem State.quiesceCal_kept {l s0} {s} (h : Kept l s0 s) (hp : Part.within [.cal, .page 0x10, .head 0x14] l) :
    Kept l s0 (State.quiesceCal s) := by
  unfold State.quiesceCal
  extract_lets +onlyGivenNames -merge -useContext -underBinder s1
  have h2 : Kept l s0 s1 := by
    unfold s1
    refine Kept.each h (fun _ _ h3 => ?_)
    extract_lets +onlyGivenNames -merge -useContext -underBinder s4
    clear_value s4
    exact (Kept.ite (State.modStride_kept h3 (Part.sub hp)) h3)
  clear_value s1
  extract_lets +onlyGivenNames -merge -useContext -underBinder s6
  have h7 : Kept l s0 s6 := by unfold s6; exact (State.deferStrides_kept h2 (Part.sub hp))
  clear_value s6
  exact (h7.cal (Part.at hp))

theorem State.cutStride_kept {l s0} {s} {x1} (h : Kept l s0 s) (hp : Part.within [.cal, .page 0x10, .head 0x14] l) :
    Kept l s0 (State.cutStride s x1) := by
  unfold State.cutStride
  extract_lets +onlyGivenNames -merge -useContext -underBinder s1
  clear_value s1
  exact (Kept.ite (State.modStride_kept (State.strideDefer_kept h (Part.sub hp)) (Part.sub hp)) h)

theorem State.calReset_kept {l s0} {s} (h : Kept l s0 s) (hp : Part.within [.page 0x10, .pages 0x8 0x10, .cal, .nvm, .head 0x14] l) :
    Kept l s0 (State.calReset s) := by
  unfold State.calReset
  extract_lets +onlyGivenNames -merge -useContext -underBinder s1
  have h2 : Kept l s0 s1 := by unfold s1; exact (Kept.each h (fun _ _ h3 => (State.wr_kept h3 (healthRef_zoned (Part.at hp)))))
  clear_value s1
  extract_lets +onlyGivenNames -merge -useContext -underBinder s4
  have h5 : Kept l s0 s4 := by unfold s4; exact (Kept.each h2 (fun _ _ h6 => (State.put_kept (State.put_kept h6 (CAL.BANKSTAT.initial_zoned (Part.at hp))) (CAL.BANKSTAT.forced_zoned (Part.at hp)))))
  clear_value s4
  extract_lets +onlyGivenNames -merge -useContext -underBinder s7
  have h8 : Kept l s0 s7 := by unfold s7; exact (State.wr_kept (State.showPersistent_kept (State.clearCal_kept h5 (Part.sub hp)) (Part.sub hp)) (CAL.STORESEQ.seq_zoned (Part.at hp)))
  clear_value s7
  exact (State.calIssue_kept (Kept.each h8 (fun _ _ h9 => (State.cutStride_kept h9 (Part.sub hp)))) (Part.sub hp))

theorem State.assignLanes_kept {l s0} {s} {x1} (h : Kept l s0 s) (hp : Part.within [.pages 0x8 0x10] l) :
    Kept l s0 (State.assignLanes s x1) := by
  unfold State.assignLanes
  extract_lets +onlyGivenNames -merge -useContext -underBinder s1
  clear_value s1
  extract_lets +onlyGivenNames -merge -useContext -underBinder s3
  clear_value s3
  extract_lets +onlyGivenNames -merge -useContext -underBinder s5
  clear_value s5
  extract_lets +onlyGivenNames -merge -useContext -underBinder s7
  have h8 : Kept l s0 s7 := by unfold s7; exact (State.wr_kept (State.wr_kept (State.wr_kept h (AFE.LANEMAP.lanes_zoned (Part.at hp))) (AFE.LANEMAP.live_zoned (Part.at hp))) (AFE.LANEMAP.retired_zoned (Part.at hp)))
  clear_value s7
  exact (Kept.ite (State.wr_kept h8 (AFE.LANEMAP.spare_zoned (Part.at hp))) h8)

theorem State.bankJoins_kept {l s0} {s} {x1} (h : Kept l s0 s) (hp : Part.within [.page 0x10, .head 0x14, .cal, .pages 0x8 0x10, .head 0x24, .head 0x20] l) :
    Kept l s0 (State.bankJoins s x1) := by
  unfold State.bankJoins
  extract_lets +onlyGivenNames -merge -useContext -underBinder s1
  have h2 : Kept l s0 s1 := by unfold s1; exact (Kept.ite (State.strideDefer_kept h (Part.sub hp)) h)
  clear_value s1
  extract_lets +onlyGivenNames -merge -useContext -underBinder s3
  have h4 : Kept l s0 s3 := by unfold s3; exact (State.modStride_kept (State.setPhase_kept (State.startRotation_kept (State.assignLanes_kept h2 (Part.sub hp)) (Part.sub hp)) (Part.sub hp)) (Part.sub hp))
  clear_value s3
  exact (Kept.ite (State.fault_kept h4 (CAL.FAULT.nolane_zoned (Part.at hp)) (Part.sub hp)) h4)

theorem State.calEvent_kept {l s0} {s} {x1} {x2} {x3} {x4} {x5} (h : Kept l s0 s) (hp : Part.within [.recorder, .page 0x49, .head 0x14, .head 0x24, .page 0x42, .head 0x20, .page 0x41, .page 0x40, .sram, .sramBad, .sramWeak, .msg, .page 0x178] l) :
    Kept l s0 (State.calEvent s x1 x2 x3 x4 x5) := by
  unfold State.calEvent
  exact (State.recEvent_kept h (Part.sub hp))

theorem State.retireChannel_kept {l s0} {s} {x1} (h : Kept l s0 s) (hp : Part.within [.terms, .recorder, .page 0x49, .head 0x14, .head 0x24, .page 0x42, .head 0x20, .page 0x41, .page 0x40, .sram, .sramBad, .sramWeak, .msg, .page 0x178, .nvm, .cal, .page 0x10] l) :
    Kept l s0 (State.retireChannel s x1) := by
  unfold State.retireChannel
  refine Kept.ite ?_ ?_
  · exact h
  · extract_lets +onlyGivenNames -merge -useContext -underBinder s1 s2
    have h4 : Kept l s0 s2 := by unfold s2; exact (h.terms (Part.at hp))
    clear_value s2
    clear_value s1
    exact (State.calEvent_kept (State.persist_kept (State.irq_kept (State.putNth_kept h4 (ZonedFn.pageOf (n := 16) (Part.at hp) (fun _ => by simp only [CAL.RETIRED.ch]; omega))) (CAL.IRQRAW.ch_retired_zoned (Part.at hp))) (Part.sub hp)) (Part.sub hp))

theorem State.calApply_kept {l s0} {s} (h : Kept l s0 s) (hp : Part.within [.page 0x10, .msg, .cal, .terms, .recorder, .page 0x49, .head 0x14, .head 0x24, .page 0x42, .head 0x20, .page 0x41, .page 0x40, .sram, .sramBad, .sramWeak, .page 0x178, .nvm, .pages 0x8 0x10, .afe] l) :
    Kept l s0 (State.calApply s) := by
  unfold State.calApply
  split
  · exact h
  · refine Kept.ite ?_ ?_
    · exact h
    · extract_lets +onlyGivenNames -merge -useContext -underBinder s1 s2 s3
      have h4 : Kept l s0 s1 := by unfold s1; exact (State.wr_kept h (CAL.CMDSTAT.state_zoned (Part.at hp)))
      have h6 : Kept l s0 s3 := by unfold s3; exact (State.replyTo_kept (h4.cal (Part.at hp)) (Part.sub hp))
      split
      · extract_lets +onlyGivenNames -merge -useContext -underBinder s7 s8 s9
        have h12 : Kept l s0 s9 := by unfold s9; exact (h6.upd [.terms, .cal] (Part.sub hp) (fun p hn => by cases p <;> first | rfl | exact True.intro | exact absurd (by decide) hn) rfl id)
        exact (State.calEvent_kept (State.persist_kept (State.wr_kept (State.putNth_kept h12 (ZonedFn.pageOf (n := 16) (Part.at hp) (fun _ => by simp only [CAL.RETIRED.ch]; omega))) (healthRef_zoned (Part.at hp))) (Part.sub hp)) (Part.sub hp))
      · extract_lets +onlyGivenNames -merge -useContext -underBinder s13
        extract_lets +onlyGivenNames -merge -useContext -underBinder s15
        refine Kept.ite ?_ ?_
        · exact h6
        · extract_lets +onlyGivenNames -merge -useContext -underBinder s17
          extract_lets +onlyGivenNames -merge -useContext -underBinder s19 s20
          have h22 : Kept l s0 s20 := by unfold s20; exact (h6.terms (Part.at hp))
          extract_lets +onlyGivenNames -merge -useContext -underBinder s23
          have h24 : Kept l s0 s23 := by unfold s23; exact (Kept.ite (State.strideDefer_kept h22 (Part.sub hp)) h22)
          extract_lets +onlyGivenNames -merge -useContext -underBinder s25
          have h26 : Kept l s0 s25 := by unfold s25; exact (State.modStride_kept (State.wr_kept h24 (modFail_zoned (Part.at hp))) (Part.sub hp))
          extract_lets +onlyGivenNames -merge -useContext -underBinder s27
          extract_lets +onlyGivenNames -merge -useContext -underBinder s29
          have h30 : Kept l s0 s29 := by unfold s29; exact (Kept.ite (Kept.ite h26 (State.wr_kept h26 (AFE.LANEMAP.spare_zoned (Part.at hp)))) (State.modBank_kept (State.assignLanes_kept h26 (Part.sub hp)) (Part.sub hp)))
          extract_lets +onlyGivenNames -merge -useContext -underBinder s31
          have h32 : Kept l s0 s31 := by unfold s31; exact (State.irq_kept (State.setPhase_kept (State.wr_kept h30 (CAL.BANKSTAT.mode_zoned (Part.at hp))) (Part.sub hp)) (CAL.IRQRAW.lane_change_zoned (Part.at hp)))
          exact (State.calEvent_kept (State.persist_kept (State.showPersistent_kept (State.startRotation_kept h32 (Part.sub hp)) (Part.sub hp)) (Part.sub hp)) (Part.sub hp))
      · extract_lets +onlyGivenNames -merge -useContext -underBinder s33
        extract_lets +onlyGivenNames -merge -useContext -underBinder s35
        exact (Kept.ite h6 (State.calEvent_kept (h6.cal (Part.at hp)) (Part.sub hp)))
      · exact (State.retireChannel_kept h6 (Part.sub hp))

theorem State.fcalTo_kept {l s0} {s} {x1} {x2} (h : Kept l s0 s) (hp : Part.within [.page 0x10, .head 0x14] l) :
    Kept l s0 (State.fcalTo s x1 x2) := by
  unfold State.fcalTo
  exact (State.irq_kept (State.wr_kept (State.wr_kept h (CAL.FCALSTAT.state_zoned (Part.at hp))) (CAL.FCALSTAT.reason_zoned (Part.at hp))) (CAL.IRQRAW.fcal_zoned (Part.at hp)))

theorem State.fcalStart_kept {l s0} {s} (h : Kept l s0 s) (hp : Part.within [.page 0x10, .head 0x14, .freeCount, .cal] l) :
    Kept l s0 (State.fcalStart s) := by
  unfold State.fcalStart
  extract_lets +onlyGivenNames -merge -useContext -underBinder s1
  clear_value s1
  refine Kept.ite ?_ ?_
  · exact (State.fcalTo_kept h (Part.sub hp))
  · refine Kept.ite ?_ ?_
    · split
      · rename_i x4 s15 q6
        have h3 : Kept l s0 s15 := Kept.snd q6 (State.draw_kept h (Part.sub hp))
        exact (State.fcalTo_kept h3 (Part.sub hp))
    · extract_lets +onlyGivenNames -merge -useContext -underBinder s7
      have h8 : Kept l s0 s7 := by unfold s7; exact (State.wr_kept (State.wr_kept (State.wr_kept h (CAL.FCALSTAT.state_zoned (Part.at hp))) (CAL.FCALSTAT.reason_zoned (Part.at hp))) (CAL.FCALSTAT.already_done_zoned (Part.at hp)))
      clear_value s7
      exact (h8.cal (Part.at hp))

theorem State.fcalDrop_kept {l s0} {s} (h : Kept l s0 s) (hp : Part.within [.page 0x10, .cal, .nvm] l) :
    Kept l s0 (State.fcalDrop s) := by
  unfold State.fcalDrop
  extract_lets +onlyGivenNames -merge -useContext -underBinder s1
  clear_value s1
  extract_lets +onlyGivenNames -merge -useContext -underBinder s3
  have h4 : Kept l s0 s3 := by unfold s3; exact (Kept.ite (State.wr_kept h (CAL.BANKSTAT.phase_zoned (Part.at hp))) h)
  clear_value s3
  extract_lets +onlyGivenNames -merge -useContext -underBinder s5
  clear_value s5
  extract_lets +onlyGivenNames -merge -useContext -underBinder s7
  clear_value s7
  extract_lets +onlyGivenNames -merge -useContext -underBinder s9 s10
  have h12 : Kept l s0 s10 := by unfold s10; exact (h4.cal (Part.at hp))
  clear_value s10
  clear_value s9
  split
  · exact h12
  · exact (Kept.ite h12 (Kept.ite (h12.cal (Part.at hp)) (State.queueCopy_kept h12 (Part.sub hp))))

theorem State.fcalAbort_kept {l s0} {s} (h : Kept l s0 s) (hp : Part.within [.page 0x10, .head 0x14, .cal, .nvm] l) :
    Kept l s0 (State.fcalAbort s) := by
  unfold State.fcalAbort
  extract_lets +onlyGivenNames -merge -useContext -underBinder s1
  clear_value s1
  exact (Kept.ite (State.fcalTo_kept (State.fcalDrop_kept h (Part.sub hp)) (Part.sub hp)) (Kept.ite (State.wr_kept h (CAL.FCALSTAT.already_done_zoned (Part.at hp))) h))

theorem State.fcalAccept_kept {l s0} {s} (h : Kept l s0 s) (hp : Part.within [.nvm, .cal] l) :
    Kept l s0 (State.fcalAccept s) := by
  unfold State.fcalAccept
  refine Kept.ite ?_ ?_
  · exact h
  · extract_lets +onlyGivenNames -merge -useContext -underBinder s1
    have h2 : Kept l s0 s1 := by unfold s1; exact (State.queueCopy_kept h (Part.sub hp))
    clear_value s1
    extract_lets +onlyGivenNames -merge -useContext -underBinder s3
    clear_value s3
    exact (h2.cal (Part.at hp))

theorem State.chargeMod_kept {l s0} {s} {x1} {x2} (h : Kept l s0 s) (hp : Part.within [.page 0x10, .terms, .recorder, .page 0x49, .head 0x14, .head 0x24, .page 0x42, .head 0x20, .page 0x41, .page 0x40, .sram, .sramBad, .sramWeak, .msg, .page 0x178, .nvm, .cal, .pages 0x8 0x10] l) :
    Kept l s0 (State.chargeMod s x1 x2) := by
  unfold State.chargeMod
  extract_lets +onlyGivenNames -merge -useContext -underBinder s1
  clear_value s1
  refine Kept.ite ?_ ?_
  · exact (State.wr_kept h (modFail_zoned (Part.at hp)))
  · refine Kept.ite ?_ ?_
    · exact (State.wr_kept h (modFail_zoned (Part.at hp)))
    · extract_lets +onlyGivenNames -merge -useContext -underBinder s3
      have h4 : Kept l s0 s3 := by unfold s3; exact (State.wr_kept h (modFail_zoned (Part.at hp)))
      clear_value s3
      extract_lets +onlyGivenNames -merge -useContext -underBinder s5 s6
      have h8 : Kept l s0 s6 := by unfold s6; exact (h4.terms (Part.at hp))
      clear_value s6
      clear_value s5
      exact (State.calEvent_kept (State.persist_kept (State.showPersistent_kept (State.modStride_kept (State.irq_kept h8 (CAL.IRQRAW.mod_retired_zoned (Part.at hp))) (Part.sub hp)) (Part.sub hp)) (Part.sub hp)) (Part.sub hp))

theorem State.copyEnd_kept {l s0} {x0} {s} (h : Kept l s0 s) (hp : Part.within [.nvm, .page 0x48, .page 0x58, .head 0x14, .head 0x24, .head 0x20, .store, .freeCount, .cal, .page 0x10, .recorder, .page 0x49, .page 0x42, .page 0x41, .page 0x40, .sram, .sramBad, .sramWeak, .msg, .page 0x178] l) :
    Kept l s0 (State.copyEnd x0 s) := by
  unfold State.copyEnd
  split
  · exact (State.nvmNext_kept h (Part.sub hp))
  · extract_lets +onlyGivenNames -merge -useContext -underBinder s1
    clear_value s1
    extract_lets +onlyGivenNames -merge -useContext -underBinder s3
    clear_value s3
    extract_lets +onlyGivenNames -merge -useContext -underBinder s5
    have h6 : Kept l s0 s5 := by unfold s5; exact (State.storeErase_kept h (Part.sub hp))
    clear_value s5
    split
    · rename_i s18 q15
      have h7 : Kept l s0 s18 := Kept.snd q15 (Kept.iteSnd (State.storeProgram_kept h6 (Part.sub hp)) (Kept.beside (State.programFailed_kept h6 (Part.sub hp))))
      extract_lets +onlyGivenNames -merge -useContext -underBinder s9 s10
      have h12 : Kept l s0 s10 := by unfold s10; exact (State.wr_kept (h7.cal (Part.at hp)) (CAL.STORESEQ.seq_zoned (Part.at hp)))
      clear_value s10
      clear_value s9
      extract_lets +onlyGivenNames -merge -useContext -underBinder s13
      have h14 : Kept l s0 s13 := by unfold s13; exact (State.calIssue_kept (State.nvmNext_kept h12 (Part.sub hp)) (Part.sub hp))
      clear_value s13
      exact (Kept.ite (State.calEvent_kept (State.fcalTo_kept (h14.cal (Part.at hp)) (Part.sub hp)) (Part.sub hp)) h14)
    · rename_i s117 q24
      have h16 : Kept l s0 s117 := Kept.snd q24 (Kept.iteSnd (State.storeProgram_kept h6 (Part.sub hp)) (Kept.beside (State.programFailed_kept h6 (Part.sub hp))))
      extract_lets +onlyGivenNames -merge -useContext -underBinder s18 s19 s20
      have h23 : Kept l s0 s20 := by unfold s20; exact (h16.cal (Part.at hp))
      clear_value s20
      clear_value s19
      clear_value s18
      exact (State.calIssue_kept (State.nvmNext_kept (State.fault_kept h23 (CAL.FAULT.storewr_zoned (Part.at hp)) (Part.sub hp)) (Part.sub hp)) (Part.sub hp))

theorem State.healthTake_kept {l s0} {s} {x1} (h : Kept l s0 s) (hp : Part.within [.page 0x10, .head 0x14, .cal, .terms, .recorder, .page 0x49, .head 0x24, .page 0x42, .head 0x20, .page 0x41, .page 0x40, .sram, .sramBad, .sramWeak, .msg, .page 0x178, .nvm] l) :
    Kept l s0 (State.healthTake s x1) := by
  unfold State.healthTake
  refine Kept.ite ?_ ?_
  · exact h
  · extract_lets +onlyGivenNames -merge -useContext -underBinder s1
    clear_value s1
    extract_lets +onlyGivenNames -merge -useContext -underBinder s3
    clear_value s3
    extract_lets +onlyGivenNames -merge -useContext -underBinder s5
    clear_value s5
    extract_lets +onlyGivenNames -merge -useContext -underBinder s7
    have h8 : Kept l s0 s7 := by unfold s7; exact (Kept.when (State.wr_kept h (healthRef_zoned (Part.at hp))) (fun _ h9 => (State.irq_kept h9 (CAL.IRQRAW.cnt_ovf_zoned (Part.at hp)))))
    clear_value s7
    extract_lets +onlyGivenNames -merge -useContext -underBinder s10 s11
    have h13 : Kept l s0 s11 := by unfold s11; exact (h8.cal (Part.at hp))
    clear_value s11
    clear_value s10
    exact (Kept.ite (State.retireChannel_kept h13 (Part.sub hp)) h13)

theorem State.driftCheck_kept {l s0} {s} {x1} {x2} {x3} {x4} (h : Kept l s0 s) (hp : Part.within [.cal, .recorder, .page 0x49, .head 0x14, .head 0x24, .page 0x42, .head 0x20, .page 0x41, .page 0x40, .sram, .sramBad, .sramWeak, .msg, .page 0x178] l) :
    Kept l s0 (State.driftCheck s x1 x2 x3 x4) := by
  unfold State.driftCheck
  extract_lets +onlyGivenNames -merge -useContext -underBinder s1
  clear_value s1
  extract_lets +onlyGivenNames -merge -useContext -underBinder s3
  have h4 : ∀ {t}, Kept l s0 t → Kept l s0 (s3 t) := by
    intro t h5
    unfold s3
    exact (h5.cal (Part.at hp))
  clear_value s3
  split
  · exact (h4 h)
  · exact (Kept.ite (State.calEvent_kept (h4 h) (Part.sub hp)) h)

theorem State.fcalBegin_kept {l s0} {s} {x1} (h : Kept l s0 s) (hp : Part.within [.cal, .page 0x10, .head 0x14] l) :
    Kept l s0 (State.fcalBegin s x1) := by
  unfold State.fcalBegin
  exact (State.wr_kept (State.deferStride_kept (h.cal (Part.at hp)) (Part.sub hp)) (CAL.BANKSTAT.phase_zoned (Part.at hp)))

theorem State.fcalBoundary_kept {l s0} {s} (h : Kept l s0 s) (hp : Part.within [.cal, .page 0x10, .head 0x14] l) :
    Kept l s0 (State.fcalBoundary s) := by
  unfold State.fcalBoundary
  extract_lets +onlyGivenNames -merge -useContext -underBinder s1
  clear_value s1
  exact (Kept.ite (State.fcalBegin_kept h (Part.sub hp)) h)

theorem State.fcalEnd_kept {l s0} {s} {x1} {x2} (h : Kept l s0 s) (hp : Part.within [.page 0x10, .head 0x14, .cal] l) :
    Kept l s0 (State.fcalEnd s x1 x2) := by
  unfold State.fcalEnd
  exact (State.fcalTo_kept (h.cal (Part.at hp)) (Part.sub hp))

theorem State.repeatConvs_kept {l s0} {s} {x1} {x2} (h : Kept l s0 s) (hp : Part.within [.cal, .page 0x10, .head 0x14] l) :
    Kept l s0 (State.repeatConvs s x1 x2) := by
  unfold State.repeatConvs
  exact (Kept.each h (fun _ _ h1 => (Kept.ite (State.modStride_kept h1 (Part.sub hp)) (State.modStride_kept (State.stick_kept h1 (CAL.REPEATCNT.count_zoned (Part.at hp)) (CAL.CNTOVF.repeat_zoned (Part.at hp)) (ZonedOpt.some (CAL.IRQRAW.cnt_event_zoned (Part.at hp)))) (Part.sub hp)))))

theorem State.judgeSource_kept {l s0} {s} {x1} {x2} (h : Kept l s0 s) (hp : Part.within [.cal, .page 0x10, .head 0x14, .terms] l) :
    Kept l s0 (State.judgeSource s x1 x2) := by
  unfold State.judgeSource
  extract_lets +onlyGivenNames -merge -useContext -underBinder s1
  clear_value s1
  extract_lets +onlyGivenNames -merge -useContext -underBinder s3
  have h4 : Kept l s0 s3 := by unfold s3; exact (State.modStride_kept h (Part.sub hp))
  clear_value s3
  split
  · split
    · exact h4
    · extract_lets +onlyGivenNames -merge -useContext -underBinder s5
      clear_value s5
      extract_lets +onlyGivenNames -merge -useContext -underBinder s7 s8
      refine Kept.ite ?_ ?_
      · exact (Kept.ite (State.irq_kept (State.wr_kept h4 (by unfold s8; exact (Zoned.pageOf (n := 16) (Part.at hp) (by simp only [s7, CAL.BANKSTAT.srcfail]; omega) (by simp only [s7, CAL.BANKSTAT.srcfail]; omega) (by simp only [s7, CAL.BANKSTAT.srcfail]; omega) (.inr (by simp only [s7, CAL.BANKSTAT.srcfail]; omega))))) (CAL.IRQRAW.src_fail_zoned (Part.at hp))) (State.repeatConvs_kept h4 (Part.sub hp)))
      · refine Kept.ite ?_ ?_
        · exact (State.wr_kept h4 (by unfold s8; exact (Zoned.pageOf (n := 16) (Part.at hp) (by simp only [s7, CAL.BANKSTAT.srcfail]; omega) (by simp only [s7, CAL.BANKSTAT.srcfail]; omega) (by simp only [s7, CAL.BANKSTAT.srcfail]; omega) (.inr (by simp only [s7, CAL.BANKSTAT.srcfail]; omega)))))
        · extract_lets +onlyGivenNames -merge -useContext -underBinder s11
          have h12 : Kept l s0 s11 := by unfold s11; exact (State.wr_kept h4 (by unfold s8; exact (Zoned.pageOf (n := 16) (Part.at hp) (by simp only [s7, CAL.BANKSTAT.srcfail]; omega) (by simp only [s7, CAL.BANKSTAT.srcfail]; omega) (by simp only [s7, CAL.BANKSTAT.srcfail]; omega) (.inr (by simp only [s7, CAL.BANKSTAT.srcfail]; omega)))))
          clear_value s11
          exact (h12.terms (Part.at hp))
  · exact h4

theorem State.judgeResults_kept {l s0} {s} {x1} (h : Kept l s0 s) (hp : Part.within [.cal, .page 0x10, .head 0x14, .terms] l) :
    Kept l s0 (State.judgeResults s x1) := by
  unfold State.judgeResults
  extract_lets +onlyGivenNames -merge -useContext -underBinder s1
  clear_value s1
  extract_lets +onlyGivenNames -merge -useContext -underBinder s3
  have h4 : Kept l s0 s3 := by unfold s3; exact (Kept.each h (fun _ _ h5 => (State.repeatConvs_kept h5 (Part.sub hp))))
  clear_value s3
  extract_lets +onlyGivenNames -merge -useContext -underBinder s6
  clear_value s6
  exact (Kept.each h4 (fun _ _ h8 => (State.judgeSource_kept h8 (Part.sub hp))))

theorem State.moduleTemp_kept {l s0} {s} {x1} (h : Kept l s0 s) (hp : Part.within [.page 0x11, .cal, .head 0x24, .head 0x14, .head 0x20] l) :
    Kept l s0 (State.moduleTemp s x1) := by
  unfold State.moduleTemp
  split
  · extract_lets +onlyGivenNames -merge -useContext -underBinder s1
    have h2 : Kept l s0 s1 := by unfold s1; exact (State.wrInt_kept (State.wr_kept h (ARITH.MODT.valid_zoned (Part.at hp))) (ARITH.MODT.temp_mk_zoned (Part.at hp)))
    clear_value s1
    exact (h2.cal (Part.at hp))
  · exact (State.fault_kept (State.wr_kept h (ARITH.MODT.valid_zoned (Part.at hp))) (ARITH.FAULT.modt_zoned (Part.at hp)) (Part.sub hp))

theorem State.startRefPhase_kept {l s0} {s} {x1} (h : Kept l s0 s) (hp : Part.within [.cal, .page 0x10] l) :
    Kept l s0 (State.startRefPhase s x1) := by
  unfold State.startRefPhase
  extract_lets +onlyGivenNames -merge -useContext -underBinder s1
  have h2 : Kept l s0 s1 := by unfold s1; exact (State.modStride_kept h (Part.sub hp))
  clear_value s1
  exact (State.wr_kept h2 (CAL.BANKSTAT.phase_zoned (Part.at hp)))

theorem State.planStride_kept {l s0} {s} {x1} {x2} (h : Kept l s0 s) (hp : Part.within [.cal] l) :
    Kept l s0 (State.planStride s x1 x2) := by
  unfold State.planStride
  exact (State.modStride_kept h (Part.sub hp))

theorem State.strideStep6_kept {l s0} {s} {x1} {x2} (h : Kept l s0 s) (hp : Part.within [.cal, .page 0x10, .head 0x14] l) :
    Kept l s0 (State.strideStep6 s x1 x2) := by
  unfold State.strideStep6
  extract_lets +onlyGivenNames -merge -useContext -underBinder s1
  clear_value s1
  extract_lets +onlyGivenNames -merge -useContext -underBinder s3
  clear_value s3
  exact (Kept.ite (Kept.ite (State.startRefPhase_kept h (Part.sub hp)) (Kept.ite (Kept.ite (State.setPhase_kept h (Part.sub hp)) (State.setPhase_kept (State.deferStride_kept h (Part.sub hp)) (Part.sub hp))) h)) (Kept.ite (Kept.ite (State.planStride_kept (State.fcalBegin_kept (State.strideDefer_kept h (Part.sub hp)) (Part.sub hp)) (Part.sub hp)) (Kept.ite (State.planStride_kept (State.strideDefer_kept h (Part.sub hp)) (Part.sub hp)) (Kept.ite (State.startRefPhase_kept (State.planStride_kept h (Part.sub hp)) (Part.sub hp)) (State.planStride_kept h (Part.sub hp))))) h))

theorem State.monitorStart_kept {l s0} {s} (h : Kept l s0 s) (hp : Part.within [.cal] l) :
    Kept l s0 (State.monitorStart s) := by
  unfold State.monitorStart
  extract_lets +onlyGivenNames -merge -useContext -underBinder s1
  clear_value s1
  exact (Kept.ite (h.cal (Part.at hp)) h)

theorem State.rotationEnd_kept {l s0} {s} {x1} (h : Kept l s0 s) (hp : Part.within [.cal, .page 0x10] l) :
    Kept l s0 (State.rotationEnd s x1) := by
  unfold State.rotationEnd
  extract_lets +onlyGivenNames -merge -useContext -underBinder s1
  clear_value s1
  exact (Kept.ite (State.wr_kept (State.modStride_kept h (Part.sub hp)) (CAL.BANKSTAT.initial_zoned (Part.at hp))) h)

theorem State.modeChange_kept {l s0} {s} {x1} (h : Kept l s0 s) (hp : Part.within [.cal, .afe, .pages 0x8 0x10, .page 0x10, .head 0x24, .head 0x14, .head 0x20] l) :
    Kept l s0 (State.modeChange s x1) := by
  unfold State.modeChange
  extract_lets +onlyGivenNames -merge -useContext -underBinder s1
  clear_value s1
  refine Kept.ite ?_ ?_
  · exact h
  · extract_lets +onlyGivenNames -merge -useContext -underBinder s3
    clear_value s3
    extract_lets +onlyGivenNames -merge -useContext -underBinder s5
    have h6 : Kept l s0 s5 := by unfold s5; exact (State.modStride_kept h (Part.sub hp))
    clear_value s5
    extract_lets +onlyGivenNames -merge -useContext -underBinder s7 s8
    have h9 : Kept l s0 s7 := by unfold s7; exact (State.modBank_kept (State.assignLanes_kept h6 (Part.sub hp)) (Part.sub hp))
    have h10 : Kept l s0 s8 := by
      unfold s8
      refine Kept.ite ?_ ?_
      · split
        · exact (State.wr_kept (State.modStride_kept (State.wr_kept h6 (Zoned.pagesOf (lo := 8) (hi := 16) (Part.at hp) (by simp only [AFE.LANEMAP.lanes]; omega) (by simp only [AFE.LANEMAP.lanes]; omega) (by simp only [AFE.LANEMAP.lanes]; omega) (.inr (by simp only [AFE.LANEMAP.lanes]; omega)))) (Part.sub hp)) (CAL.BANKSTAT.forced_zoned (Part.at hp)))
        · exact h6
      · exact (Kept.ite (State.fault_kept h9 (CAL.FAULT.nolane_zoned (Part.at hp)) (Part.sub hp)) h9)
    clear_value s8
    clear_value s7
    extract_lets +onlyGivenNames -merge -useContext -underBinder s11
    have h12 : Kept l s0 s11 := by unfold s11; exact (State.irq_kept (State.setPhase_kept (State.wr_kept h10 (CAL.BANKSTAT.mode_zoned (Part.at hp))) (Part.sub hp)) (CAL.IRQRAW.lane_change_zoned (Part.at hp)))
    clear_value s11
    exact (State.rotationEnd_kept (Kept.ite h12 (State.wr_kept h12 (CAL.BANKSTAT.target_zoned (Part.at hp)))) (Part.sub hp))

theorem State.strideFail_kept {l s0} {s} {x1} {x2} (h : Kept l s0 s) (hp : Part.within [.page 0x10, .head 0x14, .terms, .recorder, .page 0x49, .head 0x24, .page 0x42, .head 0x20, .page 0x41, .page 0x40, .sram, .sramBad, .sramWeak, .msg, .page 0x178, .nvm, .cal, .pages 0x8 0x10] l) :
    Kept l s0 (State.strideFail s x1 x2) := by
  unfold State.strideFail
  extract_lets +onlyGivenNames -merge -useContext -underBinder s1
  have h2 : Kept l s0 s1 := by unfold s1; exact (State.wr_kept (State.irq_kept (State.stick_kept h (CAL.STRIDEFAIL.count_zoned (Part.at hp)) (CAL.CNTOVF.fail_zoned (Part.at hp)) (ZonedOpt.some (CAL.IRQRAW.cnt_ovf_zoned (Part.at hp)))) (CAL.IRQRAW.stride_fail_zoned (Part.at hp))) (CAL.BANKSTAT.outcome_zoned (Part.at hp)))
  clear_value s1
  exact (State.advanceTarget_kept (Kept.each h2 (fun _ _ h3 => (State.chargeMod_kept h3 (Part.sub hp)))) (Part.sub hp))

theorem State.rotationCheck_kept {l s0} {s} {x1} {x2} (h : Kept l s0 s) (hp : Part.within [.cal, .page 0x10] l) :
    Kept l s0 (State.rotationCheck s x1 x2) := by
  unfold State.rotationCheck
  exact (State.rotationEnd_kept (State.modStride_kept h (Part.sub hp)) (Part.sub hp))

theorem State.stridePass_kept {l s0} {s} {x1} {x2} (h : Kept l s0 s) (hp : Part.within [.page 0x10, .head 0x14, .cal] l) :
    Kept l s0 (State.stridePass s x1 x2) := by
  unfold State.stridePass
  extract_lets +onlyGivenNames -merge -useContext -underBinder s1
  have h2 : Kept l s0 s1 := by unfold s1; exact (State.wr_kept (State.irq_kept (State.wrap_kept h (CAL.STRIDEOK.count_zoned (Part.at hp))) (CAL.IRQRAW.stride_pass_zoned (Part.at hp))) (CAL.BANKSTAT.outcome_zoned (Part.at hp)))
  clear_value s1
  extract_lets +onlyGivenNames -merge -useContext -underBinder s3
  clear_value s3
  extract_lets +onlyGivenNames -merge -useContext -underBinder s5
  have h6 : Kept l s0 s5 := by unfold s5; exact (State.modStride_kept h2 (Part.sub hp))
  clear_value s5
  extract_lets +onlyGivenNames -merge -useContext -underBinder s7
  have h8 : Kept l s0 s7 := by unfold s7; exact (State.put_kept h6 (CAL.BANKSTAT.forced_zoned (Part.at hp)))
  clear_value s7
  exact (State.advanceTarget_kept (State.rotationCheck_kept (State.wr_kept h8 (modFail_zoned (Part.at hp))) (Part.sub hp)) (Part.sub hp))

theorem State.refPhaseEnd_kept {l s0} {s} {x1} (h : Kept l s0 s) (hp : Part.within [.cal, .recorder, .page 0x49, .head 0x14, .head 0x24, .page 0x42, .head 0x20, .page 0x41, .page 0x40, .sram, .sramBad, .sramWeak, .msg, .page 0x178, .terms, .page 0x10, .nvm, .pages 0x8 0x10] l) :
    Kept l s0 (State.refPhaseEnd s x1) := by
  unfold State.refPhaseEnd
  extract_lets +onlyGivenNames -merge -useContext -underBinder s1
  clear_value s1
  extract_lets +onlyGivenNames -merge -useContext -underBinder s3
  clear_value s3
  extract_lets +onlyGivenNames -merge -useContext -underBinder s5
  clear_value s5
  extract_lets +onlyGivenNames -merge -useContext -underBinder s7
  clear_value s7
  extract_lets +onlyGivenNames -merge -useContext -underBinder s9
  have h10 : Kept l s0 s9 := by
    unfold s9
    refine Kept.ite ?_ ?_
    · exact h
    · refine Kept.each h (fun _ _ h11 => ?_)
      split
      · split
        · exact (State.driftCheck_kept (State.setModTerm_kept h11 (Part.sub hp)) (Part.sub hp))
        · exact h11
  clear_value s9
  extract_lets +onlyGivenNames -merge -useContext -underBinder s12
  have h13 : Kept l s0 s12 := by unfold s12; exact (State.modStride_kept h10 (Part.sub hp))
  clear_value s12
  refine Kept.ite ?_ ?_
  · exact h13
  · extract_lets +onlyGivenNames -merge -useContext -underBinder s14
    have h15 : Kept l s0 s14 := by unfold s14; exact (Kept.ite (State.strideFail_kept h13 (Part.sub hp)) (State.stridePass_kept h13 (Part.sub hp)))
    clear_value s14
    exact (State.modStride_kept (State.setPhase_kept h15 (Part.sub hp)) (Part.sub hp))

theorem State.rejoinRefs_kept {l s0} {s} (h : Kept l s0 s) (hp : Part.within [.terms, .cal, .nvm, .page 0x10, .pages 0x8 0x10] l) :
    Kept l s0 (State.rejoinRefs s) := by
  unfold State.rejoinRefs
  extract_lets +onlyGivenNames -merge -useContext -underBinder s1
  clear_value s1
  extract_lets +onlyGivenNames -merge -useContext -underBinder s3
  clear_value s3
  extract_lets +onlyGivenNames -merge -useContext -underBinder s5 s6 s7
  have h10 : Kept l s0 s7 := by unfold s7; exact (h.upd [.terms, .cal] (Part.sub hp) (fun p hn => by cases p <;> first | rfl | exact True.intro | exact absurd (by decide) hn) rfl id)
  clear_value s7
  clear_value s6
  clear_value s5
  exact (Kept.ite h10 (State.persist_kept (State.showPersistent_kept h10 (Part.sub hp)) (Part.sub hp)))

theorem State.replanStride_kept {l s0} {s} {x1} {x2} (h : Kept l s0 s) (hp : Part.within [.cal] l) :
    Kept l s0 (State.replanStride s x1 x2) := by
  unfold State.replanStride
  extract_lets +onlyGivenNames -merge -useContext -underBinder s1
  clear_value s1
  exact (State.modStride_kept h (Part.sub hp))

theorem State.staleLap_kept {l s0} {s} {x1} (h : Kept l s0 s) (hp : Part.within [.cal, .page 0x10] l) :
    Kept l s0 (State.staleLap s x1) := by
  unfold State.staleLap
  extract_lets +onlyGivenNames -merge -useContext -underBinder s1
  clear_value s1
  extract_lets +onlyGivenNames -merge -useContext -underBinder s3
  have h4 : Kept l s0 s3 := by unfold s3; exact (State.modStride_kept h (Part.sub hp))
  clear_value s3
  exact (Kept.ite (State.put_kept h4 (CAL.BANKSTAT.stale_zoned (Part.at hp))) h4)

theorem State.strideOutcome_kept {l s0} {s} {x1} (h : Kept l s0 s) (hp : Part.within [.page 0x10, .head 0x14, .terms, .recorder, .page 0x49, .head 0x24, .page 0x42, .head 0x20, .page 0x41, .page 0x40, .sram, .sramBad, .sramWeak, .msg, .page 0x178, .nvm, .cal, .pages 0x8 0x10] l) :
    Kept l s0 (State.strideOutcome s x1) := by
  unfold State.strideOutcome
  extract_lets +onlyGivenNames -merge -useContext -underBinder s1
  clear_value s1
  extract_lets +onlyGivenNames -merge -useContext -underBinder s3
  clear_value s3
  extract_lets +onlyGivenNames -merge -useContext -underBinder s5
  clear_value s5
  extract_lets +onlyGivenNames -merge -useContext -underBinder s7
  clear_value s7
  refine Kept.ite ?_ ?_
  · exact (Kept.ite (State.strideDefer_kept h (Part.sub hp)) h)
  · refine Kept.ite ?_ ?_
    · exact (State.strideDefer_kept h (Part.sub hp))
    · refine Kept.ite ?_ ?_
      · exact (State.strideFail_kept h (Part.sub hp))
      · refine Kept.ite ?_ ?_
        · exact (State.strideFail_kept h (Part.sub hp))
        · extract_lets +onlyGivenNames -merge -useContext -underBinder s9 s10
          have h12 : Kept l s0 s10 := by unfold s10; exact (State.wr_kept (State.wr_kept h (Zoned.pagesOf (lo := 8) (hi := 16) (Part.at hp) (by simp only [s9, AFE.LANEMAP.lanes]; omega) (by simp only [s9, AFE.LANEMAP.lanes]; omega) (by simp only [s9, AFE.LANEMAP.lanes]; omega) (.inr (by simp only [s9, AFE.LANEMAP.lanes]; omega)))) (AFE.LANEMAP.spare_zoned (Part.at hp)))
          clear_value s10
          exact (State.stridePass_kept (State.wr_kept h12 (modFail_zoned (Part.at hp))) (Part.sub hp))

theorem State.strideStep4_kept {l s0} {s} {x1} {x2} (h : Kept l s0 s) (hp : Part.within [.cal, .page 0x10, .head 0x14, .afe, .pages 0x8 0x10, .head 0x24, .head 0x20, .terms, .recorder, .page 0x49, .page 0x42, .page 0x41, .page 0x40, .sram, .sramBad, .sramWeak, .msg, .page 0x178, .nvm] l) :
    Kept l s0 (State.strideStep4 s x1 x2) := by
  unfold State.strideStep4
  extract_lets +onlyGivenNames -merge -useContext -underBinder s1
  have h2 : Kept l s0 s1 := by unfold s1; exact (State.staleLap_kept h (Part.sub hp))
  clear_value s1
  refine Kept.ite ?_ ?_
  · exact h2
  · refine Kept.ite ?_ ?_
    · extract_lets +onlyGivenNames -merge -useContext -underBinder s3
      have h4 : Kept l s0 s3 := by unfold s3; exact (State.wr_kept (State.deferStride_kept h2 (Part.sub hp)) (CAL.BANKSTAT.mode_zoned (Part.at hp)))
      clear_value s3
      exact (Kept.ite (State.modStride_kept (State.setPhase_kept (State.strideDefer_kept h4 (Part.sub hp)) (Part.sub hp)) (Part.sub hp)) h4)
    · extract_lets +onlyGivenNames -merge -useContext -underBinder s5
      have h6 : Kept l s0 s5 := by unfold s5; exact (Kept.ite (State.modeChange_kept h2 (Part.sub hp)) (State.bankJoins_kept h2 (Part.sub hp)))
      clear_value s5
      extract_lets +onlyGivenNames -merge -useContext -underBinder s7
      have h8 : Kept l s0 s7 := by unfold s7; exact (State.wr_kept h6 (CAL.BANKSTAT.mode_zoned (Part.at hp)))
      clear_value s7
      extract_lets +onlyGivenNames -merge -useContext -underBinder s9
      clear_value s9
      exact (Kept.ite (State.planStride_kept h8 (Part.sub hp)) (Kept.ite (State.replanStride_kept h8 (Part.sub hp)) (Kept.ite h8 (Kept.ite (State.planStride_kept (State.setPhase_kept (State.strideOutcome_kept h8 (Part.sub hp)) (Part.sub hp)) (Part.sub hp)) (Kept.ite (State.planStride_kept (State.setPhase_kept (State.advanceTarget_kept (State.strideDefer_kept h8 (Part.sub hp)) (Part.sub hp)) (Part.sub hp)) (Part.sub hp)) h8)))))

theorem execReferenceMonitorEnd_kept {l s0} {x0} {x1} {x2} {x3} {s} (h : Kept l s0 s) (hp : Part.within [.terms, .cal, .nvm, .page 0x10, .pages 0x8 0x10, .head 0x24, .head 0x14, .head 0x20, .recorder, .page 0x49, .page 0x42, .page 0x41, .page 0x40, .sram, .sramBad, .sramWeak, .msg, .page 0x178] l) :
    KeptR l s0 (execReferenceMonitorEnd x0 x1 x2 x3 s) := by
  unfold execReferenceMonitorEnd
  refine KeptR.ite ?_ ?_
  · exact (KeptR.next h)
  · extract_lets +onlyGivenNames -merge -useContext -underBinder s1
    clear_value s1
    extract_lets +onlyGivenNames -merge -useContext -underBinder s3
    have h4 : Kept l s0 s3 := by unfold s3; exact (State.rejoinRefs_kept h (Part.sub hp))
    clear_value s3
    extract_lets +onlyGivenNames -merge -useContext -underBinder s5 s6
    have h8 : Kept l s0 s6 := by unfold s6; exact (h4.cal (Part.at hp))
    clear_value s6
    clear_value s5
    extract_lets +onlyGivenNames -merge -useContext -underBinder s9
    have h10 : Kept l s0 s9 := by unfold s9; exact (State.wrInt_kept (State.wrInt_kept (State.wrInt_kept (State.wrInt_kept h8 (CAL.REFDEV.ppb_zoned (Part.at hp))) (CAL.REFDEV.ppb_zoned (Part.at hp))) (CAL.REFDEV.ppb_zoned (Part.at hp))) (CAL.RRDEV.ppb_zoned (Part.at hp)))
    clear_value s9
    extract_lets +onlyGivenNames -merge -useContext -underBinder s11
    have h12 : Kept l s0 s11 := by unfold s11; exact (Kept.ite (State.irq_kept (State.fault_kept (State.wr_kept h10 (CAL.REFSTAT.rr_fail_zoned (Part.at hp))) (CAL.FAULT.rr_zoned (Part.at hp)) (Part.sub hp)) (CAL.IRQRAW.rr_fail_zoned (Part.at hp))) (State.wr_kept h10 (CAL.REFSTAT.rr_fail_zoned (Part.at hp))))
    clear_value s11
    extract_lets +onlyGivenNames -merge -useContext -underBinder s13
    have h14 : ∀ {t}, Kept l s0 t → Kept l s0 (s13 t) := by
      intro t h15
      unfold s13
      exact (State.deferStrides_kept (State.fault_kept (State.wr_kept h15 (CAL.REFSTAT.refloss_zoned (Part.at hp))) (CAL.FAULT.refloss_zoned (Part.at hp)) (Part.sub hp)) (Part.sub hp))
    clear_value s13
    extract_lets +onlyGivenNames -merge -useContext -underBinder s16
    have h17 : ∀ {t}, Kept l s0 t → Kept l s0 (s16 t) := by
      intro t h18
      unfold s16
      exact (State.wr_kept (State.wr_kept h18 (CAL.REFSTAT.refloss_zoned (Part.at hp))) (CAL.REFSTAT.ambig_zoned (Part.at hp)))
    clear_value s16
    extract_lets +onlyGivenNames -merge -useContext -underBinder s19
    have h20 : ∀ {y0}, Kept l s0 (s19 y0) := by
      intro y0
      unfold s19
      extract_lets +onlyGivenNames -merge -useContext -underBinder s21 s22
      have h24 : Kept l s0 s22 := by unfold s22; exact (h17 (h12.terms (Part.at hp)))
      clear_value s22
      clear_value s21
      exact (State.calEvent_kept (State.persist_kept (State.showPersistent_kept (State.irq_kept h24 (CAL.IRQRAW.ref_fail_zoned (Part.at hp))) (Part.sub hp)) (Part.sub hp)) (Part.sub hp))
    clear_value s19
    split
    · split
      · exact (KeptR.next (h17 h12))
      · exact (KeptR.next h20)
      · exact (KeptR.next h20)
      · exact (KeptR.next h20)
      · exact (KeptR.next (State.fault_kept (Kept.when (State.wr_kept h12 (CAL.REFSTAT.ambig_zoned (Part.at hp))) (fun _ h25 => (State.wr_kept h25 (CAL.REFSTAT.refloss_zoned (Part.at hp))))) (CAL.FAULT.refambig_zoned (Part.at hp)) (Part.sub hp)))
    · exact (KeptR.next (Kept.ite (h14 h12) (h17 h12)))
    · exact (KeptR.next (Kept.ite (h14 h12) (h17 h12)))
    · exact (KeptR.next (Kept.ite (h14 h12) (h17 h12)))
    · exact (KeptR.next (State.wr_kept h12 (CAL.REFSTAT.refloss_zoned (Part.at hp))))

theorem execReferenceConversionEnd_kept {l s0} {x0} {x1} {x2} {s} (h : Kept l s0 s) (hp : Part.within [.cal, .page 0x10, .head 0x14, .terms, .recorder, .page 0x49, .head 0x24, .page 0x42, .head 0x20, .page 0x41, .page 0x40, .sram, .sramBad, .sramWeak, .msg, .page 0x178, .nvm, .pages 0x8 0x10] l) :
    KeptR l s0 (execReferenceConversionEnd x0 x1 x2 s) := by
  unfold execReferenceConversionEnd
  extract_lets +onlyGivenNames -merge -useContext -underBinder s1
  clear_value s1
  extract_lets +onlyGivenNames -merge -useContext -underBinder s3
  clear_value s3
  refine KeptR.ite ?_ ?_
  · exact (KeptR.next h)
  · refine KeptR.ite ?_ ?_
    · exact (KeptR.next (State.modStride_kept h (Part.sub hp)))
    · split
      · exact (KeptR.next h)
      · refine KeptR.ite ?_ ?_
        · exact (KeptR.next h)
        · extract_lets +onlyGivenNames -merge -useContext -underBinder s5
          clear_value s5
          extract_lets +onlyGivenNames -merge -useContext -underBinder s7
          clear_value s7
          extract_lets +onlyGivenNames -merge -useContext -underBinder s9
          have h10 : Kept l s0 s9 := by unfold s9; exact (State.modStride_kept h (Part.sub hp))
          clear_value s9
          extract_lets +onlyGivenNames -merge -useContext -underBinder s11
          have h12 : Kept l s0 s11 := by unfold s11; exact (Kept.ite (State.repeatConvs_kept h10 (Part.sub hp)) h10)
          clear_value s11
          extract_lets +onlyGivenNames -merge -useContext -underBinder s13
          have h14 : Kept l s0 s13 := by unfold s13; exact (State.judgeResults_kept h12 (Part.sub hp))
          clear_value s13
          exact (KeptR.next (Kept.ite (State.refPhaseEnd_kept h14 (Part.sub hp)) h14))

theorem execOverlapReferenceEnd_kept {l s0} {x0} {x1} {x2} {s} (h : Kept l s0 s) (hp : Part.within [.page 0x10, .cal, .head 0x14] l) :
    KeptR l s0 (execOverlapReferenceEnd x0 x1 x2 s) := by
  unfold execOverlapReferenceEnd
  extract_lets +onlyGivenNames -merge -useContext -underBinder s1
  clear_value s1
  extract_lets +onlyGivenNames -merge -useContext -underBinder s3
  clear_value s3
  extract_lets +onlyGivenNames -merge -useContext -underBinder s5
  clear_value s5
  extract_lets +onlyGivenNames -merge -useContext -underBinder s7
  clear_value s7
  refine KeptR.ite ?_ ?_
  · extract_lets +onlyGivenNames -merge -useContext -underBinder s9
    clear_value s9
    exact (KeptR.next (State.handoverWait_kept (State.compareSpare_kept h (Part.sub hp)) (Part.sub hp)))
  · exact (KeptR.next h)

theorem execReinstateChannel_kept {l s0} {x0} {x1} {s} (h : Kept l s0 s) (hp : Part.within [.page 0x1, .status, .msg, .page 0x10, .cal] l) :
    KeptR l s0 (execReinstateChannel x0 x1 s) := by
  unfold execReinstateChannel
  exact (State.command_kept h (fun h1 => (State.calCommand_kept h1 (Part.sub hp))) (Part.sub hp))

theorem execReinstateModulator_kept {l s0} {x0} {x1} {x2} {s} (h : Kept l s0 s) (hp : Part.within [.page 0x1, .status, .msg, .page 0x10, .cal] l) :
    KeptR l s0 (execReinstateModulator x0 x1 x2 s) := by
  unfold execReinstateModulator
  exact (State.command_kept h (fun h1 => (State.calCommand_kept h1 (Part.sub hp))) (Part.sub hp))

theorem execReinstateReference_kept {l s0} {x0} {x1} {s} (h : Kept l s0 s) (hp : Part.within [.page 0x1, .status, .msg, .page 0x10, .cal] l) :
    KeptR l s0 (execReinstateReference x0 x1 s) := by
  unfold execReinstateReference
  exact (State.command_kept h (fun h1 => (State.calCommand_kept h1 (Part.sub hp))) (Part.sub hp))

theorem execRetireChannelCommand_kept {l s0} {x0} {x1} {s} (h : Kept l s0 s) (hp : Part.within [.page 0x1, .status, .msg, .page 0x10, .cal] l) :
    KeptR l s0 (execRetireChannelCommand x0 x1 s) := by
  unfold execRetireChannelCommand
  exact (State.command_kept h (fun h1 => (State.calCommand_kept h1 (Part.sub hp))) (Part.sub hp))

theorem execFieldCalStart_kept {l s0} {x0} {s} (h : Kept l s0 s) (hp : Part.within [.page 0x1, .status, .page 0x10, .head 0x14, .freeCount, .cal] l) :
    KeptR l s0 (execFieldCalStart x0 s) := by
  unfold execFieldCalStart
  exact (KeptR.ite (State.command_kept h (fun h1 => (State.fcalStart_kept h1 (Part.sub hp))) (Part.sub hp)) (KeptR.next (h.status (Part.at hp))))

theorem execFieldCalRunEnd_kept {l s0} {x0} {x1} {s} (h : Kept l s0 s) (hp : Part.within [.page 0x10, .head 0x14, .cal] l) :
    KeptR l s0 (execFieldCalRunEnd x0 x1 s) := by
  unfold execFieldCalRunEnd
  refine KeptR.ite ?_ ?_
  · exact (KeptR.next h)
  · extract_lets +onlyGivenNames -merge -useContext -underBinder s1
    have h2 : Kept l s0 s1 := by unfold s1; exact (State.wr_kept h (CAL.BANKSTAT.phase_zoned (Part.at hp)))
    clear_value s1
    extract_lets +onlyGivenNames -merge -useContext -underBinder s3
    clear_value s3
    refine KeptR.ite ?_ ?_
    · exact (KeptR.next (State.fcalEnd_kept h2 (Part.sub hp)))
    · refine KeptR.ite ?_ ?_
      · exact (KeptR.next (State.fcalEnd_kept h2 (Part.sub hp)))
      · extract_lets +onlyGivenNames -merge -useContext -underBinder s5
        clear_value s5
        extract_lets +onlyGivenNames -merge -useContext -underBinder s7
        clear_value s7
        exact (KeptR.ite (KeptR.next (State.fcalEnd_kept h2 (Part.sub hp))) (KeptR.next (State.fcalEnd_kept (State.wrInt_kept h2 (CAL.FCALRES.ppb_zoned (Part.at hp))) (Part.sub hp))))

theorem execFieldCalAccept_kept {l s0} {x0} {s} (h : Kept l s0 s) (hp : Part.within [.page 0x1, .status, .nvm, .cal] l) :
    KeptR l s0 (execFieldCalAccept x0 s) := by
  unfold execFieldCalAccept
  exact (State.command_kept h (fun h1 => (State.fcalAccept_kept h1 (Part.sub hp))) (Part.sub hp))

theorem execFieldCalAbort_kept {l s0} {x0} {s} (h : Kept l s0 s) (hp : Part.within [.page 0x1, .status, .page 0x10, .head 0x14, .cal, .nvm] l) :
    KeptR l s0 (execFieldCalAbort x0 s) := by
  unfold execFieldCalAbort
  exact (State.command_kept h (fun h1 => (State.fcalAbort_kept h1 (Part.sub hp))) (Part.sub hp))

theorem execCalStoreCopyVerified_kept {l s0} {x0} {s} (h : Kept l s0 s) (hp : Part.within [.nvm, .page 0x48, .page 0x58, .head 0x14, .head 0x24, .head 0x20, .store, .freeCount, .cal, .page 0x10, .recorder, .page 0x49, .page 0x42, .page 0x41, .page 0x40, .sram, .sramBad, .sramWeak, .msg, .page 0x178] l) :
    KeptR l s0 (execCalStoreCopyVerified x0 s) := by
  unfold execCalStoreCopyVerified
  exact (KeptR.ite (KeptR.next (State.copyEnd_kept h (Part.sub hp))) (KeptR.next h))

theorem execNvmCommandEnd_kept {l s0} {x0} {s} (h : Kept l s0 s) (hp : Part.within [.page 0x48, .nvm, .page 0x58, .head 0x14, .head 0x24, .head 0x20, .store, .recorder, .page 0x49, .page 0x42, .page 0x41, .page 0x40, .sram, .sramBad, .sramWeak, .msg, .page 0x178, .page 0x51, .freeCount, .cal, .page 0x10] l) :
    KeptR l s0 (execNvmCommandEnd x0 s) := by
  unfold execNvmCommandEnd
  split
  · exact (KeptR.next h)
  · extract_lets +onlyGivenNames -merge -useContext -underBinder s1
    have h2 : ∀ {t} {y1} {y2}, Kept l s0 t → Kept l s0 (s1 t y1 y2) := by
      intro t y1 y2 h3
      unfold s1
      exact (State.wr_kept (State.wr_kept h3 (NVM.CMDSTAT.state_zoned (Part.at hp))) (NVM.CMDSTAT.reason_zoned (Part.at hp)))
    clear_value s1
    split
    · exact (KeptR.next (Kept.when (State.nvmNext_kept (State.storeErase_kept h (Part.sub hp)) (Part.sub hp)) (fun _ h4 => (State.clearStep_kept h4 (Part.sub hp)))))
    · exact (KeptR.next (State.nvmNext_kept (State.storeErase_kept h (Part.sub hp)) (Part.sub hp)))
    · exact (KeptR.next (State.nvmNext_kept (Kept.when h (fun _ h5 => (State.recordsEnd_kept h5 (Part.sub hp)))) (Part.sub hp)))
    · exact (KeptR.ite (KeptR.next (State.baseEnd_kept h (Part.sub hp))) (KeptR.next h))
    · exact (KeptR.next (State.copyEnd_kept h (Part.sub hp)))
    · refine KeptR.ite ?_ ?_
      · split
        · rename_i bs7 s18 q9
          have h6 : Kept l s0 s18 := Kept.snd q9 (State.storeRead_kept h (Part.sub hp))
          exact (KeptR.next (State.nvmNext_kept (State.irq_kept (h2 (State.wr_kept h6 (NVM.RESULT.crc_zoned (Part.at hp)))) (NVM.IRQRAW.cmd_done_zoned (Part.at hp))) (Part.sub hp)))
        · rename_i s111 q12
          have h10 : Kept l s0 s111 := Kept.snd q12 (State.storeRead_kept h (Part.sub hp))
          exact (KeptR.next (State.nvmNext_kept (State.irq_kept (h2 h10) (NVM.IRQRAW.cmd_refused_zoned (Part.at hp))) (Part.sub hp)))
      · refine KeptR.ite ?_ ?_
        · exact (KeptR.next (State.nvmNext_kept (State.irq_kept (h2 (State.storeErase_kept h (Part.sub hp))) (NVM.IRQRAW.cmd_done_zoned (Part.at hp))) (Part.sub hp)))
        · split
          · rename_i s114 q15
            have h13 : Kept l s0 s114 := Kept.snd q15 (State.sramRead_kept h (Part.sub hp))
            exact (KeptR.next (State.nvmNext_kept (State.irq_kept (h2 h13) (NVM.IRQRAW.cmd_refused_zoned (Part.at hp))) (Part.sub hp)))
          · rename_i bs17 s118 q25
            have h16 : Kept l s0 s118 := Kept.snd q25 (State.sramRead_kept h (Part.sub hp))
            split
            · rename_i s220 q21
              have h19 : Kept l s0 s220 := Kept.snd q21 (Kept.iteSnd (State.storeProgram_kept h16 (Part.sub hp)) (Kept.beside (State.programFailed_kept h16 (Part.sub hp))))
              exact (KeptR.next (State.nvmNext_kept (State.irq_kept (h2 h19) (NVM.IRQRAW.cmd_done_zoned (Part.at hp))) (Part.sub hp)))
            · rename_i s223 q24
              have h22 : Kept l s0 s223 := Kept.snd q24 (Kept.iteSnd (State.storeProgram_kept h16 (Part.sub hp)) (Kept.beside (State.programFailed_kept h16 (Part.sub hp))))
              exact (KeptR.next (State.nvmNext_kept (State.irq_kept (h2 h22) (NVM.IRQRAW.cmd_refused_zoned (Part.at hp))) (Part.sub hp)))

end Sys2Proof.Machine
end

