-- ==== Sys2Proof/Laws/Link.lean ====
section
/-!
SUPPORT. What each operation of Machine/Link.lean can change: one lemma per operation, named after it. An operation started in a
state that has kept all parts of an earlier one but some keeps all but those and the parts that its lemma lists, and the
canonical form of the sparse maps with them.
-/

set_option Elab.async false

namespace Sys2Proof.Machine

theorem State.laneSend_kept {l s0} {s} {x1} {x2} {x3} (h : Kept l s0 s) (hp : Part.within [.pair] l) :
    Kept l s0 (State.laneSend s x1 x2 x3) := by
  unfold State.laneSend
  extract_lets +onlyGivenNames -merge -useContext -underBinder s1
  clear_value s1
  extract_lets +onlyGivenNames -merge -useContext -underBinder s3 s4
  clear_value s4
  clear_value s3
  exact (h.pair (Part.at hp))

theorem State.uhlizSend_kept {l s0} {s} {x1} {x2} (h : Kept l s0 s) (hp : Part.within [.pair] l) :
    Kept l s0 (State.uhlizSend s x1 x2) := by
  unfold State.uhlizSend
  exact (Kept.ite h (Kept.ite (State.laneSend_kept (State.laneSend_kept h (Part.sub hp)) (Part.sub hp)) (Kept.ite h (State.laneSend_kept h (Part.sub hp)))))

theorem State.forward_kept {l s0} {s} {x1} {x2} {x3} {x4} {x5} (h : Kept l s0 s) (hp : Part.within [.pair] l) :
    Kept l s0 (State.forward s x1 x2 x3 x4 x5) := by
  unfold State.forward
  extract_lets +onlyGivenNames -merge -useContext -underBinder s1
  have h2 : Kept l s0 s1 := by unfold s1; exact (State.uhlizSend_kept h (Part.sub hp))
  clear_value s1
  exact (h2.pair (Part.at hp))

theorem State.showScore_kept {l s0} {s} (h : Kept l s0 s) (hp : Part.within [.page 0x38] l) :
    Kept l s0 (State.showScore s) := by
  unfold State.showScore
  exact (Kept.ite (State.wr_kept h (PAIR.STAT.score_zoned (Part.at hp))) h)

end Sys2Proof.Machine
end

