-- ==== Sys2Proof/Laws/Uio.lean ====
section
/-!
SUPPORT. What each operation of Machine/Uio.lean can change: one lemma per operation, named after it. An operation started in a
state that has kept all parts of an earlier one but some keeps all but those and the parts that its lemma lists, and the
canonical form of the sparse maps with them.
-/

set_option Elab.async false

namespace Sys2Proof.Machine

theorem State.modLoop_kept {l s0} {s} {x1} {x2} (h : Kept l s0 s) (hp : Part.within [.loops] l) :
    Kept l s0 (State.modLoop s x1 x2) := by
  unfold State.modLoop
  exact (h.loops (Part.at hp))

theorem State.driveLoop_kept {l s0} {s} {x1} (h : Kept l s0 s) (hp : Part.within [.loops, .page 0x18] l) :
    Kept l s0 (State.driveLoop s x1) := by
  unfold State.driveLoop
  split
  · extract_lets +onlyGivenNames -merge -useContext -underBinder s1
    have h2 : Kept l s0 s1 := by unfold s1; exact (State.modLoop_kept (State.wr_kept h (UIO.STAT.row_zoned (Part.at hp))) (Part.sub hp))
    clear_value s1
    extract_lets +onlyGivenNames -merge -useContext -underBinder s3
    clear_value s3
    split
    · exact h2
    · refine Kept.ite ?_ ?_
      · exact h2
      · extract_lets +onlyGivenNames -merge -useContext -underBinder s5
        clear_value s5
        exact (Kept.ite h2 (State.modLoop_kept (State.wr_kept h2 (UIO.STAT.code_zoned (Part.at hp))) (Part.sub hp)))

theorem State.driveLoops_kept {l s0} {s} (h : Kept l s0 s) (hp : Part.within [.loops, .page 0x18] l) :
    Kept l s0 (State.driveLoops s) := by
  unfold State.driveLoops
  exact (Kept.ite (Kept.each h (fun _ _ h1 => (State.driveLoop_kept h1 (Part.sub hp)))) h)

theorem State.clearUio_kept {l s0} {s} (h : Kept l s0 s) (hp : Part.within [.arith, .lap, .loops, .jkt] l) :
    Kept l s0 (State.clearUio s) := by
  unfold State.clearUio
  exact (h.upd [.arith, .lap, .loops, .jkt] (Part.sub hp) (fun p hn => by cases p <;> first | rfl | exact True.intro | exact absurd (by decide) hn) rfl id)

theorem State.loopsFail_kept {l s0} {s} {x1} (h : Kept l s0 s) (hp : Part.within [.jkt, .loops, .page 0x18] l) :
    Kept l s0 (State.loopsFail s x1) := by
  unfold State.loopsFail
  refine Kept.ite ?_ ?_
  · exact h
  · extract_lets +onlyGivenNames -merge -useContext -underBinder s1 s2
    have h4 : Kept l s0 s2 := by unfold s2; exact (h.jkt (Part.at hp))
    clear_value s2
    clear_value s1
    exact (State.driveLoops_kept (Kept.ite (Kept.each h4 (fun _ _ h5 => (State.wr_kept h5 (UIO.STAT.failact_zoned (Part.at hp))))) h4) (Part.sub hp))

theorem State.loopOut_kept {l s0} {s} {x1} {x2} (h : Kept l s0 s) (hp : Part.within [.loops, .page 0x18] l) :
    Kept l s0 (State.loopOut s x1 x2) := by
  unfold State.loopOut
  exact (State.driveLoop_kept (State.wrInt_kept h (UIO.OUT.out_zoned (Part.at hp))) (Part.sub hp))

theorem State.loopsFromHost_kept {l s0} {s} (h : Kept l s0 s) (hp : Part.within [.loops, .page 0x18] l) :
    Kept l s0 (State.loopsFromHost s) := by
  unfold State.loopsFromHost
  exact (Kept.each h (fun _ _ h1 => (State.loopOut_kept h1 (Part.sub hp))))

theorem State.loopsFromAlarms_kept {l s0} {s} (h : Kept l s0 s) (hp : Part.within [.loops, .page 0x18] l) :
    Kept l s0 (State.loopsFromAlarms s) := by
  unfold State.loopsFromAlarms
  refine Kept.each h (fun _ _ h1 => ?_)
  extract_lets +onlyGivenNames -merge -useContext -underBinder s2
  clear_value s2
  extract_lets +onlyGivenNames -merge -useContext -underBinder s4
  clear_value s4
  exact (State.loopOut_kept h1 (Part.sub hp))

theorem State.noteLoop_kept {l s0} {s} {x1} {x2} (h : Kept l s0 s) (hp : Part.within [.loops] l) :
    Kept l s0 (State.noteLoop s x1 x2) := by
  unfold State.noteLoop
  extract_lets +onlyGivenNames -merge -useContext -underBinder s1
  clear_value s1
  exact (Kept.ite h (State.modLoop_kept h (Part.sub hp)))

theorem State.loopRecord_kept {l s0} {s} {x1} (h : Kept l s0 s) (hp : Part.within [.loops] l) :
    Kept l s0 (State.loopRecord s x1) := by
  unfold State.loopRecord
  extract_lets +onlyGivenNames -merge -useContext -underBinder s1
  clear_value s1
  extract_lets +onlyGivenNames -merge -useContext -underBinder s3
  have h4 : Kept l s0 s3 := by unfold s3; exact (State.noteLoop_kept (State.modLoop_kept h (Part.sub hp)) (Part.sub hp))
  clear_value s3
  refine Kept.ite ?_ ?_
  · extract_lets +onlyGivenNames -merge -useContext -underBinder s5
    clear_value s5
    exact (Kept.ite h4 (State.modLoop_kept h4 (Part.sub hp)))
  · exact h4

theorem State.retransmit_kept {l s0} {s} {x1} (h : Kept l s0 s) (hp : Part.within [.loops, .page 0x18] l) :
    Kept l s0 (State.retransmit s x1) := by
  unfold State.retransmit
  refine Kept.each h (fun _ _ h1 => ?_)
  refine Kept.ite ?_ ?_
  · extract_lets +onlyGivenNames -merge -useContext -underBinder s2
    clear_value s2
    extract_lets +onlyGivenNames -merge -useContext -underBinder s4
    clear_value s4
    extract_lets +onlyGivenNames -merge -useContext -underBinder s6
    clear_value s6
    extract_lets +onlyGivenNames -merge -useContext -underBinder s8
    clear_value s8
    extract_lets +onlyGivenNames -merge -useContext -underBinder s10
    clear_value s10
    extract_lets +onlyGivenNames -merge -useContext -underBinder s12
    clear_value s12
    exact (State.loopOut_kept h1 (Part.sub hp))
  · exact (Kept.ite (State.loopOut_kept h1 (Part.sub hp)) h1)

theorem State.loopEvalEnd_kept {l s0} {s} (h : Kept l s0 s) (hp : Part.within [.page 0x18, .loops, .jkt] l) :
    Kept l s0 (State.loopEvalEnd s) := by
  unfold State.loopEvalEnd
  extract_lets +onlyGivenNames -merge -useContext -underBinder s1
  have h2 : Kept l s0 s1 := by unfold s1; exact (Kept.each h (fun _ _ h3 => (State.wr_kept h3 (UIO.STAT.failact_zoned (Part.at hp)))))
  clear_value s1
  exact (State.driveLoops_kept (State.loopsFromAlarms_kept (h2.jkt (Part.at hp)) (Part.sub hp)) (Part.sub hp))

theorem State.loopSetTo_kept {l s0} {s} {x1} {x2} (h : Kept l s0 s) (hp : Part.within [.page 0x18, .loops] l) :
    Kept l s0 (State.loopSetTo s x1 x2) := by
  unfold State.loopSetTo
  extract_lets +onlyGivenNames -merge -useContext -underBinder s1
  have h2 : Kept l s0 s1 := by unfold s1; exact (State.wrInt_kept h (UIO.SET.set__zoned (Part.at hp)))
  clear_value s1
  exact (Kept.ite (State.loopOut_kept h2 (Part.sub hp)) h2)

theorem State.loopRestore_kept {l s0} {s} {x1} (h : Kept l s0 s) (hp : Part.within [.jkt, .page 0x18] l) :
    Kept l s0 (State.loopRestore s x1) := by
  unfold State.loopRestore
  refine Kept.ite ?_ ?_
  · exact h
  · extract_lets +onlyGivenNames -merge -useContext -underBinder s1
    clear_value s1
    extract_lets +onlyGivenNames -merge -useContext -underBinder s3 s4
    have h6 : Kept l s0 s4 := by unfold s4; exact (h.jkt (Part.at hp))
    clear_value s4
    clear_value s3
    exact (Kept.ite h6 (State.wr_kept h6 (UIO.STAT.failact_zoned (Part.at hp))))

theorem State.loopBoundary_kept {l s0} {s} (h : Kept l s0 s) (hp : Part.within [.loops, .lap, .jkt, .page 0x18] l) :
    Kept l s0 (State.loopBoundary s) := by
  unfold State.loopBoundary
  refine Kept.ite ?_ ?_
  · exact h
  · extract_lets +onlyGivenNames -merge -useContext -underBinder s1
    clear_value s1
    extract_lets +onlyGivenNames -merge -useContext -underBinder s3
    have h4 : Kept l s0 s3 := by
      unfold s3
      refine Kept.each h (fun _ _ h5 => ?_)
      extract_lets +onlyGivenNames -merge -useContext -underBinder s6
      clear_value s6
      extract_lets +onlyGivenNames -merge -useContext -underBinder s8
      have h9 : Kept l s0 s8 := by unfold s8; exact (State.modLoop_kept h5 (Part.sub hp))
      clear_value s8
      extract_lets +onlyGivenNames -merge -useContext -underBinder s10 s11
      have h13 : Kept l s0 s11 := by unfold s11; exact (Kept.ite (h9.lap (Part.at hp)) h9)
      clear_value s11
      clear_value s10
      exact (Kept.ite (State.loopRestore_kept h13 (Part.sub hp)) h13)
    clear_value s3
    exact (State.driveLoops_kept (State.loopsFromHost_kept h4 (Part.sub hp)) (Part.sub hp))

theorem State.loopSet_kept {l s0} {s} {x1} {x2} {x3} {x4} (h : Kept l s0 s) (z1 : Zoned l x1) (z2 : Zoned l x2) (z3 : Zoned l x3) (z4 : Zoned l x4) (hp : Part.within [.head 0x14] l) :
    Kept l s0 (State.loopSet s x1 x2 x3 x4) := by
  unfold State.loopSet
  exact (State.stick_kept (State.irq_kept (State.wr_kept h z1) z2) z3 z4 (ZonedOpt.some (UIO.IRQRAW.cnt_ovf_zoned (Part.at hp))))

theorem State.loopsFailKnown_kept {l s0} {s} (h : Kept l s0 s) (hp : Part.within [.page 0x18] l) :
    Kept l s0 (State.loopsFailKnown s) := by
  unfold State.loopsFailKnown
  exact (Kept.ite h (Kept.each h (fun _ _ h1 => (Kept.ite (State.wr_kept h1 (UIO.STAT.failact_zoned (Part.at hp))) h1))))

theorem execReadbackSample_kept {l s0} {x0} {x1} {x2} {x3} {s} (h : Kept l s0 s) (hp : Part.within [.loops, .page 0x18, .head 0x14, .head 0x24, .head 0x20] l) :
    KeptR l s0 (execReadbackSample x0 x1 x2 x3 s) := by
  unfold execReadbackSample
  refine KeptR.ite ?_ ?_
  · exact (KeptR.next h)
  · extract_lets +onlyGivenNames -merge -useContext -underBinder s1
    clear_value s1
    extract_lets +onlyGivenNames -merge -useContext -underBinder s3
    clear_value s3
    extract_lets +onlyGivenNames -merge -useContext -underBinder s5
    clear_value s5
    extract_lets +onlyGivenNames -merge -useContext -underBinder s7
    clear_value s7
    extract_lets +onlyGivenNames -merge -useContext -underBinder s9
    clear_value s9
    extract_lets +onlyGivenNames -merge -useContext -underBinder s11
    clear_value s11
    extract_lets +onlyGivenNames -merge -useContext -underBinder s13
    clear_value s13
    extract_lets +onlyGivenNames -merge -useContext -underBinder s15
    clear_value s15
    extract_lets +onlyGivenNames -merge -useContext -underBinder s17
    clear_value s17
    extract_lets +onlyGivenNames -merge -useContext -underBinder s19
    clear_value s19
    extract_lets +onlyGivenNames -merge -useContext -underBinder s21
    clear_value s21
    extract_lets +onlyGivenNames -merge -useContext -underBinder s23
    clear_value s23
    extract_lets +onlyGivenNames -merge -useContext -underBinder s25
    have h26 : Kept l s0 s25 := by unfold s25; exact (State.wrInt_kept (State.wrInt_kept (State.modLoop_kept h (Part.sub hp)) (UIO.RB.rb_zoned (Part.at hp))) (UIO.TV.tv_zoned (Part.at hp)))
    clear_value s25
    extract_lets +onlyGivenNames -merge -useContext -underBinder s27
    have h28 : Kept l s0 s27 := by unfold s27; exact (Kept.ite (State.loopSet_kept h26 (UIO.STAT.compliance_zoned (Part.at hp)) (UIO.IRQRAW.compliance_zoned (Part.at hp)) (UIO.COMPCNT.count_zoned (Part.at hp)) (UIO.CNTOVF.comp_zoned (Part.at hp)) (Part.sub hp)) (Kept.ite (State.wr_kept h26 (UIO.STAT.compliance_zoned (Part.at hp))) h26))
    clear_value s27
    extract_lets +onlyGivenNames -merge -useContext -underBinder s29
    have h30 : Kept l s0 s29 := by unfold s29; exact (Kept.ite (State.loopSet_kept h28 (UIO.STAT.loop_low_zoned (Part.at hp)) (UIO.IRQRAW.loop_low_zoned (Part.at hp)) (UIO.LOWCNT.count_zoned (Part.at hp)) (UIO.CNTOVF.low_zoned (Part.at hp)) (Part.sub hp)) (Kept.ite (State.wr_kept h28 (UIO.STAT.loop_low_zoned (Part.at hp))) h28))
    clear_value s29
    extract_lets +onlyGivenNames -merge -useContext -underBinder s31
    have h32 : Kept l s0 s31 := by unfold s31; exact (Kept.ite (State.fault_kept (State.loopSet_kept h30 (UIO.STAT.outflt_zoned (Part.at hp)) (UIO.IRQRAW.outflt_zoned (Part.at hp)) (UIO.OUTFLTCNT.count_zoned (Part.at hp)) (UIO.CNTOVF.outflt_zoned (Part.at hp)) (Part.sub hp)) (UIO.FAULT.outflt_zoned (Part.at hp)) (Part.sub hp)) (Kept.ite (State.wr_kept h30 (UIO.STAT.outflt_zoned (Part.at hp))) h30))
    clear_value s31
    exact (KeptR.next (State.noteLoop_kept (State.driveLoop_kept h32 (Part.sub hp)) (Part.sub hp)))

theorem execLoopWindowEnd_kept {l s0} {x0} {s} (h : Kept l s0 s) (hp : Part.within [.freeCount, .loops, .lap, .page 0x11, .head 0x14, .arith] l) :
    KeptR l s0 (execLoopWindowEnd x0 s) := by
  unfold execLoopWindowEnd
  extract_lets +onlyGivenNames -merge -useContext -underBinder s1
  clear_value s1
  refine KeptR.ite ?_ ?_
  · exact (KeptR.next h)
  · split
    · rename_i free4 s05 q10
      have h3 : Kept l s0 s05 := Kept.snd q10 (Kept.iteSnd (State.draw_kept h (Part.sub hp)) (Kept.beside h))
      extract_lets +onlyGivenNames -merge -useContext -underBinder s6
      have h7 : Kept l s0 s6 := by unfold s6; exact (State.modLoop_kept h3 (Part.sub hp))
      clear_value s6
      extract_lets +onlyGivenNames -merge -useContext -underBinder s8
      clear_value s8
      exact (KeptR.next (State.arithQueue_kept h7 (Part.sub hp)))

theorem execLoopSetWrite_kept {l s0} {x0} {x1} {x2} {s} (h : Kept l s0 s) (hp : Part.within [.status, .page 0x1, .page 0x18, .loops] l) :
    KeptR l s0 (execLoopSetWrite x0 x1 x2 s) := by
  unfold execLoopSetWrite
  exact (KeptR.ite (KeptR.next (h.status (Part.at hp))) (State.command_kept h (fun h1 => (State.loopSetTo_kept h1 (Part.sub hp))) (Part.sub hp)))

theorem execStageThermal_kept {l s0} {x0} {x1} {s} (h : Kept l s0 s) (hp : Part.within [.loops, .page 0x18, .head 0x24, .head 0x14, .head 0x20] l) :
    KeptR l s0 (execStageThermal x0 x1 s) := by
  unfold execStageThermal
  exact (KeptR.ite (KeptR.next h) (KeptR.ite (KeptR.next (State.noteLoop_kept (State.driveLoop_kept (State.fault_kept (State.wr_kept h (UIO.STAT.thermal_zoned (Part.at hp))) (UIO.FAULT.thermal_zoned (Part.at hp)) (Part.sub hp)) (Part.sub hp)) (Part.sub hp))) (KeptR.ite (KeptR.next (State.noteLoop_kept (State.driveLoop_kept (State.wr_kept h (UIO.STAT.thermal_zoned (Part.at hp))) (Part.sub hp)) (Part.sub hp))) (KeptR.next h))))

end Sys2Proof.Machine
end

