-- ==== Sys2Proof/Laws/Dio.lean ====
section
/-!
SUPPORT. What each operation of Machine/Dio.lean can change: one lemma per operation, named after it. An operation started in a
state that has kept all parts of an earlier one but some keeps all but those and the parts that its lemma lists, and the
canonical form of the sparse maps with them.
-/

set_option Elab.async false

namespace Sys2Proof.Machine

theorem State.modPin_kept {l s0} {s} {x1} {x2} (h : Kept l s0 s) (hp : Part.within [.jkt] l) :
    Kept l s0 (State.modPin s x1 x2) := by
  unfold State.modPin
  exact (h.jkt (Part.at hp))

theorem State.applyOutputs_kept {l s0} {s} (h : Kept l s0 s) (hp : Part.within [.jkt, .page 0x19] l) :
    Kept l s0 (State.applyOutputs s) := by
  unfold State.applyOutputs
  refine Kept.each h (fun _ _ h1 => ?_)
  extract_lets +onlyGivenNames -merge -useContext -underBinder s2
  clear_value s2
  extract_lets +onlyGivenNames -merge -useContext -underBinder s4
  clear_value s4
  extract_lets +onlyGivenNames -merge -useContext -underBinder s6
  clear_value s6
  extract_lets +onlyGivenNames -merge -useContext -underBinder s8
  clear_value s8
  extract_lets +onlyGivenNames -merge -useContext -underBinder s10
  have h11 : Kept l s0 s10 := by unfold s10; exact (State.modPin_kept h1 (Part.sub hp))
  clear_value s10
  exact (Kept.when (State.putNth_kept h11 (ZonedFn.pageOf (n := 25) (Part.at hp) (fun _ => by simp only [DIO.DRIVE.drive]; omega))) (fun _ h12 => (State.putNth_kept h12 (ZonedFn.pageOf (n := 25) (Part.at hp) (fun _ => by simp only [DIO.EXTDRV.flag]; omega)))))

theorem State.modJkt_kept {l s0} {s} {x1} (h : Kept l s0 s) (hp : Part.within [.jkt] l) :
    Kept l s0 (State.modJkt s x1) := by
  unfold State.modJkt
  exact (h.jkt (Part.at hp))

theorem State.fieldDown_kept {l s0} {s} (h : Kept l s0 s) (hp : Part.within [.jkt] l) :
    Kept l s0 (State.fieldDown s) := by
  unfold State.fieldDown
  exact (State.modJkt_kept h (Part.sub hp))

theorem State.clearDio_kept {l s0} {s} (h : Kept l s0 s) (hp : Part.within [.jkt, .page 0x1A] l) :
    Kept l s0 (State.clearDio s) := by
  unfold State.clearDio
  exact (State.wr_kept (State.modJkt_kept (State.fieldDown_kept h (Part.sub hp)) (Part.sub hp)) (JKT.STAT.link_zoned (Part.at hp)))

theorem State.clearField_kept {l s0} {s} (h : Kept l s0 s) (hp : Part.within [.jkt, .page 0x1A] l) :
    Kept l s0 (State.clearField s) := by
  unfold State.clearField
  exact (State.modJkt_kept (State.clearDio_kept h (Part.sub hp)) (Part.sub hp))

theorem State.refreshValid_kept {l s0} {s} (h : Kept l s0 s) (hp : Part.within [.page 0x19, .jkt] l) :
    Kept l s0 (State.refreshValid s) := by
  unfold State.refreshValid
  extract_lets +onlyGivenNames -merge -useContext -underBinder s1
  have h2 : Kept l s0 s1 := by unfold s1; exact (Kept.each h (fun _ _ h3 => (State.putNth_kept h3 (ZonedFn.pageOf (n := 25) (Part.at hp) (fun _ => by simp only [DIO.VALID.valid]; omega)))))
  clear_value s1
  extract_lets +onlyGivenNames -merge -useContext -underBinder s4
  clear_value s4
  exact (State.modJkt_kept h2 (Part.sub hp))

theorem State.clearJkt_kept {l s0} {s} {x1} (h : Kept l s0 s) (hp : Part.within [.jkt, .page 0x1A, .page 0x38, .page 0x19] l) :
    Kept l s0 (State.clearJkt s x1) := by
  unfold State.clearJkt
  extract_lets +onlyGivenNames -merge -useContext -underBinder s1
  have h2 : Kept l s0 s1 := by unfold s1; exact (State.modJkt_kept (State.wr_kept h (JKT.STAT.link_zoned (Part.at hp))) (Part.sub hp))
  clear_value s1
  exact (State.showScore_kept (State.refreshValid_kept (Kept.ite h2 (State.applyOutputs_kept (State.fieldDown_kept h2 (Part.sub hp)) (Part.sub hp))) (Part.sub hp)) (Part.sub hp))

theorem State.copyChanged_kept {l s0} {s} {x1} (h : Kept l s0 s) (hp : Part.within [.page 0x19, .jkt] l) :
    Kept l s0 (State.copyChanged s x1) := by
  unfold State.copyChanged
  exact (State.refreshValid_kept (State.modJkt_kept h (Part.sub hp)) (Part.sub hp))

theorem State.outsFromContexts_kept {l s0} {s} (h : Kept l s0 s) (hp : Part.within [.jkt] l) :
    Kept l s0 (State.outsFromContexts s) := by
  unfold State.outsFromContexts
  refine Kept.each h (fun _ _ h1 => ?_)
  extract_lets +onlyGivenNames -merge -useContext -underBinder s2
  clear_value s2
  extract_lets +onlyGivenNames -merge -useContext -underBinder s4
  clear_value s4
  extract_lets +onlyGivenNames -merge -useContext -underBinder s6
  clear_value s6
  exact (State.modJkt_kept h1 (Part.sub hp))

theorem State.reportSupply_kept {l s0} {s} {x1} (h : Kept l s0 s) (hp : Part.within [.page 0x19] l) :
    Kept l s0 (State.reportSupply s x1) := by
  unfold State.reportSupply
  exact (State.wr_kept (State.wr_kept h (DIO.VFIELD.state_zoned (Part.at hp))) (DIO.VFIELD.mv_zoned (Part.at hp)))

theorem State.dioEvalEnd_kept {l s0} {s} {x1} (h : Kept l s0 s) (hp : Part.within [.jkt, .head 0x14, .page 0x19] l) :
    Kept l s0 (State.dioEvalEnd s x1) := by
  unfold State.dioEvalEnd
  extract_lets +onlyGivenNames -merge -useContext -underBinder s1
  have h2 : Kept l s0 s1 := by unfold s1; exact (State.modJkt_kept (State.outsFromContexts_kept h (Part.sub hp)) (Part.sub hp))
  clear_value s1
  extract_lets +onlyGivenNames -merge -useContext -underBinder s3
  clear_value s3
  refine Kept.ite ?_ ?_
  · extract_lets +onlyGivenNames -merge -useContext -underBinder s5
    have h6 : Kept l s0 s5 := by unfold s5; exact (State.irq_kept (State.modJkt_kept h2 (Part.sub hp)) (DIO.IRQRAW.vfield_ok_zoned (Part.at hp)))
    clear_value s5
    exact (State.reportSupply_kept h6 (Part.sub hp))
  · exact h2

theorem State.copyPassEnd_kept {l s0} {s} (h : Kept l s0 s) (hp : Part.within [.jkt, .head 0x24, .head 0x14, .head 0x20] l) :
    Kept l s0 (State.copyPassEnd s) := by
  unfold State.copyPassEnd
  extract_lets +onlyGivenNames -merge -useContext -underBinder s1
  clear_value s1
  extract_lets +onlyGivenNames -merge -useContext -underBinder s3
  have h4 : Kept l s0 s3 := by unfold s3; exact (State.modJkt_kept h (Part.sub hp))
  clear_value s3
  exact (Kept.ite (State.fault_kept h4 (JKT.FAULT.cfgecho_zoned (Part.at hp)) (Part.sub hp)) h4)

theorem State.deliverEvent_kept {l s0} {s} {x1} {x2} (h : Kept l s0 s) (hp : Part.within [.jkt, .head 0x14, .page 0x1A, .page 0x19] l) :
    Kept l s0 (State.deliverEvent s x1 x2) := by
  unfold State.deliverEvent
  extract_lets +onlyGivenNames -merge -useContext -underBinder s1
  clear_value s1
  extract_lets +onlyGivenNames -merge -useContext -underBinder s3
  clear_value s3
  extract_lets +onlyGivenNames -merge -useContext -underBinder s5
  clear_value s5
  refine Kept.ite ?_ ?_
  · exact (State.modJkt_kept (State.stick_kept (State.irq_kept h (JKT.IRQRAW.evt_ovf_zoned (Part.at hp))) (JKT.LATECNT.count_zoned (Part.at hp)) (JKT.CNTOVF.late_zoned (Part.at hp)) (ZonedOpt.some (JKT.IRQRAW.cnt_ovf_zoned (Part.at hp)))) (Part.sub hp))
  · extract_lets +onlyGivenNames -merge -useContext -underBinder s7
    clear_value s7
    extract_lets +onlyGivenNames -merge -useContext -underBinder s9
    have h10 : Kept l s0 s9 := by unfold s9; exact (State.modJkt_kept (State.wr_kept h (DIO.STAMP.stime_zoned (Part.at hp))) (Part.sub hp))
    clear_value s9
    exact (State.irq_kept h10 (DIO.IRQRAW.in_change_zoned (Part.at hp)))

theorem State.downItem_kept {l s0} {s} {x1} (h : Kept l s0 s) (hp : Part.within [.jkt, .head 0x24, .head 0x14, .head 0x20] l) :
    Kept l s0 (State.downItem s x1).2 := by
  unfold State.downItem
  refine Kept.iteSnd ?_ ?_
  · exact (Kept.beside h)
  · split
    · exact (Kept.beside (State.modJkt_kept h (Part.sub hp)))
    · extract_lets +onlyGivenNames -merge -useContext -underBinder s1
      clear_value s1
      extract_lets +onlyGivenNames -merge -useContext -underBinder s3
      have h4 : Kept l s0 s3 := by unfold s3; exact (State.modJkt_kept h (Part.sub hp))
      clear_value s3
      exact (Kept.beside (Kept.ite (State.copyPassEnd_kept h4 (Part.sub hp)) h4))

theorem State.eventsLost_kept {l s0} {s} (h : Kept l s0 s) (hp : Part.within [.page 0x1A, .head 0x14, .jkt, .head 0x24, .head 0x20] l) :
    Kept l s0 (State.eventsLost s) := by
  unfold State.eventsLost
  extract_lets +onlyGivenNames -merge -useContext -underBinder s1
  have h2 : Kept l s0 s1 := by unfold s1; exact (Kept.each h (fun _ _ h3 => (State.stick_kept h3 (JKT.LATECNT.count_zoned (Part.at hp)) (JKT.CNTOVF.late_zoned (Part.at hp)) (ZonedOpt.some (JKT.IRQRAW.cnt_ovf_zoned (Part.at hp))))))
  clear_value s1
  exact (State.modJkt_kept (State.fault_kept (State.irq_kept h2 (JKT.IRQRAW.evt_ovf_zoned (Part.at hp))) (JKT.FAULT.evtovf_zoned (Part.at hp)) (Part.sub hp)) (Part.sub hp))

theorem State.fieldSlot_kept {l s0} {s} (h : Kept l s0 s) (hp : Part.within [.jkt, .page 0x19] l) :
    Kept l s0 (State.fieldSlot s) := by
  unfold State.fieldSlot
  exact (Kept.ite h (State.applyOutputs_kept (State.modJkt_kept h (Part.sub hp)) (Part.sub hp)))

theorem State.fieldFault_kept {l s0} {s} (h : Kept l s0 s) (hp : Part.within [.jkt, .loops, .page 0x18, .page 0x19] l) :
    Kept l s0 (State.fieldFault s) := by
  unfold State.fieldFault
  exact (State.loopsFail_kept (State.applyOutputs_kept (State.modJkt_kept h (Part.sub hp)) (Part.sub hp)) (Part.sub hp))

theorem State.fieldError_kept {l s0} {s} {x1} (h : Kept l s0 s) (hp : Part.within [.jkt, .page 0x1A, .head 0x14, .page 0x19, .loops, .page 0x18] l) :
    Kept l s0 (State.fieldError s x1) := by
  unfold State.fieldError
  extract_lets +onlyGivenNames -merge -useContext -underBinder s1
  have h2 : Kept l s0 s1 := by unfold s1; exact (State.modJkt_kept (Kept.ite (State.stick_kept h (JKT.ERRCNT.count_zoned (Part.at hp)) (JKT.CNTOVF.err_zoned (Part.at hp)) (ZonedOpt.some (JKT.IRQRAW.cnt_ovf_zoned (Part.at hp)))) h) (Part.sub hp))
  clear_value s1
  extract_lets +onlyGivenNames -merge -useContext -underBinder s3
  clear_value s3
  refine Kept.ite ?_ ?_
  · exact (State.fieldSlot_kept h2 (Part.sub hp))
  · extract_lets +onlyGivenNames -merge -useContext -underBinder s5
    have h6 : Kept l s0 s5 := by unfold s5; exact (State.fieldSlot_kept (State.modJkt_kept h2 (Part.sub hp)) (Part.sub hp))
    clear_value s5
    exact (Kept.ite (State.fieldFault_kept h6 (Part.sub hp)) (Kept.ite (State.modJkt_kept h6 (Part.sub hp)) h6))

theorem State.flagTo_kept {l s0} {s} {x1} {x2} {x3} {x4} (h : Kept l s0 s) (z1 : ZonedFn l x1) (z4 : Zoned l x4) :
    Kept l s0 (State.flagTo s x1 x2 x3 x4) := by
  unfold State.flagTo
  extract_lets +onlyGivenNames -merge -useContext -underBinder s1
  have h2 : Kept l s0 s1 := by unfold s1; exact (State.putNth_kept h z1)
  clear_value s1
  exact (Kept.ite (State.irq_kept h2 z4) h2)

theorem State.jacketBoundary_kept {l s0} {s} (h : Kept l s0 s) (hp : Part.within [.jkt, .page 0x1A, .head 0x14] l) :
    Kept l s0 (State.jacketBoundary s) := by
  unfold State.jacketBoundary
  extract_lets +onlyGivenNames -merge -useContext -underBinder s1
  have h2 : Kept l s0 s1 := by unfold s1; exact (Kept.ite h (State.modJkt_kept h (Part.sub hp)))
  clear_value s1
  exact (Kept.ite (State.modJkt_kept (State.irq_kept (State.wr_kept h2 (JKT.STAT.link_zoned (Part.at hp))) (JKT.IRQRAW.restored_zoned (Part.at hp))) (Part.sub hp)) h2)

theorem State.keepEvent_kept {l s0} {s} {x1} (h : Kept l s0 s) (hp : Part.within [.jkt] l) :
    Kept l s0 (State.keepEvent s x1) := by
  unfold State.keepEvent
  exact (Kept.ite (State.modJkt_kept h (Part.sub hp)) h)

theorem State.linkFault_kept {l s0} {s} (h : Kept l s0 s) (hp : Part.within [.head 0x24, .head 0x14, .page 0x1A, .head 0x20, .jkt, .loops, .page 0x38, .page 0x19] l) :
    Kept l s0 (State.linkFault s) := by
  unfold State.linkFault
  extract_lets +onlyGivenNames -merge -useContext -underBinder s1
  have h2 : Kept l s0 s1 := by unfold s1; exact (State.fault_kept (State.irq_kept (State.wr_kept h (JKT.STAT.link_zoned (Part.at hp))) (JKT.IRQRAW.fault_zoned (Part.at hp))) (JKT.FAULT.link_zoned (Part.at hp)) (Part.sub hp))
  clear_value s1
  extract_lets +onlyGivenNames -merge -useContext -underBinder s3
  have h4 : Kept l s0 s3 := by unfold s3; exact (State.modJkt_kept (State.stick_kept h2 (JKT.FAULTCNT.count_zoned (Part.at hp)) (JKT.CNTOVF.fault_zoned (Part.at hp)) (ZonedOpt.some (JKT.IRQRAW.cnt_ovf_zoned (Part.at hp)))) (Part.sub hp))
  clear_value s3
  extract_lets +onlyGivenNames -merge -useContext -underBinder s5
  have h6 : Kept l s0 s5 := by unfold s5; exact (Kept.each h4 (fun _ _ h7 => (State.modLoop_kept h7 (Part.sub hp))))
  clear_value s5
  exact (State.showScore_kept (State.refreshValid_kept h6 (Part.sub hp)) (Part.sub hp))

theorem State.logicError_kept {l s0} {s} (h : Kept l s0 s) (hp : Part.within [.jkt, .page 0x1A, .head 0x14, .head 0x24, .head 0x20, .loops, .page 0x38, .page 0x19] l) :
    Kept l s0 (State.logicError s) := by
  unfold State.logicError
  extract_lets +onlyGivenNames -merge -useContext -underBinder s1
  clear_value s1
  extract_lets +onlyGivenNames -merge -useContext -underBinder s3
  have h4 : Kept l s0 s3 := by unfold s3; exact (State.modJkt_kept (State.stick_kept (State.wr_kept h (JKT.STAT.consec_zoned (Part.at hp))) (JKT.ERRCNT.count_zoned (Part.at hp)) (JKT.CNTOVF.err_zoned (Part.at hp)) (ZonedOpt.some (JKT.IRQRAW.cnt_ovf_zoned (Part.at hp)))) (Part.sub hp))
  clear_value s3
  extract_lets +onlyGivenNames -merge -useContext -underBinder s5
  clear_value s5
  exact (Kept.ite (State.linkFault_kept h4 (Part.sub hp)) (Kept.ite (State.irq_kept (State.wr_kept h4 (JKT.STAT.link_zoned (Part.at hp))) (JKT.IRQRAW.degraded_zoned (Part.at hp))) h4))

theorem State.queueChange_kept {l s0} {s} {x1} {x2} (h : Kept l s0 s) (hp : Part.within [.jkt] l) :
    Kept l s0 (State.queueChange s x1 x2) := by
  unfold State.queueChange
  exact (State.modJkt_kept h (Part.sub hp))

theorem State.reportPin_kept {l s0} {s} {x1} (h : Kept l s0 s) (hp : Part.within [.page 0x19, .head 0x14, .head 0x24, .head 0x20, .jkt] l) :
    Kept l s0 (State.reportPin s x1) := by
  unfold State.reportPin
  extract_lets +onlyGivenNames -merge -useContext -underBinder s1
  clear_value s1
  extract_lets +onlyGivenNames -merge -useContext -underBinder s3
  have h4 : Kept l s0 s3 := by unfold s3; exact (State.flagTo_kept (State.flagTo_kept (State.flagTo_kept h (ZonedFn.pageOf (n := 25) (Part.at hp) (fun _ => by simp only [DIO.SHORT.flag]; omega)) (DIO.IRQRAW.short_zoned (Part.at hp))) (ZonedFn.pageOf (n := 25) (Part.at hp) (fun _ => by simp only [DIO.THERM.flag]; omega)) (DIO.IRQRAW.thermal_zoned (Part.at hp))) (ZonedFn.pageOf (n := 25) (Part.at hp) (fun _ => by simp only [DIO.OPEN.flag]; omega)) (DIO.IRQRAW.open__zoned (Part.at hp)))
  clear_value s3
  extract_lets +onlyGivenNames -merge -useContext -underBinder s5
  have h6 : Kept l s0 s5 := by unfold s5; exact (Kept.ite (State.fault_kept h4 (DIO.FAULT.short_zoned (Part.at hp)) (Part.sub hp)) h4)
  clear_value s5
  extract_lets +onlyGivenNames -merge -useContext -underBinder s7
  have h8 : Kept l s0 s7 := by unfold s7; exact (Kept.ite (State.fault_kept h6 (DIO.FAULT.thermal_zoned (Part.at hp)) (Part.sub hp)) h6)
  clear_value s7
  exact (State.modJkt_kept h8 (Part.sub hp))

theorem State.takeLink_kept {l s0} {s} {x1} (h : Kept l s0 s) (hp : Part.within [.jkt, .page 0x1A, .head 0x14] l) :
    Kept l s0 (State.takeLink s x1) := by
  unfold State.takeLink
  extract_lets +onlyGivenNames -merge -useContext -underBinder s1
  clear_value s1
  extract_lets +onlyGivenNames -merge -useContext -underBinder s3
  have h4 : Kept l s0 s3 := by unfold s3; exact (State.modJkt_kept (State.wr_kept (State.wr_kept h (JKT.FTIME.us_zoned (Part.at hp))) (JKT.STAT.fdegraded_zoned (Part.at hp))) (Part.sub hp))
  clear_value s3
  refine Kept.ite ?_ ?_
  · exact (State.wr_kept h4 (JKT.FERR.count_zoned (Part.at hp)))
  · refine Kept.ite ?_ ?_
    · extract_lets +onlyGivenNames -merge -useContext -underBinder s5
      clear_value s5
      extract_lets +onlyGivenNames -merge -useContext -underBinder s7
      clear_value s7
      extract_lets +onlyGivenNames -merge -useContext -underBinder s9
      have h10 : Kept l s0 s9 := by unfold s9; exact (State.modJkt_kept (State.wr_kept h4 (JKT.ECHOCRC.crc_zoned (Part.at hp))) (Part.sub hp))
      clear_value s9
      exact (Kept.ite h10 (State.irq_kept h10 (JKT.IRQRAW.cfg_mismatch_zoned (Part.at hp))))
    · exact h4

theorem State.takeUp_kept {l s0} {s} {x1} (h : Kept l s0 s) (hp : Part.within [.page 0x19, .page 0x1A, .page 0x18, .head 0x24, .head 0x14, .head 0x20, .jkt] l) :
    Kept l s0 (State.takeUp s x1) := by
  unfold State.takeUp
  extract_lets +onlyGivenNames -merge -useContext -underBinder s1
  clear_value s1
  extract_lets +onlyGivenNames -merge -useContext -underBinder s3
  clear_value s3
  extract_lets +onlyGivenNames -merge -useContext -underBinder s5
  clear_value s5
  extract_lets +onlyGivenNames -merge -useContext -underBinder s7
  have h8 : Kept l s0 s7 := by unfold s7; exact (State.put_kept (Kept.each h (fun _ _ h9 => (State.putNth_kept h9 (ZonedFn.pageOf (n := 25) (Part.at hp) (fun _ => by simp only [DIO.STATE.state]; omega))))) (JKT.STAT.failact_zoned (Part.at hp)))
  clear_value s7
  extract_lets +onlyGivenNames -merge -useContext -underBinder s10
  have h11 : Kept l s0 s10 := by unfold s10; exact (Kept.ite (State.loopsFailKnown_kept (State.fault_kept (State.irq_kept h8 (UIO.IRQRAW.failact_zoned (Part.at hp))) (UIO.FAULT.jkt_zoned (Part.at hp)) (Part.sub hp)) (Part.sub hp)) h8)
  clear_value s10
  extract_lets +onlyGivenNames -merge -useContext -underBinder s12
  have h13 : Kept l s0 s12 := by unfold s12; exact (Kept.ite (State.eventsLost_kept h11 (Part.sub hp)) h11)
  clear_value s12
  extract_lets +onlyGivenNames -merge -useContext -underBinder s14
  clear_value s14
  extract_lets +onlyGivenNames -merge -useContext -underBinder s16
  have h17 : Kept l s0 s16 := by unfold s16; exact (Kept.each (State.modJkt_kept h13 (Part.sub hp)) (fun _ _ h18 => (State.deliverEvent_kept h18 (Part.sub hp))))
  clear_value s16
  exact (Kept.ite (State.reportSupply_kept h17 (Part.sub hp)) (Kept.each h17 (fun _ _ h19 => (State.reportPin_kept h19 (Part.sub hp)))))

theorem State.tell_kept {l s0} {s} {x1} (h : Kept l s0 s) (hp : Part.within [.page 0x19, .head 0x14, .head 0x24, .head 0x20, .jkt] l) :
    Kept l s0 (State.tell s x1) := by
  unfold State.tell
  exact (Kept.ite h (State.reportPin_kept h (Part.sub hp)))

theorem State.upFrame_kept {l s0} {s} (h : Kept l s0 s) (hp : Part.within [.freeCount, .jkt, .page 0x1A, .head 0x14] l) :
    Kept l s0 (State.upFrame s).2 := by
  unfold State.upFrame
  extract_lets +onlyGivenNames -merge -useContext -underBinder s1
  clear_value s1
  extract_lets +onlyGivenNames -merge -useContext -underBinder s3
  clear_value s3
  extract_lets +onlyGivenNames -merge -useContext -underBinder s5
  clear_value s5
  extract_lets +onlyGivenNames -merge -useContext -underBinder s7
  clear_value s7
  extract_lets +onlyGivenNames -merge -useContext -underBinder s9
  clear_value s9
  split
  · rename_i limits12 s113 q22
    have h11 : Kept l s0 s113 := Kept.snd q22 (Kept.iteSnd (State.draw_kept h (Part.sub hp)) (Kept.beside h))
    split
    · extract_lets +onlyGivenNames -merge -useContext -underBinder s14
      clear_value s14
      extract_lets +onlyGivenNames -merge -useContext -underBinder s16
      clear_value s16
      extract_lets +onlyGivenNames -merge -useContext -underBinder s18
      clear_value s18
      extract_lets +onlyGivenNames -merge -useContext -underBinder s20
      have h21 : Kept l s0 s20 := by unfold s20; exact (h11.jkt (Part.at hp))
      clear_value s20
      exact (Kept.beside (Kept.ite (State.stick_kept h21 (JKT.RETRYCNT.count_zoned (Part.at hp)) (JKT.CNTOVF.retry_zoned (Part.at hp)) (ZonedOpt.some (JKT.IRQRAW.cnt_event_zoned (Part.at hp)))) h21))

theorem execInputSample_kept {l s0} {x0} {x1} {s} (h : Kept l s0 s) (hp : Part.within [.jkt] l) :
    KeptR l s0 (execInputSample x0 x1 s) := by
  unfold execInputSample
  extract_lets +onlyGivenNames -merge -useContext -underBinder s1
  clear_value s1
  refine KeptR.ite ?_ ?_
  · exact (KeptR.next h)
  · extract_lets +onlyGivenNames -merge -useContext -underBinder s3
    clear_value s3
    extract_lets +onlyGivenNames -merge -useContext -underBinder s5
    clear_value s5
    extract_lets +onlyGivenNames -merge -useContext -underBinder s7
    clear_value s7
    extract_lets +onlyGivenNames -merge -useContext -underBinder s9
    clear_value s9
    extract_lets +onlyGivenNames -merge -useContext -underBinder s11
    clear_value s11
    extract_lets +onlyGivenNames -merge -useContext -underBinder s13
    have h14 : Kept l s0 s13 := by unfold s13; exact (State.modPin_kept h (Part.sub hp))
    clear_value s13
    extract_lets +onlyGivenNames -merge -useContext -underBinder s15
    have h16 : Kept l s0 s15 := by unfold s15; exact (Kept.ite (State.queueChange_kept h14 (Part.sub hp)) h14)
    clear_value s15
    extract_lets +onlyGivenNames -merge -useContext -underBinder s17
    clear_value s17
    exact (KeptR.next (Kept.ite (State.modJkt_kept h16 (Part.sub hp)) h16))

theorem execOutputTrip_kept {l s0} {x0} {x1} {s} (h : Kept l s0 s) (hp : Part.within [.jkt, .page 0x19, .head 0x14, .head 0x24, .head 0x20] l) :
    KeptR l s0 (execOutputTrip x0 x1 s) := by
  unfold execOutputTrip
  refine KeptR.ite ?_ ?_
  · exact (KeptR.next h)
  · extract_lets +onlyGivenNames -merge -useContext -underBinder s1
    have h2 : Kept l s0 s1 := by unfold s1; exact (State.modPin_kept h (Part.sub hp))
    clear_value s1
    extract_lets +onlyGivenNames -merge -useContext -underBinder s3
    have h4 : Kept l s0 s3 := by unfold s3; exact (Kept.each h2 (fun _ _ h5 => (State.modPin_kept h5 (Part.sub hp))))
    clear_value s3
    exact (KeptR.next (State.tell_kept (State.applyOutputs_kept h4 (Part.sub hp)) (Part.sub hp)))

theorem execOutputRestart_kept {l s0} {x0} {s} (h : Kept l s0 s) (hp : Part.within [.jkt, .page 0x19, .head 0x14, .head 0x24, .head 0x20] l) :
    KeptR l s0 (execOutputRestart x0 s) := by
  unfold execOutputRestart
  refine KeptR.ite ?_ ?_
  · exact (KeptR.next h)
  · extract_lets +onlyGivenNames -merge -useContext -underBinder s1
    have h2 : Kept l s0 s1 := by unfold s1; exact (Kept.each h (fun _ _ h3 => (State.modPin_kept h3 (Part.sub hp))))
    clear_value s1
    extract_lets +onlyGivenNames -merge -useContext -underBinder s4
    have h5 : Kept l s0 s4 := by unfold s4; exact (State.stick_kept h2 (DIO.TRIPCNT.count_zoned (Part.at hp)) (DIO.CNTOVF.trip_zoned (Part.at hp)) (ZonedOpt.some (DIO.IRQRAW.cnt_event_zoned (Part.at hp))))
    clear_value s4
    exact (KeptR.next (Kept.each (State.applyOutputs_kept h5 (Part.sub hp)) (fun _ _ h6 => (State.tell_kept h6 (Part.sub hp)))))

theorem execWireBreakTest_kept {l s0} {x0} {x1} {s} (h : Kept l s0 s) (hp : Part.within [.page 0x19, .head 0x14, .head 0x24, .head 0x20, .jkt] l) :
    KeptR l s0 (execWireBreakTest x0 x1 s) := by
  unfold execWireBreakTest
  exact (KeptR.ite (KeptR.next h) (KeptR.ite (KeptR.next (State.tell_kept (State.modPin_kept h (Part.sub hp)) (Part.sub hp))) (KeptR.next (State.tell_kept (State.modPin_kept h (Part.sub hp)) (Part.sub hp)))))

theorem execOpenLoadConfirm_kept {l s0} {x0} {s} (h : Kept l s0 s) (hp : Part.within [.page 0x19, .head 0x14, .head 0x24, .head 0x20, .jkt] l) :
    KeptR l s0 (execOpenLoadConfirm x0 s) := by
  unfold execOpenLoadConfirm
  exact (KeptR.ite (KeptR.next h) (KeptR.next (State.tell_kept (State.modPin_kept h (Part.sub hp)) (Part.sub hp))))

theorem execExtdrvConfirm_kept {l s0} {x0} {s} (h : Kept l s0 s) (hp : Part.within [.jkt, .page 0x19, .head 0x14, .head 0x24, .head 0x20] l) :
    KeptR l s0 (execExtdrvConfirm x0 s) := by
  unfold execExtdrvConfirm
  extract_lets +onlyGivenNames -merge -useContext -underBinder s1
  clear_value s1
  refine KeptR.ite ?_ ?_
  · exact (KeptR.next h)
  · extract_lets +onlyGivenNames -merge -useContext -underBinder s3
    have h4 : Kept l s0 s3 := by unfold s3; exact (State.flagTo_kept (State.modPin_kept h (Part.sub hp)) (ZonedFn.pageOf (n := 25) (Part.at hp) (fun _ => by simp only [DIO.EXTDRV.flag]; omega)) (DIO.IRQRAW.extdrv_zoned (Part.at hp)))
    clear_value s3
    exact (KeptR.next (State.fault_kept (State.stick_kept h4 (DIO.EXTCNT.count_zoned (Part.at hp)) (DIO.CNTOVF.ext_zoned (Part.at hp)) (ZonedOpt.some (DIO.IRQRAW.cnt_ovf_zoned (Part.at hp)))) (DIO.FAULT.extdrv_zoned (Part.at hp)) (Part.sub hp)))

theorem execDisagreeConfirm_kept {l s0} {x0} {s} (h : Kept l s0 s) (hp : Part.within [.head 0x24, .head 0x14, .page 0x19, .head 0x20] l) :
    KeptR l s0 (execDisagreeConfirm x0 s) := by
  unfold execDisagreeConfirm
  extract_lets +onlyGivenNames -merge -useContext -underBinder s1
  clear_value s1
  exact (KeptR.ite (KeptR.next h) (KeptR.next (State.fault_kept (State.stick_kept (State.flagTo_kept h (ZonedFn.pageOf (n := 25) (Part.at hp) (fun _ => by simp only [DIO.DISAGREE.flag]; omega)) (DIO.IRQRAW.disagree_zoned (Part.at hp))) (DIO.DISCNT.count_zoned (Part.at hp)) (DIO.CNTOVF.dis_zoned (Part.at hp)) (ZonedOpt.some (DIO.IRQRAW.cnt_ovf_zoned (Part.at hp)))) (DIO.FAULT.disagree_zoned (Part.at hp)) (Part.sub hp))))

theorem execOutsetWrite_kept {l s0} {x0} {x1} {x2} {s} (h : Kept l s0 s) (hp : Part.within [.status, .page 0x1, .page 0x19] l) :
    KeptR l s0 (execOutsetWrite x0 x1 x2 s) := by
  unfold execOutsetWrite
  exact (KeptR.ite (KeptR.next (h.status (Part.at hp))) (State.command_kept h (fun h1 => (State.wr_kept h1 (DIO.OUTSET.set__zoned (Part.at hp)))) (Part.sub hp)))

theorem execVfieldMeasure_kept {l s0} {x0} {x1} {s} (h : Kept l s0 s) (hp : Part.within [.jkt, .head 0x14, .head 0x24, .head 0x20, .loops, .page 0x18, .page 0x19] l) :
    KeptR l s0 (execVfieldMeasure x0 x1 s) := by
  unfold execVfieldMeasure
  refine KeptR.ite ?_ ?_
  · exact (KeptR.next h)
  · extract_lets +onlyGivenNames -merge -useContext -underBinder s1
    clear_value s1
    extract_lets +onlyGivenNames -merge -useContext -underBinder s3
    clear_value s3
    extract_lets +onlyGivenNames -merge -useContext -underBinder s5
    clear_value s5
    extract_lets +onlyGivenNames -merge -useContext -underBinder s7
    clear_value s7
    extract_lets +onlyGivenNames -merge -useContext -underBinder s9
    have h10 : Kept l s0 s9 := by unfold s9; exact (State.modJkt_kept h (Part.sub hp))
    clear_value s9
    extract_lets +onlyGivenNames -merge -useContext -underBinder s11
    have h12 : Kept l s0 s11 := by unfold s11; exact (Kept.ite (State.irq_kept h10 (DIO.IRQRAW.vfield_warn_zoned (Part.at hp))) h10)
    clear_value s11
    extract_lets +onlyGivenNames -merge -useContext -underBinder s13 s14 s15
    have h16 : Kept l s0 s13 := by unfold s13; exact (State.modJkt_kept (State.fault_kept (State.irq_kept h12 (DIO.IRQRAW.vfield_low_zoned (Part.at hp))) (DIO.FAULT.vfield_zoned (Part.at hp)) (Part.sub hp)) (Part.sub hp))
    have h17 : Kept l s0 s14 := by unfold s14; exact (Kept.each h16 (fun _ _ h18 => (State.modPin_kept h18 (Part.sub hp))))
    have h19 : Kept l s0 s15 := by unfold s15; exact (Kept.ite (State.driveLoops_kept (State.refreshValid_kept (Kept.each h17 (fun _ _ h20 => (State.tell_kept h20 (Part.sub hp)))) (Part.sub hp)) (Part.sub hp)) (Kept.ite (Kept.each h12 (fun _ _ h21 => (State.modPin_kept h21 (Part.sub hp)))) h12))
    clear_value s15
    clear_value s14
    clear_value s13
    exact (KeptR.next (Kept.ite h19 (State.reportSupply_kept h19 (Part.sub hp))))

theorem execJacketDownstreamFrame_kept {l s0} {s} (h : Kept l s0 s) (hp : Part.within [.page 0x1A, .head 0x14, .jkt, .head 0x24, .head 0x20, .pair] l) :
    KeptR l s0 (execJacketDownstreamFrame s) := by
  unfold execJacketDownstreamFrame
  refine KeptR.ite ?_ ?_
  · exact (KeptR.next h)
  · extract_lets +onlyGivenNames -merge -useContext -underBinder s1
    clear_value s1
    extract_lets +onlyGivenNames -merge -useContext -underBinder s3
    clear_value s3
    split
    · rename_i item6 payload7 s18 q23
      have h5 : Kept l s0 s18 := by
        refine Kept.snd q23 ?_
        refine Kept.iteSnd ?_ ?_
        · exact (Kept.beside (State.stick_kept h (JKT.RETRYCNT.count_zoned (Part.at hp)) (JKT.CNTOVF.retry_zoned (Part.at hp)) (ZonedOpt.some (JKT.IRQRAW.cnt_event_zoned (Part.at hp)))))
        · split
          · rename_i b10 s111 q12
            have h9 : Kept l s0 s111 := Kept.snd q12 (State.downItem_kept h (Part.sub hp))
            exact (Kept.beside (State.modJkt_kept h9 (Part.sub hp)))
      extract_lets +onlyGivenNames -merge -useContext -underBinder s13
      clear_value s13
      extract_lets +onlyGivenNames -merge -useContext -underBinder s15
      clear_value s15
      extract_lets +onlyGivenNames -merge -useContext -underBinder s17
      clear_value s17
      extract_lets +onlyGivenNames -merge -useContext -underBinder s19 s20
      have h22 : Kept l s0 s20 := by unfold s20; exact (State.wr_kept (State.modJkt_kept (h5.pair (Part.at hp)) (Part.sub hp)) (JKT.STAT.hold_zoned (Part.at hp)))
      clear_value s20
      clear_value s19
      exact (KeptR.next (Kept.ite (State.wr_kept h22 (JKT.CFGCRC.crc_zoned (Part.at hp))) h22))

theorem execJacketUpstreamFrame_kept {l s0} {x0} {s} (h : Kept l s0 s) (hp : Part.within [.freeCount, .jkt, .page 0x1A, .head 0x14, .head 0x24, .head 0x20, .loops, .page 0x38, .page 0x19, .page 0x18] l) :
    KeptR l s0 (execJacketUpstreamFrame x0 s) := by
  unfold execJacketUpstreamFrame
  refine KeptR.ite ?_ ?_
  · exact (KeptR.next h)
  · split
    · rename_i sent2 s13 q19
      have h1 : Kept l s0 s13 := Kept.snd q19 (State.upFrame_kept h (Part.sub hp))
      extract_lets +onlyGivenNames -merge -useContext -underBinder s4
      clear_value s4
      refine KeptR.ite ?_ ?_
      · exact (KeptR.next (State.logicError_kept h1 (Part.sub hp)))
      · extract_lets +onlyGivenNames -merge -useContext -underBinder s6
        clear_value s6
        extract_lets +onlyGivenNames -merge -useContext -underBinder s8
        clear_value s8
        split
        · extract_lets +onlyGivenNames -merge -useContext -underBinder s10
          clear_value s10
          extract_lets +onlyGivenNames -merge -useContext -underBinder s12
          have h13 : Kept l s0 s12 := by unfold s12; exact (State.wr_kept (State.modJkt_kept (State.wr_kept h1 (JKT.STAT.consec_zoned (Part.at hp))) (Part.sub hp)) (JKT.STAT.link_zoned (Part.at hp)))
          clear_value s12
          extract_lets +onlyGivenNames -merge -useContext -underBinder s14
          have h15 : Kept l s0 s14 := by unfold s14; exact (State.takeLink_kept (Kept.ite (State.irq_kept h13 (JKT.IRQRAW.up_zoned (Part.at hp))) h13) (Part.sub hp))
          clear_value s14
          extract_lets +onlyGivenNames -merge -useContext -underBinder s16
          have h17 : Kept l s0 s16 := by unfold s16; exact (Kept.ite (State.takeUp_kept h15 (Part.sub hp)) (State.keepEvent_kept h15 (Part.sub hp)))
          clear_value s16
          exact (KeptR.next (Kept.when (State.refreshValid_kept h17 (Part.sub hp)) (fun _ h18 => (State.showScore_kept h18 (Part.sub hp)))))

theorem execJacketFrameAtField_kept {l s0} {x0} {s} (h : Kept l s0 s) (hp : Part.within [.jkt, .page 0x1A, .head 0x14, .page 0x19, .loops, .page 0x18] l) :
    KeptR l s0 (execJacketFrameAtField x0 s) := by
  unfold execJacketFrameAtField
  refine KeptR.ite ?_ ?_
  · exact (KeptR.next h)
  · extract_lets +onlyGivenNames -merge -useContext -underBinder s1
    clear_value s1
    refine KeptR.ite ?_ ?_
    · exact (KeptR.next (State.fieldError_kept h (Part.sub hp)))
    · extract_lets +onlyGivenNames -merge -useContext -underBinder s3
      clear_value s3
      extract_lets +onlyGivenNames -merge -useContext -underBinder s5
      clear_value s5
      extract_lets +onlyGivenNames -merge -useContext -underBinder s7
      clear_value s7
      split
      · extract_lets +onlyGivenNames -merge -useContext -underBinder s9
        clear_value s9
        extract_lets +onlyGivenNames -merge -useContext -underBinder s11
        have h12 : Kept l s0 s11 := by unfold s11; exact (State.modJkt_kept h (Part.sub hp))
        clear_value s11
        exact (KeptR.next (State.driveLoops_kept (State.applyOutputs_kept h12 (Part.sub hp)) (Part.sub hp)))

theorem execJacketFrameMissing_kept {l s0} {x0} {s} (h : Kept l s0 s) (hp : Part.within [.jkt, .page 0x1A, .head 0x14, .page 0x19, .loops, .page 0x18, .head 0x24, .head 0x20, .page 0x38] l) :
    KeptR l s0 (execJacketFrameMissing x0 s) := by
  unfold execJacketFrameMissing
  exact (KeptR.ite (KeptR.ite (KeptR.next (State.fieldError_kept h (Part.sub hp))) (KeptR.next h)) (KeptR.ite (KeptR.next (State.logicError_kept h (Part.sub hp))) (KeptR.next h)))

theorem execOutputFlagClear_kept {l s0} {x0} {x1} {s} (h : Kept l s0 s) (hp : Part.within [.page 0x19, .head 0x14, .head 0x24, .head 0x20, .jkt] l) :
    KeptR l s0 (execOutputFlagClear x0 x1 s) := by
  unfold execOutputFlagClear
  extract_lets +onlyGivenNames -merge -useContext -underBinder s1
  clear_value s1
  refine KeptR.ite ?_ ?_
  · exact (KeptR.next h)
  · split
    · exact (KeptR.next (State.tell_kept (State.modPin_kept h (Part.sub hp)) (Part.sub hp)))
    · exact (KeptR.next (State.putNth_kept (State.modPin_kept h (Part.sub hp)) (ZonedFn.pageOf (n := 25) (Part.at hp) (fun _ => by simp only [DIO.EXTDRV.flag]; omega))))
    · exact (KeptR.next (State.putNth_kept h (ZonedFn.pageOf (n := 25) (Part.at hp) (fun _ => by simp only [DIO.DISAGREE.flag]; omega))))
    · exact (KeptR.ite (KeptR.next (State.tell_kept (State.modPin_kept h (Part.sub hp)) (Part.sub hp))) (KeptR.next h))
    · exact (KeptR.next h)

end Sys2Proof.Machine
end

