-- ==== Sys2Proof/Laws/Alm.lean ====
section
/-!
SUPPORT. What each operation of Machine/Alm.lean can change: one lemma per operation, named after it. An operation started in a
state that has kept all parts of an earlier one but some keeps all but those and the parts that its lemma lists, and the
canonical form of the sparse maps with them.
-/

set_option Elab.async false

namespace Sys2Proof.Machine

theorem State.modAlm_kept {l s0} {s} {x1} (h : Kept l s0 s) (hp : Part.within [.alarm] l) :
    Kept l s0 (State.modAlm s x1) := by
  unfold State.modAlm
  exact (h.alarm (Part.at hp))

theorem State.noteChange_kept {l s0} {s} {x1} (h : Kept l s0 s) (hp : Part.within [.alarm] l) :
    Kept l s0 (State.noteChange s x1) := by
  unfold State.noteChange
  exact (State.modAlm_kept h (Part.sub hp))

theorem State.settle_kept {l s0} {s} {x1} {x2} (h : Kept l s0 s) (hp : Part.within [.pages 0x120 0x130, .head 0x14, .alarm] l) :
    Kept l s0 (State.settle s x1 x2) := by
  unfold State.settle
  extract_lets +onlyGivenNames -merge -useContext -underBinder s1
  clear_value s1
  extract_lets +onlyGivenNames -merge -useContext -underBinder s3
  clear_value s3
  refine Kept.ite ?_ ?_
  · exact h
  · extract_lets +onlyGivenNames -merge -useContext -underBinder s5
    clear_value s5
    extract_lets +onlyGivenNames -merge -useContext -underBinder s7
    have h8 : Kept l s0 s7 := by unfold s7; exact (State.irq_kept (State.wr_kept h (ALM.CTXA.state_zoned (Part.at hp))) (ALM.IRQRAW.state_change_zoned (Part.at hp)))
    clear_value s7
    extract_lets +onlyGivenNames -merge -useContext -underBinder s9
    have h10 : Kept l s0 s9 := by unfold s9; exact (Kept.ite (State.irq_kept (State.put_kept h8 (ALM.CTXA.sf_unack_zoned (Part.at hp))) (ALM.IRQRAW.sensor_fault_zoned (Part.at hp))) (State.wr_kept h8 (ALM.CTXA.sf_unack_zoned (Part.at hp))))
    clear_value s9
    extract_lets +onlyGivenNames -merge -useContext -underBinder s11
    have h12 : Kept l s0 s11 := by unfold s11; exact (Kept.ite (State.modAlm_kept (State.irq_kept h10 (ALM.IRQRAW.unack_zoned (Part.at hp))) (Part.sub hp)) h10)
    clear_value s11
    exact (State.noteChange_kept h12 (Part.sub hp))

theorem State.ackCtx_kept {l s0} {s} {x1} {x2} (h : Kept l s0 s) (hp : Part.within [.pages 0x120 0x130, .head 0x14, .alarm] l) :
    Kept l s0 (State.ackCtx s x1 x2) := by
  unfold State.ackCtx
  extract_lets +onlyGivenNames -merge -useContext -underBinder s1
  clear_value s1
  extract_lets +onlyGivenNames -merge -useContext -underBinder s3
  clear_value s3
  extract_lets +onlyGivenNames -merge -useContext -underBinder s5
  clear_value s5
  extract_lets +onlyGivenNames -merge -useContext -underBinder s7
  have h8 : Kept l s0 s7 := by unfold s7; exact (Kept.ite (State.wr_kept h (ALM.CTXA.process_zoned (Part.at hp))) h)
  clear_value s7
  extract_lets +onlyGivenNames -merge -useContext -underBinder s9
  have h10 : Kept l s0 s9 := by unfold s9; exact (State.wr_kept h8 (ALM.CTXA.sf_unack_zoned (Part.at hp)))
  clear_value s9
  extract_lets +onlyGivenNames -merge -useContext -underBinder s11
  have h12 : Kept l s0 s11 := by unfold s11; exact (State.settle_kept h10 (Part.sub hp))
  clear_value s11
  exact (Kept.ite (State.noteChange_kept h12 (Part.sub hp)) h12)

theorem State.settleCaution_kept {l s0} {s} {x1} {x2} (h : Kept l s0 s) (hp : Part.within [.alarm, .pages 0x120 0x130] l) :
    Kept l s0 (State.settleCaution s x1 x2) := by
  unfold State.settleCaution
  extract_lets +onlyGivenNames -merge -useContext -underBinder s1
  clear_value s1
  extract_lets +onlyGivenNames -merge -useContext -underBinder s3
  clear_value s3
  exact (Kept.ite h (State.noteChange_kept (State.put_kept h (ALM.CTXA.caution_zoned (Part.at hp))) (Part.sub hp)))

theorem State.enterProcess_kept {l s0} {s} {x1} {x2} (h : Kept l s0 s) (hp : Part.within [.pages 0x120 0x130] l) :
    Kept l s0 (State.enterProcess s x1 x2) := by
  unfold State.enterProcess
  extract_lets +onlyGivenNames -merge -useContext -underBinder s1
  clear_value s1
  refine Kept.ite ?_ ?_
  · exact h
  · extract_lets +onlyGivenNames -merge -useContext -underBinder s3
    have h4 : Kept l s0 s3 := by unfold s3; exact (State.wr_kept h (ALM.CTXA.process_zoned (Part.at hp)))
    clear_value s3
    exact (Kept.ite (State.wrap_kept h4 (ALM.CTXA.occurrence_zoned (Part.at hp))) h4)

theorem State.processHidden_kept {l s0} {s} {x1} (h : Kept l s0 s) (hp : Part.within [.pages 0x120 0x130] l) :
    Kept l s0 (State.processHidden s x1) := by
  unfold State.processHidden
  exact (State.wr_kept (State.enterProcess_kept h (Part.sub hp)) (ALM.CTXA.latched_zoned (Part.at hp)))

theorem State.processShown_kept {l s0} {s} {x1} (h : Kept l s0 s) (hp : Part.within [.pages 0x120 0x130] l) :
    Kept l s0 (State.processShown s x1) := by
  unfold State.processShown
  exact (Kept.ite h (Kept.ite (State.wr_kept (State.wrap_kept (State.wr_kept h (ALM.CTXA.process_zoned (Part.at hp))) (ALM.CTXA.occurrence_zoned (Part.at hp))) (ALM.CTXA.latched_zoned (Part.at hp))) (State.wr_kept (State.wr_kept h (ALM.CTXA.process_zoned (Part.at hp))) (ALM.CTXA.latched_zoned (Part.at hp)))))

theorem State.processQ_kept {l s0} {s} {x1} (h : Kept l s0 s) (hp : Part.within [.pages 0x120 0x130] l) :
    Kept l s0 (State.processQ s x1) := by
  unfold State.processQ
  extract_lets +onlyGivenNames -merge -useContext -underBinder s1
  clear_value s1
  exact (Kept.ite (Kept.ite (State.wr_kept h (ALM.CTXA.latched_zoned (Part.at hp))) (State.enterProcess_kept h (Part.sub hp))) (Kept.ite (Kept.ite (State.wr_kept h (ALM.CTXA.latched_zoned (Part.at hp))) (State.enterProcess_kept h (Part.sub hp))) h))

theorem State.followLayers_kept {l s0} {s} {x1} {x2} {x3} (h : Kept l s0 s) (hp : Part.within [.pages 0x120 0x130] l) :
    Kept l s0 (State.followLayers s x1 x2 x3) := by
  unfold State.followLayers
  exact (Kept.ite h (Kept.ite (State.processHidden_kept h (Part.sub hp)) (Kept.ite (State.processShown_kept h (Part.sub hp)) (Kept.ite h (Kept.ite (State.processQ_kept h (Part.sub hp)) h)))))

theorem State.setLayer_kept {l s0} {s} {x1} {x2} {x3} (h : Kept l s0 s) (hp : Part.within [.pages 0x120 0x130] l) :
    Kept l s0 (State.setLayer s x1 x2 x3) := by
  unfold State.setLayer
  exact (State.wr_kept h (ALM.CTXA.layers_zoned (Part.at hp)))

theorem State.clearFirstOut_kept {l s0} {s} {x1} (h : Kept l s0 s) (hp : Part.within [.page 0x130, .head 0x14] l) :
    Kept l s0 (State.clearFirstOut s x1) := by
  unfold State.clearFirstOut
  exact (State.irq_kept (State.wr_kept h (ALM.GRP.fo_valid_zoned (Part.at hp))) (ALM.IRQRAW.first_out_zoned (Part.at hp)))

theorem State.showQueue_kept {l s0} {s} (h : Kept l s0 s) (hp : Part.within [.page 0x20] l) :
    Kept l s0 (State.showQueue s) := by
  unfold State.showQueue
  exact (State.put_kept (State.wr_kept h (ALM.NQSTAT.occupancy_zoned (Part.at hp))) (ALM.NQSTAT.rescan_zoned (Part.at hp)))

theorem State.rescanStart_kept {l s0} {s} (h : Kept l s0 s) (hp : Part.within [.page 0x20, .alarm] l) :
    Kept l s0 (State.rescanStart s) := by
  unfold State.rescanStart
  exact (State.showQueue_kept (State.modAlm_kept h (Part.sub hp)) (Part.sub hp))

theorem State.almAct_kept {l s0} {s} {x1} (h : Kept l s0 s) (hp : Part.within [.pages 0x120 0x130, .head 0x14, .alarm, .page 0x130, .page 0x20] l) :
    Kept l s0 (State.almAct s x1).2 := by
  unfold State.almAct
  extract_lets +onlyGivenNames -merge -useContext -underBinder s1
  clear_value s1
  extract_lets +onlyGivenNames -merge -useContext -underBinder s3
  clear_value s3
  extract_lets +onlyGivenNames -merge -useContext -underBinder s5
  have h6 : ∀ {y0}, Kept l s0 (s5 y0).2 := by
    intro y0
    unfold s5
    exact (Kept.beside h)
  clear_value s5
  extract_lets +onlyGivenNames -merge -useContext -underBinder s7
  have h8 : Kept l s0 s7.2 := by unfold s7; exact (Kept.beside h)
  clear_value s7
  extract_lets +onlyGivenNames -merge -useContext -underBinder s9
  clear_value s9
  extract_lets +onlyGivenNames -merge -useContext -underBinder s11
  clear_value s11
  extract_lets +onlyGivenNames -merge -useContext -underBinder s13
  clear_value s13
  extract_lets +onlyGivenNames -merge -useContext -underBinder s15
  have h16 : ∀ {y0}, Kept l s0 (s15 y0).2 := by
    intro y0
    unfold s15
    extract_lets +onlyGivenNames -merge -useContext -underBinder s17
    clear_value s17
    exact (Kept.iteSnd h8 (Kept.beside (Kept.each h (fun _ _ h19 => (State.ackCtx_kept h19 (Part.sub hp))))))
  clear_value s15
  extract_lets +onlyGivenNames -merge -useContext -underBinder s20
  have h21 : ∀ {t} {y1} {y2}, Kept l s0 t → Kept l s0 (s20 t y1 y2).2 := by
    intro t y1 y2 h22
    unfold s20
    exact (Kept.beside (State.settleCaution_kept (State.settle_kept (State.followLayers_kept h22 (Part.sub hp)) (Part.sub hp)) (Part.sub hp)))
  clear_value s20
  extract_lets +onlyGivenNames -merge -useContext -underBinder s23
  clear_value s23
  refine Kept.iteSnd ?_ ?_
  · refine Kept.iteSnd ?_ ?_
    · exact h6
    · split
      · exact (Kept.iteSnd h6 h16)
      · refine Kept.iteSnd ?_ ?_
        · exact h6
        · refine Kept.iteSnd ?_ ?_
          · exact h6
          · extract_lets +onlyGivenNames -merge -useContext -underBinder s25
            clear_value s25
            refine Kept.iteSnd ?_ ?_
            · exact h6
            · extract_lets +onlyGivenNames -merge -useContext -underBinder s27
              have h28 : Kept l s0 s27 := by unfold s27; exact (State.modAlm_kept (State.wr_kept (State.setLayer_kept h (Part.sub hp)) (ALM.CTXA.shelve_left_zoned (Part.at hp))) (Part.sub hp))
              clear_value s27
              exact (h21 h28)
      · exact (Kept.iteSnd (h21 (State.wr_kept (State.setLayer_kept h (Part.sub hp)) (ALM.CTXA.shelve_left_zoned (Part.at hp)))) h8)
      · exact (Kept.iteSnd h8 (h21 (State.setLayer_kept h (Part.sub hp))))
      · refine Kept.iteSnd ?_ ?_
        · exact h8
        · extract_lets +onlyGivenNames -merge -useContext -underBinder s29
          clear_value s29
          extract_lets +onlyGivenNames -merge -useContext -underBinder s31
          have h32 : Kept l s0 s31 := by unfold s31; exact (State.wr_kept (State.wr_kept (State.wr_kept (State.wr_kept (State.wr_kept (State.wr_kept (State.wr_kept (State.wr_kept (State.wr_kept h (ALM.CTXA.process_zoned (Part.at hp))) (ALM.CTXA.cond_zoned (Part.at hp))) (ALM.CTXA.q_zoned (Part.at hp))) (ALM.CTXA.latched_zoned (Part.at hp))) (ALM.CTXA.layers_zoned (Part.at hp))) (ALM.CTXA.inv_cnt_zoned (Part.at hp))) (ALM.CTXA.miss_cnt_zoned (Part.at hp))) (ALM.CTXA.t_timer_zoned (Part.at hp))) (ALM.CTXA.shelve_left_zoned (Part.at hp)))
          clear_value s31
          extract_lets +onlyGivenNames -merge -useContext -underBinder s33
          have h34 : Kept l s0 s33 := by unfold s33; exact (State.modAlm_kept (State.setLayer_kept h32 (Part.sub hp)) (Part.sub hp))
          clear_value s33
          exact (Kept.beside (State.settleCaution_kept (State.settle_kept h34 (Part.sub hp)) (Part.sub hp)))
      · exact (Kept.iteSnd h8 (Kept.iteSnd h6 (Kept.iteSnd h8 (Kept.beside (State.settleCaution_kept (State.settle_kept (State.wr_kept (State.wr_kept h (ALM.CTXA.process_zoned (Part.at hp))) (ALM.CTXA.latched_zoned (Part.at hp))) (Part.sub hp)) (Part.sub hp))))))
      · exact (Kept.iteSnd h8 (Kept.beside (State.wr_kept (State.wr_kept h (ALM.CTXA.false_starts_zoned (Part.at hp))) (ALM.CTXA.fs_ovf_zoned (Part.at hp)))))
  · split
    · exact (Kept.iteSnd h16 h6)
    · exact h16
    · exact (Kept.iteSnd h6 (Kept.iteSnd h8 (Kept.beside (State.wr_kept h (ALM.GRP.silenced_zoned (Part.at hp))))))
    · exact (Kept.iteSnd h6 (Kept.iteSnd (Kept.beside (State.clearFirstOut_kept h (Part.sub hp))) h8))
    · exact (Kept.beside (State.rescanStart_kept h (Part.sub hp)))
    · exact h6

theorem State.takeFirstOuts_kept {l s0} {s} {x1} (h : Kept l s0 s) (hp : Part.within [.page 0x130, .head 0x14] l) :
    Kept l s0 (State.takeFirstOuts s x1).2 := by
  unfold State.takeFirstOuts
  extract_lets +onlyGivenNames -merge -useContext -underBinder s1
  clear_value s1
  refine Kept.foldlSnd (fun _ _ h3 => ?_) _ _ ?_
  · split
    · rename_i gs5 st6
      have h4 : Kept l s0 st6 := h3
      extract_lets +onlyGivenNames -merge -useContext -underBinder s7
      clear_value s7
      extract_lets +onlyGivenNames -merge -useContext -underBinder s9
      clear_value s9
      split
      · exact (Kept.beside h4)
      · extract_lets +onlyGivenNames -merge -useContext -underBinder s11
        clear_value s11
        exact (Kept.iteSnd (Kept.beside (State.irq_kept (State.wr_kept (State.wr_kept (State.wr_kept h4 (ALM.GRP.fo_valid_zoned (Part.at hp))) (ALM.GRP.fo_ctx_zoned (Part.at hp))) (ALM.GRP.fo_onset_zoned (Part.at hp))) (ALM.IRQRAW.first_out_zoned (Part.at hp)))) (Kept.beside h4))
  · exact (Kept.beside h)

theorem State.groupsDrive_kept {l s0} {s} (h : Kept l s0 s) (hp : Part.within [.alarm] l) :
    Kept l s0 (State.groupsDrive s) := by
  unfold State.groupsDrive
  extract_lets +onlyGivenNames -merge -useContext -underBinder s1
  clear_value s1
  extract_lets +onlyGivenNames -merge -useContext -underBinder s3
  clear_value s3
  exact (State.modAlm_kept h (Part.sub hp))

theorem State.groupShow_kept {l s0} {s} {x1} {x2} {x3} (h : Kept l s0 s) (hp : Part.within [.page 0x130] l) :
    Kept l s0 (State.groupShow s x1 x2 x3) := by
  unfold State.groupShow
  extract_lets +onlyGivenNames -merge -useContext -underBinder s1
  clear_value s1
  extract_lets +onlyGivenNames -merge -useContext -underBinder s3
  clear_value s3
  extract_lets +onlyGivenNames -merge -useContext -underBinder s5
  clear_value s5
  extract_lets +onlyGivenNames -merge -useContext -underBinder s7
  clear_value s7
  extract_lets +onlyGivenNames -merge -useContext -underBinder s9
  clear_value s9
  extract_lets +onlyGivenNames -merge -useContext -underBinder s11
  clear_value s11
  extract_lets +onlyGivenNames -merge -useContext -underBinder s13
  clear_value s13
  exact (State.wr_kept (State.put_kept (State.put_kept (State.wr_kept (State.wr_kept (State.wr_kept (State.wr_kept (State.wr_kept (State.wr_kept h (ALM.GRP.au_zoned (Part.at hp))) (ALM.GRP.aa_zoned (Part.at hp))) (ALM.GRP.nu_zoned (Part.at hp))) (ALM.GRP.sf_zoned (Part.at hp))) (ALM.GRP.sh_zoned (Part.at hp))) (ALM.GRP.su_zoned (Part.at hp))) (ALM.GRP.silenced_zoned (Part.at hp))) (ALM.GRP.horn_on_zoned (Part.at hp))) (ALM.GRP.lamp_st_zoned (Part.at hp)))

theorem State.groupsShow_kept {l s0} {s} (h : Kept l s0 s) (hp : Part.within [.alarm, .page 0x130] l) :
    Kept l s0 (State.groupsShow s) := by
  unfold State.groupsShow
  exact (State.modAlm_kept (Kept.each h (fun _ _ h1 => (State.groupShow_kept h1 (Part.sub hp)))) (Part.sub hp))

theorem State.showCtx_kept {l s0} {s} {x1} (h : Kept l s0 s) (hp : Part.within [.page 0x20] l) :
    Kept l s0 (State.showCtx s x1) := by
  unfold State.showCtx
  exact (State.putNth_kept (State.putNth_kept h (ZonedFn.pageOf (n := 32) (Part.at hp) (fun _ => by simp only [ALM.QMAP.q]; omega))) (ZonedFn.pageOf (n := 32) (Part.at hp) (fun _ => by simp only [ALM.UNACK.unack]; omega)))

theorem State.nqStore_kept {l s0} {s} {x1} (h : Kept l s0 s) (hp : Part.within [.page 0x20, .alarm, .head 0x14, .head 0x24, .page 0x42, .head 0x20, .page 0x41, .page 0x40, .sram, .sramBad, .sramWeak] l) :
    Kept l s0 (State.nqStore s x1) := by
  unfold State.nqStore
  extract_lets +onlyGivenNames -merge -useContext -underBinder s1
  clear_value s1
  extract_lets +onlyGivenNames -merge -useContext -underBinder s3
  have h4 : Kept l s0 s3 := by unfold s3; exact (State.wr_kept h (ALM.NQSEQ.seq_zoned (Part.at hp)))
  clear_value s3
  extract_lets +onlyGivenNames -merge -useContext -underBinder s5
  have h6 : ∀ {t}, Kept l s0 t → Kept l s0 (s5 t) := by
    intro t h7
    unfold s5
    exact (State.modAlm_kept (State.irq_kept (State.stick_kept h7 (ALM.NQDROP.count_zoned (Part.at hp)) (ALM.CNTOVF.nqdrop_zoned (Part.at hp)) (ZonedOpt.some (ALM.IRQRAW.cnt_ovf_zoned (Part.at hp)))) (ALM.IRQRAW.nq_drop_zoned (Part.at hp))) (Part.sub hp))
  clear_value s5
  refine Kept.ite ?_ ?_
  · exact (h6 h4)
  · split
    · rename_i s29 q10
      have h8 : Kept l s0 s29 := Kept.snd q10 (State.boundWrite_kept h4 (Part.sub hp))
      exact (State.showQueue_kept (State.wrap_kept h8 (ALM.NQPROD.index_zoned (Part.at hp))) (Part.sub hp))
    · rename_i s212 q13
      have h11 : Kept l s0 s212 := Kept.snd q13 (State.boundWrite_kept h4 (Part.sub hp))
      exact (State.fault_kept (h6 h11) (ALM.FAULT.nqwrite_zoned (Part.at hp)) (Part.sub hp))

theorem State.nqWrite_kept {l s0} {s} {x1} (h : Kept l s0 s) (hp : Part.within [.dma, .page 0x20, .alarm, .head 0x14, .head 0x24, .page 0x42, .head 0x20, .page 0x41, .page 0x40, .sram, .sramBad, .sramWeak] l) :
    Kept l s0 (State.nqWrite s x1) := by
  unfold State.nqWrite
  exact (Kept.ite (h.dma (Part.at hp)) (State.nqStore_kept h (Part.sub hp)))

theorem State.writeChanges_kept {l s0} {s} {x1} {x2} (h : Kept l s0 s) (hp : Part.within [.dma, .page 0x20, .alarm, .head 0x14, .head 0x24, .page 0x42, .head 0x20, .page 0x41, .page 0x40, .sram, .sramBad, .sramWeak] l) :
    Kept l s0 (State.writeChanges s x1 x2) := by
  unfold State.writeChanges
  exact (Kept.each h (fun _ _ h1 => (State.nqWrite_kept h1 (Part.sub hp))))

theorem State.recChanges_kept {l s0} {s} {x1} {x2} (h : Kept l s0 s) (hp : Part.within [.recorder, .page 0x49, .head 0x14, .head 0x24, .page 0x42, .head 0x20, .page 0x41, .page 0x40, .sram, .sramBad, .sramWeak, .msg, .page 0x178] l) :
    Kept l s0 (State.recChanges s x1 x2) := by
  unfold State.recChanges
  exact (Kept.each h (fun _ _ h1 => (State.recEvent_kept h1 (Part.sub hp))))

theorem State.tellRec_kept {l s0} {s} {x1} {x2} (h : Kept l s0 s) (hp : Part.within [.recorder, .page 0x49, .head 0x14, .head 0x24, .page 0x42, .head 0x20, .page 0x41, .page 0x40, .sram, .sramBad, .sramWeak, .msg, .page 0x178] l) :
    Kept l s0 (State.tellRec s x1 x2) := by
  unfold State.tellRec
  exact (State.recChanges_kept h (Part.sub hp))

theorem State.rescanRun_kept {l s0} {s} {x1 x2} (h : Kept l s0 s) (hp : Part.within [.dma, .page 0x20, .alarm, .head 0x14, .head 0x24, .page 0x42, .head 0x20, .page 0x41, .page 0x40, .sram, .sramBad, .sramWeak] l) : Kept l s0 (State.rescanRun s x1 x2) := by
  induction x2 generalizing s with
  | zero => exact h
  | succ n ih =>
    unfold State.rescanRun
    split
    · exact State.showQueue_kept h (Part.sub hp)
    · refine Kept.ite (State.showQueue_kept h (Part.sub hp)) (ih ?_)
      have a : ∀ x g, Kept l s0 x → Kept l s0 (State.modAlm x g) := fun _ _ k => State.modAlm_kept k (Part.sub hp)
      have w : ∀ b, Kept l s0 (State.nqWrite s b) := fun _ => State.nqWrite_kept h (Part.sub hp)
      exact Kept.ite (Kept.ite (a _ _ (w _)) (a _ _ h)) (Kept.ite (Kept.ite (a _ _ (w _)) (a _ _ h)) (a _ _ (w _)))

theorem State.rescanGo_kept {l s0} {s} {x1} (h : Kept l s0 s) (hp : Part.within [.page 0x20, .dma, .alarm, .head 0x14, .head 0x24, .page 0x42, .head 0x20, .page 0x41, .page 0x40, .sram, .sramBad, .sramWeak] l) :
    Kept l s0 (State.rescanGo s x1) := by
  unfold State.rescanGo
  exact (Kept.ite (State.showQueue_kept h (Part.sub hp)) (State.rescanRun_kept h (Part.sub hp)))

theorem State.almApply_kept {l s0} {s} {x1} (h : Kept l s0 s) (hp : Part.within [.pages 0x120 0x130, .head 0x14, .alarm, .page 0x130, .page 0x20, .dma, .head 0x24, .page 0x42, .head 0x20, .page 0x41, .page 0x40, .sram, .sramBad, .sramWeak, .recorder, .page 0x49, .msg, .page 0x178] l) :
    Kept l s0 (State.almApply s x1).2 := by
  unfold State.almApply
  split
  · rename_i a2 s13 q27
    have h1 : Kept l s0 s13 := Kept.snd q27 (State.almAct_kept h (Part.sub hp))
    refine Kept.iteSnd ?_ ?_
    · exact (Kept.beside h1)
    · extract_lets +onlyGivenNames -merge -useContext -underBinder s4
      clear_value s4
      extract_lets +onlyGivenNames -merge -useContext -underBinder s6
      have h7 : Kept l s0 s6 := by unfold s6; exact (Kept.each h1 (fun _ _ h8 => (State.settleCaution_kept h8 (Part.sub hp))))
      clear_value s6
      extract_lets +onlyGivenNames -merge -useContext -underBinder s9
      clear_value s9
      split
      · rename_i fo12 s313 q26
        have h11 : Kept l s0 s313 := Kept.snd q26 (State.takeFirstOuts_kept h7 (Part.sub hp))
        extract_lets +onlyGivenNames -merge -useContext -underBinder s14
        have h15 : Kept l s0 s14 := by unfold s14; exact (State.groupsDrive_kept (State.groupsShow_kept (Kept.each h11 (fun _ _ h16 => (State.showCtx_kept h16 (Part.sub hp)))) (Part.sub hp)) (Part.sub hp))
        clear_value s14
        extract_lets +onlyGivenNames -merge -useContext -underBinder s17
        have h18 : Kept l s0 s17 := by unfold s17; exact (State.writeChanges_kept (State.tellRec_kept h15 (Part.sub hp)) (Part.sub hp))
        clear_value s17
        extract_lets +onlyGivenNames -merge -useContext -underBinder s19
        clear_value s19
        extract_lets +onlyGivenNames -merge -useContext -underBinder s21
        have h22 : Kept l s0 s21 := by unfold s21; exact (Kept.ite h18 (Kept.each h18 (fun _ _ h23 => (State.nqWrite_kept h23 (Part.sub hp)))))
        clear_value s21
        extract_lets +onlyGivenNames -merge -useContext -underBinder s24
        have h25 : Kept l s0 s24 := by unfold s24; exact (State.modAlm_kept h22 (Part.sub hp))
        clear_value s24
        exact (Kept.beside (Kept.ite (State.rescanGo_kept h25 (Part.sub hp)) h25))

theorem State.almStat_kept {l s0} {s} {x1} {x2} (h : Kept l s0 s) (hp : Part.within [.page 0x20] l) :
    Kept l s0 (State.almStat s x1 x2) := by
  unfold State.almStat
  exact (State.cmdStat_kept h (ALM.CMDSTAT.state_zoned (Part.at hp)) (ALM.CMDSTAT.reason_zoned (Part.at hp)))

theorem State.almComplete_kept {l s0} {s} {x1} {x2} (h : Kept l s0 s) (hp : Part.within [.head 0x14, .page 0x20, .pair, .msg] l) :
    Kept l s0 (State.almComplete s x1 x2) := by
  unfold State.almComplete
  extract_lets +onlyGivenNames -merge -useContext -underBinder s1
  have h2 : Kept l s0 s1 := by unfold s1; exact (State.irq_kept h (ALM.IRQRAW.cmd_done_zoned (Part.at hp)))
  clear_value s1
  extract_lets +onlyGivenNames -merge -useContext -underBinder s3
  have h4 : Kept l s0 s3 := by unfold s3; exact (State.almStat_kept h2 (Part.sub hp))
  clear_value s3
  exact (Kept.ite (State.uhlizSend_kept h4 (Part.sub hp)) (State.replyTo_kept h4 (Part.sub hp)))

theorem State.almEnqueue_kept {l s0} {s} {x1} (h : Kept l s0 s) (hp : Part.within [.page 0x20, .pair, .msg, .alarm, .pages 0x120 0x130, .head 0x14, .page 0x130, .dma, .head 0x24, .page 0x42, .head 0x20, .page 0x41, .page 0x40, .sram, .sramBad, .sramWeak, .recorder, .page 0x49, .page 0x178] l) :
    Kept l s0 (State.almEnqueue s x1) := by
  unfold State.almEnqueue
  refine Kept.ite ?_ ?_
  · exact h
  · refine Kept.ite ?_ ?_
    · refine Kept.ite ?_ ?_
      · extract_lets +onlyGivenNames -merge -useContext -underBinder s1
        have h2 : Kept l s0 s1 := by unfold s1; exact (State.almStat_kept h (Part.sub hp))
        clear_value s1
        exact (Kept.ite (State.uhlizSend_kept h2 (Part.sub hp)) (State.replyTo_kept h2 (Part.sub hp)))
      · exact (State.modAlm_kept (State.almStat_kept h (Part.sub hp)) (Part.sub hp))
    · split
      · rename_i a4 s15 q6
        have h3 : Kept l s0 s15 := Kept.snd q6 (State.almApply_kept h (Part.sub hp))
        exact (State.almComplete_kept h3 (Part.sub hp))

theorem State.almCommand_kept {l s0} {s} {x1} {x2} {x3} {x4} (h : Kept l s0 s) (hp : Part.within [.page 0x20, .pair, .msg, .alarm, .pages 0x120 0x130, .head 0x14, .page 0x130, .dma, .head 0x24, .page 0x42, .head 0x20, .page 0x41, .page 0x40, .sram, .sramBad, .sramWeak, .recorder, .page 0x49, .page 0x178] l) :
    Kept l s0 (State.almCommand s x1 x2 x3 x4) := by
  unfold State.almCommand
  extract_lets +onlyGivenNames -merge -useContext -underBinder s1
  clear_value s1
  exact (Kept.ite (State.almStat_kept (State.forward_kept h (Part.sub hp)) (Part.sub hp)) (State.almEnqueue_kept h (Part.sub hp)))

theorem State.tellReplaced_kept {l s0} {s} {s1 : State} {x2} {x3} {x4} {x5} {x6} (h : Kept l s0 s) (hp : Part.within [.head 0x14, .alarm, .recorder, .page 0x49, .head 0x24, .page 0x42, .head 0x20, .page 0x41, .page 0x40, .sram, .sramBad, .sramWeak, .msg, .page 0x178, .dma, .page 0x20] l) :
    Kept l s0 (State.tellReplaced s s1 x2 x3 x4 x5 x6) := by
  unfold State.tellReplaced
  extract_lets +onlyGivenNames -merge -useContext -underBinder s1
  clear_value s1
  extract_lets +onlyGivenNames -merge -useContext -underBinder s3
  clear_value s3
  extract_lets +onlyGivenNames -merge -useContext -underBinder s5
  clear_value s5
  extract_lets +onlyGivenNames -merge -useContext -underBinder s7
  have h8 : Kept l s0 s7 := by unfold s7; exact (Kept.when h (fun _ h9 => (Kept.when (State.irq_kept h9 (ALM.IRQRAW.state_change_zoned (Part.at hp))) (fun _ h10 => (State.irq_kept h10 (ALM.IRQRAW.sensor_fault_zoned (Part.at hp)))))))
  clear_value s7
  extract_lets +onlyGivenNames -merge -useContext -underBinder s11
  have h12 : Kept l s0 s11 := by unfold s11; exact (Kept.when h8 (fun _ h13 => (State.modAlm_kept (State.irq_kept h13 (ALM.IRQRAW.unack_zoned (Part.at hp))) (Part.sub hp))))
  clear_value s11
  extract_lets +onlyGivenNames -merge -useContext -underBinder s14
  clear_value s14
  exact (Kept.ite h12 (Kept.when (State.recChanges_kept h12 (Part.sub hp)) (fun _ h16 => (State.writeChanges_kept h16 (Part.sub hp)))))

theorem State.clearRun_kept {l s0} {s} {x1} (h : Kept l s0 s) (hp : Part.within [.pages 0x120 0x130, .page 0x20, .alarm] l) :
    Kept l s0 (State.clearRun s x1) := by
  unfold State.clearRun
  extract_lets +onlyGivenNames -merge -useContext -underBinder s1
  have h2 : Kept l s0 s1 := by unfold s1; exact (Kept.each h (fun _ _ h3 => (State.setReg_kept h3 (p := .pages 0x120 0x130) (Part.at hp) (by simp [Part.covers] <;> omega))))
  clear_value s1
  exact (State.showCtx_kept (State.modAlm_kept h2 (Part.sub hp)) (Part.sub hp))

theorem State.almCommitted_kept {l s0} {s} {x1} (h : Kept l s0 s) (hp : Part.within [.head 0x14, .alarm, .recorder, .page 0x49, .head 0x24, .page 0x42, .head 0x20, .page 0x41, .page 0x40, .sram, .sramBad, .sramWeak, .msg, .page 0x178, .dma, .page 0x20, .pages 0x120 0x130, .page 0x130] l) :
    Kept l s0 (State.almCommitted s x1) := by
  unfold State.almCommitted
  extract_lets +onlyGivenNames -merge -useContext -underBinder s1
  clear_value s1
  extract_lets +onlyGivenNames -merge -useContext -underBinder s3
  have h4 : Kept l s0 s3 := by
    unfold s3
    refine Kept.each h (fun _ _ h5 => ?_)
    extract_lets +onlyGivenNames -merge -useContext -underBinder s6
    clear_value s6
    extract_lets +onlyGivenNames -merge -useContext -underBinder s8
    clear_value s8
    extract_lets +onlyGivenNames -merge -useContext -underBinder s10
    clear_value s10
    extract_lets +onlyGivenNames -merge -useContext -underBinder s12
    clear_value s12
    refine Kept.ite ?_ ?_
    · extract_lets +onlyGivenNames -merge -useContext -underBinder s14
      clear_value s14
      extract_lets +onlyGivenNames -merge -useContext -underBinder s16
      have h17 : Kept l s0 s16 := by unfold s16; exact (State.tellReplaced_kept (State.clearRun_kept h5 (Part.sub hp)) (Part.sub hp))
      clear_value s16
      extract_lets +onlyGivenNames -merge -useContext -underBinder s18
      clear_value s18
      exact (Kept.ite (State.nqWrite_kept h17 (Part.sub hp)) h17)
    · exact h5
  clear_value s3
  exact (Kept.each h4 (fun _ _ h20 => (Kept.ite (State.modAlm_kept (Kept.each (Kept.when h20 (fun _ h21 => (State.irq_kept h21 (ALM.IRQRAW.first_out_zoned (Part.at hp))))) (fun _ _ h22 => (State.setReg_kept h22 (p := .page 0x130) (Part.at hp) (by simp [Part.covers] <;> omega)))) (Part.sub hp)) h20)))

theorem State.almDrain_kept {l s0} {s} (h : Kept l s0 s) (hp : Part.within [.alarm, .pages 0x120 0x130, .head 0x14, .page 0x130, .page 0x20, .dma, .head 0x24, .page 0x42, .head 0x20, .page 0x41, .page 0x40, .sram, .sramBad, .sramWeak, .recorder, .page 0x49, .msg, .page 0x178, .pair] l) :
    Kept l s0 (State.almDrain s) := by
  unfold State.almDrain
  refine Kept.ite ?_ ?_
  · exact h
  · extract_lets +onlyGivenNames -merge -useContext -underBinder s1
    clear_value s1
    refine Kept.each (State.modAlm_kept h (Part.sub hp)) (fun _ _ h3 => ?_)
    split
    · rename_i a5 s16 q7
      have h4 : Kept l s0 s16 := Kept.snd q7 (State.almApply_kept h3 (Part.sub hp))
      exact (State.almComplete_kept h4 (Part.sub hp))

theorem State.groupsAnew_kept {l s0} {s} (h : Kept l s0 s) (hp : Part.within [.alarm] l) :
    Kept l s0 (State.groupsAnew s) := by
  unfold State.groupsAnew
  exact (State.modAlm_kept h (Part.sub hp))

theorem State.restartDelays_kept {l s0} {s} {x1} (h : Kept l s0 s) (hp : Part.within [.pages 0x120 0x130, .alarm] l) :
    Kept l s0 (State.restartDelays s x1) := by
  unfold State.restartDelays
  refine Kept.ite ?_ ?_
  · exact h
  · extract_lets +onlyGivenNames -merge -useContext -underBinder s1
    have h2 : Kept l s0 s1 := by unfold s1; exact (Kept.each h (fun _ _ h3 => (Kept.ite (State.wr_kept h3 (ALM.CTXA.t_timer_zoned (Part.at hp))) h3)))
    clear_value s1
    exact (State.modAlm_kept h2 (Part.sub hp))

theorem State.suppress_kept {l s0} {s} {x1} (h : Kept l s0 s) (hp : Part.within [.page 0x20, .alarm] l) :
    Kept l s0 (State.suppress s x1) := by
  unfold State.suppress
  refine Kept.each h (fun _ _ h1 => ?_)
  extract_lets +onlyGivenNames -merge -useContext -underBinder s2
  have h3 : ∀ {y0} {t}, Kept l s0 t → Kept l s0 (s2 y0 t) := by
    intro y0 t h4
    unfold s2
    exact (State.wr_kept h4 (ALM.SUPACT.cond_zoned (Part.at hp)))
  clear_value s2
  extract_lets +onlyGivenNames -merge -useContext -underBinder s5
  have h6 : ∀ {t}, Kept l s0 t → Kept l s0 (s5 t) := by
    intro t h7
    unfold s5
    exact (State.modAlm_kept h7 (Part.sub hp))
  clear_value s5
  refine Kept.ite ?_ ?_
  · exact (h6 (h3 h1))
  · refine Kept.ite ?_ ?_
    · exact (h6 (h3 h1))
    · refine Kept.ite ?_ ?_
      · extract_lets +onlyGivenNames -merge -useContext -underBinder s8
        clear_value s8
        exact (Kept.ite (h6 (h3 h1)) (State.modAlm_kept h1 (Part.sub hp)))
      · exact h1

theorem State.shelveRun_kept {l s0} {s} {x1} {x2} (h : Kept l s0 s) (hp : Part.within [.pages 0x120 0x130] l) :
    Kept l s0 (State.shelveRun s x1 x2) := by
  unfold State.shelveRun
  refine Kept.ite ?_ ?_
  · exact h
  · extract_lets +onlyGivenNames -merge -useContext -underBinder s1
    clear_value s1
    extract_lets +onlyGivenNames -merge -useContext -underBinder s3
    clear_value s3
    extract_lets +onlyGivenNames -merge -useContext -underBinder s5
    clear_value s5
    extract_lets +onlyGivenNames -merge -useContext -underBinder s7
    have h8 : Kept l s0 s7 := by unfold s7; exact (State.wr_kept h (ALM.CTXA.shelve_left_zoned (Part.at hp)))
    clear_value s7
    exact (Kept.ite (State.setLayer_kept h8 (Part.sub hp)) h8)

theorem State.stickRun_kept {l s0} {s} {x1} {x2} (h : Kept l s0 s) (z1 : Zoned l x1) (z2 : Zoned l x2) (hp : Part.within [.head 0x14] l) :
    Kept l s0 (State.stickRun s x1 x2) := by
  unfold State.stickRun
  exact (State.stick_kept h z1 z2 (ZonedOpt.some (ALM.IRQRAW.cnt_ovf_zoned (Part.at hp))))

theorem State.delayEnds_kept {l s0} {s} {x1} {x2} (h : Kept l s0 s) (hp : Part.within [.pages 0x120 0x130] l) :
    Kept l s0 (State.delayEnds s x1 x2) := by
  unfold State.delayEnds
  extract_lets +onlyGivenNames -merge -useContext -underBinder s1
  clear_value s1
  extract_lets +onlyGivenNames -merge -useContext -underBinder s3
  clear_value s3
  extract_lets +onlyGivenNames -merge -useContext -underBinder s5
  clear_value s5
  exact (Kept.ite (Kept.ite (State.wr_kept h (ALM.CTXA.q_zoned (Part.at hp))) h) (Kept.ite (Kept.ite (State.wr_kept h (ALM.CTXA.q_zoned (Part.at hp))) h) h))

theorem State.countedInput_kept {l s0} {s} {x1} {x2} {x3} (h : Kept l s0 s) (hp : Part.within [.pages 0x120 0x130] l) :
    Kept l s0 (State.countedInput s x1 x2 x3) := by
  unfold State.countedInput
  exact (Kept.ite (State.setLayer_kept h (Part.sub hp)) (Kept.ite h (State.delayEnds_kept h (Part.sub hp))))

theorem State.delays_kept {l s0} {s} {x1} {x2} {x3} {x4} {x5} (h : Kept l s0 s) (hp : Part.within [.pages 0x120 0x130, .head 0x14] l) :
    Kept l s0 (State.delays s x1 x2 x3 x4 x5) := by
  unfold State.delays
  extract_lets +onlyGivenNames -merge -useContext -underBinder s1
  clear_value s1
  extract_lets +onlyGivenNames -merge -useContext -underBinder s3
  clear_value s3
  extract_lets +onlyGivenNames -merge -useContext -underBinder s5 s6
  have h7 : Kept l s0 s5 := by unfold s5; exact (State.put_kept h (ALM.CTXA.cond_zoned (Part.at hp)))
  have h8 : Kept l s0 s6 := by unfold s6; exact (Kept.ite (Kept.ite (State.wr_kept h (ALM.CTXA.t_timer_zoned (Part.at hp))) h) (Kept.ite (State.wr_kept (State.wr_kept h7 (ALM.CTXA.t_timer_zoned (Part.at hp))) (ALM.CTXA.t_onset_zoned (Part.at hp))) (Kept.ite (State.wr_kept h7 (ALM.CTXA.t_timer_zoned (Part.at hp))) (Kept.ite (State.stickRun_kept h7 (ALM.CTXA.false_starts_zoned (Part.at hp)) (ALM.CTXA.fs_ovf_zoned (Part.at hp)) (Part.sub hp)) h7))))
  clear_value s6
  clear_value s5
  exact (State.delayEnds_kept h8 (Part.sub hp))

theorem State.showValue_kept {l s0} {s} {x1} {x2} (h : Kept l s0 s) (hp : Part.within [.pages 0x120 0x130, .freeCount] l) :
    Kept l s0 (State.showValue s x1 x2) := by
  unfold State.showValue
  refine Kept.ite ?_ ?_
  · exact (State.wrInt_kept h (ALM.CTXA.last_v_zoned (Part.at hp)))
  · split
    · rename_i x2 s13 q4
      have h1 : Kept l s0 s13 := Kept.snd q4 (State.draw_kept h (Part.sub hp))
      exact (State.wr_kept h1 (ALM.CTXA.last_v_zoned (Part.at hp)))

theorem State.validInput_kept {l s0} {s} {x1} {x2} {x3} (h : Kept l s0 s) (hp : Part.within [.pages 0x120 0x130, .head 0x14, .freeCount, .alarm] l) :
    Kept l s0 (State.validInput s x1 x2 x3) := by
  unfold State.validInput
  extract_lets +onlyGivenNames -merge -useContext -underBinder s1
  clear_value s1
  extract_lets +onlyGivenNames -merge -useContext -underBinder s3
  have h4 : Kept l s0 s3 := by unfold s3; exact (State.wr_kept (State.wr_kept (State.setLayer_kept h (Part.sub hp)) (ALM.CTXA.inv_cnt_zoned (Part.at hp))) (ALM.CTXA.miss_cnt_zoned (Part.at hp)))
  clear_value s3
  split
  · extract_lets +onlyGivenNames -merge -useContext -underBinder s5
    clear_value s5
    extract_lets +onlyGivenNames -merge -useContext -underBinder s7
    clear_value s7
    exact (State.delays_kept (State.showValue_kept h4 (Part.sub hp)) (Part.sub hp))
  · extract_lets +onlyGivenNames -merge -useContext -underBinder s9
    clear_value s9
    extract_lets +onlyGivenNames -merge -useContext -underBinder s11
    clear_value s11
    extract_lets +onlyGivenNames -merge -useContext -underBinder s13
    clear_value s13
    extract_lets +onlyGivenNames -merge -useContext -underBinder s15
    clear_value s15
    extract_lets +onlyGivenNames -merge -useContext -underBinder s17
    clear_value s17
    extract_lets +onlyGivenNames -merge -useContext -underBinder s19
    clear_value s19
    extract_lets +onlyGivenNames -merge -useContext -underBinder s21
    have h22 : Kept l s0 s21 := by unfold s21; exact (State.modAlm_kept h4 (Part.sub hp))
    clear_value s21
    exact (State.delays_kept (State.showValue_kept h22 (Part.sub hp)) (Part.sub hp))
  · exact h4

theorem State.evalCtx_kept {l s0} {s} {x1} {x2} (h : Kept l s0 s) (hp : Part.within [.pages 0x120 0x130, .head 0x14, .alarm, .head 0x24, .head 0x20, .freeCount, .page 0x20] l) :
    Kept l s0 (State.evalCtx s x1 x2) := by
  unfold State.evalCtx
  extract_lets +onlyGivenNames -merge -useContext -underBinder s1
  have h2 : Kept l s0 s1 := by unfold s1; exact (State.shelveRun_kept h (Part.sub hp))
  clear_value s1
  refine Kept.ite ?_ ?_
  · exact (State.settle_kept h2 (Part.sub hp))
  · extract_lets +onlyGivenNames -merge -useContext -underBinder s3
    clear_value s3
    extract_lets +onlyGivenNames -merge -useContext -underBinder s5
    clear_value s5
    extract_lets +onlyGivenNames -merge -useContext -underBinder s7
    clear_value s7
    extract_lets +onlyGivenNames -merge -useContext -underBinder s9
    have h10 : Kept l s0 s9 := by unfold s9; exact (State.setLayer_kept h2 (Part.sub hp))
    clear_value s9
    extract_lets +onlyGivenNames -merge -useContext -underBinder s11
    clear_value s11
    extract_lets +onlyGivenNames -merge -useContext -underBinder s13
    clear_value s13
    extract_lets +onlyGivenNames -merge -useContext -underBinder s15
    have h16 : Kept l s0 s15 := by unfold s15; exact (Kept.ite (State.fault_kept h10 (ALM.FAULT.cfgmis_zoned (Part.at hp)) (Part.sub hp)) h10)
    clear_value s15
    extract_lets +onlyGivenNames -merge -useContext -underBinder s17
    have h18 : Kept l s0 s17 := by
      unfold s17
      split
      · exact (Kept.ite (State.modAlm_kept h16 (Part.sub hp)) h16)
      · extract_lets +onlyGivenNames -merge -useContext -underBinder s19
        have h20 : Kept l s0 s19 := by unfold s19; exact (State.stickRun_kept h16 (ALM.CTXA.inv_cnt_zoned (Part.at hp)) (ALM.CTXA.inv_ovf_zoned (Part.at hp)) (Part.sub hp))
        clear_value s19
        exact (State.countedInput_kept h20 (Part.sub hp))
      · extract_lets +onlyGivenNames -merge -useContext -underBinder s21
        have h22 : Kept l s0 s21 := by unfold s21; exact (State.stickRun_kept h16 (ALM.CTXA.miss_cnt_zoned (Part.at hp)) (ALM.CTXA.miss_ovf_zoned (Part.at hp)) (Part.sub hp))
        clear_value s21
        extract_lets +onlyGivenNames -merge -useContext -underBinder s23
        clear_value s23
        exact (State.countedInput_kept h22 (Part.sub hp))
      · exact (State.validInput_kept h16 (Part.sub hp))
    clear_value s17
    extract_lets +onlyGivenNames -merge -useContext -underBinder s25
    clear_value s25
    extract_lets +onlyGivenNames -merge -useContext -underBinder s27
    have h28 : Kept l s0 s27 := by unfold s27; exact (State.followLayers_kept h18 (Part.sub hp))
    clear_value s27
    extract_lets +onlyGivenNames -merge -useContext -underBinder s29
    clear_value s29
    extract_lets +onlyGivenNames -merge -useContext -underBinder s31
    clear_value s31
    exact (State.showCtx_kept (State.settleCaution_kept (State.settle_kept h28 (Part.sub hp)) (Part.sub hp)) (Part.sub hp))

theorem State.groupsEnd_kept {l s0} {s} (h : Kept l s0 s) (hp : Part.within [.page 0x130, .head 0x14] l) :
    Kept l s0 (State.groupsEnd s).2 := by
  unfold State.groupsEnd
  refine Kept.foldlSnd (fun _ _ h1 => ?_) _ _ ?_
  · split
    · rename_i gs3 st4
      have h2 : Kept l s0 st4 := h1
      extract_lets +onlyGivenNames -merge -useContext -underBinder s5
      clear_value s5
      extract_lets +onlyGivenNames -merge -useContext -underBinder s7
      have h8 : Kept l s0 s7 := by unfold s7; exact (State.put_kept h2 (ALM.GRP.shed_zoned (Part.at hp)))
      clear_value s7
      exact (Kept.iteSnd (Kept.beside (State.clearFirstOut_kept h8 (Part.sub hp))) (Kept.beside h8))
  · exact (Kept.beside h)

theorem State.tellLevel_kept {l s0} {s} {x1} (h : Kept l s0 s) (hp : Part.within [.alarm, .dma, .page 0x20, .head 0x14, .head 0x24, .page 0x42, .head 0x20, .page 0x41, .page 0x40, .sram, .sramBad, .sramWeak] l) :
    Kept l s0 (State.tellLevel s x1) := by
  unfold State.tellLevel
  exact (State.modAlm_kept (Kept.each h (fun _ _ h1 => (Kept.ite h1 (State.modAlm_kept (State.nqWrite_kept h1 (Part.sub hp)) (Part.sub hp))))) (Part.sub hp))

theorem State.rescanAfterDrops_kept {l s0} {s} (h : Kept l s0 s) (hp : Part.within [.page 0x20, .alarm] l) :
    Kept l s0 (State.rescanAfterDrops s) := by
  unfold State.rescanAfterDrops
  exact (Kept.ite (State.rescanStart_kept (State.modAlm_kept h (Part.sub hp)) (Part.sub hp)) h)

theorem State.evalEntries_kept {l s0} {s} {x1} {x2} {x3} {x4} (h : Kept l s0 s) (hp : Part.within [.dma, .page 0x20, .alarm, .head 0x14, .head 0x24, .page 0x42, .head 0x20, .page 0x41, .page 0x40, .sram, .sramBad, .sramWeak] l) :
    Kept l s0 (State.evalEntries s x1 x2 x3 x4) := by
  unfold State.evalEntries
  extract_lets +onlyGivenNames -merge -useContext -underBinder s1
  clear_value s1
  extract_lets +onlyGivenNames -merge -useContext -underBinder s3
  clear_value s3
  extract_lets +onlyGivenNames -merge -useContext -underBinder s5
  have h6 : Kept l s0 s5 := by unfold s5; exact (State.writeChanges_kept h (Part.sub hp))
  clear_value s5
  extract_lets +onlyGivenNames -merge -useContext -underBinder s7
  have h8 : Kept l s0 s7 := by unfold s7; exact (Kept.ite h6 (Kept.each h6 (fun _ _ h9 => (State.nqWrite_kept h9 (Part.sub hp)))))
  clear_value s7
  extract_lets +onlyGivenNames -merge -useContext -underBinder s10
  have h11 : Kept l s0 s10 := by unfold s10; exact (State.tellLevel_kept h8 (Part.sub hp))
  clear_value s10
  extract_lets +onlyGivenNames -merge -useContext -underBinder s12 s13 s14
  have h15 : Kept l s0 s12 := by unfold s12; exact (Kept.each h11 (fun _ _ h16 => (State.nqWrite_kept h16 (Part.sub hp))))
  have h18 : Kept l s0 s14 := by unfold s14; exact (Kept.ite (Kept.ite (State.modAlm_kept (State.rescanStart_kept (State.irq_kept (State.nqWrite_kept (State.wr_kept h15 (ALM.NQSTAT.flood_zoned (Part.at hp))) (Part.sub hp)) (ALM.IRQRAW.flood_end_zoned (Part.at hp))) (Part.sub hp)) (Part.sub hp)) (State.modAlm_kept h15 (Part.sub hp))) (Kept.ite (State.modAlm_kept (State.stick_kept (State.irq_kept (State.nqWrite_kept (State.wr_kept h11 (ALM.NQSTAT.flood_zoned (Part.at hp))) (Part.sub hp)) (ALM.IRQRAW.flood_begin_zoned (Part.at hp))) (ALM.FLOODCNT.count_zoned (Part.at hp)) (ALM.CNTOVF.flood_zoned (Part.at hp)) (ZonedOpt.some (ALM.IRQRAW.cnt_ovf_zoned (Part.at hp)))) (Part.sub hp)) h11))
  clear_value s14
  clear_value s13
  clear_value s12
  exact (State.rescanGo_kept (State.rescanAfterDrops_kept h18 (Part.sub hp)) (Part.sub hp))

theorem State.almEvaluate_kept {l s0} {s} (h : Kept l s0 s) (hp : Part.within [.alarm, .pages 0x120 0x130, .page 0x20, .head 0x14, .head 0x24, .head 0x20, .freeCount, .page 0x130, .dma, .page 0x42, .page 0x41, .page 0x40, .sram, .sramBad, .sramWeak, .recorder, .page 0x49, .msg, .page 0x178] l) :
    Kept l s0 (State.almEvaluate s) := by
  unfold State.almEvaluate
  extract_lets +onlyGivenNames -merge -useContext -underBinder s1
  clear_value s1
  extract_lets +onlyGivenNames -merge -useContext -underBinder s3
  have h4 : Kept l s0 s3 := by unfold s3; exact (State.groupsAnew_kept (State.restartDelays_kept h (Part.sub hp)) (Part.sub hp))
  clear_value s3
  extract_lets +onlyGivenNames -merge -useContext -underBinder s5
  have h6 : Kept l s0 s5 := by unfold s5; exact (State.modAlm_kept (State.suppress_kept h4 (Part.sub hp)) (Part.sub hp))
  clear_value s5
  extract_lets +onlyGivenNames -merge -useContext -underBinder s7
  clear_value s7
  extract_lets +onlyGivenNames -merge -useContext -underBinder s9
  clear_value s9
  extract_lets +onlyGivenNames -merge -useContext -underBinder s11
  have h12 : Kept l s0 s11 := by unfold s11; exact (Kept.each h6 (fun _ _ h13 => (State.evalCtx_kept h13 (Part.sub hp))))
  clear_value s11
  extract_lets +onlyGivenNames -merge -useContext -underBinder s14
  have h15 : Kept l s0 s14 := by unfold s14; exact (Kept.each h12 (fun _ _ h16 => (State.evalCtx_kept h16 (Part.sub hp))))
  clear_value s14
  extract_lets +onlyGivenNames -merge -useContext -underBinder s17
  clear_value s17
  extract_lets +onlyGivenNames -merge -useContext -underBinder s19
  clear_value s19
  split
  · rename_i fo122 s423 q34
    have h21 : Kept l s0 s423 := Kept.snd q34 (State.takeFirstOuts_kept h15 (Part.sub hp))
    split
    · rename_i fo225 s526 q33
      have h24 : Kept l s0 s526 := Kept.snd q33 (State.groupsEnd_kept (State.groupsShow_kept h21 (Part.sub hp)) (Part.sub hp))
      extract_lets +onlyGivenNames -merge -useContext -underBinder s27
      have h28 : Kept l s0 s27 := by unfold s27; exact (State.groupsDrive_kept h24 (Part.sub hp))
      clear_value s27
      extract_lets +onlyGivenNames -merge -useContext -underBinder s29
      clear_value s29
      extract_lets +onlyGivenNames -merge -useContext -underBinder s31
      have h32 : Kept l s0 s31 := by unfold s31; exact (State.evalEntries_kept (State.tellRec_kept h28 (Part.sub hp)) (Part.sub hp))
      clear_value s31
      exact (State.wr_kept (State.wr_kept (State.modAlm_kept h32 (Part.sub hp)) (ALM.EVALLAP.lap_zoned (Part.at hp))) (ALM.SHEDLVL.level_zoned (Part.at hp)))

theorem State.almNewGrid_kept {l s0} {s} (h : Kept l s0 s) (hp : Part.within [.alarm] l) :
    Kept l s0 (State.almNewGrid s) := by
  unfold State.almNewGrid
  exact (State.modAlm_kept h (Part.sub hp))

theorem State.almRecord_kept {l s0} {s} {x1} (h : Kept l s0 s) (hp : Part.within [.alarm] l) :
    Kept l s0 (State.almRecord s x1) := by
  unfold State.almRecord
  exact (Kept.ite h (State.modAlm_kept h (Part.sub hp)))

theorem State.clearAlm_kept {l s0} {s} (h : Kept l s0 s) (hp : Part.within [.alarm, .pages 0x120 0x131] l) : Kept l s0 (State.clearAlm s) :=
  (h.cleared (k := fun a => !(decide (0x120000 ≤ a) && decide (a < 0x131000))) (Part.at hp) (p := .pages 0x120 0x131) (fun a c => by
    simp only [Bool.or_eq_true, Bool.not_eq_false', Bool.and_eq_true, decide_eq_true_eq, Part.covers] at *; omega)).alarm (Part.at hp)

theorem State.nqRelease_kept {l s0} {s} {x1} (h : Kept l s0 s) (hp : Part.within [.page 0x20, .alarm] l) :
    Kept l s0 (State.nqRelease s x1) := by
  unfold State.nqRelease
  exact (Kept.ite (State.rescanAfterDrops_kept (State.showQueue_kept (State.wr_kept h (ALM.NQREL.index_zoned (Part.at hp))) (Part.sub hp)) (Part.sub hp)) h)

theorem execLampFlashEdge_kept {l s0} {s} (h : Kept l s0 s) (hp : Part.within [.alarm] l) :
    KeptR l s0 (execLampFlashEdge s) := by
  unfold execLampFlashEdge
  exact (KeptR.next (Kept.ite (State.groupsDrive_kept h (Part.sub hp)) h))

theorem execAcknowledge_kept {l s0} {x0} {x1} {s} (h : Kept l s0 s) (hp : Part.within [.page 0x1, .status, .page 0x20, .pair, .msg, .alarm, .pages 0x120 0x130, .head 0x14, .page 0x130, .dma, .head 0x24, .page 0x42, .head 0x20, .page 0x41, .page 0x40, .sram, .sramBad, .sramWeak, .recorder, .page 0x49, .page 0x178] l) :
    KeptR l s0 (execAcknowledge x0 x1 s) := by
  unfold execAcknowledge
  exact (State.command_kept h (fun h1 => (State.almCommand_kept h1 (Part.sub hp))) (Part.sub hp))

theorem execAcknowledgeGroup_kept {l s0} {x0} {x1} {s} (h : Kept l s0 s) (hp : Part.within [.page 0x1, .status, .page 0x20, .pair, .msg, .alarm, .pages 0x120 0x130, .head 0x14, .page 0x130, .dma, .head 0x24, .page 0x42, .head 0x20, .page 0x41, .page 0x40, .sram, .sramBad, .sramWeak, .recorder, .page 0x49, .page 0x178] l) :
    KeptR l s0 (execAcknowledgeGroup x0 x1 s) := by
  unfold execAcknowledgeGroup
  exact (State.command_kept h (fun h1 => (State.almCommand_kept h1 (Part.sub hp))) (Part.sub hp))

theorem execAcknowledgeAll_kept {l s0} {x0} {s} (h : Kept l s0 s) (hp : Part.within [.page 0x1, .status, .page 0x20, .pair, .msg, .alarm, .pages 0x120 0x130, .head 0x14, .page 0x130, .dma, .head 0x24, .page 0x42, .head 0x20, .page 0x41, .page 0x40, .sram, .sramBad, .sramWeak, .recorder, .page 0x49, .page 0x178] l) :
    KeptR l s0 (execAcknowledgeAll x0 s) := by
  unfold execAcknowledgeAll
  exact (State.command_kept h (fun h1 => (State.almCommand_kept h1 (Part.sub hp))) (Part.sub hp))

theorem execShelve_kept {l s0} {x0} {x1} {s} (h : Kept l s0 s) (hp : Part.within [.page 0x1, .status, .page 0x20, .pair, .msg, .alarm, .pages 0x120 0x130, .head 0x14, .page 0x130, .dma, .head 0x24, .page 0x42, .head 0x20, .page 0x41, .page 0x40, .sram, .sramBad, .sramWeak, .recorder, .page 0x49, .page 0x178] l) :
    KeptR l s0 (execShelve x0 x1 s) := by
  unfold execShelve
  exact (State.command_kept h (fun h1 => (State.almCommand_kept h1 (Part.sub hp))) (Part.sub hp))

theorem execUnshelve_kept {l s0} {x0} {x1} {s} (h : Kept l s0 s) (hp : Part.within [.page 0x1, .status, .page 0x20, .pair, .msg, .alarm, .pages 0x120 0x130, .head 0x14, .page 0x130, .dma, .head 0x24, .page 0x42, .head 0x20, .page 0x41, .page 0x40, .sram, .sramBad, .sramWeak, .recorder, .page 0x49, .page 0x178] l) :
    KeptR l s0 (execUnshelve x0 x1 s) := by
  unfold execUnshelve
  exact (State.command_kept h (fun h1 => (State.almCommand_kept h1 (Part.sub hp))) (Part.sub hp))

theorem execOutOfService_kept {l s0} {x0} {x1} {s} (h : Kept l s0 s) (hp : Part.within [.page 0x1, .status, .page 0x20, .pair, .msg, .alarm, .pages 0x120 0x130, .head 0x14, .page 0x130, .dma, .head 0x24, .page 0x42, .head 0x20, .page 0x41, .page 0x40, .sram, .sramBad, .sramWeak, .recorder, .page 0x49, .page 0x178] l) :
    KeptR l s0 (execOutOfService x0 x1 s) := by
  unfold execOutOfService
  exact (State.command_kept h (fun h1 => (State.almCommand_kept h1 (Part.sub hp))) (Part.sub hp))

theorem execReturnToService_kept {l s0} {x0} {x1} {s} (h : Kept l s0 s) (hp : Part.within [.page 0x1, .status, .page 0x20, .pair, .msg, .alarm, .pages 0x120 0x130, .head 0x14, .page 0x130, .dma, .head 0x24, .page 0x42, .head 0x20, .page 0x41, .page 0x40, .sram, .sramBad, .sramWeak, .recorder, .page 0x49, .page 0x178] l) :
    KeptR l s0 (execReturnToService x0 x1 s) := by
  unfold execReturnToService
  exact (State.command_kept h (fun h1 => (State.almCommand_kept h1 (Part.sub hp))) (Part.sub hp))

theorem execLatchReset_kept {l s0} {x0} {x1} {s} (h : Kept l s0 s) (hp : Part.within [.page 0x1, .status, .page 0x20, .pair, .msg, .alarm, .pages 0x120 0x130, .head 0x14, .page 0x130, .dma, .head 0x24, .page 0x42, .head 0x20, .page 0x41, .page 0x40, .sram, .sramBad, .sramWeak, .recorder, .page 0x49, .page 0x178] l) :
    KeptR l s0 (execLatchReset x0 x1 s) := by
  unfold execLatchReset
  exact (State.command_kept h (fun h1 => (State.almCommand_kept h1 (Part.sub hp))) (Part.sub hp))

theorem execSilenceHorn_kept {l s0} {x0} {x1} {s} (h : Kept l s0 s) (hp : Part.within [.page 0x1, .status, .page 0x20, .pair, .msg, .alarm, .pages 0x120 0x130, .head 0x14, .page 0x130, .dma, .head 0x24, .page 0x42, .head 0x20, .page 0x41, .page 0x40, .sram, .sramBad, .sramWeak, .recorder, .page 0x49, .page 0x178] l) :
    KeptR l s0 (execSilenceHorn x0 x1 s) := by
  unfold execSilenceHorn
  exact (State.command_kept h (fun h1 => (State.almCommand_kept h1 (Part.sub hp))) (Part.sub hp))

theorem execResetFirstOut_kept {l s0} {x0} {x1} {s} (h : Kept l s0 s) (hp : Part.within [.page 0x1, .status, .page 0x20, .pair, .msg, .alarm, .pages 0x120 0x130, .head 0x14, .page 0x130, .dma, .head 0x24, .page 0x42, .head 0x20, .page 0x41, .page 0x40, .sram, .sramBad, .sramWeak, .recorder, .page 0x49, .page 0x178] l) :
    KeptR l s0 (execResetFirstOut x0 x1 s) := by
  unfold execResetFirstOut
  exact (State.command_kept h (fun h1 => (State.almCommand_kept h1 (Part.sub hp))) (Part.sub hp))

theorem execRescanCommand_kept {l s0} {x0} {s} (h : Kept l s0 s) (hp : Part.within [.page 0x1, .status, .page 0x20, .pair, .msg, .alarm, .pages 0x120 0x130, .head 0x14, .page 0x130, .dma, .head 0x24, .page 0x42, .head 0x20, .page 0x41, .page 0x40, .sram, .sramBad, .sramWeak, .recorder, .page 0x49, .page 0x178] l) :
    KeptR l s0 (execRescanCommand x0 s) := by
  unfold execRescanCommand
  exact (State.command_kept h (fun h1 => (State.almCommand_kept h1 (Part.sub hp))) (Part.sub hp))

theorem execClearFalseStarts_kept {l s0} {x0} {x1} {s} (h : Kept l s0 s) (hp : Part.within [.page 0x1, .status, .page 0x20, .pair, .msg, .alarm, .pages 0x120 0x130, .head 0x14, .page 0x130, .dma, .head 0x24, .page 0x42, .head 0x20, .page 0x41, .page 0x40, .sram, .sramBad, .sramWeak, .recorder, .page 0x49, .page 0x178] l) :
    KeptR l s0 (execClearFalseStarts x0 x1 s) := by
  unfold execClearFalseStarts
  exact (State.command_kept h (fun h1 => (State.almCommand_kept h1 (Part.sub hp))) (Part.sub hp))

theorem execGroupAckInput_kept {l s0} {x0} {s} (h : Kept l s0 s) (hp : Part.within [.page 0x20, .pair, .msg, .alarm, .pages 0x120 0x130, .head 0x14, .page 0x130, .dma, .head 0x24, .page 0x42, .head 0x20, .page 0x41, .page 0x40, .sram, .sramBad, .sramWeak, .recorder, .page 0x49, .page 0x178] l) :
    KeptR l s0 (execGroupAckInput x0 s) := by
  unfold execGroupAckInput
  exact (KeptR.ite (KeptR.next (State.almEnqueue_kept h (Part.sub hp))) (KeptR.next h))

theorem execNqRelease_kept {l s0} {x0} {x1} {s} (h : Kept l s0 s) (hp : Part.within [.page 0x1, .status, .page 0x20, .alarm] l) :
    KeptR l s0 (execNqRelease x0 x1 s) := by
  unfold execNqRelease
  exact (State.command_kept h (fun h1 => (State.nqRelease_kept h1 (Part.sub hp))) (Part.sub hp))

end Sys2Proof.Machine
end

