-- ==== Sys2Proof/Laws/Call.lean ====
section
/-!
SUPPORT. What each operation of Machine/Call.lean can change: one lemma per operation, named after it. An operation started in a
state that has kept all parts of an earlier one but some keeps all but those and the parts that its lemma lists, and the
canonical form of the sparse maps with them.
-/

set_option Elab.async false

namespace Sys2Proof.Machine

theorem State.callStat_kept {l s0} {s} {x1} {x2} (h : Kept l s0 s) (hp : Part.within [.page 0x28] l) :
    Kept l s0 (State.callStat s x1 x2) := by
  unfold State.callStat
  exact (State.cmdStat_kept h (CALL.CMDSTAT.state_zoned (Part.at hp)) (CALL.CMDSTAT.reason_zoned (Part.at hp)))

theorem State.modCall_kept {l s0} {s} {x1} (h : Kept l s0 s) (hp : Part.within [.call] l) :
    Kept l s0 (State.modCall s x1) := by
  unfold State.modCall
  exact (h.call (Part.at hp))

theorem State.toStage_kept {l s0} {s} {x1} {x2} (h : Kept l s0 s) (hp : Part.within [.page 0x28, .call, .head 0x14, .head 0x24, .head 0x20] l) :
    Kept l s0 (State.toStage s x1 x2) := by
  unfold State.toStage
  extract_lets +onlyGivenNames -merge -useContext -underBinder s1
  have h2 : Kept l s0 s1 := by unfold s1; exact (State.wr_kept h (CALL.STATE.stage_zoned (Part.at hp)))
  clear_value s1
  extract_lets +onlyGivenNames -merge -useContext -underBinder s3
  have h4 : Kept l s0 s3 := by unfold s3; exact (Kept.ite (State.modCall_kept h2 (Part.sub hp)) h2)
  clear_value s3
  split
  · exact h4
  · exact (State.stick_kept (State.irq_kept (State.wr_kept (State.wr_kept h4 (CALL.TCALL.t_call_zoned (Part.at hp))) (CALL.STATE.officer_zoned (Part.at hp))) (CALL.IRQRAW.call_start_zoned (Part.at hp))) (CALL.CALLCNT.count_zoned (Part.at hp)) (CALL.CNTOVF.call_zoned (Part.at hp)) (ZonedOpt.some (CALL.IRQRAW.cnt_ovf_zoned (Part.at hp))))
  · exact (State.irq_kept h4 (CALL.IRQRAW.escalate_zoned (Part.at hp)))
  · extract_lets +onlyGivenNames -merge -useContext -underBinder s5
    have h6 : Kept l s0 s5 := by unfold s5; exact (State.stick_kept (State.wr_kept (State.irq_kept h4 (CALL.IRQRAW.officer_zoned (Part.at hp))) (CALL.STATE.officer_zoned (Part.at hp))) (CALL.OFFCNT.count_zoned (Part.at hp)) (CALL.CNTOVF.off_zoned (Part.at hp)) (ZonedOpt.some (CALL.IRQRAW.cnt_ovf_zoned (Part.at hp))))
    clear_value s5
    exact (Kept.ite (State.fault_kept h6 (CALL.FAULT.nocp_zoned (Part.at hp)) (Part.sub hp)) h6)
  · exact (State.modCall_kept (State.irq_kept h4 (CALL.IRQRAW.answered_zoned (Part.at hp))) (Part.sub hp))

theorem State.offerFail_kept {l s0} {s} (h : Kept l s0 s) (hp : Part.within [.page 0x28, .head 0x14] l) :
    Kept l s0 (State.offerFail s) := by
  unfold State.offerFail
  exact (State.irq_kept (State.wr_kept h (CALL.STATE.relay_pend_zoned (Part.at hp))) (CALL.IRQRAW.relay_fail_zoned (Part.at hp)))

theorem State.callAct_kept {l s0} {s} {x1} (h : Kept l s0 s) (hp : Part.within [.call, .page 0x28, .head 0x14, .head 0x24, .head 0x20] l) :
    Kept l s0 (State.callAct s x1).2 := by
  unfold State.callAct
  extract_lets +onlyGivenNames -merge -useContext -underBinder s1
  have h2 : Kept l s0 s1 := by unfold s1; exact (Kept.ite (State.modCall_kept h (Part.sub hp)) h)
  clear_value s1
  extract_lets +onlyGivenNames -merge -useContext -underBinder s3
  clear_value s3
  extract_lets +onlyGivenNames -merge -useContext -underBinder s5
  clear_value s5
  extract_lets +onlyGivenNames -merge -useContext -underBinder s7
  clear_value s7
  extract_lets +onlyGivenNames -merge -useContext -underBinder s9
  have h10 : ∀ {y0}, Kept l s0 (s9 y0).2 := by
    intro y0
    unfold s9
    exact (Kept.beside h2)
  clear_value s9
  extract_lets +onlyGivenNames -merge -useContext -underBinder s11
  have h12 : Kept l s0 s11.2 := by unfold s11; exact (Kept.beside h2)
  clear_value s11
  extract_lets +onlyGivenNames -merge -useContext -underBinder s13
  clear_value s13
  extract_lets +onlyGivenNames -merge -useContext -underBinder s15
  clear_value s15
  extract_lets +onlyGivenNames -merge -useContext -underBinder s17
  clear_value s17
  extract_lets +onlyGivenNames -merge -useContext -underBinder s19
  have h20 : Kept l s0 s19.2 := by unfold s19; exact (Kept.beside (State.modCall_kept (State.wr_kept h2 (CALL.STATE.pers_zoned (Part.at hp))) (Part.sub hp)))
  clear_value s19
  split
  · extract_lets +onlyGivenNames -merge -useContext -underBinder s21
    clear_value s21
    exact (Kept.iteSnd (Kept.beside (State.toStage_kept h2 (Part.sub hp))) h10)
  · exact (Kept.iteSnd h10 (Kept.iteSnd h10 (Kept.iteSnd h10 (Kept.beside (State.modCall_kept (State.wr_kept (State.wr_kept h2 (CALL.STATE.relay_pend_zoned (Part.at hp))) (CALL.STATE.relay_tgt_zoned (Part.at hp))) (Part.sub hp))))))
  · refine Kept.iteSnd ?_ ?_
    · exact h12
    · refine Kept.iteSnd ?_ ?_
      · exact h10
      · extract_lets +onlyGivenNames -merge -useContext -underBinder s23
        clear_value s23
        extract_lets +onlyGivenNames -merge -useContext -underBinder s25
        have h26 : Kept l s0 s25 := by unfold s25; exact (State.irq_kept (State.wr_kept (State.wr_kept h2 (CALL.STATE.duty_zoned (Part.at hp))) (CALL.STATE.relay_pend_zoned (Part.at hp))) (CALL.IRQRAW.relay_done_zoned (Part.at hp)))
        clear_value s25
        exact (Kept.beside (Kept.ite (State.modCall_kept h26 (Part.sub hp)) h26))
  · exact (Kept.iteSnd (Kept.beside (State.offerFail_kept h2 (Part.sub hp))) h12)
  · exact (Kept.iteSnd h20 h12)
  · exact (Kept.iteSnd h12 (Kept.beside (State.wr_kept h2 (CALL.STATE.pers_zoned (Part.at hp)))))
  · exact (Kept.iteSnd h12 h20)
  · exact h10

theorem State.armLook_kept {l s0} {s} {x1} (h : Kept l s0 s) (hp : Part.within [.call, .page 0x28] l) :
    Kept l s0 (State.armLook s x1) := by
  unfold State.armLook
  refine Kept.ite ?_ ?_
  · exact h
  · extract_lets +onlyGivenNames -merge -useContext -underBinder s1
    clear_value s1
    extract_lets +onlyGivenNames -merge -useContext -underBinder s3
    clear_value s3
    split
    · exact h
    · exact (State.modCall_kept (State.wr_kept h (CALL.STATE.pers_zoned (Part.at hp))) (Part.sub hp))

theorem State.persRun_kept {l s0} {s} {x1} (h : Kept l s0 s) (hp : Part.within [.page 0x28, .head 0x14, .call, .head 0x24, .head 0x20] l) :
    Kept l s0 (State.persRun s x1) := by
  unfold State.persRun
  extract_lets +onlyGivenNames -merge -useContext -underBinder s1
  clear_value s1
  extract_lets +onlyGivenNames -merge -useContext -underBinder s3
  clear_value s3
  extract_lets +onlyGivenNames -merge -useContext -underBinder s5
  have h6 : Kept l s0 s5 := by unfold s5; exact (Kept.ite (State.irq_kept (State.wr_kept h (CALL.STATE.pers_zoned (Part.at hp))) (CALL.IRQRAW.pers_prewarn_zoned (Part.at hp))) h)
  clear_value s5
  refine Kept.ite ?_ ?_
  · extract_lets +onlyGivenNames -merge -useContext -underBinder s7
    have h8 : Kept l s0 s7 := by unfold s7; exact (State.irq_kept (State.wr_kept h6 (CALL.STATE.pers_zoned (Part.at hp))) (CALL.IRQRAW.pers_alarm_zoned (Part.at hp)))
    clear_value s7
    extract_lets +onlyGivenNames -merge -useContext -underBinder s9
    clear_value s9
    refine Kept.ite ?_ ?_
    · extract_lets +onlyGivenNames -merge -useContext -underBinder s11
      have h12 : Kept l s0 s11 := by unfold s11; exact (Kept.ite (State.stick_kept (State.wr_kept h8 (CALL.STATE.officer_zoned (Part.at hp))) (CALL.CALLCNT.count_zoned (Part.at hp)) (CALL.CNTOVF.call_zoned (Part.at hp)) (ZonedOpt.some (CALL.IRQRAW.cnt_ovf_zoned (Part.at hp)))) h8)
      clear_value s11
      exact (State.wr_kept (State.toStage_kept h12 (Part.sub hp)) (CALL.TCALL.t_call_zoned (Part.at hp)))
    · exact h8
  · exact h6

theorem State.stageRun_kept {l s0} {s} {x1} {x2} (h : Kept l s0 s) (hp : Part.within [.page 0x28, .call, .head 0x14, .head 0x24, .head 0x20] l) :
    Kept l s0 (State.stageRun s x1 x2) := by
  unfold State.stageRun
  extract_lets +onlyGivenNames -merge -useContext -underBinder s1
  clear_value s1
  extract_lets +onlyGivenNames -merge -useContext -underBinder s3
  clear_value s3
  extract_lets +onlyGivenNames -merge -useContext -underBinder s5
  clear_value s5
  extract_lets +onlyGivenNames -merge -useContext -underBinder s7
  have h8 : Kept l s0 s7 := by unfold s7; exact (Kept.ite (State.toStage_kept h (Part.sub hp)) h)
  clear_value s7
  extract_lets +onlyGivenNames -merge -useContext -underBinder s9
  have h10 : Kept l s0 s9 := by unfold s9; exact (Kept.ite (State.toStage_kept h8 (Part.sub hp)) h8)
  clear_value s9
  extract_lets +onlyGivenNames -merge -useContext -underBinder s11
  have h12 : Kept l s0 s11 := by unfold s11; exact (Kept.ite (State.toStage_kept h10 (Part.sub hp)) h10)
  clear_value s11
  extract_lets +onlyGivenNames -merge -useContext -underBinder s13
  have h14 : Kept l s0 s13 := by unfold s13; exact (Kept.ite (State.toStage_kept h12 (Part.sub hp)) h12)
  clear_value s13
  extract_lets +onlyGivenNames -merge -useContext -underBinder s15
  have h16 : Kept l s0 s15 := by unfold s15; exact (Kept.ite (State.toStage_kept h14 (Part.sub hp)) h14)
  clear_value s15
  exact (Kept.ite (State.toStage_kept h16 (Part.sub hp)) h16)

theorem State.callEvaluate_kept {l s0} {s} (h : Kept l s0 s) (hp : Part.within [.call, .page 0x28, .head 0x14, .head 0x24, .head 0x20, .alarm] l) :
    Kept l s0 (State.callEvaluate s) := by
  unfold State.callEvaluate
  refine Kept.ite ?_ ?_
  · exact h
  · extract_lets +onlyGivenNames -merge -useContext -underBinder s1
    clear_value s1
    extract_lets +onlyGivenNames -merge -useContext -underBinder s3
    have h4 : Kept l s0 s3 := by unfold s3; exact (Kept.ite (State.modCall_kept (State.wr_kept h (CALL.TCALL.t_call_zoned (Part.at hp))) (Part.sub hp)) h)
    clear_value s3
    extract_lets +onlyGivenNames -merge -useContext -underBinder s5
    have h6 : Kept l s0 s5 := by unfold s5; exact (State.armLook_kept h4 (Part.sub hp))
    clear_value s5
    extract_lets +onlyGivenNames -merge -useContext -underBinder s7
    clear_value s7
    extract_lets +onlyGivenNames -merge -useContext -underBinder s9
    have h10 : Kept l s0 s9 := by unfold s9; exact (Kept.ite (State.persRun_kept h6 (Part.sub hp)) (State.wr_kept h6 (CALL.STATE.pers_zoned (Part.at hp))))
    clear_value s9
    extract_lets +onlyGivenNames -merge -useContext -underBinder s11
    have h12 : Kept l s0 s11 := by unfold s11; exact (State.put_kept h10 (CALL.STATE.demand_zoned (Part.at hp)))
    clear_value s11
    extract_lets +onlyGivenNames -merge -useContext -underBinder s13
    clear_value s13
    extract_lets +onlyGivenNames -merge -useContext -underBinder s15
    have h16 : Kept l s0 s15 := by unfold s15; exact (State.modAlm_kept h12 (Part.sub hp))
    clear_value s15
    extract_lets +onlyGivenNames -merge -useContext -underBinder s17
    have h18 : Kept l s0 s17 := by unfold s17; exact (Kept.ite (State.stageRun_kept h16 (Part.sub hp)) (Kept.ite h16 (State.toStage_kept h16 (Part.sub hp))))
    clear_value s17
    extract_lets +onlyGivenNames -merge -useContext -underBinder s19
    have h20 : Kept l s0 s19 := by unfold s19; exact (Kept.ite (State.offerFail_kept h18 (Part.sub hp)) h18)
    clear_value s19
    extract_lets +onlyGivenNames -merge -useContext -underBinder s21
    clear_value s21
    extract_lets +onlyGivenNames -merge -useContext -underBinder s23
    clear_value s23
    exact (State.modCall_kept (Kept.when (State.wr_kept h20 (CALL.CPDRIVE.cp_zoned (Part.at hp))) (fun _ h25 => (State.fault_kept h25 (CALL.FAULT.nocp_zoned (Part.at hp)) (Part.sub hp)))) (Part.sub hp))

theorem State.callApply_kept {l s0} {s} {x1} (h : Kept l s0 s) (hp : Part.within [.call, .page 0x28, .head 0x14, .head 0x24, .head 0x20, .alarm, .pair, .msg] l) :
    Kept l s0 (State.callApply s x1) := by
  unfold State.callApply
  split
  · rename_i a2 s13 q6
    have h1 : Kept l s0 s13 := Kept.snd q6 (State.callAct_kept (State.callEvaluate_kept h (Part.sub hp)) (Part.sub hp))
    extract_lets +onlyGivenNames -merge -useContext -underBinder s4
    have h5 : Kept l s0 s4 := by unfold s4; exact (State.callEvaluate_kept (State.callStat_kept h1 (Part.sub hp)) (Part.sub hp))
    clear_value s4
    exact (Kept.ite (State.uhlizSend_kept h5 (Part.sub hp)) (State.replyTo_kept h5 (Part.sub hp)))

theorem State.callEnqueue_kept {l s0} {s} {x1} (h : Kept l s0 s) (hp : Part.within [.page 0x28, .pair, .msg, .call, .head 0x14, .head 0x24, .head 0x20, .alarm] l) :
    Kept l s0 (State.callEnqueue s x1) := by
  unfold State.callEnqueue
  refine Kept.ite ?_ ?_
  · exact h
  · refine Kept.ite ?_ ?_
    · refine Kept.ite ?_ ?_
      · extract_lets +onlyGivenNames -merge -useContext -underBinder s1
        have h2 : Kept l s0 s1 := by unfold s1; exact (State.callStat_kept h (Part.sub hp))
        clear_value s1
        exact (Kept.ite (State.uhlizSend_kept h2 (Part.sub hp)) (State.replyTo_kept h2 (Part.sub hp)))
      · exact (State.modCall_kept (State.callStat_kept h (Part.sub hp)) (Part.sub hp))
    · exact (State.callApply_kept h (Part.sub hp))

theorem State.callCommand_kept {l s0} {s} {x1} {x2} {x3} {x4} {x5} {x6} (h : Kept l s0 s) (hp : Part.within [.page 0x28, .pair, .msg, .call, .head 0x14, .head 0x24, .head 0x20, .alarm] l) :
    Kept l s0 (State.callCommand s x1 x2 x3 x4 x5 x6) := by
  unfold State.callCommand
  extract_lets +onlyGivenNames -merge -useContext -underBinder s1
  clear_value s1
  exact (Kept.ite (State.callStat_kept (State.forward_kept h (Part.sub hp)) (Part.sub hp)) (State.callEnqueue_kept h (Part.sub hp)))

theorem State.callFreeze_kept {l s0} {s} (h : Kept l s0 s) (hp : Part.within [.call] l) :
    Kept l s0 (State.callFreeze s) := by
  unfold State.callFreeze
  exact (State.modCall_kept h (Part.sub hp))

theorem State.callRelease_kept {l s0} {s} (h : Kept l s0 s) (hp : Part.within [.call, .page 0x28] l) :
    Kept l s0 (State.callRelease s) := by
  unfold State.callRelease
  extract_lets +onlyGivenNames -merge -useContext -underBinder s1
  have h2 : Kept l s0 s1 := by unfold s1; exact (State.wr_kept (h.call (Part.at hp)) (CALL.STATE.duty_zoned (Part.at hp)))
  clear_value s1
  exact (Kept.when (State.armLook_kept (State.modCall_kept (State.wr_kept h2 (CALL.STATE.pers_zoned (Part.at hp))) (Part.sub hp)) (Part.sub hp)) (fun _ h3 => (State.callFreeze_kept h3 (Part.sub hp))))

theorem State.callCommitted_kept {l s0} {s} {x1} (h : Kept l s0 s) (hp : Part.within [.page 0x28] l) :
    Kept l s0 (State.callCommitted s x1) := by
  unfold State.callCommitted
  exact (Kept.ite h (State.wr_kept h (CALL.STATE.duty_zoned (Part.at hp))))

theorem State.callDrain_kept {l s0} {s} (h : Kept l s0 s) (hp : Part.within [.call, .page 0x28, .head 0x14, .head 0x24, .head 0x20, .alarm, .pair, .msg] l) :
    Kept l s0 (State.callDrain s) := by
  unfold State.callDrain
  exact (Kept.ite h (Kept.each (State.modCall_kept h (Part.sub hp)) (fun _ _ h1 => (State.callApply_kept h1 (Part.sub hp)))))

theorem State.callThaw_kept {l s0} {s} (h : Kept l s0 s) (hp : Part.within [.call, .page 0x28] l) :
    Kept l s0 (State.callThaw s) := by
  unfold State.callThaw
  split
  · exact h
  · extract_lets +onlyGivenNames -merge -useContext -underBinder s1
    clear_value s1
    exact (State.modCall_kept (State.wr_kept h (CALL.TCALL.t_call_zoned (Part.at hp))) (Part.sub hp))

theorem execCallAcknowledge_kept {l s0} {x0} {x1} {s} (h : Kept l s0 s) (hp : Part.within [.page 0x1, .status, .page 0x28, .pair, .msg, .call, .head 0x14, .head 0x24, .head 0x20, .alarm] l) :
    KeptR l s0 (execCallAcknowledge x0 x1 s) := by
  unfold execCallAcknowledge
  exact (State.command_kept h (fun h1 => (State.callCommand_kept h1 (Part.sub hp))) (Part.sub hp))

theorem execDutyOffer_kept {l s0} {x0} {x1} {x2} {s} (h : Kept l s0 s) (hp : Part.within [.page 0x1, .status, .page 0x28, .pair, .msg, .call, .head 0x14, .head 0x24, .head 0x20, .alarm] l) :
    KeptR l s0 (execDutyOffer x0 x1 x2 s) := by
  unfold execDutyOffer
  exact (State.command_kept h (fun h1 => (State.callCommand_kept h1 (Part.sub hp))) (Part.sub hp))

theorem execDutyConfirm_kept {l s0} {x0} {x1} {s} (h : Kept l s0 s) (hp : Part.within [.page 0x1, .status, .page 0x28, .pair, .msg, .call, .head 0x14, .head 0x24, .head 0x20, .alarm] l) :
    KeptR l s0 (execDutyConfirm x0 x1 s) := by
  unfold execDutyConfirm
  exact (State.command_kept h (fun h1 => (State.callCommand_kept h1 (Part.sub hp))) (Part.sub hp))

theorem execOfferCancel_kept {l s0} {x0} {s} (h : Kept l s0 s) (hp : Part.within [.page 0x1, .status, .page 0x28, .pair, .msg, .call, .head 0x14, .head 0x24, .head 0x20, .alarm] l) :
    KeptR l s0 (execOfferCancel x0 s) := by
  unfold execOfferCancel
  exact (State.command_kept h (fun h1 => (State.callCommand_kept h1 (Part.sub hp))) (Part.sub hp))

theorem execPersonnelArm_kept {l s0} {x0} {s} (h : Kept l s0 s) (hp : Part.within [.page 0x1, .status, .page 0x28, .pair, .msg, .call, .head 0x14, .head 0x24, .head 0x20, .alarm] l) :
    KeptR l s0 (execPersonnelArm x0 s) := by
  unfold execPersonnelArm
  exact (State.command_kept h (fun h1 => (State.callCommand_kept h1 (Part.sub hp))) (Part.sub hp))

theorem execPersonnelDisarm_kept {l s0} {x0} {s} (h : Kept l s0 s) (hp : Part.within [.page 0x1, .status, .page 0x28, .pair, .msg, .call, .head 0x14, .head 0x24, .head 0x20, .alarm] l) :
    KeptR l s0 (execPersonnelDisarm x0 s) := by
  unfold execPersonnelDisarm
  exact (State.command_kept h (fun h1 => (State.callCommand_kept h1 (Part.sub hp))) (Part.sub hp))

theorem execPersonnelReset_kept {l s0} {x0} {s} (h : Kept l s0 s) (hp : Part.within [.page 0x1, .status, .page 0x28, .pair, .msg, .call, .head 0x14, .head 0x24, .head 0x20, .alarm] l) :
    KeptR l s0 (execPersonnelReset x0 s) := by
  unfold execPersonnelReset
  exact (State.command_kept h (fun h1 => (State.callCommand_kept h1 (Part.sub hp))) (Part.sub hp))

theorem execCallPointAckInput_kept {l s0} {x0} {s} (h : Kept l s0 s) (hp : Part.within [.page 0x28, .pair, .msg, .call, .head 0x14, .head 0x24, .head 0x20, .alarm] l) :
    KeptR l s0 (execCallPointAckInput x0 s) := by
  unfold execCallPointAckInput
  refine KeptR.ite ?_ ?_
  · exact (KeptR.next h)
  · extract_lets +onlyGivenNames -merge -useContext -underBinder s1
    have h2 : Kept l s0 s1 := by unfold s1; exact (Kept.ite (State.callEnqueue_kept h (Part.sub hp)) h)
    clear_value s1
    exact (KeptR.next (State.callEnqueue_kept h2 (Part.sub hp)))

theorem execArmPinChange_kept {l s0} {x0} {s} (h : Kept l s0 s) (hp : Part.within [.page 0x28, .pair, .msg, .call, .head 0x14, .head 0x24, .head 0x20, .alarm] l) :
    KeptR l s0 (execArmPinChange x0 s) := by
  unfold execArmPinChange
  exact (KeptR.ite (KeptR.next h) (KeptR.next (State.callEnqueue_kept h (Part.sub hp))))

theorem execResetPinEdge_kept {l s0} {x0} {s} (h : Kept l s0 s) (hp : Part.within [.page 0x28, .pair, .msg, .call, .head 0x14, .head 0x24, .head 0x20, .alarm] l) :
    KeptR l s0 (execResetPinEdge x0 s) := by
  unfold execResetPinEdge
  extract_lets +onlyGivenNames -merge -useContext -underBinder s1
  clear_value s1
  exact (KeptR.ite (KeptR.next (State.callEnqueue_kept h (Part.sub hp))) (KeptR.next h))

theorem execOfferTimeout_kept {l s0} {s} (h : Kept l s0 s) (hp : Part.within [.page 0x28, .head 0x14] l) :
    KeptR l s0 (execOfferTimeout s) := by
  unfold execOfferTimeout
  exact (KeptR.ite (KeptR.next (State.offerFail_kept h (Part.sub hp))) (KeptR.next h))

theorem execCallPointLost_kept {l s0} {x0} {s} (h : Kept l s0 s) (hp : Part.within [.page 0x28, .head 0x14, .head 0x24, .head 0x20] l) :
    KeptR l s0 (execCallPointLost x0 s) := by
  unfold execCallPointLost
  refine KeptR.ite ?_ ?_
  · exact (KeptR.next h)
  · refine KeptR.ite ?_ ?_
    · exact (KeptR.next h)
    · extract_lets +onlyGivenNames -merge -useContext -underBinder s1
      have h2 : Kept l s0 s1 := by unfold s1; exact (State.irq_kept (State.wr_kept h (CALL.CPLOST.cp_zoned (Part.at hp))) (CALL.IRQRAW.cp_lost_zoned (Part.at hp)))
      clear_value s1
      exact (KeptR.next (Kept.ite (State.fault_kept h2 (CALL.FAULT.nocp_zoned (Part.at hp)) (Part.sub hp)) h2))

theorem execDemandStale_kept {l s0} {x0} {s} (h : Kept l s0 s) (hp : Part.within [.head 0x14] l) :
    KeptR l s0 (execDemandStale x0 s) := by
  unfold execDemandStale
  exact (KeptR.ite (KeptR.next (State.irq_kept h (CALL.IRQRAW.demand_stale_zoned (Part.at hp)))) (KeptR.next h))

end Sys2Proof.Machine
end

