-- ==== Sys2Proof/Laws/Bus.lean ====
section
/-!
SUPPORT. What each operation of Machine/Bus.lean can change: one lemma per operation, named after it. An operation started in a
state that has kept all parts of an earlier one but some keeps all but those and the parts that its lemma lists, and the
canonical form of the sparse maps with them.
-/

set_option Elab.async false

namespace Sys2Proof.Machine

theorem State.ackError_kept {l s0} {s} {x1} (h : Kept l s0 s) (hp : Part.within [.pages 0x30 0x34, .head 0x14] l) :
    Kept l s0 (State.ackError s x1) := by
  unfold State.ackError
  extract_lets +onlyGivenNames -merge -useContext -underBinder s1
  clear_value s1
  extract_lets +onlyGivenNames -merge -useContext -underBinder s3
  have h4 : Kept l s0 s3 := by unfold s3; exact (State.wr_kept h (BUS.STATE.ackseq_zoned (Part.at hp)))
  clear_value s3
  exact (Kept.ite (State.irq_kept (State.wr_kept h4 (BUS.STATE.solo_zoned (Part.at hp))) (BUS.IRQRAW.solo_zoned (Part.at hp))) h4)

theorem State.ackOk_kept {l s0} {s} {x1} (h : Kept l s0 s) (hp : Part.within [.pages 0x30 0x34] l) :
    Kept l s0 (State.ackOk s x1) := by
  unfold State.ackOk
  exact (State.wr_kept (State.wr_kept h (BUS.STATE.ackseq_zoned (Part.at hp))) (BUS.STATE.solo_zoned (Part.at hp)))

theorem State.modPort_kept {l s0} {s} {x1} {x2} (h : Kept l s0 s) (hp : Part.within [.ports] l) :
    Kept l s0 (State.modPort s x1 x2) := by
  unfold State.modPort
  exact (h.ports (Part.at hp))

theorem State.txOver_kept {l s0} {s} {x1} {x2} {x3} (h : Kept l s0 s) (hp : Part.within [.pages 0x30 0x34, .head 0x14] l) :
    Kept l s0 (State.txOver s x1 x2 x3) := by
  unfold State.txOver
  exact (State.irq_kept (State.wr_kept h (BUS.TXSTAT.state_zoned (Part.at hp))) (BUS.IRQRAW.tx_cancel_zoned (Part.at hp)))

theorem State.txCancel_kept {l s0} {s} {x1} {x2} (h : Kept l s0 s) (hp : Part.within [.ports, .pages 0x30 0x34, .head 0x14] l) :
    Kept l s0 (State.txCancel s x1 x2) := by
  unfold State.txCancel
  split
  · exact (State.modPort_kept (State.txOver_kept h (Part.sub hp)) (Part.sub hp))
  · exact (State.wr_kept h (BUS.TXSTAT.cancel_late_zoned (Part.at hp)))
  · exact h

theorem State.refreshPort_kept {l s0} {s} {x1} (h : Kept l s0 s) (hp : Part.within [.pages 0x30 0x34, .ports, .page 0x38] l) :
    Kept l s0 (State.refreshPort s x1) := by
  unfold State.refreshPort
  refine Kept.ite ?_ ?_
  · exact h
  · refine Kept.ite ?_ ?_
    · refine Kept.ite ?_ ?_
      · exact h
      · extract_lets +onlyGivenNames -merge -useContext -underBinder s1
        have h2 : Kept l s0 s1 := by unfold s1; exact (State.wr_kept (State.put_kept (State.wr_kept h (BUS.STATE.state_zoned (Part.at hp))) (BUS.STATE.shedstop_zoned (Part.at hp))) (BUS.STATE.recov_zoned (Part.at hp)))
        clear_value s1
        exact (Kept.when (State.modPort_kept h2 (Part.sub hp)) (fun _ h3 => (State.showScore_kept h3 (Part.sub hp))))
    · extract_lets +onlyGivenNames -merge -useContext -underBinder s4
      have h5 : Kept l s0 s4 := by unfold s4; exact (State.wr_kept h (BUS.STATE.shedstop_zoned (Part.at hp)))
      clear_value s4
      exact (Kept.ite (State.showScore_kept (State.wr_kept h5 (BUS.STATE.state_zoned (Part.at hp))) (Part.sub hp)) h5)

theorem State.busCommitted_kept {l s0} {s} {x1} {x2} (h : Kept l s0 s) (hp : Part.within [.ports, .pages 0x30 0x34] l) :
    Kept l s0 (State.busCommitted s x1 x2) := by
  unfold State.busCommitted
  extract_lets +onlyGivenNames -merge -useContext -underBinder s1
  have h2 : Kept l s0 s1 := by unfold s1; exact (State.modPort_kept h (Part.sub hp))
  clear_value s1
  extract_lets +onlyGivenNames -merge -useContext -underBinder s3
  clear_value s3
  extract_lets +onlyGivenNames -merge -useContext -underBinder s5
  have h6 : Kept l s0 s5 := by unfold s5; exact (Kept.ite h2 (Kept.ite (State.modPort_kept h2 (Part.sub hp)) (Kept.ite (State.modPort_kept (State.wr_kept h2 (BUS.STATE.state_zoned (Part.at hp))) (Part.sub hp)) h2)))
  clear_value s5
  exact (Kept.each h6 (fun _ _ h7 => (Kept.ite (State.wr_kept (State.wr_kept h7 (BUS.RXPROD.index_zoned (Part.at hp))) (BUS.RXREL.index_zoned (Part.at hp))) h7)))

theorem State.clearPort_kept {l s0} {s} {x1 x2} (h : Kept l s0 s) (hp : Part.within [.ports, .pages 0x30 0x34] l) : Kept l s0 (State.clearPort s x1 x2) := by
  unfold State.clearPort
  extract_lets +onlyGivenNames -merge -useContext -underBinder tsc lo s1
  have h1 : Kept l s0 s1 := (h.cleared (k := fun a => !(decide (lo ≤ a) && decide (a < lo + 0x7C0))) (Part.at hp) (p := .pages 0x30 0x34) (fun a c => by
    simp only [lo, Bool.not_eq_false', Bool.and_eq_true, Bool.or_eq_true, decide_eq_true_eq, Part.covers] at *; omega)).ports (Part.at hp)
  exact Kept.ite (State.wr_kept h1 (BUS.TSC.us_zoned (Part.at hp))) h1

theorem State.captureTsc_kept {l s0} {s} {x1} (h : Kept l s0 s) (hp : Part.within [.pages 0x30 0x34] l) :
    Kept l s0 (State.captureTsc s x1) := by
  unfold State.captureTsc
  exact (Kept.ite (State.wr_kept (State.wr_kept h (BUS.LAPTSC.us_zoned (Part.at hp))) (BUS.LAPSTIME.stime_zoned (Part.at hp))) h)

theorem State.txRequest_kept {l s0} {s} {x1} {x2} (h : Kept l s0 s) (hp : Part.within [.pages 0x30 0x34, .head 0x14] l) :
    Kept l s0 (State.txRequest s x1 x2) := by
  unfold State.txRequest
  extract_lets +onlyGivenNames -merge -useContext -underBinder s1
  clear_value s1
  refine Kept.ite ?_ ?_
  · exact h
  · extract_lets +onlyGivenNames -merge -useContext -underBinder s3
    have h4 : Kept l s0 s3 := by unfold s3; exact (State.wr_kept (State.wr_kept h (BUS.TXSTAT.attempts_zoned (Part.at hp))) (BUS.TXSTAT.cancel_late_zoned (Part.at hp)))
    clear_value s3
    exact (Kept.ite (State.txOver_kept h4 (Part.sub hp)) (State.wr_kept h4 (BUS.TXSTAT.state_zoned (Part.at hp))))

theorem State.refreshPorts_kept {l s0} {s} (h : Kept l s0 s) (hp : Part.within [.pages 0x30 0x34, .ports, .page 0x38] l) :
    Kept l s0 (State.refreshPorts s) := by
  unfold State.refreshPorts
  exact (Kept.each h (fun _ _ h1 => (State.refreshPort_kept h1 (Part.sub hp))))

theorem State.rxDrop_kept {l s0} {s} {x1} {x2} (h : Kept l s0 s) (hp : Part.within [.pages 0x30 0x34, .head 0x14] l) :
    Kept l s0 (State.rxDrop s x1 x2) := by
  unfold State.rxDrop
  exact (State.irq_kept (State.stick_kept h (BUS.RXDROP.count_zoned (Part.at hp)) (Zoned.ite (BUS.CNTOVF.drop0_zoned (Part.at hp)) (BUS.CNTOVF.drop1_zoned (Part.at hp))) (ZonedOpt.some (BUS.IRQRAW.cnt_ovf_zoned (Part.at hp)))) (BUS.IRQRAW.rx_drop_zoned (Part.at hp)))

theorem State.rxStore_kept {l s0} {s} {x1} {x2} {x3} {x4} (h : Kept l s0 s) (hp : Part.within [.pages 0x30 0x34, .head 0x14, .head 0x24, .page 0x42, .head 0x20, .page 0x41, .page 0x40, .sram, .sramBad, .sramWeak, .ports] l) :
    Kept l s0 (State.rxStore s x1 x2 x3 x4) := by
  unfold State.rxStore
  refine Kept.ite ?_ ?_
  · exact (State.rxDrop_kept h (Part.sub hp))
  · extract_lets +onlyGivenNames -merge -useContext -underBinder s1
    clear_value s1
    split
    · rename_i s14 q5
      have h3 : Kept l s0 s14 := Kept.snd q5 (State.boundWrite_kept h (Part.sub hp))
      exact (State.modPort_kept (State.irq_kept (State.wrap_kept h3 (BUS.RXPROD.index_zoned (Part.at hp))) (Zoned.ite (BUS.IRQRAW.rx0_zoned (Part.at hp)) (BUS.IRQRAW.rx1_zoned (Part.at hp)))) (Part.sub hp))
    · rename_i s17 q8
      have h6 : Kept l s0 s17 := Kept.snd q8 (State.boundWrite_kept h (Part.sub hp))
      exact (State.fault_kept (State.rxDrop_kept h6 (Part.sub hp)) (BUS.FAULT.rxwrite_zoned (Part.at hp)) (Part.sub hp))

theorem State.busOff_kept {l s0} {s} {x1} (h : Kept l s0 s) (hp : Part.within [.pages 0x30 0x34, .head 0x14, .ports, .head 0x24, .head 0x20] l) :
    Kept l s0 (State.busOff s x1) := by
  unfold State.busOff
  extract_lets +onlyGivenNames -merge -useContext -underBinder s1
  have h2 : Kept l s0 s1 := by
    unfold s1
    split
    · exact (Kept.ite (State.txOver_kept h (Part.sub hp)) (State.modPort_kept (State.wr_kept h (BUS.TXSTAT.state_zoned (Part.at hp))) (Part.sub hp)))
    · exact h
  clear_value s1
  exact (State.stick_kept (State.fault_kept (State.irq_kept (State.wr_kept (State.wr_kept h2 (BUS.STATE.state_zoned (Part.at hp))) (BUS.STATE.recov_zoned (Part.at hp))) (BUS.IRQRAW.busoff_zoned (Part.at hp))) (BUS.FAULT.busoff_zoned (Part.at hp)) (Part.sub hp)) (BUS.BUSOFFCNT.count_zoned (Part.at hp)) (BUS.CNTOVF.busoff_zoned (Part.at hp)) (ZonedOpt.some (BUS.IRQRAW.cnt_ovf_zoned (Part.at hp))))

theorem State.rxRelease_kept {l s0} {s} {x1} {x2} {x3} (h : Kept l s0 s) (hp : Part.within [.pages 0x30 0x34] l) :
    Kept l s0 (State.rxRelease s x1 x2 x3) := by
  unfold State.rxRelease
  exact (Kept.ite (State.wr_kept h (BUS.RXREL.index_zoned (Part.at hp))) h)

theorem State.frameOver_kept {l s0} {s} {x1} (h : Kept l s0 s) (hp : Part.within [.ports, .pages 0x30 0x34, .page 0x38] l) :
    Kept l s0 (State.frameOver s x1) := by
  unfold State.frameOver
  extract_lets +onlyGivenNames -merge -useContext -underBinder s1
  have h2 : Kept l s0 s1 := by unfold s1; exact (Kept.ite (State.modPort_kept (Kept.ite (State.wr_kept h (BUS.STATE.state_zoned (Part.at hp))) h) (Part.sub hp)) h)
  clear_value s1
  exact (State.refreshPort_kept h2 (Part.sub hp))

theorem State.rxOffer_kept {l s0} {s} {x1} {x2} {x3} {x4} {x5} (h : Kept l s0 s) (hp : Part.within [.ports, .dma, .pages 0x30 0x34, .head 0x14, .head 0x24, .page 0x42, .head 0x20, .page 0x41, .page 0x40, .sram, .sramBad, .sramWeak] l) :
    Kept l s0 (State.rxOffer s x1 x2 x3 x4 x5) := by
  unfold State.rxOffer
  split
  · exact h
  · extract_lets +onlyGivenNames -merge -useContext -underBinder s1
    clear_value s1
    extract_lets +onlyGivenNames -merge -useContext -underBinder s3
    clear_value s3
    extract_lets +onlyGivenNames -merge -useContext -underBinder s5
    clear_value s5
    extract_lets +onlyGivenNames -merge -useContext -underBinder s7
    have h8 : Kept l s0 s7 := by unfold s7; exact (State.modPort_kept h (Part.sub hp))
    clear_value s7
    exact (Kept.ite (h8.dma (Part.at hp)) (State.rxStore_kept h8 (Part.sub hp)))

theorem State.showErrors_kept {l s0} {s} {x1} (h : Kept l s0 s) (hp : Part.within [.pages 0x30 0x34, .head 0x14] l) :
    Kept l s0 (State.showErrors s x1) := by
  unfold State.showErrors
  extract_lets +onlyGivenNames -merge -useContext -underBinder s1
  clear_value s1
  extract_lets +onlyGivenNames -merge -useContext -underBinder s3
  clear_value s3
  extract_lets +onlyGivenNames -merge -useContext -underBinder s5
  clear_value s5
  extract_lets +onlyGivenNames -merge -useContext -underBinder s7
  have h8 : Kept l s0 s7 := by unfold s7; exact (State.put_kept (State.wr_kept (State.wr_kept h (BUS.ERRCNT.tec_zoned (Part.at hp))) (BUS.ERRCNT.rec_zoned (Part.at hp))) (BUS.ERRCNT.rp_zoned (Part.at hp)))
  clear_value s7
  extract_lets +onlyGivenNames -merge -useContext -underBinder s9
  have h10 : Kept l s0 s9 := by unfold s9; exact (Kept.ite (State.irq_kept h8 (BUS.IRQRAW.ewarn_zoned (Part.at hp))) h8)
  clear_value s9
  exact (State.put_kept h10 (BUS.STATE.ewarn_zoned (Part.at hp)))

theorem State.setErrors_kept {l s0} {s} {x1} {x2} {x3} (h : Kept l s0 s) (hp : Part.within [.ports, .pages 0x30 0x34, .head 0x14, .head 0x24, .head 0x20] l) :
    Kept l s0 (State.setErrors s x1 x2 x3) := by
  unfold State.setErrors
  extract_lets +onlyGivenNames -merge -useContext -underBinder s1
  have h2 : Kept l s0 s1 := by unfold s1; exact (State.modPort_kept h (Part.sub hp))
  clear_value s1
  extract_lets +onlyGivenNames -merge -useContext -underBinder s3
  have h4 : Kept l s0 s3 := by unfold s3; exact (Kept.ite h2 (Kept.ite (State.busOff_kept h2 (Part.sub hp)) (Kept.ite (Kept.ite (State.irq_kept (State.wr_kept h2 (BUS.STATE.state_zoned (Part.at hp))) (BUS.IRQRAW.epassive_zoned (Part.at hp))) h2) (State.wr_kept h2 (BUS.STATE.state_zoned (Part.at hp))))))
  clear_value s3
  exact (State.showErrors_kept h4 (Part.sub hp))

theorem State.txReturn_kept {l s0} {s} {x1} {x2} (h : Kept l s0 s) (hp : Part.within [.pages 0x30 0x34, .head 0x14] l) :
    Kept l s0 (State.txReturn s x1 x2) := by
  unfold State.txReturn
  exact (Kept.ite (State.txOver_kept h (Part.sub hp)) (Kept.ite (State.txOver_kept h (Part.sub hp)) (State.wr_kept h (BUS.TXSTAT.state_zoned (Part.at hp)))))

end Sys2Proof.Machine
end

