-- ==== Sys2Proof/Laws/Sec.lean ====
section
/-!
SUPPORT. What each operation of Machine/Sec.lean can change: one lemma per operation, named after it. An operation started in a
state that has kept all parts of an earlier one but some keeps all but those and the parts that its lemma lists, and the
canonical form of the sparse maps with them.
-/

set_option Elab.async false

namespace Sys2Proof.Machine

theorem State.alarmClear_kept {l s0} {s} (h : Kept l s0 s) (hp : Part.within [.page 0x5A] l) :
    Kept l s0 (State.alarmClear s) := by
  unfold State.alarmClear
  extract_lets +onlyGivenNames -merge -useContext -underBinder s1
  clear_value s1
  exact (Kept.ite h (State.wr_kept h (TAMP.STAT.alarm_zoned (Part.at hp))))

theorem State.modSec_kept {l s0} {s} {x1} (h : Kept l s0 s) (hp : Part.within [.sec] l) :
    Kept l s0 (State.modSec s x1) := by
  unfold State.modSec
  exact (h.sec (Part.at hp))

theorem State.secStat_kept {l s0} {s} {x1} {x2} (h : Kept l s0 s) (hp : Part.within [.page 0x58] l) :
    Kept l s0 (State.secStat s x1 x2) := by
  unfold State.secStat
  exact (State.cmdStat_kept h (SEC.CMDSTAT.state_zoned (Part.at hp)) (SEC.CMDSTAT.reason_zoned (Part.at hp)))

theorem State.secDone_kept {l s0} {s} {x1} (h : Kept l s0 s) (hp : Part.within [.head 0x14] l) :
    Kept l s0 (State.secDone s x1) := by
  unfold State.secDone
  exact (Kept.ite (State.irq_kept h (SEC.IRQRAW.gen_done_zoned (Part.at hp))) (Kept.ite (State.irq_kept h (SEC.IRQRAW.attest_done_zoned (Part.at hp))) (State.irq_kept h (SEC.IRQRAW.img_done_zoned (Part.at hp)))))

theorem State.secEnd_kept {l s0} {s} {x1} (h : Kept l s0 s) (hp : Part.within [.sec, .page 0x58, .head 0x14] l) :
    Kept l s0 (State.secEnd s x1) := by
  unfold State.secEnd
  split
  · exact h
  · extract_lets +onlyGivenNames -merge -useContext -underBinder s1
    have h2 : Kept l s0 s1 := by unfold s1; exact (State.modSec_kept (State.secStat_kept h (Part.sub hp)) (Part.sub hp))
    clear_value s1
    exact (State.secDone_kept (Kept.ite (Kept.each h2 (fun _ _ h3 => (State.wr_kept h3 (SEC.SIG.bytes_zoned (Part.at hp))))) h2) (Part.sub hp))

theorem State.uncheckImages_kept {l s0} {s} (h : Kept l s0 s) (hp : Part.within [.page 0x58] l) :
    Kept l s0 (State.uncheckImages s) := by
  unfold State.uncheckImages
  exact (Kept.each h (fun _ _ h1 => (State.wr_kept (State.wr_kept (State.wr_kept h1 (SEC.IMGSTAT.state_zoned (Part.at hp))) (SEC.IMGSTAT.reason_zoned (Part.at hp))) (SEC.IMGSEQ.seq_zoned (Part.at hp)))))

theorem State.clearSec_kept {l s0} {s} {x1} (h : Kept l s0 s) (hp : Part.within [.sec, .page 0x58, .head 0x14] l) :
    Kept l s0 (State.clearSec s x1) := by
  unfold State.clearSec
  extract_lets +onlyGivenNames -merge -useContext -underBinder s1
  have h2 : Kept l s0 s1 := by unfold s1; exact (State.secEnd_kept h (Part.sub hp))
  clear_value s1
  extract_lets +onlyGivenNames -merge -useContext -underBinder s3
  clear_value s3
  exact (State.uncheckImages_kept (State.wr_kept (State.clearRange_kept h2 (n := 88) (Part.at hp) rfl) (SEC.CMDSTAT_zoned (Part.at hp))) (Part.sub hp))

theorem State.quiesceSec_kept {l s0} {s} (h : Kept l s0 s) (hp : Part.within [.page 0x58, .sec, .head 0x14] l) :
    Kept l s0 (State.quiesceSec s) := by
  unfold State.quiesceSec
  exact (State.uncheckImages_kept (State.secEnd_kept h (Part.sub hp)) (Part.sub hp))

theorem State.showNoKey_kept {l s0} {s} (h : Kept l s0 s) (hp : Part.within [.page 0x34, .head 0x24, .head 0x14, .head 0x20] l) :
    Kept l s0 (State.showNoKey s) := by
  unfold State.showNoKey
  exact (Kept.ite h (Kept.ite (State.wr_kept h (MSG.STAT.unauth_zoned (Part.at hp))) (Kept.ite h (State.fault_kept (State.wr_kept h (MSG.STAT.unauth_zoned (Part.at hp))) (MSG.FAULT.nokey_zoned (Part.at hp)) (Part.sub hp)))))

theorem State.tamperRecord_kept {l s0} {s} {x1} {x2} {x3} (h : Kept l s0 s) (hp : Part.within [.recorder, .page 0x49, .head 0x14, .head 0x24, .page 0x42, .head 0x20, .page 0x41, .page 0x40, .sram, .sramBad, .sramWeak, .msg, .page 0x178] l) :
    Kept l s0 (State.tamperRecord s x1 x2 x3) := by
  unfold State.tamperRecord
  exact (State.recEvent_kept h (Part.sub hp))

theorem State.tellStow_kept {l s0} {s} (h : Kept l s0 s) (hp : Part.within [.sec, .recorder, .page 0x49, .head 0x14, .head 0x24, .page 0x42, .head 0x20, .page 0x41, .page 0x40, .sram, .sramBad, .sramWeak, .msg, .page 0x178] l) :
    Kept l s0 (State.tellStow s) := by
  unfold State.tellStow
  exact (State.modSec_kept (Kept.each h (fun _ _ h1 => (State.tamperRecord_kept h1 (Part.sub hp)))) (Part.sub hp))

theorem State.releaseSec_kept {l s0} {s} (h : Kept l s0 s) (hp : Part.within [.page 0x58, .page 0x48, .head 0x14, .head 0x24, .head 0x20] l) :
    Kept l s0 (State.releaseSec s) := by
  unfold State.releaseSec
  extract_lets +onlyGivenNames -merge -useContext -underBinder s1
  have h2 : Kept l s0 s1 := by unfold s1; exact (State.showIdentity_kept h (Part.sub hp))
  clear_value s1
  extract_lets +onlyGivenNames -merge -useContext -underBinder s3
  have h4 : Kept l s0 s3 := by unfold s3; exact (Kept.ite h2 (State.fault_kept h2 (SEC.FAULT.identity_zoned (Part.at hp)) (Part.sub hp)))
  clear_value s3
  exact (Kept.when h4 (fun _ h5 => (Kept.each h5 (fun _ _ h6 => (State.wr_kept h6 (SEC.IMGSTAT.state_zoned (Part.at hp)))))))

theorem State.tamperOver_kept {l s0} {s} {x1} (h : Kept l s0 s) (hp : Part.within [.page 0x5A] l) :
    Kept l s0 (State.tamperOver s x1) := by
  unfold State.tamperOver
  exact (State.wr_kept h (TAMP.STAT.active_zoned (Part.at hp)))

theorem State.authWindow_kept {l s0} {s} (h : Kept l s0 s) (hp : Part.within [.sec, .page 0x5A] l) :
    Kept l s0 (State.authWindow s) := by
  unfold State.authWindow
  extract_lets +onlyGivenNames -merge -useContext -underBinder s1
  clear_value s1
  extract_lets +onlyGivenNames -merge -useContext -underBinder s3
  have h4 : Kept l s0 s3 := by unfold s3; exact (Kept.ite h (State.wr_kept (State.modSec_kept h (Part.sub hp)) (TAMP.AUTHWIN.count_zoned (Part.at hp))))
  clear_value s3
  exact (Kept.ite (State.tamperOver_kept h4 (Part.sub hp)) h4)

theorem State.imageSee_kept {l s0} {s} {x1} (h : Kept l s0 s) (hp : Part.within [.page 0x48, .head 0x14, .head 0x24, .head 0x20] l) :
    Kept l s0 (State.imageSee s x1) := by
  unfold State.imageSee
  extract_lets +onlyGivenNames -merge -useContext -underBinder s1
  clear_value s1
  extract_lets +onlyGivenNames -merge -useContext -underBinder s3
  clear_value s3
  extract_lets +onlyGivenNames -merge -useContext -underBinder s5
  clear_value s5
  extract_lets +onlyGivenNames -merge -useContext -underBinder s7
  have h8 : Kept l s0 s7 := by unfold s7; exact (State.storeSee_kept h (Part.sub hp))
  clear_value s7
  extract_lets +onlyGivenNames -merge -useContext -underBinder s9
  have h10 : Kept l s0 s9 := by unfold s9; exact (Kept.ite (State.storeSee_kept h8 (Part.sub hp)) h8)
  clear_value s9
  exact (Kept.ite (State.storeSee_kept h10 (Part.sub hp)) h10)

theorem State.imageChecked_kept {l s0} {s} {x1} (h : Kept l s0 s) (hp : Part.within [.page 0x48, .head 0x14, .head 0x24, .head 0x20, .page 0x58] l) :
    Kept l s0 (State.imageChecked s x1) := by
  unfold State.imageChecked
  extract_lets +onlyGivenNames -merge -useContext -underBinder s1
  clear_value s1
  extract_lets +onlyGivenNames -merge -useContext -underBinder s3
  have h4 : Kept l s0 s3 := by unfold s3; exact (State.imageSee_kept h (Part.sub hp))
  clear_value s3
  extract_lets +onlyGivenNames -merge -useContext -underBinder s5
  have h6 : Kept l s0 s5 := by unfold s5; exact (State.wr_kept (State.wr_kept h4 (SEC.IMGSTAT.reason_zoned (Part.at hp))) (SEC.IMGSTAT.state_zoned (Part.at hp)))
  clear_value s5
  exact (State.wr_kept h6 (SEC.IMGSEQ.seq_zoned (Part.at hp)))

theorem State.showSlot_kept {l s0} {s} {x1} (h : Kept l s0 s) (hp : Part.within [.page 0x59] l) :
    Kept l s0 (State.showSlot s x1) := by
  unfold State.showSlot
  split
  · exact (State.wr_kept (State.wr_kept h (KEYV.STAT.valid_zoned (Part.at hp))) (KEYV.KCV.kcv_zoned (Part.at hp)))
  · extract_lets +onlyGivenNames -merge -useContext -underBinder s1
    clear_value s1
    exact (State.wr_kept (State.wr_kept h (KEYV.STAT.valid_zoned (Part.at hp))) (KEYV.KCV.kcv_zoned (Part.at hp)))

theorem State.secCommand_kept {l s0} {s} {x1} (h : Kept l s0 s) (hp : Part.within [.page 0x58, .freeCount, .page 0x59, .sec, .head 0x14, .page 0x48, .head 0x24, .head 0x20, .store, .nvm] l) :
    Kept l s0 (State.secCommand s x1) := by
  unfold State.secCommand
  refine Kept.ite ?_ ?_
  · exact (State.secStat_kept h (Part.sub hp))
  · split
    · refine Kept.ite ?_ ?_
      · exact (State.secStat_kept h (Part.sub hp))
      · split
        · rename_i w2 s13 q14
          have h1 : Kept l s0 s13 := Kept.snd q14 (State.drawBits_kept h (Part.sub hp))
          split
          · rename_i x5 s26 q13
            have h4 : Kept l s0 s26 := Kept.snd q13 (State.drawBits_kept h1 (Part.sub hp))
            extract_lets +onlyGivenNames -merge -useContext -underBinder s7
            clear_value s7
            extract_lets +onlyGivenNames -merge -useContext -underBinder s9
            clear_value s9
            extract_lets +onlyGivenNames -merge -useContext -underBinder s11
            have h12 : Kept l s0 s11 := by unfold s11; exact (State.showSlot_kept (State.modSec_kept h4 (Part.sub hp)) (Part.sub hp))
            clear_value s11
            exact (State.secDone_kept (State.secStat_kept (State.showIdentity_kept (State.storeIdentity_kept h12 (Part.sub hp)) (Part.sub hp)) (Part.sub hp)) (Part.sub hp))
    · exact (Kept.ite (State.secStat_kept h (Part.sub hp)) (State.modSec_kept (State.secStat_kept h (Part.sub hp)) (Part.sub hp)))
    · exact (State.wr_kept (State.wr_kept (State.wr_kept (State.modSec_kept (State.secStat_kept h (Part.sub hp)) (Part.sub hp)) (SEC.IMGSTAT.state_zoned (Part.at hp))) (SEC.IMGSTAT.reason_zoned (Part.at hp))) (SEC.IMGSEQ.seq_zoned (Part.at hp)))
    · exact (State.wr_kept (State.wr_kept (State.wr_kept (State.modSec_kept (State.secStat_kept h (Part.sub hp)) (Part.sub hp)) (SEC.IMGSTAT.state_zoned (Part.at hp))) (SEC.IMGSTAT.reason_zoned (Part.at hp))) (SEC.IMGSEQ.seq_zoned (Part.at hp)))
    · exact (State.secStat_kept h (Part.sub hp))

theorem State.keyEnd_kept {l s0} {s} {x1} {x2} (h : Kept l s0 s) (hp : Part.within [.sec, .page 0x59] l) :
    Kept l s0 (State.keyEnd s x1 x2) := by
  unfold State.keyEnd
  exact (State.modSec_kept (State.cmdStat_kept h (KEYV.CMDSTAT.state_zoned (Part.at hp)) (KEYV.CMDSTAT.reason_zoned (Part.at hp))) (Part.sub hp))

theorem State.vaultErase_kept {l s0} {s} {x1} (h : Kept l s0 s) (hp : Part.within [.sec, .page 0x5A, .page 0x59, .head 0x24, .head 0x14, .head 0x20, .page 0x51, .page 0x3, .page 0x34, .page 0x58, .page 0x48] l) :
    Kept l s0 (State.vaultErase s x1) := by
  unfold State.vaultErase
  refine Kept.ite ?_ ?_
  · exact h
  · extract_lets +onlyGivenNames -merge -useContext -underBinder s1
    have h2 : Kept l s0 s1 := by unfold s1; exact (State.wr_kept (State.modSec_kept h (Part.sub hp)) (TAMP.STAT.erasing_zoned (Part.at hp)))
    clear_value s1
    extract_lets +onlyGivenNames -merge -useContext -underBinder s3
    have h4 : Kept l s0 s3 := by unfold s3; exact (Kept.each h2 (fun _ _ h5 => (State.showSlot_kept h5 (Part.sub hp))))
    clear_value s3
    extract_lets +onlyGivenNames -merge -useContext -underBinder s6
    have h7 : Kept l s0 s6 := by unfold s6; exact (State.fault_kept (State.irq_kept (State.stick_kept (State.wr_kept h4 (KEYV.STAT.erased_zoned (Part.at hp))) (KEYV.ERASECNT.count_zoned (Part.at hp)) (KEYV.CNTOVF.erase_zoned (Part.at hp)) (ZonedOpt.some (KEYV.IRQRAW.cnt_event_zoned (Part.at hp)))) (KEYV.IRQRAW.erased_zoned (Part.at hp))) (KEYV.FAULT.erased_zoned (Part.at hp)) (Part.sub hp))
    clear_value s6
    extract_lets +onlyGivenNames -merge -useContext -underBinder s8
    have h9 : Kept l s0 s8 := by unfold s8; exact (State.fault_kept h7 (TAMP.FAULT.erase_zoned (Part.at hp)) (Part.sub hp))
    clear_value s8
    extract_lets +onlyGivenNames -merge -useContext -underBinder s10
    have h11 : Kept l s0 s10 := by unfold s10; exact (Kept.ite (State.wr_kept (State.clearRange_kept h9 (n := 81) (Part.at hp) rfl) (BKPM.STAT.erased_zoned (Part.at hp))) h9)
    clear_value s10
    extract_lets +onlyGivenNames -merge -useContext -underBinder s12
    have h13 : Kept l s0 s12 := by unfold s12; exact (State.wr_kept h11 (RST.CAUSE.cause_zoned (Part.at hp)))
    clear_value s12
    exact (Kept.ite (State.showNoKey_kept (State.irq_kept (State.wr_kept (State.wr_kept (State.releaseSec_kept (State.clearSec_kept h13 (Part.sub hp)) (Part.sub hp)) (RST.LAST.reach_zoned (Part.at hp))) (RST.LAST.page_zoned (Part.at hp))) (RST.IRQRAW.released_zoned (Part.at hp))) (Part.sub hp)) (State.showNoKey_kept h13 (Part.sub hp)))

theorem State.keyCommand_kept {l s0} {s} {x1} {x2} (h : Kept l s0 s) (hp : Part.within [.sec, .page 0x59, .page 0x34, .head 0x24, .head 0x14, .head 0x20, .page 0x58, .page 0x48, .page 0x5A, .page 0x51, .page 0x3, .recorder, .page 0x49, .page 0x42, .page 0x41, .page 0x40, .sram, .sramBad, .sramWeak, .msg, .page 0x178] l) :
    Kept l s0 (State.keyCommand s x1 x2) := by
  unfold State.keyCommand
  refine Kept.ite ?_ ?_
  · exact (State.keyEnd_kept h (Part.sub hp))
  · split
    · refine Kept.ite ?_ ?_
      · exact (State.keyEnd_kept h (Part.sub hp))
      · refine Kept.ite ?_ ?_
        · exact (State.keyEnd_kept h (Part.sub hp))
        · refine Kept.ite ?_ ?_
          · exact (State.keyEnd_kept h (Part.sub hp))
          · extract_lets +onlyGivenNames -merge -useContext -underBinder s1
            clear_value s1
            extract_lets +onlyGivenNames -merge -useContext -underBinder s3
            have h4 : Kept l s0 s3 := by unfold s3; exact (State.modSec_kept h (Part.sub hp))
            clear_value s3
            exact (State.showNoKey_kept (State.keyEnd_kept (State.irq_kept (State.showSlot_kept h4 (Part.sub hp)) (KEYV.IRQRAW.loaded_zoned (Part.at hp))) (Part.sub hp)) (Part.sub hp))
    · refine Kept.ite ?_ ?_
      · exact (State.keyEnd_kept h (Part.sub hp))
      · extract_lets +onlyGivenNames -merge -useContext -underBinder s5
        have h6 : Kept l s0 s5 := by unfold s5; exact (State.modSec_kept h (Part.sub hp))
        clear_value s5
        extract_lets +onlyGivenNames -merge -useContext -underBinder s7
        have h8 : Kept l s0 s7 := by unfold s7; exact (State.keyEnd_kept (State.irq_kept (State.showSlot_kept h6 (Part.sub hp)) (KEYV.IRQRAW.loaded_zoned (Part.at hp))) (Part.sub hp))
        clear_value s7
        exact (State.showNoKey_kept (Kept.ite (State.showIdentity_kept h8 (Part.sub hp)) h8) (Part.sub hp))
    · extract_lets +onlyGivenNames -merge -useContext -underBinder s9
      have h10 : Kept l s0 s9 := by unfold s9; exact (State.keyEnd_kept (State.vaultErase_kept h (Part.sub hp)) (Part.sub hp))
      clear_value s9
      exact (State.tamperRecord_kept h10 (Part.sub hp))
    · exact (State.keyEnd_kept h (Part.sub hp))

theorem State.securityAlarm_kept {l s0} {s} (h : Kept l s0 s) (hp : Part.within [.head 0x24, .head 0x14, .head 0x20, .page 0x5A] l) :
    Kept l s0 (State.securityAlarm s) := by
  unfold State.securityAlarm
  extract_lets +onlyGivenNames -merge -useContext -underBinder s1
  have h2 : Kept l s0 s1 := by unfold s1; exact (State.fault_kept h (TAMP.FAULT.alarm_zoned (Part.at hp)) (Part.sub hp))
  clear_value s1
  exact (Kept.ite h2 (State.irq_kept (State.wr_kept h2 (TAMP.STAT.alarm_zoned (Part.at hp))) (TAMP.IRQRAW.alarm_zoned (Part.at hp))))

theorem State.tamperDetect_kept {l s0} {s} {x1} (h : Kept l s0 s) (hp : Part.within [.page 0x5A, .head 0x14, .sec, .page 0x59, .head 0x24, .head 0x20, .page 0x51, .page 0x3, .page 0x34, .page 0x58, .page 0x48, .recorder, .page 0x49, .page 0x42, .page 0x41, .page 0x40, .sram, .sramBad, .sramWeak, .msg, .page 0x178] l) :
    Kept l s0 (State.tamperDetect s x1) := by
  unfold State.tamperDetect
  extract_lets +onlyGivenNames -merge -useContext -underBinder s1
  clear_value s1
  refine Kept.ite ?_ ?_
  · exact h
  · extract_lets +onlyGivenNames -merge -useContext -underBinder s3
    clear_value s3
    extract_lets +onlyGivenNames -merge -useContext -underBinder s5
    clear_value s5
    extract_lets +onlyGivenNames -merge -useContext -underBinder s7
    have h8 : Kept l s0 s7 := by unfold s7; exact (Kept.ite (State.wr_kept (State.wr_kept h (TAMP.FIRST.bcd_zoned (Part.at hp))) (TAMP.FIRST.bcd_zoned (Part.at hp))) h)
    clear_value s7
    extract_lets +onlyGivenNames -merge -useContext -underBinder s9
    have h10 : Kept l s0 s9 := by unfold s9; exact (State.irq_kept (State.wr_kept h8 (TAMP.STAT.latched_zoned (Part.at hp))) (TAMP.IRQRAW.event_zoned (Part.at hp)))
    clear_value s9
    extract_lets +onlyGivenNames -merge -useContext -underBinder s11
    have h12 : Kept l s0 s11 := by unfold s11; exact (Kept.ite (State.modSec_kept (State.wr_kept h10 (TAMP.STAT.bkp_zoned (Part.at hp))) (Part.sub hp)) h10)
    clear_value s11
    extract_lets +onlyGivenNames -merge -useContext -underBinder s13
    have h14 : Kept l s0 s13 := by unfold s13; exact (Kept.ite (State.vaultErase_kept h12 (Part.sub hp)) h12)
    clear_value s13
    refine Kept.ite ?_ ?_
    · exact h14
    · extract_lets +onlyGivenNames -merge -useContext -underBinder s15
      have h16 : Kept l s0 s15 := by unfold s15; exact (Kept.ite (State.tamperRecord_kept h14 (Part.sub hp)) (State.modSec_kept h14 (Part.sub hp)))
      clear_value s15
      exact (Kept.ite (State.securityAlarm_kept h16 (Part.sub hp)) h16)

theorem State.tamperBegin_kept {l s0} {s} {x1} (h : Kept l s0 s) (hp : Part.within [.page 0x5A, .head 0x14, .sec, .page 0x59, .head 0x24, .head 0x20, .page 0x51, .page 0x3, .page 0x34, .page 0x58, .page 0x48, .recorder, .page 0x49, .page 0x42, .page 0x41, .page 0x40, .sram, .sramBad, .sramWeak, .msg, .page 0x178] l) :
    Kept l s0 (State.tamperBegin s x1) := by
  unfold State.tamperBegin
  exact (State.tamperDetect_kept (State.wr_kept h (TAMP.STAT.active_zoned (Part.at hp))) (Part.sub hp))

theorem State.macFailed_kept {l s0} {s} (h : Kept l s0 s) (hp : Part.within [.sec, .page 0x5A, .head 0x14, .page 0x59, .head 0x24, .head 0x20, .page 0x51, .page 0x3, .page 0x34, .page 0x58, .page 0x48, .recorder, .page 0x49, .page 0x42, .page 0x41, .page 0x40, .sram, .sramBad, .sramWeak, .msg, .page 0x178] l) :
    Kept l s0 (State.macFailed s) := by
  unfold State.macFailed
  extract_lets +onlyGivenNames -merge -useContext -underBinder s1
  clear_value s1
  extract_lets +onlyGivenNames -merge -useContext -underBinder s3
  have h4 : Kept l s0 s3 := by unfold s3; exact (State.wr_kept (State.modSec_kept h (Part.sub hp)) (TAMP.AUTHWIN.count_zoned (Part.at hp)))
  clear_value s3
  exact (Kept.ite (State.tamperBegin_kept h4 (Part.sub hp)) h4)

theorem State.tamperSample_kept {l s0} {s} (h : Kept l s0 s) (hp : Part.within [.sec, .page 0x5A, .head 0x14, .page 0x59, .head 0x24, .head 0x20, .page 0x51, .page 0x3, .page 0x34, .page 0x58, .page 0x48, .recorder, .page 0x49, .page 0x42, .page 0x41, .page 0x40, .sram, .sramBad, .sramWeak, .msg, .page 0x178] l) :
    Kept l s0 (State.tamperSample s) := by
  unfold State.tamperSample
  exact (Kept.each h (fun _ _ h1 => (Kept.ite (State.modSec_kept (Kept.ite (State.tamperOver_kept h1 (Part.sub hp)) h1) (Part.sub hp)) (Kept.ite h1 (Kept.ite (State.tamperBegin_kept h1 (Part.sub hp)) (State.modSec_kept h1 (Part.sub hp)))))))

theorem State.tellBackup_kept {l s0} {s} (h : Kept l s0 s) (hp : Part.within [.sec, .recorder, .page 0x49, .head 0x14, .head 0x24, .page 0x42, .head 0x20, .page 0x41, .page 0x40, .sram, .sramBad, .sramWeak, .msg, .page 0x178, .page 0x5A] l) :
    Kept l s0 (State.tellBackup s) := by
  unfold State.tellBackup
  extract_lets +onlyGivenNames -merge -useContext -underBinder s1
  clear_value s1
  refine State.modSec_kept ?_ (Part.sub hp)
  refine Kept.each h (fun _ _ h3 => ?_)
  extract_lets +onlyGivenNames -merge -useContext -underBinder s4
  clear_value s4
  extract_lets +onlyGivenNames -merge -useContext -underBinder s6
  have h7 : Kept l s0 s6 := by unfold s6; exact (State.tamperRecord_kept h3 (Part.sub hp))
  clear_value s6
  exact (Kept.ite (State.securityAlarm_kept h7 (Part.sub hp)) h7)

theorem State.tamperPin_kept {l s0} {s} {x1} {x2} (h : Kept l s0 s) (hp : Part.within [.sec] l) :
    Kept l s0 (State.tamperPin s x1 x2) := by
  unfold State.tamperPin
  exact (State.modSec_kept h (Part.sub hp))

theorem execPacerStop_kept {l s0} {s} (h : Kept l s0 s) (hp : Part.within [.page 0x5A, .head 0x14, .sec, .page 0x59, .head 0x24, .head 0x20, .page 0x51, .page 0x3, .page 0x34, .page 0x58, .page 0x48, .recorder, .page 0x49, .page 0x42, .page 0x41, .page 0x40, .sram, .sramBad, .sramWeak, .msg, .page 0x178, .page 0x50, .rtc] l) :
    KeptR l s0 (execPacerStop s) := by
  unfold execPacerStop
  exact (KeptR.next (State.tamperBegin_kept (State.wr_kept (State.setOsf_kept h (Part.sub hp)) (RTC.STAT.rcfb_zoned (Part.at hp))) (Part.sub hp)))

theorem execPacerRecovered_kept {l s0} {s} (h : Kept l s0 s) (hp : Part.within [.page 0x5A, .page 0x50] l) :
    KeptR l s0 (execPacerRecovered s) := by
  unfold execPacerRecovered
  exact (KeptR.next (State.tamperOver_kept (State.wr_kept h (RTC.STAT.rcfb_zoned (Part.at hp))) (Part.sub hp)))

theorem execBkpPowerUp_kept {l s0} {s} (h : Kept l s0 s) (hp : Part.within [.regs, .rtc, .sec] l) :
    KeptR l s0 (execBkpPowerUp s) := by
  unfold execBkpPowerUp
  extract_lets +onlyGivenNames -merge -useContext -underBinder s1
  have h2 : Kept l s0 s1 := by unfold s1; exact (State.clearRange_all_kept (State.clearRange_all_kept h (Part.at hp)) (Part.at hp))
  clear_value s1
  exact (KeptR.next (State.setOsf_kept (State.wr_kept (h2.upd [.rtc, .sec] (Part.sub hp) (fun p hn => by cases p <;> first | rfl | exact True.intro | exact absurd (by decide) hn) rfl id) (RST.CAUSE.cause_zoned (Part.at hp))) (Part.sub hp)))

theorem execKeyLoad_kept {l s0} {x0} {x1} {s} (h : Kept l s0 s) (hp : Part.within [.page 0x1, .status, .sec, .page 0x59, .page 0x34, .head 0x24, .head 0x14, .head 0x20, .page 0x58, .page 0x48, .page 0x5A, .page 0x51, .page 0x3, .recorder, .page 0x49, .page 0x42, .page 0x41, .page 0x40, .sram, .sramBad, .sramWeak, .msg, .page 0x178] l) :
    KeptR l s0 (execKeyLoad x0 x1 s) := by
  unfold execKeyLoad
  exact (State.command_kept h (fun h1 => (State.keyCommand_kept h1 (Part.sub hp))) (Part.sub hp))

theorem execKeyClear_kept {l s0} {x0} {x1} {s} (h : Kept l s0 s) (hp : Part.within [.page 0x1, .status, .sec, .page 0x59, .page 0x34, .head 0x24, .head 0x14, .head 0x20, .page 0x58, .page 0x48, .page 0x5A, .page 0x51, .page 0x3, .recorder, .page 0x49, .page 0x42, .page 0x41, .page 0x40, .sram, .sramBad, .sramWeak, .msg, .page 0x178] l) :
    KeptR l s0 (execKeyClear x0 x1 s) := by
  unfold execKeyClear
  exact (State.command_kept h (fun h1 => (State.keyCommand_kept h1 (Part.sub hp))) (Part.sub hp))

theorem execVaultErase_kept {l s0} {x0} {s} (h : Kept l s0 s) (hp : Part.within [.page 0x1, .status, .sec, .page 0x59, .page 0x34, .head 0x24, .head 0x14, .head 0x20, .page 0x58, .page 0x48, .page 0x5A, .page 0x51, .page 0x3, .recorder, .page 0x49, .page 0x42, .page 0x41, .page 0x40, .sram, .sramBad, .sramWeak, .msg, .page 0x178] l) :
    KeptR l s0 (execVaultErase x0 s) := by
  unfold execVaultErase
  exact (State.command_kept h (fun h1 => (State.keyCommand_kept h1 (Part.sub hp))) (Part.sub hp))

theorem execIdentityGenerate_kept {l s0} {x0} {s} (h : Kept l s0 s) (hp : Part.within [.page 0x1, .status, .page 0x58, .freeCount, .page 0x59, .sec, .head 0x14, .page 0x48, .head 0x24, .head 0x20, .store, .nvm] l) :
    KeptR l s0 (execIdentityGenerate x0 s) := by
  unfold execIdentityGenerate
  exact (State.command_kept h (fun h1 => (State.secCommand_kept h1 (Part.sub hp))) (Part.sub hp))

theorem execAttest_kept {l s0} {x0} {s} (h : Kept l s0 s) (hp : Part.within [.page 0x1, .status, .page 0x58, .freeCount, .page 0x59, .sec, .head 0x14, .page 0x48, .head 0x24, .head 0x20, .store, .nvm] l) :
    KeptR l s0 (execAttest x0 s) := by
  unfold execAttest
  exact (State.command_kept h (fun h1 => (State.secCommand_kept h1 (Part.sub hp))) (Part.sub hp))

theorem execAttestDone_kept {l s0} {s} (h : Kept l s0 s) (hp : Part.within [.freeCount, .sec, .page 0x58, .head 0x14] l) :
    KeptR l s0 (execAttestDone s) := by
  unfold execAttestDone
  refine KeptR.ite ?_ ?_
  · exact (KeptR.next h)
  · split
    · rename_i x2 s13 q6
      have h1 : Kept l s0 s13 := Kept.snd q6 (State.drawBits_kept h (Part.sub hp))
      extract_lets +onlyGivenNames -merge -useContext -underBinder s4
      have h5 : Kept l s0 s4 := by unfold s4; exact (State.modSec_kept h1 (Part.sub hp))
      clear_value s4
      split
      · exact (KeptR.next (State.secEnd_kept h1 (Part.sub hp)))
      · split
        · exact (KeptR.next (State.secEnd_kept h1 (Part.sub hp)))
        · exact (KeptR.next (State.secDone_kept (State.secStat_kept (State.showBytes_kept (State.showBytes_kept h5 (ZonedFn.pageOf (n := 88) (Part.at hp) (fun _ => by simp only [SEC.SIG.bytes]; omega))) (ZonedFn.pageOf (n := 88) (Part.at hp) (fun _ => by simp only [SEC.SIG.bytes]; omega))) (Part.sub hp)) (Part.sub hp)))

theorem execVerifyImageA_kept {l s0} {x0} {s} (h : Kept l s0 s) (hp : Part.within [.page 0x1, .status, .page 0x58, .freeCount, .page 0x59, .sec, .head 0x14, .page 0x48, .head 0x24, .head 0x20, .store, .nvm] l) :
    KeptR l s0 (execVerifyImageA x0 s) := by
  unfold execVerifyImageA
  exact (State.command_kept h (fun h1 => (State.secCommand_kept h1 (Part.sub hp))) (Part.sub hp))

theorem execVerifyImageB_kept {l s0} {x0} {s} (h : Kept l s0 s) (hp : Part.within [.page 0x1, .status, .page 0x58, .freeCount, .page 0x59, .sec, .head 0x14, .page 0x48, .head 0x24, .head 0x20, .store, .nvm] l) :
    KeptR l s0 (execVerifyImageB x0 s) := by
  unfold execVerifyImageB
  exact (State.command_kept h (fun h1 => (State.secCommand_kept h1 (Part.sub hp))) (Part.sub hp))

theorem execTamperDetect_kept {l s0} {x0} {x1} {s} (h : Kept l s0 s) (hp : Part.within [.sec, .page 0x5A, .head 0x14, .page 0x59, .head 0x24, .head 0x20, .page 0x51, .page 0x3, .page 0x34, .page 0x58, .page 0x48, .recorder, .page 0x49, .page 0x42, .page 0x41, .page 0x40, .sram, .sramBad, .sramWeak, .msg, .page 0x178] l) :
    KeptR l s0 (execTamperDetect x0 x1 s) := by
  unfold execTamperDetect
  refine KeptR.ite ?_ ?_
  · exact (KeptR.next h)
  · extract_lets +onlyGivenNames -merge -useContext -underBinder s1
    have h2 : Kept l s0 s1 := by unfold s1; exact (Kept.ite (State.tamperPin_kept h (Part.sub hp)) h)
    clear_value s1
    exact (KeptR.ite (KeptR.next (State.tamperBegin_kept h2 (Part.sub hp))) (KeptR.ite (KeptR.next h2) (KeptR.next (State.tamperOver_kept h2 (Part.sub hp)))))

theorem execSecurityAlarmClear_kept {l s0} {x0} {s} (h : Kept l s0 s) (hp : Part.within [.page 0x1, .status, .page 0x5A] l) :
    KeptR l s0 (execSecurityAlarmClear x0 s) := by
  unfold execSecurityAlarmClear
  exact (State.command_kept h (fun h1 => (State.alarmClear_kept h1 (Part.sub hp))) (Part.sub hp))

end Sys2Proof.Machine
end

