-- ==== Sys2Proof/Laws/Tml.lean ====
section
/-!
SUPPORT. What each operation of Machine/Tml.lean can change: one lemma per operation, named after it. An operation started in a
state that has kept all parts of an earlier one but some keeps all but those and the parts that its lemma lists, and the
canonical form of the sparse maps with them.
-/

set_option Elab.async false

namespace Sys2Proof.Machine

theorem State.modMsg_kept {l s0} {s} {x1} (h : Kept l s0 s) (hp : Part.within [.msg] l) :
    Kept l s0 (State.modMsg s x1) := by
  unfold State.modMsg
  exact (h.msg (Part.at hp))

theorem State.purge_kept {l s0} {s} (h : Kept l s0 s) (hp : Part.within [.msg, .ports, .pages 0x30 0x34, .head 0x14] l) :
    Kept l s0 (State.purge s) := by
  unfold State.purge
  extract_lets +onlyGivenNames -merge -useContext -underBinder s1
  have h2 : Kept l s0 s1 := by unfold s1; exact (State.modMsg_kept h (Part.sub hp))
  clear_value s1
  refine Kept.each h2 (fun _ _ h3 => ?_)
  refine Kept.each h3 (fun _ _ h4 => ?_)
  split
  · exact (Kept.ite (State.modMsg_kept (State.txCancel_kept h4 (Part.sub hp)) (Part.sub hp)) h4)
  · exact h4

theorem State.txDrop_kept {l s0} {s} (h : Kept l s0 s) (hp : Part.within [.page 0x34, .head 0x14] l) :
    Kept l s0 (State.txDrop s) := by
  unfold State.txDrop
  exact (State.stick_kept h (MSG.TXDROP.count_zoned (Part.at hp)) (MSG.CNTOVF.txdrop_zoned (Part.at hp)) (ZonedOpt.some (MSG.IRQRAW.cnt_ovf_zoned (Part.at hp))))

theorem State.setQueue_kept {l s0} {s} {x1} {x2} (h : Kept l s0 s) (hp : Part.within [.msg] l) :
    Kept l s0 (State.setQueue s x1 x2) := by
  unfold State.setQueue
  exact (State.modMsg_kept h (Part.sub hp))

theorem State.msgTaken_kept {l s0} {s} {x1} {x2} (h : Kept l s0 s) (hp : Part.within [.msg, .page 0x34, .head 0x14] l) :
    Kept l s0 (State.msgTaken s x1 x2) := by
  unfold State.msgTaken
  split
  · exact h
  · extract_lets +onlyGivenNames -merge -useContext -underBinder s1
    have h2 : Kept l s0 s1 := by unfold s1; exact (State.modMsg_kept h (Part.sub hp))
    clear_value s1
    exact (Kept.ite (State.txDrop_kept h2 (Part.sub hp)) (State.setQueue_kept h2 (Part.sub hp)))

theorem State.ownersCommitted_kept {l s0} {s} {x1} {x2} (h : Kept l s0 s) (hp : Part.within [.ports, .pages 0x30 0x34, .head 0x14, .msg, .page 0x34] l) :
    Kept l s0 (State.ownersCommitted s x1 x2) := by
  unfold State.ownersCommitted
  extract_lets +onlyGivenNames -merge -useContext -underBinder s1
  clear_value s1
  refine Kept.each h (fun _ _ h3 => ?_)
  refine Kept.ite ?_ ?_
  · exact h3
  · extract_lets +onlyGivenNames -merge -useContext -underBinder s4
    have h5 : Kept l s0 s4 := by unfold s4; exact (State.txCancel_kept h3 (Part.sub hp))
    clear_value s4
    exact (Kept.ite (State.msgTaken_kept h5 (Part.sub hp)) h5)

theorem State.enqueue_kept {l s0} {s} {x1} {x2} (h : Kept l s0 s) (hp : Part.within [.head 0x24, .head 0x14, .page 0x34, .head 0x20, .msg] l) :
    Kept l s0 (State.enqueue s x1 x2) := by
  unfold State.enqueue
  exact (Kept.each h (fun _ _ h1 => (Kept.ite (State.fault_kept (State.txDrop_kept h1 (Part.sub hp)) (MSG.FAULT.qfull_zoned (Part.at hp)) (Part.sub hp)) (State.setQueue_kept h1 (Part.sub hp)))))

theorem State.formTml_kept {l s0} {s} {x1} (h : Kept l s0 s) (hp : Part.within [.msg, .head 0x24, .head 0x14, .page 0x34, .head 0x20] l) :
    Kept l s0 (State.formTml s x1) := by
  unfold State.formTml
  extract_lets +onlyGivenNames -merge -useContext -underBinder s1
  clear_value s1
  extract_lets +onlyGivenNames -merge -useContext -underBinder s3
  have h4 : Kept l s0 s3 := by unfold s3; exact (State.modMsg_kept h (Part.sub hp))
  clear_value s3
  extract_lets +onlyGivenNames -merge -useContext -underBinder s5
  clear_value s5
  split
  · exact (Kept.ite (State.enqueue_kept h4 (Part.sub hp)) h)
  · split
    · extract_lets +onlyGivenNames -merge -useContext -underBinder s7
      clear_value s7
      extract_lets +onlyGivenNames -merge -useContext -underBinder s9
      clear_value s9
      extract_lets +onlyGivenNames -merge -useContext -underBinder s11
      have h12 : Kept l s0 s11 := by unfold s11; exact (State.modMsg_kept h4 (Part.sub hp))
      clear_value s11
      exact (State.enqueue_kept h12 (Part.sub hp))

theorem State.formOrWait_kept {l s0} {s} {x1} (h : Kept l s0 s) (hp : Part.within [.msg, .head 0x24, .head 0x14, .page 0x34, .head 0x20] l) :
    Kept l s0 (State.formOrWait s x1) := by
  unfold State.formOrWait
  exact (Kept.ite (State.modMsg_kept h (Part.sub hp)) (State.formTml_kept h (Part.sub hp)))

theorem State.sendFragments_kept {l s0} {s} {x1} {x2} {x3} {x4} (h : Kept l s0 s) (hp : Part.within [.msg, .head 0x24, .head 0x14, .page 0x34, .head 0x20] l) :
    Kept l s0 (State.sendFragments s x1 x2 x3 x4) := by
  unfold State.sendFragments
  refine Kept.ite ?_ ?_
  · exact h
  · extract_lets +onlyGivenNames -merge -useContext -underBinder s1
    clear_value s1
    refine Kept.each h (fun _ _ h3 => ?_)
    split
    · exact (State.formOrWait_kept h3 (Part.sub hp))

theorem State.formRecords_kept {l s0} {s} (h : Kept l s0 s) (hp : Part.within [.msg, .head 0x24, .head 0x14, .page 0x34, .head 0x20] l) :
    Kept l s0 (State.formRecords s) := by
  unfold State.formRecords
  extract_lets +onlyGivenNames -merge -useContext -underBinder s1
  clear_value s1
  exact (Kept.ite h (Kept.each (State.modMsg_kept h (Part.sub hp)) (fun _ _ h3 => (State.sendFragments_kept h3 (Part.sub hp)))))

theorem State.loadFrame_kept {l s0} {s} {x1} {x2} {x3} (h : Kept l s0 s) (hp : Part.within [.pages 0x30 0x34, .msg, .head 0x14, .ports] l) :
    Kept l s0 (State.loadFrame s x1 x2 x3) := by
  unfold State.loadFrame
  extract_lets +onlyGivenNames -merge -useContext -underBinder s1
  have h2 : Kept l s0 s1 := by unfold s1; exact (State.wr_kept (State.wr_kept h (BUS.TXID_zoned (Part.at hp))) (BUS.TXCTL_zoned (Part.at hp)))
  clear_value s1
  extract_lets +onlyGivenNames -merge -useContext -underBinder s3
  have h4 : Kept l s0 s3 := by unfold s3; exact (Kept.each h2 (fun _ _ h5 => (State.wr_kept h5 (BUS.TXDATA.data_zoned (Part.at hp)))))
  clear_value s3
  extract_lets +onlyGivenNames -merge -useContext -underBinder s6
  have h7 : Kept l s0 s6 := by unfold s6; exact (State.modMsg_kept (State.txRequest_kept h4 (Part.sub hp)) (Part.sub hp))
  clear_value s6
  split
  · exact h7
  · exact (Kept.ite (Kept.each h7 (fun _ _ h8 => (Kept.ite (State.modMsg_kept (State.txCancel_kept h8 (Part.sub hp)) (Part.sub hp)) h8))) h7)

theorem State.pumpPort_kept {l s0} {s} {x1} (h : Kept l s0 s) (hp : Part.within [.pages 0x30 0x34, .msg, .head 0x14, .ports] l) :
    Kept l s0 (State.pumpPort s x1) := by
  unfold State.pumpPort
  extract_lets +onlyGivenNames -merge -useContext -underBinder s1
  clear_value s1
  refine Kept.ite ?_ ?_
  · exact h
  · split
    · exact h
    · extract_lets +onlyGivenNames -merge -useContext -underBinder s3
      clear_value s3
      extract_lets +onlyGivenNames -merge -useContext -underBinder s5
      clear_value s5
      split
      · exact h
      · exact (State.loadFrame_kept (State.setQueue_kept h (Part.sub hp)) (Part.sub hp))

theorem State.pump_kept {l s0} {s} (h : Kept l s0 s) (hp : Part.within [.msg, .head 0x24, .head 0x14, .page 0x34, .head 0x20, .pages 0x30 0x34, .ports] l) :
    Kept l s0 (State.pump s) := by
  unfold State.pump
  extract_lets +onlyGivenNames -merge -useContext -underBinder s1
  have h2 : Kept l s0 s1 := by unfold s1; exact (State.formRecords_kept h (Part.sub hp))
  clear_value s1
  exact (Kept.ite h2 (Kept.each h2 (fun _ _ h3 => (Kept.each h3 (fun _ _ h4 => (State.pumpPort_kept h4 (Part.sub hp)))))))

theorem State.sendOn_kept {l s0} {s} {x1} {x2} {x3} {x4} (h : Kept l s0 s) (hp : Part.within [.msg, .head 0x24, .head 0x14, .page 0x34, .head 0x20] l) :
    Kept l s0 (State.sendOn s x1 x2 x3 x4) := by
  unfold State.sendOn
  refine Kept.ite ?_ ?_
  · exact h
  · extract_lets +onlyGivenNames -merge -useContext -underBinder s1
    clear_value s1
    exact (State.formOrWait_kept (State.modMsg_kept h (Part.sub hp)) (Part.sub hp))

theorem State.sendTml_kept {l s0} {s} {x1} {x2} {x3} {x4} (h : Kept l s0 s) (hp : Part.within [.msg, .head 0x24, .head 0x14, .page 0x34, .head 0x20] l) :
    Kept l s0 (State.sendTml s x1 x2 x3 x4) := by
  unfold State.sendTml
  exact (State.sendOn_kept h (Part.sub hp))

theorem State.formWaiting_kept {l s0} {s} (h : Kept l s0 s) (hp : Part.within [.msg, .head 0x24, .head 0x14, .page 0x34, .head 0x20] l) :
    Kept l s0 (State.formWaiting s) := by
  unfold State.formWaiting
  extract_lets +onlyGivenNames -merge -useContext -underBinder s1
  clear_value s1
  exact (Kept.ite h (Kept.each (State.modMsg_kept h (Part.sub hp)) (fun _ _ h3 => (State.formOrWait_kept h3 (Part.sub hp)))))

theorem State.msgBusOff_kept {l s0} {s} {x1} (h : Kept l s0 s) (hp : Part.within [.msg, .ports, .pages 0x30 0x34, .head 0x14, .head 0x24, .page 0x34, .head 0x20] l) :
    Kept l s0 (State.msgBusOff s x1) := by
  unfold State.msgBusOff
  split
  · exact h
  · refine Kept.ite ?_ ?_
    · exact h
    · extract_lets +onlyGivenNames -merge -useContext -underBinder s1
      clear_value s1
      extract_lets +onlyGivenNames -merge -useContext -underBinder s3
      clear_value s3
      extract_lets +onlyGivenNames -merge -useContext -underBinder s5
      have h6 : Kept l s0 s5 := by unfold s5; exact (Kept.each h (fun _ _ h7 => (State.modMsg_kept (State.txCancel_kept h7 (Part.sub hp)) (Part.sub hp))))
      clear_value s5
      extract_lets +onlyGivenNames -merge -useContext -underBinder s8
      clear_value s8
      extract_lets +onlyGivenNames -merge -useContext -underBinder s10
      clear_value s10
      exact (State.pump_kept (State.setQueue_kept h6 (Part.sub hp)) (Part.sub hp))

theorem State.msgSent_kept {l s0} {s} {x1} {x2} (h : Kept l s0 s) (hp : Part.within [.msg, .page 0x34, .tsync] l) :
    Kept l s0 (State.msgSent s x1 x2) := by
  unfold State.msgSent
  split
  · exact h
  · extract_lets +onlyGivenNames -merge -useContext -underBinder s1
    clear_value s1
    extract_lets +onlyGivenNames -merge -useContext -underBinder s3
    have h4 : Kept l s0 s3 := by unfold s3; exact (State.modMsg_kept (State.wrap_kept h (MSG.TXCNT.count_zoned (Part.at hp))) (Part.sub hp))
    clear_value s3
    exact (Kept.ite (h4.tsync (Part.at hp)) h4)

end Sys2Proof.Machine
end

