-- ==== Sys2Proof/Laws/Port.lean ====
section
/-!
SUPPORT. What each operation of Machine/Port.lean can change: one lemma per operation, named after it. An operation started in a
state that has kept all parts of an earlier one but some keeps all but those and the parts that its lemma lists, and the
canonical form of the sparse maps with them.
-/

set_option Elab.async false

namespace Sys2Proof.Machine

theorem State.txHost_kept {l s0} {s} {x1} {x2} {f3 : Sys2Proof.Machine.State → Sys2Proof.Machine.State} (h : Kept l s0 s) (hf3 : ∀ {t}, Kept l s0 t → Kept l s0 (f3 t)) (hp : Part.within [.head 0x24, .head 0x14, .head 0x20] l) :
    Kept l s0 (State.txHost s x1 x2 f3) := by
  unfold State.txHost
  exact (Kept.ite (hf3 h) (State.fault_kept h (BUS.FAULT.txown_zoned (Part.at hp)) (Part.sub hp)))

theorem State.recoverPort_kept {l s0} {s} {x1} (h : Kept l s0 s) (hp : Part.within [.pages 0x30 0x34] l) :
    Kept l s0 (State.recoverPort s x1) := by
  unfold State.recoverPort
  exact (Kept.ite (State.wr_kept h (BUS.STATE.state_zoned (Part.at hp))) h)

theorem execCanFrameReceived_kept {l s0} {x0} {x1} {x2} {s} (h : Kept l s0 s) (hp : Part.within [.freeCount, .ports, .pages 0x30 0x34, .head 0x14, .head 0x24, .head 0x20, .dma, .page 0x42, .page 0x41, .page 0x40, .sram, .sramBad, .sramWeak, .page 0x38] l) :
    KeptR l s0 (execCanFrameReceived x0 x1 x2 s) := by
  unfold execCanFrameReceived
  extract_lets +onlyGivenNames -merge -useContext -underBinder s1
  clear_value s1
  extract_lets +onlyGivenNames -merge -useContext -underBinder s3
  clear_value s3
  extract_lets +onlyGivenNames -merge -useContext -underBinder s5
  clear_value s5
  extract_lets +onlyGivenNames -merge -useContext -underBinder s7
  clear_value s7
  refine KeptR.ite ?_ ?_
  · exact (KeptR.next h)
  · split
    · rename_i x10 s111 q20
      have h9 : Kept l s0 s111 := by
        refine Kept.snd q20 ?_
        refine Kept.iteSnd ?_ ?_
        · split
          · rename_i x13 t14 q15
            have h12 : Kept l s0 t14 := Kept.snd q15 (State.draw_kept h (Part.sub hp))
            exact (Kept.beside h12)
        · exact (Kept.beside h)
      extract_lets +onlyGivenNames -merge -useContext -underBinder s16
      have h17 : Kept l s0 s16 := by unfold s16; exact (State.setErrors_kept (State.ackOk_kept h9 (Part.sub hp)) (Part.sub hp))
      clear_value s16
      extract_lets +onlyGivenNames -merge -useContext -underBinder s18
      have h19 : Kept l s0 s18 := by unfold s18; exact (State.rxOffer_kept h17 (Part.sub hp))
      clear_value s18
      exact (KeptR.next (State.frameOver_kept (State.modPort_kept h19 (Part.sub hp)) (Part.sub hp)))

theorem execTxRequest_kept {l s0} {x0} {x1} {x2} {s} (h : Kept l s0 s) (hp : Part.within [.page 0x1, .status, .head 0x24, .head 0x14, .head 0x20, .pages 0x30 0x34] l) :
    KeptR l s0 (execTxRequest x0 x1 x2 s) := by
  unfold execTxRequest
  exact (KeptR.ite (State.command_kept h (fun h1 => (State.txHost_kept h1 (fun h2 => (State.txRequest_kept h2 (Part.sub hp))) (Part.sub hp))) (Part.sub hp)) (KeptR.next (h.status (Part.at hp))))

theorem execTxCancel_kept {l s0} {x0} {x1} {x2} {s} (h : Kept l s0 s) (hp : Part.within [.page 0x1, .status, .head 0x24, .head 0x14, .head 0x20, .ports, .pages 0x30 0x34] l) :
    KeptR l s0 (execTxCancel x0 x1 x2 s) := by
  unfold execTxCancel
  exact (KeptR.ite (State.command_kept h (fun h1 => (State.txHost_kept h1 (fun h2 => (State.txCancel_kept h2 (Part.sub hp))) (Part.sub hp))) (Part.sub hp)) (KeptR.next (h.status (Part.at hp))))

theorem execTxAttemptStart_kept {l s0} {x0} {s} (h : Kept l s0 s) (hp : Part.within [.pages 0x30 0x34, .head 0x14, .ports] l) :
    KeptR l s0 (execTxAttemptStart x0 s) := by
  unfold execTxAttemptStart
  refine KeptR.ite ?_ ?_
  · exact (KeptR.next h)
  · split
    · exact (KeptR.next h)
    · extract_lets +onlyGivenNames -merge -useContext -underBinder s1
      clear_value s1
      extract_lets +onlyGivenNames -merge -useContext -underBinder s3
      have h4 : Kept l s0 s3 := by unfold s3; exact (State.wr_kept (State.wr_kept h (BUS.TXSTAT.state_zoned (Part.at hp))) (BUS.TXSTAT.attempts_zoned (Part.at hp)))
      clear_value s3
      extract_lets +onlyGivenNames -merge -useContext -underBinder s5
      have h6 : Kept l s0 s5 := by unfold s5; exact (Kept.ite h4 (State.stick_kept h4 (BUS.TXRETRY.count_zoned (Part.at hp)) (BUS.CNTOVF.retry_zoned (Part.at hp)) (ZonedOpt.some (BUS.IRQRAW.cnt_event_zoned (Part.at hp)))))
      clear_value s5
      exact (KeptR.next (State.modPort_kept h6 (Part.sub hp)))

theorem execTxAttemptEnd_kept {l s0} {x0} {x1} {x2} {s} (h : Kept l s0 s) (hp : Part.within [.pages 0x30 0x34, .ports, .head 0x14, .head 0x24, .head 0x20, .msg, .page 0x34, .tsync, .dma, .page 0x42, .page 0x41, .page 0x40, .sram, .sramBad, .sramWeak, .page 0x38] l) :
    KeptR l s0 (execTxAttemptEnd x0 x1 x2 s) := by
  unfold execTxAttemptEnd
  split
  · exact (KeptR.next h)
  · extract_lets +onlyGivenNames -merge -useContext -underBinder s1
    have h2 : Kept l s0 s1 := by
      unfold s1
      split
      · exact (Kept.ite (State.wr_kept h (BUS.STATE.tdcv_zoned (Part.at hp))) h)
      · exact h
    extract_lets +onlyGivenNames -merge -useContext -underBinder s3
    have h4 : Kept l s0 s3 := by
      unfold s3
      split
      · extract_lets +onlyGivenNames -merge -useContext -underBinder s5
        extract_lets +onlyGivenNames -merge -useContext -underBinder s7
        extract_lets +onlyGivenNames -merge -useContext -underBinder s9
        extract_lets +onlyGivenNames -merge -useContext -underBinder s11
        have h12 : Kept l s0 s11 := by unfold s11; exact (State.setErrors_kept (State.ackOk_kept (State.irq_kept (State.wr_kept (State.wr_kept h2 (BUS.TXSTAT.state_zoned (Part.at hp))) (BUS.TXTSC.us_zoned (Part.at hp))) (BUS.IRQRAW.tx_sent_zoned (Part.at hp))) (Part.sub hp)) (Part.sub hp))
        extract_lets +onlyGivenNames -merge -useContext -underBinder s13
        have h14 : Kept l s0 s13 := by unfold s13; exact (State.msgSent_kept h12 (Part.sub hp))
        exact (Kept.ite (State.rxOffer_kept h14 (Part.sub hp)) h14)
      · exact (State.txReturn_kept h2 (Part.sub hp))
      · extract_lets +onlyGivenNames -merge -useContext -underBinder s15
        have h16 : Kept l s0 s15 := by unfold s15; exact (State.txReturn_kept h2 (Part.sub hp))
        exact (Kept.ite (State.modPort_kept h16 (Part.sub hp)) h16)
    extract_lets +onlyGivenNames -merge -useContext -underBinder s17
    have h18 : Kept l s0 s17 := by unfold s17; exact (Kept.ite (State.msgTaken_kept h4 (Part.sub hp)) h4)
    exact (KeptR.next (State.pump_kept (State.frameOver_kept (State.modPort_kept h18 (Part.sub hp)) (Part.sub hp)) (Part.sub hp)))

theorem execBusError_kept {l s0} {x0} {x1} {x2} {x3} {s} (h : Kept l s0 s) (hp : Part.within [.pages 0x30 0x34, .head 0x14, .ports, .head 0x24, .head 0x20, .msg, .page 0x34, .page 0x38] l) :
    KeptR l s0 (execBusError x0 x1 x2 x3 s) := by
  unfold execBusError
  refine KeptR.ite ?_ ?_
  · exact (KeptR.next h)
  · extract_lets +onlyGivenNames -merge -useContext -underBinder s1
    clear_value s1
    extract_lets +onlyGivenNames -merge -useContext -underBinder s3
    clear_value s3
    extract_lets +onlyGivenNames -merge -useContext -underBinder s5
    have h6 : ∀ {t}, Kept l s0 t → Kept l s0 (s5 t) := by
      intro t h7
      unfold s5
      exact (State.put_kept (State.wr_kept h7 (BUS.LASTERR.code_zoned (Part.at hp))) (BUS.LASTERR.dphase_zoned (Part.at hp)))
    clear_value s5
    extract_lets +onlyGivenNames -merge -useContext -underBinder s8
    have h9 : ∀ {t}, Kept l s0 t → Kept l s0 (s8 t) := by
      intro t h10
      unfold s8
      exact (State.stick_kept (h6 h10) (BUS.ERRFRM.count_zoned (Part.at hp)) (BUS.CNTOVF.errfrm_zoned (Part.at hp)) (ZonedOpt.some (BUS.IRQRAW.cnt_ovf_zoned (Part.at hp))))
    clear_value s8
    extract_lets +onlyGivenNames -merge -useContext -underBinder s11
    have h12 : ∀ {t}, Kept l s0 t → Kept l s0 (s11 t) := by
      intro t h13
      unfold s11
      exact (Kept.ite (State.ackError_kept h13 (Part.sub hp)) h13)
    clear_value s11
    extract_lets +onlyGivenNames -merge -useContext -underBinder s14
    have h15 : ∀ {t}, Kept l s0 t → Kept l s0 (s14 t) := by
      intro t h16
      unfold s14
      exact (Kept.ite (State.setErrors_kept h16 (Part.sub hp)) (State.setErrors_kept h16 (Part.sub hp)))
    clear_value s14
    extract_lets +onlyGivenNames -merge -useContext -underBinder s17
    have h18 : Kept l s0 s17 := by
      unfold s17
      split
      · exact (State.setErrors_kept (h9 h) (Part.sub hp))
      · exact (State.setErrors_kept h (Part.sub hp))
      · exact (State.setErrors_kept (h12 (h9 h)) (Part.sub hp))
      · exact (h12 (h9 h))
      · exact (h9 h)
      · exact (h15 (h6 h))
      · exact (h15 h)
      · exact (Kept.ite (State.wr_kept h (BUS.STATE.state_zoned (Part.at hp))) (State.setErrors_kept (State.wr_kept (h9 h) (BUS.LASTERR.code_zoned (Part.at hp))) (Part.sub hp)))
    clear_value s17
    extract_lets +onlyGivenNames -merge -useContext -underBinder s19
    clear_value s19
    extract_lets +onlyGivenNames -merge -useContext -underBinder s21
    have h22 : Kept l s0 s21 := by
      unfold s21
      split
      · exact (Kept.ite (State.msgTaken_kept h18 (Part.sub hp)) h18)
      · exact h18
    clear_value s21
    exact (KeptR.next (Kept.ite (State.showScore_kept (State.refreshPort_kept (State.msgBusOff_kept h22 (Part.sub hp)) (Part.sub hp)) (Part.sub hp)) h22))

theorem execSoloPauseEnd_kept {l s0} {x0} {s} (h : Kept l s0 s) (hp : Part.within [.ports] l) :
    KeptR l s0 (execSoloPauseEnd x0 s) := by
  unfold execSoloPauseEnd
  exact (KeptR.next (Kept.ite (State.modPort_kept h (Part.sub hp)) h))

theorem execBusRecover_kept {l s0} {x0} {x1} {s} (h : Kept l s0 s) (hp : Part.within [.page 0x1, .status, .pages 0x30 0x34] l) :
    KeptR l s0 (execBusRecover x0 x1 s) := by
  unfold execBusRecover
  exact (KeptR.ite (State.command_kept h (fun h1 => (State.recoverPort_kept h1 (Part.sub hp))) (Part.sub hp)) (KeptR.next (h.status (Part.at hp))))

theorem execBusRecoveryComplete_kept {l s0} {x0} {s} (h : Kept l s0 s) (hp : Part.within [.pages 0x30 0x34, .page 0x38, .ports, .head 0x14, .head 0x24, .head 0x20] l) :
    KeptR l s0 (execBusRecoveryComplete x0 s) := by
  unfold execBusRecoveryComplete
  refine KeptR.ite ?_ ?_
  · extract_lets +onlyGivenNames -merge -useContext -underBinder s1
    have h2 : Kept l s0 s1 := by unfold s1; exact (State.wr_kept (State.wr_kept h (BUS.STATE.state_zoned (Part.at hp))) (BUS.STATE.recov_zoned (Part.at hp)))
    clear_value s1
    exact (KeptR.next (State.showScore_kept (State.irq_kept (State.setErrors_kept h2 (Part.sub hp)) (BUS.IRQRAW.recovered_zoned (Part.at hp))) (Part.sub hp)))
  · exact (KeptR.next h)

theorem execIntegrationComplete_kept {l s0} {x0} {s} (h : Kept l s0 s) (hp : Part.within [.pages 0x30 0x34, .head 0x14, .ports, .page 0x38, .msg, .head 0x24, .page 0x34, .head 0x20] l) :
    KeptR l s0 (execIntegrationComplete x0 s) := by
  unfold execIntegrationComplete
  refine KeptR.ite ?_ ?_
  · extract_lets +onlyGivenNames -merge -useContext -underBinder s1
    clear_value s1
    extract_lets +onlyGivenNames -merge -useContext -underBinder s3
    clear_value s3
    extract_lets +onlyGivenNames -merge -useContext -underBinder s5
    have h6 : Kept l s0 s5 := by unfold s5; exact (State.showErrors_kept (State.modPort_kept (State.wr_kept h (BUS.STATE.state_zoned (Part.at hp))) (Part.sub hp)) (Part.sub hp))
    clear_value s5
    exact (KeptR.next (State.showScore_kept (Kept.ite (State.msgBusOff_kept h6 (Part.sub hp)) h6) (Part.sub hp)))
  · exact (KeptR.next h)

theorem execRxRelease_kept {l s0} {x0} {x1} {x2} {x3} {s} (h : Kept l s0 s) (hp : Part.within [.page 0x1, .status, .pages 0x30 0x34] l) :
    KeptR l s0 (execRxRelease x0 x1 x2 x3 s) := by
  unfold execRxRelease
  exact (KeptR.ite (State.command_kept h (fun h1 => (State.rxRelease_kept h1 (Part.sub hp))) (Part.sub hp)) (KeptR.next (h.status (Part.at hp))))

end Sys2Proof.Machine
end

