-- ==== Sys2Proof/Laws/Deliver.lean ====
section
/-!
SUPPORT. What each operation of Machine/Deliver.lean can change: one lemma per operation, named after it. An operation started in a
state that has kept all parts of an earlier one but some keeps all but those and the parts that its lemma lists, and the
canonical form of the sparse maps with them.
-/

set_option Elab.async false

namespace Sys2Proof.Machine

theorem State.modPair_kept {l s0} {s} {x1} (h : Kept l s0 s) (hp : Part.within [.pair] l) :
    Kept l s0 (State.modPair s x1) := by
  unfold State.modPair
  exact (h.pair (Part.at hp))

theorem State.arithCount_kept {l s0} {s} {x1} {x2} {x3} {x4} (h : Kept l s0 s) (z2 : Zoned l x2) (z3 : Zoned l x3) (z4 : Zoned l x4) (hp : Part.within [.head 0x14] l) :
    Kept l s0 (State.arithCount s x1 x2 x3 x4) := by
  unfold State.arithCount
  exact (Kept.ite (State.irq_kept (State.stick_kept h z2 z3 (ZonedOpt.some (ARITH.IRQRAW.cnt_ovf_zoned (Part.at hp)))) z4) h)

theorem State.crossResult_kept {l s0} {s} {x1} {x2} (h : Kept l s0 s) (hp : Part.within [.pair, .page 0x38, .head 0x14, .head 0x24, .head 0x20] l) :
    Kept l s0 (State.crossResult s x1 x2) := by
  unfold State.crossResult
  extract_lets +onlyGivenNames -merge -useContext -underBinder s1
  clear_value s1
  extract_lets +onlyGivenNames -merge -useContext -underBinder s3
  clear_value s3
  extract_lets +onlyGivenNames -merge -useContext -underBinder s5
  have h6 : Kept l s0 s5 := by unfold s5; exact (State.modPair_kept h (Part.sub hp))
  clear_value s5
  refine Kept.ite ?_ ?_
  · exact (Kept.ite (State.putNth_kept h6 (ZonedFn.pageOf (n := 56) (Part.at hp) (fun _ => by simp only [PAIR.XFAIL.ch]; omega))) h6)
  · extract_lets +onlyGivenNames -merge -useContext -underBinder s7
    have h8 : Kept l s0 s7 := by unfold s7; exact (State.stick_kept h6 (PAIR.XDISCNT.count_zoned (Part.at hp)) (PAIR.CNTOVF.xdis_zoned (Part.at hp)) (ZonedOpt.some (PAIR.IRQRAW.cnt_ovf_zoned (Part.at hp))))
    clear_value s7
    exact (Kept.ite (State.fault_kept (State.irq_kept (State.putNth_kept h8 (ZonedFn.pageOf (n := 56) (Part.at hp) (fun _ => by simp only [PAIR.XFAIL.ch]; omega))) (PAIR.IRQRAW.xchk_zoned (Part.at hp))) (PAIR.FAULT.xchk_zoned (Part.at hp)) (Part.sub hp)) h8)

theorem State.crossCheck_kept {l s0} {s} {x1} {x2} (h : Kept l s0 s) (hp : Part.within [.pair, .page 0x38, .head 0x14, .head 0x24, .head 0x20] l) :
    Kept l s0 (State.crossCheck s x1 x2) := by
  unfold State.crossCheck
  refine Kept.ite ?_ ?_
  · exact h
  · split
    · exact h
    · extract_lets +onlyGivenNames -merge -useContext -underBinder s1
      clear_value s1
      extract_lets +onlyGivenNames -merge -useContext -underBinder s3
      clear_value s3
      exact (Kept.ite h (Kept.ite (State.crossResult_kept h (Part.sub hp)) (State.crossResult_kept h (Part.sub hp))))

theorem State.publish_kept {l s0} {s} {x1} (h : Kept l s0 s) (hp : Part.within [.msg] l) :
    Kept l s0 (State.publish s x1) := by
  unfold State.publish
  extract_lets +onlyGivenNames -merge -useContext -underBinder s1
  clear_value s1
  exact (Kept.ite (State.modMsg_kept h (Part.sub hp)) h)

theorem State.deliver_kept {l s0} {s} {x1} {x2} {x3} (h : Kept l s0 s) (hp : Part.within [.lap, .dma, .page 0x42, .head 0x14, .head 0x24, .head 0x20, .page 0x41, .page 0x40, .sram, .sramBad, .sramWeak, .alarm, .arith, .recorder, .loops, .pair, .page 0x38, .msg, .page 0x18] l) :
    Kept l s0 (State.deliver s x1 x2 x3) := by
  unfold State.deliver
  extract_lets +onlyGivenNames -merge -useContext -underBinder s1 s2
  have h4 : Kept l s0 s2 := by unfold s2; exact (Kept.ite (h.lap (Part.at hp)) h)
  clear_value s2
  clear_value s1
  extract_lets +onlyGivenNames -merge -useContext -underBinder s5 s6
  clear_value s6
  clear_value s5
  extract_lets +onlyGivenNames -merge -useContext -underBinder s9
  have h10 : Kept l s0 s9 := by unfold s9; exact (State.ringWrite_kept (State.almRecord_kept (h4.arith (Part.at hp)) (Part.sub hp)) (Part.sub hp))
  clear_value s9
  extract_lets +onlyGivenNames -merge -useContext -underBinder s11
  have h12 : Kept l s0 s11 := by unfold s11; exact (Kept.ite (State.recResult_kept h10 (Part.sub hp)) (State.loopRecord_kept h10 (Part.sub hp)))
  clear_value s11
  exact (State.crossCheck_kept (State.uhlizSend_kept (State.publish_kept (State.retransmit_kept h12 (Part.sub hp)) (Part.sub hp)) (Part.sub hp)) (Part.sub hp))

theorem State.staleMark_kept {l s0} {s} {x1} (h : Kept l s0 s) (hp : Part.within [.cal, .head 0x14] l) :
    Kept l s0 (State.staleMark s x1) := by
  unfold State.staleMark
  extract_lets +onlyGivenNames -merge -useContext -underBinder s1
  clear_value s1
  exact (State.modStride_kept (Kept.when h (fun _ h3 => (State.irq_kept h3 (CAL.IRQRAW.stale_zoned (Part.at hp))))) (Part.sub hp))

theorem State.deliverRetired_kept {l s0} {s} {x1} {x2} (h : Kept l s0 s) (hp : Part.within [.lap, .dma, .page 0x42, .head 0x14, .head 0x24, .head 0x20, .page 0x41, .page 0x40, .sram, .sramBad, .sramWeak, .alarm, .arith, .recorder, .loops, .pair, .page 0x38, .msg, .page 0x18, .cal] l) :
    Kept l s0 (State.deliverRetired s x1 x2) := by
  unfold State.deliverRetired
  extract_lets +onlyGivenNames -merge -useContext -underBinder s1
  clear_value s1
  exact (State.deliver_kept (Kept.ite (State.staleMark_kept h (Part.sub hp)) h) (Part.sub hp))

theorem State.settleOwed_kept {l s0} {s} (h : Kept l s0 s) (hp : Part.within [.arith, .lap, .dma, .page 0x42, .head 0x14, .head 0x24, .head 0x20, .page 0x41, .page 0x40, .sram, .sramBad, .sramWeak, .alarm, .recorder, .loops, .pair, .page 0x38, .msg, .page 0x18, .cal] l) :
    Kept l s0 (State.settleOwed s) := by
  unfold State.settleOwed
  extract_lets +onlyGivenNames -merge -useContext -underBinder s1
  clear_value s1
  extract_lets +onlyGivenNames -merge -useContext -underBinder s3 s4
  have h6 : Kept l s0 s4 := by unfold s4; exact (h.arith (Part.at hp))
  clear_value s4
  clear_value s3
  exact (Kept.each h6 (fun _ _ h7 => (State.deliverRetired_kept h7 (Part.sub hp))))

theorem State.testStart_kept {l s0} {s} {x1} (h : Kept l s0 s) (hp : Part.within [.page 0x11, .lap, .head 0x14, .arith] l) :
    Kept l s0 (State.testStart s x1) := by
  unfold State.testStart
  extract_lets +onlyGivenNames -merge -useContext -underBinder s1
  have h2 : Kept l s0 s1 := by unfold s1; exact (State.wr_kept h (ARITH.TESTCTL.ch_zoned (Part.at hp)))
  clear_value s1
  refine Kept.ite ?_ ?_
  · exact h2
  · extract_lets +onlyGivenNames -merge -useContext -underBinder s3
    clear_value s3
    extract_lets +onlyGivenNames -merge -useContext -underBinder s5
    clear_value s5
    extract_lets +onlyGivenNames -merge -useContext -underBinder s7
    clear_value s7
    extract_lets +onlyGivenNames -merge -useContext -underBinder s9
    clear_value s9
    extract_lets +onlyGivenNames -merge -useContext -underBinder s11
    clear_value s11
    exact (State.arithQueue_kept (State.wr_kept h2 (ARITH.TESTCTL.busy_zoned (Part.at hp))) (Part.sub hp))

theorem State.deliverCopy_kept {l s0} {s} {x1} {x2} {x3} {x4} (h : Kept l s0 s) (hp : Part.within [.arith, .head 0x14, .page 0x11, .lap, .dma, .page 0x42, .head 0x24, .head 0x20, .page 0x41, .page 0x40, .sram, .sramBad, .sramWeak, .alarm, .recorder, .loops, .pair, .page 0x38, .msg, .page 0x18, .cal] l) :
    Kept l s0 (State.deliverCopy s x1 x2 x3 x4) := by
  unfold State.deliverCopy
  extract_lets +onlyGivenNames -merge -useContext -underBinder s1 s2
  have h4 : Kept l s0 s2 := by unfold s2; exact (h.arith (Part.at hp))
  clear_value s2
  clear_value s1
  extract_lets +onlyGivenNames -merge -useContext -underBinder s5
  have h6 : Kept l s0 s5 := by unfold s5; exact (State.arithCount_kept h4 (ARITH.SATCNT.count_zoned (Part.at hp)) (ARITH.CNTOVF.sat_zoned (Part.at hp)) (ARITH.IRQRAW.sat_zoned (Part.at hp)) (Part.sub hp))
  clear_value s5
  extract_lets +onlyGivenNames -merge -useContext -underBinder s7
  have h8 : Kept l s0 s7 := by unfold s7; exact (State.arithCount_kept h6 (ARITH.DOMCNT.count_zoned (Part.at hp)) (ARITH.CNTOVF.dom_zoned (Part.at hp)) (ARITH.IRQRAW.dom_zoned (Part.at hp)) (Part.sub hp))
  clear_value s7
  extract_lets +onlyGivenNames -merge -useContext -underBinder s9
  have h10 : Kept l s0 s9 := by unfold s9; exact (State.putNth_kept h8 (ZonedFn.pageOf (n := 17) (Part.at hp) (fun _ => by simp only [ARITH.NE43FLT.ch]; omega)))
  clear_value s9
  exact (State.deliver_kept (Kept.ite (State.staleMark_kept h10 (Part.sub hp)) h10) (Part.sub hp))

theorem State.deliverOwn_kept {l s0} {s} {x1} {x2} {x3} (h : Kept l s0 s) (hp : Part.within [.page 0x10, .head 0x14, .cal, .terms, .recorder, .page 0x49, .head 0x24, .page 0x42, .head 0x20, .page 0x41, .page 0x40, .sram, .sramBad, .sramWeak, .msg, .page 0x178, .nvm, .lap, .dma, .alarm, .arith, .loops, .pair, .page 0x38, .page 0x18, .page 0x11] l) :
    Kept l s0 (State.deliverOwn s x1 x2 x3) := by
  unfold State.deliverOwn
  refine Kept.ite ?_ ?_
  · extract_lets +onlyGivenNames -merge -useContext -underBinder s1
    have h2 : Kept l s0 s1 := by unfold s1; exact (State.healthTake_kept (State.deliver_kept h (Part.sub hp)) (Part.sub hp))
    clear_value s1
    exact (Kept.each h2 (fun _ _ h3 => (State.deliverCopy_kept h3 (Part.sub hp))))
  · extract_lets +onlyGivenNames -merge -useContext -underBinder s4
    have h5 : Kept l s0 s4 := by unfold s4; exact (State.healthTake_kept h (Part.sub hp))
    clear_value s4
    refine Kept.ite ?_ ?_
    · exact h5
    · split
      · exact (Kept.ite (h5.arith (Part.at hp)) (State.deliverRetired_kept h5 (Part.sub hp)))
      · exact (State.deliverRetired_kept h5 (Part.sub hp))

theorem State.formedFlags_kept {l s0} {s} {x1} {x2} {x3} (h : Kept l s0 s) (hp : Part.within [.head 0x14, .page 0x11, .head 0x24, .head 0x20, .afe, .pages 0x8 0x10, .cal] l) :
    Kept l s0 (State.formedFlags s x1 x2 x3) := by
  unfold State.formedFlags
  extract_lets +onlyGivenNames -merge -useContext -underBinder s1
  have h2 : Kept l s0 s1 := by unfold s1; exact (State.arithCount_kept h (ARITH.SATCNT.count_zoned (Part.at hp)) (ARITH.CNTOVF.sat_zoned (Part.at hp)) (ARITH.IRQRAW.sat_zoned (Part.at hp)) (Part.sub hp))
  clear_value s1
  extract_lets +onlyGivenNames -merge -useContext -underBinder s3
  have h4 : Kept l s0 s3 := by unfold s3; exact (State.arithCount_kept h2 (ARITH.DOMCNT.count_zoned (Part.at hp)) (ARITH.CNTOVF.dom_zoned (Part.at hp)) (ARITH.IRQRAW.dom_zoned (Part.at hp)) (Part.sub hp))
  clear_value s3
  extract_lets +onlyGivenNames -merge -useContext -underBinder s5
  have h6 : Kept l s0 s5 := by unfold s5; exact (State.arithCount_kept h4 (ARITH.NE43CNT.count_zoned (Part.at hp)) (ARITH.CNTOVF.ne43_zoned (Part.at hp)) (ARITH.IRQRAW.ne43_zoned (Part.at hp)) (Part.sub hp))
  clear_value s5
  extract_lets +onlyGivenNames -merge -useContext -underBinder s7
  have h8 : Kept l s0 s7 := by unfold s7; exact (State.arithCount_kept h6 (ARITH.CJFBCNT.count_zoned (Part.at hp)) (ARITH.CNTOVF.cjfb_zoned (Part.at hp)) (ARITH.IRQRAW.cj_fallback_zoned (Part.at hp)) (Part.sub hp))
  clear_value s7
  extract_lets +onlyGivenNames -merge -useContext -underBinder s9
  have h10 : Kept l s0 s9 := by unfold s9; exact (Kept.ite (State.fault_kept (State.stick_kept h8 (ARITH.ITERCNT.count_zoned (Part.at hp)) (ARITH.CNTOVF.iter_zoned (Part.at hp)) (ZonedOpt.some (ARITH.IRQRAW.cnt_ovf_zoned (Part.at hp)))) (ARITH.FAULT.iterlim_zoned (Part.at hp)) (Part.sub hp)) h8)
  clear_value s9
  extract_lets +onlyGivenNames -merge -useContext -underBinder s11
  have h12 : Kept l s0 s11 := by unfold s11; exact (Kept.ite (State.fault_kept h10 (ARITH.FAULT.slot_zoned (Part.at hp)) (Part.sub hp)) h10)
  clear_value s11
  extract_lets +onlyGivenNames -merge -useContext -underBinder s13
  clear_value s13
  extract_lets +onlyGivenNames -merge -useContext -underBinder s15
  have h16 : Kept l s0 s15 := by unfold s15; exact (Kept.ite (State.putNth_kept h12 (ZonedFn.pageOf (n := 17) (Part.at hp) (fun _ => by simp only [ARITH.NE43FLT.ch]; omega))) h12)
  clear_value s15
  extract_lets +onlyGivenNames -merge -useContext -underBinder s17
  clear_value s17
  refine Kept.ite ?_ ?_
  · exact h16
  · extract_lets +onlyGivenNames -merge -useContext -underBinder s19 s20
    have h21 : Kept l s0 s19 := by unfold s19; exact (State.irq_kept (State.modBank_kept h16 (Part.sub hp)) (AFE.IRQRAW.short_zoned (Part.at hp)))
    have h22 : Kept l s0 s20 := by unfold s20; exact (Kept.ite (Kept.ite h21 (State.wr_kept h21 (AFE.CHSHORT.ctx_zoned (Part.at hp)))) h16)
    clear_value s20
    clear_value s19
    exact (Kept.ite (State.staleMark_kept h22 (Part.sub hp)) h22)

theorem State.testDone_kept {l s0} {s} {x1} (h : Kept l s0 s) (hp : Part.within [.page 0x11, .head 0x14] l) :
    Kept l s0 (State.testDone s x1) := by
  unfold State.testDone
  extract_lets +onlyGivenNames -merge -useContext -underBinder s1
  clear_value s1
  exact (State.irq_kept (State.wr_kept (Kept.each h (fun _ _ h3 => (State.wr_kept h3 (ARITH.TESTREC.bytes_zoned (Part.at hp))))) (ARITH.TESTCTL.busy_zoned (Part.at hp))) (ARITH.IRQRAW.test_done_zoned (Part.at hp)))

theorem execRecordFormation_kept {l s0} {s} (h : Kept l s0 s) (hp : Part.within [.arith, .page 0x11, .head 0x14, .head 0x24, .head 0x20, .afe, .pages 0x8 0x10, .cal, .lap, .dma, .page 0x42, .page 0x41, .page 0x40, .sram, .sramBad, .sramWeak, .alarm, .recorder, .loops, .pair, .page 0x38, .msg, .page 0x18, .page 0x10, .terms, .page 0x49, .page 0x178, .nvm] l) :
    KeptR l s0 (execRecordFormation s) := by
  unfold execRecordFormation
  split
  · exact (KeptR.next h)
  · refine KeptR.ite ?_ ?_
    · exact (KeptR.next h)
    · extract_lets +onlyGivenNames -merge -useContext -underBinder s1 s2
      have h4 : Kept l s0 s2 := by unfold s2; exact (h.arith (Part.at hp))
      clear_value s2
      clear_value s1
      split
      · refine KeptR.ite ?_ ?_
        · exact (KeptR.next (State.testDone_kept h4 (Part.sub hp)))
        · extract_lets +onlyGivenNames -merge -useContext -underBinder s5
          have h6 : Kept l s0 s5 := by unfold s5; exact (Kept.ite (State.formedFlags_kept h4 (Part.sub hp)) (State.formedFlags_kept h4 (Part.sub hp)))
          clear_value s5
          extract_lets +onlyGivenNames -merge -useContext -underBinder s7 s8
          have h10 : Kept l s0 s8 := by unfold s8; exact (h6.lap (Part.at hp))
          clear_value s8
          clear_value s7
          exact (KeptR.next (State.settleOwed_kept (State.deliverOwn_kept h10 (Part.sub hp)) (Part.sub hp)))

theorem execTestRecordStart_kept {l s0} {x0} {x1} {s} (h : Kept l s0 s) (hp : Part.within [.page 0x1, .status, .page 0x11, .lap, .head 0x14, .arith] l) :
    KeptR l s0 (execTestRecordStart x0 x1 s) := by
  unfold execTestRecordStart
  exact (State.command_kept h (fun h1 => (State.testStart_kept h1 (Part.sub hp))) (Part.sub hp))

end Sys2Proof.Machine
end

