-- ==== Sys2Proof/Laws/Eval.lean ====
section
/-!
SUPPORT. What each operation of Machine/Eval.lean can change: one lemma per operation, named after it. An operation started in a
state that has kept all parts of an earlier one but some keeps all but those and the parts that its lemma lists, and the
canonical form of the sparse maps with them.
-/

set_option Elab.async false

namespace Sys2Proof.Machine

theorem State.putRange_kept {l s0} {s} {x1 n : Nat} {x2} {p : Part} (h : Kept l s0 s) (hp : p.among l) (e : ∀ i, i < n → p.covers (x1 + 4 * i) = true) : Kept l s0 (State.putRange s x1 n x2) := by
  unfold State.putRange
  exact Kept.eachMem _ h fun t y hy k => State.setReg_kept (p := p) k hp (e y (List.mem_range.mp hy))

theorem State.outputsFollow_kept {l s0} {s} (h : Kept l s0 s) (hp : Part.within [.jkt, .page 0x19, .loops, .page 0x18] l) :
    Kept l s0 (State.outputsFollow s) := by
  unfold State.outputsFollow
  exact (State.applyOutputs_kept (State.loopsFromAlarms_kept (State.outsFromContexts_kept h (Part.sub hp)) (Part.sub hp)) (Part.sub hp))

theorem State.takeCallMirror_kept {l s0} {s} {x1} (h : Kept l s0 s) (hp : Part.within [.page 0x28, .call] l) :
    Kept l s0 (State.takeCallMirror s x1) := by
  unfold State.takeCallMirror
  extract_lets +onlyGivenNames -merge -useContext -underBinder s1
  clear_value s1
  extract_lets +onlyGivenNames -merge -useContext -underBinder s3
  have h4 : Kept l s0 s3 := by unfold s3; exact (State.wr_kept (State.wr_kept (State.wr_kept (State.wr_kept (State.wr_kept (State.wr_kept (State.wr_kept (State.wr_kept (State.wr_kept h (CALL.STATE.stage_zoned (Part.at hp))) (CALL.STATE.demand_zoned (Part.at hp))) (CALL.STATE.duty_zoned (Part.at hp))) (CALL.STATE.relay_pend_zoned (Part.at hp))) (CALL.STATE.relay_tgt_zoned (Part.at hp))) (CALL.STATE.pers_zoned (Part.at hp))) (CALL.STATE.officer_zoned (Part.at hp))) (CALL.TCALL.t_call_zoned (Part.at hp))) (CALL.CPLOST.cp_zoned (Part.at hp)))
  clear_value s3
  extract_lets +onlyGivenNames -merge -useContext -underBinder s5
  have h6 : Kept l s0 s5 := by unfold s5; exact (State.modCall_kept h4 (Part.sub hp))
  clear_value s5
  exact (State.wr_kept h6 (CALL.CPDRIVE.cp_zoned (Part.at hp)))

theorem State.applyMirror_kept {l s0} {s} {x1} (h : Kept l s0 s) (hp : Part.within [.freeCount, .pages 0x120 0x130, .page 0x20, .head 0x14, .alarm, .recorder, .page 0x49, .head 0x24, .page 0x42, .head 0x20, .page 0x41, .page 0x40, .sram, .sramBad, .sramWeak, .msg, .page 0x178, .dma, .page 0x130, .pair, .jkt, .page 0x19, .loops, .page 0x18, .page 0x28, .call] l) :
    Kept l s0 (State.applyMirror s x1) := by
  unfold State.applyMirror
  extract_lets +onlyGivenNames -merge -useContext -underBinder s1
  clear_value s1
  extract_lets +onlyGivenNames -merge -useContext -underBinder s3
  clear_value s3
  split
  · rename_i cause6 s7 q32
    have h5 : Kept l s0 s7 := Kept.snd q32 (State.draw_kept h (Part.sub hp))
    extract_lets +onlyGivenNames -merge -useContext -underBinder s8
    have h9 : Kept l s0 s8 := by
      unfold s8
      refine Kept.each h5 (fun _ _ h10 => ?_)
      split
      · extract_lets +onlyGivenNames -merge -useContext -underBinder s11
        clear_value s11
        extract_lets +onlyGivenNames -merge -useContext -underBinder s13
        have h14 : Kept l s0 s13 := by unfold s13; exact (State.putRange_kept h10 (p := .pages 0x120 0x130) (Part.at hp) (fun i hi => by simp [Part.covers] <;> omega))
        clear_value s13
        exact (State.showCtx_kept (State.tellReplaced_kept (Kept.ite h14 (State.stick_kept h14 (ALM.PAIRDIFF.count_zoned (Part.at hp)) (ALM.CNTOVF.pair_zoned (Part.at hp)) (ZonedOpt.some (ALM.IRQRAW.cnt_ovf_zoned (Part.at hp))))) (Part.sub hp)) (Part.sub hp))
    clear_value s8
    extract_lets +onlyGivenNames -merge -useContext -underBinder s15
    clear_value s15
    extract_lets +onlyGivenNames -merge -useContext -underBinder s17
    have h18 : Kept l s0 s17 := by
      unfold s17
      refine Kept.each h9 (fun _ _ h19 => ?_)
      split
      · extract_lets +onlyGivenNames -merge -useContext -underBinder s20
        have h21 : Kept l s0 s20 := by unfold s20; exact (State.putRange_kept h19 (p := .page 0x130) (Part.at hp) (fun i hi => by simp [Part.covers] <;> omega))
        clear_value s20
        extract_lets +onlyGivenNames -merge -useContext -underBinder s22
        clear_value s22
        exact (Kept.ite h21 (Kept.when (State.irq_kept h21 (ALM.IRQRAW.first_out_zoned (Part.at hp))) (fun _ h24 => (State.nqWrite_kept h24 (Part.sub hp)))))
    clear_value s17
    extract_lets +onlyGivenNames -merge -useContext -underBinder s25
    clear_value s25
    extract_lets +onlyGivenNames -merge -useContext -underBinder s27
    clear_value s27
    extract_lets +onlyGivenNames -merge -useContext -underBinder s29
    have h30 : Kept l s0 s29 := by unfold s29; exact (State.modAlm_kept (State.wr_kept h18 (ALM.SUPACT.cond_zoned (Part.at hp))) (Part.sub hp))
    clear_value s29
    exact (State.modPair_kept (State.outputsFollow_kept (Kept.when (State.groupsDrive_kept h30 (Part.sub hp)) (fun _ h31 => (State.takeCallMirror_kept h31 (Part.sub hp)))) (Part.sub hp)) (Part.sub hp))

theorem State.sendValues_kept {l s0} {s} (h : Kept l s0 s) (hp : Part.within [.msg, .head 0x24, .head 0x14, .page 0x34, .head 0x20] l) :
    Kept l s0 (State.sendValues s) := by
  unfold State.sendValues
  extract_lets +onlyGivenNames -merge -useContext -underBinder s1
  clear_value s1
  exact (Kept.each (State.modMsg_kept h (Part.sub hp)) (fun _ _ h3 => (State.sendTml_kept h3 (Part.sub hp))))

theorem State.takeMirror_kept {l s0} {s} (h : Kept l s0 s) (hp : Part.within [.freeCount, .pages 0x120 0x130, .page 0x20, .head 0x14, .alarm, .recorder, .page 0x49, .head 0x24, .page 0x42, .head 0x20, .page 0x41, .page 0x40, .sram, .sramBad, .sramWeak, .msg, .page 0x178, .dma, .page 0x130, .pair, .jkt, .page 0x19, .loops, .page 0x18, .page 0x28, .call] l) :
    Kept l s0 (State.takeMirror s) := by
  unfold State.takeMirror
  exact (Kept.ite (State.applyMirror_kept h (Part.sub hp)) h)

theorem State.sendMirror_kept {l s0} {s} (h : Kept l s0 s) (hp : Part.within [.pair] l) :
    Kept l s0 (State.sendMirror s) := by
  unfold State.sendMirror
  refine Kept.ite ?_ ?_
  · exact h
  · extract_lets +onlyGivenNames -merge -useContext -underBinder s1
    clear_value s1
    exact (State.uhlizSend_kept (Kept.each h (fun _ _ h3 => (State.uhlizSend_kept h3 (Part.sub hp)))) (Part.sub hp))

theorem State.endEvaluation_kept {l s0} {s} {x1} (h : Kept l s0 s) (hp : Part.within [.arith, .lap, .dma, .page 0x42, .head 0x14, .head 0x24, .head 0x20, .page 0x41, .page 0x40, .sram, .sramBad, .sramWeak, .alarm, .recorder, .loops, .pair, .page 0x38, .msg, .page 0x18, .cal, .pages 0x120 0x130, .page 0x20, .freeCount, .page 0x130, .page 0x49, .page 0x178, .call, .page 0x28, .page 0x34, .jkt, .page 0x19, .pages 0x30 0x34, .ports] l) :
    Kept l s0 (State.endEvaluation s x1) := by
  unfold State.endEvaluation
  extract_lets +onlyGivenNames -merge -useContext -underBinder s1
  have h2 : Kept l s0 s1 := by unfold s1; exact (State.settleOwed_kept h (Part.sub hp))
  clear_value s1
  extract_lets +onlyGivenNames -merge -useContext -underBinder s3 s4
  have h5 : Kept l s0 s3 := by unfold s3; exact (State.wr_kept (State.almEvaluate_kept h2 (Part.sub hp)) (ALM.EVALTIME.cycles_zoned (Part.at hp)))
  have h6 : Kept l s0 s4 := by unfold s4; exact (Kept.ite (State.callEvaluate_kept (Kept.ite (State.fault_kept h5 (ALM.FAULT.evaltime_zoned (Part.at hp)) (Part.sub hp)) h5) (Part.sub hp)) h2)
  clear_value s4
  clear_value s3
  extract_lets +onlyGivenNames -merge -useContext -underBinder s7
  have h8 : Kept l s0 s7 := by unfold s7; exact (State.sendValues_kept (State.applyOutputs_kept (State.loopEvalEnd_kept (State.dioEvalEnd_kept h6 (Part.sub hp)) (Part.sub hp)) (Part.sub hp)) (Part.sub hp))
  clear_value s7
  extract_lets +onlyGivenNames -merge -useContext -underBinder s9 s10
  have h12 : Kept l s0 s10 := by unfold s10; exact (h8.lap (Part.at hp))
  clear_value s10
  clear_value s9
  extract_lets +onlyGivenNames -merge -useContext -underBinder s13
  have h14 : Kept l s0 s13 := by unfold s13; exact (State.takeMirror_kept (State.uhlizSend_kept (State.sendMirror_kept h12 (Part.sub hp)) (Part.sub hp)) (Part.sub hp))
  clear_value s13
  exact (State.pump_kept (State.callDrain_kept (State.almDrain_kept h14 (Part.sub hp)) (Part.sub hp)) (Part.sub hp))

theorem State.completeEvaluation_kept {l s0} {s} (h : Kept l s0 s) (hp : Part.within [.freeCount, .arith, .lap, .dma, .page 0x42, .head 0x14, .head 0x24, .head 0x20, .page 0x41, .page 0x40, .sram, .sramBad, .sramWeak, .alarm, .recorder, .loops, .pair, .page 0x38, .msg, .page 0x18, .cal, .pages 0x120 0x130, .page 0x20, .page 0x130, .page 0x49, .page 0x178, .call, .page 0x28, .page 0x34, .jkt, .page 0x19, .pages 0x30 0x34, .ports] l) :
    Kept l s0 (State.completeEvaluation s) := by
  unfold State.completeEvaluation
  refine Kept.ite ?_ ?_
  · split
    · rename_i x2 s13 q4
      have h1 : Kept l s0 s13 := Kept.snd q4 (State.draw_kept h (Part.sub hp))
      exact (State.endEvaluation_kept h1 (Part.sub hp))
  · exact h

theorem State.skipEvaluation_kept {l s0} {s} (h : Kept l s0 s) (hp : Part.within [.arith, .lap, .dma, .page 0x42, .head 0x14, .head 0x24, .head 0x20, .page 0x41, .page 0x40, .sram, .sramBad, .sramWeak, .alarm, .recorder, .loops, .pair, .page 0x38, .msg, .page 0x18, .cal, .pages 0x120 0x130, .page 0x20, .freeCount, .page 0x130, .page 0x49, .page 0x178, .call, .page 0x28, .page 0x34, .jkt, .page 0x19, .pages 0x30 0x34, .ports] l) :
    Kept l s0 (State.skipEvaluation s) := by
  unfold State.skipEvaluation
  exact (Kept.ite (State.endEvaluation_kept h (Part.sub hp)) h)

theorem execAlmEvaluation_kept {l s0} {x0} {s} (h : Kept l s0 s) (hp : Part.within [.arith, .lap, .dma, .page 0x42, .head 0x14, .head 0x24, .head 0x20, .page 0x41, .page 0x40, .sram, .sramBad, .sramWeak, .alarm, .recorder, .loops, .pair, .page 0x38, .msg, .page 0x18, .cal, .pages 0x120 0x130, .page 0x20, .freeCount, .page 0x130, .page 0x49, .page 0x178, .call, .page 0x28, .page 0x34, .jkt, .page 0x19, .pages 0x30 0x34, .ports] l) :
    KeptR l s0 (execAlmEvaluation x0 s) := by
  unfold execAlmEvaluation
  exact (KeptR.next (Kept.ite (State.endEvaluation_kept h (Part.sub hp)) h))

end Sys2Proof.Machine
end

