-- ==== Sys2Proof/Laws/Pair.lean ====
section
/-!
SUPPORT. What each operation of Machine/Pair.lean can change: one lemma per operation, named after it. An operation started in a
state that has kept all parts of an earlier one but some keeps all but those and the parts that its lemma lists, and the
canonical form of the sparse maps with them.
-/

set_option Elab.async false

namespace Sys2Proof.Machine

theorem State.pairStat_kept {l s0} {s} {x1} {x2} (h : Kept l s0 s) (hp : Part.within [.page 0x38] l) :
    Kept l s0 (State.pairStat s x1 x2) := by
  unfold State.pairStat
  exact (State.cmdStat_kept h (PAIR.CMDSTAT.state_zoned (Part.at hp)) (PAIR.CMDSTAT.reason_zoned (Part.at hp)))

theorem State.leaseSend_kept {l s0} {s} (h : Kept l s0 s) (hp : Part.within [.page 0x38, .pair] l) :
    Kept l s0 (State.leaseSend s) := by
  unfold State.leaseSend
  refine Kept.ite ?_ ?_
  · exact h
  · extract_lets +onlyGivenNames -merge -useContext -underBinder s1
    have h2 : Kept l s0 s1 := by unfold s1; exact (Kept.ite (State.wr_kept h (PAIR.LEASESEQ.seq_zoned (Part.at hp))) h)
    clear_value s1
    exact (State.uhlizSend_kept h2 (Part.sub hp))

theorem State.requestHandover_kept {l s0} {s} {x1} {x2} (h : Kept l s0 s) (hp : Part.within [.msg, .page 0x38, .pair] l) :
    Kept l s0 (State.requestHandover s x1 x2) := by
  unfold State.requestHandover
  extract_lets +onlyGivenNames -merge -useContext -underBinder s1
  have h2 : ∀ {y0}, Kept l s0 (s1 y0) := by
    intro y0
    unfold s1
    extract_lets +onlyGivenNames -merge -useContext -underBinder s3
    have h4 : Kept l s0 s3 := by unfold s3; exact (State.replyTo_kept (State.pairStat_kept h (Part.sub hp)) (Part.sub hp))
    clear_value s3
    exact (Kept.ite (State.uhlizSend_kept h4 (Part.sub hp)) h4)
  clear_value s1
  refine Kept.ite ?_ ?_
  · exact h2
  · refine Kept.ite ?_ ?_
    · exact h2
    · refine Kept.ite ?_ ?_
      · exact h2
      · extract_lets +onlyGivenNames -merge -useContext -underBinder s5
        clear_value s5
        exact (State.leaseSend_kept (State.modPair_kept (State.wr_kept (State.wr_kept (State.pairStat_kept h (Part.sub hp)) (PAIR.HOLAP.lap_zoned (Part.at hp))) (PAIR.STAT.ho_pend_zoned (Part.at hp))) (Part.sub hp)) (Part.sub hp))

theorem State.tellRole_kept {l s0} {s} {x1} (h : Kept l s0 s) (hp : Part.within [.recorder, .page 0x49, .head 0x14, .head 0x24, .page 0x42, .head 0x20, .page 0x41, .page 0x40, .sram, .sramBad, .sramWeak, .msg, .page 0x178] l) :
    Kept l s0 (State.tellRole s x1) := by
  unfold State.tellRole
  exact (State.recEvent_kept (State.irq_kept h (PAIR.IRQRAW.role_change_zoned (Part.at hp))) (Part.sub hp))

theorem State.timeRole_kept {l s0} {s} (h : Kept l s0 s) (hp : Part.within [.page 0x35, .tsync] l) :
    Kept l s0 (State.timeRole s) := by
  unfold State.timeRole
  extract_lets +onlyGivenNames -merge -useContext -underBinder s1
  clear_value s1
  refine Kept.ite ?_ ?_
  · exact h
  · refine Kept.ite ?_ ?_
    · exact (State.wr_kept (State.wr_kept (State.wr_kept h (TSYNC.STATE.state_zoned (Part.at hp))) (TSYNC.STATE.hops_zoned (Part.at hp))) (TSYNC.STATE.srcnid_zoned (Part.at hp)))
    · refine Kept.ite ?_ ?_
      · extract_lets +onlyGivenNames -merge -useContext -underBinder s3
        have h4 : Kept l s0 s3 := by unfold s3; exact (State.wr_kept h (TSYNC.STATE.state_zoned (Part.at hp)))
        clear_value s3
        exact (h4.tsync (Part.at hp))
      · exact h

theorem State.showReady_kept {l s0} {s} (h : Kept l s0 s) (hp : Part.within [.page 0x38] l) :
    Kept l s0 (State.showReady s) := by
  unfold State.showReady
  exact (State.put_kept h (PAIR.STAT.ready_zoned (Part.at hp)))

theorem State.toRole_kept {l s0} {s} {x1} (h : Kept l s0 s) (hp : Part.within [.recorder, .page 0x49, .head 0x14, .head 0x24, .page 0x42, .head 0x20, .page 0x41, .page 0x40, .sram, .sramBad, .sramWeak, .msg, .page 0x178, .page 0x38, .pair, .lap, .ports, .pages 0x30 0x34, .page 0x35, .tsync, .loops, .page 0x18, .jkt, .page 0x19] l) :
    Kept l s0 (State.toRole s x1) := by
  unfold State.toRole
  refine Kept.ite ?_ ?_
  · exact h
  · extract_lets +onlyGivenNames -merge -useContext -underBinder s1
    have h2 : Kept l s0 s1 := by unfold s1; exact (State.tellRole_kept (State.wr_kept h (PAIR.STAT.role_zoned (Part.at hp))) (Part.sub hp))
    clear_value s1
    extract_lets +onlyGivenNames -merge -useContext -underBinder s3
    have h4 : Kept l s0 s3 := by unfold s3; exact (Kept.ite (State.modPair_kept h2 (Part.sub hp)) h2)
    clear_value s3
    extract_lets +onlyGivenNames -merge -useContext -underBinder s5 s6
    have h8 : Kept l s0 s6 := by unfold s6; exact (Kept.ite (h4.lap (Part.at hp)) h4)
    clear_value s6
    clear_value s5
    exact (State.purge_kept (State.timeRole_kept (State.driveLoops_kept (State.applyOutputs_kept (State.showReady_kept h8 (Part.sub hp)) (Part.sub hp)) (Part.sub hp)) (Part.sub hp)) (Part.sub hp))

theorem State.pairCommand_kept {l s0} {s} {x1} {x2} {x3} (h : Kept l s0 s) (hp : Part.within [.page 0x38, .pair, .msg, .recorder, .page 0x49, .head 0x14, .head 0x24, .page 0x42, .head 0x20, .page 0x41, .page 0x40, .sram, .sramBad, .sramWeak, .page 0x178, .lap, .ports, .pages 0x30 0x34, .page 0x35, .tsync, .loops, .page 0x18, .jkt, .page 0x19] l) :
    Kept l s0 (State.pairCommand s x1 x2 x3) := by
  unfold State.pairCommand
  split
  · exact (Kept.ite (State.pairStat_kept (State.forward_kept h (Part.sub hp)) (Part.sub hp)) (State.requestHandover_kept h (Part.sub hp)))
  · exact (State.replyTo_kept (Kept.ite (State.pairStat_kept (State.toRole_kept h (Part.sub hp)) (Part.sub hp)) (State.pairStat_kept h (Part.sub hp))) (Part.sub hp))
  · exact (State.replyTo_kept (State.pairStat_kept h (Part.sub hp)) (Part.sub hp))

theorem State.setModes_kept {l s0} {s} {x1} {x2} (h : Kept l s0 s) (hp : Part.within [.afe, .pages 0x8 0x10] l) :
    Kept l s0 (State.setModes s x1 x2) := by
  unfold State.setModes
  exact (Kept.each h (fun _ _ h1 => (State.modBank_kept (State.put_kept (State.put_kept h1 (AFE.MODE.listen_zoned (Part.at hp))) (AFE.MODE.excown_zoned (Part.at hp))) (Part.sub hp))))

theorem State.pairRelease_kept {l s0} {s} {x1} (h : Kept l s0 s) (hp : Part.within [.msg, .ports, .pages 0x30 0x34, .head 0x14, .pair, .afe, .pages 0x8 0x10] l) :
    Kept l s0 (State.pairRelease s x1) := by
  unfold State.pairRelease
  extract_lets +onlyGivenNames -merge -useContext -underBinder s1
  have h2 : Kept l s0 s1 := by unfold s1; exact (State.purge_kept (h.pair (Part.at hp)) (Part.sub hp))
  clear_value s1
  exact (Kept.ite (Kept.ite (State.setModes_kept h2 (Part.sub hp)) (State.setModes_kept h2 (Part.sub hp))) h2)

theorem State.pairCommitted_kept {l s0} {s} {x1} (h : Kept l s0 s) (hp : Part.within [.recorder, .page 0x49, .head 0x14, .head 0x24, .page 0x42, .head 0x20, .page 0x41, .page 0x40, .sram, .sramBad, .sramWeak, .msg, .page 0x178, .ports, .pages 0x30 0x34, .loops, .page 0x18, .jkt, .page 0x19, .afe, .pages 0x8 0x10, .pair, .page 0x38] l) :
    Kept l s0 (State.pairCommitted s x1) := by
  unfold State.pairCommitted
  extract_lets +onlyGivenNames -merge -useContext -underBinder s1
  clear_value s1
  extract_lets +onlyGivenNames -merge -useContext -underBinder s3
  clear_value s3
  exact (Kept.ite h (Kept.ite (State.tellRole_kept (State.purge_kept (State.driveLoops_kept (State.applyOutputs_kept (State.setModes_kept (State.wr_kept (h.pair (Part.at hp)) (PAIR.STAT.role_zoned (Part.at hp))) (Part.sub hp)) (Part.sub hp)) (Part.sub hp)) (Part.sub hp)) (Part.sub hp)) (State.tellRole_kept (State.driveLoops_kept (State.applyOutputs_kept (State.setModes_kept h (Part.sub hp)) (Part.sub hp)) (Part.sub hp)) (Part.sub hp))))

theorem State.showDiffer_kept {l s0} {s} (h : Kept l s0 s) (hp : Part.within [.page 0x38] l) :
    Kept l s0 (State.showDiffer s) := by
  unfold State.showDiffer
  exact (State.put_kept h (PAIR.STAT.cfgdiff_zoned (Part.at hp)))

theorem State.becomeHolder_kept {l s0} {s} (h : Kept l s0 s) (hp : Part.within [.afe, .pages 0x8 0x10, .recorder, .page 0x49, .head 0x14, .head 0x24, .page 0x42, .head 0x20, .page 0x41, .page 0x40, .sram, .sramBad, .sramWeak, .msg, .page 0x178, .page 0x38, .pair, .lap, .ports, .pages 0x30 0x34, .page 0x35, .tsync, .loops, .page 0x18, .jkt, .page 0x19] l) :
    Kept l s0 (State.becomeHolder s) := by
  unfold State.becomeHolder
  exact (State.setModes_kept (State.toRole_kept h (Part.sub hp)) (Part.sub hp))

theorem State.claimHeard_kept {l s0} {s} {x1} (h : Kept l s0 s) (hp : Part.within [.pair, .page 0x38] l) :
    Kept l s0 (State.claimHeard s x1) := by
  unfold State.claimHeard
  extract_lets +onlyGivenNames -merge -useContext -underBinder s1
  have h2 : Kept l s0 s1 := by unfold s1; exact (State.modPair_kept (State.wr_kept h (PAIR.LEASESEQ.seq_zoned (Part.at hp))) (Part.sub hp))
  clear_value s1
  exact (State.modPair_kept (State.wr_kept h2 (PAIR.STAT.evidence_zoned (Part.at hp))) (Part.sub hp))

theorem State.countSplit_kept {l s0} {s} (h : Kept l s0 s) (hp : Part.within [.pair, .head 0x24, .head 0x14, .page 0x38, .head 0x20] l) :
    Kept l s0 (State.countSplit s) := by
  unfold State.countSplit
  extract_lets +onlyGivenNames -merge -useContext -underBinder s1
  clear_value s1
  extract_lets +onlyGivenNames -merge -useContext -underBinder s3
  have h4 : Kept l s0 s3 := by unfold s3; exact (State.modPair_kept h (Part.sub hp))
  clear_value s3
  exact (Kept.ite h4 (State.fault_kept (State.irq_kept (State.stick_kept h4 (PAIR.SPLITCNT.count_zoned (Part.at hp)) (PAIR.CNTOVF.split_zoned (Part.at hp)) (ZonedOpt.some (PAIR.IRQRAW.cnt_ovf_zoned (Part.at hp)))) (PAIR.IRQRAW.split_zoned (Part.at hp))) (PAIR.FAULT.split_zoned (Part.at hp)) (Part.sub hp)))

theorem State.digestHeard_kept {l s0} {s} {x1} {x2} (h : Kept l s0 s) (hp : Part.within [.pair, .lap, .page 0x11, .head 0x14, .arith, .page 0x38, .head 0x24, .head 0x20] l) :
    Kept l s0 (State.digestHeard s x1 x2) := by
  unfold State.digestHeard
  extract_lets +onlyGivenNames -merge -useContext -underBinder s1
  have h2 : Kept l s0 s1 := by unfold s1; exact (State.modPair_kept h (Part.sub hp))
  clear_value s1
  extract_lets +onlyGivenNames -merge -useContext -underBinder s3
  clear_value s3
  split
  · exact (State.arithQueue_kept (State.modPair_kept h2 (Part.sub hp)) (Part.sub hp))
  · split
    · exact (Kept.ite (State.crossCheck_kept h2 (Part.sub hp)) h2)
    · exact h2

theorem State.forwardedStat_kept {l s0} {s} {x1} {x2} {x3} {x4} (h : Kept l s0 s) (hp : Part.within [.msg, .page 0x20, .page 0x28, .page 0x38] l) :
    Kept l s0 (State.forwardedStat s x1 x2 x3 x4) := by
  unfold State.forwardedStat
  exact (Kept.ite (State.replyTo_kept (State.almStat_kept h (Part.sub hp)) (Part.sub hp)) (Kept.ite (State.replyTo_kept (State.callStat_kept h (Part.sub hp)) (Part.sub hp)) (State.replyTo_kept (State.pairStat_kept h (Part.sub hp)) (Part.sub hp))))

theorem State.showLink_kept {l s0} {s} {x1} (h : Kept l s0 s) (hp : Part.within [.page 0x38, .head 0x14, .head 0x24, .head 0x20] l) :
    Kept l s0 (State.showLink s x1) := by
  unfold State.showLink
  extract_lets +onlyGivenNames -merge -useContext -underBinder s1
  clear_value s1
  extract_lets +onlyGivenNames -merge -useContext -underBinder s3
  clear_value s3
  extract_lets +onlyGivenNames -merge -useContext -underBinder s5
  have h6 : Kept l s0 s5 := by unfold s5; exact (State.put_kept (State.wr_kept h (PAIR.STAT.lanes_zoned (Part.at hp))) (PAIR.STAT.link_zoned (Part.at hp)))
  clear_value s5
  refine Kept.ite ?_ ?_
  · exact (State.irq_kept h6 (PAIR.IRQRAW.link_up_zoned (Part.at hp)))
  · refine Kept.ite ?_ ?_
    · extract_lets +onlyGivenNames -merge -useContext -underBinder s7
      have h8 : Kept l s0 s7 := by unfold s7; exact (State.wr_kept (State.irq_kept h6 (PAIR.IRQRAW.link_lost_zoned (Part.at hp))) (PAIR.STAT.aligned_zoned (Part.at hp)))
      clear_value s7
      extract_lets +onlyGivenNames -merge -useContext -underBinder s9
      clear_value s9
      exact (Kept.ite (State.fault_kept (State.wr_kept h8 (PAIR.STAT.partner_zoned (Part.at hp))) (PAIR.FAULT.degraded_zoned (Part.at hp)) (Part.sub hp)) h8)
    · exact h6

theorem State.lanesNow_kept {l s0} {s} {x1} (h : Kept l s0 s) (hp : Part.within [.page 0x38, .head 0x14, .head 0x24, .head 0x20] l) :
    Kept l s0 (State.lanesNow s x1) := by
  unfold State.lanesNow
  exact (State.showScore_kept (State.showReady_kept (State.showLink_kept h (Part.sub hp)) (Part.sub hp)) (Part.sub hp))

theorem State.goodFrame_kept {l s0} {s} {x1} (h : Kept l s0 s) (hp : Part.within [.pair, .page 0x38, .head 0x14, .head 0x24, .head 0x20] l) :
    Kept l s0 (State.goodFrame s x1) := by
  unfold State.goodFrame
  extract_lets +onlyGivenNames -merge -useContext -underBinder s1
  clear_value s1
  extract_lets +onlyGivenNames -merge -useContext -underBinder s3
  have h4 : Kept l s0 s3 := by unfold s3; exact (State.modPair_kept h (Part.sub hp))
  clear_value s3
  extract_lets +onlyGivenNames -merge -useContext -underBinder s5
  clear_value s5
  exact (Kept.ite (State.lanesNow_kept h4 (Part.sub hp)) h4)

theorem State.fromPartner_kept {l s0} {s} {x1} {f2 : Sys2Proof.Machine.State → Sys2Proof.Machine.State} (h : Kept l s0 s) (hf2 : ∀ {t}, Kept l s0 t → Kept l s0 (f2 t)) (hp : Part.within [.pair, .page 0x38, .head 0x14, .head 0x24, .head 0x20] l) :
    KeptR l s0 (State.fromPartner s x1 f2) := by
  unfold State.fromPartner
  refine KeptR.ite ?_ ?_
  · exact (KeptR.next h)
  · extract_lets +onlyGivenNames -merge -useContext -underBinder s1
    have h2 : Kept l s0 s1 := by unfold s1; exact (State.goodFrame_kept h (Part.sub hp))
    clear_value s1
    exact (KeptR.next (Kept.ite (hf2 h2) h2))

theorem State.handoverOver_kept {l s0} {s} {x1} {x2} (h : Kept l s0 s) (hp : Part.within [.pair, .page 0x38, .msg] l) :
    Kept l s0 (State.handoverOver s x1 x2) := by
  unfold State.handoverOver
  extract_lets +onlyGivenNames -merge -useContext -underBinder s1
  have h2 : Kept l s0 s1 := by unfold s1; exact (State.modPair_kept (State.pairStat_kept h (Part.sub hp)) (Part.sub hp))
  clear_value s1
  extract_lets +onlyGivenNames -merge -useContext -underBinder s3
  have h4 : Kept l s0 s3 := by unfold s3; exact (State.replyTo_kept (State.wr_kept h2 (PAIR.STAT.ho_pend_zoned (Part.at hp))) (Part.sub hp))
  clear_value s3
  exact (Kept.ite (State.uhlizSend_kept h4 (Part.sub hp)) h4)

theorem State.handoverDone_kept {l s0} {s} (h : Kept l s0 s) (hp : Part.within [.pair, .page 0x38, .msg, .head 0x14] l) :
    Kept l s0 (State.handoverDone s) := by
  unfold State.handoverDone
  exact (Kept.ite h (State.irq_kept (State.wrap_kept (State.handoverOver_kept h (Part.sub hp)) (PAIR.HANDOVERCNT.count_zoned (Part.at hp))) (PAIR.IRQRAW.handover_zoned (Part.at hp))))

theorem State.handoverStep_kept {l s0} {s} (h : Kept l s0 s) (hp : Part.within [.pair, .afe, .pages 0x8 0x10, .recorder, .page 0x49, .head 0x14, .head 0x24, .page 0x42, .head 0x20, .page 0x41, .page 0x40, .sram, .sramBad, .sramWeak, .msg, .page 0x178, .page 0x38, .lap, .ports, .pages 0x30 0x34, .page 0x35, .tsync, .loops, .page 0x18, .jkt, .page 0x19] l) :
    Kept l s0 (State.handoverStep s) := by
  unfold State.handoverStep
  refine Kept.ite ?_ ?_
  · exact h
  · extract_lets +onlyGivenNames -merge -useContext -underBinder s1
    have h2 : Kept l s0 s1 := by unfold s1; exact (Kept.ite (State.modPair_kept (State.setModes_kept h (Part.sub hp)) (Part.sub hp)) h)
    clear_value s1
    extract_lets +onlyGivenNames -merge -useContext -underBinder s3
    have h4 : Kept l s0 s3 := by unfold s3; exact (Kept.ite (State.modPair_kept (State.setModes_kept h2 (Part.sub hp)) (Part.sub hp)) h2)
    clear_value s3
    refine Kept.ite ?_ ?_
    · refine Kept.ite ?_ ?_
      · exact (State.toRole_kept (State.modPair_kept (State.setModes_kept h4 (Part.sub hp)) (Part.sub hp)) (Part.sub hp))
      · extract_lets +onlyGivenNames -merge -useContext -underBinder s5
        have h6 : Kept l s0 s5 := by unfold s5; exact (State.modPair_kept (State.setModes_kept h4 (Part.sub hp)) (Part.sub hp))
        clear_value s5
        exact (State.leaseSend_kept (State.irq_kept (State.wrap_kept (State.toRole_kept (State.wr_kept h6 (PAIR.STAT.ho_pend_zoned (Part.at hp))) (Part.sub hp)) (PAIR.HANDOVERCNT.count_zoned (Part.at hp))) (PAIR.IRQRAW.handover_zoned (Part.at hp))) (Part.sub hp))
    · exact h4

theorem State.sendLapmark_kept {l s0} {s} (h : Kept l s0 s) (hp : Part.within [.pair] l) :
    Kept l s0 (State.sendLapmark s) := by
  unfold State.sendLapmark
  exact (Kept.ite (State.uhlizSend_kept h (Part.sub hp)) h)

theorem State.splitFound_kept {l s0} {s} {x1} (h : Kept l s0 s) (hp : Part.within [.pair, .head 0x24, .head 0x14, .page 0x38, .head 0x20, .lap, .page 0x11, .arith, .afe, .recorder, .page 0x49, .page 0x42, .page 0x41, .page 0x40, .sram, .sramBad, .sramWeak, .msg, .page 0x178, .ports, .pages 0x30 0x34, .page 0x35, .tsync, .loops, .page 0x18, .jkt, .page 0x19, .pages 0x8 0x10] l) :
    Kept l s0 (State.splitFound s x1) := by
  unfold State.splitFound
  extract_lets +onlyGivenNames -merge -useContext -underBinder s1
  have h2 : Kept l s0 s1 := by unfold s1; exact (State.modPair_kept (State.countSplit_kept h (Part.sub hp)) (Part.sub hp))
  clear_value s1
  extract_lets +onlyGivenNames -merge -useContext -underBinder s3
  clear_value s3
  refine Kept.ite ?_ ?_
  · exact h2
  · extract_lets +onlyGivenNames -merge -useContext -underBinder s5
    have h6 : Kept l s0 s5 := by unfold s5; exact (Kept.each h2 (fun _ _ h7 => (Kept.each h7 (fun _ _ h8 => (State.endRun_kept h8 (Part.sub hp))))))
    clear_value s5
    exact (State.toRole_kept (State.wr_kept (State.modPair_kept (State.setModes_kept h6 (Part.sub hp)) (Part.sub hp)) (PAIR.STAT.ho_pend_zoned (Part.at hp))) (Part.sub hp))

theorem State.startHeard_kept {l s0} {s} {x1} {x2} {x3} {x4} (h : Kept l s0 s) (hp : Part.within [.afe, .pages 0x8 0x10, .recorder, .page 0x49, .head 0x14, .head 0x24, .page 0x42, .head 0x20, .page 0x41, .page 0x40, .sram, .sramBad, .sramWeak, .msg, .page 0x178, .page 0x38, .pair, .lap, .ports, .pages 0x30 0x34, .page 0x35, .tsync, .loops, .page 0x18, .jkt, .page 0x19] l) :
    Kept l s0 (State.startHeard s x1 x2 x3 x4) := by
  unfold State.startHeard
  extract_lets +onlyGivenNames -merge -useContext -underBinder s1
  clear_value s1
  exact (Kept.ite (State.setModes_kept (State.toRole_kept h (Part.sub hp)) (Part.sub hp)) (Kept.ite (State.leaseSend_kept (State.becomeHolder_kept (State.wr_kept h (PAIR.LEASESEQ.seq_zoned (Part.at hp))) (Part.sub hp)) (Part.sub hp)) (Kept.ite (State.leaseSend_kept (State.becomeHolder_kept h (Part.sub hp)) (Part.sub hp)) h)))

theorem State.stopSources_kept {l s0} {s} (h : Kept l s0 s) (hp : Part.within [.lap, .page 0x11, .head 0x14, .arith, .pair, .afe] l) :
    Kept l s0 (State.stopSources s) := by
  unfold State.stopSources
  exact (Kept.each h (fun _ _ h1 => (Kept.each h1 (fun _ _ h2 => (State.endRun_kept h2 (Part.sub hp))))))

theorem State.takeBaton_kept {l s0} {s} (h : Kept l s0 s) (hp : Part.within [.pair, .afe, .pages 0x8 0x10, .lap, .page 0x11, .head 0x14, .arith, .recorder, .page 0x49, .head 0x24, .page 0x42, .head 0x20, .page 0x41, .page 0x40, .sram, .sramBad, .sramWeak, .msg, .page 0x178, .page 0x38, .ports, .pages 0x30 0x34, .page 0x35, .tsync, .loops, .page 0x18, .jkt, .page 0x19] l) :
    Kept l s0 (State.takeBaton s) := by
  unfold State.takeBaton
  extract_lets +onlyGivenNames -merge -useContext -underBinder s1
  have h2 : Kept l s0 s1 := by unfold s1; exact (State.modPair_kept (State.setModes_kept (State.stopSources_kept h (Part.sub hp)) (Part.sub hp)) (Part.sub hp))
  clear_value s1
  extract_lets +onlyGivenNames -merge -useContext -underBinder s3
  have h4 : Kept l s0 s3 := by unfold s3; exact (State.stick_kept (State.toRole_kept (State.wr_kept h2 (PAIR.STAT.ho_pend_zoned (Part.at hp))) (Part.sub hp)) (PAIR.TAKEOVERCNT.count_zoned (Part.at hp)) (PAIR.CNTOVF.take_zoned (Part.at hp)) (ZonedOpt.some (PAIR.IRQRAW.cnt_event_zoned (Part.at hp))))
  clear_value s3
  exact (State.leaseSend_kept (State.irq_kept h4 (PAIR.IRQRAW.takeover_zoned (Part.at hp))) (Part.sub hp))

theorem State.syncDone_kept {l s0} {s} (h : Kept l s0 s) (hp : Part.within [.recorder, .page 0x49, .head 0x14, .head 0x24, .page 0x42, .head 0x20, .page 0x41, .page 0x40, .sram, .sramBad, .sramWeak, .msg, .page 0x178, .page 0x38, .pair, .lap, .ports, .pages 0x30 0x34, .page 0x35, .tsync, .loops, .page 0x18, .jkt, .page 0x19] l) :
    Kept l s0 (State.syncDone s) := by
  unfold State.syncDone
  exact (Kept.ite (State.toRole_kept h (Part.sub hp)) h)

theorem State.leaseHeard_kept {l s0} {s} {x1} (h : Kept l s0 s) (hp : Part.within [.pair, .page 0x38, .head 0x24, .head 0x14, .head 0x20, .lap, .page 0x11, .arith, .afe, .recorder, .page 0x49, .page 0x42, .page 0x41, .page 0x40, .sram, .sramBad, .sramWeak, .msg, .page 0x178, .ports, .pages 0x30 0x34, .page 0x35, .tsync, .loops, .page 0x18, .jkt, .page 0x19, .pages 0x8 0x10] l) :
    Kept l s0 (State.leaseHeard s x1) := by
  unfold State.leaseHeard
  extract_lets +onlyGivenNames -merge -useContext -underBinder s1
  have h2 : Kept l s0 s1 := by unfold s1; exact (Kept.ite (State.modPair_kept h (Part.sub hp)) h)
  clear_value s1
  refine Kept.ite ?_ ?_
  · exact h2
  · extract_lets +onlyGivenNames -merge -useContext -underBinder s3
    clear_value s3
    extract_lets +onlyGivenNames -merge -useContext -underBinder s5
    clear_value s5
    extract_lets +onlyGivenNames -merge -useContext -underBinder s7
    clear_value s7
    extract_lets +onlyGivenNames -merge -useContext -underBinder s9
    clear_value s9
    extract_lets +onlyGivenNames -merge -useContext -underBinder s11
    clear_value s11
    extract_lets +onlyGivenNames -merge -useContext -underBinder s13
    clear_value s13
    extract_lets +onlyGivenNames -merge -useContext -underBinder s15
    clear_value s15
    extract_lets +onlyGivenNames -merge -useContext -underBinder s17
    have h18 : Kept l s0 s17 := by unfold s17; exact (State.modPair_kept (State.wr_kept (State.wr_kept (State.wr_kept h2 (PAIR.STAT.partner_zoned (Part.at hp))) (PAIR.STAT.pscore_zoned (Part.at hp))) (PAIR.PDIGEST.crc_zoned (Part.at hp))) (Part.sub hp))
    clear_value s17
    extract_lets +onlyGivenNames -merge -useContext -underBinder s19
    have h20 : Kept l s0 s19 := by unfold s19; exact (State.showDiffer_kept (Kept.ite (State.fault_kept h18 (PAIR.FAULT.time_zoned (Part.at hp)) (Part.sub hp)) h18) (Part.sub hp))
    clear_value s19
    extract_lets +onlyGivenNames -merge -useContext -underBinder s21
    clear_value s21
    refine Kept.ite ?_ ?_
    · extract_lets +onlyGivenNames -merge -useContext -underBinder s23
      have h24 : Kept l s0 s23 := by unfold s23; exact (Kept.ite (State.splitFound_kept h20 (Part.sub hp)) h20)
      clear_value s23
      exact (Kept.ite (State.modPair_kept h24 (Part.sub hp)) h24)
    · extract_lets +onlyGivenNames -merge -useContext -underBinder s25
      have h26 : Kept l s0 s25 := by unfold s25; exact (Kept.ite (State.handoverDone_kept (State.claimHeard_kept h20 (Part.sub hp)) (Part.sub hp)) h20)
      clear_value s25
      exact (Kept.ite (State.startHeard_kept h26 (Part.sub hp)) (Kept.ite (Kept.ite h26 (State.takeBaton_kept h26 (Part.sub hp))) (Kept.ite (State.modPair_kept (State.wr_kept (State.wr_kept h26 (PAIR.HOLAP.lap_zoned (Part.at hp))) (PAIR.STAT.ho_pend_zoned (Part.at hp))) (Part.sub hp)) (Kept.ite (State.modPair_kept (State.wr_kept h26 (PAIR.STAT.ho_pend_zoned (Part.at hp))) (Part.sub hp)) (State.syncDone_kept h26 (Part.sub hp))))))

theorem State.linkGone_kept {l s0} {s} (h : Kept l s0 s) (hp : Part.within [.recorder, .page 0x49, .head 0x14, .head 0x24, .page 0x42, .head 0x20, .page 0x41, .page 0x40, .sram, .sramBad, .sramWeak, .msg, .page 0x178, .page 0x38, .pair, .lap, .ports, .pages 0x30 0x34, .page 0x35, .tsync, .loops, .page 0x18, .jkt, .page 0x19] l) :
    Kept l s0 (State.linkGone s) := by
  unfold State.linkGone
  exact (Kept.ite (State.toRole_kept h (Part.sub hp)) h)

theorem State.pairBoundary_kept {l s0} {s} {x1} (h : Kept l s0 s) (hp : Part.within [.page 0x38, .pair, .head 0x24, .head 0x14, .head 0x20, .recorder, .page 0x49, .page 0x42, .page 0x41, .page 0x40, .sram, .sramBad, .sramWeak, .msg, .page 0x178, .lap, .ports, .pages 0x30 0x34, .page 0x35, .tsync, .loops, .page 0x18, .jkt, .page 0x19] l) :
    Kept l s0 (State.pairBoundary s x1) := by
  unfold State.pairBoundary
  refine Kept.ite ?_ ?_
  · exact h
  · extract_lets +onlyGivenNames -merge -useContext -underBinder s1
    have h2 : Kept l s0 s1 := by unfold s1; exact (State.showScore_kept h (Part.sub hp))
    clear_value s1
    refine Kept.ite ?_ ?_
    · exact h2
    · extract_lets +onlyGivenNames -merge -useContext -underBinder s3
      clear_value s3
      extract_lets +onlyGivenNames -merge -useContext -underBinder s5
      clear_value s5
      extract_lets +onlyGivenNames -merge -useContext -underBinder s7
      clear_value s7
      extract_lets +onlyGivenNames -merge -useContext -underBinder s9
      have h10 : Kept l s0 s9 := by unfold s9; exact (State.modPair_kept h2 (Part.sub hp))
      clear_value s9
      extract_lets +onlyGivenNames -merge -useContext -underBinder s11
      have h12 : Kept l s0 s11 := by unfold s11; exact (Kept.ite (State.fault_kept (Kept.ite (State.irq_kept h10 (PAIR.IRQRAW.cfgdiff_zoned (Part.at hp))) h10) (PAIR.FAULT.cfgdiff_zoned (Part.at hp)) (Part.sub hp)) h10)
      clear_value s11
      extract_lets +onlyGivenNames -merge -useContext -underBinder s13
      clear_value s13
      extract_lets +onlyGivenNames -merge -useContext -underBinder s15
      have h16 : Kept l s0 s15 := by unfold s15; exact (State.modPair_kept (State.put_kept h12 (PAIR.STAT.aligned_zoned (Part.at hp))) (Part.sub hp))
      clear_value s15
      extract_lets +onlyGivenNames -merge -useContext -underBinder s17
      clear_value s17
      extract_lets +onlyGivenNames -merge -useContext -underBinder s19
      have h20 : Kept l s0 s19 := by unfold s19; exact (Kept.ite (State.irq_kept (State.stick_kept h16 (PAIR.MIRRORMISS.count_zoned (Part.at hp)) (PAIR.CNTOVF.mirror_zoned (Part.at hp)) (ZonedOpt.some (PAIR.IRQRAW.cnt_ovf_zoned (Part.at hp)))) (PAIR.IRQRAW.mirror_miss_zoned (Part.at hp))) h16)
      clear_value s19
      extract_lets +onlyGivenNames -merge -useContext -underBinder s21
      have h22 : Kept l s0 s21 := by unfold s21; exact (State.modPair_kept h20 (Part.sub hp))
      clear_value s21
      extract_lets +onlyGivenNames -merge -useContext -underBinder s23
      have h24 : Kept l s0 s23 := by unfold s23; exact (Kept.ite (State.toRole_kept h22 (Part.sub hp)) h22)
      clear_value s23
      extract_lets +onlyGivenNames -merge -useContext -underBinder s25
      clear_value s25
      extract_lets +onlyGivenNames -merge -useContext -underBinder s27
      clear_value s27
      extract_lets +onlyGivenNames -merge -useContext -underBinder s29
      have h30 : Kept l s0 s29 := by unfold s29; exact (State.modPair_kept h24 (Part.sub hp))
      clear_value s29
      extract_lets +onlyGivenNames -merge -useContext -underBinder s31
      have h32 : Kept l s0 s31 := by unfold s31; exact (Kept.ite (State.requestHandover_kept h30 (Part.sub hp)) h30)
      clear_value s31
      exact (State.syncDone_kept (State.showReady_kept h32 (Part.sub hp)) (Part.sub hp))

theorem State.presenceHeard_kept {l s0} {s} {x1} (h : Kept l s0 s) (hp : Part.within [.pair, .head 0x24, .head 0x14, .page 0x38, .head 0x20, .lap, .page 0x11, .arith, .afe, .recorder, .page 0x49, .page 0x42, .page 0x41, .page 0x40, .sram, .sramBad, .sramWeak, .msg, .page 0x178, .ports, .pages 0x30 0x34, .page 0x35, .tsync, .loops, .page 0x18, .jkt, .page 0x19, .pages 0x8 0x10] l) :
    Kept l s0 (State.presenceHeard s x1) := by
  unfold State.presenceHeard
  refine Kept.ite ?_ ?_
  · exact h
  · extract_lets +onlyGivenNames -merge -useContext -underBinder s1
    have h2 : Kept l s0 s1 := by unfold s1; exact (State.modPair_kept h (Part.sub hp))
    clear_value s1
    extract_lets +onlyGivenNames -merge -useContext -underBinder s3
    have h4 : Kept l s0 s3 := by unfold s3; exact (Kept.ite h2 (State.fault_kept (State.wr_kept h2 (PAIR.STAT.partner_zoned (Part.at hp))) (PAIR.FAULT.degraded_zoned (Part.at hp)) (Part.sub hp)))
    clear_value s3
    exact (Kept.ite (State.splitFound_kept h4 (Part.sub hp)) h4)

theorem execLeaseSend_kept {l s0} {s} (h : Kept l s0 s) (hp : Part.within [.page 0x38, .pair] l) :
    KeptR l s0 (execLeaseSend s) := by
  unfold execLeaseSend
  exact (KeptR.next (State.leaseSend_kept h (Part.sub hp)))

theorem execLeaseReceived_kept {l s0} {x0} {x1} {s} (h : Kept l s0 s) (hp : Part.within [.pair, .page 0x38, .head 0x14, .head 0x24, .head 0x20, .lap, .page 0x11, .arith, .afe, .recorder, .page 0x49, .page 0x42, .page 0x41, .page 0x40, .sram, .sramBad, .sramWeak, .msg, .page 0x178, .ports, .pages 0x30 0x34, .page 0x35, .tsync, .loops, .page 0x18, .jkt, .page 0x19, .pages 0x8 0x10] l) :
    KeptR l s0 (execLeaseReceived x0 x1 s) := by
  unfold execLeaseReceived
  exact (State.fromPartner_kept h (fun h1 => (State.leaseHeard_kept h1 (Part.sub hp))) (Part.sub hp))

theorem execLapmarkReceived_kept {l s0} {x0} {x1} {s} (h : Kept l s0 s) (hp : Part.within [.pair, .page 0x38, .head 0x14, .head 0x24, .head 0x20] l) :
    KeptR l s0 (execLapmarkReceived x0 x1 s) := by
  unfold execLapmarkReceived
  refine State.fromPartner_kept h (fun h1 => ?_) (Part.sub hp)
  extract_lets +onlyGivenNames -merge -useContext -underBinder s2
  clear_value s2
  exact (Kept.ite h1 (State.modPair_kept h1 (Part.sub hp)))

theorem execExcrepSend_kept {l s0} {s} (h : Kept l s0 s) (hp : Part.within [.pair] l) :
    KeptR l s0 (execExcrepSend s) := by
  unfold execExcrepSend
  exact (KeptR.next (Kept.ite (State.uhlizSend_kept h (Part.sub hp)) h))

theorem execExcrepReceived_kept {l s0} {x0} {x1} {s} (h : Kept l s0 s) (hp : Part.within [.pair, .page 0x38, .head 0x14, .head 0x24, .head 0x20, .afe] l) :
    KeptR l s0 (execExcrepReceived x0 x1 s) := by
  unfold execExcrepReceived
  refine State.fromPartner_kept h (fun h1 => ?_) (Part.sub hp)
  refine Kept.ite ?_ ?_
  · exact h1
  · extract_lets +onlyGivenNames -merge -useContext -underBinder s2
    clear_value s2
    extract_lets +onlyGivenNames -merge -useContext -underBinder s4
    clear_value s4
    extract_lets +onlyGivenNames -merge -useContext -underBinder s6
    have h7 : Kept l s0 s6 := by unfold s6; exact (State.modPair_kept h1 (Part.sub hp))
    clear_value s6
    exact (Kept.ite h7 (Kept.each h7 (fun _ _ h8 => (State.modBank_kept h8 (Part.sub hp)))))

theorem execDigestReceived_kept {l s0} {x0} {x1} {s} (h : Kept l s0 s) (hp : Part.within [.pair, .page 0x38, .head 0x14, .head 0x24, .head 0x20, .lap, .page 0x11, .arith] l) :
    KeptR l s0 (execDigestReceived x0 x1 s) := by
  unfold execDigestReceived
  refine State.fromPartner_kept h (fun h1 => ?_) (Part.sub hp)
  refine Kept.ite ?_ ?_
  · exact h1
  · refine Kept.each h1 (fun _ _ h2 => ?_)
    extract_lets +onlyGivenNames -merge -useContext -underBinder s3
    clear_value s3
    exact (State.digestHeard_kept h2 (Part.sub hp))

theorem execDigestWaitTimeout_kept {l s0} {x0} {s} (h : Kept l s0 s) (hp : Part.within [.lap, .page 0x11, .head 0x14, .arith, .pair] l) :
    KeptR l s0 (execDigestWaitTimeout x0 s) := by
  unfold execDigestWaitTimeout
  split
  · exact (KeptR.next h)
  · exact (KeptR.next (State.arithQueue_kept (State.modPair_kept h (Part.sub hp)) (Part.sub hp)))

theorem execMirrorEndReceived_kept {l s0} {x0} {x1} {x2} {s} (h : Kept l s0 s) (hp : Part.within [.pair, .page 0x38, .head 0x14, .head 0x24, .head 0x20, .recorder, .page 0x49, .page 0x42, .page 0x41, .page 0x40, .sram, .sramBad, .sramWeak, .msg, .page 0x178, .lap, .ports, .pages 0x30 0x34, .page 0x35, .tsync, .loops, .page 0x18, .jkt, .page 0x19, .freeCount, .pages 0x120 0x130, .page 0x20, .alarm, .dma, .page 0x130, .page 0x28, .call] l) :
    KeptR l s0 (execMirrorEndReceived x0 x1 x2 s) := by
  unfold execMirrorEndReceived
  refine State.fromPartner_kept h (fun h1 => ?_) (Part.sub hp)
  extract_lets +onlyGivenNames -merge -useContext -underBinder s2
  clear_value s2
  exact (Kept.ite h1 (State.syncDone_kept (State.takeMirror_kept (State.modPair_kept h1 (Part.sub hp)) (Part.sub hp)) (Part.sub hp)))

theorem execCmdfwdReceived_kept {l s0} {x0} {x1} {s} (h : Kept l s0 s) (hp : Part.within [.pair, .page 0x38, .head 0x14, .head 0x24, .head 0x20, .page 0x20, .msg, .alarm, .pages 0x120 0x130, .page 0x130, .dma, .page 0x42, .page 0x41, .page 0x40, .sram, .sramBad, .sramWeak, .recorder, .page 0x49, .page 0x178, .page 0x28, .call] l) :
    KeptR l s0 (execCmdfwdReceived x0 x1 s) := by
  unfold execCmdfwdReceived
  refine State.fromPartner_kept h (fun h1 => ?_) (Part.sub hp)
  extract_lets +onlyGivenNames -merge -useContext -underBinder s2
  clear_value s2
  extract_lets +onlyGivenNames -merge -useContext -underBinder s4
  clear_value s4
  extract_lets +onlyGivenNames -merge -useContext -underBinder s6
  clear_value s6
  exact (Kept.ite h1 (Kept.ite (State.almEnqueue_kept h1 (Part.sub hp)) (Kept.ite (State.callEnqueue_kept h1 (Part.sub hp)) (Kept.ite (State.requestHandover_kept h1 (Part.sub hp)) h1))))

theorem execCmdresReceived_kept {l s0} {x0} {x1} {s} (h : Kept l s0 s) (hp : Part.within [.pair, .page 0x38, .head 0x14, .head 0x24, .head 0x20, .msg, .page 0x20, .page 0x28] l) :
    KeptR l s0 (execCmdresReceived x0 x1 s) := by
  unfold execCmdresReceived
  refine State.fromPartner_kept h (fun h1 => ?_) (Part.sub hp)
  extract_lets +onlyGivenNames -merge -useContext -underBinder s2
  clear_value s2
  extract_lets +onlyGivenNames -merge -useContext -underBinder s4
  clear_value s4
  extract_lets +onlyGivenNames -merge -useContext -underBinder s6
  clear_value s6
  split
  · exact h1
  · refine Kept.ite ?_ ?_
    · exact h1
    · extract_lets +onlyGivenNames -merge -useContext -underBinder s8
      have h9 : Kept l s0 s8 := by unfold s8; exact (State.forwardedStat_kept (State.modPair_kept h1 (Part.sub hp)) (Part.sub hp))
      clear_value s8
      exact (Kept.ite (State.irq_kept h9 (ALM.IRQRAW.cmd_done_zoned (Part.at hp))) h9)

theorem execCmdresTimeout_kept {l s0} {s} (h : Kept l s0 s) (hp : Part.within [.msg, .page 0x20, .page 0x28, .page 0x38, .pair] l) :
    KeptR l s0 (execCmdresTimeout s) := by
  unfold execCmdresTimeout
  split
  · exact (KeptR.next h)
  · exact (KeptR.next (State.forwardedStat_kept (State.modPair_kept h (Part.sub hp)) (Part.sub hp)))

theorem execEvaldoneReceived_kept {l s0} {x0} {x1} {s} (h : Kept l s0 s) (hp : Part.within [.pair, .page 0x38, .head 0x14, .head 0x24, .head 0x20] l) :
    KeptR l s0 (execEvaldoneReceived x0 x1 s) := by
  unfold execEvaldoneReceived
  exact (State.fromPartner_kept h (fun h1 => (State.modPair_kept h1 (Part.sub hp))) (Part.sub hp))

theorem execEvaldoneTimeout_kept {l s0} {s} (h : Kept l s0 s) (hp : Part.within [.pair] l) :
    KeptR l s0 (execEvaldoneTimeout s) := by
  unfold execEvaldoneTimeout
  exact (KeptR.next (Kept.ite (State.modPair_kept h (Part.sub hp)) h))

theorem execLaneDown_kept {l s0} {x0} {s} (h : Kept l s0 s) (hp : Part.within [.pair, .head 0x14, .recorder, .page 0x49, .head 0x24, .page 0x42, .head 0x20, .page 0x41, .page 0x40, .sram, .sramBad, .sramWeak, .msg, .page 0x178, .page 0x38, .lap, .ports, .pages 0x30 0x34, .page 0x35, .tsync, .loops, .page 0x18, .jkt, .page 0x19] l) :
    KeptR l s0 (execLaneDown x0 s) := by
  unfold execLaneDown
  extract_lets +onlyGivenNames -merge -useContext -underBinder s1
  clear_value s1
  refine KeptR.ite ?_ ?_
  · exact (KeptR.next h)
  · extract_lets +onlyGivenNames -merge -useContext -underBinder s3
    have h4 : Kept l s0 s3 := by unfold s3; exact (State.irq_kept (State.modPair_kept h (Part.sub hp)) (PAIR.IRQRAW.lane_down_zoned (Part.at hp)))
    clear_value s3
    exact (KeptR.next (State.linkGone_kept (State.lanesNow_kept h4 (Part.sub hp)) (Part.sub hp)))

theorem execUhlizFrameError_kept {l s0} {x0} {s} (h : Kept l s0 s) (hp : Part.within [.pair, .page 0x38, .head 0x14] l) :
    KeptR l s0 (execUhlizFrameError x0 s) := by
  unfold execUhlizFrameError
  exact (KeptR.ite (KeptR.next h) (KeptR.ite (KeptR.next (State.modPair_kept (State.stick_kept h (PAIR.LANEERR0.count_zoned (Part.at hp)) (PAIR.CNTOVF.err0_zoned (Part.at hp)) (ZonedOpt.some (PAIR.IRQRAW.cnt_ovf_zoned (Part.at hp)))) (Part.sub hp))) (KeptR.next (State.modPair_kept (State.stick_kept h (PAIR.LANEERR1.count_zoned (Part.at hp)) (PAIR.CNTOVF.err1_zoned (Part.at hp)) (ZonedOpt.some (PAIR.IRQRAW.cnt_ovf_zoned (Part.at hp)))) (Part.sub hp)))))

theorem execPairStartTimeout_kept {l s0} {s} (h : Kept l s0 s) (hp : Part.within [.page 0x38, .pair, .afe, .pages 0x8 0x10, .recorder, .page 0x49, .head 0x14, .head 0x24, .page 0x42, .head 0x20, .page 0x41, .page 0x40, .sram, .sramBad, .sramWeak, .msg, .page 0x178, .lap, .ports, .pages 0x30 0x34, .page 0x35, .tsync, .loops, .page 0x18, .jkt, .page 0x19] l) :
    KeptR l s0 (execPairStartTimeout s) := by
  unfold execPairStartTimeout
  exact (KeptR.next (Kept.ite (State.leaseSend_kept (State.becomeHolder_kept h (Part.sub hp)) (Part.sub hp)) h))

theorem execTakeover_kept {l s0} {x0} {s} (h : Kept l s0 s) (hp : Part.within [.pair, .afe, .pages 0x8 0x10, .lap, .page 0x11, .head 0x14, .arith, .recorder, .page 0x49, .head 0x24, .page 0x42, .head 0x20, .page 0x41, .page 0x40, .sram, .sramBad, .sramWeak, .msg, .page 0x178, .page 0x38, .ports, .pages 0x30 0x34, .page 0x35, .tsync, .loops, .page 0x18, .jkt, .page 0x19] l) :
    KeptR l s0 (execTakeover x0 s) := by
  unfold execTakeover
  extract_lets +onlyGivenNames -merge -useContext -underBinder s1
  clear_value s1
  extract_lets +onlyGivenNames -merge -useContext -underBinder s3
  clear_value s3
  exact (KeptR.ite (KeptR.next (State.takeBaton_kept h (Part.sub hp))) (KeptR.next h))

theorem execPartnerLost_kept {l s0} {s} (h : Kept l s0 s) (hp : Part.within [.head 0x24, .head 0x14, .page 0x38, .head 0x20] l) :
    KeptR l s0 (execPartnerLost s) := by
  unfold execPartnerLost
  exact (KeptR.ite (KeptR.next h) (KeptR.next (State.fault_kept (State.irq_kept (State.wr_kept h (PAIR.STAT.partner_zoned (Part.at hp))) (PAIR.IRQRAW.partner_lost_zoned (Part.at hp))) (PAIR.FAULT.partner_zoned (Part.at hp)) (Part.sub hp))))

theorem execBatonRelease_kept {l s0} {s} (h : Kept l s0 s) (hp : Part.within [.page 0x38, .pair, .recorder, .page 0x49, .head 0x14, .head 0x24, .page 0x42, .head 0x20, .page 0x41, .page 0x40, .sram, .sramBad, .sramWeak, .msg, .page 0x178, .lap, .ports, .pages 0x30 0x34, .page 0x35, .tsync, .loops, .page 0x18, .jkt, .page 0x19] l) :
    KeptR l s0 (execBatonRelease s) := by
  unfold execBatonRelease
  exact (KeptR.ite (KeptR.next (State.leaseSend_kept (State.toRole_kept (State.wr_kept (State.modPair_kept h (Part.sub hp)) (PAIR.STAT.ho_pend_zoned (Part.at hp))) (Part.sub hp)) (Part.sub hp))) (KeptR.next h))

theorem execPlannedHandover_kept {l s0} {x0} {s} (h : Kept l s0 s) (hp : Part.within [.page 0x1, .status, .page 0x38, .pair, .msg, .recorder, .page 0x49, .head 0x14, .head 0x24, .page 0x42, .head 0x20, .page 0x41, .page 0x40, .sram, .sramBad, .sramWeak, .page 0x178, .lap, .ports, .pages 0x30 0x34, .page 0x35, .tsync, .loops, .page 0x18, .jkt, .page 0x19] l) :
    KeptR l s0 (execPlannedHandover x0 s) := by
  unfold execPlannedHandover
  exact (State.command_kept h (fun h1 => (State.pairCommand_kept h1 (Part.sub hp))) (Part.sub hp))

theorem execResynchronise_kept {l s0} {x0} {s} (h : Kept l s0 s) (hp : Part.within [.page 0x1, .status, .page 0x38, .pair, .msg, .recorder, .page 0x49, .head 0x14, .head 0x24, .page 0x42, .head 0x20, .page 0x41, .page 0x40, .sram, .sramBad, .sramWeak, .page 0x178, .lap, .ports, .pages 0x30 0x34, .page 0x35, .tsync, .loops, .page 0x18, .jkt, .page 0x19] l) :
    KeptR l s0 (execResynchronise x0 s) := by
  unfold execResynchronise
  exact (State.command_kept h (fun h1 => (State.pairCommand_kept h1 (Part.sub hp))) (Part.sub hp))

theorem execHandoverOfferLapse_kept {l s0} {s} (h : Kept l s0 s) (hp : Part.within [.pair, .page 0x38, .msg] l) :
    KeptR l s0 (execHandoverOfferLapse s) := by
  unfold execHandoverOfferLapse
  exact (KeptR.next (Kept.ite (State.handoverOver_kept h (Part.sub hp)) h))

theorem execHandoverNoClaim_kept {l s0} {s} (h : Kept l s0 s) (hp : Part.within [.pair, .page 0x38, .msg, .recorder, .page 0x49, .head 0x14, .head 0x24, .page 0x42, .head 0x20, .page 0x41, .page 0x40, .sram, .sramBad, .sramWeak, .page 0x178, .lap, .ports, .pages 0x30 0x34, .page 0x35, .tsync, .loops, .page 0x18, .jkt, .page 0x19] l) :
    KeptR l s0 (execHandoverNoClaim s) := by
  unfold execHandoverNoClaim
  exact (KeptR.next (Kept.ite (State.handoverOver_kept (State.leaseSend_kept (State.toRole_kept (State.modPair_kept h (Part.sub hp)) (Part.sub hp)) (Part.sub hp)) (Part.sub hp)) h))

theorem execPairPresenceSend_kept {l s0} {s} (h : Kept l s0 s) (hp : Part.within [.msg, .head 0x24, .head 0x14, .page 0x34, .head 0x20, .pages 0x30 0x34, .ports] l) :
    KeptR l s0 (execPairPresenceSend s) := by
  unfold execPairPresenceSend
  refine KeptR.ite ?_ ?_
  · exact (KeptR.next h)
  · extract_lets +onlyGivenNames -merge -useContext -underBinder s1
    clear_value s1
    exact (KeptR.next (State.pump_kept (State.sendOn_kept h (Part.sub hp)) (Part.sub hp)))

end Sys2Proof.Machine
end

