-- ==== Sys2Proof/Laws/Shadow.lean ====
section
/-!
SUPPORT. What each operation of Machine/Shadow.lean can change: one lemma per operation, named after it. An operation started in a
state that has kept all parts of an earlier one but some keeps all but those and the parts that its lemma lists, and the
canonical form of the sparse maps with them.
-/

set_option Elab.async false

namespace Sys2Proof.Machine

theorem State.loadPage_kept {l s0} {s} {x1} (h : Kept l s0 s) (hp : Part.within [.live, .shadow, .dirty] l) :
    Kept l s0 (State.loadPage s x1) := by
  unfold State.loadPage
  exact (h.upd [.live, .shadow, .dirty] (Part.sub hp) (fun p hn => by cases p <;> first | rfl | exact True.intro | exact absurd (by decide) hn) rfl (fun c => ⟨⟨c.1.1, wf_copyPage c.1.2.1, wf_copyPage c.1.2.2.1, c.1.2.2.2⟩, c.2.1, c.2.2⟩))

theorem State.applyPage_kept {l s0} {s} {x1} (h : Kept l s0 s) (hp : Part.within [.live, .mirror, .dirty] l) :
    Kept l s0 (State.applyPage s x1) := by
  unfold State.applyPage
  exact (h.upd [.live, .mirror, .dirty] (Part.sub hp) (fun p hn => by cases p <;> first | rfl | exact True.intro | exact absurd (by decide) hn) rfl (fun c => ⟨⟨c.1.1, wf_copyPage c.1.2.1, c.1.2.2.1, wf_copyPage c.1.2.2.2⟩, c.2.1, c.2.2⟩))

theorem State.showDigest_kept {l s0} {s} (h : Kept l s0 s) (hp : Part.within [.page 0x38] l) :
    Kept l s0 (State.showDigest s) := by
  unfold State.showDigest
  exact (Kept.ite (State.showDiffer_kept (State.wr_kept h (PAIR.DIGEST.crc_zoned (Part.at hp))) (Part.sub hp)) h)

theorem State.revertPage_kept {l s0} {s} {x1} (h : Kept l s0 s) (hp : Part.within [.shadow, .dirty] l) :
    Kept l s0 (State.revertPage s x1) := by
  unfold State.revertPage
  exact ((h.shadow (Part.at hp) (fun c => wf_copyPage c.1.2.2.1)).dirty (Part.at hp))

end Sys2Proof.Machine
end

