-- ==== Sys2Proof/Laws/Manage.lean ====
section
/-!
SUPPORT. What each operation of Machine/Manage.lean can change: one lemma per operation, named after it. An operation started in a
state that has kept all parts of an earlier one but some keeps all but those and the parts that its lemma lists, and the
canonical form of the sparse maps with them.
-/

set_option Elab.async false

namespace Sys2Proof.Machine

theorem State.cutBase_kept {l s0} {s} {s1 : State} (h : Kept l s0 s) (hp : Part.within [.nvm, .page 0x48, .freeCount, .page 0x58, .head 0x14, .head 0x24, .head 0x20] l) :
    Kept l s0 (State.cutBase s s1) := by
  unfold State.cutBase
  split
  · exact (Kept.ite (State.nvmGo_kept (State.storeUndefine_kept h (Part.sub hp)) (Part.sub hp)) (State.nvmGo_kept h (Part.sub hp)))
  · exact (State.nvmGo_kept h (Part.sub hp))

theorem State.clearEngine_kept {l s0} {s} {x1} {x2} (h : Kept l s0 s) (hp : Part.within [.cal, .page 0x10, .head 0x14, .afe, .arith, .lap, .pair, .ports, .pages 0x30 0x34, .pwr, .loops, .jkt, .page 0x1A, .page 0x38, .page 0x19, .alarm, .pages 0x120 0x131, .call, .msg, .tsync, .dma, .freeCount, .page 0x58, .page 0x48, .head 0x24, .head 0x20, .nvm, .page 0x49, .recorder, .page 0x178, .rtc, .sec, .response, .responseCrc] l) :
    Kept l s0 (State.clearEngine s x1 x2) := by
  unfold State.clearEngine
  refine Kept.ite ?_ ?_
  · exact (Kept.when (State.deferStride_kept (State.dropBank_kept h (Part.sub hp)) (Part.sub hp)) (fun _ h1 => (State.clearSources_kept h1 (Part.sub hp))))
  · refine Kept.ite ?_ ?_
    · exact (State.clearPort_kept h (Part.sub hp))
    · split
      · exact (h.pwr (Part.at hp))
      · exact (h.lap (Part.at hp))
      · exact (State.clearCal_kept h (Part.sub hp))
      · extract_lets +onlyGivenNames -merge -useContext -underBinder s2
        clear_value s2
        exact (h.upd [.arith, .cal, .lap] (Part.sub hp) (fun p hn => by cases p <;> first | rfl | exact True.intro | exact absurd (by decide) hn) rfl id)
      · exact (State.clearUio_kept h (Part.sub hp))
      · exact (Kept.ite (State.clearField_kept h (Part.sub hp)) (State.clearDio_kept h (Part.sub hp)))
      · exact (State.clearJkt_kept h (Part.sub hp))
      · exact (State.clearAlm_kept h (Part.sub hp))
      · exact (h.call (Part.at hp))
      · exact (h.msg (Part.at hp))
      · exact (h.tsync (Part.at hp))
      · exact (h.upd [.lap, .pair] (Part.sub hp) (fun p hn => by cases p <;> first | rfl | exact True.intro | exact absurd (by decide) hn) rfl id)
      · exact (h.dma (Part.at hp))
      · exact (State.nvmCut_kept h (Part.sub hp))
      · extract_lets +onlyGivenNames -merge -useContext -underBinder s4
        clear_value s4
        exact (State.clearRange_kept (State.cutBase_kept (h.upd [.recorder, .nvm] (Part.sub hp) (fun p hn => by cases p <;> first | rfl | exact True.intro | exact absurd (by decide) hn) rfl id) (Part.sub hp)) (n := 376) (Part.at hp) rfl)
      · exact (h.rtc (Part.at hp))
      · exact (State.clearSec_kept h (Part.sub hp))
      · exact (State.modSec_kept h (Part.sub hp))
      · exact (h.upd [.response, .responseCrc] (Part.sub hp) (fun p hn => by cases p <;> first | rfl | exact True.intro | exact absurd (by decide) hn) rfl id)
      · exact h

theorem State.wipeRegs_kept {l s0} {s} {x1 x2} (h : Kept l s0 s) (w1 : PageZoned l x1) : Kept l s0 (State.wipeRegs s x1 x2) := by
  have r : ∀ {t lo hi}, Kept l s0 t → (∀ a, lo ≤ a → a < hi → a / 0x1000 = x1) → Kept l s0 (t.clearRange lo hi) := fun {t lo hi} k e =>
    k.clearedBy (k := fun a => !(decide (lo ≤ a) && decide (a < hi))) fun a c => w1 a (by
      simp only [Bool.not_eq_false', Bool.and_eq_true, decide_eq_true_eq] at c
      exact e a c.1 c.2)
  unfold State.wipeRegs
  split
  · exact r (r (r (r h (by omega)) (by omega)) (by omega)) (by omega)
  · exact r h (by omega)
  · exact r (r h (by omega)) (by omega)
  · exact r h (by omega)
  · extract_lets keep s1
    have h1 : Kept l s0 s1 := h.clearedBy (k := fun a => a / 0x1000 != x1 || keep.contains a) fun a c => w1 a (by
      simp only [Bool.or_eq_false_iff, bne_eq_false_iff_eq] at c
      exact c.1)
    refine Kept.ite h1 (State.wr_kept h1 ⟨w1 _ ?_, fun k => absurd k (Nat.not_lt.mpr (Nat.le_of_ble_eq_true rfl))⟩)
    simp only [HDR.CTL.enable]
    omega

theorem State.clearPage_kept {l s0} {s} {x1 x2 x3} (h : Kept l s0 s) (w1 : PageZoned l x1) (hp : Part.within [.immediate, .latched, .pair, .dma, .pages 0x30 0x34, .cal, .page 0x10, .head 0x14, .afe, .arith, .lap, .ports, .pwr, .loops, .jkt, .page 0x1A, .page 0x38, .page 0x19, .alarm, .pages 0x120 0x131, .call, .msg, .tsync, .freeCount, .page 0x58, .page 0x48, .head 0x24, .head 0x20, .nvm, .page 0x49, .recorder, .page 0x178, .rtc, .sec, .response, .responseCrc] l) : Kept l s0 (State.clearPage s x1 x2 x3) := by
  unfold State.clearPage
  extract_lets held tsc s1 q1 q2 s2
  clear_value held tsc
  have h1 : Kept l s0 s1 := by unfold s1; exact State.wipeRegs_kept (State.clearEngine_kept h (Part.sub hp)) w1
  clear_value s1
  have h2 : Kept l s0 s2 := by unfold s2; exact h1.upd [.immediate, .latched, .pair, .dma] (Part.sub hp) (fun p hn => by cases p <;> first | rfl | exact True.intro | exact absurd (by decide) hn) rfl id
  clear_value s2
  have z : ∀ {r : Ref}, r.addr / 0x1000 = x1 → r.lo + r.w ≤ 32 → Zoned l r := fun e w => ⟨w1 _ e, fun k => absurd k (Nat.not_lt.mpr w)⟩
  split
  · exact State.wr_kept (State.wr_kept (State.wr_kept (State.wr_kept h2 (z rfl (by decide))) (z rfl (by decide))) (z rfl (by decide))) (z rfl (by decide))
  · exact State.wr_kept (State.wr_kept h2 (z rfl (by decide))) (z rfl (by decide))
  · exact State.wr_kept h2 (z rfl (by decide))
  · exact Kept.ite (State.wr_kept h2 (BUS.TSC.us_zoned (Part.at hp))) h2

theorem State.quiesceRec_kept {l s0} {s} (h : Kept l s0 s) (hp : Part.within [.freeCount, .recorder] l) :
    Kept l s0 (State.quiesceRec s) := by
  unfold State.quiesceRec
  refine Kept.ite ?_ ?_
  · split
    · rename_i x2 s13 q4
      have h1 : Kept l s0 s13 := Kept.snd q4 (State.draw_kept h (Part.sub hp))
      exact (h1.recorder (Part.at hp))
  · exact h

theorem State.quiesceEnter_kept {l s0} {s} {x1} (h : Kept l s0 s) (hp : Part.within [.cal, .page 0x10, .head 0x14, .lap, .page 0x11, .arith, .pair, .afe, .pages 0x8 0x10, .pages 0x30 0x34, .ports, .page 0x38, .call, .page 0x42, .dma, .head 0x24, .head 0x20, .freeCount, .recorder, .page 0x58, .sec] l) :
    Kept l s0 (State.quiesceEnter s x1) := by
  unfold State.quiesceEnter
  refine Kept.ite ?_ ?_
  · exact (State.deferStride_kept (State.abandonBank_kept h (Part.sub hp)) (Part.sub hp))
  · refine Kept.ite ?_ ?_
    · exact (State.refreshPort_kept h (Part.sub hp))
    · split
      · exact (State.quiesceCal_kept h (Part.sub hp))
      · exact (State.callFreeze_kept h (Part.sub hp))
      · exact (State.haltStreams_kept h (Part.sub hp))
      · exact (State.haltStreams_kept h (Part.sub hp))
      · exact (State.quiesceRec_kept h (Part.sub hp))
      · exact (State.quiesceSec_kept h (Part.sub hp))
      · exact h

theorem State.pauseDue_kept {l s0} {s} {x1} (h : Kept l s0 s) (hp : Part.within [.lap] l) :
    Kept l s0 (State.pauseDue s x1) := by
  unfold State.pauseDue
  exact (Kept.ite (h.lap (Part.at hp)) h)

theorem State.cutPower_kept {l s0} {s} {x1} (h : Kept l s0 s) (hp : Part.within [.terms, .pwr] l) :
    Kept l s0 (State.cutPower s x1) := by
  unfold State.cutPower
  exact (h.upd [.terms, .pwr] (Part.sub hp) (fun p hn => by cases p <;> first | rfl | exact True.intro | exact absurd (by decide) hn) rfl id)

theorem State.powerOff_kept {l s0} {s} {x1} (h : Kept l s0 s) (ha : x1 ≠ .aon) (hb : x1 ≠ .bkp) (hp : Part.within [.switched, .pwr, .terms, .immediate, .latched, .pair, .dma, .pages 0x30 0x34, .cal, .page 0x10, .head 0x14, .afe, .arith, .lap, .ports, .loops, .jkt, .page 0x1A, .page 0x38, .page 0x19, .alarm, .pages 0x120 0x131, .call, .msg, .tsync, .freeCount, .page 0x58, .page 0x48, .head 0x24, .head 0x20, .nvm, .page 0x49, .recorder, .page 0x178, .rtc, .sec, .response, .responseCrc, .page 0x11, .pages 0x8 0x10, .page 0x42, .page 0x18] l) : Kept l s0 (State.powerOff s x1) := by
  unfold State.powerOff
  refine Kept.ite h ?_
  extract_lets +onlyGivenNames -merge -useContext -underBinder t0 t1
  have h0 : Kept l s0 t0 := by unfold t0; exact State.pauseDue_kept (Kept.ite (State.loopsFail_kept h (Part.sub hp)) h) (Part.sub hp)
  have h1 : Kept l s0 t1 := by
    unfold t1
    refine Kept.eachMem _ h0 fun u p hm k => State.clearPage_kept ?_ (PageZoned.of_pagesOf (Part.at hp) ha hb hm) (Part.sub hp)
    exact Kept.ite k (State.quiesceEnter_kept k (Part.sub hp))
  have h2 := State.cutPower_kept (x1 := x1) h1 (Part.sub hp)
  exact Kept.ite (State.showScore_kept h2 (Part.sub hp)) h2

theorem State.startEngine_kept {l s0} {s} {x1} {x2} (h : Kept l s0 s) (hp : Part.within [.afe, .pages 0x8 0x10, .pages 0x30 0x34, .ports, .page 0x38, .lap, .page 0x10, .cal, .nvm, .head 0x14, .loops, .page 0x18, .jkt, .page 0x19, .alarm, .call, .page 0x28, .page 0x34, .head 0x24, .head 0x20, .msg, .pair, .page 0x40, .page 0x178, .recorder, .page 0x49, .page 0x42, .page 0x41, .sram, .sramBad, .sramWeak, .page 0x48, .page 0x51, .sec, .page 0x58] l) :
    Kept l s0 (State.startEngine s x1 x2) := by
  unfold State.startEngine
  refine Kept.ite ?_ ?_
  · extract_lets +onlyGivenNames -merge -useContext -underBinder s1
    clear_value s1
    exact (State.modBank_kept (State.wr_kept (State.put_kept (State.put_kept h (AFE.MODE.listen_zoned (Part.at hp))) (AFE.MODE.excown_zoned (Part.at hp))) (AFE.LANEMAP.retired_zoned (Part.at hp))) (Part.sub hp))
  · refine Kept.ite ?_ ?_
    · exact (State.refreshPort_kept (Kept.ite (State.captureTsc_kept h (Part.sub hp)) h) (Part.sub hp))
    · split
      · exact (Kept.ite (h.lap (Part.at hp)) h)
      · exact (State.calReset_kept h (Part.sub hp))
      · exact (State.driveLoops_kept h (Part.sub hp))
      · exact (State.applyOutputs_kept h (Part.sub hp))
      · exact (State.groupsAnew_kept h (Part.sub hp))
      · exact (State.callRelease_kept h (Part.sub hp))
      · exact (State.showNoKey_kept h (Part.sub hp))
      · exact (State.pairRelease_kept h (Part.sub hp))
      · exact (Kept.ite h (State.wr_kept (State.wr_kept h (MEM.INFO.init_done_zoned (Part.at hp))) (MEM.INFO.retvalid_zoned (Part.at hp))))
      · exact (State.recGo_kept (State.calIssue_kept (State.nvmGo_kept h (Part.sub hp)) (Part.sub hp)) (Part.sub hp))
      · exact (State.recGo_kept (State.tellStow_kept h (Part.sub hp)) (Part.sub hp))
      · exact (State.releaseSec_kept h (Part.sub hp))
      · exact h

theorem State.releasePage_kept {l s0} {s} {x1} {x2} (h : Kept l s0 s) (hp : Part.within [.rst, .afe, .pages 0x8 0x10, .pages 0x30 0x34, .ports, .page 0x38, .lap, .page 0x10, .cal, .nvm, .head 0x14, .loops, .page 0x18, .jkt, .page 0x19, .alarm, .call, .page 0x28, .page 0x34, .head 0x24, .head 0x20, .msg, .pair, .page 0x40, .page 0x178, .recorder, .page 0x49, .page 0x42, .page 0x41, .sram, .sramBad, .sramWeak, .page 0x48, .page 0x51, .sec, .page 0x58, .live, .shadow, .dirty] l) :
    Kept l s0 (State.releasePage s x1 x2) := by
  unfold State.releasePage
  extract_lets +onlyGivenNames -merge -useContext -underBinder s1 s2
  have h4 : Kept l s0 s2 := by unfold s2; exact (h.rst (Part.at hp))
  clear_value s2
  clear_value s1
  extract_lets +onlyGivenNames -merge -useContext -underBinder s5
  have h6 : Kept l s0 s5 := by unfold s5; exact (State.startEngine_kept (State.loadPage_kept h4 (Part.sub hp)) (Part.sub hp))
  clear_value s5
  exact (Kept.ite (State.fault_kept h6 (HDR.FAULT.qtimeout_zoned (Part.at hp)) (Part.sub hp)) h6)

theorem State.powerOn_kept {l s0} {s} {x1} (h : Kept l s0 s) (hp : Part.within [.pwr, .rst, .afe, .pages 0x8 0x10, .pages 0x30 0x34, .ports, .page 0x38, .lap, .page 0x10, .cal, .nvm, .head 0x14, .loops, .page 0x18, .jkt, .page 0x19, .alarm, .call, .page 0x28, .page 0x34, .head 0x24, .head 0x20, .msg, .pair, .page 0x40, .page 0x178, .recorder, .page 0x49, .page 0x42, .page 0x41, .sram, .sramBad, .sramWeak, .page 0x48, .page 0x51, .sec, .page 0x58, .live, .shadow, .dirty] l) :
    Kept l s0 (State.powerOn s x1) := by
  unfold State.powerOn
  refine Kept.ite ?_ ?_
  · exact h
  · extract_lets +onlyGivenNames -merge -useContext -underBinder s1 s2
    have h4 : Kept l s0 s2 := by unfold s2; exact (h.pwr (Part.at hp))
    clear_value s2
    clear_value s1
    refine Kept.ite ?_ ?_
    · exact (h4.rst (Part.at hp))
    · extract_lets +onlyGivenNames -merge -useContext -underBinder s5
      have h6 : Kept l s0 s5 := by unfold s5; exact (Kept.each h4 (fun _ _ h7 => (State.releasePage_kept h7 (Part.sub hp))))
      clear_value s5
      exact (Kept.ite (h6.pwr (Part.at hp)) h6)

theorem State.refreshDomains_kept {l s0} {s} (h : Kept l s0 s) (hp : Part.within [.switched, .pwr, .terms, .immediate, .latched, .pair, .dma, .pages 0x30 0x34, .cal, .page 0x10, .head 0x14, .afe, .arith, .lap, .ports, .loops, .jkt, .page 0x1A, .page 0x38, .page 0x19, .alarm, .pages 0x120 0x131, .call, .msg, .tsync, .freeCount, .page 0x58, .page 0x48, .head 0x24, .head 0x20, .nvm, .page 0x49, .recorder, .page 0x178, .rtc, .sec, .response, .responseCrc, .page 0x11, .pages 0x8 0x10, .page 0x42, .page 0x18, .rst, .page 0x28, .page 0x34, .page 0x40, .page 0x41, .sram, .sramBad, .sramWeak, .page 0x51, .live, .shadow, .dirty] l) : Kept l s0 (State.refreshDomains s) := by
  unfold State.refreshDomains
  refine Kept.ite h ?_
  extract_lets +onlyGivenNames -merge -useContext -underBinder p0 t0 t1
  have h0 : Kept l s0 t0 := by unfold t0; exact h.pwr (Part.at hp)
  clear_value t0
  have h1 : Kept l s0 t1 := by
    unfold t1
    refine Kept.eachMem _ h0 fun u d hm k => Kept.ite (State.powerOff_kept k ?_ ?_ (Part.sub hp)) k
    · intro e; subst e; revert hm; decide
    · intro e; subst e; revert hm; decide
  clear_value t1
  exact Kept.each h1 fun u d k => Kept.ite (State.powerOn_kept k (Part.sub hp)) k

theorem State.followLevel_kept {l s0} {s} (h : Kept l s0 s) (hp : Part.within [.switched, .pwr, .terms, .immediate, .latched, .pair, .dma, .pages 0x30 0x34, .cal, .page 0x10, .head 0x14, .afe, .arith, .lap, .ports, .loops, .jkt, .page 0x1A, .page 0x38, .page 0x19, .alarm, .pages 0x120 0x131, .call, .msg, .tsync, .freeCount, .page 0x58, .page 0x48, .head 0x24, .head 0x20, .nvm, .page 0x49, .recorder, .page 0x178, .rtc, .sec, .response, .responseCrc, .page 0x11, .pages 0x8 0x10, .page 0x42, .page 0x18, .rst, .page 0x28, .page 0x34, .page 0x40, .page 0x41, .sram, .sramBad, .sramWeak, .page 0x51, .live, .shadow, .dirty, .page 0x1] l) :
    Kept l s0 (State.followLevel s) := by
  unfold State.followLevel
  exact (State.put_kept (State.refreshDomains_kept (State.applyOutputs_kept (State.driveLoops_kept (State.refreshPorts_kept h (Part.sub hp)) (Part.sub hp)) (Part.sub hp)) (Part.sub hp)) (PWR.STAT.cap_zoned (Part.at hp)))

theorem State.dmaReplay_kept {l s0} {s} (h : Kept l s0 s) (hp : Part.within [.dma, .page 0x42, .head 0x24, .head 0x14, .head 0x20, .page 0x40, .sramWeak, .page 0x41, .sram, .sramBad, .page 0x20, .alarm, .pages 0x30 0x34, .ports] l) :
    Kept l s0 (State.dmaReplay s) := by
  unfold State.dmaReplay
  refine Kept.ite ?_ ?_
  · exact h
  · extract_lets +onlyGivenNames -merge -useContext -underBinder s1
    clear_value s1
    refine State.pickStream_kept ?_ (Part.sub hp)
    refine Kept.each (h.dma (Part.at hp)) (fun _ _ h3 => ?_)
    split
    · exact (State.ringWrite_kept h3 (Part.sub hp))
    · exact (State.nqStore_kept h3 (Part.sub hp))
    · exact (State.rxStore_kept h3 (Part.sub hp))

theorem State.quiesceLeave_kept {l s0} {s} {x1} (h : Kept l s0 s) (hp : Part.within [.afe, .pages 0x30 0x34, .ports, .page 0x38, .loops, .page 0x18, .jkt, .page 0x19, .alarm, .pages 0x120 0x130, .head 0x14, .page 0x130, .page 0x20, .dma, .head 0x24, .page 0x42, .head 0x20, .page 0x41, .page 0x40, .sram, .sramBad, .sramWeak, .recorder, .page 0x49, .msg, .page 0x178, .pair, .call, .page 0x28, .page 0x34, .page 0x48, .nvm, .page 0x51] l) :
    Kept l s0 (State.quiesceLeave s x1) := by
  unfold State.quiesceLeave
  refine Kept.ite ?_ ?_
  · exact (State.modBank_kept h (Part.sub hp))
  · refine Kept.ite ?_ ?_
    · exact (State.refreshPort_kept h (Part.sub hp))
    · split
      · exact (State.driveLoops_kept h (Part.sub hp))
      · exact (State.applyOutputs_kept h (Part.sub hp))
      · exact (State.almDrain_kept h (Part.sub hp))
      · exact (State.callDrain_kept (State.callThaw_kept h (Part.sub hp)) (Part.sub hp))
      · exact (State.pump_kept (State.formWaiting_kept h (Part.sub hp)) (Part.sub hp))
      · exact (State.recGo_kept (State.dmaReplay_kept h (Part.sub hp)) (Part.sub hp))
      · exact (State.nvmGo_kept h (Part.sub hp))
      · exact (State.recGo_kept h (Part.sub hp))
      · exact h

theorem State.setCtl_kept {l s0} {s} {x1} {x2} {x3} (h : Kept l s0 s) (z2 : Zoned l x2) (hp : Part.within [.freeCount, .arith, .lap, .dma, .page 0x42, .head 0x14, .head 0x24, .head 0x20, .page 0x41, .page 0x40, .sram, .sramBad, .sramWeak, .alarm, .recorder, .loops, .pair, .page 0x38, .msg, .page 0x18, .cal, .pages 0x120 0x130, .page 0x20, .page 0x130, .page 0x49, .page 0x178, .call, .page 0x28, .page 0x34, .jkt, .page 0x19, .pages 0x30 0x34, .ports, .page 0x10, .page 0x11, .afe, .pages 0x8 0x10, .page 0x58, .sec, .page 0x48, .nvm, .page 0x51] l) :
    Kept l s0 (State.setCtl s x1 x2 x3) := by
  unfold State.setCtl
  extract_lets +onlyGivenNames -merge -useContext -underBinder s1
  have h2 : Kept l s0 s1 := by unfold s1; exact (Kept.ite (State.completeEvaluation_kept h (Part.sub hp)) h)
  clear_value s1
  extract_lets +onlyGivenNames -merge -useContext -underBinder s3
  have h4 : Kept l s0 s3 := by unfold s3; exact (State.put_kept h2 z2)
  clear_value s3
  exact (Kept.ite (State.refreshPort_kept h4 (Part.sub hp)) (Kept.ite (State.quiesceEnter_kept h4 (Part.sub hp)) (Kept.ite (State.quiesceLeave_kept h4 (Part.sub hp)) h4)))

theorem State.setEnable_kept {l s0} {s} {x1} {x2} (h : Kept l s0 s) (hp : Part.within [.head 0xC, .lap, .freeCount, .arith, .dma, .page 0x42, .head 0x14, .head 0x24, .head 0x20, .page 0x41, .page 0x40, .sram, .sramBad, .sramWeak, .alarm, .recorder, .loops, .pair, .page 0x38, .msg, .page 0x18, .cal, .pages 0x120 0x130, .page 0x20, .page 0x130, .page 0x49, .page 0x178, .call, .page 0x28, .page 0x34, .jkt, .page 0x19, .pages 0x30 0x34, .ports, .page 0x10, .page 0x11, .afe, .pages 0x8 0x10, .page 0x58, .sec, .page 0x48, .nvm, .page 0x51] l) :
    Kept l s0 (State.setEnable s x1 x2) := by
  unfold State.setEnable
  refine Kept.ite ?_ ?_
  · extract_lets +onlyGivenNames -merge -useContext -underBinder s1
    clear_value s1
    extract_lets +onlyGivenNames -merge -useContext -underBinder s3
    have h4 : Kept l s0 s3 := by unfold s3; exact (State.put_kept h (HDR.CTL.enable_zoned (Part.at hp)))
    clear_value s3
    exact (Kept.ite (h4.lap (Part.at hp)) h4)
  · exact (State.setCtl_kept h (HDR.CTL.enable_zoned (Part.at hp)) (Part.sub hp))

theorem State.coreReleased_kept {l s0} {s} (h : Kept l s0 s) (hp : Part.within [.page 0x48, .head 0x14, .head 0x24, .head 0x20, .page 0x10, .terms, .cal, .nvm, .pages 0x8 0x10] l) :
    Kept l s0 (State.coreReleased s) := by
  unfold State.coreReleased
  exact (Kept.each (State.calLoad_kept h (Part.sub hp)) (fun _ _ h1 => (State.modStride_kept (State.startRotation_kept h1 (Part.sub hp)) (Part.sub hp))))

end Sys2Proof.Machine
end

