-- ==== Sys2Proof/Laws/Reset.lean ====
section
/-!
SUPPORT. What each operation of Machine/Reset.lean can change: one lemma per operation, named after it. An operation started in a
state that has kept all parts of an earlier one but some keeps all but those and the parts that its lemma lists, and the
canonical form of the sparse maps with them.
-/

set_option Elab.async false

namespace Sys2Proof.Machine

theorem State.assertReset_kept {l s0} {s} {x1} {x2} (h : Kept l s0 s) (hp : Part.within [.jkt, .immediate, .latched, .pair, .dma, .cal, .afe, .arith, .lap, .ports, .pwr, .loops, .alarm, .call, .msg, .tsync, .freeCount, .nvm, .recorder, .rtc, .sec, .response, .responseCrc, .regs, .live, .shadow, .mirror, .dirty, .locked, .rst] l) :
    Kept l s0 (State.assertReset s x1 x2) := by
  unfold State.assertReset
  extract_lets +onlyGivenNames -merge -useContext -underBinder s1
  clear_value s1
  extract_lets +onlyGivenNames -merge -useContext -underBinder s3
  have h4 : Kept l s0 s3 := by unfold s3; exact (State.wr_kept h (RST.CAUSE.cause_zoned (Part.at hp)))
  clear_value s3
  extract_lets +onlyGivenNames -merge -useContext -underBinder s5
  clear_value s5
  extract_lets +onlyGivenNames -merge -useContext -underBinder s7
  clear_value s7
  extract_lets +onlyGivenNames -merge -useContext -underBinder s9
  have h10 : Kept l s0 s9 := by unfold s9; exact (State.clearField_kept (Kept.each h4 (fun _ _ h11 => (State.clearPage_kept h11 (PageZoned.all (Part.at hp)) (Part.sub hp)))) (Part.sub hp))
  clear_value s9
  extract_lets +onlyGivenNames -merge -useContext -underBinder s12
  have h13 : Kept l s0 s12 := by unfold s12; exact (Kept.ite (h10.upd [.live, .shadow, .mirror, .dirty, .locked, .immediate] (Part.sub hp) (fun p hn => by cases p <;> first | rfl | exact True.intro | exact absurd (by decide) hn) rfl (fun c => ⟨⟨c.1.1, rfl, rfl, rfl⟩, c.2.1, c.2.2⟩)) h10)
  clear_value s12
  exact (h13.upd [.pwr, .rst, .lap] (Part.sub hp) (fun p hn => by cases p <;> first | rfl | exact True.intro | exact absurd (by decide) hn) rfl id)

theorem State.blockReset_kept {l s0} {s} {x1} (h : Kept l s0 s) (hp : Part.within [.rst, .afe, .ports, .lap, .cal, .nvm, .loops, .jkt, .alarm, .call, .msg, .pair, .recorder, .sram, .sramBad, .sramWeak, .sec, .live, .shadow, .dirty, .immediate, .latched, .dma, .arith, .pwr, .tsync, .freeCount, .rtc, .response, .responseCrc, .regs, .terms] l) :
    Kept l s0 (State.blockReset s x1) := by
  unfold State.blockReset
  extract_lets +onlyGivenNames -merge -useContext -underBinder s1
  have h2 : Kept l s0 s1 := by unfold s1; exact (State.wr_kept h (RST.CAUSE.cause_zoned (Part.at hp)))
  clear_value s1
  extract_lets +onlyGivenNames -merge -useContext -underBinder s3
  have h4 : Kept l s0 s3 := by unfold s3; exact (Kept.when (State.releasePage_kept (State.clearPage_kept h2 (PageZoned.all (Part.at hp)) (Part.sub hp)) (Part.sub hp)) (fun _ h5 => (State.followLevel_kept h5 (Part.sub hp))))
  clear_value s3
  extract_lets +onlyGivenNames -merge -useContext -underBinder s6
  have h7 : Kept l s0 s6 := by unfold s6; exact (State.irq_kept (State.wr_kept (State.wr_kept h4 (RST.LAST.reach_zoned (Part.at hp))) (RST.LAST.page_zoned (Part.at hp))) (RST.IRQRAW.released_zoned (Part.at hp)))
  clear_value s6
  exact (h7.rst (Part.at hp))

theorem State.breset_kept {l s0} {s} {x1} (h : Kept l s0 s) (hp : Part.within [.freeCount, .arith, .lap, .dma, .sram, .sramBad, .sramWeak, .alarm, .recorder, .loops, .pair, .msg, .cal, .call, .jkt, .ports, .afe, .sec, .nvm, .rst, .live, .shadow, .dirty, .immediate, .latched, .pwr, .tsync, .rtc, .response, .responseCrc, .regs, .terms] l) :
    Kept l s0 (State.breset s x1) := by
  unfold State.breset
  refine Kept.ite ?_ ?_
  · exact h
  · extract_lets +onlyGivenNames -merge -useContext -underBinder s1
    have h2 : Kept l s0 s1 := by unfold s1; exact (State.setCtl_kept h (HDR.CTL.qreq_zoned (Part.at hp)) (Part.sub hp))
    clear_value s1
    exact (Kept.ite (State.blockReset_kept h2 (Part.sub hp)) (h2.rst (Part.at hp)))

theorem State.reclaimOwner_kept {l s0} {s} {x1} (h : Kept l s0 s) (hp : Part.within [.page 0x0, .recorder, .page 0x49, .head 0x14, .head 0x24, .page 0x42, .head 0x20, .page 0x41, .page 0x40, .sram, .sramBad, .sramWeak, .msg, .page 0x178] l) :
    Kept l s0 (State.reclaimOwner s x1) := by
  unfold State.reclaimOwner
  extract_lets +onlyGivenNames -merge -useContext -underBinder s1
  clear_value s1
  extract_lets +onlyGivenNames -merge -useContext -underBinder s3
  have h4 : Kept l s0 s3 := by unfold s3; exact (State.wr_kept h (SYS.CFGOWNER.owner_zoned (Part.at hp)))
  clear_value s3
  exact (Kept.ite h4 (State.recEvent_kept h4 (Part.sub hp)))

theorem State.handOwner_kept {l s0} {s} {x1} {x2} (h : Kept l s0 s) (hp : Part.within [.page 0x0] l) :
    Kept l s0 (State.handOwner s x1 x2) := by
  unfold State.handOwner
  exact (Kept.ite (State.wr_kept h (SYS.CFGOWNER.owner_zoned (Part.at hp))) h)

theorem State.rstStat_kept {l s0} {s} {x1} {x2} (h : Kept l s0 s) (hp : Part.within [.page 0x3] l) :
    Kept l s0 (State.rstStat s x1 x2) := by
  unfold State.rstStat
  exact (State.cmdStat_kept h (RST.CMDSTAT.state_zoned (Part.at hp)) (RST.CMDSTAT.reason_zoned (Part.at hp)))

theorem State.nodeReset_kept {l s0} {s} {x1} (h : Kept l s0 s) (hp : Part.within [.jkt, .immediate, .latched, .pair, .dma, .cal, .afe, .arith, .lap, .ports, .pwr, .loops, .alarm, .call, .msg, .tsync, .freeCount, .nvm, .recorder, .rtc, .sec, .response, .responseCrc, .regs, .live, .shadow, .mirror, .dirty, .locked, .rst] l) :
    Kept l s0 (State.nodeReset s x1) := by
  unfold State.nodeReset
  exact (Kept.ite (Kept.ite (State.assertReset_kept (State.rstStat_kept h (Part.sub hp)) (Part.sub hp)) (State.rstStat_kept h (Part.sub hp))) (State.assertReset_kept (State.rstStat_kept h (Part.sub hp)) (Part.sub hp)))

theorem State.fullReset_kept {l s0} {s} {x1} (h : Kept l s0 s) (hp : Part.within [.jkt, .immediate, .latched, .pair, .dma, .cal, .afe, .arith, .lap, .ports, .pwr, .loops, .alarm, .call, .msg, .tsync, .freeCount, .nvm, .recorder, .rtc, .sec, .response, .responseCrc, .regs, .live, .shadow, .mirror, .dirty, .locked, .rst] l) :
    Kept l s0 (State.fullReset s x1) := by
  unfold State.fullReset
  exact (Kept.ite (State.assertReset_kept h (Part.sub hp)) (State.rstStat_kept h (Part.sub hp)))

theorem State.domainReset_kept {l s0} {s} {x1} (h : Kept l s0 s) (hp : Part.within [.immediate, .latched, .pair, .dma, .cal, .afe, .arith, .lap, .ports, .pwr, .loops, .jkt, .alarm, .call, .msg, .tsync, .freeCount, .nvm, .recorder, .rtc, .sec, .response, .responseCrc, .regs, .rst, .sram, .sramBad, .sramWeak, .live, .shadow, .dirty, .terms] l) :
    Kept l s0 (State.domainReset s x1) := by
  unfold State.domainReset
  extract_lets +onlyGivenNames -merge -useContext -underBinder s1
  clear_value s1
  extract_lets +onlyGivenNames -merge -useContext -underBinder s3
  have h4 : Kept l s0 s3 := by unfold s3; exact (State.wr_kept h (RST.CAUSE.cause_zoned (Part.at hp)))
  clear_value s3
  extract_lets +onlyGivenNames -merge -useContext -underBinder s5
  have h6 : Kept l s0 s5 := by unfold s5; exact (Kept.when (Kept.each h4 (fun _ _ h7 => (State.clearPage_kept h7 (PageZoned.all (Part.at hp)) (Part.sub hp)))) (fun _ h8 => (State.clearField_kept h8 (Part.sub hp))))
  clear_value s5
  extract_lets +onlyGivenNames -merge -useContext -underBinder s9
  have h10 : Kept l s0 s9 := by unfold s9; exact (Kept.each h6 (fun _ _ h11 => (State.releasePage_kept h11 (Part.sub hp))))
  clear_value s9
  extract_lets +onlyGivenNames -merge -useContext -underBinder s12
  have h13 : Kept l s0 s12 := by unfold s12; exact (Kept.ite (State.coreReleased_kept h10 (Part.sub hp)) h10)
  clear_value s12
  extract_lets +onlyGivenNames -merge -useContext -underBinder s14
  have h15 : Kept l s0 s14 := by unfold s14; exact (State.rstStat_kept (State.irq_kept (State.wr_kept (State.wr_kept h13 (RST.LAST.reach_zoned (Part.at hp))) (RST.LAST.domain_zoned (Part.at hp))) (RST.IRQRAW.released_zoned (Part.at hp))) (Part.sub hp))
  clear_value s14
  exact (h15.rst (Part.at hp))

theorem State.domainRequest_kept {l s0} {s} {x1} (h : Kept l s0 s) (hp : Part.within [.freeCount, .arith, .lap, .dma, .sram, .sramBad, .sramWeak, .alarm, .recorder, .loops, .pair, .msg, .cal, .call, .jkt, .ports, .afe, .sec, .nvm, .immediate, .latched, .pwr, .tsync, .rtc, .response, .responseCrc, .regs, .rst, .live, .shadow, .dirty, .terms] l) :
    Kept l s0 (State.domainRequest s x1) := by
  unfold State.domainRequest
  split
  · exact (State.rstStat_kept h (Part.sub hp))
  · refine Kept.ite ?_ ?_
    · exact (State.fault_kept (State.rstStat_kept h (Part.sub hp)) (RST.FAULT.notres_zoned (Part.at hp)) (Part.sub hp))
    · refine Kept.ite ?_ ?_
      · exact (State.rstStat_kept h (Part.sub hp))
      · refine Kept.ite ?_ ?_
        · exact (State.rstStat_kept h (Part.sub hp))
        · extract_lets +onlyGivenNames -merge -useContext -underBinder s1
          have h2 : Kept l s0 s1 := by unfold s1; exact (State.rstStat_kept (Kept.each h (fun _ _ h3 => (State.setCtl_kept h3 (HDR.CTL.qreq_zoned (Part.at hp)) (Part.sub hp)))) (Part.sub hp))
          clear_value s1
          exact (Kept.ite (State.domainReset_kept h2 (Part.sub hp)) (h2.rst (Part.at hp)))

theorem State.resetCommand_kept {l s0} {s} {x1} {x2} {x3} (h : Kept l s0 s) (hp : Part.within [.jkt, .immediate, .latched, .pair, .dma, .cal, .afe, .arith, .lap, .ports, .pwr, .loops, .alarm, .call, .msg, .tsync, .freeCount, .nvm, .recorder, .rtc, .sec, .response, .responseCrc, .regs, .live, .shadow, .mirror, .dirty, .locked, .rst, .sram, .sramBad, .sramWeak, .terms] l) :
    Kept l s0 (State.resetCommand s x1 x2 x3) := by
  unfold State.resetCommand
  split
  · exact (State.nodeReset_kept h (Part.sub hp))
  · exact (State.fullReset_kept h (Part.sub hp))
  · exact (State.domainRequest_kept h (Part.sub hp))
  · exact (State.rstStat_kept h (Part.sub hp))

theorem State.measureVddio_kept {l s0} {s} (h : Kept l s0 s) (hp : Part.within [.freeCount, .rst, .page 0x1] l) :
    Kept l s0 (State.measureVddio s) := by
  unfold State.measureVddio
  refine Kept.ite ?_ ?_
  · exact h
  · split
    · rename_i x2 s13 q4
      have h1 : Kept l s0 s13 := Kept.snd q4 (State.draw_kept h (Part.sub hp))
      exact (State.put_kept (h1.rst (Part.at hp)) (PWR.STAT.io33_zoned (Part.at hp)))

theorem State.seeStore_kept {l s0} {s} (h : Kept l s0 s) (hp : Part.within [.page 0x48, .head 0x14, .head 0x24, .head 0x20] l) :
    Kept l s0 (State.seeStore s) := by
  unfold State.seeStore
  refine Kept.ite ?_ ?_
  · exact h
  · extract_lets +onlyGivenNames -merge -useContext -underBinder s1
    have h2 : Kept l s0 s1 := by unfold s1; exact (Kept.each (State.seeSnaps_kept h (Part.sub hp)) (fun _ _ h3 => (State.storeSee_kept h3 (Part.sub hp))))
    clear_value s1
    split
    · exact (State.storeSee_kept h2 (Part.sub hp))
    · exact h2

theorem State.powerUp_kept {l s0} {s} (h : Kept l s0 s) (hp : Part.within [.page 0x48, .head 0x14, .head 0x24, .head 0x20, .freeCount, .rst, .page 0x1, .stime, .stimeFrac, .optimeFrac, .sram, .sramBad, .sramWeak, .recorder, .pwr, .jtag, .page 0x49, .page 0x51] l) :
    Kept l s0 (State.powerUp s) := by
  unfold State.powerUp
  extract_lets +onlyGivenNames -merge -useContext -underBinder s1
  clear_value s1
  extract_lets +onlyGivenNames -merge -useContext -underBinder s3
  clear_value s3
  extract_lets +onlyGivenNames -merge -useContext -underBinder s5
  clear_value s5
  extract_lets +onlyGivenNames -merge -useContext -underBinder s7 s8
  have h10 : Kept l s0 s8 := by unfold s8; exact (State.seeStore_kept (State.measureVddio_kept (h.upd [.stime, .stimeFrac, .optimeFrac, .sram, .sramBad, .sramWeak, .recorder, .pwr, .rst, .jtag] (Part.sub hp) (fun p hn => by cases p <;> first | rfl | exact True.intro | exact absurd (by decide) hn) rfl (fun c => ⟨⟨c.1.1, c.1.2.1, c.1.2.2.1, c.1.2.2.2⟩, rfl, c.2.2⟩)) (Part.sub hp)) (Part.sub hp))
  clear_value s8
  clear_value s7
  extract_lets +onlyGivenNames -merge -useContext -underBinder s11
  have h12 : Kept l s0 s11 := by unfold s11; exact (State.wr_kept (State.wr_kept (State.wr_kept h10 (PWR.OPTIME.ms_zoned (Part.at hp))) (REC.PWRCYC.count_zoned (Part.at hp))) (BKPM.DATA31.pwrcyc_zoned (Part.at hp)))
  clear_value s11
  extract_lets +onlyGivenNames -merge -useContext -underBinder s13
  have h14 : Kept l s0 s13 := by unfold s13; exact (Kept.ite (State.irq_kept (State.wr_kept h12 (REC.STAT.pc_ovf_zoned (Part.at hp))) (REC.IRQRAW.cnt_event_zoned (Part.at hp))) h12)
  clear_value s13
  extract_lets +onlyGivenNames -merge -useContext -underBinder s15
  have h16 : Kept l s0 s15 := by unfold s15; exact (State.clearRange_kept (State.clearRange_kept (State.clearRange_kept (State.wr_kept h14 (REC.LOGDROP.count_zoned (Part.at hp))) (n := 73) (Part.at hp) rfl) (n := 73) (Part.at hp) rfl) (n := 73) (Part.at hp) rfl)
  clear_value s15
  split
  · exact h16
  · extract_lets +onlyGivenNames -merge -useContext -underBinder s17
    have h18 : Kept l s0 s17 := by unfold s17; exact (State.wr_kept (State.wr_kept (State.wr_kept h16 (REC.LOGSTART.offset_zoned (Part.at hp))) (REC.LOGEND.offset_zoned (Part.at hp))) (REC.LOGSEQ.seq_zoned (Part.at hp)))
    clear_value s17
    exact (h18.recorder (Part.at hp))

theorem State.proceedResets_kept {l s0} {s} (h : Kept l s0 s) (hp : Part.within [.rst, .afe, .ports, .lap, .cal, .nvm, .loops, .jkt, .alarm, .call, .msg, .pair, .recorder, .sram, .sramBad, .sramWeak, .sec, .live, .shadow, .dirty, .immediate, .latched, .dma, .arith, .pwr, .tsync, .freeCount, .rtc, .response, .responseCrc, .regs, .terms] l) :
    Kept l s0 (State.proceedResets s) := by
  unfold State.proceedResets
  extract_lets +onlyGivenNames -merge -useContext -underBinder s1
  have h2 : Kept l s0 s1 := by unfold s1; exact (Kept.each h (fun _ _ h3 => (Kept.ite (State.blockReset_kept h3 (Part.sub hp)) h3)))
  clear_value s1
  exact (Kept.each h2 (fun _ _ h4 => (Kept.ite (State.domainReset_kept h4 (Part.sub hp)) h4)))

theorem State.railsGone_kept {l s0} {s} (h : Kept l s0 s) (hp : Part.within [.pwr, .rst] l) :
    Kept l s0 (State.railsGone s) := by
  unfold State.railsGone
  exact (h.upd [.pwr, .rst] (Part.sub hp) (fun p hn => by cases p <;> first | rfl | exact True.intro | exact absurd (by decide) hn) rfl id)

theorem State.sampleStraps_kept {l s0} {s} (h : Kept l s0 s) (hp : Part.within [.straps] l) :
    Kept l s0 (State.sampleStraps s) := by
  unfold State.sampleStraps
  extract_lets +onlyGivenNames -merge -useContext -underBinder s1
  clear_value s1
  exact (h.straps (Part.at hp))

theorem State.releaseDomain_kept {l s0} {s} {x1} (h : Kept l s0 s) (hp : Part.within [.pwr, .rst, .afe, .pages 0x8 0x10, .pages 0x30 0x34, .ports, .page 0x38, .lap, .page 0x10, .cal, .nvm, .head 0x14, .loops, .page 0x18, .jkt, .page 0x19, .alarm, .call, .page 0x28, .page 0x34, .head 0x24, .head 0x20, .msg, .pair, .page 0x40, .page 0x178, .recorder, .page 0x49, .page 0x42, .page 0x41, .sram, .sramBad, .sramWeak, .page 0x48, .page 0x51, .sec, .page 0x58, .live, .shadow, .dirty, .terms] l) :
    Kept l s0 (State.releaseDomain s x1) := by
  unfold State.releaseDomain
  refine Kept.ite ?_ ?_
  · exact (h.upd [.pwr, .rst] (Part.sub hp) (fun p hn => by cases p <;> first | rfl | exact True.intro | exact absurd (by decide) hn) rfl id)
  · refine Kept.ite ?_ ?_
    · exact h
    · extract_lets +onlyGivenNames -merge -useContext -underBinder s1
      clear_value s1
      extract_lets +onlyGivenNames -merge -useContext -underBinder s3 s4
      have h6 : Kept l s0 s4 := by unfold s4; exact (Kept.ite (h.pwr (Part.at hp)) h)
      clear_value s4
      clear_value s3
      extract_lets +onlyGivenNames -merge -useContext -underBinder s7
      have h8 : Kept l s0 s7 := by unfold s7; exact (Kept.each h6 (fun _ _ h9 => (State.releasePage_kept h9 (Part.sub hp))))
      clear_value s7
      exact (Kept.ite (State.coreReleased_kept h8 (Part.sub hp)) (Kept.ite (h8.pwr (Part.at hp)) h8))

theorem State.releaseDomains_kept {l s0} {s} {x1} {x2} (h : Kept l s0 s) (hp : Part.within [.pwr, .rst, .afe, .pages 0x8 0x10, .pages 0x30 0x34, .ports, .page 0x38, .lap, .page 0x10, .cal, .nvm, .head 0x14, .loops, .page 0x18, .jkt, .page 0x19, .alarm, .call, .page 0x28, .page 0x34, .head 0x24, .head 0x20, .msg, .pair, .page 0x40, .page 0x178, .recorder, .page 0x49, .page 0x42, .page 0x41, .sram, .sramBad, .sramWeak, .page 0x48, .page 0x51, .sec, .page 0x58, .live, .shadow, .dirty, .terms, .page 0x3, .page 0x5A] l) :
    Kept l s0 (State.releaseDomains s x1 x2) := by
  unfold State.releaseDomains
  extract_lets +onlyGivenNames -merge -useContext -underBinder s1
  have h2 : Kept l s0 s1 := by unfold s1; exact (Kept.each h (fun _ _ h3 => (State.releaseDomain_kept h3 (Part.sub hp))))
  clear_value s1
  refine Kept.ite ?_ ?_
  · extract_lets +onlyGivenNames -merge -useContext -underBinder s4
    have h5 : Kept l s0 s4 := by unfold s4; exact (State.wr_kept (State.fault_kept h2 (RST.FAULT.clkfail_zoned (Part.at hp)) (Part.sub hp)) (RST.CAUSE.cause_zoned (Part.at hp)))
    clear_value s4
    exact (h5.rst (Part.at hp))
  · extract_lets +onlyGivenNames -merge -useContext -underBinder s6 s7
    have h9 : Kept l s0 s7 := by unfold s7; exact (State.wr_kept (h2.rst (Part.at hp)) (RST.LAST.reach_zoned (Part.at hp)))
    clear_value s7
    clear_value s6
    exact (State.tellBackup_kept (State.recEvent_kept h9 (Part.sub hp)) (Part.sub hp))

theorem State.release_kept {l s0} {s} {x1} (h : Kept l s0 s) (hp : Part.within [.rst, .straps, .page 0x1, .page 0x48, .head 0x14, .head 0x24, .head 0x20, .freeCount, .stime, .stimeFrac, .optimeFrac, .sram, .sramBad, .sramWeak, .recorder, .pwr, .jtag, .page 0x49, .page 0x51, .page 0x0, .afe, .pages 0x8 0x10, .pages 0x30 0x34, .ports, .page 0x38, .lap, .page 0x10, .cal, .nvm, .loops, .page 0x18, .jkt, .page 0x19, .alarm, .call, .page 0x28, .page 0x34, .msg, .pair, .page 0x40, .page 0x178, .page 0x42, .page 0x41, .sec, .page 0x58, .live, .shadow, .dirty, .terms, .page 0x3, .page 0x5A] l) :
    Kept l s0 (State.release s x1) := by
  unfold State.release
  refine Kept.ite ?_ ?_
  · exact h
  · extract_lets +onlyGivenNames -merge -useContext -underBinder s1 s2
    have h4 : Kept l s0 s2 := by unfold s2; exact (h.rst (Part.at hp))
    clear_value s2
    clear_value s1
    extract_lets +onlyGivenNames -merge -useContext -underBinder s5
    have h6 : Kept l s0 s5 := by unfold s5; exact (Kept.ite (State.sampleStraps_kept h4 (Part.sub hp)) h4)
    clear_value s5
    extract_lets +onlyGivenNames -merge -useContext -underBinder s7
    have h8 : Kept l s0 s7 := by unfold s7; exact (Kept.ite (State.wr_kept h6 (PWR.STAT.state_zoned (Part.at hp))) (State.powerUp_kept h6 (Part.sub hp)))
    clear_value s7
    extract_lets +onlyGivenNames -merge -useContext -underBinder s9 s10 s11 s12
    have h13 : Kept l s0 s9 := by unfold s9; exact (State.wr_kept h8 (SYS.CFGOWNER.owner_zoned (Part.at hp)))
    have h14 : Kept l s0 s10 := by unfold s10; exact (Kept.ite (State.fault_kept h13 (CLK.FAULT.strap_zoned (Part.at hp)) (Part.sub hp)) h13)
    have h16 : Kept l s0 s12 := by unfold s12; exact (Kept.ite (h14.rst (Part.at hp)) h8)
    clear_value s12
    clear_value s11
    clear_value s10
    clear_value s9
    extract_lets +onlyGivenNames -merge -useContext -underBinder s17
    have h18 : Kept l s0 s17 := by unfold s17; exact (State.releaseDomains_kept h16 (Part.sub hp))
    clear_value s17
    exact (Kept.ite (State.laneSend_kept h18 (Part.sub hp)) h18)

theorem execCtlRevert_kept {l s0} {x0} {x1} {s} (h : Kept l s0 s) (hp : Part.within [.page 0x1, .status, .shadow, .dirty] l) :
    KeptR l s0 (execCtlRevert x0 x1 s) := by
  unfold execCtlRevert
  refine KeptR.ite ?_ ?_
  · refine KeptR.next ?_
    extract_lets +onlyGivenNames -merge -useContext -underBinder s1
    have h2 : Kept l s0 s1 := by unfold s1; exact (State.awake_kept h (Part.sub hp))
    clear_value s1
    exact (h2.status (Part.at hp))
  · exact (State.command_kept h (fun h3 => (Kept.ite (State.revertPage_kept h3 (Part.sub hp)) h3)) (Part.sub hp))

theorem execCtlEnableWrite_kept {l s0} {x0} {x1} {x2} {s} (h : Kept l s0 s) (hp : Part.within [.page 0x1, .status, .head 0xC, .lap, .freeCount, .arith, .dma, .page 0x42, .head 0x14, .head 0x24, .head 0x20, .page 0x41, .page 0x40, .sram, .sramBad, .sramWeak, .alarm, .recorder, .loops, .pair, .page 0x38, .msg, .page 0x18, .cal, .pages 0x120 0x130, .page 0x20, .page 0x130, .page 0x49, .page 0x178, .call, .page 0x28, .page 0x34, .jkt, .page 0x19, .pages 0x30 0x34, .ports, .page 0x10, .page 0x11, .afe, .pages 0x8 0x10, .page 0x58, .sec, .page 0x48, .nvm, .page 0x51] l) :
    KeptR l s0 (execCtlEnableWrite x0 x1 x2 s) := by
  unfold execCtlEnableWrite
  exact (State.command_kept h (fun h1 => (State.setEnable_kept h1 (Part.sub hp))) (Part.sub hp))

theorem execQuiesceRequest_kept {l s0} {x0} {x1} {x2} {s} (h : Kept l s0 s) (hp : Part.within [.page 0x1, .status, .freeCount, .arith, .lap, .dma, .page 0x42, .head 0x14, .head 0x24, .head 0x20, .page 0x41, .page 0x40, .sram, .sramBad, .sramWeak, .alarm, .recorder, .loops, .pair, .page 0x38, .msg, .page 0x18, .cal, .pages 0x120 0x130, .page 0x20, .page 0x130, .page 0x49, .page 0x178, .call, .page 0x28, .page 0x34, .jkt, .page 0x19, .pages 0x30 0x34, .ports, .page 0x10, .page 0x11, .afe, .pages 0x8 0x10, .page 0x58, .sec, .page 0x48, .nvm, .page 0x51, .head 0xC] l) :
    KeptR l s0 (execQuiesceRequest x0 x1 x2 s) := by
  unfold execQuiesceRequest
  exact (State.command_kept h (fun h1 => (State.setCtl_kept h1 (HDR.CTL.qreq_zoned (Part.at hp)) (Part.sub hp))) (Part.sub hp))

theorem execQuiesceTimeout_kept {l s0} {x0} {s} (h : Kept l s0 s) (hp : Part.within [.rst, .afe, .ports, .lap, .cal, .nvm, .loops, .jkt, .alarm, .call, .msg, .pair, .recorder, .sram, .sramBad, .sramWeak, .sec, .live, .shadow, .dirty, .immediate, .latched, .dma, .arith, .pwr, .tsync, .freeCount, .rtc, .response, .responseCrc, .regs, .terms] l) :
    KeptR l s0 (execQuiesceTimeout x0 s) := by
  unfold execQuiesceTimeout
  extract_lets +onlyGivenNames -merge -useContext -underBinder s1
  clear_value s1
  refine KeptR.ite ?_ ?_
  · exact (KeptR.next h)
  · extract_lets +onlyGivenNames -merge -useContext -underBinder s3 s4
    have h6 : Kept l s0 s4 := by unfold s4; exact (h.rst (Part.at hp))
    clear_value s4
    clear_value s3
    extract_lets +onlyGivenNames -merge -useContext -underBinder s7
    have h8 : Kept l s0 s7 := by unfold s7; exact (Kept.ite (State.blockReset_kept h6 (Part.sub hp)) h6)
    clear_value s7
    exact (KeptR.next (State.proceedResets_kept h8 (Part.sub hp)))

theorem execBlockResetRequest_kept {l s0} {x0} {x1} {s} (h : Kept l s0 s) (hp : Part.within [.status, .freeCount, .arith, .lap, .dma, .sram, .sramBad, .sramWeak, .alarm, .recorder, .loops, .pair, .msg, .cal, .call, .jkt, .ports, .afe, .sec, .nvm, .rst, .live, .shadow, .dirty, .immediate, .latched, .pwr, .tsync, .rtc, .response, .responseCrc, .regs, .terms] l) :
    KeptR l s0 (execBlockResetRequest x0 x1 s) := by
  unfold execBlockResetRequest
  exact (State.command_kept h (fun h1 => (State.breset_kept h1 (Part.sub hp))) (Part.sub hp))

theorem execLockWrite_kept {l s0} {x0} {x1} {s} (h : Kept l s0 s) (hp : Part.within [.page 0x1, .status, .locked] l) :
    KeptR l s0 (execLockWrite x0 x1 s) := by
  unfold execLockWrite
  exact (State.command_kept h (fun h1 => (h1.locked (Part.at hp))) (Part.sub hp))

theorem execCfgOwnerHandover_kept {l s0} {x0} {x1} {s} (h : Kept l s0 s) (hp : Part.within [.page 0x1, .status, .page 0x0] l) :
    KeptR l s0 (execCfgOwnerHandover x0 x1 s) := by
  unfold execCfgOwnerHandover
  exact (State.command_kept h (fun h1 => (State.handOwner_kept h1 (Part.sub hp))) (Part.sub hp))

theorem execCfgOwnerReclaim_kept {l s0} {x0} {s} (h : Kept l s0 s) (hp : Part.within [.page 0x1, .status, .page 0x0, .recorder, .page 0x49, .head 0x14, .head 0x24, .page 0x42, .head 0x20, .page 0x41, .page 0x40, .sram, .sramBad, .sramWeak, .msg, .page 0x178] l) :
    KeptR l s0 (execCfgOwnerReclaim x0 s) := by
  unfold execCfgOwnerReclaim
  exact (State.command_kept h (fun h1 => (State.reclaimOwner_kept h1 (Part.sub hp))) (Part.sub hp))

theorem execClockFailure_kept {l s0} {x0} {s} (h : Kept l s0 s) (hp : Part.within [.jkt, .immediate, .latched, .pair, .dma, .cal, .afe, .arith, .lap, .ports, .pwr, .loops, .alarm, .call, .msg, .tsync, .freeCount, .nvm, .recorder, .rtc, .sec, .response, .responseCrc, .regs, .live, .shadow, .mirror, .dirty, .locked, .rst] l) :
    KeptR l s0 (execClockFailure x0 s) := by
  unfold execClockFailure
  refine KeptR.ite ?_ ?_
  · exact (KeptR.next h)
  · extract_lets +onlyGivenNames -merge -useContext -underBinder s1
    have h2 : Kept l s0 s1 := by unfold s1; exact (Kept.ite (State.irq_kept (State.fault_kept h (CLK.FAULT.pll_zoned (Part.at hp)) (Part.sub hp)) (CLK.IRQRAW.pll_unlock_zoned (Part.at hp))) (State.irq_kept (State.fault_kept h (CLK.FAULT.hfxo_zoned (Part.at hp)) (Part.sub hp)) (CLK.IRQRAW.hfxo_fail_zoned (Part.at hp))))
    clear_value s1
    extract_lets +onlyGivenNames -merge -useContext -underBinder s3
    have h4 : Kept l s0 s3 := by unfold s3; exact (State.assertReset_kept (State.stick_kept h2 (CLK.FAILCNT.count_zoned (Part.at hp)) (CLK.CNTOVF.fail_zoned (Part.at hp)) (ZonedOpt.some (CLK.IRQRAW.cnt_ovf_zoned (Part.at hp)))) (Part.sub hp))
    clear_value s3
    exact (KeptR.next (h4.rst (Part.at hp)))

theorem execApllUnlock_kept {l s0} {x0} {s} (h : Kept l s0 s) (hp : Part.within [.rst, .afe, .ports, .lap, .cal, .nvm, .loops, .jkt, .alarm, .call, .msg, .pair, .recorder, .sram, .sramBad, .sramWeak, .sec, .live, .shadow, .dirty, .immediate, .latched, .dma, .arith, .pwr, .tsync, .freeCount, .rtc, .response, .responseCrc, .regs] l) :
    KeptR l s0 (execApllUnlock x0 s) := by
  unfold execApllUnlock
  extract_lets +onlyGivenNames -merge -useContext -underBinder s1
  clear_value s1
  refine KeptR.ite ?_ ?_
  · exact (KeptR.next h)
  · refine KeptR.ite ?_ ?_
    · extract_lets +onlyGivenNames -merge -useContext -underBinder s3 s4
      have h6 : Kept l s0 s4 := by unfold s4; exact (h.rst (Part.at hp))
      clear_value s4
      clear_value s3
      refine KeptR.next ?_
      refine Kept.each h6 (fun _ _ h7 => ?_)
      extract_lets +onlyGivenNames -merge -useContext -underBinder s8
      have h9 : Kept l s0 s8 := by unfold s8; exact (Kept.each h7 (fun _ _ h10 => (State.releasePage_kept h10 (Part.sub hp))))
      clear_value s8
      exact (State.irq_kept (State.wr_kept (State.wr_kept h9 (RST.LAST.reach_zoned (Part.at hp))) (RST.LAST.domain_zoned (Part.at hp))) (RST.IRQRAW.released_zoned (Part.at hp)))
    · extract_lets +onlyGivenNames -merge -useContext -underBinder s11
      clear_value s11
      extract_lets +onlyGivenNames -merge -useContext -underBinder s13
      have h14 : Kept l s0 s13 := by unfold s13; exact (Kept.each (State.irq_kept h (CLK.IRQRAW.apll_unlock_zoned (Part.at hp))) (fun _ _ h15 => (State.clearPage_kept h15 (PageZoned.all (Part.at hp)) (Part.sub hp))))
      clear_value s13
      exact (KeptR.next (h14.rst (Part.at hp)))

theorem execPowerOnReset_kept {l s0} {s} (h : Kept l s0 s) (hp : Part.within [.pwr, .rst, .jkt, .immediate, .latched, .pair, .dma, .cal, .afe, .arith, .lap, .ports, .loops, .alarm, .call, .msg, .tsync, .freeCount, .nvm, .recorder, .rtc, .sec, .response, .responseCrc, .regs, .live, .shadow, .mirror, .dirty, .locked] l) :
    KeptR l s0 (execPowerOnReset s) := by
  unfold execPowerOnReset
  extract_lets +onlyGivenNames -merge -useContext -underBinder s1
  have h2 : Kept l s0 s1 := by unfold s1; exact (State.railsGone_kept (State.assertReset_kept h (Part.sub hp)) (Part.sub hp))
  clear_value s1
  exact (KeptR.next (h2.rst (Part.at hp)))

theorem execBrownOut_kept {l s0} {x0} {s} (h : Kept l s0 s) (hp : Part.within [.pwr, .rst, .jkt, .immediate, .latched, .pair, .dma, .cal, .afe, .arith, .lap, .ports, .loops, .alarm, .call, .msg, .tsync, .freeCount, .nvm, .recorder, .rtc, .sec, .response, .responseCrc, .regs, .live, .shadow, .mirror, .dirty, .locked] l) :
    KeptR l s0 (execBrownOut x0 s) := by
  unfold execBrownOut
  extract_lets +onlyGivenNames -merge -useContext -underBinder s1
  have h2 : Kept l s0 s1 := by unfold s1; exact (State.railsGone_kept (State.assertReset_kept h (Part.sub hp)) (Part.sub hp))
  clear_value s1
  exact (KeptR.next (h2.rst (Part.at hp)))

theorem execRstnPin_kept {l s0} {s} (h : Kept l s0 s) (hp : Part.within [.jkt, .immediate, .latched, .pair, .dma, .cal, .afe, .arith, .lap, .ports, .pwr, .loops, .alarm, .call, .msg, .tsync, .freeCount, .nvm, .recorder, .rtc, .sec, .response, .responseCrc, .regs, .live, .shadow, .mirror, .dirty, .locked, .rst] l) :
    KeptR l s0 (execRstnPin s) := by
  unfold execRstnPin
  exact (KeptR.next (State.assertReset_kept h (Part.sub hp)))

theorem execSequenceViolation_kept {l s0} {s} (h : Kept l s0 s) (hp : Part.within [.jkt, .immediate, .latched, .pair, .dma, .cal, .afe, .arith, .lap, .ports, .pwr, .loops, .alarm, .call, .msg, .tsync, .freeCount, .nvm, .recorder, .rtc, .sec, .response, .responseCrc, .regs, .live, .shadow, .mirror, .dirty, .locked, .rst] l) :
    KeptR l s0 (execSequenceViolation s) := by
  unfold execSequenceViolation
  extract_lets +onlyGivenNames -merge -useContext -underBinder s1
  have h2 : Kept l s0 s1 := by unfold s1; exact (State.assertReset_kept h (Part.sub hp))
  clear_value s1
  exact (KeptR.next (h2.rst (Part.at hp)))

theorem execSupervisorTrip_kept {l s0} {s} (h : Kept l s0 s) (hp : Part.within [.jkt, .immediate, .latched, .pair, .dma, .cal, .afe, .arith, .lap, .ports, .pwr, .loops, .alarm, .call, .msg, .tsync, .freeCount, .nvm, .recorder, .rtc, .sec, .response, .responseCrc, .regs, .live, .shadow, .mirror, .dirty, .locked, .rst] l) :
    KeptR l s0 (execSupervisorTrip s) := by
  unfold execSupervisorTrip
  exact (KeptR.ite (KeptR.next (State.assertReset_kept h (Part.sub hp))) (KeptR.next h))

theorem execNodeResetCommand_kept {l s0} {x0} {s} (h : Kept l s0 s) (hp : Part.within [.status, .jkt, .immediate, .latched, .pair, .dma, .cal, .afe, .arith, .lap, .ports, .pwr, .loops, .alarm, .call, .msg, .tsync, .freeCount, .nvm, .recorder, .rtc, .sec, .response, .responseCrc, .regs, .live, .shadow, .mirror, .dirty, .locked, .rst] l) :
    KeptR l s0 (execNodeResetCommand x0 s) := by
  unfold execNodeResetCommand
  exact (State.command_kept h (fun h1 => (State.nodeReset_kept h1 (Part.sub hp))) (Part.sub hp))

theorem execFullResetCommand_kept {l s0} {x0} {s} (h : Kept l s0 s) (hp : Part.within [.status, .jkt, .immediate, .latched, .pair, .dma, .cal, .afe, .arith, .lap, .ports, .pwr, .loops, .alarm, .call, .msg, .tsync, .freeCount, .nvm, .recorder, .rtc, .sec, .response, .responseCrc, .regs, .live, .shadow, .mirror, .dirty, .locked, .rst] l) :
    KeptR l s0 (execFullResetCommand x0 s) := by
  unfold execFullResetCommand
  exact (State.command_kept h (fun h1 => (State.fullReset_kept h1 (Part.sub hp))) (Part.sub hp))

theorem execDomainResetCommand_kept {l s0} {x0} {x1} {s} (h : Kept l s0 s) (hp : Part.within [.status, .freeCount, .arith, .lap, .dma, .sram, .sramBad, .sramWeak, .alarm, .recorder, .loops, .pair, .msg, .cal, .call, .jkt, .ports, .afe, .sec, .nvm, .immediate, .latched, .pwr, .tsync, .rtc, .response, .responseCrc, .regs, .rst, .live, .shadow, .dirty, .terms] l) :
    KeptR l s0 (execDomainResetCommand x0 x1 s) := by
  unfold execDomainResetCommand
  exact (State.command_kept h (fun h1 => (State.domainRequest_kept h1 (Part.sub hp))) (Part.sub hp))

theorem execResetRelease_kept {l s0} {x0} {s} (h : Kept l s0 s) (hp : Part.within [.rst, .straps, .page 0x1, .page 0x48, .head 0x14, .head 0x24, .head 0x20, .freeCount, .stime, .stimeFrac, .optimeFrac, .sram, .sramBad, .sramWeak, .recorder, .pwr, .jtag, .page 0x49, .page 0x51, .page 0x0, .afe, .pages 0x8 0x10, .pages 0x30 0x34, .ports, .page 0x38, .lap, .page 0x10, .cal, .nvm, .loops, .page 0x18, .jkt, .page 0x19, .alarm, .call, .page 0x28, .page 0x34, .msg, .pair, .page 0x40, .page 0x178, .page 0x42, .page 0x41, .sec, .page 0x58, .live, .shadow, .dirty, .terms, .page 0x3, .page 0x5A] l) :
    KeptR l s0 (execResetRelease x0 s) := by
  unfold execResetRelease
  exact (KeptR.next (State.release_kept h (Part.sub hp)))

theorem execReleaseRetry_kept {l s0} {x0} {s} (h : Kept l s0 s) (hp : Part.within [.pwr, .rst, .afe, .pages 0x8 0x10, .pages 0x30 0x34, .ports, .page 0x38, .lap, .page 0x10, .cal, .nvm, .head 0x14, .loops, .page 0x18, .jkt, .page 0x19, .alarm, .call, .page 0x28, .page 0x34, .head 0x24, .head 0x20, .msg, .pair, .page 0x40, .page 0x178, .recorder, .page 0x49, .page 0x42, .page 0x41, .sram, .sramBad, .sramWeak, .page 0x48, .page 0x51, .sec, .page 0x58, .live, .shadow, .dirty, .terms, .page 0x3, .page 0x5A] l) :
    KeptR l s0 (execReleaseRetry x0 s) := by
  unfold execReleaseRetry
  split
  · exact (KeptR.next (State.releaseDomains_kept h (Part.sub hp)))
  · exact (KeptR.next h)

end Sys2Proof.Machine
end

