-- ==== Sys2Proof/Laws/Pwr.lean ====
section
/-!
SUPPORT. What each operation of Machine/Pwr.lean can change: one lemma per operation, named after it. An operation started in a
state that has kept all parts of an earlier one but some keeps all but those and the parts that its lemma lists, and the
canonical form of the sparse maps with them.
-/

set_option Elab.async false

namespace Sys2Proof.Machine

theorem State.startSave_kept {l s0} {s} {x1} (h : Kept l s0 s) (hp : Part.within [.freeCount, .arith, .lap, .dma, .page 0x42, .head 0x14, .head 0x24, .head 0x20, .page 0x41, .page 0x40, .sram, .sramBad, .sramWeak, .alarm, .recorder, .loops, .pair, .page 0x38, .msg, .page 0x18, .cal, .pages 0x120 0x130, .page 0x20, .page 0x130, .page 0x49, .page 0x178, .call, .page 0x28, .page 0x34, .jkt, .page 0x19, .pages 0x30 0x34, .ports, .page 0x1, .store, .nvm, .page 0x58, .page 0x48, .page 0x51, .pwr] l) :
    Kept l s0 (State.startSave s x1) := by
  unfold State.startSave
  refine Kept.ite ?_ ?_
  · exact h
  · extract_lets +onlyGivenNames -merge -useContext -underBinder s1
    have h2 : Kept l s0 s1 := by unfold s1; exact (State.wr_kept (State.stick_kept (State.completeEvaluation_kept h (Part.sub hp)) (PWR.SHED4CNT.count_zoned (Part.at hp)) (PWR.CNTOVF.shed4_zoned (Part.at hp)) (ZonedOpt.some (PWR.IRQRAW.cnt_ovf_zoned (Part.at hp)))) (PWR.STAT.saving_zoned (Part.at hp)))
    clear_value s1
    exact (State.recCommit_kept (h2.upd [.pwr, .jkt] (Part.sub hp) (fun p hn => by cases p <;> first | rfl | exact True.intro | exact absurd (by decide) hn) rfl id) (Part.sub hp))

theorem State.powerCommand_kept {l s0} {s} {x1} (h : Kept l s0 s) (hp : Part.within [.page 0x1, .freeCount, .arith, .lap, .dma, .page 0x42, .head 0x14, .head 0x24, .head 0x20, .page 0x41, .page 0x40, .sram, .sramBad, .sramWeak, .alarm, .recorder, .loops, .pair, .page 0x38, .msg, .page 0x18, .cal, .pages 0x120 0x130, .page 0x20, .page 0x130, .page 0x49, .page 0x178, .call, .page 0x28, .page 0x34, .jkt, .page 0x19, .pages 0x30 0x34, .ports, .store, .nvm, .page 0x58, .page 0x48, .page 0x51, .pwr] l) :
    Kept l s0 (State.powerCommand s x1) := by
  unfold State.powerCommand
  exact (Kept.ite (State.cmdStat_kept h (PWR.CMDSTAT.state_zoned (Part.at hp)) (PWR.CMDSTAT.reason_zoned (Part.at hp))) (Kept.ite (State.cmdStat_kept h (PWR.CMDSTAT.state_zoned (Part.at hp)) (PWR.CMDSTAT.reason_zoned (Part.at hp))) (State.startSave_kept (State.cmdStat_kept h (PWR.CMDSTAT.state_zoned (Part.at hp)) (PWR.CMDSTAT.reason_zoned (Part.at hp))) (Part.sub hp))))

theorem State.leaveNap_kept {l s0} {s} (h : Kept l s0 s) (hp : Part.within [.page 0x178, .recorder, .page 0x49, .head 0x14, .head 0x24, .page 0x42, .head 0x20, .page 0x41, .page 0x40, .sram, .sramBad, .sramWeak, .msg, .page 0x48, .nvm, .page 0x51, .switched, .pwr, .terms, .immediate, .latched, .pair, .dma, .pages 0x30 0x34, .cal, .page 0x10, .afe, .arith, .lap, .ports, .loops, .jkt, .page 0x1A, .page 0x38, .page 0x19, .alarm, .pages 0x120 0x131, .call, .tsync, .freeCount, .page 0x58, .rtc, .sec, .response, .responseCrc, .page 0x11, .pages 0x8 0x10, .page 0x18, .rst, .page 0x28, .page 0x34, .live, .shadow, .dirty, .page 0x1] l) :
    Kept l s0 (State.leaveNap s) := by
  unfold State.leaveNap
  exact (Kept.ite (State.recGo_kept (State.refreshDomains_kept (State.wr_kept h (PWR.STAT.state_zoned (Part.at hp))) (Part.sub hp)) (Part.sub hp)) h)

theorem State.wakeBy_kept {l s0} {s} {x1} (h : Kept l s0 s) (hp : Part.within [.page 0x4, .head 0x14, .page 0x178, .recorder, .page 0x49, .head 0x24, .page 0x42, .head 0x20, .page 0x41, .page 0x40, .sram, .sramBad, .sramWeak, .msg, .page 0x48, .nvm, .page 0x51, .switched, .pwr, .terms, .immediate, .latched, .pair, .dma, .pages 0x30 0x34, .cal, .page 0x10, .afe, .arith, .lap, .ports, .loops, .jkt, .page 0x1A, .page 0x38, .page 0x19, .alarm, .pages 0x120 0x131, .call, .tsync, .freeCount, .page 0x58, .rtc, .sec, .response, .responseCrc, .page 0x11, .pages 0x8 0x10, .page 0x18, .rst, .page 0x28, .page 0x34, .live, .shadow, .dirty, .page 0x1] l) :
    Kept l s0 (State.wakeBy s x1) := by
  unfold State.wakeBy
  refine Kept.ite ?_ ?_
  · exact h
  · extract_lets +onlyGivenNames -merge -useContext -underBinder s1
    have h2 : Kept l s0 s1 := by unfold s1; exact (State.irq_kept (State.wr_kept h (LAP.WAKESRC.src_zoned (Part.at hp))) (LAP.IRQRAW.wake_zoned (Part.at hp)))
    clear_value s1
    exact (Kept.ite (State.leaveNap_kept h2 (Part.sub hp)) (h2.pwr (Part.at hp)))

theorem State.toLevel_kept {l s0} {s} {x1} (h : Kept l s0 s) (hp : Part.within [.switched, .pwr, .terms, .immediate, .latched, .pair, .dma, .pages 0x30 0x34, .cal, .page 0x10, .head 0x14, .afe, .arith, .lap, .ports, .loops, .jkt, .page 0x1A, .page 0x38, .page 0x19, .alarm, .pages 0x120 0x131, .call, .msg, .tsync, .freeCount, .page 0x58, .page 0x48, .head 0x24, .head 0x20, .nvm, .page 0x49, .recorder, .page 0x178, .rtc, .sec, .response, .responseCrc, .page 0x11, .pages 0x8 0x10, .page 0x42, .page 0x18, .rst, .page 0x28, .page 0x34, .page 0x40, .page 0x41, .sram, .sramBad, .sramWeak, .page 0x51, .live, .shadow, .dirty, .page 0x1] l) :
    Kept l s0 (State.toLevel s x1) := by
  unfold State.toLevel
  exact (State.followLevel_kept (Kept.when (State.wr_kept (h.pwr (Part.at hp)) (PWR.STAT.level_zoned (Part.at hp))) (fun _ h1 => (State.modAlm_kept h1 (Part.sub hp)))) (Part.sub hp))

theorem State.tellLevelChange_kept {l s0} {s} {x1} (h : Kept l s0 s) (hp : Part.within [.recorder, .page 0x49, .head 0x14, .head 0x24, .page 0x42, .head 0x20, .page 0x41, .page 0x40, .sram, .sramBad, .sramWeak, .msg, .page 0x178] l) :
    Kept l s0 (State.tellLevelChange s x1) := by
  unfold State.tellLevelChange
  exact (State.recEvent_kept h (Part.sub hp))

theorem State.deepen_kept {l s0} {s} {x1} (h : Kept l s0 s) (hp : Part.within [.switched, .pwr, .terms, .immediate, .latched, .pair, .dma, .pages 0x30 0x34, .cal, .page 0x10, .head 0x14, .afe, .arith, .lap, .ports, .loops, .jkt, .page 0x1A, .page 0x38, .page 0x19, .alarm, .pages 0x120 0x131, .call, .msg, .tsync, .freeCount, .page 0x58, .page 0x48, .head 0x24, .head 0x20, .nvm, .page 0x49, .recorder, .page 0x178, .rtc, .sec, .response, .responseCrc, .page 0x11, .pages 0x8 0x10, .page 0x42, .page 0x18, .rst, .page 0x28, .page 0x34, .page 0x40, .page 0x41, .sram, .sramBad, .sramWeak, .page 0x51, .live, .shadow, .dirty, .page 0x1, .page 0x4, .page 0x20, .store] l) :
    Kept l s0 (State.deepen s x1) := by
  unfold State.deepen
  refine Kept.ite ?_ ?_
  · exact h
  · extract_lets +onlyGivenNames -merge -useContext -underBinder s1
    have h2 : Kept l s0 s1 := by unfold s1; exact (State.irq_kept (Kept.each h (fun _ _ h3 => (State.toLevel_kept h3 (Part.sub hp)))) (PWR.IRQRAW.level_down_zoned (Part.at hp)))
    clear_value s1
    extract_lets +onlyGivenNames -merge -useContext -underBinder s4
    have h5 : Kept l s0 s4 := by unfold s4; exact (State.wakeBy_kept (State.tellLevelChange_kept h2 (Part.sub hp)) (Part.sub hp))
    clear_value s4
    exact (Kept.ite (State.startSave_kept h5 (Part.sub hp)) h5)

theorem State.restoreAlm_kept {l s0} {s} (h : Kept l s0 s) (hp : Part.within [.page 0x20, .pages 0x120 0x130, .page 0x130, .alarm] l) :
    Kept l s0 (State.restoreAlm s) := by
  unfold State.restoreAlm
  extract_lets +onlyGivenNames -merge -useContext -underBinder s1
  have h2 : Kept l s0 s1 := by
    unfold s1
    refine Kept.each h (fun _ _ h3 => ?_)
    extract_lets +onlyGivenNames -merge -useContext -underBinder s4
    clear_value s4
    exact (Kept.ite h3 (State.showCtx_kept (State.putRange_kept h3 (p := .pages 0x120 0x130) (Part.at hp) (fun i hi => by simp [Part.covers] <;> omega)) (Part.sub hp)))
  clear_value s1
  extract_lets +onlyGivenNames -merge -useContext -underBinder s6
  have h7 : Kept l s0 s6 := by unfold s6; exact (Kept.each h2 (fun _ _ h8 => (State.putRange_kept h8 (p := .page 0x130) (Part.at hp) (fun i hi => by simp [Part.covers] <;> omega))))
  clear_value s6
  extract_lets +onlyGivenNames -merge -useContext -underBinder s9
  clear_value s9
  extract_lets +onlyGivenNames -merge -useContext -underBinder s11
  have h12 : Kept l s0 s11 := by unfold s11; exact (State.wr_kept (State.wr_kept (State.wr_kept (State.wr_kept h7 (ALM.SUPACT.cond_zoned (Part.at hp))) (ALM.NQSTAT.flood_zoned (Part.at hp))) (ALM.NQSEQ.seq_zoned (Part.at hp))) (ALM.NQDROP.count_zoned (Part.at hp)))
  clear_value s11
  exact (State.modAlm_kept h12 (Part.sub hp))

theorem State.restoreCal_kept {l s0} {s} (h : Kept l s0 s) (hp : Part.within [.terms, .page 0x10, .pages 0x8 0x10] l) :
    Kept l s0 (State.restoreCal s) := by
  unfold State.restoreCal
  extract_lets +onlyGivenNames -merge -useContext -underBinder s1
  clear_value s1
  extract_lets +onlyGivenNames -merge -useContext -underBinder s3
  clear_value s3
  extract_lets +onlyGivenNames -merge -useContext -underBinder s5
  have h6 : Kept l s0 s5 := by unfold s5; exact (h.terms (Part.at hp))
  clear_value s5
  exact (Kept.ite (State.showPersistent_kept (State.putRange_kept (State.putRange_kept (State.putRange_kept h6 (p := .page 0x10) (Part.at hp) (fun i hi => by have hj := Nat.lt_of_lt_of_le hi (Variant.pick_le _ (by decide) (by decide)); simp [Part.covers] <;> omega)) (p := .page 0x10) (Part.at hp) (fun i hi => by have hj := Nat.lt_of_lt_of_le hi (Variant.pick_le _ (by decide) (by decide)); simp [Part.covers] <;> omega)) (p := .page 0x10) (Part.at hp) (fun i hi => by have hj := Nat.lt_of_lt_of_le hi (Variant.pick_le _ (by decide) (by decide)); simp [Part.covers] <;> omega)) (Part.sub hp)) h6)

theorem State.restoreCore_kept {l s0} {s} (h : Kept l s0 s) (hp : Part.within [.head 0x24, .head 0x14, .page 0x42, .head 0x20, .page 0x40, .sramWeak, .pwr, .call, .page 0x28, .page 0x20, .pages 0x120 0x130, .page 0x130, .alarm, .terms, .page 0x10, .pages 0x8 0x10, .page 0x35, .jkt, .page 0x19, .loops, .page 0x18, .page 0x48, .cal, .nvm] l) :
    Kept l s0 (State.restoreCore s) := by
  unfold State.restoreCore
  split
  · rename_i read2 s03 q14
    have h1 : Kept l s0 s03 := Kept.snd q14 (State.boundRead_kept h (Part.sub hp))
    extract_lets +onlyGivenNames -merge -useContext -underBinder s4 s5
    have h7 : Kept l s0 s5 := by unfold s5; exact (h1.pwr (Part.at hp))
    clear_value s5
    clear_value s4
    extract_lets +onlyGivenNames -merge -useContext -underBinder s8 s9 s10
    have h11 : Kept l s0 s8 := by unfold s8; exact (State.modCall_kept (State.takeCallMirror_kept (State.restoreAlm_kept (State.restoreCal_kept h7 (Part.sub hp)) (Part.sub hp)) (Part.sub hp)) (Part.sub hp))
    have h12 : Kept l s0 s9 := by unfold s9; exact (State.putRange_kept (State.putRange_kept (State.putRange_kept h11 (p := .page 0x35) (Part.at hp) (fun i hi => by simp [Part.covers] <;> omega)) (p := .page 0x35) (Part.at hp) (fun i hi => by simp [Part.covers] <;> omega)) (p := .page 0x35) (Part.at hp) (fun i hi => by simp [Part.covers] <;> omega))
    have h13 : Kept l s0 s10 := by unfold s10; exact (Kept.ite (State.outputsFollow_kept h12 (Part.sub hp)) (State.coreReleased_kept (State.fault_kept h7 (PWR.FAULT.holdup_zoned (Part.at hp)) (Part.sub hp)) (Part.sub hp)))
    clear_value s10
    clear_value s9
    clear_value s8
    exact (State.irq_kept h13 (PWR.IRQRAW.restore_done_zoned (Part.at hp)))

theorem State.goRestore_kept {l s0} {s} (h : Kept l s0 s) (hp : Part.within [.head 0x24, .head 0x14, .page 0x42, .head 0x20, .page 0x40, .sramWeak, .pwr, .call, .page 0x28, .page 0x20, .pages 0x120 0x130, .page 0x130, .alarm, .terms, .page 0x10, .pages 0x8 0x10, .page 0x35, .jkt, .page 0x19, .loops, .page 0x18, .page 0x48, .cal, .nvm] l) :
    Kept l s0 (State.goRestore s) := by
  unfold State.goRestore
  exact (Kept.ite (State.restoreCore_kept h (Part.sub hp)) h)

theorem State.leaveLevel_kept {l s0} {s} (h : Kept l s0 s) (hp : Part.within [.recorder, .page 0x49, .head 0x14, .head 0x24, .page 0x42, .head 0x20, .page 0x41, .page 0x40, .sram, .sramBad, .sramWeak, .msg, .page 0x178, .switched, .pwr, .terms, .immediate, .latched, .pair, .dma, .pages 0x30 0x34, .cal, .page 0x10, .afe, .arith, .lap, .ports, .loops, .jkt, .page 0x1A, .page 0x38, .page 0x19, .alarm, .pages 0x120 0x131, .call, .tsync, .freeCount, .page 0x58, .page 0x48, .nvm, .rtc, .sec, .response, .responseCrc, .page 0x11, .pages 0x8 0x10, .page 0x18, .rst, .page 0x28, .page 0x34, .page 0x51, .live, .shadow, .dirty, .page 0x1] l) :
    Kept l s0 (State.leaveLevel s) := by
  unfold State.leaveLevel
  exact (State.tellLevelChange_kept (State.irq_kept (State.toLevel_kept h (Part.sub hp)) (PWR.IRQRAW.level_up_zoned (Part.at hp))) (Part.sub hp))

theorem State.levelStep_kept {l s0} {s} (h : Kept l s0 s) (hp : Part.within [.page 0x4, .head 0x14, .page 0x178, .recorder, .page 0x49, .head 0x24, .page 0x42, .head 0x20, .page 0x41, .page 0x40, .sram, .sramBad, .sramWeak, .msg, .page 0x48, .nvm, .page 0x51, .switched, .pwr, .terms, .immediate, .latched, .pair, .dma, .pages 0x30 0x34, .cal, .page 0x10, .afe, .arith, .lap, .ports, .loops, .jkt, .page 0x1A, .page 0x38, .page 0x19, .alarm, .pages 0x120 0x131, .call, .tsync, .freeCount, .page 0x58, .rtc, .sec, .response, .responseCrc, .page 0x11, .pages 0x8 0x10, .page 0x18, .rst, .page 0x28, .page 0x34, .live, .shadow, .dirty, .page 0x1] l) :
    Kept l s0 (State.levelStep s) := by
  unfold State.levelStep
  exact (Kept.ite (State.wakeBy_kept (State.leaveLevel_kept h (Part.sub hp)) (Part.sub hp)) h)

theorem execSramInitDone_kept {l s0} {x0} {s} (h : Kept l s0 s) (hp : Part.within [.sram, .sramBad, .sramWeak, .rst, .page 0x40, .head 0x14, .page 0x178, .recorder, .page 0x49, .head 0x24, .page 0x42, .head 0x20, .page 0x41, .msg, .page 0x48, .nvm, .page 0x51, .dma, .page 0x20, .alarm, .pages 0x30 0x34, .ports, .pwr, .call, .page 0x28, .pages 0x120 0x130, .page 0x130, .terms, .page 0x10, .pages 0x8 0x10, .page 0x35, .jkt, .page 0x19, .loops, .page 0x18, .cal] l) :
    KeptR l s0 (execSramInitDone x0 s) := by
  unfold execSramInitDone
  refine KeptR.ite ?_ ?_
  · exact (KeptR.next h)
  · extract_lets +onlyGivenNames -merge -useContext -underBinder s1
    clear_value s1
    extract_lets +onlyGivenNames -merge -useContext -underBinder s3
    clear_value s3
    extract_lets +onlyGivenNames -merge -useContext -underBinder s5 s6
    have h8 : Kept l s0 s6 := by unfold s6; exact (h.upd [.sram, .sramBad, .sramWeak, .rst] (Part.sub hp) (fun p hn => by cases p <;> first | rfl | exact True.intro | exact absurd (by decide) hn) rfl (fun c => ⟨⟨c.1.1, c.1.2.1, c.1.2.2.1, c.1.2.2.2⟩, Sparse.wf_of_filter c.2.1, c.2.2⟩))
    clear_value s6
    clear_value s5
    extract_lets +onlyGivenNames -merge -useContext -underBinder s9
    have h10 : Kept l s0 s9 := by unfold s9; exact (State.irq_kept (State.wr_kept (State.put_kept h8 (MEM.INFO.retvalid_zoned (Part.at hp))) (MEM.INFO.init_done_zoned (Part.at hp))) (MEM.IRQRAW.init_done_zoned (Part.at hp)))
    clear_value s9
    extract_lets +onlyGivenNames -merge -useContext -underBinder s11
    have h12 : Kept l s0 s11 := by unfold s11; exact (State.recGo_kept h10 (Part.sub hp))
    clear_value s11
    extract_lets +onlyGivenNames -merge -useContext -underBinder s13
    clear_value s13
    extract_lets +onlyGivenNames -merge -useContext -underBinder s15
    have h16 : Kept l s0 s15 := by unfold s15; exact (Kept.ite (State.anchor_kept h12 (Part.sub hp)) h12)
    clear_value s15
    exact (KeptR.next (State.recGo_kept (State.dmaReplay_kept (State.goRestore_kept h16 (Part.sub hp)) (Part.sub hp)) (Part.sub hp)))

theorem execVmonSample_kept {l s0} {x0} {s} (h : Kept l s0 s) (hp : Part.within [.pwr, .page 0x1, .switched, .terms, .immediate, .latched, .pair, .dma, .pages 0x30 0x34, .cal, .page 0x10, .head 0x14, .afe, .arith, .lap, .ports, .loops, .jkt, .page 0x1A, .page 0x38, .page 0x19, .alarm, .pages 0x120 0x131, .call, .msg, .tsync, .freeCount, .page 0x58, .page 0x48, .head 0x24, .head 0x20, .nvm, .page 0x49, .recorder, .page 0x178, .rtc, .sec, .response, .responseCrc, .page 0x11, .pages 0x8 0x10, .page 0x42, .page 0x18, .rst, .page 0x28, .page 0x34, .page 0x40, .page 0x41, .sram, .sramBad, .sramWeak, .page 0x51, .live, .shadow, .dirty, .page 0x4, .page 0x20, .store] l) :
    KeptR l s0 (execVmonSample x0 s) := by
  unfold execVmonSample
  refine KeptR.ite ?_ ?_
  · exact (KeptR.next h)
  · extract_lets +onlyGivenNames -merge -useContext -underBinder s1
    clear_value s1
    extract_lets +onlyGivenNames -merge -useContext -underBinder s3
    clear_value s3
    extract_lets +onlyGivenNames -merge -useContext -underBinder s5
    clear_value s5
    extract_lets +onlyGivenNames -merge -useContext -underBinder s7
    clear_value s7
    extract_lets +onlyGivenNames -merge -useContext -underBinder s9
    clear_value s9
    extract_lets +onlyGivenNames -merge -useContext -underBinder s11
    clear_value s11
    extract_lets +onlyGivenNames -merge -useContext -underBinder s13 s14
    have h16 : Kept l s0 s14 := by unfold s14; exact (h.pwr (Part.at hp))
    clear_value s14
    clear_value s13
    extract_lets +onlyGivenNames -merge -useContext -underBinder s17
    have h18 : Kept l s0 s17 := by unfold s17; exact (Kept.ite (State.wr_kept h16 (PWR.STAT.vmon_zoned (Part.at hp))) h16)
    clear_value s17
    extract_lets +onlyGivenNames -merge -useContext -underBinder s19
    clear_value s19
    exact (KeptR.next (State.deepen_kept h18 (Part.sub hp)))

theorem execCoreRailWarning_kept {l s0} {x0} {s} (h : Kept l s0 s) (hp : Part.within [.switched, .pwr, .terms, .immediate, .latched, .pair, .dma, .pages 0x30 0x34, .cal, .page 0x10, .head 0x14, .afe, .arith, .lap, .ports, .loops, .jkt, .page 0x1A, .page 0x38, .page 0x19, .alarm, .pages 0x120 0x131, .call, .msg, .tsync, .freeCount, .page 0x58, .page 0x48, .head 0x24, .head 0x20, .nvm, .page 0x49, .recorder, .page 0x178, .rtc, .sec, .response, .responseCrc, .page 0x11, .pages 0x8 0x10, .page 0x42, .page 0x18, .rst, .page 0x28, .page 0x34, .page 0x40, .page 0x41, .sram, .sramBad, .sramWeak, .page 0x51, .live, .shadow, .dirty, .page 0x1, .page 0x4, .page 0x20, .store] l) :
    KeptR l s0 (execCoreRailWarning x0 s) := by
  unfold execCoreRailWarning
  exact (KeptR.ite (KeptR.next h) (KeptR.ite (KeptR.next (State.deepen_kept (State.irq_kept (State.wr_kept h (PWR.STAT.core_warn_zoned (Part.at hp))) (PWR.IRQRAW.core_warn_zoned (Part.at hp))) (Part.sub hp))) (KeptR.next (State.wr_kept h (PWR.STAT.core_warn_zoned (Part.at hp))))))

theorem execStowCommand_kept {l s0} {x0} {s} (h : Kept l s0 s) (hp : Part.within [.page 0x1, .status, .freeCount, .arith, .lap, .dma, .page 0x42, .head 0x14, .head 0x24, .head 0x20, .page 0x41, .page 0x40, .sram, .sramBad, .sramWeak, .alarm, .recorder, .loops, .pair, .page 0x38, .msg, .page 0x18, .cal, .pages 0x120 0x130, .page 0x20, .page 0x130, .page 0x49, .page 0x178, .call, .page 0x28, .page 0x34, .jkt, .page 0x19, .pages 0x30 0x34, .ports, .store, .nvm, .page 0x58, .page 0x48, .page 0x51, .pwr] l) :
    KeptR l s0 (execStowCommand x0 s) := by
  unfold execStowCommand
  exact (State.command_kept h (fun h1 => (State.powerCommand_kept h1 (Part.sub hp))) (Part.sub hp))

theorem execCoreStateSaved_kept {l s0} {s} (h : Kept l s0 s) (hp : Part.within [.head 0x24, .head 0x14, .page 0x42, .head 0x20, .page 0x41, .page 0x40, .sram, .sramBad, .sramWeak, .pwr, .switched, .terms, .immediate, .latched, .pair, .dma, .pages 0x30 0x34, .cal, .page 0x10, .afe, .arith, .lap, .ports, .loops, .jkt, .page 0x1A, .page 0x38, .page 0x19, .alarm, .pages 0x120 0x131, .call, .msg, .tsync, .freeCount, .page 0x58, .page 0x48, .nvm, .page 0x49, .recorder, .page 0x178, .rtc, .sec, .response, .responseCrc, .page 0x11, .pages 0x8 0x10, .page 0x18, .rst, .page 0x28, .page 0x34, .page 0x51, .live, .shadow, .dirty, .page 0x1] l) :
    KeptR l s0 (execCoreStateSaved s) := by
  unfold execCoreStateSaved
  refine KeptR.ite ?_ ?_
  · exact (KeptR.next h)
  · extract_lets +onlyGivenNames -merge -useContext -underBinder s1
    clear_value s1
    split
    · rename_i ok4 s15 q11
      have h3 : Kept l s0 s15 := Kept.snd q11 (Kept.iteSnd (State.boundWrite_kept h (Part.sub hp)) (Kept.beside h))
      extract_lets +onlyGivenNames -merge -useContext -underBinder s6 s7
      have h9 : Kept l s0 s7 := by unfold s7; exact (Kept.when (h3.pwr (Part.at hp)) (fun _ h10 => (State.irq_kept h10 (PWR.IRQRAW.save_done_zoned (Part.at hp)))))
      clear_value s7
      clear_value s6
      exact (KeptR.next (State.refreshDomains_kept (State.wr_kept (State.wr_kept (h9.pwr (Part.at hp)) (PWR.STAT.saving_zoned (Part.at hp))) (PWR.STAT.state_zoned (Part.at hp))) (Part.sub hp)))

theorem execRestoration_kept {l s0} {s} (h : Kept l s0 s) (hp : Part.within [.page 0x1, .pwr, .lap, .recorder, .page 0x49, .head 0x14, .head 0x24, .page 0x42, .head 0x20, .page 0x41, .page 0x40, .sram, .sramBad, .sramWeak, .msg, .page 0x178, .switched, .terms, .immediate, .latched, .pair, .dma, .pages 0x30 0x34, .cal, .page 0x10, .afe, .arith, .ports, .loops, .jkt, .page 0x1A, .page 0x38, .page 0x19, .alarm, .pages 0x120 0x131, .call, .tsync, .freeCount, .page 0x58, .page 0x48, .nvm, .rtc, .sec, .response, .responseCrc, .page 0x11, .pages 0x8 0x10, .page 0x18, .rst, .page 0x28, .page 0x34, .page 0x51, .live, .shadow, .dirty, .page 0x4] l) :
    KeptR l s0 (execRestoration s) := by
  unfold execRestoration
  refine KeptR.ite ?_ ?_
  · exact (KeptR.next h)
  · extract_lets +onlyGivenNames -merge -useContext -underBinder s1
    have h2 : Kept l s0 s1 := by unfold s1; exact (State.wr_kept h (PWR.STAT.state_zoned (Part.at hp)))
    clear_value s1
    extract_lets +onlyGivenNames -merge -useContext -underBinder s3 s4 s5
    have h8 : Kept l s0 s5 := by unfold s5; exact (h2.upd [.pwr, .lap] (Part.sub hp) (fun p hn => by cases p <;> first | rfl | exact True.intro | exact absurd (by decide) hn) rfl id)
    clear_value s5
    clear_value s4
    clear_value s3
    exact (KeptR.next (Kept.ite (State.leaveLevel_kept (State.irq_kept (State.wr_kept h8 (LAP.WAKESRC.src_zoned (Part.at hp))) (LAP.IRQRAW.wake_zoned (Part.at hp))) (Part.sub hp)) (State.refreshDomains_kept h8 (Part.sub hp))))

theorem execVddaLow_kept {l s0} {s} (h : Kept l s0 s) (hp : Part.within [.switched, .pwr, .terms, .immediate, .latched, .pair, .dma, .pages 0x30 0x34, .cal, .page 0x10, .head 0x14, .afe, .arith, .lap, .ports, .loops, .jkt, .page 0x1A, .page 0x38, .page 0x19, .alarm, .pages 0x120 0x131, .call, .msg, .tsync, .freeCount, .page 0x58, .page 0x48, .head 0x24, .head 0x20, .nvm, .page 0x49, .recorder, .page 0x178, .rtc, .sec, .response, .responseCrc, .page 0x11, .pages 0x8 0x10, .page 0x42, .page 0x18, .rst, .page 0x28, .page 0x34, .page 0x40, .page 0x41, .sram, .sramBad, .sramWeak, .page 0x51, .live, .shadow, .dirty, .page 0x1] l) :
    KeptR l s0 (execVddaLow s) := by
  unfold execVddaLow
  exact (KeptR.ite (KeptR.next h) (KeptR.next (State.refreshDomains_kept (State.fault_kept (State.irq_kept (State.wr_kept h (PWR.STAT.vdda_low_zoned (Part.at hp))) (PWR.IRQRAW.vdda_low_zoned (Part.at hp))) (PWR.FAULT.vdda_zoned (Part.at hp)) (Part.sub hp)) (Part.sub hp))))

theorem execVddaRecover_kept {l s0} {s} (h : Kept l s0 s) (hp : Part.within [.switched, .pwr, .terms, .immediate, .latched, .pair, .dma, .pages 0x30 0x34, .cal, .page 0x10, .head 0x14, .afe, .arith, .lap, .ports, .loops, .jkt, .page 0x1A, .page 0x38, .page 0x19, .alarm, .pages 0x120 0x131, .call, .msg, .tsync, .freeCount, .page 0x58, .page 0x48, .head 0x24, .head 0x20, .nvm, .page 0x49, .recorder, .page 0x178, .rtc, .sec, .response, .responseCrc, .page 0x11, .pages 0x8 0x10, .page 0x42, .page 0x18, .rst, .page 0x28, .page 0x34, .page 0x40, .page 0x41, .sram, .sramBad, .sramWeak, .page 0x51, .live, .shadow, .dirty, .page 0x1] l) :
    KeptR l s0 (execVddaRecover s) := by
  unfold execVddaRecover
  exact (KeptR.ite (KeptR.next h) (KeptR.next (State.refreshDomains_kept (State.wr_kept h (PWR.STAT.vdda_low_zoned (Part.at hp))) (Part.sub hp))))

theorem execDomainPowerGoodTimeout_kept {l s0} {x0} {s} (h : Kept l s0 s) (hp : Part.within [.pwr, .head 0x24, .head 0x14, .switched, .terms, .immediate, .latched, .pair, .dma, .pages 0x30 0x34, .cal, .page 0x10, .afe, .arith, .lap, .ports, .loops, .jkt, .page 0x1A, .page 0x38, .page 0x19, .alarm, .pages 0x120 0x131, .call, .msg, .tsync, .freeCount, .page 0x58, .page 0x48, .head 0x20, .nvm, .page 0x49, .recorder, .page 0x178, .rtc, .sec, .response, .responseCrc, .page 0x11, .pages 0x8 0x10, .page 0x42, .page 0x18, .rst, .page 0x28, .page 0x34, .page 0x40, .page 0x41, .sram, .sramBad, .sramWeak, .page 0x51, .live, .shadow, .dirty] l) :
    KeptR l s0 (execDomainPowerGoodTimeout x0 s) := by
  unfold execDomainPowerGoodTimeout
  split
  · exact (KeptR.next h)
  · refine KeptR.ite ?_ ?_
    · exact (KeptR.next h)
    · extract_lets +onlyGivenNames -merge -useContext -underBinder s1 s2
      have h4 : Kept l s0 s2 := by unfold s2; exact (h.pwr (Part.at hp))
      clear_value s2
      clear_value s1
      exact (KeptR.next (State.fault_kept (State.refreshDomains_kept h4 (Part.sub hp)) (PWR.FAULT.domain_zoned (Part.at hp)) (Part.sub hp)))

theorem execGovernorCheck_kept {l s0} {x0} {s} (h : Kept l s0 s) (hp : Part.within [.page 0x1, .pwr, .head 0x14] l) :
    KeptR l s0 (execGovernorCheck x0 s) := by
  unfold execGovernorCheck
  refine KeptR.ite ?_ ?_
  · exact (KeptR.next h)
  · extract_lets +onlyGivenNames -merge -useContext -underBinder s1
    have h2 : Kept l s0 s1 := by unfold s1; exact (State.wr_kept h (PWR.POWER.mw_zoned (Part.at hp)))
    clear_value s1
    extract_lets +onlyGivenNames -merge -useContext -underBinder s3
    clear_value s3
    refine KeptR.ite ?_ ?_
    · exact (KeptR.next h2)
    · refine KeptR.ite ?_ ?_
      · extract_lets +onlyGivenNames -merge -useContext -underBinder s5
        clear_value s5
        extract_lets +onlyGivenNames -merge -useContext -underBinder s7 s8
        have h10 : Kept l s0 s8 := by unfold s8; exact (State.wr_kept (h2.pwr (Part.at hp)) (PWR.STAT.cap_zoned (Part.at hp)))
        clear_value s8
        clear_value s7
        exact (KeptR.next (Kept.ite (State.irq_kept (State.wr_kept h10 (PWR.STAT.gov_over_zoned (Part.at hp))) (PWR.IRQRAW.gov_over_zoned (Part.at hp))) h10))
      · extract_lets +onlyGivenNames -merge -useContext -underBinder s11
        clear_value s11
        extract_lets +onlyGivenNames -merge -useContext -underBinder s13
        clear_value s13
        extract_lets +onlyGivenNames -merge -useContext -underBinder s15 s16
        have h18 : Kept l s0 s16 := by unfold s16; exact (h2.pwr (Part.at hp))
        clear_value s16
        clear_value s15
        exact (KeptR.next (State.wr_kept (State.put_kept h18 (PWR.STAT.cap_zoned (Part.at hp))) (PWR.STAT.gov_over_zoned (Part.at hp))))

end Sys2Proof.Machine
end

