-- ==== Sys2Proof/Laws/Sleep.lean ====
section
/-!
SUPPORT. What each operation of Machine/Sleep.lean can change: one lemma per operation, named after it. An operation started in a
state that has kept all parts of an earlier one but some keeps all but those and the parts that its lemma lists, and the
canonical form of the sparse maps with them.
-/

set_option Elab.async false

namespace Sys2Proof.Machine

theorem State.countMs_kept {l s0} {s} (h : Kept l s0 s) (hp : Part.within [.page 0x1, .head 0x14] l) :
    Kept l s0 (State.countMs s) := by
  unfold State.countMs
  exact (State.stick_kept h (PWR.OPTIME.ms_zoned (Part.at hp)) (PWR.STAT.opt_ovf_zoned (Part.at hp)) (ZonedOpt.some (PWR.IRQRAW.cnt_event_zoned (Part.at hp))))

theorem State.leaveDoze_kept {l s0} {s} (h : Kept l s0 s) (hp : Part.within [.page 0x1] l) :
    Kept l s0 (State.leaveDoze s) := by
  unfold State.leaveDoze
  exact (Kept.ite (State.wr_kept h (PWR.STAT.state_zoned (Part.at hp))) h)

theorem State.rtcWake_kept {l s0} {s} (h : Kept l s0 s) (hp : Part.within [.rtc, .page 0x4, .head 0x14, .page 0x178, .recorder, .page 0x49, .head 0x24, .page 0x42, .head 0x20, .page 0x41, .page 0x40, .sram, .sramBad, .sramWeak, .msg, .page 0x48, .nvm, .page 0x51, .switched, .pwr, .terms, .immediate, .latched, .pair, .dma, .pages 0x30 0x34, .cal, .page 0x10, .afe, .arith, .lap, .ports, .loops, .jkt, .page 0x1A, .page 0x38, .page 0x19, .alarm, .pages 0x120 0x131, .call, .tsync, .freeCount, .page 0x58, .sec, .response, .responseCrc, .page 0x11, .pages 0x8 0x10, .page 0x18, .rst, .page 0x28, .page 0x34, .live, .shadow, .dirty, .page 0x1] l) :
    Kept l s0 (State.rtcWake s) := by
  unfold State.rtcWake
  extract_lets +onlyGivenNames -merge -useContext -underBinder s1 s2
  have h4 : Kept l s0 s2 := by unfold s2; exact (h.rtc (Part.at hp))
  clear_value s2
  clear_value s1
  exact (Kept.ite (State.wakeBy_kept h4 (Part.sub hp)) h4)

theorem State.tap_kept {l s0} {s} {x1} {x2} {x3} (h : Kept l s0 s) (hp : Part.within [.jtag] l) :
    Kept l s0 (State.tap s x1 x2 x3) := by
  unfold State.tap
  exact (Kept.ite h (Kept.ite (h.jtag (Part.at hp)) (h.jtag (Part.at hp))))

theorem execBusWake_kept {l s0} {x0} {s} (h : Kept l s0 s) (hp : Part.within [.page 0x4, .head 0x14, .page 0x178, .recorder, .page 0x49, .head 0x24, .page 0x42, .head 0x20, .page 0x41, .page 0x40, .sram, .sramBad, .sramWeak, .msg, .page 0x48, .nvm, .page 0x51, .switched, .pwr, .terms, .immediate, .latched, .pair, .dma, .pages 0x30 0x34, .cal, .page 0x10, .afe, .arith, .lap, .ports, .loops, .jkt, .page 0x1A, .page 0x38, .page 0x19, .alarm, .pages 0x120 0x131, .call, .tsync, .freeCount, .page 0x58, .rtc, .sec, .response, .responseCrc, .page 0x11, .pages 0x8 0x10, .page 0x18, .rst, .page 0x28, .page 0x34, .live, .shadow, .dirty, .page 0x1] l) :
    KeptR l s0 (execBusWake x0 s) := by
  unfold execBusWake
  exact (KeptR.ite (KeptR.next (State.wakeBy_kept h (Part.sub hp))) (KeptR.next h))

theorem execRtcSecondCarry_kept {l s0} {s} (h : Kept l s0 s) (hp : Part.within [.rtc, .page 0x4, .head 0x14, .page 0x178, .recorder, .page 0x49, .head 0x24, .page 0x42, .head 0x20, .page 0x41, .page 0x40, .sram, .sramBad, .sramWeak, .msg, .page 0x48, .nvm, .page 0x51, .switched, .pwr, .terms, .immediate, .latched, .pair, .dma, .pages 0x30 0x34, .cal, .page 0x10, .afe, .arith, .lap, .ports, .loops, .jkt, .page 0x1A, .page 0x38, .page 0x19, .alarm, .pages 0x120 0x131, .call, .tsync, .freeCount, .page 0x58, .sec, .response, .responseCrc, .page 0x11, .pages 0x8 0x10, .page 0x18, .rst, .page 0x28, .page 0x34, .live, .shadow, .dirty, .page 0x1, .page 0x50] l) :
    KeptR l s0 (execRtcSecondCarry s) := by
  unfold execRtcSecondCarry
  exact (KeptR.ite (KeptR.next h) (KeptR.ite (KeptR.next (Kept.ite (State.rtcWake_kept (State.pacerTick_kept h (Part.sub hp)) (Part.sub hp)) (State.rtcWake_kept (State.secondCarry_kept (State.pacerTick_kept h (Part.sub hp)) (Part.sub hp)) (Part.sub hp)))) (KeptR.next (State.rtcWake_kept (State.secondCarry_kept h (Part.sub hp)) (Part.sub hp)))))

theorem execRtcSet_kept {l s0} {x0} {s} (h : Kept l s0 s) (hp : Part.within [.page 0x1, .status, .rtc, .page 0x4, .head 0x14, .page 0x178, .recorder, .page 0x49, .head 0x24, .page 0x42, .head 0x20, .page 0x41, .page 0x40, .sram, .sramBad, .sramWeak, .msg, .page 0x48, .nvm, .page 0x51, .switched, .pwr, .terms, .immediate, .latched, .pair, .dma, .pages 0x30 0x34, .cal, .page 0x10, .afe, .arith, .lap, .ports, .loops, .jkt, .page 0x1A, .page 0x38, .page 0x19, .alarm, .pages 0x120 0x131, .call, .tsync, .freeCount, .page 0x58, .sec, .response, .responseCrc, .page 0x11, .pages 0x8 0x10, .page 0x18, .rst, .page 0x28, .page 0x34, .live, .shadow, .dirty, .page 0x50] l) :
    KeptR l s0 (execRtcSet x0 s) := by
  unfold execRtcSet
  exact (State.command_kept h (fun h1 => (State.rtcWake_kept (State.pacerTick_kept (State.rtcCommand_kept h1 (Part.sub hp)) (Part.sub hp)) (Part.sub hp))) (Part.sub hp))

theorem execRtcAdd1h_kept {l s0} {x0} {s} (h : Kept l s0 s) (hp : Part.within [.page 0x1, .status, .rtc, .page 0x4, .head 0x14, .page 0x178, .recorder, .page 0x49, .head 0x24, .page 0x42, .head 0x20, .page 0x41, .page 0x40, .sram, .sramBad, .sramWeak, .msg, .page 0x48, .nvm, .page 0x51, .switched, .pwr, .terms, .immediate, .latched, .pair, .dma, .pages 0x30 0x34, .cal, .page 0x10, .afe, .arith, .lap, .ports, .loops, .jkt, .page 0x1A, .page 0x38, .page 0x19, .alarm, .pages 0x120 0x131, .call, .tsync, .freeCount, .page 0x58, .sec, .response, .responseCrc, .page 0x11, .pages 0x8 0x10, .page 0x18, .rst, .page 0x28, .page 0x34, .live, .shadow, .dirty, .page 0x50] l) :
    KeptR l s0 (execRtcAdd1h x0 s) := by
  unfold execRtcAdd1h
  exact (State.command_kept h (fun h1 => (State.rtcWake_kept (State.pacerTick_kept (State.rtcCommand_kept h1 (Part.sub hp)) (Part.sub hp)) (Part.sub hp))) (Part.sub hp))

theorem execRtcSub1h_kept {l s0} {x0} {s} (h : Kept l s0 s) (hp : Part.within [.page 0x1, .status, .rtc, .page 0x4, .head 0x14, .page 0x178, .recorder, .page 0x49, .head 0x24, .page 0x42, .head 0x20, .page 0x41, .page 0x40, .sram, .sramBad, .sramWeak, .msg, .page 0x48, .nvm, .page 0x51, .switched, .pwr, .terms, .immediate, .latched, .pair, .dma, .pages 0x30 0x34, .cal, .page 0x10, .afe, .arith, .lap, .ports, .loops, .jkt, .page 0x1A, .page 0x38, .page 0x19, .alarm, .pages 0x120 0x131, .call, .tsync, .freeCount, .page 0x58, .sec, .response, .responseCrc, .page 0x11, .pages 0x8 0x10, .page 0x18, .rst, .page 0x28, .page 0x34, .live, .shadow, .dirty, .page 0x50] l) :
    KeptR l s0 (execRtcSub1h x0 s) := by
  unfold execRtcSub1h
  exact (State.command_kept h (fun h1 => (State.rtcWake_kept (State.pacerTick_kept (State.rtcCommand_kept h1 (Part.sub hp)) (Part.sub hp)) (Part.sub hp))) (Part.sub hp))

theorem execRtcShift_kept {l s0} {x0} {x1} {x2} {s} (h : Kept l s0 s) (hp : Part.within [.page 0x1, .status, .rtc, .page 0x4, .head 0x14, .page 0x178, .recorder, .page 0x49, .head 0x24, .page 0x42, .head 0x20, .page 0x41, .page 0x40, .sram, .sramBad, .sramWeak, .msg, .page 0x48, .nvm, .page 0x51, .switched, .pwr, .terms, .immediate, .latched, .pair, .dma, .pages 0x30 0x34, .cal, .page 0x10, .afe, .arith, .lap, .ports, .loops, .jkt, .page 0x1A, .page 0x38, .page 0x19, .alarm, .pages 0x120 0x131, .call, .tsync, .freeCount, .page 0x58, .sec, .response, .responseCrc, .page 0x11, .pages 0x8 0x10, .page 0x18, .rst, .page 0x28, .page 0x34, .live, .shadow, .dirty, .page 0x50] l) :
    KeptR l s0 (execRtcShift x0 x1 x2 s) := by
  unfold execRtcShift
  exact (State.command_kept h (fun h1 => (State.rtcWake_kept (State.pacerTick_kept (State.rtcCommand_kept h1 (Part.sub hp)) (Part.sub hp)) (Part.sub hp))) (Part.sub hp))

theorem execRtcReleaseFreeze_kept {l s0} {x0} {s} (h : Kept l s0 s) (hp : Part.within [.page 0x1, .status, .rtc, .page 0x4, .head 0x14, .page 0x178, .recorder, .page 0x49, .head 0x24, .page 0x42, .head 0x20, .page 0x41, .page 0x40, .sram, .sramBad, .sramWeak, .msg, .page 0x48, .nvm, .page 0x51, .switched, .pwr, .terms, .immediate, .latched, .pair, .dma, .pages 0x30 0x34, .cal, .page 0x10, .afe, .arith, .lap, .ports, .loops, .jkt, .page 0x1A, .page 0x38, .page 0x19, .alarm, .pages 0x120 0x131, .call, .tsync, .freeCount, .page 0x58, .sec, .response, .responseCrc, .page 0x11, .pages 0x8 0x10, .page 0x18, .rst, .page 0x28, .page 0x34, .live, .shadow, .dirty, .page 0x50] l) :
    KeptR l s0 (execRtcReleaseFreeze x0 s) := by
  unfold execRtcReleaseFreeze
  exact (State.command_kept h (fun h1 => (State.rtcWake_kept (State.pacerTick_kept (State.rtcCommand_kept h1 (Part.sub hp)) (Part.sub hp)) (Part.sub hp))) (Part.sub hp))

theorem execPacerCalibration_kept {l s0} {x0} {s} (h : Kept l s0 s) (hp : Part.within [.page 0x2] l) :
    KeptR l s0 (execPacerCalibration x0 s) := by
  unfold execPacerCalibration
  exact (KeptR.ite (KeptR.next (State.wrInt_kept h (CLK.PACERCAL.ppb_zoned (Part.at hp)))) (KeptR.next h))

theorem execDozeEntry_kept {l s0} {s} (h : Kept l s0 s) (hp : Part.within [.page 0x1] l) :
    KeptR l s0 (execDozeEntry s) := by
  unfold execDozeEntry
  exact (KeptR.ite (KeptR.next (State.wr_kept h (PWR.STAT.state_zoned (Part.at hp)))) (KeptR.next h))

theorem execNapEntry_kept {l s0} {s} (h : Kept l s0 s) (hp : Part.within [.jkt, .switched, .pwr, .terms, .immediate, .latched, .pair, .dma, .pages 0x30 0x34, .cal, .page 0x10, .head 0x14, .afe, .arith, .lap, .ports, .loops, .page 0x1A, .page 0x38, .page 0x19, .alarm, .pages 0x120 0x131, .call, .msg, .tsync, .freeCount, .page 0x58, .page 0x48, .head 0x24, .head 0x20, .nvm, .page 0x49, .recorder, .page 0x178, .rtc, .sec, .response, .responseCrc, .page 0x11, .pages 0x8 0x10, .page 0x42, .page 0x18, .rst, .page 0x28, .page 0x34, .page 0x40, .page 0x41, .sram, .sramBad, .sramWeak, .page 0x51, .live, .shadow, .dirty, .page 0x1] l) :
    KeptR l s0 (execNapEntry s) := by
  unfold execNapEntry
  refine KeptR.ite ?_ ?_
  · extract_lets +onlyGivenNames -merge -useContext -underBinder s1
    clear_value s1
    extract_lets +onlyGivenNames -merge -useContext -underBinder s3 s4
    have h6 : Kept l s0 s4 := by unfold s4; exact (h.jkt (Part.at hp))
    clear_value s4
    clear_value s3
    exact (KeptR.next (State.refreshDomains_kept (State.wr_kept (h6.pwr (Part.at hp)) (PWR.STAT.state_zoned (Part.at hp))) (Part.sub hp)))
  · exact (KeptR.next h)

theorem execLapWake_kept {l s0} {x0} {s} (h : Kept l s0 s) (hp : Part.within [.head 0x24, .head 0x14, .page 0x4, .page 0x178, .recorder, .page 0x49, .page 0x42, .head 0x20, .page 0x41, .page 0x40, .sram, .sramBad, .sramWeak, .msg, .page 0x48, .nvm, .page 0x51, .switched, .pwr, .terms, .immediate, .latched, .pair, .dma, .pages 0x30 0x34, .cal, .page 0x10, .afe, .arith, .lap, .ports, .loops, .jkt, .page 0x1A, .page 0x38, .page 0x19, .alarm, .pages 0x120 0x131, .call, .tsync, .freeCount, .page 0x58, .rtc, .sec, .response, .responseCrc, .page 0x11, .pages 0x8 0x10, .page 0x18, .rst, .page 0x28, .page 0x34, .live, .shadow, .dirty, .page 0x1] l) :
    KeptR l s0 (execLapWake x0 s) := by
  unfold execLapWake
  exact (KeptR.ite (KeptR.next h) (KeptR.ite (KeptR.next (State.fault_kept (State.wr_kept (State.wakeBy_kept h (Part.sub hp)) (LAP.WAKESRC.src_zoned (Part.at hp))) (LAP.FAULT.lead_zoned (Part.at hp)) (Part.sub hp))) (KeptR.next (State.wakeBy_kept h (Part.sub hp)))))

theorem execWakeEvent_kept {l s0} {x0} {s} (h : Kept l s0 s) (hp : Part.within [.page 0x4, .head 0x14, .page 0x178, .recorder, .page 0x49, .head 0x24, .page 0x42, .head 0x20, .page 0x41, .page 0x40, .sram, .sramBad, .sramWeak, .msg, .page 0x48, .nvm, .page 0x51, .switched, .pwr, .terms, .immediate, .latched, .pair, .dma, .pages 0x30 0x34, .cal, .page 0x10, .afe, .arith, .lap, .ports, .loops, .jkt, .page 0x1A, .page 0x38, .page 0x19, .alarm, .pages 0x120 0x131, .call, .tsync, .freeCount, .page 0x58, .rtc, .sec, .response, .responseCrc, .page 0x11, .pages 0x8 0x10, .page 0x18, .rst, .page 0x28, .page 0x34, .live, .shadow, .dirty, .page 0x1] l) :
    KeptR l s0 (execWakeEvent x0 s) := by
  unfold execWakeEvent
  exact (KeptR.ite (KeptR.next (State.wakeBy_kept (h.jkt (Part.at hp)) (Part.sub hp))) (KeptR.next h))

theorem execJtagBypass_kept {l s0} {s} (h : Kept l s0 s) (hp : Part.within [.jtag] l) :
    KeptR l s0 (execJtagBypass s) := by
  unfold execJtagBypass
  exact (KeptR.next (State.tap_kept h (Part.sub hp)))

theorem execJtagIdcode_kept {l s0} {s} (h : Kept l s0 s) (hp : Part.within [.jtag] l) :
    KeptR l s0 (execJtagIdcode s) := by
  unfold execJtagIdcode
  exact (KeptR.next (State.tap_kept h (Part.sub hp)))

theorem execJtagSamplePreload_kept {l s0} {x0} {x1} {s} (h : Kept l s0 s) (hp : Part.within [.jtag] l) :
    KeptR l s0 (execJtagSamplePreload x0 x1 s) := by
  unfold execJtagSamplePreload
  exact (KeptR.next (State.tap_kept h (Part.sub hp)))

theorem execJtagExtest_kept {l s0} {s} (h : Kept l s0 s) (hp : Part.within [.jtag] l) :
    KeptR l s0 (execJtagExtest s) := by
  unfold execJtagExtest
  exact (KeptR.next (State.tap_kept h (Part.sub hp)))

theorem execJtagTapReset_kept {l s0} {s} (h : Kept l s0 s) (hp : Part.within [.jtag] l) :
    KeptR l s0 (execJtagTapReset s) := by
  unfold execJtagTapReset
  exact (KeptR.ite (KeptR.next (h.jtag (Part.at hp))) (KeptR.next h))

theorem execOperatingTimeStuck_kept {l s0} {s} (h : Kept l s0 s) (hp : Part.within [.page 0x1, .head 0x14] l) :
    KeptR l s0 (execOperatingTimeStuck s) := by
  unfold execOperatingTimeStuck
  exact (KeptR.ite (KeptR.next (State.countMs_kept h (Part.sub hp))) (KeptR.next h))

end Sys2Proof.Machine
end

