-- ==== Sys2Proof/Laws/Commit.lean ====
section
/-!
SUPPORT. What each operation of Machine/Commit.lean can change: one lemma per operation, named after it. An operation started in a
state that has kept all parts of an earlier one but some keeps all but those and the parts that its lemma lists, and the
canonical form of the sparse maps with them.
-/

set_option Elab.async false

namespace Sys2Proof.Machine

theorem State.afeCommitted_kept {l s0} {s} {x1} {x2} (h : Kept l s0 s) (hp : Part.within [.afe, .pages 0x8 0x10, .cal, .page 0x10, .head 0x14] l) :
    Kept l s0 (State.afeCommitted s x1 x2) := by
  unfold State.afeCommitted
  extract_lets +onlyGivenNames -merge -useContext -underBinder s1
  clear_value s1
  extract_lets +onlyGivenNames -merge -useContext -underBinder s3
  clear_value s3
  extract_lets +onlyGivenNames -merge -useContext -underBinder s5
  clear_value s5
  extract_lets +onlyGivenNames -merge -useContext -underBinder s7
  clear_value s7
  extract_lets +onlyGivenNames -merge -useContext -underBinder s9
  have h10 : Kept l s0 s9 := by unfold s9; exact (State.modBank_kept h (Part.sub hp))
  clear_value s9
  extract_lets +onlyGivenNames -merge -useContext -underBinder s11
  have h12 : Kept l s0 s11 := by unfold s11; exact (State.wr_kept h10 (AFE.SCHEDEND.us_zoned (Part.at hp)))
  clear_value s11
  exact (Kept.ite (State.deferStride_kept h12 (Part.sub hp)) h12)

theorem State.lapCommitted_kept {l s0} {s} {x1} (h : Kept l s0 s) (hp : Part.within [.lap, .afe] l) :
    Kept l s0 (State.lapCommitted s x1) := by
  unfold State.lapCommitted
  refine Kept.ite ?_ ?_
  · exact h
  · extract_lets +onlyGivenNames -merge -useContext -underBinder s1 s2
    have h4 : Kept l s0 s2 := by unfold s2; exact (Kept.ite h (h.lap (Part.at hp)))
    clear_value s2
    clear_value s1
    exact (Kept.each h4 (fun _ _ h5 => (State.modBank_kept h5 (Part.sub hp))))

theorem State.recCommitted_kept {l s0} {s} {x1} (h : Kept l s0 s) (hp : Part.within [.head 0x24, .head 0x14, .page 0x42, .head 0x20, .page 0x40, .sramWeak, .recorder, .page 0x49, .page 0x41, .sram, .sramBad, .msg, .page 0x178] l) :
    Kept l s0 (State.recCommitted s x1) := by
  unfold State.recCommitted
  exact (Kept.ite h (Kept.each h (fun _ _ h1 => (State.recClear_kept h1 (Part.sub hp)))))

theorem State.configured_kept {l s0} {s} {x1} {x2} (h : Kept l s0 s) (hp : Part.within [.afe, .pages 0x8 0x10, .cal, .page 0x10, .head 0x14, .pages 0x30 0x34, .ports, .page 0x38, .msg, .page 0x34, .switched, .pwr, .terms, .immediate, .latched, .pair, .dma, .arith, .lap, .loops, .jkt, .page 0x1A, .page 0x19, .alarm, .pages 0x120 0x131, .call, .tsync, .freeCount, .page 0x58, .page 0x48, .head 0x24, .head 0x20, .nvm, .page 0x49, .recorder, .page 0x178, .rtc, .sec, .response, .responseCrc, .page 0x11, .page 0x42, .page 0x18, .rst, .page 0x28, .page 0x40, .page 0x41, .sram, .sramBad, .sramWeak, .page 0x51, .live, .shadow, .dirty, .page 0x20, .page 0x35] l) :
    Kept l s0 (State.configured s x1 x2) := by
  unfold State.configured
  refine Kept.ite ?_ ?_
  · exact h
  · refine Kept.ite ?_ ?_
    · exact (State.afeCommitted_kept h (Part.sub hp))
    · refine Kept.ite ?_ ?_
      · exact (State.refreshPort_kept (State.ownersCommitted_kept (State.busCommitted_kept h (Part.sub hp)) (Part.sub hp)) (Part.sub hp))
      · split
        · exact (State.refreshDomains_kept h (Part.sub hp))
        · exact (State.lapCommitted_kept h (Part.sub hp))
        · exact (State.driveLoops_kept (State.loopsFromHost_kept (State.copyChanged_kept h (Part.sub hp)) (Part.sub hp)) (Part.sub hp))
        · exact (State.applyOutputs_kept (State.copyChanged_kept h (Part.sub hp)) (Part.sub hp))
        · exact (State.almCommitted_kept h (Part.sub hp))
        · exact (State.callCommitted_kept h (Part.sub hp))
        · exact (State.pump_kept (State.showNoKey_kept h (Part.sub hp)) (Part.sub hp))
        · exact (State.timeRole_kept h (Part.sub hp))
        · exact (State.timeRole_kept (State.pairCommitted_kept h (Part.sub hp)) (Part.sub hp))
        · exact (State.recCommitted_kept h (Part.sub hp))
        · exact h

theorem State.commitTo_kept {l s0} {s} {x1} {x2} (h : Kept l s0 s) (hp : Part.within [.head 0x2C, .immediate, .pair] l) :
    Kept l s0 (State.commitTo s x1 x2) := by
  unfold State.commitTo
  extract_lets +onlyGivenNames -merge -useContext -underBinder s1
  have h2 : Kept l s0 s1 := by unfold s1; exact (State.wr_kept h (HDR.COMMIT.state_zoned (Part.at hp)))
  clear_value s1
  exact (h2.upd [.immediate, .pair] (Part.sub hp) (fun p hn => by cases p <;> first | rfl | exact True.intro | exact absurd (by decide) hn) rfl id)

theorem State.applyCommit_kept {l s0} {s} {x1} (h : Kept l s0 s) (hp : Part.within [.afe, .pages 0x8 0x10, .cal, .page 0x10, .head 0x14, .pages 0x30 0x34, .ports, .page 0x38, .msg, .page 0x34, .switched, .pwr, .terms, .immediate, .latched, .pair, .dma, .arith, .lap, .loops, .jkt, .page 0x1A, .page 0x19, .alarm, .pages 0x120 0x131, .call, .tsync, .freeCount, .page 0x58, .page 0x48, .head 0x24, .head 0x20, .nvm, .page 0x49, .recorder, .page 0x178, .rtc, .sec, .response, .responseCrc, .page 0x11, .page 0x42, .page 0x18, .rst, .page 0x28, .page 0x40, .page 0x41, .sram, .sramBad, .sramWeak, .page 0x51, .live, .shadow, .dirty, .page 0x20, .page 0x35, .head 0x2C, .mirror] l) :
    Kept l s0 (State.applyCommit s x1) := by
  unfold State.applyCommit
  extract_lets +onlyGivenNames -merge -useContext -underBinder s1
  have h2 : Kept l s0 s1 := by unfold s1; exact (State.configured_kept (State.irq_kept (State.commitTo_kept (State.applyPage_kept h (Part.sub hp)) (Part.sub hp)) (HDR.IRQRAW.commit_done_zoned (Part.at hp))) (Part.sub hp))
  clear_value s1
  exact (State.showDigest_kept (State.recEvent_kept h2 (Part.sub hp)) (Part.sub hp))

theorem State.takeImage_kept {l s0} {s} {x1 x2} (h : Kept l s0 s) (hp : Part.within [.live, .shadow, .mirror, .dirty, .page 0x0, .afe, .pages 0x8 0x10, .cal, .page 0x10, .head 0x14, .pages 0x30 0x34, .ports, .page 0x38, .msg, .page 0x34, .switched, .pwr, .terms, .immediate, .latched, .pair, .dma, .arith, .lap, .loops, .jkt, .page 0x1A, .page 0x19, .alarm, .pages 0x120 0x131, .call, .tsync, .freeCount, .page 0x58, .page 0x48, .head 0x24, .head 0x20, .nvm, .page 0x49, .recorder, .page 0x178, .rtc, .sec, .response, .responseCrc, .page 0x11, .page 0x42, .page 0x18, .rst, .page 0x28, .page 0x40, .page 0x41, .sram, .sramBad, .sramWeak, .page 0x51, .page 0x20, .page 0x35] l) : Kept l s0 (State.takeImage s x1 x2) := by
  unfold State.takeImage
  have w : Sparse.wf resetWord (s.imageMap x2) = true := State.wf_imageMap
  exact State.showDigest_kept (State.wr_kept (State.wr_kept (Kept.each
    ((((h.live (Part.at hp) (fun _ => w)).shadow (Part.at hp) (fun _ => w)).mirror (Part.at hp) (fun _ => w)).dirty (Part.at hp))
    (fun _ _ k => State.configured_kept k (Part.sub hp))) (Zoned.of (p := .page 0x0) (Part.at hp) (by decide) (by decide)))
    (Zoned.of (p := .page 0x0) (Part.at hp) (by decide) (by decide))) (Part.sub hp)

theorem State.bootFrom_kept {l s0} {s} {x1} {x2} (h : Kept l s0 s) (hp : Part.within [.live, .shadow, .mirror, .dirty, .page 0x0, .afe, .pages 0x8 0x10, .cal, .page 0x10, .head 0x14, .pages 0x30 0x34, .ports, .page 0x38, .msg, .page 0x34, .switched, .pwr, .terms, .immediate, .latched, .pair, .dma, .arith, .lap, .loops, .jkt, .page 0x1A, .page 0x19, .alarm, .pages 0x120 0x131, .call, .tsync, .freeCount, .page 0x58, .page 0x48, .head 0x24, .head 0x20, .nvm, .page 0x49, .recorder, .page 0x178, .rtc, .sec, .response, .responseCrc, .page 0x11, .page 0x42, .page 0x18, .rst, .page 0x28, .page 0x40, .page 0x41, .sram, .sramBad, .sramWeak, .page 0x51, .page 0x20, .page 0x35, .head 0xC] l) :
    Kept l s0 (State.bootFrom s x1 x2) := by
  unfold State.bootFrom
  exact (Kept.each (State.wr_kept (State.takeImage_kept h (Part.sub hp)) (SEC.STAT.booted_zoned (Part.at hp))) (fun _ _ h1 => (Kept.ite (State.setEnable_kept h1 (Part.sub hp)) h1)))

theorem State.imageBodySee_kept {l s0} {s} {x1} (h : Kept l s0 s) (hp : Part.within [.page 0x48, .head 0x14, .head 0x24, .head 0x20] l) :
    Kept l s0 (State.imageBodySee s x1) := by
  unfold State.imageBodySee
  exact (Kept.ite (State.storeSee_kept h (Part.sub hp)) h)

theorem State.bootVerified_kept {l s0} {s} (h : Kept l s0 s) (hp : Part.within [.page 0x48, .head 0x14, .head 0x24, .head 0x20, .page 0x58, .rst, .page 0x0, .live, .shadow, .mirror, .dirty, .afe, .pages 0x8 0x10, .cal, .page 0x10, .pages 0x30 0x34, .ports, .page 0x38, .msg, .page 0x34, .switched, .pwr, .terms, .immediate, .latched, .pair, .dma, .arith, .lap, .loops, .jkt, .page 0x1A, .page 0x19, .alarm, .pages 0x120 0x131, .call, .tsync, .freeCount, .nvm, .page 0x49, .recorder, .page 0x178, .rtc, .sec, .response, .responseCrc, .page 0x11, .page 0x42, .page 0x18, .page 0x28, .page 0x40, .page 0x41, .sram, .sramBad, .sramWeak, .page 0x51, .page 0x20, .page 0x35, .head 0xC] l) :
    Kept l s0 (State.bootVerified s) := by
  unfold State.bootVerified
  extract_lets +onlyGivenNames -merge -useContext -underBinder s1
  have h2 : Kept l s0 s1 := by unfold s1; exact (State.imageChecked_kept (State.imageChecked_kept h (Part.sub hp)) (Part.sub hp))
  extract_lets +onlyGivenNames -merge -useContext -underBinder s3 s4
  have h6 : Kept l s0 s4 := by unfold s4; exact (State.imageBodySee_kept (State.imageBodySee_kept (h2.rst (Part.at hp)) (Part.sub hp)) (Part.sub hp))
  extract_lets +onlyGivenNames -merge -useContext -underBinder s7
  extract_lets +onlyGivenNames -merge -useContext -underBinder s9
  have h10 : Kept l s0 s9 := by unfold s9; exact (State.fault_kept (State.wr_kept h6 (SYS.CFGOWNER.owner_zoned (Part.at hp))) (SEC.FAULT.noimage_zoned (Part.at hp)) (Part.sub hp))
  split
  · exact h10
  · exact (State.bootFrom_kept h6 (Part.sub hp))
  · exact (State.bootFrom_kept h6 (Part.sub hp))
  · exact (Kept.ite (State.bootFrom_kept h6 (Part.sub hp)) (State.bootFrom_kept h6 (Part.sub hp)))

theorem State.commitStart_kept {l s0} {s} {x1} {x2} (h : Kept l s0 s) (hp : Part.within [.head 0x2C, .immediate] l) :
    Kept l s0 (State.commitStart s x1 x2) := by
  unfold State.commitStart
  extract_lets +onlyGivenNames -merge -useContext -underBinder s1
  have h2 : Kept l s0 s1 := by unfold s1; exact (State.wr_kept h (HDR.COMMIT.state_zoned (Part.at hp)))
  clear_value s1
  exact (h2.immediate (Part.at hp))

theorem State.commitKey_kept {l s0} {s} {x1} {x2} (h : Kept l s0 s) (hp : Part.within [.head 0x2C, .immediate, .afe, .pages 0x8 0x10, .cal, .page 0x10, .head 0x14, .pages 0x30 0x34, .ports, .page 0x38, .msg, .page 0x34, .switched, .pwr, .terms, .latched, .pair, .dma, .arith, .lap, .loops, .jkt, .page 0x1A, .page 0x19, .alarm, .pages 0x120 0x131, .call, .tsync, .freeCount, .page 0x58, .page 0x48, .head 0x24, .head 0x20, .nvm, .page 0x49, .recorder, .page 0x178, .rtc, .sec, .response, .responseCrc, .page 0x11, .page 0x42, .page 0x18, .rst, .page 0x28, .page 0x40, .page 0x41, .sram, .sramBad, .sramWeak, .page 0x51, .live, .shadow, .dirty, .page 0x20, .page 0x35, .mirror] l) :
    Kept l s0 (State.commitKey s x1 x2) := by
  unfold State.commitKey
  extract_lets +onlyGivenNames -merge -useContext -underBinder s1
  clear_value s1
  exact (Kept.ite h (Kept.ite (Kept.ite h (State.commitStart_kept h (Part.sub hp))) (Kept.ite (Kept.ite (h.immediate (Part.at hp)) (Kept.ite (State.applyCommit_kept h (Part.sub hp)) (State.commitStart_kept h (Part.sub hp)))) (Kept.ite (Kept.ite (State.commitTo_kept h (Part.sub hp)) h) h))))

theorem State.imgStat_kept {l s0} {s} {x1} {x2} {x3} {x4} (h : Kept l s0 s) (hp : Part.within [.page 0x0] l) :
    Kept l s0 (State.imgStat s x1 x2 x3 x4) := by
  unfold State.imgStat
  exact (State.wr_kept (State.wr_kept (State.wr_kept (State.wr_kept h (SYS.IMGSTAT.state_zoned (Part.at hp))) (SYS.IMGSTAT.reason_zoned (Part.at hp))) (SYS.IMGSTAT.page_zoned (Part.at hp))) (SYS.IMGCODE.code_zoned (Part.at hp)))

theorem State.imageCommand_kept {l s0} {s} {x1} {x2} (h : Kept l s0 s) (hp : Part.within [.page 0x0, .switchTo] l) :
    Kept l s0 (State.imageCommand s x1 x2) := by
  unfold State.imageCommand
  split
  · refine Kept.ite ?_ ?_
    · exact (State.wr_kept h (SYS.IMGSTAT.reason_zoned (Part.at hp)))
    · extract_lets +onlyGivenNames -merge -useContext -underBinder s1
      have h2 : Kept l s0 s1 := by unfold s1; exact (State.imgStat_kept h (Part.sub hp))
      clear_value s1
      exact (h2.switchTo (Part.at hp))
  · exact (Kept.ite (State.imgStat_kept h (Part.sub hp)) h)
  · exact (Kept.ite (State.wr_kept h (SYS.IMGSTAT.reason_zoned (Part.at hp))) (State.imgStat_kept h (Part.sub hp)))

theorem State.commitStep_kept {l s0} {s} (h : Kept l s0 s) (hp : Part.within [.recorder, .page 0x49, .head 0x14, .head 0x24, .page 0x42, .head 0x20, .page 0x40, .sramWeak, .page 0x41, .sram, .sramBad, .msg, .page 0x178, .page 0x48, .nvm, .page 0x51, .page 0x10, .cal, .terms, .pages 0x8 0x10, .afe, .pages 0x30 0x34, .ports, .page 0x38, .page 0x34, .switched, .pwr, .immediate, .latched, .pair, .dma, .arith, .lap, .loops, .jkt, .page 0x1A, .page 0x19, .alarm, .pages 0x120 0x131, .call, .tsync, .freeCount, .page 0x58, .rtc, .sec, .response, .responseCrc, .page 0x11, .page 0x18, .rst, .page 0x28, .live, .shadow, .dirty, .page 0x20, .page 0x35, .head 0x2C, .mirror] l) :
    Kept l s0 (State.commitStep s) := by
  unfold State.commitStep
  extract_lets +onlyGivenNames -merge -useContext -underBinder s1
  clear_value s1
  exact (State.recCommands_kept (State.calApply_kept (Kept.each h (fun _ _ h3 => (State.applyCommit_kept h3 (Part.sub hp)))) (Part.sub hp)) (Part.sub hp))

theorem State.forwardCommit_kept {l s0} {s} {x1} (h : Kept l s0 s) (hp : Part.within [.pair] l) :
    Kept l s0 (State.forwardCommit s x1) := by
  unfold State.forwardCommit
  refine Kept.ite ?_ ?_
  · exact h
  · extract_lets +onlyGivenNames -merge -useContext -underBinder s1
    clear_value s1
    exact (Kept.each h (fun _ _ h3 => (State.uhlizSend_kept h3 (Part.sub hp))))

theorem State.imageArrived_kept {l s0} {s} {x1} (h : Kept l s0 s) (hp : Part.within [.page 0x48, .head 0x14, .head 0x24, .head 0x20, .pair, .page 0x58, .store, .nvm, .live, .shadow, .mirror, .dirty, .page 0x0, .afe, .pages 0x8 0x10, .cal, .page 0x10, .pages 0x30 0x34, .ports, .page 0x38, .msg, .page 0x34, .switched, .pwr, .terms, .immediate, .latched, .dma, .arith, .lap, .loops, .jkt, .page 0x1A, .page 0x19, .alarm, .pages 0x120 0x131, .call, .tsync, .freeCount, .page 0x49, .recorder, .page 0x178, .rtc, .sec, .response, .responseCrc, .page 0x11, .page 0x42, .page 0x18, .rst, .page 0x28, .page 0x40, .page 0x41, .sram, .sramBad, .sramWeak, .page 0x51, .page 0x20, .page 0x35, .head 0xC] l) :
    Kept l s0 (State.imageArrived s x1) := by
  unfold State.imageArrived
  extract_lets +onlyGivenNames -merge -useContext -underBinder s1
  have h2 : Kept l s0 s1 := by unfold s1; exact (State.storeSee_kept (State.storeSee_kept (State.modPair_kept h (Part.sub hp)) (Part.sub hp)) (Part.sub hp))
  clear_value s1
  extract_lets +onlyGivenNames -merge -useContext -underBinder s3
  clear_value s3
  extract_lets +onlyGivenNames -merge -useContext -underBinder s5
  clear_value s5
  extract_lets +onlyGivenNames -merge -useContext -underBinder s7
  clear_value s7
  extract_lets +onlyGivenNames -merge -useContext -underBinder s9
  have h10 : Kept l s0 s9 := by unfold s9; exact (Kept.each h2 (fun _ _ h11 => (State.storeErase_kept h11 (Part.sub hp))))
  clear_value s9
  extract_lets +onlyGivenNames -merge -useContext -underBinder s12
  have h13 : Kept l s0 s12 := by unfold s12; exact (State.storeProgram_kept h10 (Part.sub hp))
  clear_value s12
  refine Kept.ite ?_ ?_
  · exact h2
  · extract_lets +onlyGivenNames -merge -useContext -underBinder s14
    have h15 : Kept l s0 s14 := by unfold s14; exact (State.imageChecked_kept h13 (Part.sub hp))
    clear_value s14
    split
    · exact (State.bootFrom_kept h15 (Part.sub hp))
    · exact h15

theorem State.imageStep_kept {l s0} {s} (h : Kept l s0 s) (hp : Part.within [.page 0x0, .page 0x48, .head 0x14, .head 0x24, .head 0x20, .recorder, .page 0x49, .page 0x42, .page 0x41, .page 0x40, .sram, .sramBad, .sramWeak, .msg, .page 0x178, .live, .shadow, .mirror, .dirty, .afe, .pages 0x8 0x10, .cal, .page 0x10, .pages 0x30 0x34, .ports, .page 0x38, .page 0x34, .switched, .pwr, .terms, .immediate, .latched, .pair, .dma, .arith, .lap, .loops, .jkt, .page 0x1A, .page 0x19, .alarm, .pages 0x120 0x131, .call, .tsync, .freeCount, .page 0x58, .nvm, .rtc, .sec, .response, .responseCrc, .page 0x11, .page 0x18, .rst, .page 0x28, .page 0x51, .page 0x20, .page 0x35] l) :
    Kept l s0 (State.imageStep s) := by
  unfold State.imageStep
  extract_lets +onlyGivenNames -merge -useContext -underBinder s1
  clear_value s1
  refine Kept.ite ?_ ?_
  · exact h
  · refine Kept.ite ?_ ?_
    · exact (State.imgStat_kept h (Part.sub hp))
    · split
      · exact (State.imgStat_kept (State.imageBodySee_kept h (Part.sub hp)) (Part.sub hp))
      · exact (State.recEvent_kept (State.imgStat_kept (State.takeImage_kept (State.imageBodySee_kept h (Part.sub hp)) (Part.sub hp)) (Part.sub hp)) (Part.sub hp))

theorem State.ownerCommand_kept {l s0} {s} {x1} {x2} {x3} {f4 : Sys2Proof.Machine.State → Sys2Proof.Machine.State} (h : Kept l s0 s) (hf4 : ∀ {t}, Kept l s0 t → Kept l s0 (f4 t)) (hp : Part.within [.page 0x1, .status] l) :
    KeptR l s0 (State.ownerCommand s x1 x2 x3 f4) := by
  unfold State.ownerCommand
  refine KeptR.ite ?_ ?_
  · refine KeptR.next ?_
    extract_lets +onlyGivenNames -merge -useContext -underBinder s1
    have h2 : Kept l s0 s1 := by unfold s1; exact (State.awake_kept h (Part.sub hp))
    clear_value s1
    exact (h2.status (Part.at hp))
  · exact (State.command_kept h (fun h3 => (hf4 h3)) (Part.sub hp))

theorem State.refuseCommit_kept {l s0} {s} {x1} {x2} {x3} {x4} (h : Kept l s0 s) (z2 : Zoned l x2) (hp : Part.within [.head 0x24, .head 0x14, .head 0x2C, .immediate, .pair] l) :
    Kept l s0 (State.refuseCommit s x1 x2 x3 x4) := by
  unfold State.refuseCommit
  exact (State.fault_kept (State.irq_kept (State.commitTo_kept h (Part.sub hp)) (HDR.IRQRAW.commit_refused_zoned (Part.at hp))) z2 (Part.sub hp))

theorem State.sendImage_kept {l s0} {s} (h : Kept l s0 s) (hp : Part.within [.page 0x48, .head 0x14, .head 0x24, .head 0x20, .pair] l) :
    Kept l s0 (State.sendImage s) := by
  unfold State.sendImage
  extract_lets +onlyGivenNames -merge -useContext -underBinder s1
  clear_value s1
  extract_lets +onlyGivenNames -merge -useContext -underBinder s3
  clear_value s3
  refine Kept.ite ?_ ?_
  · exact h
  · extract_lets +onlyGivenNames -merge -useContext -underBinder s5
    clear_value s5
    refine Kept.each (State.storeSee_kept h (Part.sub hp)) (fun _ _ h7 => ?_)
    split
    · exact (State.laneSend_kept h7 (Part.sub hp))

theorem execCommitNextLap_kept {l s0} {x0} {x1} {s} (h : Kept l s0 s) (hp : Part.within [.page 0x1, .status, .head 0x2C, .immediate, .afe, .pages 0x8 0x10, .cal, .page 0x10, .head 0x14, .pages 0x30 0x34, .ports, .page 0x38, .msg, .page 0x34, .switched, .pwr, .terms, .latched, .pair, .dma, .arith, .lap, .loops, .jkt, .page 0x1A, .page 0x19, .alarm, .pages 0x120 0x131, .call, .tsync, .freeCount, .page 0x58, .page 0x48, .head 0x24, .head 0x20, .nvm, .page 0x49, .recorder, .page 0x178, .rtc, .sec, .response, .responseCrc, .page 0x11, .page 0x42, .page 0x18, .rst, .page 0x28, .page 0x40, .page 0x41, .sram, .sramBad, .sramWeak, .page 0x51, .live, .shadow, .dirty, .page 0x20, .page 0x35, .mirror] l) :
    KeptR l s0 (execCommitNextLap x0 x1 s) := by
  unfold execCommitNextLap
  exact (State.ownerCommand_kept h (fun h1 => (State.commitKey_kept h1 (Part.sub hp))) (Part.sub hp))

theorem execCommitImmediate_kept {l s0} {x0} {x1} {s} (h : Kept l s0 s) (hp : Part.within [.page 0x1, .status, .head 0x2C, .immediate, .afe, .pages 0x8 0x10, .cal, .page 0x10, .head 0x14, .pages 0x30 0x34, .ports, .page 0x38, .msg, .page 0x34, .switched, .pwr, .terms, .latched, .pair, .dma, .arith, .lap, .loops, .jkt, .page 0x1A, .page 0x19, .alarm, .pages 0x120 0x131, .call, .tsync, .freeCount, .page 0x58, .page 0x48, .head 0x24, .head 0x20, .nvm, .page 0x49, .recorder, .page 0x178, .rtc, .sec, .response, .responseCrc, .page 0x11, .page 0x42, .page 0x18, .rst, .page 0x28, .page 0x40, .page 0x41, .sram, .sramBad, .sramWeak, .page 0x51, .live, .shadow, .dirty, .page 0x20, .page 0x35, .mirror] l) :
    KeptR l s0 (execCommitImmediate x0 x1 s) := by
  unfold execCommitImmediate
  exact (State.ownerCommand_kept h (fun h1 => (State.commitKey_kept h1 (Part.sub hp))) (Part.sub hp))

theorem execCommitCancel_kept {l s0} {x0} {x1} {s} (h : Kept l s0 s) (hp : Part.within [.page 0x1, .status, .head 0x2C, .immediate, .afe, .pages 0x8 0x10, .cal, .page 0x10, .head 0x14, .pages 0x30 0x34, .ports, .page 0x38, .msg, .page 0x34, .switched, .pwr, .terms, .latched, .pair, .dma, .arith, .lap, .loops, .jkt, .page 0x1A, .page 0x19, .alarm, .pages 0x120 0x131, .call, .tsync, .freeCount, .page 0x58, .page 0x48, .head 0x24, .head 0x20, .nvm, .page 0x49, .recorder, .page 0x178, .rtc, .sec, .response, .responseCrc, .page 0x11, .page 0x42, .page 0x18, .rst, .page 0x28, .page 0x40, .page 0x41, .sram, .sramBad, .sramWeak, .page 0x51, .live, .shadow, .dirty, .page 0x20, .page 0x35, .mirror] l) :
    KeptR l s0 (execCommitCancel x0 x1 s) := by
  unfold execCommitCancel
  exact (State.ownerCommand_kept h (fun h1 => (State.commitKey_kept h1 (Part.sub hp))) (Part.sub hp))

theorem execCommitCheckEnd_kept {l s0} {x0} {s} (h : Kept l s0 s) (hp : Part.within [.head 0x24, .head 0x14, .head 0x2C, .immediate, .pair, .head 0x20, .afe, .pages 0x8 0x10, .cal, .page 0x10, .pages 0x30 0x34, .ports, .page 0x38, .msg, .page 0x34, .switched, .pwr, .terms, .latched, .dma, .arith, .lap, .loops, .jkt, .page 0x1A, .page 0x19, .alarm, .pages 0x120 0x131, .call, .tsync, .freeCount, .page 0x58, .page 0x48, .nvm, .page 0x49, .recorder, .page 0x178, .rtc, .sec, .response, .responseCrc, .page 0x11, .page 0x42, .page 0x18, .rst, .page 0x28, .page 0x40, .page 0x41, .sram, .sramBad, .sramWeak, .page 0x51, .live, .shadow, .dirty, .page 0x20, .page 0x35, .mirror] l) :
    KeptR l s0 (execCommitCheckEnd x0 s) := by
  unfold execCommitCheckEnd
  refine KeptR.ite ?_ ?_
  · exact (KeptR.next h)
  · refine KeptR.ite ?_ ?_
    · exact (KeptR.next (State.refuseCommit_kept h (HDR.FAULT.crc_zoned (Part.at hp)) (Part.sub hp)))
    · split
      · exact (KeptR.next (State.refuseCommit_kept h (HDR.FAULT.invalid_zoned (Part.at hp)) (Part.sub hp)))
      · extract_lets +onlyGivenNames -merge -useContext -underBinder s1
        have h2 : Kept l s0 s1 := by unfold s1; exact (State.forwardCommit_kept h (Part.sub hp))
        clear_value s1
        exact (KeptR.next (Kept.ite (State.applyCommit_kept h2 (Part.sub hp)) (State.wr_kept h2 (HDR.COMMIT.state_zoned (Part.at hp)))))

theorem execImageSwitchRequest_kept {l s0} {x0} {x1} {s} (h : Kept l s0 s) (hp : Part.within [.page 0x1, .status, .page 0x0, .switchTo] l) :
    KeptR l s0 (execImageSwitchRequest x0 x1 s) := by
  unfold execImageSwitchRequest
  exact (State.ownerCommand_kept h (fun h1 => (State.imageCommand_kept h1 (Part.sub hp))) (Part.sub hp))

theorem execImageSwitchCancel_kept {l s0} {x0} {s} (h : Kept l s0 s) (hp : Part.within [.page 0x1, .status, .page 0x0, .switchTo] l) :
    KeptR l s0 (execImageSwitchCancel x0 s) := by
  unfold execImageSwitchCancel
  exact (State.ownerCommand_kept h (fun h1 => (State.imageCommand_kept h1 (Part.sub hp))) (Part.sub hp))

theorem execImageSwitchCheckEnd_kept {l s0} {s} (h : Kept l s0 s) (hp : Part.within [.page 0x48, .head 0x14, .head 0x24, .head 0x20, .page 0x0] l) :
    KeptR l s0 (execImageSwitchCheckEnd s) := by
  unfold execImageSwitchCheckEnd
  refine KeptR.ite ?_ ?_
  · exact (KeptR.next h)
  · extract_lets +onlyGivenNames -merge -useContext -underBinder s1
    have h2 : Kept l s0 s1 := by unfold s1; exact (State.imageBodySee_kept h (Part.sub hp))
    clear_value s1
    split
    · exact (KeptR.next (State.imgStat_kept h2 (Part.sub hp)))
    · exact (KeptR.next (Kept.ite (State.imgStat_kept h2 (Part.sub hp)) (State.imgStat_kept h2 (Part.sub hp))))

theorem execCfgfwdReceived_kept {l s0} {x0} {x1} {s} (h : Kept l s0 s) (hp : Part.within [.pair, .page 0x38, .head 0x14, .head 0x24, .head 0x20, .shadow, .dirty, .head 0x28, .head 0x2C, .immediate, .afe, .pages 0x8 0x10, .cal, .page 0x10, .pages 0x30 0x34, .ports, .msg, .page 0x34, .switched, .pwr, .terms, .latched, .dma, .arith, .lap, .loops, .jkt, .page 0x1A, .page 0x19, .alarm, .pages 0x120 0x131, .call, .tsync, .freeCount, .page 0x58, .page 0x48, .nvm, .page 0x49, .recorder, .page 0x178, .rtc, .sec, .response, .responseCrc, .page 0x11, .page 0x42, .page 0x18, .rst, .page 0x28, .page 0x40, .page 0x41, .sram, .sramBad, .sramWeak, .page 0x51, .live, .page 0x20, .page 0x35, .mirror] l) :
    KeptR l s0 (execCfgfwdReceived x0 x1 s) := by
  unfold execCfgfwdReceived
  refine State.fromPartner_kept h (fun h1 => ?_) (Part.sub hp)
  extract_lets +onlyGivenNames -merge -useContext -underBinder s2
  clear_value s2
  extract_lets +onlyGivenNames -merge -useContext -underBinder s4
  clear_value s4
  refine Kept.ite ?_ ?_
  · exact h1
  · extract_lets +onlyGivenNames -merge -useContext -underBinder s6
    have h7 : Kept l s0 s6 := by unfold s6; exact ((h1.shadow (Part.at hp) (fun c => State.wf_putRegion c.1.2.2.1)).dirty (Part.at hp))
    clear_value s6
    extract_lets +onlyGivenNames -merge -useContext -underBinder s8
    have h9 : Kept l s0 s8 := by unfold s8; exact (State.wr_kept h7 (HDR.SHCRC.crc_zoned (Part.at hp)))
    clear_value s8
    exact (State.commitKey_kept (h9.pair (Part.at hp)) (Part.sub hp))

theorem execImageFrameReceived_kept {l s0} {x0} {x1} {s} (h : Kept l s0 s) (hp : Part.within [.pair, .page 0x38, .head 0x14, .head 0x24, .head 0x20, .page 0x48, .page 0x58, .store, .nvm, .live, .shadow, .mirror, .dirty, .page 0x0, .afe, .pages 0x8 0x10, .cal, .page 0x10, .pages 0x30 0x34, .ports, .msg, .page 0x34, .switched, .pwr, .terms, .immediate, .latched, .dma, .arith, .lap, .loops, .jkt, .page 0x1A, .page 0x19, .alarm, .pages 0x120 0x131, .call, .tsync, .freeCount, .page 0x49, .recorder, .page 0x178, .rtc, .sec, .response, .responseCrc, .page 0x11, .page 0x42, .page 0x18, .rst, .page 0x28, .page 0x40, .page 0x41, .sram, .sramBad, .sramWeak, .page 0x51, .page 0x20, .page 0x35, .head 0xC] l) :
    KeptR l s0 (execImageFrameReceived x0 x1 s) := by
  unfold execImageFrameReceived
  refine KeptR.ite ?_ ?_
  · exact (KeptR.next h)
  · extract_lets +onlyGivenNames -merge -useContext -underBinder s1
    have h2 : Kept l s0 s1 := by unfold s1; exact (State.goodFrame_kept h (Part.sub hp))
    clear_value s1
    refine KeptR.ite ?_ ?_
    · exact (KeptR.next (State.sendImage_kept h2 (Part.sub hp)))
    · refine KeptR.ite ?_ ?_
      · exact (KeptR.next h2)
      · extract_lets +onlyGivenNames -merge -useContext -underBinder s3
        have h4 : Kept l s0 s3 := by unfold s3; exact (State.modPair_kept h2 (Part.sub hp))
        clear_value s3
        extract_lets +onlyGivenNames -merge -useContext -underBinder s5
        clear_value s5
        extract_lets +onlyGivenNames -merge -useContext -underBinder s7
        clear_value s7
        exact (KeptR.next (Kept.ite (State.imageArrived_kept h4 (Part.sub hp)) h4))

theorem execImageVerifyEnd_kept {l s0} {s} (h : Kept l s0 s) (hp : Part.within [.page 0x48, .head 0x14, .head 0x24, .head 0x20, .page 0x58, .rst, .page 0x0, .live, .shadow, .mirror, .dirty, .afe, .pages 0x8 0x10, .cal, .page 0x10, .pages 0x30 0x34, .ports, .page 0x38, .msg, .page 0x34, .switched, .pwr, .terms, .immediate, .latched, .pair, .dma, .arith, .lap, .loops, .jkt, .page 0x1A, .page 0x19, .alarm, .pages 0x120 0x131, .call, .tsync, .freeCount, .nvm, .page 0x49, .recorder, .page 0x178, .rtc, .sec, .response, .responseCrc, .page 0x11, .page 0x42, .page 0x18, .page 0x28, .page 0x40, .page 0x41, .sram, .sramBad, .sramWeak, .page 0x51, .page 0x20, .page 0x35, .head 0xC] l) :
    KeptR l s0 (execImageVerifyEnd s) := by
  unfold execImageVerifyEnd
  refine KeptR.ite ?_ ?_
  · exact (KeptR.next h)
  · refine KeptR.ite ?_ ?_
    · exact (KeptR.next (State.bootVerified_kept h (Part.sub hp)))
    · split
      · exact (KeptR.next (State.secDone_kept (State.secStat_kept (State.modSec_kept (State.imageChecked_kept h (Part.sub hp)) (Part.sub hp)) (Part.sub hp)) (Part.sub hp)))
      · exact (KeptR.next (State.secDone_kept (State.secStat_kept (State.modSec_kept (State.imageChecked_kept h (Part.sub hp)) (Part.sub hp)) (Part.sub hp)) (Part.sub hp)))
      · exact (KeptR.next h)

end Sys2Proof.Machine
end

