-- ==== Sys2Proof/Laws/Lap.lean ====
section
/-!
SUPPORT. What each operation of Machine/Lap.lean can change: one lemma per operation, named after it. An operation started in a
state that has kept all parts of an earlier one but some keeps all but those and the parts that its lemma lists, and the
canonical form of the sparse maps with them.
-/

set_option Elab.async false

namespace Sys2Proof.Machine

theorem State.timeStep_kept {l s0} {s} (h : Kept l s0 s) (hp : Part.within [.stime, .tsync, .page 0x35, .head 0x14] l) :
    Kept l s0 (State.timeStep s) := by
  unfold State.timeStep
  refine Kept.ite ?_ ?_
  · exact h
  · split
    · exact h
    · extract_lets +onlyGivenNames -merge -useContext -underBinder s1
      clear_value s1
      extract_lets +onlyGivenNames -merge -useContext -underBinder s3 s4
      have h6 : Kept l s0 s4 := by unfold s4; exact (h.upd [.stime, .tsync] (Part.sub hp) (fun p hn => by cases p <;> first | rfl | exact True.intro | exact absurd (by decide) hn) rfl id)
      clear_value s4
      clear_value s3
      exact (State.irq_kept (State.stick_kept h6 (TSYNC.STEPCNT.count_zoned (Part.at hp)) (TSYNC.CNTOVF.step_zoned (Part.at hp)) (ZonedOpt.some (TSYNC.IRQRAW.cnt_event_zoned (Part.at hp)))) (TSYNC.IRQRAW.step_zoned (Part.at hp)))

theorem State.lapCapture_kept {l s0} {s} {x1} (h : Kept l s0 s) (hp : Part.within [.terms, .page 0x11, .cal, .head 0x24, .head 0x14, .head 0x20, .pair, .stime, .tsync, .page 0x35, .pages 0x30 0x34] l) :
    Kept l s0 (State.lapCapture s x1) := by
  unfold State.lapCapture
  extract_lets +onlyGivenNames -merge -useContext -underBinder s1
  have h2 : Kept l s0 s1 := by unfold s1; exact (Kept.ite (State.updateShunts_kept (State.moduleTemp_kept h (Part.sub hp)) (Part.sub hp)) (State.updateShunts_kept h (Part.sub hp)))
  clear_value s1
  exact (State.sendLapmark_kept (Kept.each (State.timeStep_kept h2 (Part.sub hp)) (fun _ _ h3 => (State.captureTsc_kept h3 (Part.sub hp)))) (Part.sub hp))

theorem State.lapGrid_kept {l s0} {s} {x1} (h : Kept l s0 s) (hp : Part.within [.alarm, .arith, .lap, .pair, .afe, .page 0x4, .head 0x14] l) :
    Kept l s0 (State.lapGrid s x1) := by
  unfold State.lapGrid
  extract_lets +onlyGivenNames -merge -useContext -underBinder s1
  clear_value s1
  extract_lets +onlyGivenNames -merge -useContext -underBinder s3
  clear_value s3
  extract_lets +onlyGivenNames -merge -useContext -underBinder s5
  clear_value s5
  extract_lets +onlyGivenNames -merge -useContext -underBinder s7
  clear_value s7
  extract_lets +onlyGivenNames -merge -useContext -underBinder s9
  clear_value s9
  extract_lets +onlyGivenNames -merge -useContext -underBinder s11
  clear_value s11
  extract_lets +onlyGivenNames -merge -useContext -underBinder s13
  have h14 : Kept l s0 s13 := by unfold s13; exact (Kept.ite (State.almNewGrid_kept h (Part.sub hp)) h)
  clear_value s13
  extract_lets +onlyGivenNames -merge -useContext -underBinder s15 s16 s17
  have h20 : Kept l s0 s17 := by unfold s17; exact (h14.upd [.arith, .lap, .pair] (Part.sub hp) (fun p hn => by cases p <;> first | rfl | exact True.intro | exact absurd (by decide) hn) rfl id)
  clear_value s17
  clear_value s16
  clear_value s15
  extract_lets +onlyGivenNames -merge -useContext -underBinder s21
  clear_value s21
  extract_lets +onlyGivenNames -merge -useContext -underBinder s23
  have h24 : Kept l s0 s23 := by unfold s23; exact (Kept.ite h20 (Kept.each h20 (fun _ _ h25 => (State.modBank_kept h25 (Part.sub hp)))))
  clear_value s23
  extract_lets +onlyGivenNames -merge -useContext -underBinder s26
  clear_value s26
  extract_lets +onlyGivenNames -merge -useContext -underBinder s28 s29
  have h31 : Kept l s0 s29 := by unfold s29; exact (State.wr_kept (h24.lap (Part.at hp)) (LAP.COUNT.count_zoned (Part.at hp)))
  clear_value s29
  clear_value s28
  exact (Kept.ite h31 (State.irq_kept (State.wr_kept (State.stick_kept h31 (LAP.OVRCNT.count_zoned (Part.at hp)) (LAP.CNTOVF.ovr_zoned (Part.at hp)) (ZonedOpt.some (LAP.IRQRAW.cnt_ovf_zoned (Part.at hp)))) (LAP.LATE.us_zoned (Part.at hp))) (LAP.IRQRAW.overrun_zoned (Part.at hp))))

theorem State.lapStart6_kept {l s0} {s} {x1} {x2} (h : Kept l s0 s) (hp : Part.within [.page 0x4, .head 0x14, .page 0x178, .recorder, .page 0x49, .head 0x24, .page 0x42, .head 0x20, .page 0x41, .page 0x40, .sram, .sramBad, .sramWeak, .msg, .page 0x48, .nvm, .page 0x51, .switched, .pwr, .terms, .immediate, .latched, .pair, .dma, .pages 0x30 0x34, .cal, .page 0x10, .afe, .arith, .lap, .ports, .loops, .jkt, .page 0x1A, .page 0x38, .page 0x19, .alarm, .pages 0x120 0x131, .call, .tsync, .freeCount, .page 0x58, .rtc, .sec, .response, .responseCrc, .page 0x11, .pages 0x8 0x10, .page 0x18, .rst, .page 0x28, .page 0x34, .live, .shadow, .dirty, .page 0x1] l) :
    Kept l s0 (State.lapStart6 s x1 x2) := by
  unfold State.lapStart6
  extract_lets +onlyGivenNames -merge -useContext -underBinder s1
  have h2 : Kept l s0 s1 := by unfold s1; exact (State.levelStep_kept h (Part.sub hp))
  clear_value s1
  extract_lets +onlyGivenNames -merge -useContext -underBinder s3
  clear_value s3
  extract_lets +onlyGivenNames -merge -useContext -underBinder s5 s6
  have h8 : Kept l s0 s6 := by unfold s6; exact (h2.lap (Part.at hp))
  clear_value s6
  clear_value s5
  extract_lets +onlyGivenNames -merge -useContext -underBinder s9
  have h10 : Kept l s0 s9 := by unfold s9; exact (Kept.each h8 (fun _ _ h11 => (State.modBank_kept h11 (Part.sub hp))))
  clear_value s9
  extract_lets +onlyGivenNames -merge -useContext -underBinder s12
  have h13 : Kept l s0 s12 := by unfold s12; exact (Kept.each h10 (fun _ _ h14 => (State.judgeSources_kept h14 (Part.sub hp))))
  clear_value s12
  extract_lets +onlyGivenNames -merge -useContext -underBinder s15
  have h16 : Kept l s0 s15 := by unfold s15; exact (Kept.each h13 (fun _ _ h17 => (State.scanStart_kept h17 (Part.sub hp))))
  clear_value s15
  extract_lets +onlyGivenNames -merge -useContext -underBinder s18
  have h19 : Kept l s0 s18 := by unfold s18; exact (Kept.each h16 (fun _ _ h20 => (State.strideStep6_kept h20 (Part.sub hp))))
  clear_value s18
  exact (State.recCapture_kept (State.jacketBoundary_kept (State.loopBoundary_kept (State.fcalBoundary_kept (State.monitorStart_kept h19 (Part.sub hp)) (Part.sub hp)) (Part.sub hp)) (Part.sub hp)) (Part.sub hp))

theorem State.takeLap_kept {l s0} {s} {x1} {x2} (h : Kept l s0 s) (hp : Part.within [.page 0x38, .pair, .head 0x24, .head 0x14, .head 0x20, .recorder, .page 0x49, .page 0x42, .page 0x41, .page 0x40, .sram, .sramBad, .sramWeak, .msg, .page 0x178, .lap, .ports, .pages 0x30 0x34, .page 0x35, .tsync, .loops, .page 0x18, .jkt, .page 0x19, .alarm, .arith, .afe, .page 0x4, .page 0x1, .terms, .page 0x11, .cal, .stime, .page 0x0, .page 0x48, .live, .shadow, .mirror, .dirty, .pages 0x8 0x10, .page 0x10, .page 0x34, .switched, .pwr, .immediate, .latched, .dma, .page 0x1A, .pages 0x120 0x131, .call, .freeCount, .page 0x58, .nvm, .rtc, .sec, .response, .responseCrc, .rst, .page 0x28, .page 0x51, .page 0x20, .head 0x2C] l) :
    Kept l s0 (State.takeLap s x1 x2) := by
  unfold State.takeLap
  extract_lets +onlyGivenNames -merge -useContext -underBinder s1
  clear_value s1
  extract_lets +onlyGivenNames -merge -useContext -underBinder s3
  clear_value s3
  extract_lets +onlyGivenNames -merge -useContext -underBinder s5
  have h6 : Kept l s0 s5 := by unfold s5; exact (State.pairBoundary_kept (State.lapGrid_kept (State.awake_kept h (Part.sub hp)) (Part.sub hp)) (Part.sub hp))
  clear_value s5
  extract_lets +onlyGivenNames -merge -useContext -underBinder s7
  have h8 : Kept l s0 s7 := by unfold s7; exact (State.lapCapture_kept h6 (Part.sub hp))
  clear_value s7
  extract_lets +onlyGivenNames -merge -useContext -underBinder s9
  have h10 : Kept l s0 s9 := by unfold s9; exact (State.imageStep_kept (State.commitStep_kept h8 (Part.sub hp)) (Part.sub hp))
  clear_value s9
  extract_lets +onlyGivenNames -merge -useContext -underBinder s11
  have h12 : Kept l s0 s11 := by unfold s11; exact (Kept.each h10 (fun _ _ h13 => (State.strideStep4_kept h13 (Part.sub hp))))
  clear_value s11
  extract_lets +onlyGivenNames -merge -useContext -underBinder s14
  have h15 : Kept l s0 s14 := by unfold s14; exact (State.timeRole_kept (State.handoverStep_kept h12 (Part.sub hp)) (Part.sub hp))
  clear_value s14
  extract_lets +onlyGivenNames -merge -useContext -underBinder s16 s17
  have h19 : Kept l s0 s17 := by unfold s17; exact (State.lapStart6_kept (h15.tsync (Part.at hp)) (Part.sub hp))
  clear_value s17
  clear_value s16
  exact (Kept.ite (State.showDigest_kept h19 (Part.sub hp)) h19)

theorem execLapBoundary_kept {l s0} {x0} {x1} {s} (h : Kept l s0 s) (hp : Part.within [.arith, .lap, .dma, .page 0x42, .head 0x14, .head 0x24, .head 0x20, .page 0x41, .page 0x40, .sram, .sramBad, .sramWeak, .alarm, .recorder, .loops, .pair, .page 0x38, .msg, .page 0x18, .cal, .page 0x20, .freeCount, .page 0x49, .page 0x178, .call, .page 0x28, .page 0x34, .jkt, .page 0x19, .pages 0x30 0x34, .ports, .page 0x35, .tsync, .afe, .page 0x4, .page 0x1, .terms, .page 0x11, .stime, .page 0x0, .page 0x48, .live, .shadow, .mirror, .dirty, .pages 0x8 0x10, .page 0x10, .switched, .pwr, .immediate, .latched, .page 0x1A, .pages 0x120 0x131, .page 0x58, .nvm, .rtc, .sec, .response, .responseCrc, .rst, .page 0x51, .head 0x2C] l) :
    KeptR l s0 (execLapBoundary x0 x1 s) := by
  unfold execLapBoundary
  extract_lets +onlyGivenNames -merge -useContext -underBinder s1
  have h2 : Kept l s0 s1 := by unfold s1; exact (State.skipEvaluation_kept h (Part.sub hp))
  clear_value s1
  exact (KeptR.next (Kept.ite (State.takeLap_kept h2 (Part.sub hp)) h2))

theorem execLapEnable_kept {l s0} {x0} {x1} {s} (h : Kept l s0 s) (hp : Part.within [.page 0x1, .status, .arith, .lap, .dma, .page 0x42, .head 0x14, .head 0x24, .head 0x20, .page 0x41, .page 0x40, .sram, .sramBad, .sramWeak, .alarm, .recorder, .loops, .pair, .page 0x38, .msg, .page 0x18, .cal, .page 0x20, .freeCount, .page 0x49, .page 0x178, .call, .page 0x28, .page 0x34, .jkt, .page 0x19, .pages 0x30 0x34, .ports, .head 0xC, .page 0x10, .page 0x11, .afe, .pages 0x8 0x10, .page 0x58, .sec, .page 0x48, .nvm, .page 0x51, .page 0x35, .tsync, .page 0x4, .terms, .stime, .page 0x0, .live, .shadow, .mirror, .dirty, .switched, .pwr, .immediate, .latched, .page 0x1A, .pages 0x120 0x131, .rtc, .response, .responseCrc, .rst, .head 0x2C] l) :
    KeptR l s0 (execLapEnable x0 x1 s) := by
  unfold execLapEnable
  refine State.command_kept h (fun h1 => ?_) (Part.sub hp)
  extract_lets +onlyGivenNames -merge -useContext -underBinder s2
  have h3 : Kept l s0 s2 := by unfold s2; exact (State.skipEvaluation_kept (State.setEnable_kept h1 (Part.sub hp)) (Part.sub hp))
  clear_value s2
  exact (Kept.ite (State.takeLap_kept h3 (Part.sub hp)) h3)

theorem execLapDisable_kept {l s0} {x0} {s} (h : Kept l s0 s) (hp : Part.within [.page 0x1, .status, .head 0xC, .lap, .freeCount, .arith, .dma, .page 0x42, .head 0x14, .head 0x24, .head 0x20, .page 0x41, .page 0x40, .sram, .sramBad, .sramWeak, .alarm, .recorder, .loops, .pair, .page 0x38, .msg, .page 0x18, .cal, .pages 0x120 0x130, .page 0x20, .page 0x130, .page 0x49, .page 0x178, .call, .page 0x28, .page 0x34, .jkt, .page 0x19, .pages 0x30 0x34, .ports, .page 0x10, .page 0x11, .afe, .pages 0x8 0x10, .page 0x58, .sec, .page 0x48, .nvm, .page 0x51] l) :
    KeptR l s0 (execLapDisable x0 s) := by
  unfold execLapDisable
  exact (State.command_kept h (fun h1 => (State.setEnable_kept h1 (Part.sub hp))) (Part.sub hp))

end Sys2Proof.Machine
end

