-- ==== Sys2Proof/Laws/Access.lean ====
section
/-!
SUPPORT. What each operation of Machine/Access.lean can change: one lemma per operation, named after it. An operation started in a
state that has kept all parts of an earlier one but some keeps all but those and the parts that its lemma lists, and the
canonical form of the sparse maps with them.
-/

set_option Elab.async false

namespace Sys2Proof.Machine

theorem State.readSram_kept {l s0} {s} {x1} {x2} {x3} (h : Kept l s0 s) (hp : Part.within [.page 0x41, .head 0x14, .page 0x40, .sramWeak, .head 0x24, .head 0x20] l) :
    Kept l s0 (State.readSram s x1 x2 x3).2 := by
  unfold State.readSram
  extract_lets +onlyGivenNames -merge -useContext -underBinder s1
  clear_value s1
  split
  · rename_i st4 bs5 s16 q7
    have h3 : Kept l s0 s16 := Kept.snd q7 (State.externalRead_kept h (Part.sub hp))
    split
    · exact (Kept.beside h3)
    · exact (Kept.beside h3)
    · exact (Kept.beside h3)
    · exact (Kept.beside h3)

theorem State.readStore_kept {l s0} {s} {x1} {x2} (h : Kept l s0 s) (hp : Part.within [.page 0x48, .head 0x14, .head 0x24, .head 0x20] l) :
    Kept l s0 (State.readStore s x1 x2).2 := by
  unfold State.readStore
  extract_lets +onlyGivenNames -merge -useContext -underBinder s1
  clear_value s1
  refine Kept.iteSnd ?_ ?_
  · exact (Kept.beside h)
  · split
    · rename_i bs4 s15 q6
      have h3 : Kept l s0 s15 := Kept.snd q6 (State.storeRead_kept h (Part.sub hp))
      exact (Kept.beside h3)
    · rename_i s18 q11
      have h7 : Kept l s0 s18 := Kept.snd q11 (State.storeRead_kept h (Part.sub hp))
      extract_lets +onlyGivenNames -merge -useContext -underBinder s9
      clear_value s9
      exact (Kept.beside h7)

theorem State.railWord_kept {l s0} {s} {x1} (h : Kept l s0 s) (hp : Part.within [.freeCount] l) :
    Kept l s0 (State.railWord s x1).2 := by
  unfold State.railWord
  split
  · rename_i x2 s13 q8
    have h1 : Kept l s0 s13 := Kept.snd q8 (State.draw_kept h (Part.sub hp))
    refine Kept.iteSnd ?_ ?_
    · exact (Kept.beside h1)
    · split
      · rename_i y5 s26 q7
        have h4 : Kept l s0 s26 := Kept.snd q7 (State.draw_kept h1 (Part.sub hp))
        exact (Kept.beside h4)

theorem State.readReg_kept {l s0} {s} {x1} {x2} {x3} {x4} (h : Kept l s0 s) (hp : Part.within [.freeCount, .rtc, .latched, .regs] l) :
    Kept l s0 (State.readReg s x1 x2 x3 x4).2 := by
  unfold State.readReg
  extract_lets +onlyGivenNames -merge -useContext -underBinder s1
  clear_value s1
  refine Kept.iteSnd ?_ ?_
  · exact (State.railWord_kept h (Part.sub hp))
  · refine Kept.iteSnd ?_ ?_
    · exact (State.rtcRead_kept h (Part.sub hp))
    · extract_lets +onlyGivenNames -merge -useContext -underBinder s3
      clear_value s3
      extract_lets +onlyGivenNames -merge -useContext -underBinder s5
      clear_value s5
      extract_lets +onlyGivenNames -merge -useContext -underBinder s7
      have h8 : Kept l s0 s7 := by unfold s7; exact (Kept.ite (h.latched (Part.at hp)) h)
      clear_value s7
      extract_lets +onlyGivenNames -merge -useContext -underBinder s9
      clear_value s9
      extract_lets +onlyGivenNames -merge -useContext -underBinder s11
      have h12 : Kept l s0 s11 := by unfold s11; exact (Kept.ite (State.setReg_all_kept h8 (Part.at hp)) h8)
      clear_value s11
      exact (Kept.beside (Kept.ite (State.wr_kept h12 (ARITH.QMAX.entries_zoned (Part.at hp))) h12))

theorem State.readMirror_kept {l s0} {s} {x1} {x2} {x3} (h : Kept l s0 s) (hp : Part.within [.freeCount] l) :
    Kept l s0 (State.readMirror s x1 x2 x3).2 := by
  unfold State.readMirror
  extract_lets +onlyGivenNames -merge -useContext -underBinder s1
  clear_value s1
  exact (Kept.iteSnd (State.railWord_kept h (Part.sub hp)) (Kept.iteSnd (Kept.beside h) (Kept.beside h)))

theorem State.readWord_kept {l s0} {s} {x1} {x2} {x3} (h : Kept l s0 s) (hp : Part.within [.freeCount, .rtc, .latched, .regs] l) :
    Kept l s0 (State.readWord s x1 x2 x3).2 := by
  unfold State.readWord
  refine Kept.iteSnd ?_ ?_
  · exact (Kept.beside h)
  · split
    · exact (State.readReg_kept h (Part.sub hp))
    · exact (State.readMirror_kept h (Part.sub hp))
    · exact (Kept.beside h)
    · exact (Kept.beside h)
    · exact (Kept.beside h)

theorem State.readWords_kept {l s0} {s} {x1 x2 x3} (h : Kept l s0 s) (hp : Part.within [.freeCount, .rtc, .latched, .regs] l) : Kept l s0 (State.readWords s x1 x2 x3).2 := by
  induction x3 generalizing s x2 with
  | nil => exact h
  | cons a as ih => exact ih (State.readWord_kept h (Part.sub hp))

theorem State.readAccess_kept {l s0} {s} {x1} {x2} {x3} {x4} (h : Kept l s0 s) (hp : Part.within [.sramWeak, .freeCount, .rtc, .latched, .regs] l) :
    Kept l s0 (State.readAccess s x1 x2 x3 x4).2 := by
  unfold State.readAccess
  extract_lets +onlyGivenNames -merge -useContext -underBinder s1
  clear_value s1
  split
  · exact (Kept.beside h)
  · refine Kept.iteSnd ?_ ?_
    · exact (Kept.beside h)
    · split
      · exact (State.readSram_kept h (Part.sub hp))
      · exact (State.readStore_kept h (Part.sub hp))
      · exact (Kept.beside h)
      · split
        · split
          · rename_i bs4 s15 q6
            have h3 : Kept l s0 s15 := Kept.snd q6 (State.readWords_kept h (Part.sub hp))
            exact (Kept.beside h3)
        · exact (Kept.beside h)
        · split
          · rename_i bs8 s19 q10
            have h7 : Kept l s0 s19 := Kept.snd q10 (State.readWords_kept h (Part.sub hp))
            exact (Kept.beside h7)

theorem State.writeSram_kept {l s0} {s} {x1} {x2} {x3} (h : Kept l s0 s) (hp : Part.within [.head 0x24, .head 0x14, .page 0x40, .head 0x20, .sram, .sramBad, .sramWeak, .page 0x41] l) :
    Kept l s0 (State.writeSram s x1 x2 x3).2 := by
  unfold State.writeSram
  extract_lets +onlyGivenNames -merge -useContext -underBinder s1
  clear_value s1
  split
  · rename_i st4 s15 q8
    have h3 : Kept l s0 s15 := Kept.snd q8 (State.externalWrite_kept h (Part.sub hp))
    extract_lets +onlyGivenNames -merge -useContext -underBinder s6
    clear_value s6
    exact (Kept.beside h3)

theorem State.writeCtl_kept {l s0} {s} {x1} {x2} (h : Kept l s0 s) (hp : Part.within [.shadow, .dirty, .freeCount, .arith, .lap, .dma, .sram, .sramBad, .sramWeak, .alarm, .recorder, .loops, .pair, .msg, .cal, .call, .jkt, .ports, .afe, .sec, .nvm, .rst, .live, .immediate, .latched, .pwr, .tsync, .rtc, .response, .responseCrc, .regs, .terms] l) :
    Kept l s0 (State.writeCtl s x1 x2) := by
  unfold State.writeCtl
  extract_lets +onlyGivenNames -merge -useContext -underBinder s1
  have h2 : Kept l s0 s1 := by unfold s1; exact (Kept.ite (State.revertPage_kept h (Part.sub hp)) h)
  clear_value s1
  extract_lets +onlyGivenNames -merge -useContext -underBinder s3
  have h4 : Kept l s0 s3 := by unfold s3; exact (State.setCtl_kept (State.setEnable_kept h2 (Part.sub hp)) (HDR.CTL.qreq_zoned (Part.at hp)) (Part.sub hp))
  clear_value s3
  exact (Kept.ite (State.breset_kept h4 (Part.sub hp)) h4)

theorem State.writeHeader_kept {l s0} {s} {x1} {x2} {x3} (h : Kept l s0 s) (hp : Part.within [.shadow, .dirty, .freeCount, .arith, .lap, .dma, .sram, .sramBad, .sramWeak, .alarm, .recorder, .loops, .pair, .msg, .cal, .call, .jkt, .ports, .afe, .sec, .nvm, .rst, .live, .immediate, .latched, .pwr, .tsync, .rtc, .response, .responseCrc, .regs, .terms, .mirror, .locked] l) :
    Kept l s0 (State.writeHeader s x1 x2 x3) := by
  unfold State.writeHeader
  split
  · exact (State.writeCtl_kept h (Part.sub hp))
  · exact (State.wr_kept h (HDR.IRQRAW_zoned (Part.at hp)))
  · exact (State.wr_kept h (HDR.IRQEN_zoned (Part.at hp)))
  · exact (State.clearFault_kept h (Part.sub hp))
  · exact (State.wr_kept h (HDR.SHCRC_zoned (Part.at hp)))
  · exact (State.commitKey_kept h (Part.sub hp))
  · exact (Kept.ite (h.locked (Part.at hp)) h)
  · exact (State.wr_kept h (HDR.QTIMEOUT_zoned (Part.at hp)))
  · exact (State.wr_kept h (HDR.SCRATCH_zoned (Part.at hp)))
  · exact h

theorem State.storeShadow_kept {l s0} {s} {x1} {x2} {x3} (h : Kept l s0 s) (hp : Part.within [.shadow, .dirty] l) :
    Kept l s0 (State.storeShadow s x1 x2 x3) := by
  unfold State.storeShadow
  exact (Kept.ite h ((h.shadow (Part.at hp) (fun c => State.wf_putCfg c.1.2.2.1)).dirty (Part.at hp)))

theorem State.storeReg_kept {l s0} {s} {x1} {x2} (h : Kept l s0 s) (hp : Part.within [.regs] l) :
    Kept l s0 (State.storeReg s x1 x2) := by
  unfold State.storeReg
  split
  · exact h
  · extract_lets +onlyGivenNames -merge -useContext -underBinder s1
    clear_value s1
    extract_lets +onlyGivenNames -merge -useContext -underBinder s3
    clear_value s3
    extract_lets +onlyGivenNames -merge -useContext -underBinder s5
    clear_value s5
    exact (Kept.ite h (State.setReg_all_kept h (Part.at hp)))

theorem State.writeBuffer_kept {l s0} {s} {x1} {x2} {x3} {x4} {x5} (h : Kept l s0 s) (hp : Part.within [.ports, .regs] l) :
    Kept l s0 (State.writeBuffer s x1 x2 x3 x4 x5) := by
  unfold State.writeBuffer
  refine Kept.ite ?_ ?_
  · exact (State.txHost_kept h (fun h1 => (Kept.when (Kept.when h1 (fun _ h2 => (State.txRequest_kept h2 (Part.sub hp)))) (fun _ h3 => (State.txCancel_kept h3 (Part.sub hp))))) (Part.sub hp))
  · refine Kept.ite ?_ ?_
    · refine State.txHost_kept h (fun h4 => ?_) (Part.sub hp)
      extract_lets +onlyGivenNames -merge -useContext -underBinder s5
      clear_value s5
      exact (Kept.ite (State.fault_kept h4 (BUS.FAULT.txwrite_zoned (Part.at hp)) (Part.sub hp)) (State.storeReg_kept h4 (Part.sub hp)))
    · exact h

theorem State.keyed_kept {l s0} {s} {x1} {x2} {f3 : Sys2Proof.Machine.State → Sys2Proof.Machine.State} (h : Kept l s0 s) (hf3 : ∀ {t}, Kept l s0 t → Kept l s0 (f3 t)) :
    Kept l s0 (State.keyed s x1 x2 f3) := by
  unfold State.keyed
  exact (Kept.ite (hf3 h) h)

theorem State.writeBus_kept {l s0} {s} {x1} {x2} {x3} (h : Kept l s0 s) (hp : Part.within [.ports, .regs] l) :
    Kept l s0 (State.writeBus s x1 x2 x3) := by
  unfold State.writeBus
  extract_lets +onlyGivenNames -merge -useContext -underBinder s1
  clear_value s1
  refine Kept.ite ?_ ?_
  · exact (State.writeBuffer_kept h (Part.sub hp))
  · split
    · exact (State.rxRelease_kept h (Part.sub hp))
    · exact (State.rxRelease_kept h (Part.sub hp))
    · exact (State.keyed_kept h (fun h3 => (Kept.ite (State.recoverPort_kept h3 (Part.sub hp)) h3)))
    · exact (State.storeReg_kept h (Part.sub hp))

theorem State.rearm_kept {l s0} {s} {x1} (h : Kept l s0 s) (hp : Part.within [.rtc] l) :
    Kept l s0 (State.rearm s x1) := by
  unfold State.rearm
  exact (h.rtc (Part.at hp))

theorem State.writeOwner_kept {l s0} {s} {x1} {x2} (h : Kept l s0 s) (hp : Part.within [.page 0x0, .recorder, .page 0x49, .head 0x14, .head 0x24, .page 0x42, .head 0x20, .page 0x41, .page 0x40, .sram, .sramBad, .sramWeak, .msg, .page 0x178] l) :
    Kept l s0 (State.writeOwner s x1 x2) := by
  unfold State.writeOwner
  extract_lets +onlyGivenNames -merge -useContext -underBinder s1
  clear_value s1
  exact (Kept.ite (State.reclaimOwner_kept h (Part.sub hp)) (State.handOwner_kept h (Part.sub hp)))

theorem State.writeFcal_kept {l s0} {s} {x1} (h : Kept l s0 s) (hp : Part.within [.page 0x10, .head 0x14, .freeCount, .cal, .nvm] l) :
    Kept l s0 (State.writeFcal s x1) := by
  unfold State.writeFcal
  extract_lets +onlyGivenNames -merge -useContext -underBinder s1
  have h2 : Kept l s0 s1 := by unfold s1; exact (Kept.when h (fun _ h3 => (State.fcalStart_kept h3 (Part.sub hp))))
  clear_value s1
  extract_lets +onlyGivenNames -merge -useContext -underBinder s4
  have h5 : Kept l s0 s4 := by unfold s4; exact (Kept.when h2 (fun _ h6 => (State.fcalAbort_kept h6 (Part.sub hp))))
  clear_value s4
  exact (Kept.when h5 (fun _ h7 => (State.fcalAccept_kept h7 (Part.sub hp))))

theorem State.timeSet_kept {l s0} {s} (h : Kept l s0 s) (hp : Part.within [.tsync, .head 0x14] l) :
    Kept l s0 (State.timeSet s) := by
  unfold State.timeSet
  exact (Kept.ite (h.tsync (Part.at hp)) (State.irq_kept h (TSYNC.IRQRAW.cmd_refused_zoned (Part.at hp))))

theorem State.writeBlock_kept {l s0} {s} {x1} {x2} {x3} {x4} (h : Kept l s0 s) (hp : Part.within [.ports, .regs, .loops, .dma, .sramWeak, .rtc, .sec, .recorder, .sram, .sramBad, .msg, .switchTo, .freeCount, .arith, .lap, .alarm, .pair, .cal, .call, .jkt, .store, .nvm, .pwr, .immediate, .latched, .afe, .tsync, .response, .responseCrc, .live, .shadow, .mirror, .dirty, .locked, .rst, .terms] l) :
    Kept l s0 (State.writeBlock s x1 x2 x3 x4) := by
  unfold State.writeBlock
  extract_lets +onlyGivenNames -merge -useContext -underBinder s1
  clear_value s1
  extract_lets +onlyGivenNames -merge -useContext -underBinder s3
  clear_value s3
  refine Kept.ite ?_ ?_
  · exact (State.writeBus_kept h (Part.sub hp))
  · refine Kept.ite ?_ ?_
    · exact (State.loopSetTo_kept h (Part.sub hp))
    · refine Kept.ite ?_ ?_
      · exact (State.keyed_kept h (fun h5 => (State.dmaOp_kept h5 (Part.sub hp))))
      · refine Kept.ite ?_ ?_
        · exact (State.rearm_kept (State.storeReg_kept h (Part.sub hp)) (Part.sub hp))
        · refine Kept.ite ?_ ?_
          · exact (State.modSec_kept h (Part.sub hp))
          · split
            · exact (State.writeOwner_kept h (Part.sub hp))
            · exact (State.keyed_kept h (fun h6 => (State.imageCommand_kept h6 (Part.sub hp))))
            · exact (State.wr_kept h (PWR.GOVLIM.mw_zoned (Part.at hp)))
            · exact (State.keyed_kept h (fun h7 => (State.powerCommand_kept h7 (Part.sub hp))))
            · exact (State.wr_kept (State.storeReg_kept h (Part.sub hp)) (RST.CFG.sup_s_zoned (Part.at hp)))
            · exact (State.keyed_kept h (fun h8 => (State.resetCommand_kept h8 (Part.sub hp))))
            · exact (State.keyed_kept h (fun h9 => (State.calCommand_kept h9 (Part.sub hp))))
            · exact (State.writeFcal_kept h (Part.sub hp))
            · exact (Kept.when (State.storeReg_kept h (Part.sub hp)) (fun _ h10 => (State.testStart_kept h10 (Part.sub hp))))
            · exact (State.nqRelease_kept h (Part.sub hp))
            · exact (State.keyed_kept h (fun h11 => (State.almCommand_kept h11 (Part.sub hp))))
            · exact (State.keyed_kept h (fun h12 => (State.callCommand_kept h12 (Part.sub hp))))
            · exact (State.keyed_kept h (fun h13 => (Kept.ite (State.timeSet_kept h13 (Part.sub hp)) h13)))
            · exact (State.keyed_kept h (fun h14 => (State.pairCommand_kept h14 (Part.sub hp))))
            · exact (State.ringRelease_kept h (Part.sub hp))
            · exact (State.keyed_kept h (fun h15 => (State.nvmCommand_kept h15 (Part.sub hp))))
            · exact (State.keyed_kept h (fun h16 => (State.recCommand_kept h16 (Part.sub hp))))
            · exact (State.hsel_kept h (Part.sub hp))
            · exact (State.keyed_kept h (fun h17 => (State.rtcCommand_kept h17 (Part.sub hp))))
            · exact (Kept.when (State.storeReg_kept h (Part.sub hp)) (fun _ h18 => (State.clearOsf_kept h18 (Part.sub hp))))
            · exact (State.wrInt_kept h (RTC.TRIM.n_zoned (Part.at hp)))
            · exact (State.keyed_kept h (fun h19 => (State.secCommand_kept h19 (Part.sub hp))))
            · exact (State.keyed_kept h (fun h20 => (State.keyCommand_kept h20 (Part.sub hp))))
            · exact (Kept.when (State.storeReg_kept h (Part.sub hp)) (fun _ h21 => (State.alarmClear_kept h21 (Part.sub hp))))
            · exact (State.storeReg_kept h (Part.sub hp))

theorem State.writeWord_kept {l s0} {s} {x1} {x2} {x3} (h : Kept l s0 s) (hp : Part.within [.shadow, .dirty, .freeCount, .arith, .lap, .dma, .sram, .sramBad, .sramWeak, .alarm, .recorder, .loops, .pair, .msg, .cal, .call, .jkt, .ports, .afe, .sec, .nvm, .rst, .live, .immediate, .latched, .pwr, .tsync, .rtc, .response, .responseCrc, .regs, .terms, .mirror, .locked, .switchTo, .store] l) :
    Kept l s0 (State.writeWord s x1 x2 x3) := by
  unfold State.writeWord
  split
  · exact (Kept.ite (State.writeHeader_kept h (Part.sub hp)) (Kept.ite (State.storeShadow_kept h (Part.sub hp)) (State.writeBlock_kept h (Part.sub hp))))
  · exact (State.storeShadow_kept h (Part.sub hp))
  · exact h

theorem State.writeAccess_kept {l s0} {s} {x1} {x2} {x3} (h : Kept l s0 s) (hp : Part.within [.sram, .sramBad, .sramWeak, .shadow, .dirty, .freeCount, .arith, .lap, .dma, .alarm, .recorder, .loops, .pair, .msg, .cal, .call, .jkt, .ports, .afe, .sec, .nvm, .rst, .live, .immediate, .latched, .pwr, .tsync, .rtc, .response, .responseCrc, .regs, .terms, .mirror, .locked, .switchTo, .store] l) :
    Kept l s0 (State.writeAccess s x1 x2 x3).2 := by
  unfold State.writeAccess
  split
  · exact (Kept.beside h)
  · split
    · exact (Kept.iteSnd (State.writeSram_kept h (Part.sub hp)) (Kept.beside h))
    · exact (Kept.beside h)
    · exact (Kept.beside h)
    · extract_lets +onlyGivenNames -merge -useContext -underBinder s1
      clear_value s1
      split
      · exact (Kept.beside (Kept.each h (fun _ _ h3 => (State.writeWord_kept h3 (Part.sub hp)))))
      · exact (Kept.beside h)

theorem answered_kept {l s0} {r0 : Sys2Proof.Machine.Answer × Sys2Proof.Machine.State} (hr0 : Kept l s0 r0.2) (hp : Part.within [.status, .response] l) :
    Kept l s0 (answered r0) := by
  unfold answered
  extract_lets +onlyGivenNames -merge -useContext -underBinder s1
  have h2 : Kept l s0 s1 := by unfold s1; exact hr0
  clear_value s1
  exact (h2.upd [.status, .response] (Part.sub hp) (fun p hn => by cases p <;> first | rfl | exact True.intro | exact absurd (by decide) hn) rfl id)

theorem State.chipSelect_kept {l s0} {s} (h : Kept l s0 s) (hp : Part.within [.page 0x4, .head 0x14, .page 0x178, .recorder, .page 0x49, .head 0x24, .page 0x42, .head 0x20, .page 0x41, .page 0x40, .sram, .sramBad, .sramWeak, .msg, .page 0x48, .nvm, .page 0x51, .switched, .pwr, .terms, .immediate, .latched, .pair, .dma, .pages 0x30 0x34, .cal, .page 0x10, .afe, .arith, .lap, .ports, .loops, .jkt, .page 0x1A, .page 0x38, .page 0x19, .alarm, .pages 0x120 0x131, .call, .tsync, .freeCount, .page 0x58, .rtc, .sec, .response, .responseCrc, .page 0x11, .pages 0x8 0x10, .page 0x18, .rst, .page 0x28, .page 0x34, .live, .shadow, .dirty, .page 0x1] l) :
    Kept l s0 (State.chipSelect s) := by
  unfold State.chipSelect
  exact (Kept.ite (State.wakeBy_kept h (Part.sub hp)) h)

theorem State.hostNote_kept {l s0} {s} {x1} {x2} (h : Kept l s0 s) (hp : Part.within [.page 0x60] l) :
    Kept l s0 (State.hostNote s x1 x2) := by
  unfold State.hostNote
  split
  · exact (State.wrap_kept h (HOST.FRAMES.count_zoned (Part.at hp)))
  · exact (State.stick_kept h (HOST.CRCERR.count_zoned (Part.at hp)) (HOST.CNTOVF.crcerr_zoned (Part.at hp)) ZonedOpt.none)
  · exact (State.wr_kept (State.wr_kept h (HOST.LASTERR.status_zoned (Part.at hp))) (HOST.LASTADDR.addr_zoned (Part.at hp)))

theorem State.hostAnswer_kept {l s0} {s} {r1 : Sys2Proof.Machine.Answer × Sys2Proof.Machine.State} (hr1 : Kept l s0 r1.2) (hp : Part.within [.status, .response, .responseCrc, .page 0x60] l) :
    Kept l s0 (State.hostAnswer s r1) := by
  unfold State.hostAnswer
  extract_lets +onlyGivenNames -merge -useContext -underBinder s1 s2
  have h3 : Kept l s0 s1 := by unfold s1; exact (answered_kept hr1 (Part.sub hp))
  have h4 : Kept l s0 s2 := by unfold s2; exact (h3.responseCrc (Part.at hp))
  clear_value s2
  clear_value s1
  exact (Kept.ite (State.hostNote_kept h4 (Part.sub hp)) h4)

theorem State.hostFrame_kept {l s0} {s} {x1} {x2} {x3} {x4} {x5} {f6 : Sys2Proof.Machine.State → Sys2Proof.Machine.Answer × Sys2Proof.Machine.State} (h : Kept l s0 s) (hf6 : ∀ {t}, Kept l s0 t → Kept l s0 (f6 t).2) (hp : Part.within [.page 0x4, .head 0x14, .page 0x178, .recorder, .page 0x49, .head 0x24, .page 0x42, .head 0x20, .page 0x41, .page 0x40, .sram, .sramBad, .sramWeak, .msg, .page 0x48, .nvm, .page 0x51, .switched, .pwr, .terms, .immediate, .latched, .pair, .dma, .pages 0x30 0x34, .cal, .page 0x10, .afe, .arith, .lap, .ports, .loops, .jkt, .page 0x1A, .page 0x38, .page 0x19, .alarm, .pages 0x120 0x131, .call, .tsync, .freeCount, .page 0x58, .rtc, .sec, .response, .responseCrc, .page 0x11, .pages 0x8 0x10, .page 0x18, .rst, .page 0x28, .page 0x34, .live, .shadow, .dirty, .page 0x1, .status, .page 0x60] l) :
    KeptR l s0 (State.hostFrame s x1 x2 x3 x4 x5 f6) := by
  unfold State.hostFrame
  refine KeptR.ite ?_ ?_
  · exact (KeptR.next (State.chipSelect_kept h (Part.sub hp)))
  · extract_lets +onlyGivenNames -merge -useContext -underBinder s1
    have h2 : Kept l s0 s1 := by unfold s1; exact (State.awake_kept h (Part.sub hp))
    clear_value s1
    exact (KeptR.ite (KeptR.next (State.hostAnswer_kept (Kept.beside h2) (Part.sub hp))) (KeptR.next (State.hostAnswer_kept (hf6 h2) (Part.sub hp))))

theorem State.hostReadFrame_kept {l s0} {s} {x1} {x2} {x3} {x4} {x5} (h : Kept l s0 s) (hp : Part.within [.recorder, .sram, .sramBad, .sramWeak, .msg, .nvm, .pwr, .terms, .immediate, .latched, .pair, .dma, .cal, .afe, .arith, .lap, .ports, .loops, .jkt, .alarm, .call, .tsync, .freeCount, .rtc, .sec, .response, .responseCrc, .rst, .live, .shadow, .dirty, .status, .regs] l) :
    KeptR l s0 (State.hostReadFrame s x1 x2 x3 x4 x5) := by
  unfold State.hostReadFrame
  extract_lets +onlyGivenNames -merge -useContext -underBinder s1
  clear_value s1
  extract_lets +onlyGivenNames -merge -useContext -underBinder s3
  clear_value s3
  refine State.hostFrame_kept h (fun h5 => ?_) (Part.sub hp)
  extract_lets +onlyGivenNames -merge -useContext -underBinder s6
  clear_value s6
  exact (Kept.iteSnd (Kept.beside h5) (State.readAccess_kept h5 (Part.sub hp)))

theorem State.hostWriteFrame_kept {l s0} {s} {x1} {x2} {x3} {x4} {x5} (h : Kept l s0 s) (hp : Part.within [.recorder, .sram, .sramBad, .sramWeak, .msg, .nvm, .pwr, .terms, .immediate, .latched, .pair, .dma, .cal, .afe, .arith, .lap, .ports, .loops, .jkt, .alarm, .call, .tsync, .freeCount, .rtc, .sec, .response, .responseCrc, .rst, .live, .shadow, .dirty, .status, .regs, .mirror, .locked, .switchTo, .store] l) :
    KeptR l s0 (State.hostWriteFrame s x1 x2 x3 x4 x5) := by
  unfold State.hostWriteFrame
  extract_lets +onlyGivenNames -merge -useContext -underBinder s1
  clear_value s1
  extract_lets +onlyGivenNames -merge -useContext -underBinder s3
  clear_value s3
  exact (KeptR.ite (KeptR.next (Kept.ite (State.awake_kept h (Part.sub hp)) (State.chipSelect_kept h (Part.sub hp)))) (State.hostFrame_kept h (fun h5 => (Kept.iteSnd (Kept.beside h5) (State.writeAccess_kept h5 (Part.sub hp)))) (Part.sub hp)))

theorem execHostRead_kept {l s0} {x0} {x1} {x2} {x3} {s} (h : Kept l s0 s) (hp : Part.within [.recorder, .sram, .sramBad, .sramWeak, .msg, .nvm, .pwr, .terms, .immediate, .latched, .pair, .dma, .cal, .afe, .arith, .lap, .ports, .loops, .jkt, .alarm, .call, .tsync, .freeCount, .rtc, .sec, .response, .responseCrc, .rst, .live, .shadow, .dirty, .status, .regs] l) :
    KeptR l s0 (execHostRead x0 x1 x2 x3 s) := by
  unfold execHostRead
  exact (State.hostReadFrame_kept h (Part.sub hp))

theorem execHostRead4_kept {l s0} {x0} {x1} {x2} {x3} {s} (h : Kept l s0 s) (hp : Part.within [.recorder, .sram, .sramBad, .sramWeak, .msg, .nvm, .pwr, .terms, .immediate, .latched, .pair, .dma, .cal, .afe, .arith, .lap, .ports, .loops, .jkt, .alarm, .call, .tsync, .freeCount, .rtc, .sec, .response, .responseCrc, .rst, .live, .shadow, .dirty, .status, .regs] l) :
    KeptR l s0 (execHostRead4 x0 x1 x2 x3 s) := by
  unfold execHostRead4
  exact (State.hostReadFrame_kept h (Part.sub hp))

theorem execHostWrite_kept {l s0} {x0} {x1} {x2} {x3} {s} (h : Kept l s0 s) (hp : Part.within [.recorder, .sram, .sramBad, .sramWeak, .msg, .nvm, .pwr, .terms, .immediate, .latched, .pair, .dma, .cal, .afe, .arith, .lap, .ports, .loops, .jkt, .alarm, .call, .tsync, .freeCount, .rtc, .sec, .response, .responseCrc, .rst, .live, .shadow, .dirty, .status, .regs, .mirror, .locked, .switchTo, .store] l) :
    KeptR l s0 (execHostWrite x0 x1 x2 x3 s) := by
  unfold execHostWrite
  exact (State.hostWriteFrame_kept h (Part.sub hp))

theorem execHostWrite4_kept {l s0} {x0} {x1} {x2} {x3} {s} (h : Kept l s0 s) (hp : Part.within [.recorder, .sram, .sramBad, .sramWeak, .msg, .nvm, .pwr, .terms, .immediate, .latched, .pair, .dma, .cal, .afe, .arith, .lap, .ports, .loops, .jkt, .alarm, .call, .tsync, .freeCount, .rtc, .sec, .response, .responseCrc, .rst, .live, .shadow, .dirty, .status, .regs, .mirror, .locked, .switchTo, .store] l) :
    KeptR l s0 (execHostWrite4 x0 x1 x2 x3 s) := by
  unfold execHostWrite4
  exact (State.hostWriteFrame_kept h (Part.sub hp))

theorem execHostResetFrame_kept {l s0} {x0 x1 x2} {s} (h : Kept l s0 s) (hp : Part.within [.status, .response, .responseCrc, .recorder, .sram, .sramBad, .sramWeak, .msg, .nvm, .pwr, .terms, .immediate, .latched, .pair, .dma, .cal, .afe, .arith, .lap, .ports, .loops, .jkt, .alarm, .call, .tsync, .freeCount, .rtc, .sec, .rst, .live, .shadow, .dirty, .regs, .mirror, .locked] l) : KeptR l s0 (execHostResetFrame x0 x1 x2 s) := by
  unfold execHostResetFrame
  intro t e
  simp only [] at e
  split at e
  · next u hu =>
    have k : Kept l s0 u := State.hostFrame_kept h (fun k => k) (Part.sub hp) u hu
    injection e with e
    subst e
    refine Kept.ite ?_ k
    exact (State.assertReset_kept (x1 := 9) (x2 := false) k (Part.sub hp)).upd [.status, .response, .responseCrc] (Part.sub hp)
      (fun p hn => by cases p <;> first | rfl | exact True.intro | exact absurd (by decide) hn) rfl id
  · next r hr =>
    exact State.hostFrame_kept h (fun k => k) (Part.sub hp) t e

theorem execUnknownCommandFrame_kept {l s0} {x0} {s} (h : Kept l s0 s) (hp : Part.within [.page 0x4, .head 0x14, .page 0x178, .recorder, .page 0x49, .head 0x24, .page 0x42, .head 0x20, .page 0x41, .page 0x40, .sram, .sramBad, .sramWeak, .msg, .page 0x48, .nvm, .page 0x51, .switched, .pwr, .terms, .immediate, .latched, .pair, .dma, .pages 0x30 0x34, .cal, .page 0x10, .afe, .arith, .lap, .ports, .loops, .jkt, .page 0x1A, .page 0x38, .page 0x19, .alarm, .pages 0x120 0x131, .call, .tsync, .freeCount, .page 0x58, .rtc, .sec, .response, .responseCrc, .page 0x11, .pages 0x8 0x10, .page 0x18, .rst, .page 0x28, .page 0x34, .live, .shadow, .dirty, .page 0x1, .status, .page 0x60] l) :
    KeptR l s0 (execUnknownCommandFrame x0 s) := by
  unfold execUnknownCommandFrame
  exact (KeptR.ite (KeptR.next h) (KeptR.ite (KeptR.next (State.chipSelect_kept h (Part.sub hp))) (KeptR.next (State.hostAnswer_kept (Kept.beside (State.awake_kept h (Part.sub hp))) (Part.sub hp)))))

theorem execHostFrameCutShort_kept {l s0} {s} (h : Kept l s0 s) (hp : Part.within [.page 0x1, .page 0x4, .head 0x14, .page 0x178, .recorder, .page 0x49, .head 0x24, .page 0x42, .head 0x20, .page 0x41, .page 0x40, .sram, .sramBad, .sramWeak, .msg, .page 0x48, .nvm, .page 0x51, .switched, .pwr, .terms, .immediate, .latched, .pair, .dma, .pages 0x30 0x34, .cal, .page 0x10, .afe, .arith, .lap, .ports, .loops, .jkt, .page 0x1A, .page 0x38, .page 0x19, .alarm, .pages 0x120 0x131, .call, .tsync, .freeCount, .page 0x58, .rtc, .sec, .response, .responseCrc, .page 0x11, .pages 0x8 0x10, .page 0x18, .rst, .page 0x28, .page 0x34, .live, .shadow, .dirty] l) :
    KeptR l s0 (execHostFrameCutShort s) := by
  unfold execHostFrameCutShort
  exact (KeptR.next (Kept.ite (State.awake_kept h (Part.sub hp)) (State.chipSelect_kept h (Part.sub hp))))

theorem execHostStatusTimeout_kept {l s0} {x0} {s} (h : Kept l s0 s) (hp : Part.within [.status, .response, .responseCrc, .page 0x60, .page 0x1] l) :
    KeptR l s0 (execHostStatusTimeout x0 s) := by
  unfold execHostStatusTimeout
  exact (KeptR.ite (KeptR.next h) (KeptR.next (State.hostAnswer_kept (Kept.beside (State.awake_kept h (Part.sub hp))) (Part.sub hp))))

theorem execRegisterWrite_kept {l s0} {x0} {x1} {x2} {s} (h : Kept l s0 s) (hp : Part.within [.status, .response, .sram, .sramBad, .sramWeak, .shadow, .dirty, .freeCount, .arith, .lap, .dma, .alarm, .recorder, .loops, .pair, .msg, .cal, .call, .jkt, .ports, .afe, .sec, .nvm, .rst, .live, .immediate, .latched, .pwr, .tsync, .rtc, .responseCrc, .regs, .terms, .mirror, .locked, .switchTo, .store] l) :
    KeptR l s0 (execRegisterWrite x0 x1 x2 s) := by
  unfold execRegisterWrite
  exact (KeptR.ite (KeptR.next h) (KeptR.next (answered_kept (State.writeAccess_kept (State.awake_kept h (Part.sub hp)) (Part.sub hp)) (Part.sub hp))))

theorem execRegaccReceived_kept {l s0} {x0} {x1} {s} (h : Kept l s0 s) (hp : Part.within [.pair, .sramWeak, .freeCount, .rtc, .latched, .regs, .sram, .sramBad, .shadow, .dirty, .arith, .lap, .dma, .alarm, .recorder, .loops, .msg, .cal, .call, .jkt, .ports, .afe, .sec, .nvm, .rst, .live, .immediate, .pwr, .tsync, .response, .responseCrc, .terms, .mirror, .locked, .switchTo, .store, .status] l) :
    KeptR l s0 (execRegaccReceived x0 x1 s) := by
  unfold execRegaccReceived
  refine State.fromPartner_kept h (fun h1 => ?_) (Part.sub hp)
  extract_lets +onlyGivenNames -merge -useContext -underBinder s2
  clear_value s2
  extract_lets +onlyGivenNames -merge -useContext -underBinder s4
  clear_value s4
  extract_lets +onlyGivenNames -merge -useContext -underBinder s6
  clear_value s6
  refine Kept.ite ?_ ?_
  · exact h1
  · extract_lets +onlyGivenNames -merge -useContext -underBinder s8
    have h9 : Kept l s0 s8 := by unfold s8; exact (State.awake_kept h1 (Part.sub hp))
    clear_value s8
    extract_lets +onlyGivenNames -merge -useContext -underBinder s10
    have h11 : Kept l s0 s10.2 := by unfold s10; exact (Kept.iteSnd (Kept.beside h9) (Kept.iteSnd (State.readAccess_kept h9 (Part.sub hp)) (State.writeAccess_kept h9 (Part.sub hp))))
    clear_value s10
    exact (State.uhlizSend_kept (answered_kept h11 (Part.sub hp)) (Part.sub hp))

theorem execTimeSetCommand_kept {l s0} {x0} {s} (h : Kept l s0 s) (hp : Part.within [.page 0x1, .status, .tsync, .head 0x14] l) :
    KeptR l s0 (execTimeSetCommand x0 s) := by
  unfold execTimeSetCommand
  exact (State.command_kept h (fun h1 => (State.timeSet_kept h1 (Part.sub hp))) (Part.sub hp))

end Sys2Proof.Machine
end

