-- ==== Sys2Proof/Laws/Msg.lean ====
section
/-!
SUPPORT. What each operation of Machine/Msg.lean can change: one lemma per operation, named after it. An operation started in a
state that has kept all parts of an earlier one but some keeps all but those and the parts that its lemma lists, and the
canonical form of the sparse maps with them.
-/

set_option Elab.async false

namespace Sys2Proof.Machine

theorem State.applyCommand_kept {l s0} {s} {x1} (h : Kept l s0 s) (hp : Part.within [.page 0x20, .msg, .pair, .alarm, .pages 0x120 0x130, .head 0x14, .page 0x130, .dma, .head 0x24, .page 0x42, .head 0x20, .page 0x41, .page 0x40, .sram, .sramBad, .sramWeak, .recorder, .page 0x49, .page 0x178, .page 0x28, .call, .page 0x38, .lap, .ports, .pages 0x30 0x34, .page 0x35, .tsync, .loops, .page 0x18, .jkt, .page 0x19, .page 0x10, .cal] l) :
    Kept l s0 (State.applyCommand s x1) := by
  unfold State.applyCommand
  extract_lets +onlyGivenNames -merge -useContext -underBinder s1
  clear_value s1
  extract_lets +onlyGivenNames -merge -useContext -underBinder s3
  clear_value s3
  extract_lets +onlyGivenNames -merge -useContext -underBinder s5
  clear_value s5
  extract_lets +onlyGivenNames -merge -useContext -underBinder s7
  clear_value s7
  extract_lets +onlyGivenNames -merge -useContext -underBinder s9
  clear_value s9
  extract_lets +onlyGivenNames -merge -useContext -underBinder s11
  have h12 : Kept l s0 s11 := by unfold s11; exact (Kept.ite (State.wr_kept h (ALM.CMDARG_zoned (Part.at hp))) h)
  clear_value s11
  refine Kept.ite ?_ ?_
  · exact (State.replyTo_kept h12 (Part.sub hp))
  · split
    · exact (State.almCommand_kept h12 (Part.sub hp))
    · exact (State.callCommand_kept h12 (Part.sub hp))
    · exact (State.pairCommand_kept h12 (Part.sub hp))
    · exact (State.calCommand_kept h12 (Part.sub hp))

theorem State.dropRequest_kept {l s0} {s} (h : Kept l s0 s) (hp : Part.within [.page 0x34, .head 0x14] l) :
    Kept l s0 (State.dropRequest s) := by
  unfold State.dropRequest
  exact (State.irq_kept (State.stick_kept h (MSG.FRAGDROP.count_zoned (Part.at hp)) (MSG.CNTOVF.frag_zoned (Part.at hp)) (ZonedOpt.some (MSG.IRQRAW.cnt_ovf_zoned (Part.at hp)))) (MSG.IRQRAW.frag_drop_zoned (Part.at hp)))

theorem State.respond_kept {l s0} {s} {x1} {x2} (h : Kept l s0 s) (hp : Part.within [.msg, .head 0x24, .head 0x14, .page 0x34, .head 0x20] l) :
    Kept l s0 (State.respond s x1 x2) := by
  unfold State.respond
  extract_lets +onlyGivenNames -merge -useContext -underBinder s1
  clear_value s1
  extract_lets +onlyGivenNames -merge -useContext -underBinder s3
  clear_value s3
  extract_lets +onlyGivenNames -merge -useContext -underBinder s5
  clear_value s5
  exact (State.sendFragments_kept h (Part.sub hp))

theorem State.carryOut_kept {l s0} {s} {x1} {x2} (h : Kept l s0 s) (hp : Part.within [.sramWeak, .freeCount, .rtc, .latched, .regs, .sram, .sramBad, .shadow, .dirty, .arith, .lap, .dma, .alarm, .recorder, .loops, .pair, .msg, .cal, .call, .jkt, .ports, .afe, .sec, .nvm, .rst, .live, .immediate, .pwr, .tsync, .response, .responseCrc, .terms, .mirror, .locked, .switchTo, .store, .status] l) :
    Kept l s0 (State.carryOut s x1 x2) := by
  unfold State.carryOut
  extract_lets +onlyGivenNames -merge -useContext -underBinder s1
  clear_value s1
  extract_lets +onlyGivenNames -merge -useContext -underBinder s3
  have h4 : Kept l s0 s3 := by unfold s3; exact (State.awake_kept h (Part.sub hp))
  clear_value s3
  extract_lets +onlyGivenNames -merge -useContext -underBinder s5
  have h6 : Kept l s0 s5.2 := by unfold s5; exact (Kept.iteSnd (Kept.beside h4) (Kept.iteSnd (Kept.beside h4) (Kept.iteSnd (State.readAccess_kept h4 (Part.sub hp)) (State.writeAccess_kept h4 (Part.sub hp)))))
  clear_value s5
  exact (Kept.ite (State.dropRequest_kept h (Part.sub hp)) (State.respond_kept (answered_kept h6 (Part.sub hp)) (Part.sub hp)))

theorem State.consume_kept {l s0} {s} {x1} {f2 : Sys2Proof.Machine.State → Sys2Proof.Machine.Accepted → Sys2Proof.Machine.State} (h : Kept l s0 s) (hf2 : ∀ {t} {y1}, Kept l s0 t → Kept l s0 (f2 t y1)) (hp : Part.within [.msg, .head 0x24, .head 0x14, .page 0x34, .head 0x20, .pages 0x30 0x34, .ports] l) :
    KeptR l s0 (State.consume s x1 f2) := by
  unfold State.consume
  refine KeptR.ite ?_ ?_
  · exact (KeptR.next h)
  · split
    · exact (KeptR.next h)
    · exact (KeptR.next (State.pump_kept (hf2 (State.modMsg_kept h (Part.sub hp))) (Part.sub hp)))

theorem State.deliverFrame_kept {l s0} {s} {x1} {x2} {x3} {x4} (h : Kept l s0 s) (hp : Part.within [.msg] l) :
    Kept l s0 (State.deliverFrame s x1 x2 x3 x4) := by
  unfold State.deliverFrame
  extract_lets +onlyGivenNames -merge -useContext -underBinder s1
  clear_value s1
  extract_lets +onlyGivenNames -merge -useContext -underBinder s3
  clear_value s3
  exact (Kept.ite (State.modMsg_kept h (Part.sub hp)) h)

theorem State.reject_kept {l s0} {s} {x1} {x2} (h : Kept l s0 s) (hp : Part.within [.page 0x34, .head 0x14] l) :
    Kept l s0 (State.reject s x1 x2) := by
  unfold State.reject
  exact (State.irq_kept (State.wr_kept (State.wr_kept (State.wr_kept h (MSG.LASTREJ.source_zoned (Part.at hp))) (MSG.LASTREJ.type__zoned (Part.at hp))) (MSG.LASTREJ.reason_zoned (Part.at hp))) (MSG.IRQRAW.rx_reject_zoned (Part.at hp)))

theorem State.stepBy_kept {l s0} {s} {x1} (h : Kept l s0 s) (hp : Part.within [.tsync] l) :
    Kept l s0 (State.stepBy s x1) := by
  unfold State.stepBy
  exact (h.tsync (Part.at hp))

theorem State.nearLock_kept {l s0} {s} {x1} (h : Kept l s0 s) (hp : Part.within [.tsync, .page 0x35, .head 0x14] l) :
    Kept l s0 (State.nearLock s x1) := by
  unfold State.nearLock
  extract_lets +onlyGivenNames -merge -useContext -underBinder s1
  clear_value s1
  extract_lets +onlyGivenNames -merge -useContext -underBinder s3 s4
  have h6 : Kept l s0 s4 := by unfold s4; exact (h.tsync (Part.at hp))
  clear_value s4
  clear_value s3
  extract_lets +onlyGivenNames -merge -useContext -underBinder s7
  clear_value s7
  refine Kept.ite ?_ ?_
  · extract_lets +onlyGivenNames -merge -useContext -underBinder s9 s10
    have h12 : Kept l s0 s10 := by unfold s10; exact (h6.tsync (Part.at hp))
    clear_value s10
    clear_value s9
    exact (State.irq_kept (State.wr_kept h12 (TSYNC.STATE.state_zoned (Part.at hp))) (TSYNC.IRQRAW.locked_zoned (Part.at hp)))
  · exact h6

theorem State.slew_kept {l s0} {s} {x1} {x2} (h : Kept l s0 s) (hp : Part.within [.freeCount, .page 0x35] l) :
    Kept l s0 (State.slew s x1 x2) := by
  unfold State.slew
  refine Kept.ite ?_ ?_
  · split
    · rename_i x2 s13 q8
      have h1 : Kept l s0 s13 := Kept.snd q8 (State.draw_kept h (Part.sub hp))
      split
      · rename_i y5 s26 q7
        have h4 : Kept l s0 s26 := Kept.snd q7 (State.draw_kept h1 (Part.sub hp))
        exact (State.wrInt_kept (State.wrInt_kept h4 (TSYNC.FREQ.ppb_zoned (Part.at hp))) (TSYNC.ADJ.ppb_zoned (Part.at hp)))
  · extract_lets +onlyGivenNames -merge -useContext -underBinder s9
    clear_value s9
    extract_lets +onlyGivenNames -merge -useContext -underBinder s11
    clear_value s11
    exact (State.wrInt_kept (State.wrInt_kept h (TSYNC.FREQ.ppb_zoned (Part.at hp))) (TSYNC.ADJ.ppb_zoned (Part.at hp)))

theorem State.takePair_kept {l s0} {s} {x1} {x2} {x3} {x4} {x5} (h : Kept l s0 s) (hp : Part.within [.page 0x35, .tsync, .head 0x14, .freeCount, .head 0x24, .head 0x20] l) :
    Kept l s0 (State.takePair s x1 x2 x3 x4 x5) := by
  unfold State.takePair
  extract_lets +onlyGivenNames -merge -useContext -underBinder s1
  clear_value s1
  extract_lets +onlyGivenNames -merge -useContext -underBinder s3
  clear_value s3
  extract_lets +onlyGivenNames -merge -useContext -underBinder s5
  clear_value s5
  extract_lets +onlyGivenNames -merge -useContext -underBinder s7
  clear_value s7
  extract_lets +onlyGivenNames -merge -useContext -underBinder s9
  have h10 : Kept l s0 s9 := by unfold s9; exact (State.wrap_kept (State.wr_kept (State.wr_kept (State.wr_kept (State.wrInt_kept h (TSYNC.OFFSET.us_zoned (Part.at hp))) (TSYNC.STATE.net_zoned (Part.at hp))) (TSYNC.STATE.hops_zoned (Part.at hp))) (TSYNC.STATE.srcnid_zoned (Part.at hp))) (TSYNC.SYNCCNT.count_zoned (Part.at hp)))
  clear_value s9
  extract_lets +onlyGivenNames -merge -useContext -underBinder s11 s12
  have h14 : Kept l s0 s12 := by unfold s12; exact (h10.tsync (Part.at hp))
  clear_value s12
  clear_value s11
  exact (Kept.ite (State.wr_kept (State.stepBy_kept h14 (Part.sub hp)) (TSYNC.STATE.state_zoned (Part.at hp))) (Kept.ite (State.nearLock_kept (State.slew_kept h14 (Part.sub hp)) (Part.sub hp)) (Kept.ite (State.stepBy_kept h14 (Part.sub hp)) (Kept.ite (State.fault_kept (State.stepBy_kept h14 (Part.sub hp)) (TSYNC.FAULT.step_zoned (Part.at hp)) (Part.sub hp)) (State.fault_kept (State.wrInt_kept (h14.tsync (Part.at hp)) (TSYNC.ADJ.ppb_zoned (Part.at hp))) (TSYNC.FAULT.step_zoned (Part.at hp)) (Part.sub hp))))))

theorem State.followUp_kept {l s0} {s} {x1} (h : Kept l s0 s) (hp : Part.within [.page 0x34, .head 0x14, .head 0x24, .head 0x20, .tsync, .page 0x35, .freeCount] l) :
    Kept l s0 (State.followUp s x1) := by
  unfold State.followUp
  extract_lets +onlyGivenNames -merge -useContext -underBinder s1
  clear_value s1
  extract_lets +onlyGivenNames -merge -useContext -underBinder s3
  clear_value s3
  extract_lets +onlyGivenNames -merge -useContext -underBinder s5
  clear_value s5
  refine Kept.ite ?_ ?_
  · exact (State.reject_kept (State.fault_kept h (TSYNC.FAULT.hops_zoned (Part.at hp)) (Part.sub hp)) (Part.sub hp))
  · split
    · exact h
    · refine Kept.ite ?_ ?_
      · exact h
      · extract_lets +onlyGivenNames -merge -useContext -underBinder s7 s8
        have h10 : Kept l s0 s8 := by unfold s8; exact (h.tsync (Part.at hp))
        clear_value s8
        clear_value s7
        refine Kept.ite ?_ ?_
        · exact (h10.tsync (Part.at hp))
        · extract_lets +onlyGivenNames -merge -useContext -underBinder s11 s12
          have h14 : Kept l s0 s12 := by unfold s12; exact (h10.tsync (Part.at hp))
          clear_value s12
          clear_value s11
          exact (State.takePair_kept h14 (Part.sub hp))

theorem State.forwardFrame_kept {l s0} {s} {x1} {x2} {x3} {x4} (h : Kept l s0 s) (hp : Part.within [.head 0x24, .head 0x14, .page 0x34, .head 0x20, .msg] l) :
    Kept l s0 (State.forwardFrame s x1 x2 x3 x4) := by
  unfold State.forwardFrame
  extract_lets +onlyGivenNames -merge -useContext -underBinder s1
  clear_value s1
  extract_lets +onlyGivenNames -merge -useContext -underBinder s3
  clear_value s3
  extract_lets +onlyGivenNames -merge -useContext -underBinder s5
  clear_value s5
  refine Kept.ite ?_ ?_
  · exact h
  · extract_lets +onlyGivenNames -merge -useContext -underBinder s7
    clear_value s7
    exact (State.wrap_kept (State.enqueue_kept (State.modMsg_kept h (Part.sub hp)) (Part.sub hp)) (MSG.FWDCNT.count_zoned (Part.at hp)))

theorem State.foundTwice_kept {l s0} {s} (h : Kept l s0 s) (hp : Part.within [.msg, .ports, .pages 0x30 0x34, .head 0x14, .head 0x24, .page 0x34, .head 0x20] l) :
    Kept l s0 (State.foundTwice s) := by
  unfold State.foundTwice
  exact (State.purge_kept (State.irq_kept (State.fault_kept (State.wr_kept h (MSG.STAT.dupaddr_zoned (Part.at hp))) (MSG.FAULT.dupaddr_zoned (Part.at hp)) (Part.sub hp)) (MSG.IRQRAW.dupaddr_zoned (Part.at hp))) (Part.sub hp))

theorem State.notVerified_kept {l s0} {s} {x1} (h : Kept l s0 s) (hp : Part.within [.page 0x34, .head 0x14, .sec, .page 0x5A, .page 0x59, .head 0x24, .head 0x20, .page 0x51, .page 0x3, .page 0x58, .page 0x48, .recorder, .page 0x49, .page 0x42, .page 0x41, .page 0x40, .sram, .sramBad, .sramWeak, .msg, .page 0x178] l) :
    Kept l s0 (State.notVerified s x1) := by
  unfold State.notVerified
  extract_lets +onlyGivenNames -merge -useContext -underBinder s1
  have h2 : Kept l s0 s1 := by unfold s1; exact (State.reject_kept (State.stick_kept h (MSG.AUTHFAIL.count_zoned (Part.at hp)) (MSG.CNTOVF.auth_zoned (Part.at hp)) (ZonedOpt.some (MSG.IRQRAW.cnt_event_zoned (Part.at hp)))) (Part.sub hp))
  clear_value s1
  exact (Kept.ite h2 (State.macFailed_kept h2 (Part.sub hp)))

theorem State.oldestEntry_kept {l s0} {s} (h : Kept l s0 s) (hp : Part.within [.page 0x40, .head 0x14, .sramWeak, .head 0x24, .head 0x20] l) :
    Kept l s0 (State.oldestEntry s).2 := by
  unfold State.oldestEntry
  exact (State.sramRead_kept h (Part.sub hp))

theorem State.releaseEntry_kept {l s0} {s} (h : Kept l s0 s) (hp : Part.within [.page 0x20, .alarm] l) :
    Kept l s0 (State.releaseEntry s) := by
  unfold State.releaseEntry
  exact (State.rescanAfterDrops_kept (State.showQueue_kept (State.wrap_kept h (ALM.NQREL.index_zoned (Part.at hp))) (Part.sub hp)) (Part.sub hp))

theorem State.sendResult_kept {l s0} {s} {x1} {x2} {x3} (h : Kept l s0 s) (hp : Part.within [.msg, .head 0x24, .head 0x14, .page 0x34, .head 0x20] l) :
    Kept l s0 (State.sendResult s x1 x2 x3) := by
  unfold State.sendResult
  exact (State.sendTml_kept h (Part.sub hp))

theorem State.sendResults_kept {l s0} {s} (h : Kept l s0 s) (hp : Part.within [.msg, .head 0x24, .head 0x14, .page 0x34, .head 0x20] l) :
    Kept l s0 (State.sendResults s) := by
  unfold State.sendResults
  exact (Kept.ite h (Kept.each (State.modMsg_kept h (Part.sub hp)) (fun _ _ h1 => (State.sendResult_kept h1 (Part.sub hp)))))

theorem State.takeUnauth_kept {l s0} {s} {x1} {x2} {x3} {x4} (h : Kept l s0 s) (hp : Part.within [.page 0x34, .head 0x14, .msg] l) :
    Kept l s0 (State.takeUnauth s x1 x2 x3 x4) := by
  unfold State.takeUnauth
  exact (Kept.ite h (Kept.ite (State.reject_kept h (Part.sub hp)) (State.irq_kept (State.deliverFrame_kept h (Part.sub hp)) (MSG.IRQRAW.unauth_rx_zoned (Part.at hp)))))

theorem State.takeFresh_kept {l s0} {s} {x1} {x2} {x3} {x4} {x5} {x6} (h : Kept l s0 s) (hp : Part.within [.page 0x34, .head 0x14, .msg, .ports, .pages 0x30 0x34, .head 0x24, .head 0x20] l) :
    Kept l s0 (State.takeFresh s x1 x2 x3 x4 x5 x6) := by
  unfold State.takeFresh
  extract_lets +onlyGivenNames -merge -useContext -underBinder s1
  clear_value s1
  extract_lets +onlyGivenNames -merge -useContext -underBinder s3
  clear_value s3
  extract_lets +onlyGivenNames -merge -useContext -underBinder s5
  clear_value s5
  extract_lets +onlyGivenNames -merge -useContext -underBinder s7
  clear_value s7
  extract_lets +onlyGivenNames -merge -useContext -underBinder s9
  clear_value s9
  refine Kept.ite ?_ ?_
  · exact (State.reject_kept h (Part.sub hp))
  · refine Kept.ite ?_ ?_
    · exact (State.wrap_kept h (MSG.DUPCNT.count_zoned (Part.at hp)))
    · extract_lets +onlyGivenNames -merge -useContext -underBinder s11
      have h12 : Kept l s0 s11 := by unfold s11; exact (State.modMsg_kept (State.wrap_kept h (MSG.RXCNT.count_zoned (Part.at hp))) (Part.sub hp))
      clear_value s11
      extract_lets +onlyGivenNames -merge -useContext -underBinder s13
      clear_value s13
      extract_lets +onlyGivenNames -merge -useContext -underBinder s15
      have h16 : Kept l s0 s15 := by unfold s15; exact (Kept.ite (State.foundTwice_kept h12 (Part.sub hp)) h12)
      clear_value s15
      exact (Kept.ite h16 (State.forwardFrame_kept (State.deliverFrame_kept h16 (Part.sub hp)) (Part.sub hp)))

theorem State.takeFrame_kept {l s0} {s} {x1} {x2} {x3} {x4} (h : Kept l s0 s) (hp : Part.within [.page 0x34, .head 0x14, .msg, .sec, .page 0x5A, .page 0x59, .head 0x24, .head 0x20, .page 0x51, .page 0x3, .page 0x58, .page 0x48, .recorder, .page 0x49, .page 0x42, .page 0x41, .page 0x40, .sram, .sramBad, .sramWeak, .page 0x178, .ports, .pages 0x30 0x34] l) :
    Kept l s0 (State.takeFrame s x1 x2 x3 x4) := by
  unfold State.takeFrame
  extract_lets +onlyGivenNames -merge -useContext -underBinder s1
  clear_value s1
  extract_lets +onlyGivenNames -merge -useContext -underBinder s3
  clear_value s3
  extract_lets +onlyGivenNames -merge -useContext -underBinder s5
  clear_value s5
  split
  · exact h
  · refine Kept.ite ?_ ?_
    · exact (State.reject_kept h (Part.sub hp))
    · extract_lets +onlyGivenNames -merge -useContext -underBinder s7
      clear_value s7
      extract_lets +onlyGivenNames -merge -useContext -underBinder s9
      clear_value s9
      refine Kept.ite ?_ ?_
      · exact (State.takeUnauth_kept h (Part.sub hp))
      · split
        · exact (State.notVerified_kept h (Part.sub hp))
        · split
          · exact (State.notVerified_kept h (Part.sub hp))
          · exact (Kept.ite (State.notVerified_kept h (Part.sub hp)) (Kept.ite (State.reject_kept (State.stick_kept h (MSG.ROLEFAIL.count_zoned (Part.at hp)) (MSG.CNTOVF.role_zoned (Part.at hp)) (ZonedOpt.some (MSG.IRQRAW.cnt_ovf_zoned (Part.at hp)))) (Part.sub hp)) (State.takeFresh_kept h (Part.sub hp))))

theorem execDemandSend_kept {l s0} {s} (h : Kept l s0 s) (hp : Part.within [.msg, .head 0x24, .head 0x14, .page 0x34, .head 0x20, .pages 0x30 0x34, .ports, .call] l) :
    KeptR l s0 (execDemandSend s) := by
  unfold execDemandSend
  refine KeptR.ite ?_ ?_
  · exact (KeptR.next h)
  · extract_lets +onlyGivenNames -merge -useContext -underBinder s1
    clear_value s1
    extract_lets +onlyGivenNames -merge -useContext -underBinder s3
    clear_value s3
    exact (KeptR.next (State.pump_kept (State.modCall_kept (State.sendTml_kept h (Part.sub hp)) (Part.sub hp)) (Part.sub hp)))

theorem execNotificationConsume_kept {l s0} {s} (h : Kept l s0 s) (hp : Part.within [.page 0x20, .alarm, .page 0x40, .head 0x14, .sramWeak, .head 0x24, .head 0x20, .msg, .page 0x34, .pages 0x30 0x34, .ports] l) :
    KeptR l s0 (execNotificationConsume s) := by
  unfold execNotificationConsume
  extract_lets +onlyGivenNames -merge -useContext -underBinder s1
  clear_value s1
  refine KeptR.ite ?_ ?_
  · exact (KeptR.next h)
  · refine KeptR.ite ?_ ?_
    · exact (KeptR.next (State.releaseEntry_kept h (Part.sub hp)))
    · refine KeptR.ite ?_ ?_
      · exact (KeptR.next h)
      · split
        · rename_i s14 q5
          have h3 : Kept l s0 s14 := Kept.snd q5 (State.oldestEntry_kept h (Part.sub hp))
          exact (KeptR.next (State.releaseEntry_kept h3 (Part.sub hp)))
        · rename_i e7 s18 q11
          have h6 : Kept l s0 s18 := Kept.snd q11 (State.oldestEntry_kept h (Part.sub hp))
          extract_lets +onlyGivenNames -merge -useContext -underBinder s9
          clear_value s9
          exact (KeptR.next (Kept.ite h6 (State.pump_kept (State.releaseEntry_kept (State.sendTml_kept h6 (Part.sub hp)) (Part.sub hp)) (Part.sub hp))))

theorem execTmlFrameAccept_kept {l s0} {x0} {x1} {s} (h : Kept l s0 s) (hp : Part.within [.page 0x40, .head 0x14, .sramWeak, .head 0x24, .head 0x20, .pages 0x30 0x34, .msg, .page 0x34, .ports, .sec, .page 0x5A, .page 0x59, .page 0x51, .page 0x3, .page 0x58, .page 0x48, .recorder, .page 0x49, .page 0x42, .page 0x41, .sram, .sramBad, .page 0x178] l) :
    KeptR l s0 (execTmlFrameAccept x0 x1 s) := by
  unfold execTmlFrameAccept
  refine KeptR.ite ?_ ?_
  · exact (KeptR.next h)
  · extract_lets +onlyGivenNames -merge -useContext -underBinder s1
    clear_value s1
    split
    · rename_i r4 s15 q14
      have h3 : Kept l s0 s15 := Kept.snd q14 (State.sramRead_kept h (Part.sub hp))
      extract_lets +onlyGivenNames -merge -useContext -underBinder s6
      have h7 : Kept l s0 s6 := by unfold s6; exact (State.wrap_kept h3 (BUS.RXREL.index_zoned (Part.at hp)))
      clear_value s6
      split
      · exact (KeptR.next h7)
      · extract_lets +onlyGivenNames -merge -useContext -underBinder s8
        clear_value s8
        extract_lets +onlyGivenNames -merge -useContext -underBinder s10
        clear_value s10
        refine KeptR.ite ?_ ?_
        · exact (KeptR.next h7)
        · extract_lets +onlyGivenNames -merge -useContext -underBinder s12
          clear_value s12
          exact (KeptR.next (State.pump_kept (State.takeFrame_kept h7 (Part.sub hp)) (Part.sub hp)))

theorem execCommandMessage_kept {l s0} {s} (h : Kept l s0 s) (hp : Part.within [.msg, .head 0x24, .head 0x14, .page 0x34, .head 0x20, .pages 0x30 0x34, .ports, .page 0x20, .pair, .alarm, .pages 0x120 0x130, .page 0x130, .dma, .page 0x42, .page 0x41, .page 0x40, .sram, .sramBad, .sramWeak, .recorder, .page 0x49, .page 0x178, .page 0x28, .call, .page 0x38, .lap, .page 0x35, .tsync, .loops, .page 0x18, .jkt, .page 0x19, .page 0x10, .cal] l) :
    KeptR l s0 (execCommandMessage s) := by
  unfold execCommandMessage
  exact (State.consume_kept h (fun h1 => (State.sendResults_kept (State.applyCommand_kept h1 (Part.sub hp)) (Part.sub hp))) (Part.sub hp))

theorem execUnknownBlockCommand_kept {l s0} {s} (h : Kept l s0 s) (hp : Part.within [.msg, .head 0x24, .head 0x14, .page 0x34, .head 0x20, .pages 0x30 0x34, .ports] l) :
    KeptR l s0 (execUnknownBlockCommand s) := by
  unfold execUnknownBlockCommand
  exact (State.consume_kept h (fun h1 => (Kept.ite (State.sendResult_kept (State.reject_kept h1 (Part.sub hp)) (Part.sub hp)) h1)) (Part.sub hp))

theorem execCallAckMessage_kept {l s0} {s} (h : Kept l s0 s) (hp : Part.within [.msg, .head 0x24, .head 0x14, .page 0x34, .head 0x20, .pages 0x30 0x34, .ports, .page 0x28, .pair, .call, .alarm] l) :
    KeptR l s0 (execCallAckMessage s) := by
  unfold execCallAckMessage
  refine State.consume_kept h (fun h1 => ?_) (Part.sub hp)
  extract_lets +onlyGivenNames -merge -useContext -underBinder s2
  clear_value s2
  exact (Kept.ite h1 (State.callCommand_kept h1 (Part.sub hp)))

theorem execCpPresenceMessage_kept {l s0} {s} (h : Kept l s0 s) (hp : Part.within [.msg, .head 0x24, .head 0x14, .page 0x34, .head 0x20, .pages 0x30 0x34, .ports, .call, .page 0x28] l) :
    KeptR l s0 (execCpPresenceMessage s) := by
  unfold execCpPresenceMessage
  refine State.consume_kept h (fun h1 => ?_) (Part.sub hp)
  refine Kept.ite ?_ ?_
  · exact h1
  · extract_lets +onlyGivenNames -merge -useContext -underBinder s2
    clear_value s2
    exact (Kept.each h1 (fun _ _ h4 => (State.modCall_kept (State.wr_kept h4 (CALL.CPLOST.cp_zoned (Part.at hp))) (Part.sub hp))))

theorem execDemandMessage_kept {l s0} {s} (h : Kept l s0 s) (hp : Part.within [.msg, .head 0x24, .head 0x14, .page 0x34, .head 0x20, .pages 0x30 0x34, .ports, .call] l) :
    KeptR l s0 (execDemandMessage s) := by
  unfold execDemandMessage
  exact (State.consume_kept h (fun h1 => (Kept.ite h1 (State.modCall_kept h1 (Part.sub hp)))) (Part.sub hp))

theorem execPairPresenceMessage_kept {l s0} {s} (h : Kept l s0 s) (hp : Part.within [.msg, .head 0x24, .head 0x14, .page 0x34, .head 0x20, .pages 0x30 0x34, .ports, .pair, .page 0x38, .lap, .page 0x11, .arith, .afe, .recorder, .page 0x49, .page 0x42, .page 0x41, .page 0x40, .sram, .sramBad, .sramWeak, .page 0x178, .page 0x35, .tsync, .loops, .page 0x18, .jkt, .page 0x19, .pages 0x8 0x10] l) :
    KeptR l s0 (execPairPresenceMessage s) := by
  unfold execPairPresenceMessage
  exact (State.consume_kept h (fun h1 => (Kept.ite (State.presenceHeard_kept h1 (Part.sub hp)) h1)) (Part.sub hp))

theorem execRegReqFragment_kept {l s0} {s} (h : Kept l s0 s) (hp : Part.within [.msg, .ports, .sramWeak, .freeCount, .rtc, .latched, .regs, .sram, .sramBad, .shadow, .dirty, .arith, .lap, .dma, .alarm, .recorder, .loops, .pair, .cal, .call, .jkt, .afe, .sec, .nvm, .rst, .live, .immediate, .pwr, .tsync, .response, .responseCrc, .terms, .mirror, .locked, .switchTo, .store, .status] l) :
    KeptR l s0 (execRegReqFragment s) := by
  unfold execRegReqFragment
  refine State.consume_kept h (fun h1 => ?_) (Part.sub hp)
  extract_lets +onlyGivenNames -merge -useContext -underBinder s2
  clear_value s2
  extract_lets +onlyGivenNames -merge -useContext -underBinder s4
  clear_value s4
  extract_lets +onlyGivenNames -merge -useContext -underBinder s6
  clear_value s6
  extract_lets +onlyGivenNames -merge -useContext -underBinder s8
  clear_value s8
  extract_lets +onlyGivenNames -merge -useContext -underBinder s10
  clear_value s10
  extract_lets +onlyGivenNames -merge -useContext -underBinder s12
  clear_value s12
  extract_lets +onlyGivenNames -merge -useContext -underBinder s14
  clear_value s14
  split
  · exact (State.carryOut_kept (State.modMsg_kept h1 (Part.sub hp)) (Part.sub hp))
  · exact (State.modMsg_kept h1 (Part.sub hp))

theorem execRegReqTimeout_kept {l s0} {x0} {s} (h : Kept l s0 s) (hp : Part.within [.page 0x34, .head 0x14, .msg] l) :
    KeptR l s0 (execRegReqTimeout x0 s) := by
  unfold execRegReqTimeout
  split
  · exact (KeptR.next h)
  · exact (KeptR.next (State.dropRequest_kept (State.modMsg_kept h (Part.sub hp)) (Part.sub hp)))

theorem execHealthSend_kept {l s0} {s} (h : Kept l s0 s) (hp : Part.within [.msg, .head 0x24, .head 0x14, .page 0x34, .head 0x20, .pages 0x30 0x34, .ports] l) :
    KeptR l s0 (execHealthSend s) := by
  unfold execHealthSend
  refine KeptR.ite ?_ ?_
  · exact (KeptR.next h)
  · extract_lets +onlyGivenNames -merge -useContext -underBinder s1
    clear_value s1
    exact (KeptR.next (State.pump_kept (State.sendTml_kept h (Part.sub hp)) (Part.sub hp)))

theorem execPairStatusSend_kept {l s0} {s} (h : Kept l s0 s) (hp : Part.within [.msg, .head 0x24, .head 0x14, .page 0x34, .head 0x20, .pages 0x30 0x34, .ports] l) :
    KeptR l s0 (execPairStatusSend s) := by
  unfold execPairStatusSend
  refine KeptR.ite ?_ ?_
  · exact (KeptR.next h)
  · extract_lets +onlyGivenNames -merge -useContext -underBinder s1
    clear_value s1
    extract_lets +onlyGivenNames -merge -useContext -underBinder s3
    clear_value s3
    exact (KeptR.next (State.pump_kept (State.modMsg_kept (State.sendTml_kept h (Part.sub hp)) (Part.sub hp)) (Part.sub hp)))

theorem execCallMessageSend_kept {l s0} {s} (h : Kept l s0 s) (hp : Part.within [.msg, .head 0x24, .head 0x14, .page 0x34, .head 0x20, .pages 0x30 0x34, .ports] l) :
    KeptR l s0 (execCallMessageSend s) := by
  unfold execCallMessageSend
  extract_lets +onlyGivenNames -merge -useContext -underBinder s1
  clear_value s1
  refine KeptR.ite ?_ ?_
  · exact (KeptR.next h)
  · extract_lets +onlyGivenNames -merge -useContext -underBinder s3
    clear_value s3
    extract_lets +onlyGivenNames -merge -useContext -underBinder s5
    have h6 : Kept l s0 s5 := by unfold s5; exact (Kept.each h (fun _ _ h7 => (State.sendTml_kept h7 (Part.sub hp))))
    clear_value s5
    exact (KeptR.next (State.pump_kept (State.modMsg_kept h6 (Part.sub hp)) (Part.sub hp)))

theorem execSyncSend_kept {l s0} {s} (h : Kept l s0 s) (hp : Part.within [.msg, .head 0x24, .head 0x14, .page 0x34, .head 0x20, .pages 0x30 0x34, .ports] l) :
    KeptR l s0 (execSyncSend s) := by
  unfold execSyncSend
  refine KeptR.ite ?_ ?_
  · exact (KeptR.next h)
  · refine KeptR.next ?_
    refine State.pump_kept ?_ (Part.sub hp)
    refine Kept.each h (fun _ _ h1 => ?_)
    extract_lets +onlyGivenNames -merge -useContext -underBinder s2
    clear_value s2
    exact (State.modMsg_kept (State.sendOn_kept h1 (Part.sub hp)) (Part.sub hp))

theorem execFollowUpSend_kept {l s0} {s} (h : Kept l s0 s) (hp : Part.within [.tsync, .msg, .head 0x24, .head 0x14, .page 0x34, .head 0x20, .pages 0x30 0x34, .ports, .page 0x35] l) :
    KeptR l s0 (execFollowUpSend s) := by
  unfold execFollowUpSend
  refine KeptR.ite ?_ ?_
  · exact (KeptR.next h)
  · extract_lets +onlyGivenNames -merge -useContext -underBinder s1
    clear_value s1
    extract_lets +onlyGivenNames -merge -useContext -underBinder s3 s4
    have h6 : Kept l s0 s4 := by unfold s4; exact (h.tsync (Part.at hp))
    clear_value s4
    clear_value s3
    refine KeptR.next ?_
    refine State.pump_kept ?_ (Part.sub hp)
    refine Kept.each h6 (fun _ _ h7 => ?_)
    split
    · exact (State.wrap_kept (State.sendOn_kept h7 (Part.sub hp)) (TSYNC.SYNCCNT.count_zoned (Part.at hp)))

theorem execSyncPairReceived_kept {l s0} {s} (h : Kept l s0 s) (hp : Part.within [.msg, .head 0x24, .head 0x14, .page 0x34, .head 0x20, .pages 0x30 0x34, .ports, .tsync, .page 0x35, .freeCount] l) :
    KeptR l s0 (execSyncPairReceived s) := by
  unfold execSyncPairReceived
  exact (State.consume_kept h (fun h1 => (Kept.ite h1 (Kept.ite (h1.tsync (Part.at hp)) (State.followUp_kept h1 (Part.sub hp))))) (Part.sub hp))

theorem execTimeHoldover_kept {l s0} {s} (h : Kept l s0 s) (hp : Part.within [.head 0x24, .head 0x14, .page 0x35, .head 0x20, .tsync] l) :
    KeptR l s0 (execTimeHoldover s) := by
  unfold execTimeHoldover
  extract_lets +onlyGivenNames -merge -useContext -underBinder s1
  clear_value s1
  refine KeptR.ite ?_ ?_
  · exact (KeptR.next h)
  · extract_lets +onlyGivenNames -merge -useContext -underBinder s3
    have h4 : Kept l s0 s3 := by unfold s3; exact (State.fault_kept (State.wrInt_kept (State.wr_kept h (TSYNC.STATE.state_zoned (Part.at hp))) (TSYNC.ADJ.ppb_zoned (Part.at hp))) (TSYNC.FAULT.loss_zoned (Part.at hp)) (Part.sub hp))
    clear_value s3
    refine KeptR.next ?_
    extract_lets +onlyGivenNames -merge -useContext -underBinder s5
    have h6 : Kept l s0 s5 := by unfold s5; exact (Kept.ite h4 (State.irq_kept h4 (TSYNC.IRQRAW.holdover_zoned (Part.at hp))))
    clear_value s5
    exact (h6.tsync (Part.at hp))

end Sys2Proof.Machine
end

