-- ==== Sys2Proof/WellFormed.lean ====
section
/-!
DEFINITION. Well-formed commands: every operand within the range that its field of the spec has. The meanings are total; an
operand outside its range is cut to its field or names nothing.
-/

namespace Sys2Proof

/-- A requester is well-formed: 10-bit node addresses (R385), roles 1 to 4 (R390). -/
def Requester.wf : Requester → Bool
  | .host => true
  | .remote nid role _ => decide (nid < 1024) && decide (1 ≤ role) && decide (role ≤ 4)
  | .pair => true

/-- The payload bytes that a DLC stands for (R359). -/
def CanFrame.dlcLength (f : CanFrame) : Nat :=
  if f.rtr then 0 else if f.dlc ≤ 8 then f.dlc else if f.fdf then [12, 16, 20, 24, 32, 48, 64].getD (f.dlc - 9) 0 else 8

/-- A frame is well-formed: identifier of its width, 4-bit DLC and as many bytes; the bit rate switch and the state indicator only
in FD frames, a remote request only in classic ones (R359). -/
def CanFrame.wf (f : CanFrame) : Bool :=
  decide (f.id < (if f.xtd then 2 ^ 29 else 2 ^ 11)) && decide (f.dlc < 16) && f.data.length == f.dlcLength &&
    (f.fdf || (!f.brs && !f.esi)) && !(f.fdf && f.rtr)

/-- A context of a bank: eight banks (R80) of 20 contexts (R84). -/
def wfCtx (bank ctx : Nat) : Bool := decide (bank < 8) && decide (ctx < 20)

/-- A frame of the host port: 32-bit address, 16-bit length and CRC (R66). -/
def wfFrame (addr len crc : Nat) : Bool := decide (addr < 2 ^ 32) && decide (len < 2 ^ 16) && decide (crc < 2 ^ 16)

/-- A payload on one of the two lanes (R326), at most 1,024 bytes (R327). -/
def wfLane (lane : Nat) (payload : List Byte) : Bool := decide (lane < 2) && decide (payload.length ≤ 1024)

/-- A command whose operands are within their fields. -/
def Instr.wf : Instr → Bool
  | .hostRead addr len crc taken => wfFrame addr len crc && decide (taken ≤ 2 ^ 16)
  | .hostRead4 addr len crc taken => wfFrame addr len crc && decide (taken ≤ 2 ^ 16)
  | .hostWrite addr len data crc => wfFrame addr len crc && decide (data.length ≤ 2 ^ 16)
  | .hostWrite4 addr len data crc => wfFrame addr len crc && decide (data.length ≤ 2 ^ 16)
  | .hostResetFrame addr len crc => wfFrame addr len crc
  | .unknownCommandFrame _ => true
  | .hostFrameCutShort => true
  | .hostStatusTimeout addr => decide (addr < 2 ^ 32)
  | .registerWrite req addr _ => req.wf && decide (addr < 2 ^ 20) && addr % 4 == 0
  | .commitNextLap req page => req.wf && decide (page < 128)
  | .commitImmediate req page => req.wf && decide (page < 128)
  | .commitCancel req page => req.wf && decide (page < 128)
  | .commitCheckEnd page => decide (page < 128)
  | .ctlRevert req page => req.wf && decide (page < 128)
  | .ctlEnableWrite req page _ => req.wf && decide (page < 128)
  | .quiesceRequest req page _ => req.wf && decide (page < 128)
  | .quiesceTimeout page => decide (page < 128)
  | .blockResetRequest req page => req.wf && decide (page < 128)
  | .lockWrite req page => req.wf && decide (page < 128)
  | .cfgOwnerHandover req owner => req.wf && decide (owner < 4)
  | .cfgOwnerReclaim owner => decide (owner < 4)
  | .imageSwitchRequest req _ => req.wf
  | .imageSwitchCancel req => req.wf
  | .imageSwitchCheckEnd => true
  | .lapBoundary _ late => decide (late < 2 ^ 32)
  | .lapEnable req _ => req.wf
  | .lapDisable req => req.wf
  | .slotStart bank ctx => wfCtx bank ctx
  | .burnoutCheckEnd bank ctx _ => wfCtx bank ctx
  | .senseCheckEnd bank ctx _ _ => wfCtx bank ctx
  | .settleEnd bank ctx => wfCtx bank ctx
  | .sampleOut bank ctx code spareCode _ =>
    wfCtx bank ctx && decide (-8388608 ≤ code) && decide (code ≤ 8388607) && decide (-8388608 ≤ spareCode) && decide (spareCode ≤ 8388607)
  | .slotEnd bank ctx => wfCtx bank ctx
  | .sourceCompliance bank ctx => wfCtx bank ctx
  | .excitationChange bank ctx _ _ => wfCtx bank ctx
  | .bridgeOvercurrent bank => decide (bank < 8)
  | .pinWindowFault bank pin => decide (bank < 8) && decide (pin < 48)
  | .mainPhaseStart bank ctx => wfCtx bank ctx
  | .recordFormation => true
  | .testRecordStart req ch => req.wf && decide (ch < 1024)
  | .referenceMonitorEnd _ _ _ _ => true
  | .referenceConversionEnd bank codes _ => decide (bank < 8) && codes.length == 32
  | .overlapReferenceEnd bank _ _ => decide (bank < 8)
  | .reinstateChannel req ch => req.wf && decide (ch < 1024)
  | .reinstateModulator req bank modulator => req.wf && decide (bank < 8) && decide (modulator < 8)
  | .reinstateReference req ref => req.wf && decide (ref < 1024)
  | .retireChannelCommand req ch => req.wf && decide (ch < 1024)
  | .fieldCalStart req => req.wf
  | .fieldCalRunEnd _ _ => true
  | .fieldCalAccept req => req.wf
  | .fieldCalAbort req => req.wf
  | .calStoreCopyVerified _ => true
  | .almEvaluation cycles => decide (cycles < 2 ^ 32)
  | .lampFlashEdge => true
  | .acknowledge req ctx => req.wf && decide (ctx < 1024)
  | .acknowledgeGroup req group => req.wf && decide (group < 1024)
  | .acknowledgeAll req => req.wf
  | .shelve req ctx => req.wf && decide (ctx < 1024)
  | .unshelve req ctx => req.wf && decide (ctx < 1024)
  | .outOfService req ctx => req.wf && decide (ctx < 1024)
  | .returnToService req ctx => req.wf && decide (ctx < 1024)
  | .latchReset req ctx => req.wf && decide (ctx < 1024)
  | .silenceHorn req group => req.wf && decide (group < 1024)
  | .resetFirstOut req group => req.wf && decide (group < 1024)
  | .rescanCommand req => req.wf
  | .clearFalseStarts req ctx => req.wf && decide (ctx < 1024)
  | .groupAckInput group => decide (group < 64)
  | .nqRelease req index => req.wf && decide (index < 2 ^ 16)
  | .callAcknowledge req cp => req.wf && decide (cp < 32)
  | .dutyOffer req cp eng => req.wf && decide (cp < 32) && decide (eng < 16)
  | .dutyConfirm req cp => req.wf && decide (cp < 32)
  | .offerCancel req => req.wf
  | .personnelArm req => req.wf
  | .personnelDisarm req => req.wf
  | .personnelReset req => req.wf
  | .callPointAckInput cp => decide (cp < 32)
  | .armPinChange _ => true
  | .resetPinEdge watch => decide (watch.getD 0 < 32)
  | .offerTimeout => true
  | .callPointLost cp => decide (cp < 32)
  | .demandSend => true
  | .demandStale nid => decide (nid < 1024)
  | .readbackSample u _ _ _ => decide (u < 8)
  | .loopWindowEnd u => decide (u < 8)
  | .loopSetWrite req u _ => req.wf && decide (u < 8)
  | .stageThermal u _ => decide (u < 8)
  | .inputSample pin _ => decide (pin < 48)
  | .outputTrip pin _ => decide (pin < 48)
  | .outputRestart pin => decide (pin < 48)
  | .wireBreakTest pin _ => decide (pin < 48)
  | .openLoadConfirm pin => decide (pin < 48)
  | .extdrvConfirm pin => decide (pin < 48)
  | .disagreeConfirm pin => decide (pin < 48)
  | .outputFlagClear pin flag => decide (pin < 48) && decide (flag < 4)
  | .outsetWrite req index _ => req.wf && decide (index < 2)
  | .vfieldMeasure _ _ => true
  | .jacketDownstreamFrame => true
  | .jacketUpstreamFrame noise => decide (noise.length ≤ 64)
  | .jacketFrameAtField noise => decide (noise.length ≤ 64)
  | .jacketFrameMissing _ => true
  | .leaseSend => true
  | .leaseReceived lane payload => wfLane lane payload
  | .lapmarkReceived lane payload => wfLane lane payload
  | .excrepSend => true
  | .excrepReceived lane payload => wfLane lane payload
  | .digestReceived lane payload => wfLane lane payload
  | .digestWaitTimeout ch => decide (ch < 1024)
  | .mirrorEndReceived lane payload mirrors => wfLane lane payload && mirrors.all fun m => wfLane lane m
  | .cmdfwdReceived lane payload => wfLane lane payload
  | .cmdresReceived lane payload => wfLane lane payload
  | .cmdresTimeout => true
  | .cfgfwdReceived lane payloads => decide (lane < 2) && payloads.all fun m => wfLane lane m
  | .regaccReceived lane payload => wfLane lane payload
  | .imageFrameReceived lane payload => wfLane lane payload
  | .evaldoneReceived lane payload => wfLane lane payload
  | .evaldoneTimeout => true
  | .laneDown lane => decide (lane < 2)
  | .uhlizFrameError lane => decide (lane < 2)
  | .pairStartTimeout => true
  | .takeover _ => true
  | .partnerLost => true
  | .batonRelease => true
  | .plannedHandover req => req.wf
  | .resynchronise req => req.wf
  | .handoverOfferLapse => true
  | .handoverNoClaim => true
  | .pairPresenceSend => true
  | .canFrameReceived port frame _ => decide (port < 4) && frame.wf
  | .txRequest req port buffer => req.wf && decide (port < 4) && decide (buffer < 3)
  | .txCancel req port buffer => req.wf && decide (port < 4) && decide (buffer < 3)
  | .txAttemptStart port => decide (port < 4)
  | .txAttemptEnd port _ _ => decide (port < 4)
  | .busError port _ code _ => decide (port < 4) && decide (code < 8)
  | .soloPauseEnd port => decide (port < 4)
  | .busRecover req port => req.wf && decide (port < 4)
  | .busRecoveryComplete port => decide (port < 4)
  | .integrationComplete port => decide (port < 4)
  | .rxRelease req port queue index => req.wf && decide (port < 4) && decide (queue < 2) && decide (index < 2 ^ 16)
  | .busWake port => decide (port < 4)
  | .notificationConsume => true
  | .tmlFrameAccept port queue => decide (port < 4) && decide (queue < 2)
  | .commandMessage => true
  | .unknownBlockCommand => true
  | .callAckMessage => true
  | .cpPresenceMessage => true
  | .demandMessage => true
  | .pairPresenceMessage => true
  | .regReqFragment => true
  | .regReqTimeout source => decide (source < 1024)
  | .healthSend => true
  | .pairStatusSend => true
  | .callMessageSend => true
  | .syncSend => true
  | .followUpSend => true
  | .syncPairReceived => true
  | .timeHoldover => true
  | .timeSetCommand req => req.wf
  | .sramInitDone _ => true
  | .scrubStep finding => decide (finding < 3)
  | .dmaStart req stream => req.wf && decide (stream < 64)
  | .dmaRestart req stream => req.wf && decide (stream < 64)
  | .dmaAbort req stream => req.wf && decide (stream < 64)
  | .dmaBurstEnd => true
  | .resultRingRelease req index => req.wf && decide (index < 2 ^ 32)
  | .nvmProgram req => req.wf
  | .nvmErase req => req.wf
  | .nvmCrc req => req.wf
  | .nvmAbort req => req.wf
  | .nvmCommandEnd _ => true
  | .newLeg req => req.wf
  | .histogramClear req arg => req.wf && decide (arg < 1024)
  | .archiveAcknowledge req => req.wf
  | .clearLog req => req.wf
  | .writeRecord req => req.wf
  | .captureBase req => req.wf
  | .hselWrite req ch => req.wf && decide (ch < 1024)
  | .baseVerified _ => true
  | .stagedRecordProgram _ => true
  | .tokenRefill cls => decide (cls < 64)
  | .summaryInterval cls => decide (cls < 64)
  | .rtcSecondCarry => true
  | .rtcTimeRead req index => req.wf && decide (index < 9)
  | .rtcFreezeTimeout req => req.wf
  | .rtcSet req => req.wf
  | .rtcAdd1h req => req.wf
  | .rtcSub1h req => req.wf
  | .rtcShift req _ n => req.wf && decide (n < 32768)
  | .rtcReleaseFreeze req => req.wf
  | .pacerStop => true
  | .pacerRecovered => true
  | .bkpPowerUp => true
  | .vbatLow => true
  | .keyLoad req slot => req.wf && decide (slot < 16)
  | .keyClear req slot => req.wf && decide (slot < 16)
  | .vaultErase req => req.wf
  | .identityGenerate req => req.wf
  | .attest req => req.wf
  | .attestDone => true
  | .verifyImageA req => req.wf
  | .verifyImageB req => req.wf
  | .imageVerifyEnd => true
  | .tamperDetect source _ => decide (source < 7)
  | .securityAlarmClear req => req.wf
  | .vmonSample millivolts => decide (millivolts < 2 ^ 16)
  | .coreRailWarning _ => true
  | .stowCommand req => req.wf
  | .coreStateSaved => true
  | .restoration => true
  | .vddaLow => true
  | .vddaRecover => true
  | .domainPowerGoodTimeout domain => decide (domain < 12)
  | .governorCheck milliwatts => decide (milliwatts < 2 ^ 16)
  | .clockFailure _ => true
  | .apllUnlock _ => true
  | .pacerCalibration ppb => decide (-2147483648 ≤ ppb) && decide (ppb ≤ 2147483647)
  | .dozeEntry => true
  | .napEntry => true
  | .lapWake _ => true
  | .wakeEvent source => decide (source < 6)
  | .powerOnReset => true
  | .brownOut _ => true
  | .rstnPin => true
  | .sequenceViolation => true
  | .supervisorTrip => true
  | .nodeResetCommand req => req.wf
  | .fullResetCommand req => req.wf
  | .domainResetCommand req domain => req.wf && decide (domain < 16)
  | .resetRelease good => decide (good ≤ 11)
  | .releaseRetry good => decide (good ≤ 11)
  | .jtagBypass => true
  | .jtagIdcode => true
  | .jtagSamplePreload _ _ => true
  | .jtagExtest => true
  | .jtagTapReset => true
  | .operatingTimeStuck => true

end Sys2Proof
end

