-- ==== Sys2Proof/Laws/PerInstr.lean ====
section
/-!
SUPPORT. What holds of each command as syntax: who asks for it, and that a well-formed command names a requester who can exist (R39, R390).
-/

set_option Elab.async false

namespace Sys2Proof

/-- The requester that a command carries; the host port for the frames that only it sends, none for an event. -/
def Instr.requester? : Instr → Option Requester
  | .hostRead _ _ _ _ => none
  | .hostRead4 _ _ _ _ => none
  | .hostWrite _ _ _ _ => none
  | .hostWrite4 _ _ _ _ => none
  | .hostResetFrame _ _ _ => none
  | .unknownCommandFrame _ => none
  | .hostFrameCutShort => none
  | .hostStatusTimeout _ => none
  | .registerWrite req _ _ => some req
  | .commitNextLap req _ => some req
  | .commitImmediate req _ => some req
  | .commitCancel req _ => some req
  | .commitCheckEnd _ => none
  | .ctlRevert req _ => some req
  | .ctlEnableWrite req _ _ => some req
  | .quiesceRequest req _ _ => some req
  | .quiesceTimeout _ => none
  | .blockResetRequest req _ => some req
  | .lockWrite req _ => some req
  | .cfgOwnerHandover req _ => some req
  | .cfgOwnerReclaim _ => none
  | .imageSwitchRequest req _ => some req
  | .imageSwitchCancel req => some req
  | .imageSwitchCheckEnd => none
  | .lapBoundary _ _ => none
  | .lapEnable req _ => some req
  | .lapDisable req => some req
  | .slotStart _ _ => none
  | .burnoutCheckEnd _ _ _ => none
  | .senseCheckEnd _ _ _ _ => none
  | .settleEnd _ _ => none
  | .sampleOut _ _ _ _ _ => none
  | .slotEnd _ _ => none
  | .sourceCompliance _ _ => none
  | .excitationChange _ _ _ _ => none
  | .bridgeOvercurrent _ => none
  | .pinWindowFault _ _ => none
  | .mainPhaseStart _ _ => none
  | .recordFormation => none
  | .testRecordStart req _ => some req
  | .referenceMonitorEnd _ _ _ _ => none
  | .referenceConversionEnd _ _ _ => none
  | .overlapReferenceEnd _ _ _ => none
  | .reinstateChannel req _ => some req
  | .reinstateModulator req _ _ => some req
  | .reinstateReference req _ => some req
  | .retireChannelCommand req _ => some req
  | .fieldCalStart req => some req
  | .fieldCalRunEnd _ _ => none
  | .fieldCalAccept req => some req
  | .fieldCalAbort req => some req
  | .calStoreCopyVerified _ => none
  | .almEvaluation _ => none
  | .lampFlashEdge => none
  | .acknowledge req _ => some req
  | .acknowledgeGroup req _ => some req
  | .acknowledgeAll req => some req
  | .shelve req _ => some req
  | .unshelve req _ => some req
  | .outOfService req _ => some req
  | .returnToService req _ => some req
  | .latchReset req _ => some req
  | .silenceHorn req _ => some req
  | .resetFirstOut req _ => some req
  | .rescanCommand req => some req
  | .clearFalseStarts req _ => some req
  | .groupAckInput _ => none
  | .nqRelease req _ => some req
  | .callAcknowledge req _ => some req
  | .dutyOffer req _ _ => some req
  | .dutyConfirm req _ => some req
  | .offerCancel req => some req
  | .personnelArm req => some req
  | .personnelDisarm req => some req
  | .personnelReset req => some req
  | .callPointAckInput _ => none
  | .armPinChange _ => none
  | .resetPinEdge _ => none
  | .offerTimeout => none
  | .callPointLost _ => none
  | .demandSend => none
  | .demandStale _ => none
  | .readbackSample _ _ _ _ => none
  | .loopWindowEnd _ => none
  | .loopSetWrite req _ _ => some req
  | .stageThermal _ _ => none
  | .inputSample _ _ => none
  | .outputTrip _ _ => none
  | .outputRestart _ => none
  | .wireBreakTest _ _ => none
  | .openLoadConfirm _ => none
  | .extdrvConfirm _ => none
  | .disagreeConfirm _ => none
  | .outputFlagClear _ _ => none
  | .outsetWrite req _ _ => some req
  | .vfieldMeasure _ _ => none
  | .jacketDownstreamFrame => none
  | .jacketUpstreamFrame _ => none
  | .jacketFrameAtField _ => none
  | .jacketFrameMissing _ => none
  | .leaseSend => none
  | .leaseReceived _ _ => none
  | .lapmarkReceived _ _ => none
  | .excrepSend => none
  | .excrepReceived _ _ => none
  | .digestReceived _ _ => none
  | .digestWaitTimeout _ => none
  | .mirrorEndReceived _ _ _ => none
  | .cmdfwdReceived _ _ => none
  | .cmdresReceived _ _ => none
  | .cmdresTimeout => none
  | .cfgfwdReceived _ _ => none
  | .regaccReceived _ _ => none
  | .imageFrameReceived _ _ => none
  | .evaldoneReceived _ _ => none
  | .evaldoneTimeout => none
  | .laneDown _ => none
  | .uhlizFrameError _ => none
  | .pairStartTimeout => none
  | .takeover _ => none
  | .partnerLost => none
  | .batonRelease => none
  | .plannedHandover req => some req
  | .resynchronise req => some req
  | .handoverOfferLapse => none
  | .handoverNoClaim => none
  | .pairPresenceSend => none
  | .canFrameReceived _ _ _ => none
  | .txRequest req _ _ => some req
  | .txCancel req _ _ => some req
  | .txAttemptStart _ => none
  | .txAttemptEnd _ _ _ => none
  | .busError _ _ _ _ => none
  | .soloPauseEnd _ => none
  | .busRecover req _ => some req
  | .busRecoveryComplete _ => none
  | .integrationComplete _ => none
  | .rxRelease req _ _ _ => some req
  | .busWake _ => none
  | .notificationConsume => none
  | .tmlFrameAccept _ _ => none
  | .commandMessage => none
  | .unknownBlockCommand => none
  | .callAckMessage => none
  | .cpPresenceMessage => none
  | .demandMessage => none
  | .pairPresenceMessage => none
  | .regReqFragment => none
  | .regReqTimeout _ => none
  | .healthSend => none
  | .pairStatusSend => none
  | .callMessageSend => none
  | .syncSend => none
  | .followUpSend => none
  | .syncPairReceived => none
  | .timeHoldover => none
  | .timeSetCommand req => some req
  | .sramInitDone _ => none
  | .scrubStep _ => none
  | .dmaStart req _ => some req
  | .dmaRestart req _ => some req
  | .dmaAbort req _ => some req
  | .dmaBurstEnd => none
  | .resultRingRelease req _ => some req
  | .nvmProgram req => some req
  | .nvmErase req => some req
  | .nvmCrc req => some req
  | .nvmAbort req => some req
  | .nvmCommandEnd _ => none
  | .newLeg req => some req
  | .histogramClear req _ => some req
  | .archiveAcknowledge req => some req
  | .clearLog req => some req
  | .writeRecord req => some req
  | .captureBase req => some req
  | .hselWrite req _ => some req
  | .baseVerified _ => none
  | .stagedRecordProgram _ => none
  | .tokenRefill _ => none
  | .summaryInterval _ => none
  | .rtcSecondCarry => none
  | .rtcTimeRead req _ => some req
  | .rtcFreezeTimeout req => some req
  | .rtcSet req => some req
  | .rtcAdd1h req => some req
  | .rtcSub1h req => some req
  | .rtcShift req _ _ => some req
  | .rtcReleaseFreeze req => some req
  | .pacerStop => none
  | .pacerRecovered => none
  | .bkpPowerUp => none
  | .vbatLow => none
  | .keyLoad req _ => some req
  | .keyClear req _ => some req
  | .vaultErase req => some req
  | .identityGenerate req => some req
  | .attest req => some req
  | .attestDone => none
  | .verifyImageA req => some req
  | .verifyImageB req => some req
  | .imageVerifyEnd => none
  | .tamperDetect _ _ => none
  | .securityAlarmClear req => some req
  | .vmonSample _ => none
  | .coreRailWarning _ => none
  | .stowCommand req => some req
  | .coreStateSaved => none
  | .restoration => none
  | .vddaLow => none
  | .vddaRecover => none
  | .domainPowerGoodTimeout _ => none
  | .governorCheck _ => none
  | .clockFailure _ => none
  | .apllUnlock _ => none
  | .pacerCalibration _ => none
  | .dozeEntry => none
  | .napEntry => none
  | .lapWake _ => none
  | .wakeEvent _ => none
  | .powerOnReset => none
  | .brownOut _ => none
  | .rstnPin => none
  | .sequenceViolation => none
  | .supervisorTrip => none
  | .nodeResetCommand req => some req
  | .fullResetCommand req => some req
  | .domainResetCommand req _ => some req
  | .resetRelease _ => none
  | .releaseRetry _ => none
  | .jtagBypass => none
  | .jtagIdcode => none
  | .jtagSamplePreload _ _ => none
  | .jtagExtest => none
  | .jtagTapReset => none
  | .operatingTimeStuck => none

/-- A requester as the node can meet one: the host port, the partner, or a party of the bus with a 10-bit node address and a role of R390. -/
def Requester.possible : Requester → Prop
  | .host => True
  | .remote nid role _ => nid < 1024 ∧ 1 ≤ role ∧ role ≤ 4
  | .pair => True

theorem Requester.possible_of_wf (r : Requester) (h : r.wf = true) : r.possible := by
  cases r with
  | host => trivial
  | pair => trivial
  | remote nid role m => simpa [Requester.wf, Requester.possible, and_assoc] using h

/-- A well-formed command is asked for by a requester who can exist. -/
def Laws.Requested.Statement (i : Instr) : Prop := i.wf = true → ∀ r, i.requester? = some r → r.possible

theorem Laws.Requested.hostRead (addr : Nat) (len : Nat) (crc : Nat) (taken : Nat) : Laws.Requested.Statement (.hostRead addr len crc taken) := by
  intro _ r hr
  cases hr

theorem Laws.Requested.hostRead4 (addr : Nat) (len : Nat) (crc : Nat) (taken : Nat) : Laws.Requested.Statement (.hostRead4 addr len crc taken) := by
  intro _ r hr
  cases hr

theorem Laws.Requested.hostWrite (addr : Nat) (len : Nat) (data : List Byte) (crc : Nat) : Laws.Requested.Statement (.hostWrite addr len data crc) := by
  intro _ r hr
  cases hr

theorem Laws.Requested.hostWrite4 (addr : Nat) (len : Nat) (data : List Byte) (crc : Nat) : Laws.Requested.Statement (.hostWrite4 addr len data crc) := by
  intro _ r hr
  cases hr

theorem Laws.Requested.hostResetFrame (addr : Nat) (len : Nat) (crc : Nat) : Laws.Requested.Statement (.hostResetFrame addr len crc) := by
  intro _ r hr
  cases hr

theorem Laws.Requested.unknownCommandFrame (command : Byte) : Laws.Requested.Statement (.unknownCommandFrame command) := by
  intro _ r hr
  cases hr

theorem Laws.Requested.hostFrameCutShort : Laws.Requested.Statement (.hostFrameCutShort) := by
  intro _ r hr
  cases hr

theorem Laws.Requested.hostStatusTimeout (addr : Nat) : Laws.Requested.Statement (.hostStatusTimeout addr) := by
  intro _ r hr
  cases hr

theorem Laws.Requested.registerWrite (req : Requester) (addr : Nat) (value : Word) : Laws.Requested.Statement (.registerWrite req addr value) := by
  intro h r hr
  cases hr
  exact Requester.possible_of_wf _ (by simp_all [Instr.wf])

theorem Laws.Requested.commitNextLap (req : Requester) (page : Nat) : Laws.Requested.Statement (.commitNextLap req page) := by
  intro h r hr
  cases hr
  exact Requester.possible_of_wf _ (by simp_all [Instr.wf])

theorem Laws.Requested.commitImmediate (req : Requester) (page : Nat) : Laws.Requested.Statement (.commitImmediate req page) := by
  intro h r hr
  cases hr
  exact Requester.possible_of_wf _ (by simp_all [Instr.wf])

theorem Laws.Requested.commitCancel (req : Requester) (page : Nat) : Laws.Requested.Statement (.commitCancel req page) := by
  intro h r hr
  cases hr
  exact Requester.possible_of_wf _ (by simp_all [Instr.wf])

theorem Laws.Requested.commitCheckEnd (page : Nat) : Laws.Requested.Statement (.commitCheckEnd page) := by
  intro _ r hr
  cases hr

theorem Laws.Requested.ctlRevert (req : Requester) (page : Nat) : Laws.Requested.Statement (.ctlRevert req page) := by
  intro h r hr
  cases hr
  exact Requester.possible_of_wf _ (by simp_all [Instr.wf])

theorem Laws.Requested.ctlEnableWrite (req : Requester) (page : Nat) (enable : Bool) : Laws.Requested.Statement (.ctlEnableWrite req page enable) := by
  intro h r hr
  cases hr
  exact Requester.possible_of_wf _ (by simp_all [Instr.wf])

theorem Laws.Requested.quiesceRequest (req : Requester) (page : Nat) (qreq : Bool) : Laws.Requested.Statement (.quiesceRequest req page qreq) := by
  intro h r hr
  cases hr
  exact Requester.possible_of_wf _ (by simp_all [Instr.wf])

theorem Laws.Requested.quiesceTimeout (page : Nat) : Laws.Requested.Statement (.quiesceTimeout page) := by
  intro _ r hr
  cases hr

theorem Laws.Requested.blockResetRequest (req : Requester) (page : Nat) : Laws.Requested.Statement (.blockResetRequest req page) := by
  intro h r hr
  cases hr
  exact Requester.possible_of_wf _ (by simp_all [Instr.wf])

theorem Laws.Requested.lockWrite (req : Requester) (page : Nat) : Laws.Requested.Statement (.lockWrite req page) := by
  intro h r hr
  cases hr
  exact Requester.possible_of_wf _ (by simp_all [Instr.wf])

theorem Laws.Requested.cfgOwnerHandover (req : Requester) (owner : Nat) : Laws.Requested.Statement (.cfgOwnerHandover req owner) := by
  intro h r hr
  cases hr
  exact Requester.possible_of_wf _ (by simp_all [Instr.wf])

theorem Laws.Requested.cfgOwnerReclaim (owner : Nat) : Laws.Requested.Statement (.cfgOwnerReclaim owner) := by
  intro _ r hr
  cases hr

theorem Laws.Requested.imageSwitchRequest (req : Requester) (imgB : Bool) : Laws.Requested.Statement (.imageSwitchRequest req imgB) := by
  intro h r hr
  cases hr
  exact Requester.possible_of_wf _ (by simp_all [Instr.wf])

theorem Laws.Requested.imageSwitchCancel (req : Requester) : Laws.Requested.Statement (.imageSwitchCancel req) := by
  intro h r hr
  cases hr
  exact Requester.possible_of_wf _ (by simp_all [Instr.wf])

theorem Laws.Requested.imageSwitchCheckEnd : Laws.Requested.Statement (.imageSwitchCheckEnd) := by
  intro _ r hr
  cases hr

theorem Laws.Requested.lapBoundary (modT : Option Int) (late : Nat) : Laws.Requested.Statement (.lapBoundary modT late) := by
  intro _ r hr
  cases hr

theorem Laws.Requested.lapEnable (req : Requester) (modT : Option Int) : Laws.Requested.Statement (.lapEnable req modT) := by
  intro h r hr
  cases hr
  exact Requester.possible_of_wf _ (by simp_all [Instr.wf])

theorem Laws.Requested.lapDisable (req : Requester) : Laws.Requested.Statement (.lapDisable req) := by
  intro h r hr
  cases hr
  exact Requester.possible_of_wf _ (by simp_all [Instr.wf])

theorem Laws.Requested.slotStart (bank : Nat) (ctx : Nat) : Laws.Requested.Statement (.slotStart bank ctx) := by
  intro _ r hr
  cases hr

theorem Laws.Requested.burnoutCheckEnd (bank : Nat) (ctx : Nat) (microvolts : Int) : Laws.Requested.Statement (.burnoutCheckEnd bank ctx microvolts) := by
  intro _ r hr
  cases hr

theorem Laws.Requested.senseCheckEnd (bank : Nat) (ctx : Nat) (negative : Bool) (microvolts : Int) : Laws.Requested.Statement (.senseCheckEnd bank ctx negative microvolts) := by
  intro _ r hr
  cases hr

theorem Laws.Requested.settleEnd (bank : Nat) (ctx : Nat) : Laws.Requested.Statement (.settleEnd bank ctx) := by
  intro _ r hr
  cases hr

theorem Laws.Requested.sampleOut (bank : Nat) (ctx : Nat) (code : Int) (spareCode : Int) (overload : Bool) : Laws.Requested.Statement (.sampleOut bank ctx code spareCode overload) := by
  intro _ r hr
  cases hr

theorem Laws.Requested.slotEnd (bank : Nat) (ctx : Nat) : Laws.Requested.Statement (.slotEnd bank ctx) := by
  intro _ r hr
  cases hr

theorem Laws.Requested.sourceCompliance (bank : Nat) (ctx : Nat) : Laws.Requested.Statement (.sourceCompliance bank ctx) := by
  intro _ r hr
  cases hr

theorem Laws.Requested.excitationChange (bank : Nat) (ctx : Nat) (elapsed : Nat) (absent : Bool) : Laws.Requested.Statement (.excitationChange bank ctx elapsed absent) := by
  intro _ r hr
  cases hr

theorem Laws.Requested.bridgeOvercurrent (bank : Nat) : Laws.Requested.Statement (.bridgeOvercurrent bank) := by
  intro _ r hr
  cases hr

theorem Laws.Requested.pinWindowFault (bank : Nat) (pin : Nat) : Laws.Requested.Statement (.pinWindowFault bank pin) := by
  intro _ r hr
  cases hr

theorem Laws.Requested.mainPhaseStart (bank : Nat) (ctx : Nat) : Laws.Requested.Statement (.mainPhaseStart bank ctx) := by
  intro _ r hr
  cases hr

theorem Laws.Requested.recordFormation : Laws.Requested.Statement (.recordFormation) := by
  intro _ r hr
  cases hr

theorem Laws.Requested.testRecordStart (req : Requester) (ch : Nat) : Laws.Requested.Statement (.testRecordStart req ch) := by
  intro h r hr
  cases hr
  exact Requester.possible_of_wf _ (by simp_all [Instr.wf])

theorem Laws.Requested.referenceMonitorEnd (dev01 : Int) (dev02 : Int) (dev12 : Int) (rrdev : Int) : Laws.Requested.Statement (.referenceMonitorEnd dev01 dev02 dev12 rrdev) := by
  intro _ r hr
  cases hr

theorem Laws.Requested.referenceConversionEnd (bank : Nat) (codes : List Int) (overload : Bool) : Laws.Requested.Statement (.referenceConversionEnd bank codes overload) := by
  intro _ r hr
  cases hr

theorem Laws.Requested.overlapReferenceEnd (bank : Nat) (liveSum : Int) (spareSum : Int) : Laws.Requested.Statement (.overlapReferenceEnd bank liveSum spareSum) := by
  intro _ r hr
  cases hr

theorem Laws.Requested.reinstateChannel (req : Requester) (ch : Nat) : Laws.Requested.Statement (.reinstateChannel req ch) := by
  intro h r hr
  cases hr
  exact Requester.possible_of_wf _ (by simp_all [Instr.wf])

theorem Laws.Requested.reinstateModulator (req : Requester) (bank : Nat) (modulator : Nat) : Laws.Requested.Statement (.reinstateModulator req bank modulator) := by
  intro h r hr
  cases hr
  exact Requester.possible_of_wf _ (by simp_all [Instr.wf])

theorem Laws.Requested.reinstateReference (req : Requester) (ref : Nat) : Laws.Requested.Statement (.reinstateReference req ref) := by
  intro h r hr
  cases hr
  exact Requester.possible_of_wf _ (by simp_all [Instr.wf])

theorem Laws.Requested.retireChannelCommand (req : Requester) (ch : Nat) : Laws.Requested.Statement (.retireChannelCommand req ch) := by
  intro h r hr
  cases hr
  exact Requester.possible_of_wf _ (by simp_all [Instr.wf])

theorem Laws.Requested.fieldCalStart (req : Requester) : Laws.Requested.Statement (.fieldCalStart req) := by
  intro h r hr
  cases hr
  exact Requester.possible_of_wf _ (by simp_all [Instr.wf])

theorem Laws.Requested.fieldCalRunEnd (measured : Int) (conversionFault : Bool) : Laws.Requested.Statement (.fieldCalRunEnd measured conversionFault) := by
  intro _ r hr
  cases hr

theorem Laws.Requested.fieldCalAccept (req : Requester) : Laws.Requested.Statement (.fieldCalAccept req) := by
  intro h r hr
  cases hr
  exact Requester.possible_of_wf _ (by simp_all [Instr.wf])

theorem Laws.Requested.fieldCalAbort (req : Requester) : Laws.Requested.Statement (.fieldCalAbort req) := by
  intro h r hr
  cases hr
  exact Requester.possible_of_wf _ (by simp_all [Instr.wf])

theorem Laws.Requested.calStoreCopyVerified (verified : Bool) : Laws.Requested.Statement (.calStoreCopyVerified verified) := by
  intro _ r hr
  cases hr

theorem Laws.Requested.almEvaluation (cycles : Nat) : Laws.Requested.Statement (.almEvaluation cycles) := by
  intro _ r hr
  cases hr

theorem Laws.Requested.lampFlashEdge : Laws.Requested.Statement (.lampFlashEdge) := by
  intro _ r hr
  cases hr

theorem Laws.Requested.acknowledge (req : Requester) (ctx : Nat) : Laws.Requested.Statement (.acknowledge req ctx) := by
  intro h r hr
  cases hr
  exact Requester.possible_of_wf _ (by simp_all [Instr.wf])

theorem Laws.Requested.acknowledgeGroup (req : Requester) (group : Nat) : Laws.Requested.Statement (.acknowledgeGroup req group) := by
  intro h r hr
  cases hr
  exact Requester.possible_of_wf _ (by simp_all [Instr.wf])

theorem Laws.Requested.acknowledgeAll (req : Requester) : Laws.Requested.Statement (.acknowledgeAll req) := by
  intro h r hr
  cases hr
  exact Requester.possible_of_wf _ (by simp_all [Instr.wf])

theorem Laws.Requested.shelve (req : Requester) (ctx : Nat) : Laws.Requested.Statement (.shelve req ctx) := by
  intro h r hr
  cases hr
  exact Requester.possible_of_wf _ (by simp_all [Instr.wf])

theorem Laws.Requested.unshelve (req : Requester) (ctx : Nat) : Laws.Requested.Statement (.unshelve req ctx) := by
  intro h r hr
  cases hr
  exact Requester.possible_of_wf _ (by simp_all [Instr.wf])

theorem Laws.Requested.outOfService (req : Requester) (ctx : Nat) : Laws.Requested.Statement (.outOfService req ctx) := by
  intro h r hr
  cases hr
  exact Requester.possible_of_wf _ (by simp_all [Instr.wf])

theorem Laws.Requested.returnToService (req : Requester) (ctx : Nat) : Laws.Requested.Statement (.returnToService req ctx) := by
  intro h r hr
  cases hr
  exact Requester.possible_of_wf _ (by simp_all [Instr.wf])

theorem Laws.Requested.latchReset (req : Requester) (ctx : Nat) : Laws.Requested.Statement (.latchReset req ctx) := by
  intro h r hr
  cases hr
  exact Requester.possible_of_wf _ (by simp_all [Instr.wf])

theorem Laws.Requested.silenceHorn (req : Requester) (group : Nat) : Laws.Requested.Statement (.silenceHorn req group) := by
  intro h r hr
  cases hr
  exact Requester.possible_of_wf _ (by simp_all [Instr.wf])

theorem Laws.Requested.resetFirstOut (req : Requester) (group : Nat) : Laws.Requested.Statement (.resetFirstOut req group) := by
  intro h r hr
  cases hr
  exact Requester.possible_of_wf _ (by simp_all [Instr.wf])

theorem Laws.Requested.rescanCommand (req : Requester) : Laws.Requested.Statement (.rescanCommand req) := by
  intro h r hr
  cases hr
  exact Requester.possible_of_wf _ (by simp_all [Instr.wf])

theorem Laws.Requested.clearFalseStarts (req : Requester) (ctx : Nat) : Laws.Requested.Statement (.clearFalseStarts req ctx) := by
  intro h r hr
  cases hr
  exact Requester.possible_of_wf _ (by simp_all [Instr.wf])

theorem Laws.Requested.groupAckInput (group : Nat) : Laws.Requested.Statement (.groupAckInput group) := by
  intro _ r hr
  cases hr

theorem Laws.Requested.nqRelease (req : Requester) (index : Nat) : Laws.Requested.Statement (.nqRelease req index) := by
  intro h r hr
  cases hr
  exact Requester.possible_of_wf _ (by simp_all [Instr.wf])

theorem Laws.Requested.callAcknowledge (req : Requester) (cp : Nat) : Laws.Requested.Statement (.callAcknowledge req cp) := by
  intro h r hr
  cases hr
  exact Requester.possible_of_wf _ (by simp_all [Instr.wf])

theorem Laws.Requested.dutyOffer (req : Requester) (cp : Nat) (eng : Nat) : Laws.Requested.Statement (.dutyOffer req cp eng) := by
  intro h r hr
  cases hr
  exact Requester.possible_of_wf _ (by simp_all [Instr.wf])

theorem Laws.Requested.dutyConfirm (req : Requester) (cp : Nat) : Laws.Requested.Statement (.dutyConfirm req cp) := by
  intro h r hr
  cases hr
  exact Requester.possible_of_wf _ (by simp_all [Instr.wf])

theorem Laws.Requested.offerCancel (req : Requester) : Laws.Requested.Statement (.offerCancel req) := by
  intro h r hr
  cases hr
  exact Requester.possible_of_wf _ (by simp_all [Instr.wf])

theorem Laws.Requested.personnelArm (req : Requester) : Laws.Requested.Statement (.personnelArm req) := by
  intro h r hr
  cases hr
  exact Requester.possible_of_wf _ (by simp_all [Instr.wf])

theorem Laws.Requested.personnelDisarm (req : Requester) : Laws.Requested.Statement (.personnelDisarm req) := by
  intro h r hr
  cases hr
  exact Requester.possible_of_wf _ (by simp_all [Instr.wf])

theorem Laws.Requested.personnelReset (req : Requester) : Laws.Requested.Statement (.personnelReset req) := by
  intro h r hr
  cases hr
  exact Requester.possible_of_wf _ (by simp_all [Instr.wf])

theorem Laws.Requested.callPointAckInput (cp : Nat) : Laws.Requested.Statement (.callPointAckInput cp) := by
  intro _ r hr
  cases hr

theorem Laws.Requested.armPinChange (rising : Bool) : Laws.Requested.Statement (.armPinChange rising) := by
  intro _ r hr
  cases hr

theorem Laws.Requested.resetPinEdge (watch : Option Nat) : Laws.Requested.Statement (.resetPinEdge watch) := by
  intro _ r hr
  cases hr

theorem Laws.Requested.offerTimeout : Laws.Requested.Statement (.offerTimeout) := by
  intro _ r hr
  cases hr

theorem Laws.Requested.callPointLost (cp : Nat) : Laws.Requested.Statement (.callPointLost cp) := by
  intro _ r hr
  cases hr

theorem Laws.Requested.demandSend : Laws.Requested.Statement (.demandSend) := by
  intro _ r hr
  cases hr

theorem Laws.Requested.demandStale (nid : Nat) : Laws.Requested.Statement (.demandStale nid) := by
  intro _ r hr
  cases hr

theorem Laws.Requested.readbackSample (u : Nat) (rb : Int) (tv : Int) (saturated : Bool) : Laws.Requested.Statement (.readbackSample u rb tv saturated) := by
  intro _ r hr
  cases hr

theorem Laws.Requested.loopWindowEnd (u : Nat) : Laws.Requested.Statement (.loopWindowEnd u) := by
  intro _ r hr
  cases hr

theorem Laws.Requested.loopSetWrite (req : Requester) (u : Nat) (value : Int) : Laws.Requested.Statement (.loopSetWrite req u value) := by
  intro h r hr
  cases hr
  exact Requester.possible_of_wf _ (by simp_all [Instr.wf])

theorem Laws.Requested.stageThermal (u : Nat) (celsius : Int) : Laws.Requested.Statement (.stageThermal u celsius) := by
  intro _ r hr
  cases hr

theorem Laws.Requested.inputSample (pin : Nat) (r : Bool) : Laws.Requested.Statement (.inputSample pin r) := by
  intro _ r hr
  cases hr

theorem Laws.Requested.outputTrip (pin : Nat) (thermal : Bool) : Laws.Requested.Statement (.outputTrip pin thermal) := by
  intro _ r hr
  cases hr

theorem Laws.Requested.outputRestart (pin : Nat) : Laws.Requested.Statement (.outputRestart pin) := by
  intro _ r hr
  cases hr

theorem Laws.Requested.wireBreakTest (pin : Nat) (millivolts : Nat) : Laws.Requested.Statement (.wireBreakTest pin millivolts) := by
  intro _ r hr
  cases hr

theorem Laws.Requested.openLoadConfirm (pin : Nat) : Laws.Requested.Statement (.openLoadConfirm pin) := by
  intro _ r hr
  cases hr

theorem Laws.Requested.extdrvConfirm (pin : Nat) : Laws.Requested.Statement (.extdrvConfirm pin) := by
  intro _ r hr
  cases hr

theorem Laws.Requested.disagreeConfirm (pin : Nat) : Laws.Requested.Statement (.disagreeConfirm pin) := by
  intro _ r hr
  cases hr

theorem Laws.Requested.outputFlagClear (pin : Nat) (flag : Nat) : Laws.Requested.Statement (.outputFlagClear pin flag) := by
  intro _ r hr
  cases hr

theorem Laws.Requested.outsetWrite (req : Requester) (index : Nat) (value : Word) : Laws.Requested.Statement (.outsetWrite req index value) := by
  intro h r hr
  cases hr
  exact Requester.possible_of_wf _ (by simp_all [Instr.wf])

theorem Laws.Requested.vfieldMeasure (millivolts : Nat) (die : Int) : Laws.Requested.Statement (.vfieldMeasure millivolts die) := by
  intro _ r hr
  cases hr

theorem Laws.Requested.jacketDownstreamFrame : Laws.Requested.Statement (.jacketDownstreamFrame) := by
  intro _ r hr
  cases hr

theorem Laws.Requested.jacketUpstreamFrame (noise : List Byte) : Laws.Requested.Statement (.jacketUpstreamFrame noise) := by
  intro _ r hr
  cases hr

theorem Laws.Requested.jacketFrameAtField (noise : List Byte) : Laws.Requested.Statement (.jacketFrameAtField noise) := by
  intro _ r hr
  cases hr

theorem Laws.Requested.jacketFrameMissing (atField : Bool) : Laws.Requested.Statement (.jacketFrameMissing atField) := by
  intro _ r hr
  cases hr

theorem Laws.Requested.leaseSend : Laws.Requested.Statement (.leaseSend) := by
  intro _ r hr
  cases hr

theorem Laws.Requested.leaseReceived (lane : Nat) (payload : List Byte) : Laws.Requested.Statement (.leaseReceived lane payload) := by
  intro _ r hr
  cases hr

theorem Laws.Requested.lapmarkReceived (lane : Nat) (payload : List Byte) : Laws.Requested.Statement (.lapmarkReceived lane payload) := by
  intro _ r hr
  cases hr

theorem Laws.Requested.excrepSend : Laws.Requested.Statement (.excrepSend) := by
  intro _ r hr
  cases hr

theorem Laws.Requested.excrepReceived (lane : Nat) (payload : List Byte) : Laws.Requested.Statement (.excrepReceived lane payload) := by
  intro _ r hr
  cases hr

theorem Laws.Requested.digestReceived (lane : Nat) (payload : List Byte) : Laws.Requested.Statement (.digestReceived lane payload) := by
  intro _ r hr
  cases hr

theorem Laws.Requested.digestWaitTimeout (ch : Nat) : Laws.Requested.Statement (.digestWaitTimeout ch) := by
  intro _ r hr
  cases hr

theorem Laws.Requested.mirrorEndReceived (lane : Nat) (payload : List Byte) (mirrors : List (List Byte)) : Laws.Requested.Statement (.mirrorEndReceived lane payload mirrors) := by
  intro _ r hr
  cases hr

theorem Laws.Requested.cmdfwdReceived (lane : Nat) (payload : List Byte) : Laws.Requested.Statement (.cmdfwdReceived lane payload) := by
  intro _ r hr
  cases hr

theorem Laws.Requested.cmdresReceived (lane : Nat) (payload : List Byte) : Laws.Requested.Statement (.cmdresReceived lane payload) := by
  intro _ r hr
  cases hr

theorem Laws.Requested.cmdresTimeout : Laws.Requested.Statement (.cmdresTimeout) := by
  intro _ r hr
  cases hr

theorem Laws.Requested.cfgfwdReceived (lane : Nat) (payloads : List (List Byte)) : Laws.Requested.Statement (.cfgfwdReceived lane payloads) := by
  intro _ r hr
  cases hr

theorem Laws.Requested.regaccReceived (lane : Nat) (payload : List Byte) : Laws.Requested.Statement (.regaccReceived lane payload) := by
  intro _ r hr
  cases hr

theorem Laws.Requested.imageFrameReceived (lane : Nat) (payload : List Byte) : Laws.Requested.Statement (.imageFrameReceived lane payload) := by
  intro _ r hr
  cases hr

theorem Laws.Requested.evaldoneReceived (lane : Nat) (payload : List Byte) : Laws.Requested.Statement (.evaldoneReceived lane payload) := by
  intro _ r hr
  cases hr

theorem Laws.Requested.evaldoneTimeout : Laws.Requested.Statement (.evaldoneTimeout) := by
  intro _ r hr
  cases hr

theorem Laws.Requested.laneDown (lane : Nat) : Laws.Requested.Statement (.laneDown lane) := by
  intro _ r hr
  cases hr

theorem Laws.Requested.uhlizFrameError (lane : Nat) : Laws.Requested.Statement (.uhlizFrameError lane) := by
  intro _ r hr
  cases hr

theorem Laws.Requested.pairStartTimeout : Laws.Requested.Statement (.pairStartTimeout) := by
  intro _ r hr
  cases hr

theorem Laws.Requested.takeover (silent : Bool) : Laws.Requested.Statement (.takeover silent) := by
  intro _ r hr
  cases hr

theorem Laws.Requested.partnerLost : Laws.Requested.Statement (.partnerLost) := by
  intro _ r hr
  cases hr

theorem Laws.Requested.batonRelease : Laws.Requested.Statement (.batonRelease) := by
  intro _ r hr
  cases hr

theorem Laws.Requested.plannedHandover (req : Requester) : Laws.Requested.Statement (.plannedHandover req) := by
  intro h r hr
  cases hr
  exact Requester.possible_of_wf _ (by simp_all [Instr.wf])

theorem Laws.Requested.resynchronise (req : Requester) : Laws.Requested.Statement (.resynchronise req) := by
  intro h r hr
  cases hr
  exact Requester.possible_of_wf _ (by simp_all [Instr.wf])

theorem Laws.Requested.handoverOfferLapse : Laws.Requested.Statement (.handoverOfferLapse) := by
  intro _ r hr
  cases hr

theorem Laws.Requested.handoverNoClaim : Laws.Requested.Statement (.handoverNoClaim) := by
  intro _ r hr
  cases hr

theorem Laws.Requested.pairPresenceSend : Laws.Requested.Statement (.pairPresenceSend) := by
  intro _ r hr
  cases hr

theorem Laws.Requested.canFrameReceived (port : Nat) (frame : CanFrame) (age : Nat) : Laws.Requested.Statement (.canFrameReceived port frame age) := by
  intro _ r hr
  cases hr

theorem Laws.Requested.txRequest (req : Requester) (port : Nat) (buffer : Nat) : Laws.Requested.Statement (.txRequest req port buffer) := by
  intro h r hr
  cases hr
  exact Requester.possible_of_wf _ (by simp_all [Instr.wf])

theorem Laws.Requested.txCancel (req : Requester) (port : Nat) (buffer : Nat) : Laws.Requested.Statement (.txCancel req port buffer) := by
  intro h r hr
  cases hr
  exact Requester.possible_of_wf _ (by simp_all [Instr.wf])

theorem Laws.Requested.txAttemptStart (port : Nat) : Laws.Requested.Statement (.txAttemptStart port) := by
  intro _ r hr
  cases hr

theorem Laws.Requested.txAttemptEnd (port : Nat) (outcome : TxOutcome) (delay : Option Nat) : Laws.Requested.Statement (.txAttemptEnd port outcome delay) := by
  intro _ r hr
  cases hr

theorem Laws.Requested.busError (port : Nat) (kind : BusErrorKind) (code : Nat) (dataPhase : Bool) : Laws.Requested.Statement (.busError port kind code dataPhase) := by
  intro _ r hr
  cases hr

theorem Laws.Requested.soloPauseEnd (port : Nat) : Laws.Requested.Statement (.soloPauseEnd port) := by
  intro _ r hr
  cases hr

theorem Laws.Requested.busRecover (req : Requester) (port : Nat) : Laws.Requested.Statement (.busRecover req port) := by
  intro h r hr
  cases hr
  exact Requester.possible_of_wf _ (by simp_all [Instr.wf])

theorem Laws.Requested.busRecoveryComplete (port : Nat) : Laws.Requested.Statement (.busRecoveryComplete port) := by
  intro _ r hr
  cases hr

theorem Laws.Requested.integrationComplete (port : Nat) : Laws.Requested.Statement (.integrationComplete port) := by
  intro _ r hr
  cases hr

theorem Laws.Requested.rxRelease (req : Requester) (port : Nat) (queue : Nat) (index : Nat) : Laws.Requested.Statement (.rxRelease req port queue index) := by
  intro h r hr
  cases hr
  exact Requester.possible_of_wf _ (by simp_all [Instr.wf])

theorem Laws.Requested.busWake (port : Nat) : Laws.Requested.Statement (.busWake port) := by
  intro _ r hr
  cases hr

theorem Laws.Requested.notificationConsume : Laws.Requested.Statement (.notificationConsume) := by
  intro _ r hr
  cases hr

theorem Laws.Requested.tmlFrameAccept (port : Nat) (queue : Nat) : Laws.Requested.Statement (.tmlFrameAccept port queue) := by
  intro _ r hr
  cases hr

theorem Laws.Requested.commandMessage : Laws.Requested.Statement (.commandMessage) := by
  intro _ r hr
  cases hr

theorem Laws.Requested.unknownBlockCommand : Laws.Requested.Statement (.unknownBlockCommand) := by
  intro _ r hr
  cases hr

theorem Laws.Requested.callAckMessage : Laws.Requested.Statement (.callAckMessage) := by
  intro _ r hr
  cases hr

theorem Laws.Requested.cpPresenceMessage : Laws.Requested.Statement (.cpPresenceMessage) := by
  intro _ r hr
  cases hr

theorem Laws.Requested.demandMessage : Laws.Requested.Statement (.demandMessage) := by
  intro _ r hr
  cases hr

theorem Laws.Requested.pairPresenceMessage : Laws.Requested.Statement (.pairPresenceMessage) := by
  intro _ r hr
  cases hr

theorem Laws.Requested.regReqFragment : Laws.Requested.Statement (.regReqFragment) := by
  intro _ r hr
  cases hr

theorem Laws.Requested.regReqTimeout (source : Nat) : Laws.Requested.Statement (.regReqTimeout source) := by
  intro _ r hr
  cases hr

theorem Laws.Requested.healthSend : Laws.Requested.Statement (.healthSend) := by
  intro _ r hr
  cases hr

theorem Laws.Requested.pairStatusSend : Laws.Requested.Statement (.pairStatusSend) := by
  intro _ r hr
  cases hr

theorem Laws.Requested.callMessageSend : Laws.Requested.Statement (.callMessageSend) := by
  intro _ r hr
  cases hr

theorem Laws.Requested.syncSend : Laws.Requested.Statement (.syncSend) := by
  intro _ r hr
  cases hr

theorem Laws.Requested.followUpSend : Laws.Requested.Statement (.followUpSend) := by
  intro _ r hr
  cases hr

theorem Laws.Requested.syncPairReceived : Laws.Requested.Statement (.syncPairReceived) := by
  intro _ r hr
  cases hr

theorem Laws.Requested.timeHoldover : Laws.Requested.Statement (.timeHoldover) := by
  intro _ r hr
  cases hr

theorem Laws.Requested.timeSetCommand (req : Requester) : Laws.Requested.Statement (.timeSetCommand req) := by
  intro h r hr
  cases hr
  exact Requester.possible_of_wf _ (by simp_all [Instr.wf])

theorem Laws.Requested.sramInitDone (kept : Bool) : Laws.Requested.Statement (.sramInitDone kept) := by
  intro _ r hr
  cases hr

theorem Laws.Requested.scrubStep (finding : Nat) : Laws.Requested.Statement (.scrubStep finding) := by
  intro _ r hr
  cases hr

theorem Laws.Requested.dmaStart (req : Requester) (stream : Nat) : Laws.Requested.Statement (.dmaStart req stream) := by
  intro h r hr
  cases hr
  exact Requester.possible_of_wf _ (by simp_all [Instr.wf])

theorem Laws.Requested.dmaRestart (req : Requester) (stream : Nat) : Laws.Requested.Statement (.dmaRestart req stream) := by
  intro h r hr
  cases hr
  exact Requester.possible_of_wf _ (by simp_all [Instr.wf])

theorem Laws.Requested.dmaAbort (req : Requester) (stream : Nat) : Laws.Requested.Statement (.dmaAbort req stream) := by
  intro h r hr
  cases hr
  exact Requester.possible_of_wf _ (by simp_all [Instr.wf])

theorem Laws.Requested.dmaBurstEnd : Laws.Requested.Statement (.dmaBurstEnd) := by
  intro _ r hr
  cases hr

theorem Laws.Requested.resultRingRelease (req : Requester) (index : Nat) : Laws.Requested.Statement (.resultRingRelease req index) := by
  intro h r hr
  cases hr
  exact Requester.possible_of_wf _ (by simp_all [Instr.wf])

theorem Laws.Requested.nvmProgram (req : Requester) : Laws.Requested.Statement (.nvmProgram req) := by
  intro h r hr
  cases hr
  exact Requester.possible_of_wf _ (by simp_all [Instr.wf])

theorem Laws.Requested.nvmErase (req : Requester) : Laws.Requested.Statement (.nvmErase req) := by
  intro h r hr
  cases hr
  exact Requester.possible_of_wf _ (by simp_all [Instr.wf])

theorem Laws.Requested.nvmCrc (req : Requester) : Laws.Requested.Statement (.nvmCrc req) := by
  intro h r hr
  cases hr
  exact Requester.possible_of_wf _ (by simp_all [Instr.wf])

theorem Laws.Requested.nvmAbort (req : Requester) : Laws.Requested.Statement (.nvmAbort req) := by
  intro h r hr
  cases hr
  exact Requester.possible_of_wf _ (by simp_all [Instr.wf])

theorem Laws.Requested.nvmCommandEnd (taken : Bool) : Laws.Requested.Statement (.nvmCommandEnd taken) := by
  intro _ r hr
  cases hr

theorem Laws.Requested.newLeg (req : Requester) : Laws.Requested.Statement (.newLeg req) := by
  intro h r hr
  cases hr
  exact Requester.possible_of_wf _ (by simp_all [Instr.wf])

theorem Laws.Requested.histogramClear (req : Requester) (arg : Nat) : Laws.Requested.Statement (.histogramClear req arg) := by
  intro h r hr
  cases hr
  exact Requester.possible_of_wf _ (by simp_all [Instr.wf])

theorem Laws.Requested.archiveAcknowledge (req : Requester) : Laws.Requested.Statement (.archiveAcknowledge req) := by
  intro h r hr
  cases hr
  exact Requester.possible_of_wf _ (by simp_all [Instr.wf])

theorem Laws.Requested.clearLog (req : Requester) : Laws.Requested.Statement (.clearLog req) := by
  intro h r hr
  cases hr
  exact Requester.possible_of_wf _ (by simp_all [Instr.wf])

theorem Laws.Requested.writeRecord (req : Requester) : Laws.Requested.Statement (.writeRecord req) := by
  intro h r hr
  cases hr
  exact Requester.possible_of_wf _ (by simp_all [Instr.wf])

theorem Laws.Requested.captureBase (req : Requester) : Laws.Requested.Statement (.captureBase req) := by
  intro h r hr
  cases hr
  exact Requester.possible_of_wf _ (by simp_all [Instr.wf])

theorem Laws.Requested.hselWrite (req : Requester) (ch : Nat) : Laws.Requested.Statement (.hselWrite req ch) := by
  intro h r hr
  cases hr
  exact Requester.possible_of_wf _ (by simp_all [Instr.wf])

theorem Laws.Requested.baseVerified (verified : Bool) : Laws.Requested.Statement (.baseVerified verified) := by
  intro _ r hr
  cases hr

theorem Laws.Requested.stagedRecordProgram (taken : Bool) : Laws.Requested.Statement (.stagedRecordProgram taken) := by
  intro _ r hr
  cases hr

theorem Laws.Requested.tokenRefill (cls : Nat) : Laws.Requested.Statement (.tokenRefill cls) := by
  intro _ r hr
  cases hr

theorem Laws.Requested.summaryInterval (cls : Nat) : Laws.Requested.Statement (.summaryInterval cls) := by
  intro _ r hr
  cases hr

theorem Laws.Requested.rtcSecondCarry : Laws.Requested.Statement (.rtcSecondCarry) := by
  intro _ r hr
  cases hr

theorem Laws.Requested.rtcTimeRead (req : Requester) (index : Nat) : Laws.Requested.Statement (.rtcTimeRead req index) := by
  intro h r hr
  cases hr
  exact Requester.possible_of_wf _ (by simp_all [Instr.wf])

theorem Laws.Requested.rtcFreezeTimeout (req : Requester) : Laws.Requested.Statement (.rtcFreezeTimeout req) := by
  intro h r hr
  cases hr
  exact Requester.possible_of_wf _ (by simp_all [Instr.wf])

theorem Laws.Requested.rtcSet (req : Requester) : Laws.Requested.Statement (.rtcSet req) := by
  intro h r hr
  cases hr
  exact Requester.possible_of_wf _ (by simp_all [Instr.wf])

theorem Laws.Requested.rtcAdd1h (req : Requester) : Laws.Requested.Statement (.rtcAdd1h req) := by
  intro h r hr
  cases hr
  exact Requester.possible_of_wf _ (by simp_all [Instr.wf])

theorem Laws.Requested.rtcSub1h (req : Requester) : Laws.Requested.Statement (.rtcSub1h req) := by
  intro h r hr
  cases hr
  exact Requester.possible_of_wf _ (by simp_all [Instr.wf])

theorem Laws.Requested.rtcShift (req : Requester) (back : Bool) (n : Nat) : Laws.Requested.Statement (.rtcShift req back n) := by
  intro h r hr
  cases hr
  exact Requester.possible_of_wf _ (by simp_all [Instr.wf])

theorem Laws.Requested.rtcReleaseFreeze (req : Requester) : Laws.Requested.Statement (.rtcReleaseFreeze req) := by
  intro h r hr
  cases hr
  exact Requester.possible_of_wf _ (by simp_all [Instr.wf])

theorem Laws.Requested.pacerStop : Laws.Requested.Statement (.pacerStop) := by
  intro _ r hr
  cases hr

theorem Laws.Requested.pacerRecovered : Laws.Requested.Statement (.pacerRecovered) := by
  intro _ r hr
  cases hr

theorem Laws.Requested.bkpPowerUp : Laws.Requested.Statement (.bkpPowerUp) := by
  intro _ r hr
  cases hr

theorem Laws.Requested.vbatLow : Laws.Requested.Statement (.vbatLow) := by
  intro _ r hr
  cases hr

theorem Laws.Requested.keyLoad (req : Requester) (slot : Nat) : Laws.Requested.Statement (.keyLoad req slot) := by
  intro h r hr
  cases hr
  exact Requester.possible_of_wf _ (by simp_all [Instr.wf])

theorem Laws.Requested.keyClear (req : Requester) (slot : Nat) : Laws.Requested.Statement (.keyClear req slot) := by
  intro h r hr
  cases hr
  exact Requester.possible_of_wf _ (by simp_all [Instr.wf])

theorem Laws.Requested.vaultErase (req : Requester) : Laws.Requested.Statement (.vaultErase req) := by
  intro h r hr
  cases hr
  exact Requester.possible_of_wf _ (by simp_all [Instr.wf])

theorem Laws.Requested.identityGenerate (req : Requester) : Laws.Requested.Statement (.identityGenerate req) := by
  intro h r hr
  cases hr
  exact Requester.possible_of_wf _ (by simp_all [Instr.wf])

theorem Laws.Requested.attest (req : Requester) : Laws.Requested.Statement (.attest req) := by
  intro h r hr
  cases hr
  exact Requester.possible_of_wf _ (by simp_all [Instr.wf])

theorem Laws.Requested.attestDone : Laws.Requested.Statement (.attestDone) := by
  intro _ r hr
  cases hr

theorem Laws.Requested.verifyImageA (req : Requester) : Laws.Requested.Statement (.verifyImageA req) := by
  intro h r hr
  cases hr
  exact Requester.possible_of_wf _ (by simp_all [Instr.wf])

theorem Laws.Requested.verifyImageB (req : Requester) : Laws.Requested.Statement (.verifyImageB req) := by
  intro h r hr
  cases hr
  exact Requester.possible_of_wf _ (by simp_all [Instr.wf])

theorem Laws.Requested.imageVerifyEnd : Laws.Requested.Statement (.imageVerifyEnd) := by
  intro _ r hr
  cases hr

theorem Laws.Requested.tamperDetect (source : Nat) (present : Bool) : Laws.Requested.Statement (.tamperDetect source present) := by
  intro _ r hr
  cases hr

theorem Laws.Requested.securityAlarmClear (req : Requester) : Laws.Requested.Statement (.securityAlarmClear req) := by
  intro h r hr
  cases hr
  exact Requester.possible_of_wf _ (by simp_all [Instr.wf])

theorem Laws.Requested.vmonSample (millivolts : Nat) : Laws.Requested.Statement (.vmonSample millivolts) := by
  intro _ r hr
  cases hr

theorem Laws.Requested.coreRailWarning (present : Bool) : Laws.Requested.Statement (.coreRailWarning present) := by
  intro _ r hr
  cases hr

theorem Laws.Requested.stowCommand (req : Requester) : Laws.Requested.Statement (.stowCommand req) := by
  intro h r hr
  cases hr
  exact Requester.possible_of_wf _ (by simp_all [Instr.wf])

theorem Laws.Requested.coreStateSaved : Laws.Requested.Statement (.coreStateSaved) := by
  intro _ r hr
  cases hr

theorem Laws.Requested.restoration : Laws.Requested.Statement (.restoration) := by
  intro _ r hr
  cases hr

theorem Laws.Requested.vddaLow : Laws.Requested.Statement (.vddaLow) := by
  intro _ r hr
  cases hr

theorem Laws.Requested.vddaRecover : Laws.Requested.Statement (.vddaRecover) := by
  intro _ r hr
  cases hr

theorem Laws.Requested.domainPowerGoodTimeout (domain : Nat) : Laws.Requested.Statement (.domainPowerGoodTimeout domain) := by
  intro _ r hr
  cases hr

theorem Laws.Requested.governorCheck (milliwatts : Nat) : Laws.Requested.Statement (.governorCheck milliwatts) := by
  intro _ r hr
  cases hr

theorem Laws.Requested.clockFailure (pll : Bool) : Laws.Requested.Statement (.clockFailure pll) := by
  intro _ r hr
  cases hr

theorem Laws.Requested.apllUnlock (locked : Bool) : Laws.Requested.Statement (.apllUnlock locked) := by
  intro _ r hr
  cases hr

theorem Laws.Requested.pacerCalibration (ppb : Int) : Laws.Requested.Statement (.pacerCalibration ppb) := by
  intro _ r hr
  cases hr

theorem Laws.Requested.dozeEntry : Laws.Requested.Statement (.dozeEntry) := by
  intro _ r hr
  cases hr

theorem Laws.Requested.napEntry : Laws.Requested.Statement (.napEntry) := by
  intro _ r hr
  cases hr

theorem Laws.Requested.lapWake (late : Bool) : Laws.Requested.Statement (.lapWake late) := by
  intro _ r hr
  cases hr

theorem Laws.Requested.wakeEvent (source : Nat) : Laws.Requested.Statement (.wakeEvent source) := by
  intro _ r hr
  cases hr

theorem Laws.Requested.powerOnReset : Laws.Requested.Statement (.powerOnReset) := by
  intro _ r hr
  cases hr

theorem Laws.Requested.brownOut (vddio : Bool) : Laws.Requested.Statement (.brownOut vddio) := by
  intro _ r hr
  cases hr

theorem Laws.Requested.rstnPin : Laws.Requested.Statement (.rstnPin) := by
  intro _ r hr
  cases hr

theorem Laws.Requested.sequenceViolation : Laws.Requested.Statement (.sequenceViolation) := by
  intro _ r hr
  cases hr

theorem Laws.Requested.supervisorTrip : Laws.Requested.Statement (.supervisorTrip) := by
  intro _ r hr
  cases hr

theorem Laws.Requested.nodeResetCommand (req : Requester) : Laws.Requested.Statement (.nodeResetCommand req) := by
  intro h r hr
  cases hr
  exact Requester.possible_of_wf _ (by simp_all [Instr.wf])

theorem Laws.Requested.fullResetCommand (req : Requester) : Laws.Requested.Statement (.fullResetCommand req) := by
  intro h r hr
  cases hr
  exact Requester.possible_of_wf _ (by simp_all [Instr.wf])

theorem Laws.Requested.domainResetCommand (req : Requester) (domain : Nat) : Laws.Requested.Statement (.domainResetCommand req domain) := by
  intro h r hr
  cases hr
  exact Requester.possible_of_wf _ (by simp_all [Instr.wf])

theorem Laws.Requested.resetRelease (good : Nat) : Laws.Requested.Statement (.resetRelease good) := by
  intro _ r hr
  cases hr

theorem Laws.Requested.releaseRetry (good : Nat) : Laws.Requested.Statement (.releaseRetry good) := by
  intro _ r hr
  cases hr

theorem Laws.Requested.jtagBypass : Laws.Requested.Statement (.jtagBypass) := by
  intro _ r hr
  cases hr

theorem Laws.Requested.jtagIdcode : Laws.Requested.Statement (.jtagIdcode) := by
  intro _ r hr
  cases hr

theorem Laws.Requested.jtagSamplePreload (sample : Nat) (preload : Nat) : Laws.Requested.Statement (.jtagSamplePreload sample preload) := by
  intro _ r hr
  cases hr

theorem Laws.Requested.jtagExtest : Laws.Requested.Statement (.jtagExtest) := by
  intro _ r hr
  cases hr

theorem Laws.Requested.jtagTapReset : Laws.Requested.Statement (.jtagTapReset) := by
  intro _ r hr
  cases hr

theorem Laws.Requested.operatingTimeStuck : Laws.Requested.Statement (.operatingTimeStuck) := by
  intro _ r hr
  cases hr

end Sys2Proof
end

