-- ==== Sys2Proof/Laws/Regs.lean ====
section
/-!
SUPPORT. Reading a field after a write: of the same field, of another word, of other bits of the same word, of configuration; and what
a command that is admitted answers.
-/

namespace Sys2Proof.Machine

/-! ### Bit fields of numbers -/

/-- A number by its bits above a field, the field, and the bits below it. -/
theorem bits_split (v lo w : Nat) : v = 2 ^ lo * (2 ^ w * (v / 2 ^ lo / 2 ^ w) + getBits v lo w) + v % 2 ^ lo := by
  unfold getBits
  rw [Nat.div_add_mod, Nat.div_add_mod]

theorem putBits_eq (v lo w x : Nat) : putBits v lo w x = 2 ^ lo * (2 ^ w * (v / 2 ^ lo / 2 ^ w) + x % 2 ^ w) + v % 2 ^ lo := by
  have h := bits_split v lo w
  unfold putBits
  generalize 2 ^ w * (v / 2 ^ lo / 2 ^ w) = q at h ⊢
  generalize getBits v lo w = g at h ⊢
  generalize v % 2 ^ lo = r at h ⊢
  rw [Nat.mul_add] at h
  rw [h, Nat.mul_add, Nat.mul_comm g, Nat.mul_comm (x % 2 ^ w)]
  omega

/-- A field that was set reads as set. -/
theorem getBits_putBits (v lo w x : Nat) : getBits (putBits v lo w x) lo w = x % 2 ^ w := by
  rw [putBits_eq]
  have p : 0 < 2 ^ lo := Nat.two_pow_pos lo
  rw [getBits, Nat.mul_add_div p, Nat.div_eq_of_lt (Nat.mod_lt v p), Nat.add_zero, Nat.mul_add_mod, Nat.mod_mod]

/-- The bits below a field that was set. -/
theorem getBits_putBits_below {v lo w x m n : Nat} (h : m + n ≤ lo) : getBits (putBits v lo w x) m n = getBits v m n := by
  have e : ∀ a : Nat, getBits a m n = getBits (a % 2 ^ lo) m n := fun a => by
    unfold getBits
    rw [← Nat.mod_mul_right_div_self a, ← Nat.mod_mul_right_div_self (a % 2 ^ lo), ← Nat.pow_add,
      Nat.mod_mod_of_dvd _ (Nat.pow_dvd_pow 2 h)]
  rw [e, e v, putBits_eq, Nat.mul_add_mod, Nat.mod_mod]

/-- The bits above a field that was set. -/
theorem getBits_putBits_above {v lo w x m n : Nat} (h : lo + w ≤ m) : getBits (putBits v lo w x) m n = getBits v m n := by
  have e : ∀ a : Nat, getBits a m n = getBits (a / 2 ^ (lo + w)) (m - (lo + w)) n := fun a => by
    unfold getBits
    rw [Nat.div_div_eq_div_mul, ← Nat.pow_add, Nat.add_sub_cancel' h]
  have p : 0 < 2 ^ lo := Nat.two_pow_pos lo
  have q : 0 < 2 ^ w := Nat.two_pow_pos w
  rw [e, e v, putBits_eq, Nat.pow_add, ← Nat.div_div_eq_div_mul, ← Nat.div_div_eq_div_mul, Nat.mul_add_div p,
    Nat.div_eq_of_lt (Nat.mod_lt v p), Nat.add_zero, Nat.mul_add_div q, Nat.div_eq_of_lt (Nat.mod_lt x q), Nat.add_zero]

theorem putBits_lt {v lo w x k : Nat} (hv : v < 2 ^ k) (h : lo + w ≤ k) : putBits v lo w x < 2 ^ k := by
  rw [putBits_eq]
  have a : v / 2 ^ lo / 2 ^ w < 2 ^ (k - (lo + w)) := by
    rw [Nat.div_div_eq_div_mul, ← Nat.pow_add]
    exact Nat.div_lt_of_lt_mul (by rw [← Nat.pow_add, Nat.add_sub_cancel' h]; exact hv)
  have b : x % 2 ^ w < 2 ^ w := Nat.mod_lt _ (Nat.two_pow_pos w)
  have c : v % 2 ^ lo < 2 ^ lo := Nat.mod_lt _ (Nat.two_pow_pos lo)
  have d : 2 ^ w * (v / 2 ^ lo / 2 ^ w) + x % 2 ^ w < 2 ^ w * 2 ^ (k - (lo + w)) := by
    calc _ < 2 ^ w * (v / 2 ^ lo / 2 ^ w) + 2 ^ w := by omega
      _ = 2 ^ w * (v / 2 ^ lo / 2 ^ w + 1) := by rw [Nat.mul_add, Nat.mul_one]
      _ ≤ _ := Nat.mul_le_mul_left _ a
  calc _ < 2 ^ lo * (2 ^ w * (v / 2 ^ lo / 2 ^ w) + x % 2 ^ w) + 2 ^ lo := by omega
    _ = 2 ^ lo * (2 ^ w * (v / 2 ^ lo / 2 ^ w) + x % 2 ^ w + 1) := by rw [Nat.mul_add _ _ 1, Nat.mul_one]
    _ ≤ 2 ^ lo * (2 ^ w * 2 ^ (k - (lo + w))) := Nat.mul_le_mul_left _ d
    _ = 2 ^ k := by rw [← Nat.pow_add, ← Nat.pow_add]; congr 1; omega

/-! ### Words and fields after a write -/

variable {s : State} {r : Ref} {v : Nat}

/-- The word of a narrow field after a write of the field. -/
theorem State.wordAt_wr (c : s.canonical) (hw : r.lo + r.w ≤ 32) :
    ((s.wr r v).wordAt false r.addr).toNat = putBits (s.wordAt false r.addr).toNat r.lo r.w v := by
  have e : (s.wr r v).wordAt false r.addr = BitVec.ofNat 32 (putBits (s.wordAt false r.addr).toNat r.lo r.w v) := by
    unfold State.wr
    rw [if_pos hw]
    exact Sparse.get_set_same c.1.1
  rw [e, BitVec.toNat_ofNat, Nat.mod_eq_of_lt (putBits_lt (BitVec.isLt _) hw)]

/-- A field reads as it was written. -/
theorem State.rd_wr (c : s.canonical) (hw : r.lo + r.w ≤ 32) (hc : r.cfg = false) : (s.wr r v).rd r = v % 2 ^ r.w := by
  unfold State.rd
  rw [if_pos hw, hc, State.wordAt_wr c hw, getBits_putBits]

/-- So does a field of two words. -/
theorem State.rd_wr_wide (c : s.canonical) (hw : ¬r.lo + r.w ≤ 32) (h64 : r.lo + r.w ≤ 64) (hc : r.cfg = false) :
    (s.wr r v).rd r = v % 2 ^ r.w := by
  unfold State.rd State.wr
  rw [if_neg hw, if_neg hw, hc]
  generalize hx : putBits ((s.wordAt false r.addr).toNat + 2 ^ 32 * (s.wordAt false (r.addr + 4)).toNat) r.lo r.w v = x
  have hl : x < 2 ^ 64 := by
    rw [← hx]
    refine putBits_lt ?_ h64
    have a := (s.wordAt false r.addr).isLt
    have b := (s.wordAt false (r.addr + 4)).isLt
    omega
  have e1 : ((s.setReg r.addr (BitVec.ofNat 32 x)).setReg (r.addr + 4) (BitVec.ofNat 32 (x / 2 ^ 32))).wordAt false r.addr = BitVec.ofNat 32 x := by
    refine (Sparse.get_set_other (by omega)).trans ?_
    exact Sparse.get_set_same c.1.1
  have e2 : ((s.setReg r.addr (BitVec.ofNat 32 x)).setReg (r.addr + 4) (BitVec.ofNat 32 (x / 2 ^ 32))).wordAt false (r.addr + 4) =
      BitVec.ofNat 32 (x / 2 ^ 32) := Sparse.get_set_same (Sparse.wf_set c.1.1)
  have e3 : ((BitVec.ofNat 32 x).toNat + 2 ^ 32 * (BitVec.ofNat 32 (x / 2 ^ 32)).toNat) = x := by
    rw [BitVec.toNat_ofNat, BitVec.toNat_ofNat]
    omega
  rw [e1, e2, e3, ← hx, getBits_putBits]

/-- A write of a field leaves every other word. -/
theorem State.wordAt_wr_other {a : Nat} (h1 : a ≠ r.addr) (h2 : r.lo + r.w ≤ 32 ∨ a ≠ r.addr + 4) :
    (s.wr r v).wordAt false a = s.wordAt false a := by
  unfold State.wr
  split
  · exact Sparse.get_set_other h1
  · next k =>
    cases h2 with
    | inl h2 => exact absurd h2 k
    | inr h2 => exact (Sparse.get_set_other h2).trans (Sparse.get_set_other h1)

/-- A write leaves a field of one word that lies in another word. -/
theorem State.rd_wr_other {q : Ref} (hq : q.lo + q.w ≤ 32) (h1 : q.addr ≠ r.addr) (h2 : r.lo + r.w ≤ 32 ∨ q.addr ≠ r.addr + 4) :
    (s.wr r v).rd q = s.rd q := by
  unfold State.rd
  rw [if_pos hq, if_pos hq]
  cases hc : q.cfg with
  | false => rw [State.wordAt_wr_other h1 h2]
  | true =>
    have e : ((s.wr r v).wordAt true q.addr) = s.wordAt true q.addr := by
      unfold State.wr
      split <;> rfl
    rw [e]

/-- A write leaves a field in other bits of the same word. -/
theorem State.rd_wr_bits {q : Ref} (c : s.canonical) (hr : r.lo + r.w ≤ 32) (ha : q.addr = r.addr) (hq : q.lo + q.w ≤ 32) (hc : q.cfg = false)
    (hd : q.lo + q.w ≤ r.lo ∨ r.lo + r.w ≤ q.lo) : (s.wr r v).rd q = s.rd q := by
  unfold State.rd
  rw [if_pos hq, if_pos hq, hc, ha, State.wordAt_wr c hr]
  cases hd with
  | inl h => exact getBits_putBits_below h
  | inr h => exact getBits_putBits_above h

/-- A write of a register leaves the configuration. -/
theorem State.rd_wr_cfg {q : Ref} (hc : q.cfg = true) : (s.wr r v).rd q = s.rd q := by
  have e : ∀ a, (s.wr r v).wordAt true a = s.wordAt true a := fun a => by
    unfold State.wr
    split <;> rfl
  unfold State.rd
  rw [hc, e, e]

theorem State.canonical_wr (c : s.canonical) : (s.wr r v).canonical :=
  (State.wr_kept (l := [.regs]) (Kept.refl _ s) (Zoned.all ⟨.regs, by simp, rfl⟩)).canon c

theorem State.canonical_awake (c : s.canonical) : s.awake.canonical := (State.awake_kept (Kept.refl _ s) fun _ h => Part.among_self h).canon c

/-! ### Commands of a requester -/

/-- A command that is admitted is answered with OK and has its effect on the node, awake. -/
theorem State.command_ok {q : Requester} {p : Nat} {f : State → State} (h : s.reachable q = true) (k : s.writeStatus q p = .ok) :
    s.command q p f = .next { f s.awake with status := 0 } := by
  unfold State.command
  simp [h, k, Status.code]

end Sys2Proof.Machine
end

