-- ==== Sys2Proof/Laws/State.lean ====
section
/-!
SUPPORT. What each named update of the state does to each of its fields: the field it sets, and every other as it was. With them no
proof needs to unfold an update of the record.
-/

namespace Sys2Proof.Machine

variable {s : State}

@[simp] theorem State.modAlm_straps {f : AlmState → AlmState} : (s.modAlm f).straps = s.straps := rfl
@[simp] theorem State.modAlm_regs {f : AlmState → AlmState} : (s.modAlm f).regs = s.regs := rfl
@[simp] theorem State.modAlm_live {f : AlmState → AlmState} : (s.modAlm f).live = s.live := rfl
@[simp] theorem State.modAlm_shadow {f : AlmState → AlmState} : (s.modAlm f).shadow = s.shadow := rfl
@[simp] theorem State.modAlm_mirror {f : AlmState → AlmState} : (s.modAlm f).mirror = s.mirror := rfl
@[simp] theorem State.modAlm_dirty {f : AlmState → AlmState} : (s.modAlm f).dirty = s.dirty := rfl
@[simp] theorem State.modAlm_locked {f : AlmState → AlmState} : (s.modAlm f).locked = s.locked := rfl
@[simp] theorem State.modAlm_immediate {f : AlmState → AlmState} : (s.modAlm f).immediate = s.immediate := rfl
@[simp] theorem State.modAlm_latched {f : AlmState → AlmState} : (s.modAlm f).latched = s.latched := rfl
@[simp] theorem State.modAlm_status {f : AlmState → AlmState} : (s.modAlm f).status = s.status := rfl
@[simp] theorem State.modAlm_response {f : AlmState → AlmState} : (s.modAlm f).response = s.response := rfl
@[simp] theorem State.modAlm_responseCrc {f : AlmState → AlmState} : (s.modAlm f).responseCrc = s.responseCrc := rfl
@[simp] theorem State.modAlm_freeCount {f : AlmState → AlmState} : (s.modAlm f).freeCount = s.freeCount := rfl
@[simp] theorem State.modAlm_stime {f : AlmState → AlmState} : (s.modAlm f).stime = s.stime := rfl
@[simp] theorem State.modAlm_stimeFrac {f : AlmState → AlmState} : (s.modAlm f).stimeFrac = s.stimeFrac := rfl
@[simp] theorem State.modAlm_optimeFrac {f : AlmState → AlmState} : (s.modAlm f).optimeFrac = s.optimeFrac := rfl
@[simp] theorem State.modAlm_pacerFrac {f : AlmState → AlmState} : (s.modAlm f).pacerFrac = s.pacerFrac := rfl
@[simp] theorem State.modAlm_sram {f : AlmState → AlmState} : (s.modAlm f).sram = s.sram := rfl
@[simp] theorem State.modAlm_sramBad {f : AlmState → AlmState} : (s.modAlm f).sramBad = s.sramBad := rfl
@[simp] theorem State.modAlm_sramWeak {f : AlmState → AlmState} : (s.modAlm f).sramWeak = s.sramWeak := rfl
@[simp] theorem State.modAlm_store {f : AlmState → AlmState} : (s.modAlm f).store = s.store := rfl
@[simp] theorem State.modAlm_terms {f : AlmState → AlmState} : (s.modAlm f).terms = s.terms := rfl
@[simp] theorem State.modAlm_arith {f : AlmState → AlmState} : (s.modAlm f).arith = s.arith := rfl
@[simp] theorem State.modAlm_afe {f : AlmState → AlmState} : (s.modAlm f).afe = s.afe := rfl
@[simp] theorem State.modAlm_cal {f : AlmState → AlmState} : (s.modAlm f).cal = s.cal := rfl
@[simp] theorem State.modAlm_recorder {f : AlmState → AlmState} : (s.modAlm f).recorder = s.recorder := rfl
@[simp] theorem State.modAlm_nvm {f : AlmState → AlmState} : (s.modAlm f).nvm = s.nvm := rfl
@[simp] theorem State.modAlm_dma {f : AlmState → AlmState} : (s.modAlm f).dma = s.dma := rfl
@[simp] theorem State.modAlm_pwr {f : AlmState → AlmState} : (s.modAlm f).pwr = s.pwr := rfl
@[simp] theorem State.modAlm_rst {f : AlmState → AlmState} : (s.modAlm f).rst = s.rst := rfl
@[simp] theorem State.modAlm_lap {f : AlmState → AlmState} : (s.modAlm f).lap = s.lap := rfl
@[simp] theorem State.modAlm_rtc {f : AlmState → AlmState} : (s.modAlm f).rtc = s.rtc := rfl
@[simp] theorem State.modAlm_alarm {f : AlmState → AlmState} : (s.modAlm f).alarm = f s.alarm := rfl
@[simp] theorem State.modAlm_call {f : AlmState → AlmState} : (s.modAlm f).call = s.call := rfl
@[simp] theorem State.modAlm_loops {f : AlmState → AlmState} : (s.modAlm f).loops = s.loops := rfl
@[simp] theorem State.modAlm_jkt {f : AlmState → AlmState} : (s.modAlm f).jkt = s.jkt := rfl
@[simp] theorem State.modAlm_pair {f : AlmState → AlmState} : (s.modAlm f).pair = s.pair := rfl
@[simp] theorem State.modAlm_ports {f : AlmState → AlmState} : (s.modAlm f).ports = s.ports := rfl
@[simp] theorem State.modAlm_msg {f : AlmState → AlmState} : (s.modAlm f).msg = s.msg := rfl
@[simp] theorem State.modAlm_tsync {f : AlmState → AlmState} : (s.modAlm f).tsync = s.tsync := rfl
@[simp] theorem State.modAlm_sec {f : AlmState → AlmState} : (s.modAlm f).sec = s.sec := rfl
@[simp] theorem State.modAlm_jtag {f : AlmState → AlmState} : (s.modAlm f).jtag = s.jtag := rfl
@[simp] theorem State.modAlm_switchTo {f : AlmState → AlmState} : (s.modAlm f).switchTo = s.switchTo := rfl
@[simp] theorem State.modAlm_pending {f : AlmState → AlmState} : (s.modAlm f).pending = s.pending := rfl
@[simp] theorem State.modAlm_rd {f : AlmState → AlmState} {r : Ref} : (s.modAlm f).rd r = s.rd r := rfl
@[simp] theorem State.modAlm_wordAt {f : AlmState → AlmState} {g : Bool} {a : Nat} : (s.modAlm f).wordAt g a = s.wordAt g a := rfl

@[simp] theorem State.modCall_straps {f : CallState → CallState} : (s.modCall f).straps = s.straps := rfl
@[simp] theorem State.modCall_regs {f : CallState → CallState} : (s.modCall f).regs = s.regs := rfl
@[simp] theorem State.modCall_live {f : CallState → CallState} : (s.modCall f).live = s.live := rfl
@[simp] theorem State.modCall_shadow {f : CallState → CallState} : (s.modCall f).shadow = s.shadow := rfl
@[simp] theorem State.modCall_mirror {f : CallState → CallState} : (s.modCall f).mirror = s.mirror := rfl
@[simp] theorem State.modCall_dirty {f : CallState → CallState} : (s.modCall f).dirty = s.dirty := rfl
@[simp] theorem State.modCall_locked {f : CallState → CallState} : (s.modCall f).locked = s.locked := rfl
@[simp] theorem State.modCall_immediate {f : CallState → CallState} : (s.modCall f).immediate = s.immediate := rfl
@[simp] theorem State.modCall_latched {f : CallState → CallState} : (s.modCall f).latched = s.latched := rfl
@[simp] theorem State.modCall_status {f : CallState → CallState} : (s.modCall f).status = s.status := rfl
@[simp] theorem State.modCall_response {f : CallState → CallState} : (s.modCall f).response = s.response := rfl
@[simp] theorem State.modCall_responseCrc {f : CallState → CallState} : (s.modCall f).responseCrc = s.responseCrc := rfl
@[simp] theorem State.modCall_freeCount {f : CallState → CallState} : (s.modCall f).freeCount = s.freeCount := rfl
@[simp] theorem State.modCall_stime {f : CallState → CallState} : (s.modCall f).stime = s.stime := rfl
@[simp] theorem State.modCall_stimeFrac {f : CallState → CallState} : (s.modCall f).stimeFrac = s.stimeFrac := rfl
@[simp] theorem State.modCall_optimeFrac {f : CallState → CallState} : (s.modCall f).optimeFrac = s.optimeFrac := rfl
@[simp] theorem State.modCall_pacerFrac {f : CallState → CallState} : (s.modCall f).pacerFrac = s.pacerFrac := rfl
@[simp] theorem State.modCall_sram {f : CallState → CallState} : (s.modCall f).sram = s.sram := rfl
@[simp] theorem State.modCall_sramBad {f : CallState → CallState} : (s.modCall f).sramBad = s.sramBad := rfl
@[simp] theorem State.modCall_sramWeak {f : CallState → CallState} : (s.modCall f).sramWeak = s.sramWeak := rfl
@[simp] theorem State.modCall_store {f : CallState → CallState} : (s.modCall f).store = s.store := rfl
@[simp] theorem State.modCall_terms {f : CallState → CallState} : (s.modCall f).terms = s.terms := rfl
@[simp] theorem State.modCall_arith {f : CallState → CallState} : (s.modCall f).arith = s.arith := rfl
@[simp] theorem State.modCall_afe {f : CallState → CallState} : (s.modCall f).afe = s.afe := rfl
@[simp] theorem State.modCall_cal {f : CallState → CallState} : (s.modCall f).cal = s.cal := rfl
@[simp] theorem State.modCall_recorder {f : CallState → CallState} : (s.modCall f).recorder = s.recorder := rfl
@[simp] theorem State.modCall_nvm {f : CallState → CallState} : (s.modCall f).nvm = s.nvm := rfl
@[simp] theorem State.modCall_dma {f : CallState → CallState} : (s.modCall f).dma = s.dma := rfl
@[simp] theorem State.modCall_pwr {f : CallState → CallState} : (s.modCall f).pwr = s.pwr := rfl
@[simp] theorem State.modCall_rst {f : CallState → CallState} : (s.modCall f).rst = s.rst := rfl
@[simp] theorem State.modCall_lap {f : CallState → CallState} : (s.modCall f).lap = s.lap := rfl
@[simp] theorem State.modCall_rtc {f : CallState → CallState} : (s.modCall f).rtc = s.rtc := rfl
@[simp] theorem State.modCall_alarm {f : CallState → CallState} : (s.modCall f).alarm = s.alarm := rfl
@[simp] theorem State.modCall_call {f : CallState → CallState} : (s.modCall f).call = f s.call := rfl
@[simp] theorem State.modCall_loops {f : CallState → CallState} : (s.modCall f).loops = s.loops := rfl
@[simp] theorem State.modCall_jkt {f : CallState → CallState} : (s.modCall f).jkt = s.jkt := rfl
@[simp] theorem State.modCall_pair {f : CallState → CallState} : (s.modCall f).pair = s.pair := rfl
@[simp] theorem State.modCall_ports {f : CallState → CallState} : (s.modCall f).ports = s.ports := rfl
@[simp] theorem State.modCall_msg {f : CallState → CallState} : (s.modCall f).msg = s.msg := rfl
@[simp] theorem State.modCall_tsync {f : CallState → CallState} : (s.modCall f).tsync = s.tsync := rfl
@[simp] theorem State.modCall_sec {f : CallState → CallState} : (s.modCall f).sec = s.sec := rfl
@[simp] theorem State.modCall_jtag {f : CallState → CallState} : (s.modCall f).jtag = s.jtag := rfl
@[simp] theorem State.modCall_switchTo {f : CallState → CallState} : (s.modCall f).switchTo = s.switchTo := rfl
@[simp] theorem State.modCall_pending {f : CallState → CallState} : (s.modCall f).pending = s.pending := rfl
@[simp] theorem State.modCall_rd {f : CallState → CallState} {r : Ref} : (s.modCall f).rd r = s.rd r := rfl
@[simp] theorem State.modCall_wordAt {f : CallState → CallState} {g : Bool} {a : Nat} : (s.modCall f).wordAt g a = s.wordAt g a := rfl

@[simp] theorem State.modJkt_straps {f : JacketState → JacketState} : (s.modJkt f).straps = s.straps := rfl
@[simp] theorem State.modJkt_regs {f : JacketState → JacketState} : (s.modJkt f).regs = s.regs := rfl
@[simp] theorem State.modJkt_live {f : JacketState → JacketState} : (s.modJkt f).live = s.live := rfl
@[simp] theorem State.modJkt_shadow {f : JacketState → JacketState} : (s.modJkt f).shadow = s.shadow := rfl
@[simp] theorem State.modJkt_mirror {f : JacketState → JacketState} : (s.modJkt f).mirror = s.mirror := rfl
@[simp] theorem State.modJkt_dirty {f : JacketState → JacketState} : (s.modJkt f).dirty = s.dirty := rfl
@[simp] theorem State.modJkt_locked {f : JacketState → JacketState} : (s.modJkt f).locked = s.locked := rfl
@[simp] theorem State.modJkt_immediate {f : JacketState → JacketState} : (s.modJkt f).immediate = s.immediate := rfl
@[simp] theorem State.modJkt_latched {f : JacketState → JacketState} : (s.modJkt f).latched = s.latched := rfl
@[simp] theorem State.modJkt_status {f : JacketState → JacketState} : (s.modJkt f).status = s.status := rfl
@[simp] theorem State.modJkt_response {f : JacketState → JacketState} : (s.modJkt f).response = s.response := rfl
@[simp] theorem State.modJkt_responseCrc {f : JacketState → JacketState} : (s.modJkt f).responseCrc = s.responseCrc := rfl
@[simp] theorem State.modJkt_freeCount {f : JacketState → JacketState} : (s.modJkt f).freeCount = s.freeCount := rfl
@[simp] theorem State.modJkt_stime {f : JacketState → JacketState} : (s.modJkt f).stime = s.stime := rfl
@[simp] theorem State.modJkt_stimeFrac {f : JacketState → JacketState} : (s.modJkt f).stimeFrac = s.stimeFrac := rfl
@[simp] theorem State.modJkt_optimeFrac {f : JacketState → JacketState} : (s.modJkt f).optimeFrac = s.optimeFrac := rfl
@[simp] theorem State.modJkt_pacerFrac {f : JacketState → JacketState} : (s.modJkt f).pacerFrac = s.pacerFrac := rfl
@[simp] theorem State.modJkt_sram {f : JacketState → JacketState} : (s.modJkt f).sram = s.sram := rfl
@[simp] theorem State.modJkt_sramBad {f : JacketState → JacketState} : (s.modJkt f).sramBad = s.sramBad := rfl
@[simp] theorem State.modJkt_sramWeak {f : JacketState → JacketState} : (s.modJkt f).sramWeak = s.sramWeak := rfl
@[simp] theorem State.modJkt_store {f : JacketState → JacketState} : (s.modJkt f).store = s.store := rfl
@[simp] theorem State.modJkt_terms {f : JacketState → JacketState} : (s.modJkt f).terms = s.terms := rfl
@[simp] theorem State.modJkt_arith {f : JacketState → JacketState} : (s.modJkt f).arith = s.arith := rfl
@[simp] theorem State.modJkt_afe {f : JacketState → JacketState} : (s.modJkt f).afe = s.afe := rfl
@[simp] theorem State.modJkt_cal {f : JacketState → JacketState} : (s.modJkt f).cal = s.cal := rfl
@[simp] theorem State.modJkt_recorder {f : JacketState → JacketState} : (s.modJkt f).recorder = s.recorder := rfl
@[simp] theorem State.modJkt_nvm {f : JacketState → JacketState} : (s.modJkt f).nvm = s.nvm := rfl
@[simp] theorem State.modJkt_dma {f : JacketState → JacketState} : (s.modJkt f).dma = s.dma := rfl
@[simp] theorem State.modJkt_pwr {f : JacketState → JacketState} : (s.modJkt f).pwr = s.pwr := rfl
@[simp] theorem State.modJkt_rst {f : JacketState → JacketState} : (s.modJkt f).rst = s.rst := rfl
@[simp] theorem State.modJkt_lap {f : JacketState → JacketState} : (s.modJkt f).lap = s.lap := rfl
@[simp] theorem State.modJkt_rtc {f : JacketState → JacketState} : (s.modJkt f).rtc = s.rtc := rfl
@[simp] theorem State.modJkt_alarm {f : JacketState → JacketState} : (s.modJkt f).alarm = s.alarm := rfl
@[simp] theorem State.modJkt_call {f : JacketState → JacketState} : (s.modJkt f).call = s.call := rfl
@[simp] theorem State.modJkt_loops {f : JacketState → JacketState} : (s.modJkt f).loops = s.loops := rfl
@[simp] theorem State.modJkt_jkt {f : JacketState → JacketState} : (s.modJkt f).jkt = f s.jkt := rfl
@[simp] theorem State.modJkt_pair {f : JacketState → JacketState} : (s.modJkt f).pair = s.pair := rfl
@[simp] theorem State.modJkt_ports {f : JacketState → JacketState} : (s.modJkt f).ports = s.ports := rfl
@[simp] theorem State.modJkt_msg {f : JacketState → JacketState} : (s.modJkt f).msg = s.msg := rfl
@[simp] theorem State.modJkt_tsync {f : JacketState → JacketState} : (s.modJkt f).tsync = s.tsync := rfl
@[simp] theorem State.modJkt_sec {f : JacketState → JacketState} : (s.modJkt f).sec = s.sec := rfl
@[simp] theorem State.modJkt_jtag {f : JacketState → JacketState} : (s.modJkt f).jtag = s.jtag := rfl
@[simp] theorem State.modJkt_switchTo {f : JacketState → JacketState} : (s.modJkt f).switchTo = s.switchTo := rfl
@[simp] theorem State.modJkt_pending {f : JacketState → JacketState} : (s.modJkt f).pending = s.pending := rfl
@[simp] theorem State.modJkt_rd {f : JacketState → JacketState} {r : Ref} : (s.modJkt f).rd r = s.rd r := rfl
@[simp] theorem State.modJkt_wordAt {f : JacketState → JacketState} {g : Bool} {a : Nat} : (s.modJkt f).wordAt g a = s.wordAt g a := rfl

@[simp] theorem State.modPair_straps {f : PairState → PairState} : (s.modPair f).straps = s.straps := rfl
@[simp] theorem State.modPair_regs {f : PairState → PairState} : (s.modPair f).regs = s.regs := rfl
@[simp] theorem State.modPair_live {f : PairState → PairState} : (s.modPair f).live = s.live := rfl
@[simp] theorem State.modPair_shadow {f : PairState → PairState} : (s.modPair f).shadow = s.shadow := rfl
@[simp] theorem State.modPair_mirror {f : PairState → PairState} : (s.modPair f).mirror = s.mirror := rfl
@[simp] theorem State.modPair_dirty {f : PairState → PairState} : (s.modPair f).dirty = s.dirty := rfl
@[simp] theorem State.modPair_locked {f : PairState → PairState} : (s.modPair f).locked = s.locked := rfl
@[simp] theorem State.modPair_immediate {f : PairState → PairState} : (s.modPair f).immediate = s.immediate := rfl
@[simp] theorem State.modPair_latched {f : PairState → PairState} : (s.modPair f).latched = s.latched := rfl
@[simp] theorem State.modPair_status {f : PairState → PairState} : (s.modPair f).status = s.status := rfl
@[simp] theorem State.modPair_response {f : PairState → PairState} : (s.modPair f).response = s.response := rfl
@[simp] theorem State.modPair_responseCrc {f : PairState → PairState} : (s.modPair f).responseCrc = s.responseCrc := rfl
@[simp] theorem State.modPair_freeCount {f : PairState → PairState} : (s.modPair f).freeCount = s.freeCount := rfl
@[simp] theorem State.modPair_stime {f : PairState → PairState} : (s.modPair f).stime = s.stime := rfl
@[simp] theorem State.modPair_stimeFrac {f : PairState → PairState} : (s.modPair f).stimeFrac = s.stimeFrac := rfl
@[simp] theorem State.modPair_optimeFrac {f : PairState → PairState} : (s.modPair f).optimeFrac = s.optimeFrac := rfl
@[simp] theorem State.modPair_pacerFrac {f : PairState → PairState} : (s.modPair f).pacerFrac = s.pacerFrac := rfl
@[simp] theorem State.modPair_sram {f : PairState → PairState} : (s.modPair f).sram = s.sram := rfl
@[simp] theorem State.modPair_sramBad {f : PairState → PairState} : (s.modPair f).sramBad = s.sramBad := rfl
@[simp] theorem State.modPair_sramWeak {f : PairState → PairState} : (s.modPair f).sramWeak = s.sramWeak := rfl
@[simp] theorem State.modPair_store {f : PairState → PairState} : (s.modPair f).store = s.store := rfl
@[simp] theorem State.modPair_terms {f : PairState → PairState} : (s.modPair f).terms = s.terms := rfl
@[simp] theorem State.modPair_arith {f : PairState → PairState} : (s.modPair f).arith = s.arith := rfl
@[simp] theorem State.modPair_afe {f : PairState → PairState} : (s.modPair f).afe = s.afe := rfl
@[simp] theorem State.modPair_cal {f : PairState → PairState} : (s.modPair f).cal = s.cal := rfl
@[simp] theorem State.modPair_recorder {f : PairState → PairState} : (s.modPair f).recorder = s.recorder := rfl
@[simp] theorem State.modPair_nvm {f : PairState → PairState} : (s.modPair f).nvm = s.nvm := rfl
@[simp] theorem State.modPair_dma {f : PairState → PairState} : (s.modPair f).dma = s.dma := rfl
@[simp] theorem State.modPair_pwr {f : PairState → PairState} : (s.modPair f).pwr = s.pwr := rfl
@[simp] theorem State.modPair_rst {f : PairState → PairState} : (s.modPair f).rst = s.rst := rfl
@[simp] theorem State.modPair_lap {f : PairState → PairState} : (s.modPair f).lap = s.lap := rfl
@[simp] theorem State.modPair_rtc {f : PairState → PairState} : (s.modPair f).rtc = s.rtc := rfl
@[simp] theorem State.modPair_alarm {f : PairState → PairState} : (s.modPair f).alarm = s.alarm := rfl
@[simp] theorem State.modPair_call {f : PairState → PairState} : (s.modPair f).call = s.call := rfl
@[simp] theorem State.modPair_loops {f : PairState → PairState} : (s.modPair f).loops = s.loops := rfl
@[simp] theorem State.modPair_jkt {f : PairState → PairState} : (s.modPair f).jkt = s.jkt := rfl
@[simp] theorem State.modPair_pair {f : PairState → PairState} : (s.modPair f).pair = f s.pair := rfl
@[simp] theorem State.modPair_ports {f : PairState → PairState} : (s.modPair f).ports = s.ports := rfl
@[simp] theorem State.modPair_msg {f : PairState → PairState} : (s.modPair f).msg = s.msg := rfl
@[simp] theorem State.modPair_tsync {f : PairState → PairState} : (s.modPair f).tsync = s.tsync := rfl
@[simp] theorem State.modPair_sec {f : PairState → PairState} : (s.modPair f).sec = s.sec := rfl
@[simp] theorem State.modPair_jtag {f : PairState → PairState} : (s.modPair f).jtag = s.jtag := rfl
@[simp] theorem State.modPair_switchTo {f : PairState → PairState} : (s.modPair f).switchTo = s.switchTo := rfl
@[simp] theorem State.modPair_pending {f : PairState → PairState} : (s.modPair f).pending = s.pending := rfl
@[simp] theorem State.modPair_rd {f : PairState → PairState} {r : Ref} : (s.modPair f).rd r = s.rd r := rfl
@[simp] theorem State.modPair_wordAt {f : PairState → PairState} {g : Bool} {a : Nat} : (s.modPair f).wordAt g a = s.wordAt g a := rfl

@[simp] theorem State.modSec_straps {f : SecState → SecState} : (s.modSec f).straps = s.straps := rfl
@[simp] theorem State.modSec_regs {f : SecState → SecState} : (s.modSec f).regs = s.regs := rfl
@[simp] theorem State.modSec_live {f : SecState → SecState} : (s.modSec f).live = s.live := rfl
@[simp] theorem State.modSec_shadow {f : SecState → SecState} : (s.modSec f).shadow = s.shadow := rfl
@[simp] theorem State.modSec_mirror {f : SecState → SecState} : (s.modSec f).mirror = s.mirror := rfl
@[simp] theorem State.modSec_dirty {f : SecState → SecState} : (s.modSec f).dirty = s.dirty := rfl
@[simp] theorem State.modSec_locked {f : SecState → SecState} : (s.modSec f).locked = s.locked := rfl
@[simp] theorem State.modSec_immediate {f : SecState → SecState} : (s.modSec f).immediate = s.immediate := rfl
@[simp] theorem State.modSec_latched {f : SecState → SecState} : (s.modSec f).latched = s.latched := rfl
@[simp] theorem State.modSec_status {f : SecState → SecState} : (s.modSec f).status = s.status := rfl
@[simp] theorem State.modSec_response {f : SecState → SecState} : (s.modSec f).response = s.response := rfl
@[simp] theorem State.modSec_responseCrc {f : SecState → SecState} : (s.modSec f).responseCrc = s.responseCrc := rfl
@[simp] theorem State.modSec_freeCount {f : SecState → SecState} : (s.modSec f).freeCount = s.freeCount := rfl
@[simp] theorem State.modSec_stime {f : SecState → SecState} : (s.modSec f).stime = s.stime := rfl
@[simp] theorem State.modSec_stimeFrac {f : SecState → SecState} : (s.modSec f).stimeFrac = s.stimeFrac := rfl
@[simp] theorem State.modSec_optimeFrac {f : SecState → SecState} : (s.modSec f).optimeFrac = s.optimeFrac := rfl
@[simp] theorem State.modSec_pacerFrac {f : SecState → SecState} : (s.modSec f).pacerFrac = s.pacerFrac := rfl
@[simp] theorem State.modSec_sram {f : SecState → SecState} : (s.modSec f).sram = s.sram := rfl
@[simp] theorem State.modSec_sramBad {f : SecState → SecState} : (s.modSec f).sramBad = s.sramBad := rfl
@[simp] theorem State.modSec_sramWeak {f : SecState → SecState} : (s.modSec f).sramWeak = s.sramWeak := rfl
@[simp] theorem State.modSec_store {f : SecState → SecState} : (s.modSec f).store = s.store := rfl
@[simp] theorem State.modSec_terms {f : SecState → SecState} : (s.modSec f).terms = s.terms := rfl
@[simp] theorem State.modSec_arith {f : SecState → SecState} : (s.modSec f).arith = s.arith := rfl
@[simp] theorem State.modSec_afe {f : SecState → SecState} : (s.modSec f).afe = s.afe := rfl
@[simp] theorem State.modSec_cal {f : SecState → SecState} : (s.modSec f).cal = s.cal := rfl
@[simp] theorem State.modSec_recorder {f : SecState → SecState} : (s.modSec f).recorder = s.recorder := rfl
@[simp] theorem State.modSec_nvm {f : SecState → SecState} : (s.modSec f).nvm = s.nvm := rfl
@[simp] theorem State.modSec_dma {f : SecState → SecState} : (s.modSec f).dma = s.dma := rfl
@[simp] theorem State.modSec_pwr {f : SecState → SecState} : (s.modSec f).pwr = s.pwr := rfl
@[simp] theorem State.modSec_rst {f : SecState → SecState} : (s.modSec f).rst = s.rst := rfl
@[simp] theorem State.modSec_lap {f : SecState → SecState} : (s.modSec f).lap = s.lap := rfl
@[simp] theorem State.modSec_rtc {f : SecState → SecState} : (s.modSec f).rtc = s.rtc := rfl
@[simp] theorem State.modSec_alarm {f : SecState → SecState} : (s.modSec f).alarm = s.alarm := rfl
@[simp] theorem State.modSec_call {f : SecState → SecState} : (s.modSec f).call = s.call := rfl
@[simp] theorem State.modSec_loops {f : SecState → SecState} : (s.modSec f).loops = s.loops := rfl
@[simp] theorem State.modSec_jkt {f : SecState → SecState} : (s.modSec f).jkt = s.jkt := rfl
@[simp] theorem State.modSec_pair {f : SecState → SecState} : (s.modSec f).pair = s.pair := rfl
@[simp] theorem State.modSec_ports {f : SecState → SecState} : (s.modSec f).ports = s.ports := rfl
@[simp] theorem State.modSec_msg {f : SecState → SecState} : (s.modSec f).msg = s.msg := rfl
@[simp] theorem State.modSec_tsync {f : SecState → SecState} : (s.modSec f).tsync = s.tsync := rfl
@[simp] theorem State.modSec_sec {f : SecState → SecState} : (s.modSec f).sec = f s.sec := rfl
@[simp] theorem State.modSec_jtag {f : SecState → SecState} : (s.modSec f).jtag = s.jtag := rfl
@[simp] theorem State.modSec_switchTo {f : SecState → SecState} : (s.modSec f).switchTo = s.switchTo := rfl
@[simp] theorem State.modSec_pending {f : SecState → SecState} : (s.modSec f).pending = s.pending := rfl
@[simp] theorem State.modSec_rd {f : SecState → SecState} {r : Ref} : (s.modSec f).rd r = s.rd r := rfl
@[simp] theorem State.modSec_wordAt {f : SecState → SecState} {g : Bool} {a : Nat} : (s.modSec f).wordAt g a = s.wordAt g a := rfl

@[simp] theorem State.modMsg_straps {f : MsgState → MsgState} : (s.modMsg f).straps = s.straps := rfl
@[simp] theorem State.modMsg_regs {f : MsgState → MsgState} : (s.modMsg f).regs = s.regs := rfl
@[simp] theorem State.modMsg_live {f : MsgState → MsgState} : (s.modMsg f).live = s.live := rfl
@[simp] theorem State.modMsg_shadow {f : MsgState → MsgState} : (s.modMsg f).shadow = s.shadow := rfl
@[simp] theorem State.modMsg_mirror {f : MsgState → MsgState} : (s.modMsg f).mirror = s.mirror := rfl
@[simp] theorem State.modMsg_dirty {f : MsgState → MsgState} : (s.modMsg f).dirty = s.dirty := rfl
@[simp] theorem State.modMsg_locked {f : MsgState → MsgState} : (s.modMsg f).locked = s.locked := rfl
@[simp] theorem State.modMsg_immediate {f : MsgState → MsgState} : (s.modMsg f).immediate = s.immediate := rfl
@[simp] theorem State.modMsg_latched {f : MsgState → MsgState} : (s.modMsg f).latched = s.latched := rfl
@[simp] theorem State.modMsg_status {f : MsgState → MsgState} : (s.modMsg f).status = s.status := rfl
@[simp] theorem State.modMsg_response {f : MsgState → MsgState} : (s.modMsg f).response = s.response := rfl
@[simp] theorem State.modMsg_responseCrc {f : MsgState → MsgState} : (s.modMsg f).responseCrc = s.responseCrc := rfl
@[simp] theorem State.modMsg_freeCount {f : MsgState → MsgState} : (s.modMsg f).freeCount = s.freeCount := rfl
@[simp] theorem State.modMsg_stime {f : MsgState → MsgState} : (s.modMsg f).stime = s.stime := rfl
@[simp] theorem State.modMsg_stimeFrac {f : MsgState → MsgState} : (s.modMsg f).stimeFrac = s.stimeFrac := rfl
@[simp] theorem State.modMsg_optimeFrac {f : MsgState → MsgState} : (s.modMsg f).optimeFrac = s.optimeFrac := rfl
@[simp] theorem State.modMsg_pacerFrac {f : MsgState → MsgState} : (s.modMsg f).pacerFrac = s.pacerFrac := rfl
@[simp] theorem State.modMsg_sram {f : MsgState → MsgState} : (s.modMsg f).sram = s.sram := rfl
@[simp] theorem State.modMsg_sramBad {f : MsgState → MsgState} : (s.modMsg f).sramBad = s.sramBad := rfl
@[simp] theorem State.modMsg_sramWeak {f : MsgState → MsgState} : (s.modMsg f).sramWeak = s.sramWeak := rfl
@[simp] theorem State.modMsg_store {f : MsgState → MsgState} : (s.modMsg f).store = s.store := rfl
@[simp] theorem State.modMsg_terms {f : MsgState → MsgState} : (s.modMsg f).terms = s.terms := rfl
@[simp] theorem State.modMsg_arith {f : MsgState → MsgState} : (s.modMsg f).arith = s.arith := rfl
@[simp] theorem State.modMsg_afe {f : MsgState → MsgState} : (s.modMsg f).afe = s.afe := rfl
@[simp] theorem State.modMsg_cal {f : MsgState → MsgState} : (s.modMsg f).cal = s.cal := rfl
@[simp] theorem State.modMsg_recorder {f : MsgState → MsgState} : (s.modMsg f).recorder = s.recorder := rfl
@[simp] theorem State.modMsg_nvm {f : MsgState → MsgState} : (s.modMsg f).nvm = s.nvm := rfl
@[simp] theorem State.modMsg_dma {f : MsgState → MsgState} : (s.modMsg f).dma = s.dma := rfl
@[simp] theorem State.modMsg_pwr {f : MsgState → MsgState} : (s.modMsg f).pwr = s.pwr := rfl
@[simp] theorem State.modMsg_rst {f : MsgState → MsgState} : (s.modMsg f).rst = s.rst := rfl
@[simp] theorem State.modMsg_lap {f : MsgState → MsgState} : (s.modMsg f).lap = s.lap := rfl
@[simp] theorem State.modMsg_rtc {f : MsgState → MsgState} : (s.modMsg f).rtc = s.rtc := rfl
@[simp] theorem State.modMsg_alarm {f : MsgState → MsgState} : (s.modMsg f).alarm = s.alarm := rfl
@[simp] theorem State.modMsg_call {f : MsgState → MsgState} : (s.modMsg f).call = s.call := rfl
@[simp] theorem State.modMsg_loops {f : MsgState → MsgState} : (s.modMsg f).loops = s.loops := rfl
@[simp] theorem State.modMsg_jkt {f : MsgState → MsgState} : (s.modMsg f).jkt = s.jkt := rfl
@[simp] theorem State.modMsg_pair {f : MsgState → MsgState} : (s.modMsg f).pair = s.pair := rfl
@[simp] theorem State.modMsg_ports {f : MsgState → MsgState} : (s.modMsg f).ports = s.ports := rfl
@[simp] theorem State.modMsg_msg {f : MsgState → MsgState} : (s.modMsg f).msg = f s.msg := rfl
@[simp] theorem State.modMsg_tsync {f : MsgState → MsgState} : (s.modMsg f).tsync = s.tsync := rfl
@[simp] theorem State.modMsg_sec {f : MsgState → MsgState} : (s.modMsg f).sec = s.sec := rfl
@[simp] theorem State.modMsg_jtag {f : MsgState → MsgState} : (s.modMsg f).jtag = s.jtag := rfl
@[simp] theorem State.modMsg_switchTo {f : MsgState → MsgState} : (s.modMsg f).switchTo = s.switchTo := rfl
@[simp] theorem State.modMsg_pending {f : MsgState → MsgState} : (s.modMsg f).pending = s.pending := rfl
@[simp] theorem State.modMsg_rd {f : MsgState → MsgState} {r : Ref} : (s.modMsg f).rd r = s.rd r := rfl
@[simp] theorem State.modMsg_wordAt {f : MsgState → MsgState} {g : Bool} {a : Nat} : (s.modMsg f).wordAt g a = s.wordAt g a := rfl

@[simp] theorem State.modPort_straps {n : Nat} {f : PortState → PortState} : (s.modPort n f).straps = s.straps := rfl
@[simp] theorem State.modPort_regs {n : Nat} {f : PortState → PortState} : (s.modPort n f).regs = s.regs := rfl
@[simp] theorem State.modPort_live {n : Nat} {f : PortState → PortState} : (s.modPort n f).live = s.live := rfl
@[simp] theorem State.modPort_shadow {n : Nat} {f : PortState → PortState} : (s.modPort n f).shadow = s.shadow := rfl
@[simp] theorem State.modPort_mirror {n : Nat} {f : PortState → PortState} : (s.modPort n f).mirror = s.mirror := rfl
@[simp] theorem State.modPort_dirty {n : Nat} {f : PortState → PortState} : (s.modPort n f).dirty = s.dirty := rfl
@[simp] theorem State.modPort_locked {n : Nat} {f : PortState → PortState} : (s.modPort n f).locked = s.locked := rfl
@[simp] theorem State.modPort_immediate {n : Nat} {f : PortState → PortState} : (s.modPort n f).immediate = s.immediate := rfl
@[simp] theorem State.modPort_latched {n : Nat} {f : PortState → PortState} : (s.modPort n f).latched = s.latched := rfl
@[simp] theorem State.modPort_status {n : Nat} {f : PortState → PortState} : (s.modPort n f).status = s.status := rfl
@[simp] theorem State.modPort_response {n : Nat} {f : PortState → PortState} : (s.modPort n f).response = s.response := rfl
@[simp] theorem State.modPort_responseCrc {n : Nat} {f : PortState → PortState} : (s.modPort n f).responseCrc = s.responseCrc := rfl
@[simp] theorem State.modPort_freeCount {n : Nat} {f : PortState → PortState} : (s.modPort n f).freeCount = s.freeCount := rfl
@[simp] theorem State.modPort_stime {n : Nat} {f : PortState → PortState} : (s.modPort n f).stime = s.stime := rfl
@[simp] theorem State.modPort_stimeFrac {n : Nat} {f : PortState → PortState} : (s.modPort n f).stimeFrac = s.stimeFrac := rfl
@[simp] theorem State.modPort_optimeFrac {n : Nat} {f : PortState → PortState} : (s.modPort n f).optimeFrac = s.optimeFrac := rfl
@[simp] theorem State.modPort_pacerFrac {n : Nat} {f : PortState → PortState} : (s.modPort n f).pacerFrac = s.pacerFrac := rfl
@[simp] theorem State.modPort_sram {n : Nat} {f : PortState → PortState} : (s.modPort n f).sram = s.sram := rfl
@[simp] theorem State.modPort_sramBad {n : Nat} {f : PortState → PortState} : (s.modPort n f).sramBad = s.sramBad := rfl
@[simp] theorem State.modPort_sramWeak {n : Nat} {f : PortState → PortState} : (s.modPort n f).sramWeak = s.sramWeak := rfl
@[simp] theorem State.modPort_store {n : Nat} {f : PortState → PortState} : (s.modPort n f).store = s.store := rfl
@[simp] theorem State.modPort_terms {n : Nat} {f : PortState → PortState} : (s.modPort n f).terms = s.terms := rfl
@[simp] theorem State.modPort_arith {n : Nat} {f : PortState → PortState} : (s.modPort n f).arith = s.arith := rfl
@[simp] theorem State.modPort_afe {n : Nat} {f : PortState → PortState} : (s.modPort n f).afe = s.afe := rfl
@[simp] theorem State.modPort_cal {n : Nat} {f : PortState → PortState} : (s.modPort n f).cal = s.cal := rfl
@[simp] theorem State.modPort_recorder {n : Nat} {f : PortState → PortState} : (s.modPort n f).recorder = s.recorder := rfl
@[simp] theorem State.modPort_nvm {n : Nat} {f : PortState → PortState} : (s.modPort n f).nvm = s.nvm := rfl
@[simp] theorem State.modPort_dma {n : Nat} {f : PortState → PortState} : (s.modPort n f).dma = s.dma := rfl
@[simp] theorem State.modPort_pwr {n : Nat} {f : PortState → PortState} : (s.modPort n f).pwr = s.pwr := rfl
@[simp] theorem State.modPort_rst {n : Nat} {f : PortState → PortState} : (s.modPort n f).rst = s.rst := rfl
@[simp] theorem State.modPort_lap {n : Nat} {f : PortState → PortState} : (s.modPort n f).lap = s.lap := rfl
@[simp] theorem State.modPort_rtc {n : Nat} {f : PortState → PortState} : (s.modPort n f).rtc = s.rtc := rfl
@[simp] theorem State.modPort_alarm {n : Nat} {f : PortState → PortState} : (s.modPort n f).alarm = s.alarm := rfl
@[simp] theorem State.modPort_call {n : Nat} {f : PortState → PortState} : (s.modPort n f).call = s.call := rfl
@[simp] theorem State.modPort_loops {n : Nat} {f : PortState → PortState} : (s.modPort n f).loops = s.loops := rfl
@[simp] theorem State.modPort_jkt {n : Nat} {f : PortState → PortState} : (s.modPort n f).jkt = s.jkt := rfl
@[simp] theorem State.modPort_pair {n : Nat} {f : PortState → PortState} : (s.modPort n f).pair = s.pair := rfl
@[simp] theorem State.modPort_ports {n : Nat} {f : PortState → PortState} : (s.modPort n f).ports = Keyed.put s.ports n (f (s.port n)) := rfl
@[simp] theorem State.modPort_msg {n : Nat} {f : PortState → PortState} : (s.modPort n f).msg = s.msg := rfl
@[simp] theorem State.modPort_tsync {n : Nat} {f : PortState → PortState} : (s.modPort n f).tsync = s.tsync := rfl
@[simp] theorem State.modPort_sec {n : Nat} {f : PortState → PortState} : (s.modPort n f).sec = s.sec := rfl
@[simp] theorem State.modPort_jtag {n : Nat} {f : PortState → PortState} : (s.modPort n f).jtag = s.jtag := rfl
@[simp] theorem State.modPort_switchTo {n : Nat} {f : PortState → PortState} : (s.modPort n f).switchTo = s.switchTo := rfl
@[simp] theorem State.modPort_pending {n : Nat} {f : PortState → PortState} : (s.modPort n f).pending = s.pending := rfl
@[simp] theorem State.modPort_rd {n : Nat} {f : PortState → PortState} {r : Ref} : (s.modPort n f).rd r = s.rd r := rfl
@[simp] theorem State.modPort_wordAt {n : Nat} {f : PortState → PortState} {g : Bool} {a : Nat} : (s.modPort n f).wordAt g a = s.wordAt g a := rfl

@[simp] theorem State.modBank_straps {n : Nat} {f : AfeBank → AfeBank} : (s.modBank n f).straps = s.straps := rfl
@[simp] theorem State.modBank_regs {n : Nat} {f : AfeBank → AfeBank} : (s.modBank n f).regs = s.regs := rfl
@[simp] theorem State.modBank_live {n : Nat} {f : AfeBank → AfeBank} : (s.modBank n f).live = s.live := rfl
@[simp] theorem State.modBank_shadow {n : Nat} {f : AfeBank → AfeBank} : (s.modBank n f).shadow = s.shadow := rfl
@[simp] theorem State.modBank_mirror {n : Nat} {f : AfeBank → AfeBank} : (s.modBank n f).mirror = s.mirror := rfl
@[simp] theorem State.modBank_dirty {n : Nat} {f : AfeBank → AfeBank} : (s.modBank n f).dirty = s.dirty := rfl
@[simp] theorem State.modBank_locked {n : Nat} {f : AfeBank → AfeBank} : (s.modBank n f).locked = s.locked := rfl
@[simp] theorem State.modBank_immediate {n : Nat} {f : AfeBank → AfeBank} : (s.modBank n f).immediate = s.immediate := rfl
@[simp] theorem State.modBank_latched {n : Nat} {f : AfeBank → AfeBank} : (s.modBank n f).latched = s.latched := rfl
@[simp] theorem State.modBank_status {n : Nat} {f : AfeBank → AfeBank} : (s.modBank n f).status = s.status := rfl
@[simp] theorem State.modBank_response {n : Nat} {f : AfeBank → AfeBank} : (s.modBank n f).response = s.response := rfl
@[simp] theorem State.modBank_responseCrc {n : Nat} {f : AfeBank → AfeBank} : (s.modBank n f).responseCrc = s.responseCrc := rfl
@[simp] theorem State.modBank_freeCount {n : Nat} {f : AfeBank → AfeBank} : (s.modBank n f).freeCount = s.freeCount := rfl
@[simp] theorem State.modBank_stime {n : Nat} {f : AfeBank → AfeBank} : (s.modBank n f).stime = s.stime := rfl
@[simp] theorem State.modBank_stimeFrac {n : Nat} {f : AfeBank → AfeBank} : (s.modBank n f).stimeFrac = s.stimeFrac := rfl
@[simp] theorem State.modBank_optimeFrac {n : Nat} {f : AfeBank → AfeBank} : (s.modBank n f).optimeFrac = s.optimeFrac := rfl
@[simp] theorem State.modBank_pacerFrac {n : Nat} {f : AfeBank → AfeBank} : (s.modBank n f).pacerFrac = s.pacerFrac := rfl
@[simp] theorem State.modBank_sram {n : Nat} {f : AfeBank → AfeBank} : (s.modBank n f).sram = s.sram := rfl
@[simp] theorem State.modBank_sramBad {n : Nat} {f : AfeBank → AfeBank} : (s.modBank n f).sramBad = s.sramBad := rfl
@[simp] theorem State.modBank_sramWeak {n : Nat} {f : AfeBank → AfeBank} : (s.modBank n f).sramWeak = s.sramWeak := rfl
@[simp] theorem State.modBank_store {n : Nat} {f : AfeBank → AfeBank} : (s.modBank n f).store = s.store := rfl
@[simp] theorem State.modBank_terms {n : Nat} {f : AfeBank → AfeBank} : (s.modBank n f).terms = s.terms := rfl
@[simp] theorem State.modBank_arith {n : Nat} {f : AfeBank → AfeBank} : (s.modBank n f).arith = s.arith := rfl
@[simp] theorem State.modBank_afe {n : Nat} {f : AfeBank → AfeBank} : (s.modBank n f).afe = Keyed.put s.afe n (f (s.bank n)) := rfl
@[simp] theorem State.modBank_cal {n : Nat} {f : AfeBank → AfeBank} : (s.modBank n f).cal = s.cal := rfl
@[simp] theorem State.modBank_recorder {n : Nat} {f : AfeBank → AfeBank} : (s.modBank n f).recorder = s.recorder := rfl
@[simp] theorem State.modBank_nvm {n : Nat} {f : AfeBank → AfeBank} : (s.modBank n f).nvm = s.nvm := rfl
@[simp] theorem State.modBank_dma {n : Nat} {f : AfeBank → AfeBank} : (s.modBank n f).dma = s.dma := rfl
@[simp] theorem State.modBank_pwr {n : Nat} {f : AfeBank → AfeBank} : (s.modBank n f).pwr = s.pwr := rfl
@[simp] theorem State.modBank_rst {n : Nat} {f : AfeBank → AfeBank} : (s.modBank n f).rst = s.rst := rfl
@[simp] theorem State.modBank_lap {n : Nat} {f : AfeBank → AfeBank} : (s.modBank n f).lap = s.lap := rfl
@[simp] theorem State.modBank_rtc {n : Nat} {f : AfeBank → AfeBank} : (s.modBank n f).rtc = s.rtc := rfl
@[simp] theorem State.modBank_alarm {n : Nat} {f : AfeBank → AfeBank} : (s.modBank n f).alarm = s.alarm := rfl
@[simp] theorem State.modBank_call {n : Nat} {f : AfeBank → AfeBank} : (s.modBank n f).call = s.call := rfl
@[simp] theorem State.modBank_loops {n : Nat} {f : AfeBank → AfeBank} : (s.modBank n f).loops = s.loops := rfl
@[simp] theorem State.modBank_jkt {n : Nat} {f : AfeBank → AfeBank} : (s.modBank n f).jkt = s.jkt := rfl
@[simp] theorem State.modBank_pair {n : Nat} {f : AfeBank → AfeBank} : (s.modBank n f).pair = s.pair := rfl
@[simp] theorem State.modBank_ports {n : Nat} {f : AfeBank → AfeBank} : (s.modBank n f).ports = s.ports := rfl
@[simp] theorem State.modBank_msg {n : Nat} {f : AfeBank → AfeBank} : (s.modBank n f).msg = s.msg := rfl
@[simp] theorem State.modBank_tsync {n : Nat} {f : AfeBank → AfeBank} : (s.modBank n f).tsync = s.tsync := rfl
@[simp] theorem State.modBank_sec {n : Nat} {f : AfeBank → AfeBank} : (s.modBank n f).sec = s.sec := rfl
@[simp] theorem State.modBank_jtag {n : Nat} {f : AfeBank → AfeBank} : (s.modBank n f).jtag = s.jtag := rfl
@[simp] theorem State.modBank_switchTo {n : Nat} {f : AfeBank → AfeBank} : (s.modBank n f).switchTo = s.switchTo := rfl
@[simp] theorem State.modBank_pending {n : Nat} {f : AfeBank → AfeBank} : (s.modBank n f).pending = s.pending := rfl
@[simp] theorem State.modBank_rd {n : Nat} {f : AfeBank → AfeBank} {r : Ref} : (s.modBank n f).rd r = s.rd r := rfl
@[simp] theorem State.modBank_wordAt {n : Nat} {f : AfeBank → AfeBank} {g : Bool} {a : Nat} : (s.modBank n f).wordAt g a = s.wordAt g a := rfl

@[simp] theorem State.modStride_straps {n : Nat} {f : StrideState → StrideState} : (s.modStride n f).straps = s.straps := rfl
@[simp] theorem State.modStride_regs {n : Nat} {f : StrideState → StrideState} : (s.modStride n f).regs = s.regs := rfl
@[simp] theorem State.modStride_live {n : Nat} {f : StrideState → StrideState} : (s.modStride n f).live = s.live := rfl
@[simp] theorem State.modStride_shadow {n : Nat} {f : StrideState → StrideState} : (s.modStride n f).shadow = s.shadow := rfl
@[simp] theorem State.modStride_mirror {n : Nat} {f : StrideState → StrideState} : (s.modStride n f).mirror = s.mirror := rfl
@[simp] theorem State.modStride_dirty {n : Nat} {f : StrideState → StrideState} : (s.modStride n f).dirty = s.dirty := rfl
@[simp] theorem State.modStride_locked {n : Nat} {f : StrideState → StrideState} : (s.modStride n f).locked = s.locked := rfl
@[simp] theorem State.modStride_immediate {n : Nat} {f : StrideState → StrideState} : (s.modStride n f).immediate = s.immediate := rfl
@[simp] theorem State.modStride_latched {n : Nat} {f : StrideState → StrideState} : (s.modStride n f).latched = s.latched := rfl
@[simp] theorem State.modStride_status {n : Nat} {f : StrideState → StrideState} : (s.modStride n f).status = s.status := rfl
@[simp] theorem State.modStride_response {n : Nat} {f : StrideState → StrideState} : (s.modStride n f).response = s.response := rfl
@[simp] theorem State.modStride_responseCrc {n : Nat} {f : StrideState → StrideState} : (s.modStride n f).responseCrc = s.responseCrc := rfl
@[simp] theorem State.modStride_freeCount {n : Nat} {f : StrideState → StrideState} : (s.modStride n f).freeCount = s.freeCount := rfl
@[simp] theorem State.modStride_stime {n : Nat} {f : StrideState → StrideState} : (s.modStride n f).stime = s.stime := rfl
@[simp] theorem State.modStride_stimeFrac {n : Nat} {f : StrideState → StrideState} : (s.modStride n f).stimeFrac = s.stimeFrac := rfl
@[simp] theorem State.modStride_optimeFrac {n : Nat} {f : StrideState → StrideState} : (s.modStride n f).optimeFrac = s.optimeFrac := rfl
@[simp] theorem State.modStride_pacerFrac {n : Nat} {f : StrideState → StrideState} : (s.modStride n f).pacerFrac = s.pacerFrac := rfl
@[simp] theorem State.modStride_sram {n : Nat} {f : StrideState → StrideState} : (s.modStride n f).sram = s.sram := rfl
@[simp] theorem State.modStride_sramBad {n : Nat} {f : StrideState → StrideState} : (s.modStride n f).sramBad = s.sramBad := rfl
@[simp] theorem State.modStride_sramWeak {n : Nat} {f : StrideState → StrideState} : (s.modStride n f).sramWeak = s.sramWeak := rfl
@[simp] theorem State.modStride_store {n : Nat} {f : StrideState → StrideState} : (s.modStride n f).store = s.store := rfl
@[simp] theorem State.modStride_terms {n : Nat} {f : StrideState → StrideState} : (s.modStride n f).terms = s.terms := rfl
@[simp] theorem State.modStride_arith {n : Nat} {f : StrideState → StrideState} : (s.modStride n f).arith = s.arith := rfl
@[simp] theorem State.modStride_afe {n : Nat} {f : StrideState → StrideState} : (s.modStride n f).afe = s.afe := rfl
@[simp] theorem State.modStride_cal {n : Nat} {f : StrideState → StrideState} : (s.modStride n f).cal = { s.cal with strides := Keyed.put s.cal.strides n (f (s.stride n)) } := rfl
@[simp] theorem State.modStride_recorder {n : Nat} {f : StrideState → StrideState} : (s.modStride n f).recorder = s.recorder := rfl
@[simp] theorem State.modStride_nvm {n : Nat} {f : StrideState → StrideState} : (s.modStride n f).nvm = s.nvm := rfl
@[simp] theorem State.modStride_dma {n : Nat} {f : StrideState → StrideState} : (s.modStride n f).dma = s.dma := rfl
@[simp] theorem State.modStride_pwr {n : Nat} {f : StrideState → StrideState} : (s.modStride n f).pwr = s.pwr := rfl
@[simp] theorem State.modStride_rst {n : Nat} {f : StrideState → StrideState} : (s.modStride n f).rst = s.rst := rfl
@[simp] theorem State.modStride_lap {n : Nat} {f : StrideState → StrideState} : (s.modStride n f).lap = s.lap := rfl
@[simp] theorem State.modStride_rtc {n : Nat} {f : StrideState → StrideState} : (s.modStride n f).rtc = s.rtc := rfl
@[simp] theorem State.modStride_alarm {n : Nat} {f : StrideState → StrideState} : (s.modStride n f).alarm = s.alarm := rfl
@[simp] theorem State.modStride_call {n : Nat} {f : StrideState → StrideState} : (s.modStride n f).call = s.call := rfl
@[simp] theorem State.modStride_loops {n : Nat} {f : StrideState → StrideState} : (s.modStride n f).loops = s.loops := rfl
@[simp] theorem State.modStride_jkt {n : Nat} {f : StrideState → StrideState} : (s.modStride n f).jkt = s.jkt := rfl
@[simp] theorem State.modStride_pair {n : Nat} {f : StrideState → StrideState} : (s.modStride n f).pair = s.pair := rfl
@[simp] theorem State.modStride_ports {n : Nat} {f : StrideState → StrideState} : (s.modStride n f).ports = s.ports := rfl
@[simp] theorem State.modStride_msg {n : Nat} {f : StrideState → StrideState} : (s.modStride n f).msg = s.msg := rfl
@[simp] theorem State.modStride_tsync {n : Nat} {f : StrideState → StrideState} : (s.modStride n f).tsync = s.tsync := rfl
@[simp] theorem State.modStride_sec {n : Nat} {f : StrideState → StrideState} : (s.modStride n f).sec = s.sec := rfl
@[simp] theorem State.modStride_jtag {n : Nat} {f : StrideState → StrideState} : (s.modStride n f).jtag = s.jtag := rfl
@[simp] theorem State.modStride_switchTo {n : Nat} {f : StrideState → StrideState} : (s.modStride n f).switchTo = s.switchTo := rfl
@[simp] theorem State.modStride_pending {n : Nat} {f : StrideState → StrideState} : (s.modStride n f).pending = s.pending := rfl
@[simp] theorem State.modStride_rd {n : Nat} {f : StrideState → StrideState} {r : Ref} : (s.modStride n f).rd r = s.rd r := rfl
@[simp] theorem State.modStride_wordAt {n : Nat} {f : StrideState → StrideState} {g : Bool} {a : Nat} : (s.modStride n f).wordAt g a = s.wordAt g a := rfl

@[simp] theorem State.setStream_straps {k : Nat} {c : DmaStream} : (s.setStream k c).straps = s.straps := rfl
@[simp] theorem State.setStream_regs {k : Nat} {c : DmaStream} : (s.setStream k c).regs = s.regs := rfl
@[simp] theorem State.setStream_live {k : Nat} {c : DmaStream} : (s.setStream k c).live = s.live := rfl
@[simp] theorem State.setStream_shadow {k : Nat} {c : DmaStream} : (s.setStream k c).shadow = s.shadow := rfl
@[simp] theorem State.setStream_mirror {k : Nat} {c : DmaStream} : (s.setStream k c).mirror = s.mirror := rfl
@[simp] theorem State.setStream_dirty {k : Nat} {c : DmaStream} : (s.setStream k c).dirty = s.dirty := rfl
@[simp] theorem State.setStream_locked {k : Nat} {c : DmaStream} : (s.setStream k c).locked = s.locked := rfl
@[simp] theorem State.setStream_immediate {k : Nat} {c : DmaStream} : (s.setStream k c).immediate = s.immediate := rfl
@[simp] theorem State.setStream_latched {k : Nat} {c : DmaStream} : (s.setStream k c).latched = s.latched := rfl
@[simp] theorem State.setStream_status {k : Nat} {c : DmaStream} : (s.setStream k c).status = s.status := rfl
@[simp] theorem State.setStream_response {k : Nat} {c : DmaStream} : (s.setStream k c).response = s.response := rfl
@[simp] theorem State.setStream_responseCrc {k : Nat} {c : DmaStream} : (s.setStream k c).responseCrc = s.responseCrc := rfl
@[simp] theorem State.setStream_freeCount {k : Nat} {c : DmaStream} : (s.setStream k c).freeCount = s.freeCount := rfl
@[simp] theorem State.setStream_stime {k : Nat} {c : DmaStream} : (s.setStream k c).stime = s.stime := rfl
@[simp] theorem State.setStream_stimeFrac {k : Nat} {c : DmaStream} : (s.setStream k c).stimeFrac = s.stimeFrac := rfl
@[simp] theorem State.setStream_optimeFrac {k : Nat} {c : DmaStream} : (s.setStream k c).optimeFrac = s.optimeFrac := rfl
@[simp] theorem State.setStream_pacerFrac {k : Nat} {c : DmaStream} : (s.setStream k c).pacerFrac = s.pacerFrac := rfl
@[simp] theorem State.setStream_sram {k : Nat} {c : DmaStream} : (s.setStream k c).sram = s.sram := rfl
@[simp] theorem State.setStream_sramBad {k : Nat} {c : DmaStream} : (s.setStream k c).sramBad = s.sramBad := rfl
@[simp] theorem State.setStream_sramWeak {k : Nat} {c : DmaStream} : (s.setStream k c).sramWeak = s.sramWeak := rfl
@[simp] theorem State.setStream_store {k : Nat} {c : DmaStream} : (s.setStream k c).store = s.store := rfl
@[simp] theorem State.setStream_terms {k : Nat} {c : DmaStream} : (s.setStream k c).terms = s.terms := rfl
@[simp] theorem State.setStream_arith {k : Nat} {c : DmaStream} : (s.setStream k c).arith = s.arith := rfl
@[simp] theorem State.setStream_afe {k : Nat} {c : DmaStream} : (s.setStream k c).afe = s.afe := rfl
@[simp] theorem State.setStream_cal {k : Nat} {c : DmaStream} : (s.setStream k c).cal = s.cal := rfl
@[simp] theorem State.setStream_recorder {k : Nat} {c : DmaStream} : (s.setStream k c).recorder = s.recorder := rfl
@[simp] theorem State.setStream_nvm {k : Nat} {c : DmaStream} : (s.setStream k c).nvm = s.nvm := rfl
@[simp] theorem State.setStream_dma {k : Nat} {c : DmaStream} : (s.setStream k c).dma = { s.dma with ctx := Keyed.put s.dma.ctx k c } := rfl
@[simp] theorem State.setStream_pwr {k : Nat} {c : DmaStream} : (s.setStream k c).pwr = s.pwr := rfl
@[simp] theorem State.setStream_rst {k : Nat} {c : DmaStream} : (s.setStream k c).rst = s.rst := rfl
@[simp] theorem State.setStream_lap {k : Nat} {c : DmaStream} : (s.setStream k c).lap = s.lap := rfl
@[simp] theorem State.setStream_rtc {k : Nat} {c : DmaStream} : (s.setStream k c).rtc = s.rtc := rfl
@[simp] theorem State.setStream_alarm {k : Nat} {c : DmaStream} : (s.setStream k c).alarm = s.alarm := rfl
@[simp] theorem State.setStream_call {k : Nat} {c : DmaStream} : (s.setStream k c).call = s.call := rfl
@[simp] theorem State.setStream_loops {k : Nat} {c : DmaStream} : (s.setStream k c).loops = s.loops := rfl
@[simp] theorem State.setStream_jkt {k : Nat} {c : DmaStream} : (s.setStream k c).jkt = s.jkt := rfl
@[simp] theorem State.setStream_pair {k : Nat} {c : DmaStream} : (s.setStream k c).pair = s.pair := rfl
@[simp] theorem State.setStream_ports {k : Nat} {c : DmaStream} : (s.setStream k c).ports = s.ports := rfl
@[simp] theorem State.setStream_msg {k : Nat} {c : DmaStream} : (s.setStream k c).msg = s.msg := rfl
@[simp] theorem State.setStream_tsync {k : Nat} {c : DmaStream} : (s.setStream k c).tsync = s.tsync := rfl
@[simp] theorem State.setStream_sec {k : Nat} {c : DmaStream} : (s.setStream k c).sec = s.sec := rfl
@[simp] theorem State.setStream_jtag {k : Nat} {c : DmaStream} : (s.setStream k c).jtag = s.jtag := rfl
@[simp] theorem State.setStream_switchTo {k : Nat} {c : DmaStream} : (s.setStream k c).switchTo = s.switchTo := rfl
@[simp] theorem State.setStream_pending {k : Nat} {c : DmaStream} : (s.setStream k c).pending = s.pending := rfl
@[simp] theorem State.setStream_rd {k : Nat} {c : DmaStream} {r : Ref} : (s.setStream k c).rd r = s.rd r := rfl
@[simp] theorem State.setStream_wordAt {k : Nat} {c : DmaStream} {g : Bool} {a : Nat} : (s.setStream k c).wordAt g a = s.wordAt g a := rfl

@[simp] theorem State.setReg_straps {a : Nat} {v : Word} : (s.setReg a v).straps = s.straps := rfl
@[simp] theorem State.setReg_regs {a : Nat} {v : Word} : (s.setReg a v).regs = Sparse.set resetWord s.regs a v := rfl
@[simp] theorem State.setReg_live {a : Nat} {v : Word} : (s.setReg a v).live = s.live := rfl
@[simp] theorem State.setReg_shadow {a : Nat} {v : Word} : (s.setReg a v).shadow = s.shadow := rfl
@[simp] theorem State.setReg_mirror {a : Nat} {v : Word} : (s.setReg a v).mirror = s.mirror := rfl
@[simp] theorem State.setReg_dirty {a : Nat} {v : Word} : (s.setReg a v).dirty = s.dirty := rfl
@[simp] theorem State.setReg_locked {a : Nat} {v : Word} : (s.setReg a v).locked = s.locked := rfl
@[simp] theorem State.setReg_immediate {a : Nat} {v : Word} : (s.setReg a v).immediate = s.immediate := rfl
@[simp] theorem State.setReg_latched {a : Nat} {v : Word} : (s.setReg a v).latched = s.latched := rfl
@[simp] theorem State.setReg_status {a : Nat} {v : Word} : (s.setReg a v).status = s.status := rfl
@[simp] theorem State.setReg_response {a : Nat} {v : Word} : (s.setReg a v).response = s.response := rfl
@[simp] theorem State.setReg_responseCrc {a : Nat} {v : Word} : (s.setReg a v).responseCrc = s.responseCrc := rfl
@[simp] theorem State.setReg_freeCount {a : Nat} {v : Word} : (s.setReg a v).freeCount = s.freeCount := rfl
@[simp] theorem State.setReg_stime {a : Nat} {v : Word} : (s.setReg a v).stime = s.stime := rfl
@[simp] theorem State.setReg_stimeFrac {a : Nat} {v : Word} : (s.setReg a v).stimeFrac = s.stimeFrac := rfl
@[simp] theorem State.setReg_optimeFrac {a : Nat} {v : Word} : (s.setReg a v).optimeFrac = s.optimeFrac := rfl
@[simp] theorem State.setReg_pacerFrac {a : Nat} {v : Word} : (s.setReg a v).pacerFrac = s.pacerFrac := rfl
@[simp] theorem State.setReg_sram {a : Nat} {v : Word} : (s.setReg a v).sram = s.sram := rfl
@[simp] theorem State.setReg_sramBad {a : Nat} {v : Word} : (s.setReg a v).sramBad = s.sramBad := rfl
@[simp] theorem State.setReg_sramWeak {a : Nat} {v : Word} : (s.setReg a v).sramWeak = s.sramWeak := rfl
@[simp] theorem State.setReg_store {a : Nat} {v : Word} : (s.setReg a v).store = s.store := rfl
@[simp] theorem State.setReg_terms {a : Nat} {v : Word} : (s.setReg a v).terms = s.terms := rfl
@[simp] theorem State.setReg_arith {a : Nat} {v : Word} : (s.setReg a v).arith = s.arith := rfl
@[simp] theorem State.setReg_afe {a : Nat} {v : Word} : (s.setReg a v).afe = s.afe := rfl
@[simp] theorem State.setReg_cal {a : Nat} {v : Word} : (s.setReg a v).cal = s.cal := rfl
@[simp] theorem State.setReg_recorder {a : Nat} {v : Word} : (s.setReg a v).recorder = s.recorder := rfl
@[simp] theorem State.setReg_nvm {a : Nat} {v : Word} : (s.setReg a v).nvm = s.nvm := rfl
@[simp] theorem State.setReg_dma {a : Nat} {v : Word} : (s.setReg a v).dma = s.dma := rfl
@[simp] theorem State.setReg_pwr {a : Nat} {v : Word} : (s.setReg a v).pwr = s.pwr := rfl
@[simp] theorem State.setReg_rst {a : Nat} {v : Word} : (s.setReg a v).rst = s.rst := rfl
@[simp] theorem State.setReg_lap {a : Nat} {v : Word} : (s.setReg a v).lap = s.lap := rfl
@[simp] theorem State.setReg_rtc {a : Nat} {v : Word} : (s.setReg a v).rtc = s.rtc := rfl
@[simp] theorem State.setReg_alarm {a : Nat} {v : Word} : (s.setReg a v).alarm = s.alarm := rfl
@[simp] theorem State.setReg_call {a : Nat} {v : Word} : (s.setReg a v).call = s.call := rfl
@[simp] theorem State.setReg_loops {a : Nat} {v : Word} : (s.setReg a v).loops = s.loops := rfl
@[simp] theorem State.setReg_jkt {a : Nat} {v : Word} : (s.setReg a v).jkt = s.jkt := rfl
@[simp] theorem State.setReg_pair {a : Nat} {v : Word} : (s.setReg a v).pair = s.pair := rfl
@[simp] theorem State.setReg_ports {a : Nat} {v : Word} : (s.setReg a v).ports = s.ports := rfl
@[simp] theorem State.setReg_msg {a : Nat} {v : Word} : (s.setReg a v).msg = s.msg := rfl
@[simp] theorem State.setReg_tsync {a : Nat} {v : Word} : (s.setReg a v).tsync = s.tsync := rfl
@[simp] theorem State.setReg_sec {a : Nat} {v : Word} : (s.setReg a v).sec = s.sec := rfl
@[simp] theorem State.setReg_jtag {a : Nat} {v : Word} : (s.setReg a v).jtag = s.jtag := rfl
@[simp] theorem State.setReg_switchTo {a : Nat} {v : Word} : (s.setReg a v).switchTo = s.switchTo := rfl
@[simp] theorem State.setReg_pending {a : Nat} {v : Word} : (s.setReg a v).pending = s.pending := rfl

@[simp] theorem State.wr_straps {r : Ref} {v : Nat} : (s.wr r v).straps = s.straps := by unfold State.wr; split <;> rfl
@[simp] theorem State.wr_live {r : Ref} {v : Nat} : (s.wr r v).live = s.live := by unfold State.wr; split <;> rfl
@[simp] theorem State.wr_shadow {r : Ref} {v : Nat} : (s.wr r v).shadow = s.shadow := by unfold State.wr; split <;> rfl
@[simp] theorem State.wr_mirror {r : Ref} {v : Nat} : (s.wr r v).mirror = s.mirror := by unfold State.wr; split <;> rfl
@[simp] theorem State.wr_dirty {r : Ref} {v : Nat} : (s.wr r v).dirty = s.dirty := by unfold State.wr; split <;> rfl
@[simp] theorem State.wr_locked {r : Ref} {v : Nat} : (s.wr r v).locked = s.locked := by unfold State.wr; split <;> rfl
@[simp] theorem State.wr_immediate {r : Ref} {v : Nat} : (s.wr r v).immediate = s.immediate := by unfold State.wr; split <;> rfl
@[simp] theorem State.wr_latched {r : Ref} {v : Nat} : (s.wr r v).latched = s.latched := by unfold State.wr; split <;> rfl
@[simp] theorem State.wr_status {r : Ref} {v : Nat} : (s.wr r v).status = s.status := by unfold State.wr; split <;> rfl
@[simp] theorem State.wr_response {r : Ref} {v : Nat} : (s.wr r v).response = s.response := by unfold State.wr; split <;> rfl
@[simp] theorem State.wr_responseCrc {r : Ref} {v : Nat} : (s.wr r v).responseCrc = s.responseCrc := by unfold State.wr; split <;> rfl
@[simp] theorem State.wr_freeCount {r : Ref} {v : Nat} : (s.wr r v).freeCount = s.freeCount := by unfold State.wr; split <;> rfl
@[simp] theorem State.wr_stime {r : Ref} {v : Nat} : (s.wr r v).stime = s.stime := by unfold State.wr; split <;> rfl
@[simp] theorem State.wr_stimeFrac {r : Ref} {v : Nat} : (s.wr r v).stimeFrac = s.stimeFrac := by unfold State.wr; split <;> rfl
@[simp] theorem State.wr_optimeFrac {r : Ref} {v : Nat} : (s.wr r v).optimeFrac = s.optimeFrac := by unfold State.wr; split <;> rfl
@[simp] theorem State.wr_pacerFrac {r : Ref} {v : Nat} : (s.wr r v).pacerFrac = s.pacerFrac := by unfold State.wr; split <;> rfl
@[simp] theorem State.wr_sram {r : Ref} {v : Nat} : (s.wr r v).sram = s.sram := by unfold State.wr; split <;> rfl
@[simp] theorem State.wr_sramBad {r : Ref} {v : Nat} : (s.wr r v).sramBad = s.sramBad := by unfold State.wr; split <;> rfl
@[simp] theorem State.wr_sramWeak {r : Ref} {v : Nat} : (s.wr r v).sramWeak = s.sramWeak := by unfold State.wr; split <;> rfl
@[simp] theorem State.wr_store {r : Ref} {v : Nat} : (s.wr r v).store = s.store := by unfold State.wr; split <;> rfl
@[simp] theorem State.wr_terms {r : Ref} {v : Nat} : (s.wr r v).terms = s.terms := by unfold State.wr; split <;> rfl
@[simp] theorem State.wr_arith {r : Ref} {v : Nat} : (s.wr r v).arith = s.arith := by unfold State.wr; split <;> rfl
@[simp] theorem State.wr_afe {r : Ref} {v : Nat} : (s.wr r v).afe = s.afe := by unfold State.wr; split <;> rfl
@[simp] theorem State.wr_cal {r : Ref} {v : Nat} : (s.wr r v).cal = s.cal := by unfold State.wr; split <;> rfl
@[simp] theorem State.wr_recorder {r : Ref} {v : Nat} : (s.wr r v).recorder = s.recorder := by unfold State.wr; split <;> rfl
@[simp] theorem State.wr_nvm {r : Ref} {v : Nat} : (s.wr r v).nvm = s.nvm := by unfold State.wr; split <;> rfl
@[simp] theorem State.wr_dma {r : Ref} {v : Nat} : (s.wr r v).dma = s.dma := by unfold State.wr; split <;> rfl
@[simp] theorem State.wr_pwr {r : Ref} {v : Nat} : (s.wr r v).pwr = s.pwr := by unfold State.wr; split <;> rfl
@[simp] theorem State.wr_rst {r : Ref} {v : Nat} : (s.wr r v).rst = s.rst := by unfold State.wr; split <;> rfl
@[simp] theorem State.wr_lap {r : Ref} {v : Nat} : (s.wr r v).lap = s.lap := by unfold State.wr; split <;> rfl
@[simp] theorem State.wr_rtc {r : Ref} {v : Nat} : (s.wr r v).rtc = s.rtc := by unfold State.wr; split <;> rfl
@[simp] theorem State.wr_alarm {r : Ref} {v : Nat} : (s.wr r v).alarm = s.alarm := by unfold State.wr; split <;> rfl
@[simp] theorem State.wr_call {r : Ref} {v : Nat} : (s.wr r v).call = s.call := by unfold State.wr; split <;> rfl
@[simp] theorem State.wr_loops {r : Ref} {v : Nat} : (s.wr r v).loops = s.loops := by unfold State.wr; split <;> rfl
@[simp] theorem State.wr_jkt {r : Ref} {v : Nat} : (s.wr r v).jkt = s.jkt := by unfold State.wr; split <;> rfl
@[simp] theorem State.wr_pair {r : Ref} {v : Nat} : (s.wr r v).pair = s.pair := by unfold State.wr; split <;> rfl
@[simp] theorem State.wr_ports {r : Ref} {v : Nat} : (s.wr r v).ports = s.ports := by unfold State.wr; split <;> rfl
@[simp] theorem State.wr_msg {r : Ref} {v : Nat} : (s.wr r v).msg = s.msg := by unfold State.wr; split <;> rfl
@[simp] theorem State.wr_tsync {r : Ref} {v : Nat} : (s.wr r v).tsync = s.tsync := by unfold State.wr; split <;> rfl
@[simp] theorem State.wr_sec {r : Ref} {v : Nat} : (s.wr r v).sec = s.sec := by unfold State.wr; split <;> rfl
@[simp] theorem State.wr_jtag {r : Ref} {v : Nat} : (s.wr r v).jtag = s.jtag := by unfold State.wr; split <;> rfl
@[simp] theorem State.wr_switchTo {r : Ref} {v : Nat} : (s.wr r v).switchTo = s.switchTo := by unfold State.wr; split <;> rfl
@[simp] theorem State.wr_pending {r : Ref} {v : Nat} : (s.wr r v).pending = s.pending := by unfold State.wr; split <;> rfl

@[simp] theorem State.put_straps {r : Ref} {b : Bool} : (s.put r b).straps = s.straps := State.wr_straps
@[simp] theorem State.put_live {r : Ref} {b : Bool} : (s.put r b).live = s.live := State.wr_live
@[simp] theorem State.put_shadow {r : Ref} {b : Bool} : (s.put r b).shadow = s.shadow := State.wr_shadow
@[simp] theorem State.put_mirror {r : Ref} {b : Bool} : (s.put r b).mirror = s.mirror := State.wr_mirror
@[simp] theorem State.put_dirty {r : Ref} {b : Bool} : (s.put r b).dirty = s.dirty := State.wr_dirty
@[simp] theorem State.put_locked {r : Ref} {b : Bool} : (s.put r b).locked = s.locked := State.wr_locked
@[simp] theorem State.put_immediate {r : Ref} {b : Bool} : (s.put r b).immediate = s.immediate := State.wr_immediate
@[simp] theorem State.put_latched {r : Ref} {b : Bool} : (s.put r b).latched = s.latched := State.wr_latched
@[simp] theorem State.put_status {r : Ref} {b : Bool} : (s.put r b).status = s.status := State.wr_status
@[simp] theorem State.put_response {r : Ref} {b : Bool} : (s.put r b).response = s.response := State.wr_response
@[simp] theorem State.put_responseCrc {r : Ref} {b : Bool} : (s.put r b).responseCrc = s.responseCrc := State.wr_responseCrc
@[simp] theorem State.put_freeCount {r : Ref} {b : Bool} : (s.put r b).freeCount = s.freeCount := State.wr_freeCount
@[simp] theorem State.put_stime {r : Ref} {b : Bool} : (s.put r b).stime = s.stime := State.wr_stime
@[simp] theorem State.put_stimeFrac {r : Ref} {b : Bool} : (s.put r b).stimeFrac = s.stimeFrac := State.wr_stimeFrac
@[simp] theorem State.put_optimeFrac {r : Ref} {b : Bool} : (s.put r b).optimeFrac = s.optimeFrac := State.wr_optimeFrac
@[simp] theorem State.put_pacerFrac {r : Ref} {b : Bool} : (s.put r b).pacerFrac = s.pacerFrac := State.wr_pacerFrac
@[simp] theorem State.put_sram {r : Ref} {b : Bool} : (s.put r b).sram = s.sram := State.wr_sram
@[simp] theorem State.put_sramBad {r : Ref} {b : Bool} : (s.put r b).sramBad = s.sramBad := State.wr_sramBad
@[simp] theorem State.put_sramWeak {r : Ref} {b : Bool} : (s.put r b).sramWeak = s.sramWeak := State.wr_sramWeak
@[simp] theorem State.put_store {r : Ref} {b : Bool} : (s.put r b).store = s.store := State.wr_store
@[simp] theorem State.put_terms {r : Ref} {b : Bool} : (s.put r b).terms = s.terms := State.wr_terms
@[simp] theorem State.put_arith {r : Ref} {b : Bool} : (s.put r b).arith = s.arith := State.wr_arith
@[simp] theorem State.put_afe {r : Ref} {b : Bool} : (s.put r b).afe = s.afe := State.wr_afe
@[simp] theorem State.put_cal {r : Ref} {b : Bool} : (s.put r b).cal = s.cal := State.wr_cal
@[simp] theorem State.put_recorder {r : Ref} {b : Bool} : (s.put r b).recorder = s.recorder := State.wr_recorder
@[simp] theorem State.put_nvm {r : Ref} {b : Bool} : (s.put r b).nvm = s.nvm := State.wr_nvm
@[simp] theorem State.put_dma {r : Ref} {b : Bool} : (s.put r b).dma = s.dma := State.wr_dma
@[simp] theorem State.put_pwr {r : Ref} {b : Bool} : (s.put r b).pwr = s.pwr := State.wr_pwr
@[simp] theorem State.put_rst {r : Ref} {b : Bool} : (s.put r b).rst = s.rst := State.wr_rst
@[simp] theorem State.put_lap {r : Ref} {b : Bool} : (s.put r b).lap = s.lap := State.wr_lap
@[simp] theorem State.put_rtc {r : Ref} {b : Bool} : (s.put r b).rtc = s.rtc := State.wr_rtc
@[simp] theorem State.put_alarm {r : Ref} {b : Bool} : (s.put r b).alarm = s.alarm := State.wr_alarm
@[simp] theorem State.put_call {r : Ref} {b : Bool} : (s.put r b).call = s.call := State.wr_call
@[simp] theorem State.put_loops {r : Ref} {b : Bool} : (s.put r b).loops = s.loops := State.wr_loops
@[simp] theorem State.put_jkt {r : Ref} {b : Bool} : (s.put r b).jkt = s.jkt := State.wr_jkt
@[simp] theorem State.put_pair {r : Ref} {b : Bool} : (s.put r b).pair = s.pair := State.wr_pair
@[simp] theorem State.put_ports {r : Ref} {b : Bool} : (s.put r b).ports = s.ports := State.wr_ports
@[simp] theorem State.put_msg {r : Ref} {b : Bool} : (s.put r b).msg = s.msg := State.wr_msg
@[simp] theorem State.put_tsync {r : Ref} {b : Bool} : (s.put r b).tsync = s.tsync := State.wr_tsync
@[simp] theorem State.put_sec {r : Ref} {b : Bool} : (s.put r b).sec = s.sec := State.wr_sec
@[simp] theorem State.put_jtag {r : Ref} {b : Bool} : (s.put r b).jtag = s.jtag := State.wr_jtag
@[simp] theorem State.put_switchTo {r : Ref} {b : Bool} : (s.put r b).switchTo = s.switchTo := State.wr_switchTo
@[simp] theorem State.put_pending {r : Ref} {b : Bool} : (s.put r b).pending = s.pending := State.wr_pending

@[simp] theorem State.irq_straps {r : Ref} : (s.irq r).straps = s.straps := State.wr_straps
@[simp] theorem State.irq_live {r : Ref} : (s.irq r).live = s.live := State.wr_live
@[simp] theorem State.irq_shadow {r : Ref} : (s.irq r).shadow = s.shadow := State.wr_shadow
@[simp] theorem State.irq_mirror {r : Ref} : (s.irq r).mirror = s.mirror := State.wr_mirror
@[simp] theorem State.irq_dirty {r : Ref} : (s.irq r).dirty = s.dirty := State.wr_dirty
@[simp] theorem State.irq_locked {r : Ref} : (s.irq r).locked = s.locked := State.wr_locked
@[simp] theorem State.irq_immediate {r : Ref} : (s.irq r).immediate = s.immediate := State.wr_immediate
@[simp] theorem State.irq_latched {r : Ref} : (s.irq r).latched = s.latched := State.wr_latched
@[simp] theorem State.irq_status {r : Ref} : (s.irq r).status = s.status := State.wr_status
@[simp] theorem State.irq_response {r : Ref} : (s.irq r).response = s.response := State.wr_response
@[simp] theorem State.irq_responseCrc {r : Ref} : (s.irq r).responseCrc = s.responseCrc := State.wr_responseCrc
@[simp] theorem State.irq_freeCount {r : Ref} : (s.irq r).freeCount = s.freeCount := State.wr_freeCount
@[simp] theorem State.irq_stime {r : Ref} : (s.irq r).stime = s.stime := State.wr_stime
@[simp] theorem State.irq_stimeFrac {r : Ref} : (s.irq r).stimeFrac = s.stimeFrac := State.wr_stimeFrac
@[simp] theorem State.irq_optimeFrac {r : Ref} : (s.irq r).optimeFrac = s.optimeFrac := State.wr_optimeFrac
@[simp] theorem State.irq_pacerFrac {r : Ref} : (s.irq r).pacerFrac = s.pacerFrac := State.wr_pacerFrac
@[simp] theorem State.irq_sram {r : Ref} : (s.irq r).sram = s.sram := State.wr_sram
@[simp] theorem State.irq_sramBad {r : Ref} : (s.irq r).sramBad = s.sramBad := State.wr_sramBad
@[simp] theorem State.irq_sramWeak {r : Ref} : (s.irq r).sramWeak = s.sramWeak := State.wr_sramWeak
@[simp] theorem State.irq_store {r : Ref} : (s.irq r).store = s.store := State.wr_store
@[simp] theorem State.irq_terms {r : Ref} : (s.irq r).terms = s.terms := State.wr_terms
@[simp] theorem State.irq_arith {r : Ref} : (s.irq r).arith = s.arith := State.wr_arith
@[simp] theorem State.irq_afe {r : Ref} : (s.irq r).afe = s.afe := State.wr_afe
@[simp] theorem State.irq_cal {r : Ref} : (s.irq r).cal = s.cal := State.wr_cal
@[simp] theorem State.irq_recorder {r : Ref} : (s.irq r).recorder = s.recorder := State.wr_recorder
@[simp] theorem State.irq_nvm {r : Ref} : (s.irq r).nvm = s.nvm := State.wr_nvm
@[simp] theorem State.irq_dma {r : Ref} : (s.irq r).dma = s.dma := State.wr_dma
@[simp] theorem State.irq_pwr {r : Ref} : (s.irq r).pwr = s.pwr := State.wr_pwr
@[simp] theorem State.irq_rst {r : Ref} : (s.irq r).rst = s.rst := State.wr_rst
@[simp] theorem State.irq_lap {r : Ref} : (s.irq r).lap = s.lap := State.wr_lap
@[simp] theorem State.irq_rtc {r : Ref} : (s.irq r).rtc = s.rtc := State.wr_rtc
@[simp] theorem State.irq_alarm {r : Ref} : (s.irq r).alarm = s.alarm := State.wr_alarm
@[simp] theorem State.irq_call {r : Ref} : (s.irq r).call = s.call := State.wr_call
@[simp] theorem State.irq_loops {r : Ref} : (s.irq r).loops = s.loops := State.wr_loops
@[simp] theorem State.irq_jkt {r : Ref} : (s.irq r).jkt = s.jkt := State.wr_jkt
@[simp] theorem State.irq_pair {r : Ref} : (s.irq r).pair = s.pair := State.wr_pair
@[simp] theorem State.irq_ports {r : Ref} : (s.irq r).ports = s.ports := State.wr_ports
@[simp] theorem State.irq_msg {r : Ref} : (s.irq r).msg = s.msg := State.wr_msg
@[simp] theorem State.irq_tsync {r : Ref} : (s.irq r).tsync = s.tsync := State.wr_tsync
@[simp] theorem State.irq_sec {r : Ref} : (s.irq r).sec = s.sec := State.wr_sec
@[simp] theorem State.irq_jtag {r : Ref} : (s.irq r).jtag = s.jtag := State.wr_jtag
@[simp] theorem State.irq_switchTo {r : Ref} : (s.irq r).switchTo = s.switchTo := State.wr_switchTo
@[simp] theorem State.irq_pending {r : Ref} : (s.irq r).pending = s.pending := State.wr_pending

@[simp] theorem State.awake_straps : s.awake.straps = s.straps := by unfold State.awake; split <;> simp
@[simp] theorem State.awake_live : s.awake.live = s.live := by unfold State.awake; split <;> simp
@[simp] theorem State.awake_shadow : s.awake.shadow = s.shadow := by unfold State.awake; split <;> simp
@[simp] theorem State.awake_mirror : s.awake.mirror = s.mirror := by unfold State.awake; split <;> simp
@[simp] theorem State.awake_dirty : s.awake.dirty = s.dirty := by unfold State.awake; split <;> simp
@[simp] theorem State.awake_locked : s.awake.locked = s.locked := by unfold State.awake; split <;> simp
@[simp] theorem State.awake_immediate : s.awake.immediate = s.immediate := by unfold State.awake; split <;> simp
@[simp] theorem State.awake_latched : s.awake.latched = s.latched := by unfold State.awake; split <;> simp
@[simp] theorem State.awake_status : s.awake.status = s.status := by unfold State.awake; split <;> simp
@[simp] theorem State.awake_response : s.awake.response = s.response := by unfold State.awake; split <;> simp
@[simp] theorem State.awake_responseCrc : s.awake.responseCrc = s.responseCrc := by unfold State.awake; split <;> simp
@[simp] theorem State.awake_freeCount : s.awake.freeCount = s.freeCount := by unfold State.awake; split <;> simp
@[simp] theorem State.awake_stime : s.awake.stime = s.stime := by unfold State.awake; split <;> simp
@[simp] theorem State.awake_stimeFrac : s.awake.stimeFrac = s.stimeFrac := by unfold State.awake; split <;> simp
@[simp] theorem State.awake_optimeFrac : s.awake.optimeFrac = s.optimeFrac := by unfold State.awake; split <;> simp
@[simp] theorem State.awake_pacerFrac : s.awake.pacerFrac = s.pacerFrac := by unfold State.awake; split <;> simp
@[simp] theorem State.awake_sram : s.awake.sram = s.sram := by unfold State.awake; split <;> simp
@[simp] theorem State.awake_sramBad : s.awake.sramBad = s.sramBad := by unfold State.awake; split <;> simp
@[simp] theorem State.awake_sramWeak : s.awake.sramWeak = s.sramWeak := by unfold State.awake; split <;> simp
@[simp] theorem State.awake_store : s.awake.store = s.store := by unfold State.awake; split <;> simp
@[simp] theorem State.awake_terms : s.awake.terms = s.terms := by unfold State.awake; split <;> simp
@[simp] theorem State.awake_arith : s.awake.arith = s.arith := by unfold State.awake; split <;> simp
@[simp] theorem State.awake_afe : s.awake.afe = s.afe := by unfold State.awake; split <;> simp
@[simp] theorem State.awake_cal : s.awake.cal = s.cal := by unfold State.awake; split <;> simp
@[simp] theorem State.awake_recorder : s.awake.recorder = s.recorder := by unfold State.awake; split <;> simp
@[simp] theorem State.awake_nvm : s.awake.nvm = s.nvm := by unfold State.awake; split <;> simp
@[simp] theorem State.awake_dma : s.awake.dma = s.dma := by unfold State.awake; split <;> simp
@[simp] theorem State.awake_pwr : s.awake.pwr = s.pwr := by unfold State.awake; split <;> simp
@[simp] theorem State.awake_rst : s.awake.rst = s.rst := by unfold State.awake; split <;> simp
@[simp] theorem State.awake_lap : s.awake.lap = s.lap := by unfold State.awake; split <;> simp
@[simp] theorem State.awake_rtc : s.awake.rtc = s.rtc := by unfold State.awake; split <;> simp
@[simp] theorem State.awake_alarm : s.awake.alarm = s.alarm := by unfold State.awake; split <;> simp
@[simp] theorem State.awake_call : s.awake.call = s.call := by unfold State.awake; split <;> simp
@[simp] theorem State.awake_loops : s.awake.loops = s.loops := by unfold State.awake; split <;> simp
@[simp] theorem State.awake_jkt : s.awake.jkt = s.jkt := by unfold State.awake; split <;> simp
@[simp] theorem State.awake_pair : s.awake.pair = s.pair := by unfold State.awake; split <;> simp
@[simp] theorem State.awake_ports : s.awake.ports = s.ports := by unfold State.awake; split <;> simp
@[simp] theorem State.awake_msg : s.awake.msg = s.msg := by unfold State.awake; split <;> simp
@[simp] theorem State.awake_tsync : s.awake.tsync = s.tsync := by unfold State.awake; split <;> simp
@[simp] theorem State.awake_sec : s.awake.sec = s.sec := by unfold State.awake; split <;> simp
@[simp] theorem State.awake_jtag : s.awake.jtag = s.jtag := by unfold State.awake; split <;> simp
@[simp] theorem State.awake_switchTo : s.awake.switchTo = s.switchTo := by unfold State.awake; split <;> simp
@[simp] theorem State.awake_pending : s.awake.pending = s.pending := by unfold State.awake; split <;> simp

@[simp] theorem State.draw_straps : (s.draw).2.straps = s.straps := rfl
@[simp] theorem State.draw_regs : (s.draw).2.regs = s.regs := rfl
@[simp] theorem State.draw_live : (s.draw).2.live = s.live := rfl
@[simp] theorem State.draw_shadow : (s.draw).2.shadow = s.shadow := rfl
@[simp] theorem State.draw_mirror : (s.draw).2.mirror = s.mirror := rfl
@[simp] theorem State.draw_dirty : (s.draw).2.dirty = s.dirty := rfl
@[simp] theorem State.draw_locked : (s.draw).2.locked = s.locked := rfl
@[simp] theorem State.draw_immediate : (s.draw).2.immediate = s.immediate := rfl
@[simp] theorem State.draw_latched : (s.draw).2.latched = s.latched := rfl
@[simp] theorem State.draw_status : (s.draw).2.status = s.status := rfl
@[simp] theorem State.draw_response : (s.draw).2.response = s.response := rfl
@[simp] theorem State.draw_responseCrc : (s.draw).2.responseCrc = s.responseCrc := rfl
@[simp] theorem State.draw_freeCount : (s.draw).2.freeCount = s.freeCount + 1 := rfl
@[simp] theorem State.draw_stime : (s.draw).2.stime = s.stime := rfl
@[simp] theorem State.draw_stimeFrac : (s.draw).2.stimeFrac = s.stimeFrac := rfl
@[simp] theorem State.draw_optimeFrac : (s.draw).2.optimeFrac = s.optimeFrac := rfl
@[simp] theorem State.draw_pacerFrac : (s.draw).2.pacerFrac = s.pacerFrac := rfl
@[simp] theorem State.draw_sram : (s.draw).2.sram = s.sram := rfl
@[simp] theorem State.draw_sramBad : (s.draw).2.sramBad = s.sramBad := rfl
@[simp] theorem State.draw_sramWeak : (s.draw).2.sramWeak = s.sramWeak := rfl
@[simp] theorem State.draw_store : (s.draw).2.store = s.store := rfl
@[simp] theorem State.draw_terms : (s.draw).2.terms = s.terms := rfl
@[simp] theorem State.draw_arith : (s.draw).2.arith = s.arith := rfl
@[simp] theorem State.draw_afe : (s.draw).2.afe = s.afe := rfl
@[simp] theorem State.draw_cal : (s.draw).2.cal = s.cal := rfl
@[simp] theorem State.draw_recorder : (s.draw).2.recorder = s.recorder := rfl
@[simp] theorem State.draw_nvm : (s.draw).2.nvm = s.nvm := rfl
@[simp] theorem State.draw_dma : (s.draw).2.dma = s.dma := rfl
@[simp] theorem State.draw_pwr : (s.draw).2.pwr = s.pwr := rfl
@[simp] theorem State.draw_rst : (s.draw).2.rst = s.rst := rfl
@[simp] theorem State.draw_lap : (s.draw).2.lap = s.lap := rfl
@[simp] theorem State.draw_rtc : (s.draw).2.rtc = s.rtc := rfl
@[simp] theorem State.draw_alarm : (s.draw).2.alarm = s.alarm := rfl
@[simp] theorem State.draw_call : (s.draw).2.call = s.call := rfl
@[simp] theorem State.draw_loops : (s.draw).2.loops = s.loops := rfl
@[simp] theorem State.draw_jkt : (s.draw).2.jkt = s.jkt := rfl
@[simp] theorem State.draw_pair : (s.draw).2.pair = s.pair := rfl
@[simp] theorem State.draw_ports : (s.draw).2.ports = s.ports := rfl
@[simp] theorem State.draw_msg : (s.draw).2.msg = s.msg := rfl
@[simp] theorem State.draw_tsync : (s.draw).2.tsync = s.tsync := rfl
@[simp] theorem State.draw_sec : (s.draw).2.sec = s.sec := rfl
@[simp] theorem State.draw_jtag : (s.draw).2.jtag = s.jtag := rfl
@[simp] theorem State.draw_switchTo : (s.draw).2.switchTo = s.switchTo := rfl
@[simp] theorem State.draw_pending : (s.draw).2.pending = s.pending := rfl
@[simp] theorem State.draw_rd {r : Ref} : (s.draw).2.rd r = s.rd r := rfl

end Sys2Proof.Machine
end

