-- ==== Sys2Proof/Laws/Tick.lean ====
section
/-!
SUPPORT. What each operation of Machine/Tick.lean can change: one lemma per operation, named after it. An operation started in a
state that has kept all parts of an earlier one but some keeps all but those and the parts that its lemma lists, and the
canonical form of the sparse maps with them.
-/

set_option Elab.async false

namespace Sys2Proof.Machine

theorem State.bitErrors_kept {l s0} {s} (h : Kept l s0 s) (hp : Part.within [.freeCount, .sramWeak, .sramBad, .nvm] l) :
    Kept l s0 (State.bitErrors s) := by
  unfold State.bitErrors
  split
  · rename_i x2 s13 q14
    have h1 : Kept l s0 s13 := Kept.snd q14 (State.draw_kept h (Part.sub hp))
    split
    · rename_i y5 s26 q13
      have h4 : Kept l s0 s26 := Kept.snd q13 (State.draw_kept h1 (Part.sub hp))
      extract_lets +onlyGivenNames -merge -useContext -underBinder s7
      clear_value s7
      extract_lets +onlyGivenNames -merge -useContext -underBinder s9
      clear_value s9
      extract_lets +onlyGivenNames -merge -useContext -underBinder s11
      have h12 : Kept l s0 s11 := by
        unfold s11
        split
        · exact (Kept.ite h4 (h4.sramWeak (Part.at hp)))
        · exact (h4.upd [.sramBad, .sramWeak] (Part.sub hp) (fun p hn => by cases p <;> first | rfl | exact True.intro | exact absurd (by decide) hn) rfl id)
        · exact h4
      clear_value s11
      split
      · exact (Kept.ite h12 (h12.nvm (Part.at hp)))
      · exact (h12.nvm (Part.at hp))
      · exact h12

theorem State.eraseMicro_kept {l s0} {s} (h : Kept l s0 s) (hp : Part.within [.sec, .page 0x5A] l) :
    Kept l s0 (State.eraseMicro s) := by
  unfold State.eraseMicro
  split
  · exact h
  · exact (State.wr_kept (State.modSec_kept h (Part.sub hp)) (TAMP.STAT.erasing_zoned (Part.at hp)))
  · exact (State.modSec_kept h (Part.sub hp))

theorem State.fieldMicro_kept {l s0} {s} (h : Kept l s0 s) (hp : Part.within [.jkt] l) :
    Kept l s0 (State.fieldMicro s) := by
  unfold State.fieldMicro
  exact (Kept.ite (State.modJkt_kept h (Part.sub hp)) h)

theorem State.lapMicro_kept {l s0} {s} (h : Kept l s0 s) (hp : Part.within [.lap] l) :
    Kept l s0 (State.lapMicro s) := by
  unfold State.lapMicro
  exact (Kept.ite (h.lap (Part.at hp)) h)

theorem State.optimeMicro_kept {l s0} {s} (h : Kept l s0 s) (hp : Part.within [.optimeFrac, .freeCount, .sramWeak, .sramBad, .nvm, .page 0x51, .sec, .page 0x5A, .head 0x14, .page 0x59, .head 0x24, .head 0x20, .page 0x3, .page 0x34, .page 0x58, .page 0x48, .recorder, .page 0x49, .page 0x42, .page 0x41, .page 0x40, .sram, .msg, .page 0x178, .page 0x1] l) :
    Kept l s0 (State.optimeMicro s) := by
  unfold State.optimeMicro
  exact (Kept.ite (h.optimeFrac (Part.at hp)) (State.bitErrors_kept (State.vbatSample_kept (State.tamperSample_kept (State.authWindow_kept (State.countMs_kept (h.optimeFrac (Part.at hp)) (Part.sub hp)) (Part.sub hp)) (Part.sub hp)) (Part.sub hp)) (Part.sub hp)))

theorem State.stimeBy_kept {l s0} {s} {x1} (h : Kept l s0 s) (hp : Part.within [.stime, .stimeFrac] l) :
    Kept l s0 (State.stimeBy s x1) := by
  unfold State.stimeBy
  extract_lets +onlyGivenNames -merge -useContext -underBinder s1
  clear_value s1
  exact (h.upd [.stime, .stimeFrac] (Part.sub hp) (fun p hn => by cases p <;> first | rfl | exact True.intro | exact absurd (by decide) hn) rfl id)

theorem State.stimePacer_kept {l s0} {s} (h : Kept l s0 s) (hp : Part.within [.stime, .stimeFrac] l) :
    Kept l s0 (State.stimePacer s) := by
  unfold State.stimePacer
  extract_lets +onlyGivenNames -merge -useContext -underBinder s1
  clear_value s1
  extract_lets +onlyGivenNames -merge -useContext -underBinder s3
  have h4 : Kept l s0 s3 := by unfold s3; exact (State.stimeBy_kept h (Part.sub hp))
  clear_value s3
  exact (h4.stimeFrac (Part.at hp))

theorem State.pacerEdge_kept {l s0} {s} (h : Kept l s0 s) (hp : Part.within [.stime, .stimeFrac, .rtc, .page 0x4, .head 0x14, .page 0x178, .recorder, .page 0x49, .head 0x24, .page 0x42, .head 0x20, .page 0x41, .page 0x40, .sram, .sramBad, .sramWeak, .msg, .page 0x48, .nvm, .page 0x51, .switched, .pwr, .terms, .immediate, .latched, .pair, .dma, .pages 0x30 0x34, .cal, .page 0x10, .afe, .arith, .lap, .ports, .loops, .jkt, .page 0x1A, .page 0x38, .page 0x19, .alarm, .pages 0x120 0x131, .call, .tsync, .freeCount, .page 0x58, .sec, .response, .responseCrc, .page 0x11, .pages 0x8 0x10, .page 0x18, .rst, .page 0x28, .page 0x34, .live, .shadow, .dirty, .page 0x1, .page 0x50] l) :
    Kept l s0 (State.pacerEdge s) := by
  unfold State.pacerEdge
  extract_lets +onlyGivenNames -merge -useContext -underBinder s1
  have h2 : Kept l s0 s1 := by unfold s1; exact (Kept.ite (State.stimePacer_kept h (Part.sub hp)) h)
  clear_value s1
  exact (State.rtcWake_kept (State.pacerTick_kept h2 (Part.sub hp)) (Part.sub hp))

theorem State.pacerMicro_kept {l s0} {s} (h : Kept l s0 s) (hp : Part.within [.pacerFrac, .stime, .stimeFrac, .rtc, .page 0x4, .head 0x14, .page 0x178, .recorder, .page 0x49, .head 0x24, .page 0x42, .head 0x20, .page 0x41, .page 0x40, .sram, .sramBad, .sramWeak, .msg, .page 0x48, .nvm, .page 0x51, .switched, .pwr, .terms, .immediate, .latched, .pair, .dma, .pages 0x30 0x34, .cal, .page 0x10, .afe, .arith, .lap, .ports, .loops, .jkt, .page 0x1A, .page 0x38, .page 0x19, .alarm, .pages 0x120 0x131, .call, .tsync, .freeCount, .page 0x58, .sec, .response, .responseCrc, .page 0x11, .pages 0x8 0x10, .page 0x18, .rst, .page 0x28, .page 0x34, .live, .shadow, .dirty, .page 0x1, .page 0x50] l) :
    Kept l s0 (State.pacerMicro s) := by
  unfold State.pacerMicro
  extract_lets +onlyGivenNames -merge -useContext -underBinder s1
  clear_value s1
  extract_lets +onlyGivenNames -merge -useContext -underBinder s3
  have h4 : Kept l s0 s3 := by unfold s3; exact (h.pacerFrac (Part.at hp))
  clear_value s3
  exact (Kept.ite (State.pacerEdge_kept h4 (Part.sub hp)) h4)

theorem State.recMicro_kept {l s0} {s} (h : Kept l s0 s) (hp : Part.within [.recorder] l) :
    Kept l s0 (State.recMicro s) := by
  unfold State.recMicro
  exact (Kept.ite h (h.recorder (Part.at hp)))

theorem State.recoverMicro_kept {l s0} {s} (h : Kept l s0 s) (hp : Part.within [.freeCount, .pages 0x30 0x34] l) :
    Kept l s0 (State.recoverMicro s) := by
  unfold State.recoverMicro
  refine Kept.each h (fun _ _ h1 => ?_)
  split
  · rename_i x3 t4 q5
    have h2 : Kept l s0 t4 := Kept.snd q5 (State.draw_kept h1 (Part.sub hp))
    exact (State.wr_kept h2 (BUS.STATE.recov_zoned (Part.at hp)))

theorem State.stimeMicro_kept {l s0} {s} (h : Kept l s0 s) (hp : Part.within [.stime, .stimeFrac] l) :
    Kept l s0 (State.stimeMicro s) := by
  unfold State.stimeMicro
  exact (State.stimeBy_kept h (Part.sub hp))

theorem State.tscMicro_kept {l s0} {s} (h : Kept l s0 s) (hp : Part.within [.pages 0x30 0x34] l) :
    Kept l s0 (State.tscMicro s) := by
  unfold State.tscMicro
  exact (Kept.each h (fun _ _ h1 => (State.wr_kept h1 (BUS.TSC.us_zoned (Part.at hp)))))

theorem State.waitingWork_kept {l s0} {s} (h : Kept l s0 s) (hp : Part.within [.arith, .lap, .dma, .sram, .sramBad, .sramWeak, .alarm, .recorder, .loops, .pair, .msg, .cal, .freeCount, .call, .jkt, .ports, .rst, .afe, .nvm, .sec, .live, .shadow, .dirty, .immediate, .latched, .pwr, .tsync, .rtc, .response, .responseCrc, .regs, .terms] l) :
    Kept l s0 (State.waitingWork s) := by
  unfold State.waitingWork
  extract_lets +onlyGivenNames -merge -useContext -underBinder s1 s2
  have h4 : Kept l s0 s2 := by unfold s2; exact (State.leaveDoze_kept (State.skipEvaluation_kept (State.proceedResets_kept (State.goRestore_kept (State.recMicro_kept (h.pair (Part.at hp)) (Part.sub hp)) (Part.sub hp)) (Part.sub hp)) (Part.sub hp)) (Part.sub hp))
  clear_value s2
  clear_value s1
  exact (Kept.ite (State.pump_kept (State.formWaiting_kept (State.sendResults_kept h4 (Part.sub hp)) (Part.sub hp)) (Part.sub hp)) h4)

theorem State.tick_kept {l s0} {s} (h : Kept l s0 s) (hp : Part.within [.pacerFrac, .stime, .stimeFrac, .rtc, .recorder, .sram, .sramBad, .sramWeak, .msg, .nvm, .pwr, .terms, .immediate, .latched, .pair, .dma, .cal, .afe, .arith, .lap, .ports, .loops, .jkt, .alarm, .call, .tsync, .freeCount, .sec, .response, .responseCrc, .rst, .live, .shadow, .dirty, .optimeFrac, .regs] l) :
    Kept l s0 (State.tick s) := by
  unfold State.tick
  extract_lets +onlyGivenNames -merge -useContext -underBinder s1
  have h2 : Kept l s0 s1 := by unfold s1; exact (State.pacerMicro_kept (State.eraseMicro_kept (State.fieldMicro_kept h (Part.sub hp)) (Part.sub hp)) (Part.sub hp))
  clear_value s1
  refine Kept.ite ?_ ?_
  · extract_lets +onlyGivenNames -merge -useContext -underBinder s3
    have h4 : Kept l s0 s3 := by unfold s3; exact (State.lapMicro_kept (State.optimeMicro_kept h2 (Part.sub hp)) (Part.sub hp))
    clear_value s3
    extract_lets +onlyGivenNames -merge -useContext -underBinder s5
    have h6 : Kept l s0 s5 := by unfold s5; exact (Kept.ite (State.recoverMicro_kept (State.tscMicro_kept (State.stimeMicro_kept h4 (Part.sub hp)) (Part.sub hp)) (Part.sub hp)) h4)
    clear_value s5
    exact (State.waitingWork_kept h6 (Part.sub hp))
  · exact h2

end Sys2Proof.Machine
end

