-- ==== Sys2Proof/Laws/Step.lean ====
section
/-!
SUPPORT. What each operation of Machine/Step.lean can change: one lemma per operation, named after it. An operation started in a
state that has kept all parts of an earlier one but some keeps all but those and the parts that its lemma lists, and the
canonical form of the sparse maps with them.
-/

set_option Elab.async false

namespace Sys2Proof.Machine

theorem State.withFetchWord_kept {l s0} {s} {x1} {x2} (h : Kept l s0 s) (hp : Part.within [.pending] l) :
    Kept l s0 (State.withFetchWord s x1 x2) := by
  unfold State.withFetchWord
  split
  · exact (h.pending (Part.at hp))
  · exact h

end Sys2Proof.Machine
end

