-- ==== Sys2Proof/Tests/Slice0.lean ====
section
/-!
SUPPORT. Tests: ill-formed commands are refused by each check of WellFormed.lean, worked examples of the spec, and for each statement a state
and operands that meet the hypotheses of each of its clauses.
-/

open Sys2Proof Sys2Proof.Machine

set_option Elab.async false
set_option maxRecDepth 100000

namespace Sys2Proof.Tests

/-- Sets a field, of the live configuration where the field belongs to it. -/
def setField (s : State) (x : Ref × Nat) : State :=
  if x.1.cfg then { s with live := Sparse.set resetWord s.live x.1.addr (BitVec.ofNat 32 (putBits (s.wordAt true x.1.addr).toNat x.1.lo x.1.w x.2)) }
  else s.wr x.1 x.2

/-- A node that has booted, with its blocks enabled, and some fields set. -/
def node (l : List (Ref × Nat)) : State :=
  let pages := [0x08, 0x09, 0x0A, 0x0B, 0x0C, 0x0D, 0x0E, 0x0F, 0x10, 0x11, 0x18, 0x19, 0x1A, 0x20, 0x28, 0x34, 0x35, 0x38, 0x40, 0x41, 0x42, 0x48, 0x49, 0x58]
  (pages.map (fun p => (HDR.CTL.enable p, 1)) ++ (MEM.INFO.init_done, 1) :: l).foldl setField
    { State.reset with rst := { State.reset.rst with bootPending := false, cold := false } }

theorem reset_canonical : State.reset.canonical := by
  delta State.canonical State.wordsCanonical State.memoryCanonical
  decide +kernel

theorem setField_canonical {s : State} {x : Ref × Nat} (h : s.canonical) : (setField s x).canonical := by
  unfold setField
  split
  · exact ⟨⟨h.1.1, Sparse.wf_set h.1.2.1, h.1.2.2.1, h.1.2.2.2⟩, h.2⟩
  · exact State.canonical_wr h

theorem fields_canonical : ∀ (l : List (Ref × Nat)) {s : State}, s.canonical → (l.foldl setField s).canonical
  | [], _, h => h
  | _ :: l, _, h => fields_canonical l (setField_canonical h)

theorem node_canonical (l : List (Ref × Nat)) : (node l).canonical := fields_canonical _ ⟨⟨reset_canonical.1.1, reset_canonical.1.2⟩, reset_canonical.2⟩

theorem canonical_with_afe (v0 : _) {s : State} (h : s.canonical) : ({ s with afe := v0 } : State).canonical := h

theorem canonical_with_arith (v0 : _) {s : State} (h : s.canonical) : ({ s with arith := v0 } : State).canonical := h

theorem canonical_with_cal (v0 : _) {s : State} (h : s.canonical) : ({ s with cal := v0 } : State).canonical := h

theorem canonical_with_cal_nvm (v0 : _) (v1 : _) {s : State} (h : s.canonical) : ({ s with cal := v0, nvm := v1 } : State).canonical := h

theorem canonical_with_call (v0 : _) {s : State} (h : s.canonical) : ({ s with call := v0 } : State).canonical := h

theorem canonical_with_dma (v0 : _) {s : State} (h : s.canonical) : ({ s with dma := v0 } : State).canonical := h

theorem canonical_with_jkt (v0 : _) {s : State} (h : s.canonical) : ({ s with jkt := v0 } : State).canonical := h

theorem canonical_with_lap (v0 : _) {s : State} (h : s.canonical) : ({ s with lap := v0 } : State).canonical := h

theorem canonical_with_loops (v0 : _) {s : State} (h : s.canonical) : ({ s with loops := v0 } : State).canonical := h

theorem canonical_with_msg (v0 : _) {s : State} (h : s.canonical) : ({ s with msg := v0 } : State).canonical := h

theorem canonical_with_msg_sec (v0 : _) (v1 : _) {s : State} (h : s.canonical) : ({ s with msg := v0, sec := v1 } : State).canonical := h

theorem canonical_with_msg_tsync (v0 : _) (v1 : _) {s : State} (h : s.canonical) : ({ s with msg := v0, tsync := v1 } : State).canonical := h

theorem canonical_with_nvm (v0 : _) {s : State} (h : s.canonical) : ({ s with nvm := v0 } : State).canonical := h

theorem canonical_with_optimeFrac (v0 : _) {s : State} (h : s.canonical) : ({ s with optimeFrac := v0 } : State).canonical := h

theorem canonical_with_pacerFrac (v0 : _) {s : State} (h : s.canonical) : ({ s with pacerFrac := v0 } : State).canonical := h

theorem canonical_with_pair (v0 : _) {s : State} (h : s.canonical) : ({ s with pair := v0 } : State).canonical := h

theorem canonical_with_pwr (v0 : _) {s : State} (h : s.canonical) : ({ s with pwr := v0 } : State).canonical := h

theorem canonical_with_recorder (v0 : _) {s : State} (h : s.canonical) : ({ s with recorder := v0 } : State).canonical := h

theorem canonical_with_recorder_nvm (v0 : _) (v1 : _) {s : State} (h : s.canonical) : ({ s with recorder := v0, nvm := v1 } : State).canonical := h

theorem canonical_with_rst (v0 : _) {s : State} (h : s.canonical) : ({ s with rst := v0 } : State).canonical := h

theorem canonical_with_rtc (v0 : _) {s : State} (h : s.canonical) : ({ s with rtc := v0 } : State).canonical := h

theorem canonical_with_sec (v0 : _) {s : State} (h : s.canonical) : ({ s with sec := v0 } : State).canonical := h

theorem canonical_with_straps (v0 : _) {s : State} (h : s.canonical) : ({ s with straps := v0 } : State).canonical := h

theorem canonical_with_tsync (v0 : _) {s : State} (h : s.canonical) : ({ s with tsync := v0 } : State).canonical := h

/-! ### Well-formedness -/

/-- A well-formed frame of the bus, to vary. -/
def frame0 : CanFrame := { id := 0, xtd := false, rtr := false, fdf := false, brs := false, esi := false, dlc := 0, data := [] }

theorem test_wf_accepts :
    ([.hostRead 0 4 0 0, .registerWrite (.remote 1023 4 true) 0x40 0#32, .slotStart 7 19, .canFrameReceived 3 frame0 0, .leaseReceived 1 [], .resultRingRelease .host (2 ^ 32 - 1)] : List Instr).all Instr.wf = true := by
  decide +kernel

theorem test_wf_refuses_1 :
    ([.hostRead 0 0 0 (2 ^ 16 + 1), .hostRead (2 ^ 32) 0 0 0, .hostRead 0 0 (2 ^ 16) 0, .hostRead 0 (2 ^ 16) 0 0,
      .hostRead4 0 0 0 (2 ^ 16 + 1), .hostRead4 (2 ^ 32) 0 0 0, .hostRead4 0 0 (2 ^ 16) 0, .hostRead4 0 (2 ^ 16) 0 0,
      .hostWrite (2 ^ 32) 0 [] 0, .hostWrite 0 0 [] (2 ^ 16), .hostWrite 0 (2 ^ 16) [] 0, .hostWrite4 (2 ^ 32) 0 [] 0,
      .hostWrite4 0 0 [] (2 ^ 16), .hostWrite4 0 (2 ^ 16) [] 0, .hostResetFrame (2 ^ 32) 0 0, .hostResetFrame 0 0 (2 ^ 16),
      .hostResetFrame 0 (2 ^ 16) 0, .hostStatusTimeout (2 ^ 32), .registerWrite (.remote 1024 1 false) 0 0#32, .registerWrite .host (2 ^ 20) 0#32,
      .commitNextLap (.remote 1024 1 false) 0, .commitNextLap .host (128), .commitImmediate (.remote 1024 1 false) 0, .commitImmediate .host (128),
      .commitCancel (.remote 1024 1 false) 0, .commitCancel .host (128), .commitCheckEnd (128), .ctlRevert (.remote 1024 1 false) 0,
      .ctlRevert .host (128), .ctlEnableWrite (.remote 1024 1 false) 0 false, .ctlEnableWrite .host (128) false, .quiesceRequest .host (128) false,
      .quiesceTimeout (128), .blockResetRequest .host (128), .lockWrite .host (128), .cfgOwnerHandover .host (4),
      .cfgOwnerReclaim (4), .lapBoundary none (2 ^ 32), .slotStart 8 0, .slotStart 0 20] : List Instr).all (fun i => !i.wf) = true := by
  decide +kernel

theorem test_wf_refuses_2 :
    ([.burnoutCheckEnd 8 0 0, .burnoutCheckEnd 0 20 0, .senseCheckEnd 8 0 false 0, .senseCheckEnd 0 20 false 0,
      .settleEnd 8 0, .settleEnd 0 20, .sampleOut 0 0 (8388607 + 1) 0 false, .sampleOut 0 0 0 (8388607 + 1) false,
      .sampleOut 0 0 (-8388608 - 1) 0 false, .sampleOut 0 0 0 (-8388608 - 1) false, .sampleOut 8 0 0 0 false, .sampleOut 0 20 0 0 false,
      .slotEnd 8 0, .slotEnd 0 20, .sourceCompliance 8 0, .sourceCompliance 0 20,
      .excitationChange 8 0 0 false, .excitationChange 0 20 0 false, .bridgeOvercurrent (8), .pinWindowFault (8) 0,
      .pinWindowFault 0 (48), .mainPhaseStart 8 0, .mainPhaseStart 0 20, .testRecordStart .host (1024),
      .referenceConversionEnd (8) (List.replicate 32 0) false, .overlapReferenceEnd (8) 0 0, .reinstateChannel .host (1024), .reinstateModulator .host (8) 0,
      .reinstateModulator .host 0 (8), .reinstateReference .host (1024), .retireChannelCommand .host (1024), .almEvaluation (2 ^ 32),
      .acknowledge .host (1024), .acknowledgeGroup .host (1024), .shelve .host (1024), .unshelve .host (1024),
      .outOfService .host (1024), .returnToService .host (1024), .latchReset .host (1024), .silenceHorn .host (1024)] : List Instr).all (fun i => !i.wf) = true := by
  decide +kernel

theorem test_wf_refuses_3 :
    ([.resetFirstOut .host (1024), .clearFalseStarts .host (1024), .groupAckInput (64), .nqRelease .host (2 ^ 16),
      .callAcknowledge .host (32), .dutyOffer .host (32) 0, .dutyOffer .host 0 (16), .dutyConfirm .host (32),
      .callPointAckInput (32), .callPointLost (32), .demandStale (1024), .readbackSample (8) 0 0 false,
      .loopWindowEnd (8), .loopSetWrite .host (8) 0, .stageThermal (8) 0, .inputSample (48) false,
      .outputTrip (48) false, .outputRestart (48), .wireBreakTest (48) 0, .openLoadConfirm (48),
      .extdrvConfirm (48), .disagreeConfirm (48), .outputFlagClear (48) 0, .outputFlagClear 0 (4),
      .outsetWrite .host (2) 0#32, .leaseReceived 2 [], .leaseReceived 0 (List.replicate 1025 0), .lapmarkReceived 2 [],
      .lapmarkReceived 0 (List.replicate 1025 0), .excrepReceived 2 [], .excrepReceived 0 (List.replicate 1025 0), .digestReceived 2 [],
      .digestReceived 0 (List.replicate 1025 0), .digestWaitTimeout (1024), .cmdfwdReceived 2 [], .cmdfwdReceived 0 (List.replicate 1025 0),
      .cmdresReceived 2 [], .cmdresReceived 0 (List.replicate 1025 0), .cfgfwdReceived (2) [], .regaccReceived 2 []] : List Instr).all (fun i => !i.wf) = true := by
  decide +kernel

theorem test_wf_refuses_4 :
    ([.regaccReceived 0 (List.replicate 1025 0), .imageFrameReceived 2 [], .imageFrameReceived 0 (List.replicate 1025 0), .evaldoneReceived 2 [],
      .evaldoneReceived 0 (List.replicate 1025 0), .laneDown (2), .uhlizFrameError (2), .canFrameReceived (4) frame0 0,
      .txRequest .host (4) 0, .txRequest .host 0 (3), .txCancel .host (4) 0, .txCancel .host 0 (3),
      .txAttemptStart (4), .txAttemptEnd (4) .sent none, .busError (4) .receiving 0 false, .busError 0 .receiving (8) false,
      .soloPauseEnd (4), .busRecover .host (4), .busRecoveryComplete (4), .integrationComplete (4),
      .rxRelease .host (4) 0 0, .rxRelease .host 0 (2) 0, .rxRelease .host 0 0 (2 ^ 16), .busWake (4),
      .tmlFrameAccept (4) 0, .tmlFrameAccept 0 (2), .regReqTimeout (1024), .scrubStep (3),
      .dmaStart .host (64), .dmaRestart .host (64), .dmaAbort .host (64), .resultRingRelease .host (2 ^ 32),
      .histogramClear .host (1024), .hselWrite .host (1024), .tokenRefill (64), .summaryInterval (64),
      .rtcTimeRead .host (9), .rtcShift .host false (32768), .keyLoad .host (16), .keyClear .host (16)] : List Instr).all (fun i => !i.wf) = true := by
  decide +kernel

theorem test_wf_refuses_5 :
    ([.tamperDetect (7) false, .vmonSample (2 ^ 16), .domainPowerGoodTimeout (12), .governorCheck (2 ^ 16),
      .pacerCalibration (2147483647 + 1), .pacerCalibration (-2147483648 - 1), .wakeEvent (6), .domainResetCommand .host (16),
      .resetRelease (11 + 1), .releaseRetry (11 + 1), .registerWrite .host 2 0#32, .registerWrite (.remote 0 0 false) 0 0#32,
      .registerWrite (.remote 0 5 false) 0 0#32, .referenceConversionEnd 0 [] false, .jacketUpstreamFrame (List.replicate 65 0), .resetPinEdge (some 32),
      .canFrameReceived 0 { frame0 with id := 2 ^ 11 } 0, .canFrameReceived 0 { frame0 with dlc := 16 } 0, .canFrameReceived 0 { frame0 with dlc := 1 } 0, .canFrameReceived 0 { frame0 with brs := true } 0,
      .canFrameReceived 0 { frame0 with fdf := true, rtr := true } 0, .mirrorEndReceived 0 [] [List.replicate 1025 0], .cfgfwdReceived 2 [], .cfgfwdReceived 0 [List.replicate 1025 0],
      .resetRelease 12] : List Instr).all (fun i => !i.wf) = true := by
  decide +kernel

/-! ### Worked examples of the spec -/

/-- The bytes "123456789". -/
def nine : List Byte := (List.range 9).map fun i => BitVec.ofNat 8 (0x31 + i)

/-- R49: over "123456789" the CRC-32 yields 0xCBF43926. -/
theorem test_crc32 : crc32 nine = 0xCBF43926 := by decide +kernel

/-- R67: over "123456789" the CRC-16 yields 0x29B1. -/
theorem test_crc16 : crc16 nine = 0x29B1 := by decide +kernel

/-- 08_loop_channels.md: 12,000 µA gives code 32,768, 20,000 µA 54,613, and 24,000 µA is clamped to 65,535. -/
theorem test_dac_codes : [12000, 20000, 24000].map (dacCode 1) = [32768, 54613, 65535] := by decide +kernel

/-- 12_message_layer.md: the identifier of node 65's report of A31 with seq 0x2A. -/
theorem test_tml_identifier : (tmlClass 0x0441012A, tmlSource 0x0441012A, tmlType 0x0441012A) = (1, 65, 1) := by decide +kernel

/-- What a command leaves, in one view. -/
def after {α : Type} (c : Instr) (s : State) (f : State → α) : Option α :=
  match exec c s with
  | .next t => some (f t)
  | _ => none

/-- 03_sensor_front_end.md: PAGEID of AFE3 on TU-LM160 reads 0x00080301. -/
theorem test_pageid : after (.hostRead 0xB000 4 (crc16 (frameBytes 0x0B 0xB000 4 [])) 4) (node []) (fun t => t.response) = some (bytesLE 4 0x00080301) := by
  decide +kernel

/-- 15_rtc_and_backup.md, event 2: SUB1H at 2100-03-01 00:30:00 gives 2100-02-28 23:30:00, dst 0. -/
theorem test_sub1h : after (.rtcSub1h .host) { node [(RTC.STAT.dst, 1)] with rtc := { seconds := 3160859399, subsec := 32767 } }
    (fun t => (t.rtcNow.map (fun v => v), t.rd RTC.STAT.dst)) = some ([0, 0x00, 0x30, 0x23, 0x07, 0x28, 0x02, 0x00, 0x21], 0) := by
  decide +kernel

/-- A test conversion of C19 as 04_conversion_arithmetic.md configures it, with one code. -/
def tie (code : Nat) : Option Nat :=
  match exec (.testRecordStart .host 19) (node [(AFE.CTX.a_lo 0 19, 2 ^ 30), (AFE.CTX.a_shift 0 19, 30), (AFE.CTX.exp 0 19, 3), (AFE.CTX.unit 0 19, 1), (ARITH.TESTCODE.code, code)]) with
  | .next t => after .recordFormation t fun u => u.rd (ARITH.TESTREC.bytes 0)
  | _ => none

/-- The rounding ties of 04_conversion_arithmetic.md: 39,062.5 and 117,187.5 go to the even neighbour in either sign, 39,062.798 to the nearer. -/
theorem test_ties : [131072, 131073, 393216, 2 ^ 24 - 131072].map tie = [some 39062, some 39063, some 117188, some (2 ^ 32 - 39062)] := by decide +kernel

/-! ### Witnesses of the hypotheses -/

theorem test_met_StepRunsTheFrontCommand : (∃ s : State, s.pending = []) := ⟨node [], by decide +kernel⟩

theorem test_met_EveryStepKeepsTheMapsCanonical : (∃ s t : State, s.canonical ∧ step s = .next t) := ⟨node [], (node []).tick, node_canonical _, rfl⟩

theorem test_met_EveryStepKeepsStrapsAndTheQueue : (∃ s t : State, step s = .next t) := ⟨node [], (node []).tick, rfl⟩

theorem test_met_AnIdleStepLetsAMicrosecondPass :
    (∃ s : State, s.canonical ∧ s.pending = [] ∧ s.rst.blockWait = [] ∧ s.rst.domainWait = [] ∧ s.pwr.restoring = false ∧ s.pacerFrac + 32768 < 10 ^ 6 ∧
      s.optimeFrac + 1 < 1000 ∧ s.domainOn .aon = true ∧ s.domainOn .dio = true ∧ s.hfxoRuns = true ∧ s.stime + 2 < 2 ^ 64 ∧ s.stimeFrac < 2 ^ 32 * 10 ^ 9) ∧
    (∃ s : State, s.canonical ∧ s.pending = [] ∧ s.rst.blockWait = [] ∧ s.rst.domainWait = [] ∧ s.pwr.restoring = false ∧ s.pacerFrac + 32768 < 10 ^ 6 ∧
      s.domainOn .aon = true ∧ s.optimeFrac = 999) ∧
    (∃ s : State, s.canonical ∧ s.pending = [] ∧ 10 ^ 6 ≤ s.pacerFrac + 32768 ∧ s.rtc.pendingCmd = none ∧ s.rtc.trim = 0 ∧ s.rtcTicks + 1 < calendarEnd * 32768) :=
  ⟨⟨node [], node_canonical _, by decide +kernel⟩,
    ⟨{ node [] with optimeFrac := 999 }, canonical_with_optimeFrac (s := node []) _ (node_canonical _), by decide +kernel⟩,
    ⟨{ node [] with pacerFrac := 999999 }, canonical_with_pacerFrac (s := node []) _ (node_canonical _), by decide +kernel⟩⟩

/-- The hypotheses of each clause of HostFramesWriteAndReadScratch are met. -/
theorem test_met_HostFramesWriteAndReadScratch :
    (∃ (s : State) (p : Nat) (v : Word) (crc : Nat), s.canonical ∧ s.alive 96 = true ∧ s.alive p = true ∧ crc % 65536 = crc16 (frameBytes 2 (4096 * p + 60) 4 (wordBytes v))) ∧
    (∃ (s : State) (p : Nat) (v : Word) (crc : Nat), s.canonical ∧ s.alive 96 = true ∧ s.alive p = true ∧ crc % 65536 = crc16 (frameBytes 50 (4096 * p + 60) 4 (wordBytes v))) ∧
    (∃ (s : State) (p : Nat) (crc : Nat), s.canonical ∧ s.alive 96 = true ∧ s.alive p = true ∧ crc % 65536 = crc16 (frameBytes 11 (4096 * p + 60) 4 [])) ∧
    (∃ (s : State) (p : Nat) (crc : Nat), s.canonical ∧ s.alive 96 = true ∧ s.alive p = true ∧ crc % 65536 = crc16 (frameBytes 235 (4096 * p + 60) 4 [])) :=
  ⟨⟨node [], 0x20, 7#32, crc16 (frameBytes 2 (4096 * 0x20 + 60) 4 (wordBytes 7#32)), node_canonical _, by decide +kernel⟩,
    ⟨node [], 0x20, 7#32, crc16 (frameBytes 50 (4096 * 0x20 + 60) 4 (wordBytes 7#32)), node_canonical _, by decide +kernel⟩,
    ⟨node [], 0x5A, crc16 (frameBytes 11 (4096 * 0x5A + 60) 4 []), node_canonical _, by decide +kernel⟩,
    ⟨node [], 0, crc16 (frameBytes 235 60 4 []), node_canonical _, by decide +kernel⟩⟩

/-- The hypotheses of each clause of HostRefusesBadFrames are met. -/
theorem test_met_HostRefusesBadFrames :
    (∃ (s : State) (c : Byte), s.canonical ∧ s.alive 96 = true ∧ c ≠ 11 ∧ c ≠ 235 ∧ c ≠ 2 ∧ c ≠ 50 ∧ c ≠ 153) ∧
    (∃ (s : State) (a : Nat) (n : Nat) (crc : Nat), s.canonical ∧ s.alive 96 = true ∧ crc % 65536 ≠ crc16 (frameBytes 11 (a % 2 ^ 32) (n % 65536) [])) ∧
    (∃ (s : State), s.canonical ∧ s.alive 96 = true) ∧
    (∃ (s : State), s.canonical ∧ s.alive 96 = true) :=
  ⟨⟨node [], 0x00, node_canonical _, by decide +kernel⟩,
    ⟨node [], 0, 0, crc16 (frameBytes 11 0 0 []) + 1, node_canonical _, by decide +kernel⟩,
    ⟨node [], node_canonical _, by decide +kernel⟩,
    ⟨node [], node_canonical _, by decide +kernel⟩⟩

/-- The hypotheses of each clause of HostResetFrameResetsTheNode are met. -/
theorem test_met_HostResetFrameResetsTheNode :
    (∃ (s : State) (crc : Nat), s.canonical ∧ s.alive 96 = true ∧ crc % 65536 = crc16 (frameBytes 153 49374 0 [])) ∧
    (∃ (s : State) (crc : Nat) (a : Nat) (n : Nat), s.canonical ∧ s.alive 96 = true ∧ a % 2 ^ 32 ≠ 49374 ∧ crc % 65536 = crc16 (frameBytes 153 (a % 2 ^ 32) (n % 65536) [])) :=
  ⟨⟨node [], crc16 (frameBytes 153 49374 0 []), node_canonical _, by decide +kernel⟩,
    ⟨node [], crc16 (frameBytes 153 49375 0 []), 49375, 0, node_canonical _, by decide +kernel⟩⟩

/-- The hypotheses of each clause of RegisterWriteStoresTheWord are met. -/
theorem test_met_RegisterWriteStoresTheWord :
    (∃ (s : State) (q : Requester) (p : Nat), s.canonical ∧ s.admits q p) ∧
    (∃ (s : State) (q : Requester) (p : Nat) (off : Nat), s.canonical ∧ s.admits q p ∧ 64 ≤ off ∧ off < 2048 ∧ off % 4 = 0 ∧ cfgMask (4096 * p + off) ≠ 0 ∧ wordAbsent s.variant (4096 * p + off) = false ∧ (Option.map RegRow.rwl (rowAt? p off)).getD 0 = 0 ∧ p ≠ 89 ∧ 4096 * p + off ≠ 65724) :=
  ⟨⟨node [], .host, 0x5A, node_canonical _, by delta State.admits; decide +kernel⟩,
    ⟨node [(SYS.CFGOWNER.owner, 1)], .host, 4, 64, node_canonical _, by delta State.admits; decide +kernel⟩⟩

/-- The hypotheses of each clause of CommitKeysMoveTheCommitState are met. -/
theorem test_met_CommitKeysMoveTheCommitState :
    (∃ (s : State) (q : Requester) (p : Nat), s.canonical ∧ s.admits q p ∧ pageShadowed p = true ∧ s.isOwner q = true) ∧
    (∃ (s : State) (q : Requester) (p : Nat), s.canonical ∧ s.admits q p ∧ pageShadowed p = true ∧ s.isOwner q = true ∧ s.rd (HDR.COMMIT.state p) ≠ 2) ∧
    (∃ (s : State) (q : Requester) (p : Nat), s.canonical ∧ s.admits q p ∧ pageShadowed p = true ∧ s.isOwner q = true ∧ s.rd (HDR.COMMIT.state p) = 2) ∧
    (∃ (s : State) (q : Requester) (p : Nat), s.canonical ∧ s.admits q p ∧ pageShadowed p = true ∧ s.isOwner q = true) ∧
    (∃ (s : State) (q : Requester) (p : Nat), s.canonical ∧ s.admits q p ∧ pageShadowed p = true ∧ s.isOwner q = false) ∧
    (∃ (s : State) (q : Requester) (p : Nat), s.canonical ∧ s.admits q p ∧ pageShadowed p = true ∧ s.isOwner q = false) ∧
    (∃ (s : State) (q : Requester) (p : Nat), s.canonical ∧ s.admits q p ∧ pageShadowed p = true ∧ s.isOwner q = false) ∧
    (∃ (s : State) (q : Requester) (p : Nat), s.canonical ∧ s.admits q p ∧ pageShadowed p = false) ∧
    (∃ (s : State) (q : Requester) (p : Nat), s.canonical ∧ s.admits q p ∧ pageShadowed p = false) ∧
    (∃ (s : State) (q : Requester) (p : Nat), s.canonical ∧ s.admits q p ∧ pageShadowed p = false) :=
  ⟨⟨node [(SYS.CFGOWNER.owner, 1)], .host, 4, node_canonical _, by delta State.admits; decide +kernel⟩,
    ⟨node [(SYS.CFGOWNER.owner, 1)], .host, 4, node_canonical _, by delta State.admits; decide +kernel⟩,
    ⟨node [(SYS.CFGOWNER.owner, 1), (HDR.COMMIT.state 4, 2)], .host, 4, node_canonical _, by delta State.admits; decide +kernel⟩,
    ⟨node [(SYS.CFGOWNER.owner, 1)], .host, 4, node_canonical _, by delta State.admits; decide +kernel⟩,
    ⟨node [(SYS.CFGOWNER.owner, 3)], .host, 4, node_canonical _, by delta State.admits; decide +kernel⟩,
    ⟨node [(SYS.CFGOWNER.owner, 3)], .host, 4, node_canonical _, by delta State.admits; decide +kernel⟩,
    ⟨node [(SYS.CFGOWNER.owner, 3)], .host, 4, node_canonical _, by delta State.admits; decide +kernel⟩,
    ⟨node [], .host, 0x5A, node_canonical _, by delta State.admits; decide +kernel⟩,
    ⟨node [], .host, 0x5A, node_canonical _, by delta State.admits; decide +kernel⟩,
    ⟨node [], .host, 0x5A, node_canonical _, by delta State.admits; decide +kernel⟩⟩

/-- The hypotheses of each clause of CommitCheckRefusesOrWaits are met. -/
theorem test_met_CommitCheckRefusesOrWaits :
    (∃ (s : State) (p : Nat), s.canonical ∧ s.alive p = true ∧ pageShadowed p = true ∧ s.rd (HDR.COMMIT.state p) = 1 ∧ s.regionCrc s.shadow p ≠ s.rd (HDR.SHCRC.crc p)) ∧
    (∃ (s : State) (p : Nat) (x : Nat × Nat), s.canonical ∧ s.alive p = true ∧ pageShadowed p = true ∧ s.rd (HDR.COMMIT.state p) = 1 ∧ s.regionCrc s.shadow p = s.rd (HDR.SHCRC.crc p) ∧ s.verdict s.shadow p = some x) ∧
    (∃ (s : State) (p : Nat), s.canonical ∧ s.alive p = true ∧ pageShadowed p = true ∧ s.rd (HDR.COMMIT.state p) = 1 ∧ s.regionCrc s.shadow p = s.rd (HDR.SHCRC.crc p) ∧ s.verdict s.shadow p = none ∧ p ∉ s.immediate) :=
  ⟨⟨node [(HDR.COMMIT.state 4, 1)], 4, node_canonical _, by decide +kernel⟩,
    ⟨{ node [(HDR.COMMIT.state 4, 1), (HDR.SHCRC.crc 4, (node []).regionCrc [(0x4040, 0)] 4)] with shadow := [(0x4040, 0)] }, 4, ((node []).verdict [(0x4040, 0)] 4).getD (0, 0), by delta State.canonical State.wordsCanonical State.memoryCanonical; decide +kernel⟩,
    ⟨node [(HDR.COMMIT.state 4, 1), (HDR.SHCRC.crc 4, (node []).regionCrc [] 4)], 4, node_canonical _, by decide +kernel⟩⟩

/-- The hypotheses of each clause of RevertAndLock are met. -/
theorem test_met_RevertAndLock :
    (∃ (s : State) (q : Requester) (p : Nat), s.canonical ∧ s.admits q p ∧ pageShadowed p = true ∧ s.committing p = false) ∧
    (∃ (s : State) (q : Requester) (p : Nat), s.canonical ∧ s.admits q p ∧ pageShadowed p = true ∧ s.committing p = true) ∧
    (∃ (s : State) (q : Requester) (p : Nat), s.canonical ∧ s.admits q p ∧ pageShadowed p = false) ∧
    (∃ (s : State) (q : Requester) (p : Nat), s.canonical ∧ s.admits q p) :=
  ⟨⟨node [], .host, 4, node_canonical _, by delta State.admits; decide +kernel⟩,
    ⟨node [(HDR.COMMIT.state 4, 1)], .host, 4, node_canonical _, by delta State.admits; decide +kernel⟩,
    ⟨node [], .host, 0x5A, node_canonical _, by delta State.admits; decide +kernel⟩,
    ⟨node [], .host, 4, node_canonical _, by delta State.admits; decide +kernel⟩⟩

/-- The hypotheses of each clause of OwnershipMovesByItsOwnerOrTheHost are met. -/
theorem test_met_OwnershipMovesByItsOwnerOrTheHost :
    (∃ (s : State) (q : Requester), s.canonical ∧ s.admits q 0) ∧
    (∃ (s : State), s.canonical ∧ s.admits Requester.host 0) :=
  ⟨⟨node [], .host, node_canonical _, by delta State.admits; decide +kernel⟩,
    ⟨node [], node_canonical _, by delta State.admits; decide +kernel⟩⟩

/-- The hypotheses of each clause of ImageSwitchMovesThroughItsStates are met. -/
theorem test_met_ImageSwitchMovesThroughItsStates :
    (∃ (s : State) (q : Requester), s.canonical ∧ s.admits q 0 ∧ s.isOwner q = true ∧ s.switching = false) ∧
    (∃ (s : State) (q : Requester), s.canonical ∧ s.admits q 0 ∧ s.isOwner q = true ∧ s.switching = true) ∧
    (∃ (s : State) (q : Requester), s.canonical ∧ s.admits q 0 ∧ s.isOwner q = true) ∧
    (∃ (s : State) (reason : Nat) (page : Nat) (code : Nat), s.canonical ∧ s.alive 0 = true ∧ s.rd SYS.IMGSTAT.state = 1 ∧ s.switchVerdict s.switchTo = some (reason, page, code)) ∧
    (∃ (s : State), s.canonical ∧ s.alive 0 = true ∧ s.rd SYS.IMGSTAT.state = 1 ∧ s.switchVerdict s.switchTo = none) :=
  ⟨⟨node [(SYS.CFGOWNER.owner, 1)], .host, node_canonical _, by delta State.admits; decide +kernel⟩,
    ⟨node [(SYS.CFGOWNER.owner, 1), (SYS.IMGSTAT.state, 2)], .host, node_canonical _, by delta State.admits; decide +kernel⟩,
    ⟨node [(SYS.CFGOWNER.owner, 1)], .host, node_canonical _, by delta State.admits; decide +kernel⟩,
    ⟨node [(SYS.IMGSTAT.state, 1)], 1, 0, 0, node_canonical _, by decide +kernel⟩,
    ⟨{ node [(SYS.IMGSTAT.state, 1), (SEC.IMGSTAT.state 0, 2)] with store := Memory.storeAll 0xFF (Memory.storeAll 0xFF [] 12 (bytesLE 4 8)) 256 [0xFF, 0xFF, 0, 0, 0, 0, 0, 0] }, by delta State.canonical State.wordsCanonical State.memoryCanonical; decide +kernel⟩⟩

/-- The hypotheses of each clause of ControlBitsOfAPage are met. -/
theorem test_met_ControlBitsOfAPage :
    (∃ (s : State) (q : Requester) (p : Nat), s.canonical ∧ s.admits q p) ∧
    (∃ (s : State) (q : Requester) (p : Nat), s.canonical ∧ s.admits q p) ∧
    (∃ (s : State) (q : Requester) (p : Nat), s.canonical ∧ s.admits q p) ∧
    (∃ (s : State) (q : Requester) (p : Nat), s.canonical ∧ s.admits q p ∧ p ∈ s.rst.blockWait) ∧
    (∃ (s : State) (q : Requester) (p : Nat), s.canonical ∧ s.admits q p ∧ ¬p ∈ s.rst.blockWait ∧ (s.awake.setCtl p (HDR.CTL.qreq p) true).idle p = false) ∧
    (∃ (s : State) (q : Requester) (p : Nat), s.canonical ∧ s.admits q p ∧ ¬p ∈ s.rst.blockWait ∧ (s.awake.setCtl p (HDR.CTL.qreq p) true).idle p = true) :=
  ⟨⟨node [], .host, 0x20, node_canonical _, by delta State.admits; decide +kernel⟩,
    ⟨node [], .host, 0x20, node_canonical _, by delta State.admits; decide +kernel⟩,
    ⟨node [], .host, 0x20, node_canonical _, by delta State.admits; decide +kernel⟩,
    ⟨{ node [] with rst := { bootPending := false, blockWait := [0x20] } }, .host, 0x20, canonical_with_rst (s := node []) _ (node_canonical []), by delta State.admits; decide +kernel⟩,
    ⟨{ node [] with arith := { queue := [{ ch := 159, lap := 0, stime := 0, kind := .sampled, n := 4 }] } }, .host, 0x11, canonical_with_arith (s := node []) _ (node_canonical []), by delta State.admits; decide +kernel⟩,
    ⟨node [], .host, 0x20, node_canonical _, by delta State.admits; decide +kernel⟩⟩

/-- The hypotheses of each clause of QuiesceTimeoutResetsTheBlock are met. -/
theorem test_met_QuiesceTimeoutResetsTheBlock :
    (∃ (s : State) (p : Nat), s.canonical ∧ s.present p = true ∧ p ≠ 1 ∧ s.rst.blockWait = [p] ∧ s.rst.domainWait = [] ∧ s.idle p = false) :=
  ⟨{ node [] with rst := { bootPending := false, blockWait := [0x20] } }, 0x20, canonical_with_rst (s := node []) _ (node_canonical []), by decide +kernel⟩

/-- The hypotheses of each clause of FullResetsLoseTheConfiguration are met. -/
theorem test_met_FullResetsLoseTheConfiguration :
    (∃ (s : State), s.admits Requester.host 3) ∧
    (∃ (s : State) (q : Requester), s.canonical ∧ q ≠ Requester.host ∧ s.admits q 3) :=
  ⟨⟨node [], by delta State.admits; decide +kernel⟩,
    ⟨node [], .remote 5 4 false, node_canonical _, by delta State.admits; decide +kernel⟩⟩

/-- The hypotheses of each clause of NodeResetsHoldEveryPageButAonAndBkp are met. -/
theorem test_met_NodeResetsHoldEveryPageButAonAndBkp :
    (∃ (s : State), s.canonical ∧ s.alive 3 = true ∧ s.flag RST.CFG.sup_en = true ∧ s.flag (HDR.CTL.enable 4) = true ∧ s.rd PWR.STAT.state < 2 ∧ s.flag PWR.STAT.saving = false) ∧
    (∃ (s : State), s.canonical ∧ s.domainOn Domain.aon = true ∧ s.rd PWR.STAT.state < 2) ∧
    (∃ (s : State) (q : Requester), s.canonical ∧ s.admits q 3 ∧ q ≠ Requester.pair) ∧
    (∃ (s : State) (q : Requester), s.canonical ∧ s.admits q 3 ∧ q = Requester.pair ∧ s.flag RST.CFG.partner_en = true) ∧
    (∃ (s : State) (q : Requester), s.canonical ∧ s.admits q 3 ∧ q = Requester.pair ∧ s.flag RST.CFG.partner_en = false) :=
  ⟨⟨node [(HDR.CTL.enable 4, 1)], node_canonical _, by decide +kernel⟩,
    ⟨node [], node_canonical _, by decide +kernel⟩,
    ⟨node [], .host, node_canonical _, by delta State.admits; decide +kernel⟩,
    ⟨node [(RST.CFG.partner_en, 1)], .pair, node_canonical _, by delta State.admits; decide +kernel⟩,
    ⟨node [], .pair, node_canonical _, by delta State.admits; decide +kernel⟩⟩

/-- The hypotheses of each clause of ReleaseEndsOrAbandonsTheReset are met. -/
theorem test_met_ReleaseEndsOrAbandonsTheReset :
    (∃ (s : State), s.rst.asserted ≠ [] ∧ s.rst.sequenceHold = false) ∧
    (∃ (s : State), s.rst.asserted = []) ∧
    (∃ (s : State) (k : Nat), s.rst.releaseFrom = some k) :=
  ⟨⟨{ node [] with rst := { bootPending := false, asserted := [7] } }, by decide +kernel⟩,
    ⟨node [], by decide +kernel⟩,
    ⟨{ node [] with rst := { bootPending := false, releaseFrom := some 3 } }, 3, by decide +kernel⟩⟩

/-- The hypotheses of each clause of DomainResetIsMadeOrWaits are met. -/
theorem test_met_DomainResetIsMadeOrWaits :
    (∃ (s : State) (q : Requester) (n : Nat) (d : Domain), s.canonical ∧ s.admits q 3 ∧ Domain.ofCode (n % 16) = some d ∧ (d = Domain.aon ∨ d = Domain.bkp)) ∧
    (∃ (s : State) (q : Requester) (n : Nat) (d : Domain), s.canonical ∧ s.admits q 3 ∧ Domain.ofCode (n % 16) = some d ∧ d ≠ Domain.aon ∧ d ≠ Domain.bkp ∧ s.pagesOf d ≠ [] ∧ s.domainOn d = false) ∧
    (∃ (s : State) (q : Requester) (n : Nat) (d : Domain), s.canonical ∧ s.admits q 3 ∧ Domain.ofCode (n % 16) = some d ∧ d ≠ Domain.aon ∧ d ≠ Domain.bkp ∧ s.pagesOf d ≠ [] ∧ s.domainOn d = true) :=
  ⟨⟨node [], .host, 1, .aon, node_canonical _, by delta State.admits; decide +kernel⟩,
    ⟨{ node [] with pwr := { on := [.bkp, .aon, .core, .comm] } }, .host, 7, .cal, canonical_with_pwr (s := node []) _ (node_canonical []), by delta State.admits; decide +kernel⟩,
    ⟨node [], .host, 7, .cal, node_canonical _, by delta State.admits; decide +kernel⟩⟩

/-- The hypotheses of each clause of ApllUnlockHoldsTheBanks are met. -/
theorem test_met_ApllUnlockHoldsTheBanks :
    (∃ (s : State), s.domainOn Domain.aon = true ∧ s.rd PWR.STAT.state < 2 ∧ s.rst.apllLost = false) ∧
    (∃ (s : State), s.domainOn Domain.aon = true ∧ s.rd PWR.STAT.state < 2 ∧ s.rst.apllLost = true) :=
  ⟨⟨node [], by decide +kernel⟩,
    ⟨{ node [] with rst := { bootPending := false, apllLost := true } }, by decide +kernel⟩⟩

/-- The hypotheses of each clause of RailWarningsShowInTheStatus are met. -/
theorem test_met_RailWarningsShowInTheStatus :
    (∃ (s : State), s.canonical ∧ s.alive 1 = true ∧ s.flag PWR.STAT.vdda_low = false) ∧
    (∃ (s : State), s.canonical ∧ s.alive 1 = true ∧ s.flag PWR.STAT.vdda_low = true) ∧
    (∃ (s : State) (n : Nat) (d : Domain), s.canonical ∧ s.alive 1 = true ∧ Domain.ofCode n = some d ∧ d ≠ Domain.bkp ∧ d ≠ Domain.aon ∧ s.domainOn d = true) ∧
    (∃ (s : State), s.canonical ∧ s.alive 1 = true) ∧
    (∃ (s : State), s.canonical ∧ s.alive 1 = true) :=
  ⟨⟨node [], node_canonical _, by decide +kernel⟩,
    ⟨node [(PWR.STAT.vdda_low, 1)], node_canonical _, by decide +kernel⟩,
    ⟨node [], 7, .cal, node_canonical _, by decide +kernel⟩,
    ⟨node [], node_canonical _, by decide +kernel⟩,
    ⟨node [], node_canonical _, by decide +kernel⟩⟩

/-- The hypotheses of each clause of SupplySamplesAreKeptAndMeaned are met. -/
theorem test_met_SupplySamplesAreKeptAndMeaned :
    (∃ (s : State), s.canonical ∧ s.alive 1 = true) ∧
    (∃ (s : State), s.canonical ∧ s.alive 1 = true ∧ s.level = 4) :=
  ⟨⟨node [], node_canonical _, by decide +kernel⟩,
    ⟨node [(PWR.STAT.level, 4)], node_canonical _, by decide +kernel⟩⟩

/-- The hypotheses of each clause of GovernorCapsAboveItsLimit are met. -/
theorem test_met_GovernorCapsAboveItsLimit :
    (∃ (s : State), s.canonical ∧ s.alive 1 = true) :=
  ⟨node [], node_canonical _, by decide +kernel⟩

/-- The hypotheses of each clause of StowSavesAndRestores are met. -/
theorem test_met_StowSavesAndRestores :
    (∃ (s : State) (q : Requester), s.canonical ∧ s.admits q 1 ∧ s.flag PWR.STAT.saving = false ∧ s.rd PWR.STAT.state ≠ 3) ∧
    (∃ (s : State) (q : Requester), s.canonical ∧ s.admits q 1 ∧ s.flag PWR.STAT.saving = true) ∧
    (∃ (s : State), s.canonical ∧ s.flag PWR.STAT.saving = true ∧ s.dmaHolds = false) ∧
    (∃ (s : State), s.canonical ∧ s.mayRestore = true) :=
  ⟨⟨node [], .host, node_canonical _, by delta State.admits; decide +kernel⟩,
    ⟨node [(PWR.STAT.saving, 1)], .host, node_canonical _, by delta State.admits; decide +kernel⟩,
    ⟨node [(PWR.STAT.saving, 1)], node_canonical _, by decide +kernel⟩,
    ⟨{ node [(PWR.STAT.state, 3)] with pwr := { State.reset.pwr with woken := true } }, canonical_with_pwr (s := node [(PWR.STAT.state, 3)]) _ (node_canonical [(PWR.STAT.state, 3)]), by decide +kernel⟩⟩

/-- The hypotheses of each clause of SleepAndWake are met. -/
theorem test_met_SleepAndWake :
    (∃ (s : State), s.canonical ∧ s.alive 1 = true ∧ s.rd PWR.STAT.state = 0 ∧ s.nodeIdle = true) ∧
    (∃ (s : State), s.canonical ∧ s.alive 1 = true ∧ s.rd PWR.STAT.state < 2 ∧ s.nodeIdle = true ∧ s.mayNap = true) ∧
    (∃ (s : State), s.canonical ∧ s.alive 4 = true ∧ s.rd PWR.STAT.state = 2 ∧ s.flag (HDR.CTL.enable 4) = true) ∧
    (∃ (s : State) (n : Nat), s.canonical ∧ s.alive 4 = true ∧ s.wakeCause n = true ∧ s.rd PWR.STAT.state = 2) ∧
    (∃ (s : State) (n : Nat), s.canonical ∧ s.alive 4 = true ∧ n < s.variant.ports ∧ s.flag (BUS.WAKE.wake_en n) = true ∧ s.rd PWR.STAT.state = 2) ∧
    (∃ (s : State), s.canonical ∧ s.alive 2 = true ∧ s.rd PWR.STAT.state < 2) :=
  ⟨⟨node [], node_canonical _, by decide +kernel⟩,
    ⟨{ node [(LAP.CFG.nap_en, 1), (HDR.CTL.enable 4, 1)] with lap := { nextGrid := 100000 } }, canonical_with_lap (s := node [(LAP.CFG.nap_en, 1), (HDR.CTL.enable 4, 1)]) _ (node_canonical [(LAP.CFG.nap_en, 1), (HDR.CTL.enable 4, 1)]), by decide +kernel⟩,
    ⟨node [(PWR.STAT.state, 2), (HDR.CTL.enable 4, 1)], node_canonical _, by decide +kernel⟩,
    ⟨node [(PWR.STAT.state, 2)], 4, node_canonical _, by decide +kernel⟩,
    ⟨node [(PWR.STAT.state, 2), (BUS.WAKE.wake_en 3, 1)], 3, node_canonical _, by decide +kernel⟩,
    ⟨node [], node_canonical _, by decide +kernel⟩⟩

/-- The hypotheses of each clause of OperatingTimeSticks are met. -/
theorem test_met_OperatingTimeSticks :
    (∃ (s : State), s.canonical ∧ s.domainOn Domain.aon = true ∧ 2 ^ 40 - 2 ≤ s.optime) :=
  ⟨node [(PWR.OPTIME.ms, 2 ^ 40 - 2)], node_canonical _, by decide +kernel⟩

/-- The hypotheses of each clause of JtagInstructions are met. -/
theorem test_met_JtagInstructions :
    (∃ (s : State), s.domainOn Domain.aon = true) ∧
    (∃ (s : State), s.domainOn Domain.aon = true) ∧
    (∃ (s : State), s.domainOn Domain.aon = true) ∧
    (∃ (s : State), s.domainOn Domain.aon = true) ∧
    (∃ (s : State), s.domainOn Domain.aon = true) :=
  ⟨⟨node [], by decide +kernel⟩,
    ⟨node [], by decide +kernel⟩,
    ⟨node [], by decide +kernel⟩,
    ⟨node [], by decide +kernel⟩,
    ⟨node [], by decide +kernel⟩⟩

/-- The hypotheses of each clause of BoundariesCountTheLaps are met. -/
theorem test_met_BoundariesCountTheLaps :
    (∃ (s : State), s.canonical ∧ s.skipEvaluation.mayTakeLap = true) ∧
    (∃ (s : State), s.canonical ∧ s.skipEvaluation.mayTakeLap = false) ∧
    (∃ (s : State) (q : Requester), s.canonical ∧ s.admits q 4) ∧
    (∃ (s : State) (q : Requester), s.canonical ∧ s.admits q 4) :=
  ⟨⟨node [(HDR.CTL.enable 4, 1)], node_canonical _, by decide +kernel⟩,
    ⟨node [], node_canonical _, by decide +kernel⟩,
    ⟨node [], .host, node_canonical _, by delta State.admits; decide +kernel⟩,
    ⟨node [], .host, node_canonical _, by delta State.admits; decide +kernel⟩⟩

/-- The hypotheses of each clause of SlotsRunThroughTheirPhases are met. -/
theorem test_met_SlotsRunThroughTheirPhases :
    (∃ (s : State) (b : Nat) (k : Nat) (o : Slot), s.canonical ∧ b < 8 ∧ List.find? (fun (o : Slot) => o.ctx == k) (s.bank b).sched = some o ∧ s.working (8 + b) = true ∧ k ∈ (s.bank b).todo ∧ (∀ (r : SlotRun), r ∈ (s.bank b).running → r.lane ≠ o.lane ∧ r.ctx ≠ k) ∧ s.flag (AFE.CTX.enable b k) = true ∧ s.hasSpare b = true ∧ (s.bank b).bridgeTripped = false ∧ (o.source = 0 ∨ s.flag (AFE.MODE.listen b) = true ∨ s.flag (AFE.MODE.excown b) = true)) ∧
    (∃ (s : State) (b : Nat) (k : Nat) (r : SlotRun), s.canonical ∧ b < 8 ∧ s.slotRun b k = some r ∧ r.phase = SlotPhase.waiting) ∧
    (∃ (s : State) (b : Nat) (k : Nat) (r : SlotRun), s.canonical ∧ b < 8 ∧ s.slotRun b k = some r ∧ (r.phase = SlotPhase.lead ∨ r.phase = SlotPhase.main)) ∧
    (∃ (s : State) (b : Nat) (k : Nat) (r : SlotRun) (e : ConvEntry), s.canonical ∧ b < 8 ∧ s.slotRun b k = some r ∧ r.phase = SlotPhase.main ∧ r.settled = true ∧ r.entry = some e ∧ r.count + 1 < e.n) ∧
    (∃ (s : State) (b : Nat) (k : Nat) (r : SlotRun) (e : ConvEntry), s.canonical ∧ b < 8 ∧ s.slotRun b k = some r ∧ r.phase = SlotPhase.main ∧ r.settled = true ∧ r.entry = some e ∧ e.n ≤ r.count + 1) ∧
    (∃ (s : State) (b : Nat) (k : Nat) (r : SlotRun), s.canonical ∧ b < 8 ∧ s.slotRun b k = some r ∧ r.phase = SlotPhase.ended) ∧
    (∃ (s : State) (b : Nat) (k : Nat) (r : SlotRun), s.canonical ∧ b < 8 ∧ s.slotRun b k = some r ∧ r.phase ≠ SlotPhase.ended) :=
  ⟨⟨{ node [(AFE.CTX.enable 7 19, 1)] with afe := [(7, { sched := [⟨19, 3, 0, 500, 0⟩], todo := [19] })] }, 7, 19, ⟨19, 3, 0, 500, 0⟩, canonical_with_afe (s := node [(AFE.CTX.enable 7 19, 1)]) _ (node_canonical [(AFE.CTX.enable 7 19, 1)]), by decide +kernel⟩,
    ⟨{ node [] with afe := [(7, { running := [{ ctx := 19, lane := 3, source := 1, phase := .waiting }] })] }, 7, 19, { ctx := 19, lane := 3, source := 1, phase := .waiting }, canonical_with_afe (s := node []) _ (node_canonical []), by decide +kernel⟩,
    ⟨{ node [] with afe := [(7, { running := [{ ctx := 19, lane := 3, source := 1, phase := .lead }] })] }, 7, 19, { ctx := 19, lane := 3, source := 1, phase := .lead }, canonical_with_afe (s := node []) _ (node_canonical []), by decide +kernel⟩,
    ⟨{ node [] with afe := [(7, { running := [{ ctx := 19, lane := 3, source := 1, phase := .main, settled := true, entry := some { ch := 159, lap := 0, stime := 0, kind := .sampled, n := 4 } }] })] }, 7, 19, { ctx := 19, lane := 3, source := 1, phase := .main, settled := true, entry := some { ch := 159, lap := 0, stime := 0, kind := .sampled, n := 4 } }, { ch := 159, lap := 0, stime := 0, kind := .sampled, n := 4 }, canonical_with_afe (s := node []) _ (node_canonical []), by decide +kernel⟩,
    ⟨{ node [] with afe := [(7, { running := [{ ctx := 19, lane := 3, source := 1, phase := .main, settled := true, count := 3, entry := some { ch := 159, lap := 0, stime := 0, kind := .sampled, n := 4 } }] })] }, 7, 19, { ctx := 19, lane := 3, source := 1, phase := .main, settled := true, count := 3, entry := some { ch := 159, lap := 0, stime := 0, kind := .sampled, n := 4 } }, { ch := 159, lap := 0, stime := 0, kind := .sampled, n := 4 }, canonical_with_afe (s := node []) _ (node_canonical []), by decide +kernel⟩,
    ⟨{ node [] with afe := [(7, { running := [{ ctx := 19, lane := 3, source := 1, phase := .ended }] })] }, 7, 19, { ctx := 19, lane := 3, source := 1, phase := .ended }, canonical_with_afe (s := node []) _ (node_canonical []), by decide +kernel⟩,
    ⟨{ node [] with afe := [(7, { running := [{ ctx := 19, lane := 3, source := 1, phase := .main }] })] }, 7, 19, { ctx := 19, lane := 3, source := 1, phase := .main }, canonical_with_afe (s := node []) _ (node_canonical []), by decide +kernel⟩⟩

/-- The hypotheses of each clause of OpenWiresEndTheConversion are met. -/
theorem test_met_OpenWiresEndTheConversion :
    (∃ (s : State) (b : Nat) (k : Nat) (uv : Int) (r : SlotRun), s.canonical ∧ s.slotRun b k = some r ∧ s.flag (AFE.MODE.listen b) = false ∧ r.phase = SlotPhase.burnout ∧ 100000 < uv.natAbs) ∧
    (∃ (s : State) (b : Nat) (k : Nat) (uv : Int) (r : SlotRun), s.canonical ∧ s.slotRun b k = some r ∧ s.flag (AFE.MODE.listen b) = false ∧ r.phase = SlotPhase.burnout ∧ uv.natAbs ≤ 100000) ∧
    (∃ (s : State) (b : Nat) (k : Nat) (uv : Int) (neg : Bool) (r : SlotRun), s.canonical ∧ s.slotRun b k = some r ∧ s.flag (AFE.MODE.listen b) = false ∧ r.phase = SlotPhase.main ∧ r.settled = false ∧ 100000 < uv.natAbs ∧ (r.ctxField (AFE.CTX.type_ 0 0) = 4 ∨ r.ctxField (AFE.CTX.type_ 0 0) = 7 ∨ (r.ctxField (AFE.CTX.type_ 0 0) = 3 ∨ r.ctxField (AFE.CTX.type_ 0 0) = 6) ∧ neg = false)) ∧
    (∃ (s : State) (b : Nat) (k : Nat) (r : SlotRun), s.canonical ∧ s.slotRun b k = some r ∧ s.flag (AFE.MODE.listen b) = false ∧ (s.steering b r).source ≠ 0 ∧ r.phase ≠ SlotPhase.ended) :=
  ⟨⟨{ node [] with afe := [(7, { running := [{ ctx := 19, lane := 3, source := 1, phase := .burnout }] })] }, 7, 19, 100001, { ctx := 19, lane := 3, source := 1, phase := .burnout }, canonical_with_afe (s := node []) _ (node_canonical []), by decide +kernel⟩,
    ⟨{ node [] with afe := [(7, { running := [{ ctx := 19, lane := 3, source := 1, phase := .burnout }] })] }, 7, 19, 100000, { ctx := 19, lane := 3, source := 1, phase := .burnout }, canonical_with_afe (s := node []) _ (node_canonical []), by decide +kernel⟩,
    ⟨{ node [] with afe := [(7, { running := [{ ctx := 19, lane := 3, source := 1, phase := .main, words := (List.range 16).map fun i => if i = (AFE.CTX.type_ 0 0).addr / 4 % 16 then BitVec.ofNat 32 (4 * 2 ^ (AFE.CTX.type_ 0 0).lo) else 0#32 }] })] }, 7, 19, -100001, true, { ctx := 19, lane := 3, source := 1, phase := .main, words := (List.range 16).map fun i => if i = (AFE.CTX.type_ 0 0).addr / 4 % 16 then BitVec.ofNat 32 (4 * 2 ^ (AFE.CTX.type_ 0 0).lo) else 0#32 }, canonical_with_afe (s := node []) _ (node_canonical []), by decide +kernel⟩,
    ⟨{ node [] with afe := [(7, { running := [{ ctx := 19, lane := 3, source := 1, phase := .lead }] })] }, 7, 19, { ctx := 19, lane := 3, source := 1, phase := .lead }, canonical_with_afe (s := node []) _ (node_canonical []), by decide +kernel⟩⟩

/-- The hypotheses of each clause of ExcitationChangesRestartOrAbandon are met. -/
theorem test_met_ExcitationChangesRestartOrAbandon :
    (∃ (s : State) (b : Nat) (k : Nat) (absent : Bool) (r : SlotRun), s.canonical ∧ s.slotRun b k = some r ∧ (r.phase = SlotPhase.lead ∨ r.phase = SlotPhase.main) ∧ (r.source ≠ 0 ∨ r.ctxField (AFE.CTX.type_ 0 0) = 9) ∧ (s.flag (AFE.MODE.listen b) = false ∨ absent = false) ∧ r.restarts < 2) ∧
    (∃ (s : State) (b : Nat) (k : Nat) (absent : Bool) (r : SlotRun), s.canonical ∧ s.slotRun b k = some r ∧ (r.phase = SlotPhase.lead ∨ r.phase = SlotPhase.main) ∧ (r.source ≠ 0 ∨ r.ctxField (AFE.CTX.type_ 0 0) = 9) ∧ (s.flag (AFE.MODE.listen b) = false ∨ absent = false) ∧ 2 ≤ r.restarts) ∧
    (∃ (s : State) (b : Nat) (k : Nat) (absent : Bool) (r : SlotRun), s.canonical ∧ s.slotRun b k = some r ∧ (r.phase = SlotPhase.lead ∨ r.phase = SlotPhase.main) ∧ (r.source ≠ 0 ∨ r.ctxField (AFE.CTX.type_ 0 0) = 9) ∧ s.flag (AFE.MODE.listen b) = true ∧ absent = true) :=
  ⟨⟨{ node [] with afe := [(7, { running := [{ ctx := 19, lane := 3, source := 1, phase := .main, restarts := 1 }] })] }, 7, 19, false, { ctx := 19, lane := 3, source := 1, phase := .main, restarts := 1 }, canonical_with_afe (s := node []) _ (node_canonical []), by decide +kernel⟩,
    ⟨{ node [] with afe := [(7, { running := [{ ctx := 19, lane := 3, source := 1, phase := .lead, restarts := 2 }] })] }, 7, 19, false, { ctx := 19, lane := 3, source := 1, phase := .lead, restarts := 2 }, canonical_with_afe (s := node []) _ (node_canonical []), by decide +kernel⟩,
    ⟨{ node [(AFE.MODE.listen 7, 1)] with afe := [(7, { running := [{ ctx := 19, lane := 3, source := 1, phase := .lead }] })] }, 7, 19, true, { ctx := 19, lane := 3, source := 1, phase := .lead }, canonical_with_afe (s := node [(AFE.MODE.listen 7, 1)]) _ (node_canonical [(AFE.MODE.listen 7, 1)]), by decide +kernel⟩⟩

/-- The hypotheses of each clause of BankFaultsAreShown are met. -/
theorem test_met_BankFaultsAreShown :
    (∃ (s : State) (b : Nat), s.canonical ∧ s.bridgeOn b = true) ∧
    (∃ (s : State) (b : Nat) (p : Nat), s.canonical ∧ b < 8 ∧ s.alive (8 + b) = true ∧ p < 48) :=
  ⟨⟨node [(AFE.BANKCFG.bridge_en 7, 1)], 7, node_canonical _, by decide +kernel⟩,
    ⟨node [], 7, 47, node_canonical _, by decide +kernel⟩⟩

/-- The hypotheses of each clause of RecordsAreFormedFromTheQueue are met. -/
theorem test_met_RecordsAreFormedFromTheQueue :
    (∃ (s : State) (e : ConvEntry) (es : List ConvEntry), s.canonical ∧ s.alive 17 = true ∧ s.arith.queue = e :: es ∧ e.kind = EntryKind.test) ∧
    (∃ (s : State) (e : ConvEntry) (es : List ConvEntry), s.canonical ∧ s.alive 17 = true ∧ s.arith.queue = e :: es ∧ e.kind ≠ EntryKind.test ∧ e.ch < s.variant.channels ∧ s.terms.retiredCh = [] ∧ (∀ (o : ResultRec), o ∈ s.arith.owed → o.ch ≠ e.ch)) :=
  ⟨⟨{ node [] with arith := { queue := [{ ch := 159, lap := 0, stime := 0, kind := .test }] } }, { ch := 159, lap := 0, stime := 0, kind := .test }, [], canonical_with_arith (s := node []) _ (node_canonical []), by decide +kernel⟩,
    ⟨{ node [] with arith := { queue := [{ ch := 159, lap := 0, stime := 0, kind := .sampled, n := 4 }] } }, { ch := 159, lap := 0, stime := 0, kind := .sampled, n := 4 }, [], canonical_with_arith (s := node []) _ (node_canonical []), by decide +kernel⟩⟩

/-- The hypotheses of each clause of TestRecordsJoinTheQueue are met. -/
theorem test_met_TestRecordsJoinTheQueue :
    (∃ (s : State) (q : Requester) (ch : Nat), s.canonical ∧ s.admits q 17 ∧ s.rd ARITH.TESTCTL.busy = 0 ∧ ch < s.variant.channels) ∧
    (∃ (s : State) (q : Requester) (ch : Nat), s.canonical ∧ s.admits q 17 ∧ (s.rd ARITH.TESTCTL.busy = 1 ∨ s.variant.channels ≤ ch) ∧ ch < 1024) :=
  ⟨⟨node [], .host, 159, node_canonical _, by delta State.admits; decide +kernel⟩,
    ⟨node [(ARITH.TESTCTL.busy, 1)], .host, 160, node_canonical _, by delta State.admits; decide +kernel⟩⟩

/-- The hypotheses of each clause of ReferenceMonitorJudgesTheReferences are met. -/
theorem test_met_ReferenceMonitorJudgesTheReferences :
    (∃ (s : State), s.canonical ∧ s.cal.monitorRunning = true ∧ s.alive 16 = true) :=
  ⟨{ node [] with cal := { monitorRunning := true } }, canonical_with_cal (s := node []) _ (node_canonical []), by decide +kernel⟩

/-- The hypotheses of each clause of StrideConversionsAreKeptOrRepeated are met. -/
theorem test_met_StrideConversionsAreKeptOrRepeated :
    (∃ (s : State) (b : Nat), s.canonical ∧ b < 8 ∧ s.alive 16 = true ∧ s.alive (8 + b) = true ∧ (s.stride b).finishing = true) ∧
    (∃ (s : State) (b : Nat) (c : RefConv) (rest : List RefConv), s.canonical ∧ b < 8 ∧ s.alive 16 = true ∧ s.alive (8 + b) = true ∧ (s.stride b).convs = c :: rest ∧ (s.stride b).started = true ∧ (s.stride b).deferred = false ∧ (s.stride b).finishing = false ∧ s.rd (CAL.BANKSTAT.phase b) = 1) ∧
    (∃ (s : State) (b : Nat), s.canonical ∧ b < 8 ∧ s.overlapOn b (s.rd (CAL.BANKSTAT.target b)) = true ∧ (∀ (r : SlotRun), r ∈ (s.bank b).running → r.lane ≠ s.rd (CAL.BANKSTAT.target b)) ∧ (∀ (o : Slot), o ∈ (s.bank b).sched → o.lane = s.rd (CAL.BANKSTAT.target b) → ¬o.ctx ∈ (s.bank b).todo) ∧ ((s.stride b).repeatDue = true ∨ (s.stride b).compared = false ∧ (s.stride b).mainSeen = false) ∧ s.lap.timer + 1000 ≤ s.lap.nextGrid) :=
  ⟨⟨{ node [] with cal := { strides := [(7, { finishing := true })] } }, 7, canonical_with_cal (s := node []) _ (node_canonical []), by decide +kernel⟩,
    ⟨{ node [(CAL.BANKSTAT.phase 7, 1)] with cal := { strides := [(7, { started := true, convs := [.zero 0, .ref 0 1] })] } }, 7, .zero 0, [.ref 0 1], canonical_with_cal (s := node [(CAL.BANKSTAT.phase 7, 1)]) _ (node_canonical [(CAL.BANKSTAT.phase 7, 1)]), by decide +kernel⟩,
    ⟨{ node [(CAL.BANKSTAT.phase 7, 2), (CAL.BANKSTAT.target 7, 3)] with lap := { nextGrid := 1000 } }, 7, canonical_with_lap (s := node [(CAL.BANKSTAT.phase 7, 2), (CAL.BANKSTAT.target 7, 3)]) _ (node_canonical [(CAL.BANKSTAT.phase 7, 2), (CAL.BANKSTAT.target 7, 3)]), by decide +kernel⟩⟩

/-- The hypotheses of each clause of CalibrationCommandsWait are met. -/
theorem test_met_CalibrationCommandsWait :
    (∃ (s : State) (q : Requester), s.canonical ∧ s.admits q 16) ∧
    (∃ (s : State) (q : Requester), s.canonical ∧ s.admits q 16) ∧
    (∃ (s : State) (q : Requester), s.canonical ∧ s.admits q 16) ∧
    (∃ (s : State) (q : Requester), s.canonical ∧ s.admits q 16) :=
  ⟨⟨node [], .host, node_canonical _, by delta State.admits; decide +kernel⟩,
    ⟨node [], .host, node_canonical _, by delta State.admits; decide +kernel⟩,
    ⟨node [], .host, node_canonical _, by delta State.admits; decide +kernel⟩,
    ⟨node [], .host, node_canonical _, by delta State.admits; decide +kernel⟩⟩

/-- The hypotheses of each clause of FieldCalibrationRunsThroughItsStates are met. -/
theorem test_met_FieldCalibrationRunsThroughItsStates :
    (∃ (s : State) (q : Requester), s.canonical ∧ s.admits q 16 ∧ s.mayFieldCal q = true ∧ s.fcalRefusal = 0 ∧ s.rd CAL.FCALCFG.kind ≠ 0) ∧
    (∃ (s : State) (q : Requester), s.canonical ∧ s.admits q 16 ∧ s.mayFieldCal q = true ∧ s.fcalRefusal ≠ 0) ∧
    (∃ (s : State), s.canonical ∧ s.working 16 = true ∧ s.cal.fcal.running = true) ∧
    (∃ (s : State) (q : Requester), s.canonical ∧ s.admits q 16 ∧ s.cal.fcal.ready = true ∧ s.cal.fcal.storing = false) ∧
    (∃ (s : State) (q : Requester), s.canonical ∧ s.admits q 16) ∧
    (∃ (s : State) (c : Bool) (bs : List Byte) (rest : List (Bool × List Byte)), s.canonical ∧ s.cal.writes = (c, bs) :: rest ∧ s.storeRuns NvmOwner.calCopy = true ∧ bs.length ≤ 65536) ∧
    (∃ (s : State) (c : Bool) (bs : List Byte) (rest : List (Bool × List Byte)), s.canonical ∧ s.cal.writes = (c, bs) :: rest ∧ s.storeRuns NvmOwner.calCopy = true ∧ bs.length ≤ 65536) :=
  ⟨⟨node [(SYS.CFGOWNER.owner, 1), (CAL.FCALCFG.kind, 1), (CAL.FCALCFG.bank, 7)], .host, node_canonical _, by delta State.admits; decide +kernel⟩,
    ⟨node [(SYS.CFGOWNER.owner, 1), (CAL.FCALCFG.kind, 3), (CAL.FCALCFG.bank, 7)], .host, node_canonical _, by delta State.admits; decide +kernel⟩,
    ⟨{ node [(CAL.FCALSTAT.state, 1)] with cal := { fcal := { running := true } } }, canonical_with_cal (s := node [(CAL.FCALSTAT.state, 1)]) _ (node_canonical [(CAL.FCALSTAT.state, 1)]), by decide +kernel⟩,
    ⟨{ node [(CAL.FCALSTAT.state, 2)] with cal := { fcal := { ready := true } } }, .host, canonical_with_cal (s := node [(CAL.FCALSTAT.state, 2)]) _ (node_canonical [(CAL.FCALSTAT.state, 2)]), by delta State.admits; decide +kernel⟩,
    ⟨node [], .host, node_canonical _, by delta State.admits; decide +kernel⟩,
    ⟨{ node [] with cal := { writes := [(true, [])] }, nvm := { running := some ⟨.calCopy, 1, 0, 0, 0⟩ } }, true, [], [], canonical_with_cal_nvm (s := node []) _ _ (node_canonical []), by decide +kernel⟩,
    ⟨{ node [] with cal := { writes := [(true, [])] }, nvm := { running := some ⟨.calCopy, 1, 0, 0, 0⟩ } }, true, [], [], canonical_with_cal_nvm (s := node []) _ _ (node_canonical []), by decide +kernel⟩⟩

/-- The hypotheses of each clause of AlarmCommandsActOnTheirContext are met. -/
theorem test_met_AlarmCommandsActOnTheirContext :
    (∃ (s : State) (q : Requester) (k : Nat), s.canonical ∧ s.admits q 32 ∧ s.role ≠ 3 ∧ s.quiesced 32 = false ∧ k < s.variant.contexts ∧ s.rd (ALM.CTXA.enable k) = 1 ∧ (s.rd (ALM.CTXA.sf_unack k) = 1 ∨ s.rd (ALM.CTXA.layers k) = 0 ∧ (s.rd (ALM.CTXA.process k) = 1 ∨ s.rd (ALM.CTXA.process k) = 3)) ∧ (s.rd ALM.CMDARG.occ_chk = 1 → s.rd ALM.CMDARG.occ = s.rd (ALM.CTXA.occurrence k))) ∧
    (∃ (s : State) (q : Requester) (k : Nat), s.canonical ∧ s.admits q 32 ∧ s.role ≠ 3 ∧ s.quiesced 32 = false ∧ k < s.variant.contexts ∧ s.rd (ALM.CTXA.enable k) = 1 ∧ s.rd (ALM.CTXA.shelve_ok k) = 1 ∧ s.rd (ALM.CTXA.category k) ≠ 0 ∧ s.layer k 3 = false ∧ 1 ≤ s.rd ALM.CMDARG.duration ∧ s.rd ALM.CMDARG.duration ≤ 86400) ∧
    (∃ (s : State) (q : Requester) (k : Nat), s.canonical ∧ s.admits q 32 ∧ s.role ≠ 3 ∧ s.quiesced 32 = false ∧ k < s.variant.contexts ∧ s.rd (ALM.CTXA.enable k) = 1 ∧ s.layer k 2 = true) ∧
    (∃ (s : State) (q : Requester) (k : Nat), s.canonical ∧ s.admits q 32 ∧ s.role ≠ 3 ∧ s.quiesced 32 = false ∧ k < s.variant.contexts ∧ s.rd (ALM.CTXA.enable k) = 1 ∧ s.layer k 3 = false) ∧
    (∃ (s : State) (q : Requester) (k : Nat), s.canonical ∧ s.admits q 32 ∧ s.role ≠ 3 ∧ s.quiesced 32 = false ∧ k < s.variant.contexts ∧ s.rd (ALM.CTXA.enable k) = 1 ∧ s.layer k 3 = true) ∧
    (∃ (s : State) (q : Requester) (k : Nat), s.canonical ∧ s.admits q 32 ∧ s.role ≠ 3 ∧ s.quiesced 32 = false ∧ k < s.variant.contexts ∧ s.rd (ALM.CTXA.enable k) = 1 ∧ s.rd (ALM.CTXA.latched k) = 1 ∧ s.rd (ALM.CTXA.process k) ≠ 1 ∧ s.rd (ALM.CTXA.layers k) = 0) ∧
    (∃ (s : State) (q : Requester) (k : Nat), s.canonical ∧ s.admits q 32 ∧ s.role ≠ 3 ∧ s.quiesced 32 = false ∧ k < s.variant.contexts ∧ s.rd (ALM.CTXA.enable k) = 1 ∧ (s.rd (ALM.CTXA.false_starts k) ≠ 0 ∨ s.rd (ALM.CTXA.fs_ovf k) = 1)) :=
  ⟨⟨node [(ALM.CTXA.enable 1023, 1), (ALM.CTXA.process 1023, 3)], .host, 1023, node_canonical _, by delta State.admits; decide +kernel⟩,
    ⟨node [(ALM.CTXA.enable 1023, 1), (ALM.CTXA.shelve_ok 1023, 1), (ALM.CTXA.category 1023, 1), (ALM.CMDARG.duration, 86400)], .host, 1023, node_canonical _, by delta State.admits; decide +kernel⟩,
    ⟨node [(ALM.CTXA.enable 1023, 1), (ALM.CTXA.layers 1023, 4)], .host, 1023, node_canonical _, by delta State.admits; decide +kernel⟩,
    ⟨node [(ALM.CTXA.enable 1023, 1)], .host, 1023, node_canonical _, by delta State.admits; decide +kernel⟩,
    ⟨node [(ALM.CTXA.enable 1023, 1), (ALM.CTXA.layers 1023, 8)], .host, 1023, node_canonical _, by delta State.admits; decide +kernel⟩,
    ⟨node [(ALM.CTXA.enable 1023, 1), (ALM.CTXA.latched 1023, 1)], .host, 1023, node_canonical _, by delta State.admits; decide +kernel⟩,
    ⟨node [(ALM.CTXA.enable 1023, 1), (ALM.CTXA.fs_ovf 1023, 1)], .host, 1023, node_canonical _, by delta State.admits; decide +kernel⟩⟩

/-- The hypotheses of each clause of AlarmGroupCommandsActOnTheirMembers are met. -/
theorem test_met_AlarmGroupCommandsActOnTheirMembers :
    (∃ (s : State) (q : Requester) (g : Nat), s.canonical ∧ s.admits q 32 ∧ s.role ≠ 3 ∧ s.quiesced 32 = false ∧ s.alarm.changes = [] ∧ g < 64 ∧ s.rd (ALM.GRP.enable g) = 1) ∧
    (∃ (s : State) (q : Requester), s.canonical ∧ s.admits q 32 ∧ s.role ≠ 3 ∧ s.quiesced 32 = false ∧ s.alarm.changes = []) ∧
    (∃ (s : State) (q : Requester) (g : Nat), s.canonical ∧ s.admits q 32 ∧ s.role ≠ 3 ∧ s.quiesced 32 = false ∧ s.alarm.changes = [] ∧ g < 64 ∧ s.rd (ALM.GRP.enable g) = 1 ∧ s.pinReads (s.rd (ALM.GRP.ackin g)) true = true) ∧
    (∃ (s : State) (q : Requester) (g : Nat), s.canonical ∧ s.admits q 32 ∧ s.role ≠ 3 ∧ s.quiesced 32 = false ∧ s.alarm.changes = [] ∧ g < 64 ∧ s.rd (ALM.GRP.enable g) = 1 ∧ s.rd (ALM.GRP.silenced g) = 0 ∧ s.alarm.became = []) ∧
    (∃ (s : State) (q : Requester) (g : Nat), s.canonical ∧ s.admits q 32 ∧ s.role ≠ 3 ∧ s.quiesced 32 = false ∧ s.alarm.changes = [] ∧ g < 64 ∧ s.rd (ALM.GRP.enable g) = 1 ∧ s.rd (ALM.GRP.fo_valid g) = 1) ∧
    (∃ (s : State) (q : Requester), s.canonical ∧ s.admits q 32 ∧ s.role ≠ 3 ∧ s.quiesced 32 = false ∧ s.alarm.changes = []) :=
  ⟨⟨node [(ALM.GRP.enable 63, 1)], .host, 63, node_canonical _, by delta State.admits; decide +kernel⟩,
    ⟨node [], .host, node_canonical _, by delta State.admits; decide +kernel⟩,
    ⟨node [(ALM.GRP.enable 63, 1), (ALM.GRP.ackin 63, 47), (DIO.PIN.dir 47, 1), (JKT.STAT.link, 1), (DIO.VALID.valid 1, 65535), (DIO.STATE.state 1, 65535)], .host, 63, node_canonical _, by delta State.admits; decide +kernel⟩,
    ⟨node [(ALM.GRP.enable 63, 1)], .host, 63, node_canonical _, by delta State.admits; decide +kernel⟩,
    ⟨node [(ALM.GRP.enable 63, 1), (ALM.GRP.fo_valid 63, 1)], .host, 63, node_canonical _, by delta State.admits; decide +kernel⟩,
    ⟨node [], .host, node_canonical _, by delta State.admits; decide +kernel⟩⟩

/-- The hypotheses of each clause of EvaluationsEndAndTheQueueIsReleased are met. -/
theorem test_met_EvaluationsEndAndTheQueueIsReleased :
    (∃ (s : State), s.canonical ∧ s.lapDelivered = true ∧ s.rd PWR.STAT.saving = 0 ∧ s.pwr.restoring = false ∧ s.working 32 = true) ∧
    (∃ (s : State), s.canonical) ∧
    (∃ (s : State) (q : Requester), s.canonical ∧ s.admits q 32) :=
  ⟨⟨{ node [] with lap := { evalDone := false } }, canonical_with_lap (s := node []) _ (node_canonical []), by decide +kernel⟩,
    ⟨node [], node_canonical _⟩,
    ⟨node [], .host, node_canonical _, by delta State.admits; decide +kernel⟩⟩

/-- The hypotheses of each clause of CallCommandsFollowTheCall are met. -/
theorem test_met_CallCommandsFollowTheCall :
    (∃ (s : State) (q : Requester) (cp : Nat), s.canonical ∧ s.admits q 40 ∧ s.role ≠ 3 ∧ s.quiesced 40 = false ∧ cp < 32 ∧ bit ((({ s.awake with status := 0 } : State).callEvaluate).rd CALL.CPDRIVE.cp) cp = true ∧ 1 ≤ (({ s.awake with status := 0 } : State).callEvaluate).rd CALL.STATE.stage ∧ (({ s.awake with status := 0 } : State).callEvaluate).rd CALL.STATE.stage ≤ 3) ∧
    (∃ (s : State) (q : Requester) (cp : Nat) (e : Nat), s.canonical ∧ s.admits q 40 ∧ s.role ≠ 3 ∧ s.quiesced 40 = false ∧ cp < 32 ∧ e < 16 ∧ (({ s.awake with status := 0 } : State).callEvaluate).onRoster e = true ∧ (({ s.awake with status := 0 } : State).callEvaluate).rd CALL.STATE.duty ≠ e ∧ (({ s.awake with status := 0 } : State).callEvaluate).rd CALL.STATE.relay_pend = 0) ∧
    (∃ (s : State) (q : Requester) (cp : Nat), s.canonical ∧ s.admits q 40 ∧ s.role ≠ 3 ∧ s.quiesced 40 = false ∧ cp < 32 ∧ (({ s.awake with status := 0 } : State).callEvaluate).rd CALL.STATE.relay_pend = 1 ∧ cp ∈ (({ s.awake with status := 0 } : State).callEvaluate).cpsOf ((({ s.awake with status := 0 } : State).callEvaluate).rd CALL.STATE.relay_tgt)) ∧
    (∃ (s : State) (q : Requester), s.canonical ∧ s.admits q 40 ∧ s.role ≠ 3 ∧ s.quiesced 40 = false ∧ (({ s.awake with status := 0 } : State).callEvaluate).rd CALL.STATE.relay_pend = 1) ∧
    (∃ (s : State) (q : Requester), s.canonical ∧ s.admits q 40 ∧ s.role ≠ 3 ∧ s.quiesced 40 = false ∧ (({ s.awake with status := 0 } : State).callEvaluate).rd CALL.PERS.enable = 1 ∧ (({ s.awake with status := 0 } : State).callEvaluate).rd CALL.STATE.pers = 0) ∧
    (∃ (s : State) (q : Requester), s.canonical ∧ s.admits q 40 ∧ s.role ≠ 3 ∧ s.quiesced 40 = false ∧ (({ s.awake with status := 0 } : State).callEvaluate).rd CALL.STATE.pers ≠ 0) ∧
    (∃ (s : State) (q : Requester), s.canonical ∧ s.admits q 40 ∧ s.role ≠ 3 ∧ s.quiesced 40 = false ∧ (({ s.awake with status := 0 } : State).callEvaluate).rd CALL.STATE.pers ≠ 0) :=
  ⟨⟨node [(CALL.CP.enable 31, 1), (CALL.CP.public 31, 1), (CALL.STATE.stage, 1), (CALL.GRPMASK.groups 0, 1), (CALL.CFG.call_cat, 1), (ALM.CTXA.enable 0, 1), (ALM.CTXA.process 0, 1), (ALM.CTXA.category 0, 0), (ALM.CTXA.state 0, 1)], .host, 31, node_canonical _, by delta State.admits; decide +kernel⟩,
    ⟨node [(CALL.ROSTER.enable 15, 1), (CALL.ROSTER.available 15, 1)], .host, 31, 15, node_canonical _, by delta State.admits; decide +kernel⟩,
    ⟨node [(CALL.STATE.relay_pend, 1), (CALL.STATE.relay_tgt, 15), (CALL.ROSTER.cps 15, 2 ^ 31), (CALL.CP.enable 31, 1)], .host, 31, node_canonical _, by delta State.admits; decide +kernel⟩,
    ⟨node [(CALL.STATE.relay_pend, 1)], .host, node_canonical _, by delta State.admits; decide +kernel⟩,
    ⟨node [(CALL.PERS.enable, 1)], .host, node_canonical _, by delta State.admits; decide +kernel⟩,
    ⟨node [(CALL.PERS.enable, 1), (CALL.STATE.pers, 1)], .host, node_canonical _, by delta State.admits; decide +kernel⟩,
    ⟨node [(CALL.PERS.enable, 1), (CALL.STATE.pers, 1)], .host, node_canonical _, by delta State.admits; decide +kernel⟩⟩

/-- The hypotheses of each clause of CallPinsAndEventsAct are met. -/
theorem test_met_CallPinsAndEventsAct :
    (∃ (s : State) (cp : Nat), s.canonical ∧ s.alive 40 = true ∧ s.quiesced 40 = false ∧ cp < 32 ∧ s.rd (CALL.CP.enable cp) = 1 ∧ s.rd (CALL.CP.watch cp) = 0 ∧ s.pinReads (s.rd (CALL.CP.ack_pin cp)) true = true ∧ bit ((s.callEvaluate).rd CALL.CPDRIVE.cp) cp = true ∧ 1 ≤ (s.callEvaluate).rd CALL.STATE.stage ∧ (s.callEvaluate).rd CALL.STATE.stage ≤ 3) ∧
    (∃ (s : State) (up : Bool), s.canonical ∧ s.alive 40 = true ∧ s.quiesced 40 = false ∧ s.rd CALL.PERS.enable = 1 ∧ s.pinReads (s.rd CALL.PERS.arm_pin) up = true ∧ 0 < s.rd CALL.PERS.interval) ∧
    (∃ (s : State), s.canonical ∧ s.alive 40 = true ∧ s.quiesced 40 = false ∧ s.rd CALL.PERS.enable = 1 ∧ s.pinReads (s.rd CALL.PERS.reset_pin) true = true ∧ 0 < s.rd CALL.PERS.interval ∧ (s.callEvaluate).rd CALL.STATE.pers ≠ 0) ∧
    (∃ (s : State) (cp : Nat), s.canonical ∧ s.alive 40 = true ∧ s.quiesced 40 = false ∧ s.rd CALL.PERS.enable = 1 ∧ cp < 32 ∧ s.rd (CALL.CP.enable cp) = 1 ∧ s.rd (CALL.CP.watch cp) = 1 ∧ s.pinReads (s.rd (CALL.CP.ack_pin cp)) true = true ∧ 0 < s.rd CALL.PERS.interval ∧ (s.callEvaluate).rd CALL.STATE.pers ≠ 0) ∧
    (∃ (s : State), s.canonical ∧ s.working 40 = true ∧ s.rd CALL.STATE.relay_pend = 1) ∧
    (∃ (s : State) (cp : Nat), s.canonical ∧ s.alive 40 = true ∧ cp < 32 ∧ s.rd (CALL.CP.enable cp) = 1 ∧ (s.rd (CALL.CP.kind cp) = 1 ∨ s.rd (CALL.CP.kind cp) = 3 ∨ s.rd (CALL.CP.kind cp) = 2 ∧ s.rd (CALL.CP.out_pin cp) = 63)) ∧
    (∃ (s : State) (n : Nat), s.canonical ∧ s.alive 40 = true ∧ s.rd CALL.CFG.master = 1 ∧ (s.call.demands.get? n).isSome = true) ∧
    (∃ (s : State), s.canonical ∧ s.alive 40 = true ∧ s.rd CALL.CFG.master = 0 ∧ s.maySend 3 = true) :=
  ⟨⟨node [(CALL.CP.enable 31, 1), (CALL.CP.public 31, 1), (CALL.STATE.stage, 1), (CALL.GRPMASK.groups 0, 1), (CALL.CFG.call_cat, 1), (ALM.CTXA.enable 0, 1), (ALM.CTXA.process 0, 1), (ALM.CTXA.category 0, 0), (ALM.CTXA.state 0, 1), (CALL.CP.ack_pin 31, 47), (DIO.PIN.dir 47, 1), (JKT.STAT.link, 1), (DIO.VALID.valid 1, 65535), (DIO.STATE.state 1, 65535)], 31, node_canonical _, by decide +kernel⟩,
    ⟨node [(CALL.PERS.enable, 1), (CALL.PERS.arm_pin, 47), (DIO.PIN.dir 47, 1), (JKT.STAT.link, 1), (DIO.VALID.valid 1, 65535), (DIO.STATE.state 1, 65535)], true, node_canonical _, by decide +kernel⟩,
    ⟨node [(CALL.PERS.enable, 1), (CALL.STATE.pers, 1), (CALL.PERS.reset_pin, 47), (DIO.PIN.dir 47, 1), (JKT.STAT.link, 1), (DIO.VALID.valid 1, 65535), (DIO.STATE.state 1, 65535)], node_canonical _, by decide +kernel⟩,
    ⟨node [(CALL.PERS.enable, 1), (CALL.STATE.pers, 1), (CALL.PERS.interval, 5), (CALL.CP.enable 31, 1), (CALL.CP.watch 31, 1), (CALL.CP.ack_pin 31, 47), (DIO.PIN.dir 47, 1), (JKT.STAT.link, 1), (DIO.VALID.valid 1, 65535), (DIO.STATE.state 1, 65535)], 31, node_canonical _, by decide +kernel⟩,
    ⟨node [(CALL.STATE.relay_pend, 1)], node_canonical _, by decide +kernel⟩,
    ⟨node [(CALL.CP.enable 31, 1), (CALL.CP.kind 31, 1)], 31, node_canonical _, by decide +kernel⟩,
    ⟨{ node [] with call := { demands := [(5, (true, 0))] } }, 5, canonical_with_call (s := node []) _ (node_canonical []), by decide +kernel⟩,
    ⟨node [(CALL.CFG.master, 0)], node_canonical _, by decide +kernel⟩⟩

/-- The hypotheses of each clause of LoopChannelsSampleDriveAndProtect are met. -/
theorem test_met_LoopChannelsSampleDriveAndProtect :
    (∃ (s : State) (u : Nat), s.canonical ∧ u < 8 ∧ s.alive 24 = true ∧ u < s.variant.loops ∧ s.loopMode u ≠ 0) ∧
    (∃ (s : State) (u : Nat), s.canonical ∧ u < 8 ∧ s.alive 24 = true ∧ s.alive 17 = true ∧ s.quiesced 17 = false ∧ (s.loop u).winOpen = true) ∧
    (∃ (s : State) (u : Nat) (q : Requester), s.canonical ∧ u < 8 ∧ s.admits q 24) ∧
    (∃ (s : State) (u : Nat), s.canonical ∧ u < 8 ∧ s.alive 24 = true ∧ u < s.variant.loops) :=
  ⟨⟨node [(UIO.ENT.mode 7, 1)], 7, node_canonical _, by decide +kernel⟩,
    ⟨{ node [] with loops := [(7, { winOpen := true })] }, 7, canonical_with_loops (s := node []) _ (node_canonical []), by decide +kernel⟩,
    ⟨node [], 7, .host, node_canonical _, by delta State.admits; decide +kernel⟩,
    ⟨node [], 7, node_canonical _, by decide +kernel⟩⟩

/-- The hypotheses of each clause of DigitalPinsFollowTheirRules are met. -/
theorem test_met_DigitalPinsFollowTheirRules :
    (∃ (s : State) (p : Nat), s.canonical ∧ s.alive 25 = true ∧ p < s.variant.pins ∧ s.copyRd (DIO.PIN.dir p) = 1 ∧ 0 < s.copyRd (DIO.PIN.thr p) ∧ s.jkt.vstate ≠ 2) ∧
    (∃ (s : State) (p : Nat), s.canonical ∧ s.alive 25 = true ∧ p < s.variant.pins ∧ s.isOutput p = true ∧ (s.fieldPin p).driven = true ∧ bit s.jkt.commanded p = true) ∧
    (∃ (s : State) (p : Nat), s.canonical ∧ s.alive 25 = true ∧ p < s.variant.pins ∧ (s.fieldPin p).trip ≠ 0 ∧ p ∈ s.pinGroup p) ∧
    (∃ (s : State) (p : Nat), s.canonical ∧ s.alive 25 = true ∧ p < s.variant.pins ∧ s.isOutput p = true ∧ s.copyRd (DIO.PIN.wb_en (s.pinHead p)) = 1 ∧ s.expectedOf p = false ∧ s.holds = true) ∧
    (∃ (s : State) (p : Nat), s.canonical ∧ s.alive 25 = true ∧ p < s.variant.pins ∧ s.isOutput p = true ∧ bit s.jkt.commanded p = true ∧ s.copyRd (DIO.PIN.ol_en (s.pinHead p)) = 1) ∧
    (∃ (s : State) (p : Nat), s.canonical ∧ s.alive 25 = true ∧ p < s.variant.pins ∧ s.isOutput p = true ∧ s.expectedOf p = false ∧ s.linkLost = false ∧ s.nth DIO.EXTDRV.flag (s.pinHead p) = false) ∧
    (∃ (s : State) (p : Nat), s.canonical ∧ s.alive 25 = true ∧ p < s.variant.pins ∧ s.isOutput p = true ∧ s.paired = true ∧ s.rd PAIR.STAT.link = 1 ∧ s.linkLost = false ∧ s.nth DIO.SHORT.flag p = false ∧ s.nth DIO.THERM.flag p = false ∧ s.nth DIO.EXTDRV.flag (s.pinHead p) = false ∧ s.nth DIO.DISAGREE.flag (s.pinHead p) = false) ∧
    (∃ (s : State) (p : Nat), s.canonical ∧ s.alive 25 = true ∧ p < s.variant.pins) ∧
    (∃ (s : State) (p : Nat), s.canonical ∧ s.alive 25 = true ∧ p < s.variant.pins) ∧
    (∃ (s : State) (p : Nat), s.canonical ∧ s.alive 25 = true ∧ p < s.variant.pins) ∧
    (∃ (s : State) (p : Nat), s.canonical ∧ s.alive 25 = true ∧ p < s.variant.pins) ∧
    (∃ (s : State) (p : Nat) (q : Requester), s.canonical ∧ s.alive 25 = true ∧ p < s.variant.pins ∧ s.admits q 25) ∧
    (∃ (s : State) (p : Nat) (q : Requester), s.canonical ∧ s.alive 25 = true ∧ p < s.variant.pins ∧ s.admits q 25) ∧
    (∃ (s : State) (p : Nat), s.canonical ∧ s.alive 25 = true ∧ p < s.variant.pins) :=
  ⟨⟨{ node [] with jkt := { config := Sparse.set resetWord (Sparse.set resetWord [] (DIO.PIN.dir 47).addr (BitVec.ofNat 32 (putBits 0 (DIO.PIN.dir 47).lo 2 1))) (DIO.PIN.thr 47).addr (BitVec.ofNat 32 (putBits 0 (DIO.PIN.thr 47).lo 1 1)) } }, 47, canonical_with_jkt (s := node []) _ (node_canonical []), by decide +kernel⟩,
    ⟨{ node [(DIO.PIN.dir 47, 2)] with jkt := { pins := [(47, { driven := true })], commanded := 2 ^ 47 } }, 47, canonical_with_jkt (s := node [(DIO.PIN.dir 47, 2)]) _ (node_canonical [(DIO.PIN.dir 47, 2)]), by decide +kernel⟩,
    ⟨{ node [(DIO.PIN.dir 47, 2)] with jkt := { pins := [(47, { trip := 1 })] } }, 47, canonical_with_jkt (s := node [(DIO.PIN.dir 47, 2)]) _ (node_canonical [(DIO.PIN.dir 47, 2)]), by decide +kernel⟩,
    ⟨{ node [(DIO.PIN.dir 47, 2)] with jkt := { config := Sparse.set resetWord [] (DIO.PIN.wb_en 47).addr (BitVec.ofNat 32 (putBits 0 (DIO.PIN.wb_en 47).lo 1 1)) } }, 47, canonical_with_jkt (s := node [(DIO.PIN.dir 47, 2)]) _ (node_canonical [(DIO.PIN.dir 47, 2)]), by decide +kernel⟩,
    ⟨{ node [(DIO.PIN.dir 47, 2)] with jkt := { commanded := 2 ^ 47, config := Sparse.set resetWord [] (DIO.PIN.ol_en 47).addr (BitVec.ofNat 32 (putBits 0 (DIO.PIN.ol_en 47).lo 1 1)) } }, 47, canonical_with_jkt (s := node [(DIO.PIN.dir 47, 2)]) _ (node_canonical [(DIO.PIN.dir 47, 2)]), by decide +kernel⟩,
    ⟨node [(DIO.PIN.dir 47, 2), (JKT.STAT.link, 1)], 47, node_canonical _, by decide +kernel⟩,
    ⟨node [(DIO.PIN.dir 47, 2), (PAIR.CFG.enable, 1), (PAIR.STAT.role, 4), (PAIR.STAT.link, 1), (JKT.STAT.link, 1)], 47, node_canonical _, by decide +kernel⟩,
    ⟨node [], 47, node_canonical _, by decide +kernel⟩,
    ⟨node [], 47, node_canonical _, by decide +kernel⟩,
    ⟨node [], 47, node_canonical _, by decide +kernel⟩,
    ⟨node [], 47, node_canonical _, by decide +kernel⟩,
    ⟨node [], 47, .host, node_canonical _, by delta State.admits; decide +kernel⟩,
    ⟨node [], 47, .host, node_canonical _, by delta State.admits; decide +kernel⟩,
    ⟨node [], 47, node_canonical _, by decide +kernel⟩⟩

/-- The hypotheses of each clause of TheJacketCarriesCommandsAndStates are met. -/
theorem test_met_TheJacketCarriesCommandsAndStates :
    (∃ (s : State), s.canonical ∧ s.alive 26 = true) ∧
    (∃ (s : State), s.canonical ∧ s.alive 25 = true ∧ s.jkt.wire ≠ []) ∧
    (∃ (s : State), s.canonical ∧ s.alive 26 = true ∧ s.alive 25 = true) ∧
    (∃ (s : State), s.canonical ∧ s.alive 25 = true ∧ s.jkt.fHold = 0) ∧
    (∃ (s : State), s.canonical ∧ s.alive 25 = true ∧ s.jkt.fHold ≠ 0) ∧
    (∃ (s : State), s.canonical ∧ s.alive 26 = true) :=
  ⟨⟨node [], node_canonical _, by decide +kernel⟩,
    ⟨{ node [] with jkt := { wire := [0] } }, canonical_with_jkt (s := node []) _ (node_canonical []), by decide +kernel⟩,
    ⟨node [], node_canonical _, by decide +kernel⟩,
    ⟨node [], node_canonical _, by decide +kernel⟩,
    ⟨{ node [] with jkt := { fHold := 1 } }, canonical_with_jkt (s := node []) _ (node_canonical []), by decide +kernel⟩,
    ⟨node [], node_canonical _, by decide +kernel⟩⟩

/-- The hypotheses of each clause of FramesOfThePartnerTakeEffect are met. -/
theorem test_met_FramesOfThePartnerTakeEffect :
    (∃ (s : State) (lane : Nat) (b : List Byte), s.canonical ∧ lane < 2 ∧ s.alive 56 = true ∧ s.paired = true ∧ b.length = 40 ∧ field b 0 2 % 1024 = s.rd PAIR.CFG.partner) ∧
    (∃ (s : State) (lane : Nat) (b : List Byte), s.canonical ∧ lane < 2 ∧ s.alive 56 = true ∧ s.paired = true ∧ s.holds = false ∧ b.length = 16 ∧ s.pair.lapMark = none ∧ (s.rd PAIR.STAT.aligned = 1 → field b 0 4 ≠ s.lapCount)) ∧
    (∃ (s : State) (lane : Nat) (b : List Byte), s.canonical ∧ lane < 2 ∧ s.alive 56 = true ∧ s.paired = true ∧ b.length = 642 ∧ s.role ≠ 4) ∧
    (∃ (s : State) (lane : Nat) (b : List Byte), s.canonical ∧ lane < 2 ∧ s.alive 56 = true ∧ s.paired = true ∧ b.length = 12 ∧ s.role ≠ 4) ∧
    (∃ (s : State) (lane : Nat), s.canonical ∧ lane < 2 ∧ s.alive 56 = true ∧ s.paired = true) ∧
    (∃ (s : State) (lane : Nat) (b : List Byte) (e : Nat × Option Nat), s.canonical ∧ lane < 2 ∧ s.alive 56 = true ∧ s.paired = true ∧ b.length = 5 ∧ List.find? (fun (e : Nat × Option Nat) => e.fst == field b 0 1) s.pair.forwarded = some e) ∧
    (∃ (s : State) (lane : Nat) (b : List Byte), s.canonical ∧ lane < 2 ∧ s.alive 56 = true ∧ s.paired = true ∧ b.length = 11 ∧ s.role = 4 ∧ s.quiesced 56 = false ∧ s.alive 32 = true ∧ s.quiesced 32 = false ∧ field b 0 1 = 32) ∧
    (∃ (s : State) (lane : Nat) (b : List Byte), s.canonical ∧ lane < 2 ∧ s.alive 56 = true ∧ s.paired = true ∧ 7 ≤ b.length ∧ field b 0 1 = 0 ∧ s.quiesced 56 = false ∧ 0 < field b 5 2 ∧ field b 5 2 ≤ 1016) ∧
    (∃ (s : State) (lane : Nat) (bs : List Byte), s.canonical ∧ lane < 2 ∧ s.alive 56 = true ∧ s.paired = true ∧ bs.length = 8 + 4 * (shadowAddrs (field bs 0 2)).length ∧ s.shadowedPages.contains (field bs 0 2) = true ∧ s.alive (field bs 0 2) = true ∧ s.isOwner Requester.pair = true ∧ s.rd PAIR.CFG.follow = 1 ∧ s.committing (field bs 0 2) = false ∧ field bs 2 2 = 0) ∧
    (∃ (s : State) (lane : Nat), s.canonical ∧ lane < 2 ∧ s.alive 56 = true ∧ s.paired = true ∧ s.rd SYS.IMGSTAT.live_ok = 1 ∧ s.quiesced 56 = false ∧ s.alive 72 = true) ∧
    (∃ (s : State) (lane : Nat) (b : List Byte), s.canonical ∧ lane < 2 ∧ s.alive 56 = true ∧ s.paired = true ∧ 5 ≤ b.length ∧ s.straps.boot = 2 ∧ s.rd SYS.IMGSTAT.live_ok = 0 ∧ (joinBlocks (s.pair.image.filter (fun e => e.1 != field b 0 4) ++ [(field b 0 4, b.drop 4)]).length (s.pair.image.filter (fun e => e.1 != field b 0 4) ++ [(field b 0 4, b.drop 4)]) []).length < 256) :=
  ⟨⟨node [(PAIR.CFG.enable, 1), (PAIR.STAT.role, 3), (PAIR.CFG.partner, 5)], 1, bytesLE 40 5, node_canonical _, by decide +kernel⟩,
    ⟨node [(PAIR.CFG.enable, 1), (PAIR.STAT.role, 3), (PAIR.CFG.partner, 5)], 1, bytesLE 16 0, node_canonical _, by decide +kernel⟩,
    ⟨node [(PAIR.CFG.enable, 1), (PAIR.STAT.role, 3), (PAIR.CFG.partner, 5)], 1, bytesLE 642 0, node_canonical _, by decide +kernel⟩,
    ⟨node [(PAIR.CFG.enable, 1), (PAIR.STAT.role, 3), (PAIR.CFG.partner, 5)], 1, bytesLE 12 0, node_canonical _, by decide +kernel⟩,
    ⟨node [(PAIR.CFG.enable, 1), (PAIR.STAT.role, 3), (PAIR.CFG.partner, 5)], 1, node_canonical _, by decide +kernel⟩,
    ⟨{ node [(PAIR.CFG.enable, 1), (PAIR.STAT.role, 3), (PAIR.CFG.partner, 5)] with pair := { forwarded := [(0x20, none)] } }, 1, bytesLE 5 0x20, (0x20, none), canonical_with_pair (s := node [(PAIR.CFG.enable, 1), (PAIR.STAT.role, 3), (PAIR.CFG.partner, 5)]) _ (node_canonical [(PAIR.CFG.enable, 1), (PAIR.STAT.role, 3), (PAIR.CFG.partner, 5)]), by decide +kernel⟩,
    ⟨node [(PAIR.CFG.enable, 1), (PAIR.STAT.role, 4), (PAIR.CFG.partner, 5)], 1, bytesLE 11 0x20, node_canonical _, by decide +kernel⟩,
    ⟨node [(PAIR.CFG.enable, 1), (PAIR.STAT.role, 4), (PAIR.CFG.partner, 5)], 1, bytesLE 7 (1016 * 2 ^ 40), node_canonical _, by decide +kernel⟩,
    ⟨{ node [(PAIR.CFG.enable, 1), (PAIR.STAT.role, 4), (PAIR.CFG.partner, 5), (SYS.CFGOWNER.owner, 3), (PAIR.CFG.follow, 1)] with pair := { peer := some 5 } }, 1, bytesLE (8 + 4 * (shadowAddrs 4).length) 4, canonical_with_pair (s := node [(PAIR.CFG.enable, 1), (PAIR.STAT.role, 4), (PAIR.CFG.partner, 5), (SYS.CFGOWNER.owner, 3), (PAIR.CFG.follow, 1)]) _ (node_canonical [(PAIR.CFG.enable, 1), (PAIR.STAT.role, 4), (PAIR.CFG.partner, 5), (SYS.CFGOWNER.owner, 3), (PAIR.CFG.follow, 1)]), by decide +kernel⟩,
    ⟨node [(PAIR.CFG.enable, 1), (PAIR.STAT.role, 4), (PAIR.CFG.partner, 5), (SYS.IMGSTAT.live_ok, 1)], 1, node_canonical _, by decide +kernel⟩,
    ⟨{ node [(PAIR.CFG.enable, 1), (PAIR.STAT.role, 4), (PAIR.CFG.partner, 5)] with straps := { boot := 2 } }, 1, [0, 0, 0, 0, 7], canonical_with_straps (s := node [(PAIR.CFG.enable, 1), (PAIR.STAT.role, 4), (PAIR.CFG.partner, 5)]) _ (node_canonical [(PAIR.CFG.enable, 1), (PAIR.STAT.role, 4), (PAIR.CFG.partner, 5)]), by decide +kernel⟩⟩

/-- The hypotheses of each clause of TheMirrorGivesTheStandbyTheHoldersState are met. -/
theorem test_met_TheMirrorGivesTheStandbyTheHoldersState :
    (∃ (s : State) (u : State) (lane : Nat), u.canonical ∧ lane < 2 ∧ u.alive 56 = true ∧ u.working 56 = true ∧ u.working 32 = true ∧ u.working 40 = true ∧ (u.role = 2 ∨ u.role = 3) ∧ u.lap.evalDone = true ∧ u.lapCount = s.lapCount ∧ s.lapCount < 2 ^ 32 ∧ u.almEnabled = s.almEnabled ∧ u.almGroups = s.almGroups) :=
  ⟨node [(PAIR.CFG.enable, 1), (PAIR.STAT.role, 4), (PAIR.CFG.partner, 5)], (node [(PAIR.CFG.enable, 1), (PAIR.STAT.role, 3)]), 1, by delta State.canonical State.wordsCanonical State.memoryCanonical; decide +kernel⟩

/-- The hypotheses of each clause of FramesAreSentAndAwaited are met. -/
theorem test_met_FramesAreSentAndAwaited :
    (∃ (s : State), s.canonical ∧ s.alive 56 = true ∧ s.paired = true) ∧
    (∃ (s : State), s.canonical ∧ s.alive 56 = true ∧ s.role = 4 ∧ s.quiesced 56 = false) ∧
    (∃ (s : State), s.canonical ∧ s.alive 56 = true ∧ s.paired = true) ∧
    (∃ (s : State) (ch : Nat) (e : ConvEntry), s.canonical ∧ s.alive 56 = true ∧ List.find? (fun (e : ConvEntry) => e.ch == ch) s.pair.held = some e ∧ s.alive 17 = true ∧ s.quiesced 17 = false) ∧
    (∃ (s : State) (e : Nat × Option Nat) (rest : List (Nat × Option Nat)), s.canonical ∧ s.alive 56 = true ∧ s.pair.forwarded = e :: rest) ∧
    (∃ (s : State), s.canonical ∧ s.alive 56 = true ∧ s.role = 4 ∧ s.lap.evalDone = true) ∧
    (∃ (s : State) (l : Nat), s.canonical ∧ s.alive 56 = true ∧ l < 2 ∧ bit (s.rd PAIR.STAT.lanes) l = true) ∧
    (∃ (s : State), s.canonical ∧ s.alive 56 = true) ∧
    (∃ (s : State), s.canonical ∧ s.alive 56 = true) :=
  ⟨⟨node [(PAIR.CFG.enable, 1), (PAIR.STAT.role, 4), (PAIR.CFG.partner, 5)], node_canonical _, by decide +kernel⟩,
    ⟨node [(PAIR.CFG.enable, 1), (PAIR.STAT.role, 4), (PAIR.CFG.partner, 5)], node_canonical _, by decide +kernel⟩,
    ⟨node [(PAIR.CFG.enable, 1), (PAIR.STAT.role, 3), (PAIR.CFG.partner, 5)], node_canonical _, by decide +kernel⟩,
    ⟨{ node [(PAIR.CFG.enable, 1), (PAIR.STAT.role, 3), (PAIR.CFG.partner, 5)] with pair := { held := [{ ch := 159, lap := 0, stime := 0, kind := .sampled, n := 4 }] } }, 159, { ch := 159, lap := 0, stime := 0, kind := .sampled, n := 4 }, canonical_with_pair (s := node [(PAIR.CFG.enable, 1), (PAIR.STAT.role, 3), (PAIR.CFG.partner, 5)]) _ (node_canonical [(PAIR.CFG.enable, 1), (PAIR.STAT.role, 3), (PAIR.CFG.partner, 5)]), by decide +kernel⟩,
    ⟨{ node [(PAIR.CFG.enable, 1), (PAIR.STAT.role, 3), (PAIR.CFG.partner, 5)] with pair := { forwarded := [(0x20, none)] } }, (0x20, none), [], canonical_with_pair (s := node [(PAIR.CFG.enable, 1), (PAIR.STAT.role, 3), (PAIR.CFG.partner, 5)]) _ (node_canonical [(PAIR.CFG.enable, 1), (PAIR.STAT.role, 3), (PAIR.CFG.partner, 5)]), by decide +kernel⟩,
    ⟨node [(PAIR.CFG.enable, 1), (PAIR.STAT.role, 4), (PAIR.CFG.partner, 5)], node_canonical _, by decide +kernel⟩,
    ⟨node [(PAIR.CFG.enable, 1), (PAIR.STAT.role, 3), (PAIR.CFG.partner, 5), (PAIR.STAT.link, 1), (PAIR.STAT.lanes, 2)], 1, node_canonical _, by decide +kernel⟩,
    ⟨node [], node_canonical _, by decide +kernel⟩,
    ⟨node [], node_canonical _, by decide +kernel⟩⟩

/-- The hypotheses of each clause of TheBatonMovesByItsRules are met. -/
theorem test_met_TheBatonMovesByItsRules :
    (∃ (s : State), s.canonical ∧ s.alive 56 = true ∧ s.role = 1) ∧
    (∃ (s : State) (silent : Bool), s.canonical ∧ s.alive 56 = true ∧ (s.role = 2 ∨ s.role = 3) ∧ (silent = true ∨ s.usable 0 = false ∧ s.usable 1 = false) ∧ (s.rd PAIR.STAT.evidence = 2 ∨ s.rd PAIR.STAT.evidence = 0 ∧ silent = true) ∧ s.pair.silentUntil ≤ s.stime) ∧
    (∃ (s : State), s.canonical ∧ s.alive 56 = true ∧ (s.rd PAIR.STAT.evidence = 1 ∨ s.stime < s.pair.silentUntil ∨ s.role = 0 ∨ s.role = 1 ∨ s.role = 4)) ∧
    (∃ (s : State), s.canonical ∧ s.alive 56 = true ∧ s.paired = true ∧ s.rd PAIR.STAT.partner ≠ 2) ∧
    (∃ (s : State), s.canonical ∧ s.alive 56 = true ∧ s.role = 4 ∧ s.rd PAIR.STAT.link = 1 ∧ s.usable 0 = false ∧ s.usable 1 = false) ∧
    (∃ (s : State) (q : Requester), s.canonical ∧ s.alive 56 = true ∧ s.admits q 56 ∧ s.role = 4 ∧ s.pair.offered = none ∧ s.pair.pReady = true ∧ s.pair.pRole = 3 ∧ s.rd PAIR.STAT.link = 1) ∧
    (∃ (s : State) (q : Requester), s.canonical ∧ s.alive 56 = true ∧ s.admits q 56 ∧ s.role ≠ 4 ∧ s.role ≠ 3) ∧
    (∃ (s : State) (q : Requester), s.canonical ∧ s.alive 56 = true ∧ s.admits q 56 ∧ s.role = 3) ∧
    (∃ (s : State), s.canonical ∧ s.alive 56 = true ∧ s.role = 4 ∧ s.pair.offered.isSome = true ∧ s.pair.accepted = false) ∧
    (∃ (s : State), s.canonical ∧ s.alive 56 = true ∧ s.paired = true ∧ s.pair.handedAt.isSome = true) :=
  ⟨⟨node [(PAIR.CFG.enable, 1), (PAIR.STAT.role, 1), (PAIR.CFG.partner, 5)], node_canonical _, by decide +kernel⟩,
    ⟨node [(PAIR.CFG.enable, 1), (PAIR.STAT.role, 3), (PAIR.CFG.partner, 5), (PAIR.STAT.evidence, 2)], false, node_canonical _, by decide +kernel⟩,
    ⟨node [(PAIR.CFG.enable, 1), (PAIR.STAT.role, 4), (PAIR.CFG.partner, 5)], node_canonical _, by decide +kernel⟩,
    ⟨node [(PAIR.CFG.enable, 1), (PAIR.STAT.role, 4), (PAIR.CFG.partner, 5), (PAIR.STAT.partner, 1)], node_canonical _, by decide +kernel⟩,
    ⟨node [(PAIR.CFG.enable, 1), (PAIR.STAT.role, 4), (PAIR.CFG.partner, 5), (PAIR.STAT.link, 1)], node_canonical _, by decide +kernel⟩,
    ⟨{ node [(PAIR.CFG.enable, 1), (PAIR.STAT.role, 4), (PAIR.CFG.partner, 5), (PAIR.STAT.link, 1)] with pair := { pReady := true, pRole := 3 } }, .host, canonical_with_pair (s := node [(PAIR.CFG.enable, 1), (PAIR.STAT.role, 4), (PAIR.CFG.partner, 5), (PAIR.STAT.link, 1)]) _ (node_canonical [(PAIR.CFG.enable, 1), (PAIR.STAT.role, 4), (PAIR.CFG.partner, 5), (PAIR.STAT.link, 1)]), by delta State.admits; decide +kernel⟩,
    ⟨node [(PAIR.CFG.enable, 1), (PAIR.STAT.role, 2), (PAIR.CFG.partner, 5)], .host, node_canonical _, by delta State.admits; decide +kernel⟩,
    ⟨node [(PAIR.CFG.enable, 1), (PAIR.STAT.role, 3), (PAIR.CFG.partner, 5)], .host, node_canonical _, by delta State.admits; decide +kernel⟩,
    ⟨{ node [(PAIR.CFG.enable, 1), (PAIR.STAT.role, 4), (PAIR.CFG.partner, 5)] with pair := { offered := some 9 } }, canonical_with_pair (s := node [(PAIR.CFG.enable, 1), (PAIR.STAT.role, 4), (PAIR.CFG.partner, 5)]) _ (node_canonical [(PAIR.CFG.enable, 1), (PAIR.STAT.role, 4), (PAIR.CFG.partner, 5)]), by decide +kernel⟩,
    ⟨{ node [(PAIR.CFG.enable, 1), (PAIR.STAT.role, 3), (PAIR.CFG.partner, 5)] with pair := { handedAt := some 9 } }, canonical_with_pair (s := node [(PAIR.CFG.enable, 1), (PAIR.STAT.role, 3), (PAIR.CFG.partner, 5)]) _ (node_canonical [(PAIR.CFG.enable, 1), (PAIR.STAT.role, 3), (PAIR.CFG.partner, 5)]), by decide +kernel⟩⟩

/-- The hypotheses of each clause of TransmitBuffersRunThroughTheirStates are met. -/
theorem test_met_TransmitBuffersRunThroughTheirStates :
    (∃ (s : State) (n : Nat) (k : Nat) (q : Requester), s.canonical ∧ n < 4 ∧ k < 3 ∧ s.admits q (48 + n) ∧ bit (s.rd (BUS.CFG.txown n)) k = true ∧ s.rd (BUS.TXSTAT.state n k) ≠ 1 ∧ s.rd (BUS.TXSTAT.state n k) ≠ 2) ∧
    (∃ (s : State) (n : Nat) (k : Nat) (q : Requester), s.canonical ∧ n < 4 ∧ k < 3 ∧ s.admits q (48 + n) ∧ bit (s.rd (BUS.CFG.txown n)) k = true) ∧
    (∃ (s : State) (n : Nat) (k : Nat) (q : Requester), s.canonical ∧ n < 4 ∧ k < 3 ∧ s.admits q (48 + n) ∧ bit (s.rd (BUS.CFG.txown n)) k = false) ∧
    (∃ (s : State) (n : Nat) (k : Nat), s.canonical ∧ n < 4 ∧ k < 3 ∧ s.portActive n = true ∧ s.rd (BUS.CFG.mode n) ≠ 1 ∧ (s.port n).pausing = false ∧ s.onWire n = none ∧ s.txPick n = some k) ∧
    (∃ (s : State) (n : Nat) (k : Nat), s.canonical ∧ n < 4 ∧ k < 3 ∧ s.onWire n = some k ∧ bit (s.rd (BUS.CFG.txown n)) k = true ∧ s.msg.loaded.get? (3 * n + k) = none) ∧
    (∃ (s : State) (n : Nat) (k : Nat), s.canonical ∧ n < 4 ∧ k < 3 ∧ s.onWire n = some k ∧ bit (s.rd (BUS.CFG.txown n)) k = true ∧ s.msg.loaded.get? (3 * n + k) = none) ∧
    (∃ (s : State) (n : Nat) (k : Nat), s.canonical ∧ n < 4 ∧ k < 3 ∧ s.onWire n = some k ∧ bit (s.rd (BUS.CFG.txown n)) k = true ∧ s.msg.loaded.get? (3 * n + k) = none) ∧
    (∃ (s : State) (n : Nat) (k : Nat), s.canonical ∧ n < 4 ∧ k < 3) ∧
    (∃ (s : State) (n : Nat) (k : Nat) (q : Requester) (j : Nat), s.canonical ∧ n < 4 ∧ k < 3 ∧ s.admits q (48 + n) ∧ j < 2) :=
  ⟨⟨node [(BUS.CFG.txown 3, 7)], 3, 2, .host, node_canonical _, by delta State.admits; decide +kernel⟩,
    ⟨node [(BUS.CFG.txown 3, 7)], 3, 2, .host, node_canonical _, by delta State.admits; decide +kernel⟩,
    ⟨node [(BUS.CFG.txown 3, 0)], 3, 2, .host, node_canonical _, by delta State.admits; decide +kernel⟩,
    ⟨node [(BUS.STATE.state 3, 2), (BUS.TXSTAT.state 3 2, 1)], 3, 2, node_canonical _, by decide +kernel⟩,
    ⟨node [(BUS.CFG.txown 3, 7), (BUS.TXSTAT.state 3 2, 2)], 3, 2, node_canonical _, by decide +kernel⟩,
    ⟨node [(BUS.CFG.txown 3, 7), (BUS.TXSTAT.state 3 2, 2)], 3, 2, node_canonical _, by decide +kernel⟩,
    ⟨node [(BUS.CFG.txown 3, 7), (BUS.TXSTAT.state 3 2, 2)], 3, 2, node_canonical _, by decide +kernel⟩,
    ⟨node [], 3, 2, node_canonical _, by decide +kernel⟩,
    ⟨node [], 3, 2, .host, 1, node_canonical _, by delta State.admits; decide +kernel⟩⟩

/-- The hypotheses of each clause of PortsReceiveAndConfineErrors are met. -/
theorem test_met_PortsReceiveAndConfineErrors :
    (∃ (s : State) (n : Nat) (age : Nat), s.canonical ∧ n < 4 ∧ (s.portActive n = true ∨ s.alive (48 + n) = true ∧ ∃ (u : Nat), (s.port n).left = some u ∧ s.stime - age < u) ∧ (s.atStart (List.find? (fun (e : Nat × WordMap) => decide (s.stime - age < e.fst)) (s.port n).before)).rd (BUS.CFG.mode n) ≠ 2) ∧
    (∃ (s : State) (n : Nat), s.canonical ∧ n < 4 ∧ s.portActive n = true ∧ s.rd (BUS.CFG.pex n) = 0) ∧
    (∃ (s : State) (n : Nat), s.canonical ∧ n < 4 ∧ s.portActive n = true ∧ s.rd (BUS.CFG.pex n) = 0) ∧
    (∃ (s : State) (n : Nat), s.canonical ∧ n < 4 ∧ s.portActive n = true ∧ s.rd (BUS.CFG.pex n) = 0) ∧
    (∃ (s : State) (n : Nat), s.canonical ∧ n < 4 ∧ s.portActive n = true ∧ s.rd (BUS.CFG.pex n) = 0) ∧
    (∃ (s : State) (n : Nat), s.canonical ∧ n < 4 ∧ s.portActive n = true ∧ s.rd (BUS.CFG.pex n) = 0) ∧
    (∃ (s : State) (n : Nat), s.canonical ∧ n < 4 ∧ s.portActive n = true ∧ s.rd (BUS.CFG.pex n) = 0) ∧
    (∃ (s : State) (n : Nat), s.canonical ∧ n < 4 ∧ s.portActive n = true ∧ s.rd (BUS.CFG.pex n) = 0) ∧
    (∃ (s : State) (n : Nat), s.canonical ∧ n < 4 ∧ s.portActive n = true ∧ s.rd (BUS.CFG.pex n) = 0) ∧
    (∃ (s : State) (n : Nat) (q : Requester), s.canonical ∧ n < 4 ∧ s.admits q (48 + n)) ∧
    (∃ (s : State) (n : Nat), s.canonical ∧ n < 4 ∧ s.alive (48 + n) = true ∧ s.portMode n = 5) ∧
    (∃ (s : State) (n : Nat), s.canonical ∧ n < 4 ∧ s.alive (48 + n) = true ∧ s.portMode n = 1) :=
  ⟨⟨node [(BUS.STATE.state 3, 2)], 3, 0, node_canonical _, by decide +kernel⟩,
    ⟨node [(BUS.STATE.state 3, 2), (BUS.CFG.pex 3, 0)], 3, node_canonical _, by decide +kernel⟩,
    ⟨node [(BUS.STATE.state 3, 2), (BUS.CFG.pex 3, 0)], 3, node_canonical _, by decide +kernel⟩,
    ⟨node [(BUS.STATE.state 3, 2), (BUS.CFG.pex 3, 0)], 3, node_canonical _, by decide +kernel⟩,
    ⟨node [(BUS.STATE.state 3, 2), (BUS.CFG.pex 3, 0)], 3, node_canonical _, by decide +kernel⟩,
    ⟨node [(BUS.STATE.state 3, 2), (BUS.CFG.pex 3, 0)], 3, node_canonical _, by decide +kernel⟩,
    ⟨node [(BUS.STATE.state 3, 2), (BUS.CFG.pex 3, 0)], 3, node_canonical _, by decide +kernel⟩,
    ⟨node [(BUS.STATE.state 3, 2), (BUS.CFG.pex 3, 0)], 3, node_canonical _, by decide +kernel⟩,
    ⟨node [(BUS.STATE.state 3, 2), (BUS.CFG.pex 3, 0)], 3, node_canonical _, by decide +kernel⟩,
    ⟨node [], 3, .host, node_canonical _, by delta State.admits; decide +kernel⟩,
    ⟨node [(BUS.STATE.state 3, 5)], 3, node_canonical _, by decide +kernel⟩,
    ⟨node [(BUS.STATE.state 3, 1)], 3, node_canonical _, by decide +kernel⟩⟩

/-- The hypotheses of each clause of MessagesAreFormedOrWait are met. -/
theorem test_met_MessagesAreFormedOrWait :
    (∃ (s : State), s.canonical ∧ s.msg.records = [] ∧ s.working 52 = true ∧ s.alive 32 = true ∧ s.alive 64 = true ∧ s.rd ALM.CFG.consumer = 0 ∧ s.nqOccupancy ≠ 0 ∧ s.holds = false) ∧
    (∃ (s : State), s.canonical ∧ s.msg.records = [] ∧ s.working 52 = true ∧ s.alive 32 = true ∧ s.alive 64 = true ∧ s.rd ALM.CFG.consumer = 0 ∧ s.nqOccupancy ≠ 0 ∧ s.maySend 1 = true ∧ Option.any (fun (e : List Byte) => s.fvWaits (alarmClass e)) s.oldestEntry.fst = true) ∧
    (∃ (s : State), s.canonical ∧ s.msg.records = [] ∧ s.working 52 = true ∧ s.alive 32 = true ∧ s.alive 64 = true ∧ s.rd ALM.CFG.consumer = 0 ∧ s.nqOccupancy ≠ 0 ∧ s.maySend 1 = true ∧ s.portsOf 1 = [] ∧ Option.any (fun (e : List Byte) => s.fvWaits (alarmClass e)) s.oldestEntry.fst = false) ∧
    (∃ (s : State), s.canonical ∧ s.msg.records = [] ∧ s.maySend 26 = true) ∧
    (∃ (s : State), s.canonical ∧ s.msg.records = [] ∧ s.alive 56 = true ∧ s.paired = true ∧ s.maySend 25 = true) ∧
    (∃ (s : State), s.canonical ∧ s.msg.records = [] ∧ s.alive 40 = true ∧ s.rd CALL.CFG.master = 1 ∧ s.rd CALL.STATE.stage ≠ 0 ∧ s.maySend 4 = true) ∧
    (∃ (s : State), s.canonical ∧ s.msg.records = [] ∧ s.sendsTime = true) ∧
    (∃ (s : State), s.canonical ∧ s.msg.records = [] ∧ s.sendsTime = true ∧ s.tsync.sent ≠ []) ∧
    (∃ (s : State) (n : Nat) (p : Partial), s.canonical ∧ s.msg.records = [] ∧ List.find? (fun (p : Partial) => p.source == n) s.msg.partials = some p) ∧
    (∃ (s : State), s.canonical ∧ s.msg.records = [] ∧ s.alive 53 = true ∧ (s.rd TSYNC.STATE.state = 1 ∨ s.rd TSYNC.STATE.state = 2 ∨ s.rd TSYNC.STATE.state = 3)) ∧
    (∃ (s : State) (q : Requester), s.canonical ∧ s.msg.records = [] ∧ s.admits q 53) :=
  ⟨⟨node [(PAIR.CFG.enable, 1), (PAIR.STAT.role, 3), (PAIR.CFG.partner, 5), (ALM.NQPROD.index, 1)], node_canonical _, by decide +kernel⟩,
    ⟨{ node [(ALM.NQPROD.index, 1)] with msg := { waiting := [⟨0, 1, 0, [], []⟩] }, sec := { slots := [(0, List.replicate 32 0)] } }, canonical_with_msg_sec (s := node [(ALM.NQPROD.index, 1)]) _ _ (node_canonical [(ALM.NQPROD.index, 1)]), by decide +kernel⟩,
    ⟨node [(ALM.NQPROD.index, 1)], node_canonical _, by decide +kernel⟩,
    ⟨node [], node_canonical _, by decide +kernel⟩,
    ⟨node [(PAIR.CFG.enable, 1), (PAIR.STAT.role, 3), (PAIR.CFG.partner, 5)], node_canonical _, by decide +kernel⟩,
    ⟨node [(CALL.STATE.stage, 1)], node_canonical _, by decide +kernel⟩,
    ⟨{ node [(TSYNC.CFG.role, 1)] with tsync := { started := true } }, canonical_with_tsync (s := node [(TSYNC.CFG.role, 1)]) _ (node_canonical [(TSYNC.CFG.role, 1)]), by decide +kernel⟩,
    ⟨{ node [(TSYNC.CFG.role, 1)] with tsync := { started := true, sent := [(0, (1, 2))] } }, canonical_with_tsync (s := node [(TSYNC.CFG.role, 1)]) _ (node_canonical [(TSYNC.CFG.role, 1)]), by decide +kernel⟩,
    ⟨{ node [] with msg := { partials := [{ source := 5, tag := 9 }] } }, 5, { source := 5, tag := 9 }, canonical_with_msg (s := node []) _ (node_canonical []), by decide +kernel⟩,
    ⟨node [(TSYNC.STATE.state, 2)], node_canonical _, by decide +kernel⟩,
    ⟨node [], .host, node_canonical _, by delta State.admits; decide +kernel⟩⟩

/-- The hypotheses of each clause of AcceptedMessagesAct are met. -/
theorem test_met_AcceptedMessagesAct :
    (∃ (s : State) (n : Nat) (j : Nat), s.canonical ∧ n < 4 ∧ j < 2 ∧ s.working 52 = true ∧ s.alive (48 + n) = true ∧ s.alive 64 = true ∧ s.rd (BUS.RXQ.consumer n j) = 0 ∧ s.rxOccupancy n j ≠ 0) ∧
    (∃ (s : State) (a : Accepted) (rest : List Accepted), s.canonical ∧ s.msg.accepted = a :: rest ∧ s.working 52 = true ∧ tmlType a.id < 128 ∧ tmlType a.id = 7 ∧ commandBlock a = 0 ∧ s.alive 32 = true ∧ s.quiesced 32 = false ∧ s.role ≠ 3 ∧ field a.body 4 4 / 2 ^ 24 = 161) ∧
    (∃ (s : State) (a : Accepted) (rest : List Accepted), s.canonical ∧ s.msg.accepted = a :: rest ∧ s.working 52 = true ∧ tmlType a.id < 128 ∧ tmlType a.id = 7 ∧ 3 < commandBlock a) ∧
    (∃ (s : State) (a : Accepted) (rest : List Accepted), s.canonical ∧ s.msg.accepted = a :: rest ∧ s.working 52 = true ∧ tmlType a.id < 128 ∧ tmlType a.id = 6 ∧ 1 ≤ field a.body 3 1 ∧ field a.body 3 1 ≤ 4 ∧ s.alive 40 = true ∧ s.quiesced 40 = false ∧ s.role ≠ 3) ∧
    (∃ (s : State) (a : Accepted) (rest : List Accepted), s.canonical ∧ s.msg.accepted = a :: rest ∧ s.working 52 = true ∧ tmlType a.id < 128 ∧ tmlType a.id = 5 ∧ s.alive 40 = true) ∧
    (∃ (s : State) (a : Accepted) (rest : List Accepted), s.canonical ∧ s.msg.accepted = a :: rest ∧ s.working 52 = true ∧ tmlType a.id < 128 ∧ tmlType a.id = 3 ∧ s.alive 40 = true ∧ s.rd CALL.CFG.master = 1) ∧
    (∃ (s : State) (a : Accepted) (rest : List Accepted), s.canonical ∧ s.msg.accepted = a :: rest ∧ s.working 52 = true ∧ tmlType a.id < 128 ∧ tmlType a.id = 24 ∧ s.alive 56 = true ∧ s.paired = true ∧ tmlSource a.id = s.rd PAIR.CFG.partner) ∧
    (∃ (s : State) (a : Accepted) (rest : List Accepted), s.canonical ∧ s.msg.accepted = a :: rest ∧ s.working 52 = true ∧ tmlType a.id < 128 ∧ tmlType a.id = 32 ∧ a.id % 128 = 0 ∧ bit a.id 7 = true ∧ s.partial? (tmlSource a.id) (field a.body 0 2) = none) ∧
    (∃ (s : State) (a : Accepted) (rest : List Accepted), s.canonical ∧ s.msg.accepted = a :: rest ∧ s.working 52 = true ∧ tmlType a.id < 128 ∧ tmlType a.id = 32 ∧ a.id % 128 = 0 ∧ bit a.id 7 = false ∧ field a.body 5 1 = 1 ∧ 4 ≤ field a.body 10 2 ∧ field a.body 10 2 ≤ 48 ∧ s.msg.records = [] ∧ s.maySend 33 = true ∧ (s.macKey 0).isSome = true) ∧
    (∃ (s : State) (a : Accepted) (rest : List Accepted), s.canonical ∧ s.msg.accepted = a :: rest ∧ s.working 52 = true ∧ tmlType a.id < 128 ∧ tmlType a.id = 16 ∧ s.alive 53 = true ∧ s.quiesced 53 = false ∧ s.rd TSYNC.STATE.state ≠ 4) ∧
    (∃ (s : State) (a : Accepted) (rest : List Accepted) (p : Nat × Nat), s.canonical ∧ s.msg.accepted = a :: rest ∧ s.working 52 = true ∧ tmlType a.id < 128 ∧ tmlType a.id = 17 ∧ s.alive 53 = true ∧ s.quiesced 53 = false ∧ s.rd TSYNC.STATE.state ≠ 4 ∧ field a.body 2 1 ≤ 2 ∧ field a.body 0 1 % 2 = s.rd TSYNC.CFG.pref ∧ s.tsync.syncs.get? (field a.body 0 1 % 2) = some p ∧ p.fst = field a.body 1 1) :=
  ⟨⟨node [(BUS.RXQ.consumer 3 1, 0), (BUS.RXPROD.index 3 1, 1)], 3, 1, node_canonical _, by decide +kernel⟩,
    ⟨{ node [] with msg := { accepted := [{ port := 0, id := 5 * 2 ^ 16 + 7 * 256 + 0, body := bytesLE 12 (0xA1 * 2 ^ 56), stime := 0 }] } }, { port := 0, id := 5 * 2 ^ 16 + 7 * 256 + 0, body := bytesLE 12 (0xA1 * 2 ^ 56), stime := 0 }, [], canonical_with_msg (s := node []) _ (node_canonical []), by decide +kernel⟩,
    ⟨{ node [] with msg := { accepted := [{ port := 0, id := 5 * 2 ^ 16 + 7 * 256 + 0, body := bytesLE 12 (4 * 2 ^ 24), stime := 0 }] } }, { port := 0, id := 5 * 2 ^ 16 + 7 * 256 + 0, body := bytesLE 12 (4 * 2 ^ 24), stime := 0 }, [], canonical_with_msg (s := node []) _ (node_canonical []), by decide +kernel⟩,
    ⟨{ node [] with msg := { accepted := [{ port := 0, id := 5 * 2 ^ 16 + 6 * 256 + 0, body := bytesLE 12 (4 * 2 ^ 24), stime := 0 }] } }, { port := 0, id := 5 * 2 ^ 16 + 6 * 256 + 0, body := bytesLE 12 (4 * 2 ^ 24), stime := 0 }, [], canonical_with_msg (s := node []) _ (node_canonical []), by decide +kernel⟩,
    ⟨{ node [] with msg := { accepted := [{ port := 0, id := 5 * 2 ^ 16 + 5 * 256 + 0, body := [], stime := 0 }] } }, { port := 0, id := 5 * 2 ^ 16 + 5 * 256 + 0, body := [], stime := 0 }, [], canonical_with_msg (s := node []) _ (node_canonical []), by decide +kernel⟩,
    ⟨{ node [] with msg := { accepted := [{ port := 0, id := 5 * 2 ^ 16 + 3 * 256 + 0, body := [], stime := 0 }] } }, { port := 0, id := 5 * 2 ^ 16 + 3 * 256 + 0, body := [], stime := 0 }, [], canonical_with_msg (s := node []) _ (node_canonical []), by decide +kernel⟩,
    ⟨{ node [(PAIR.CFG.enable, 1), (PAIR.STAT.role, 4), (PAIR.CFG.partner, 5)] with msg := { accepted := [{ port := 0, id := 5 * 2 ^ 16 + 24 * 256 + 0, body := [], stime := 0 }] } }, { port := 0, id := 5 * 2 ^ 16 + 24 * 256 + 0, body := [], stime := 0 }, [], canonical_with_msg (s := node [(PAIR.CFG.enable, 1), (PAIR.STAT.role, 4), (PAIR.CFG.partner, 5)]) _ (node_canonical [(PAIR.CFG.enable, 1), (PAIR.STAT.role, 4), (PAIR.CFG.partner, 5)]), by decide +kernel⟩,
    ⟨{ node [] with msg := { accepted := [{ port := 0, id := 5 * 2 ^ 16 + 32 * 256 + 128, body := bytesLE 16 9, stime := 0 }] } }, { port := 0, id := 5 * 2 ^ 16 + 32 * 256 + 128, body := bytesLE 16 9, stime := 0 }, [], canonical_with_msg (s := node []) _ (node_canonical []), by decide +kernel⟩,
    ⟨{ node [] with msg := { accepted := [{ port := 0, id := 5 * 2 ^ 16 + 32 * 256 + 0, body := bytesLE 16 (1 * 2 ^ 40 + 48 * 2 ^ 80), stime := 0 }] }, sec := { slots := [(0, List.replicate 32 0)] } }, { port := 0, id := 5 * 2 ^ 16 + 32 * 256 + 0, body := bytesLE 16 (1 * 2 ^ 40 + 48 * 2 ^ 80), stime := 0 }, [], canonical_with_msg_sec (s := node []) _ _ (node_canonical []), by decide +kernel⟩,
    ⟨{ node [] with msg := { accepted := [{ port := 0, id := 5 * 2 ^ 16 + 16 * 256 + 0, body := [], stime := 0 }] } }, { port := 0, id := 5 * 2 ^ 16 + 16 * 256 + 0, body := [], stime := 0 }, [], canonical_with_msg (s := node []) _ (node_canonical []), by decide +kernel⟩,
    ⟨{ node [] with msg := { accepted := [{ port := 0, id := 5 * 2 ^ 16 + 17 * 256 + 0, body := [], stime := 0 }] }, tsync := { syncs := [(0, (0, 0))] } }, { port := 0, id := 5 * 2 ^ 16 + 17 * 256 + 0, body := [], stime := 0 }, [], (0, 0), canonical_with_msg_tsync (s := node []) _ _ (node_canonical []), by decide +kernel⟩⟩

/-- The hypotheses of each clause of MemoryStreamsAndTheStoreAct are met. -/
theorem test_met_MemoryStreamsAndTheStoreAct :
    (∃ (s : State), s.canonical ∧ s.rd MEM.INFO.init_done = 1) ∧
    (∃ (s : State), s.canonical ∧ s.alive 64 = true ∧ s.rd MEM.INFO.init_done = 0) ∧
    (∃ (s : State), s.canonical ∧ s.scrubs = true) ∧
    (∃ (s : State) (q : Requester) (k : Nat), s.canonical ∧ s.admits q 66 ∧ 16 ≤ k ∧ k < 64 ∧ s.rd (DMA.SCFG.enable k) = 1 ∧ (match q with | Requester.remote nid role master => false | x => true) = true ∧ s.working 64 = true ∧ s.sramBad = [] ∧ inSram (s.rd (DMA.SHEAD.desc k) * 32) 32 = true ∧ (s.streamState k = 0 ∨ s.streamState k = 4 ∨ s.streamState k = 5) ∧ s.descFault { desc := s.rd (DMA.SHEAD.desc k) * 32, src := field (s.sramBytes (s.rd (DMA.SHEAD.desc k) * 32) 32) 0 4, dst := field (s.sramBytes (s.rd (DMA.SHEAD.desc k) * 32) 32) 4 4, len := field (s.sramBytes (s.rd (DMA.SHEAD.desc k) * 32) 32) 8 3, ctl := field (s.sramBytes (s.rd (DMA.SHEAD.desc k) * 32) 32) 12 2, next := field (s.sramBytes (s.rd (DMA.SHEAD.desc k) * 32) 32) 16 4 } false = 0) ∧
    (∃ (s : State) (q : Requester) (k : Nat), s.canonical ∧ s.admits q 66 ∧ 16 ≤ k ∧ k < 64 ∧ s.rd (DMA.SCFG.enable k) = 1 ∧ (match q with | Requester.remote nid role master => false | x => true) = true ∧ s.streamState k = 3) ∧
    (∃ (s : State) (q : Requester) (k : Nat), s.canonical ∧ s.admits q 66 ∧ 16 ≤ k ∧ k < 64 ∧ s.rd (DMA.SCFG.enable k) = 1 ∧ (match q with | Requester.remote nid role master => false | x => true) = true ∧ (s.streamState k = 1 ∨ s.streamState k = 2 ∨ s.streamState k = 3)) ∧
    (∃ (s : State) (k : Nat), s.canonical ∧ s.activeStream = some k ∧ s.alive 66 = true ∧ s.sramBad = [] ∧ bit (s.stream k).ctl 3 = true ∧ (s.stream k).unread = none ∧ (s.stream k).off + min ((s.stream k).len - (s.stream k).off) (64 - ((s.stream k).dst + (s.stream k).off) % 64) < (s.stream k).len ∧ s.streamRefused k ((s.stream k).dst + (s.stream k).off) (min ((s.stream k).len - (s.stream k).off) (64 - ((s.stream k).dst + (s.stream k).off) % 64)) = none) ∧
    (∃ (s : State) (q : Requester) (i : Nat), s.canonical ∧ s.admits q 66 ∧ i < 2 ^ 32) ∧
    (∃ (s : State) (q : Requester), s.canonical ∧ s.admits q 72 ∧ s.nvm.running = none ∧ s.nvm.waiting = [] ∧ s.nvmOperands 1 = true ∧ s.mayStore q (s.rd NVM.ADDR.offset) = true) ∧
    (∃ (s : State) (q : Requester), s.canonical ∧ s.admits q 72 ∧ s.nvm.running = none ∧ s.nvm.waiting = [] ∧ s.nvmOperands 2 = true ∧ s.mayStore q (s.rd NVM.ADDR.offset) = true) ∧
    (∃ (s : State) (q : Requester), s.canonical ∧ s.admits q 72 ∧ s.nvm.running = none ∧ s.nvm.waiting = [] ∧ s.nvmOperands 3 = true) ∧
    (∃ (s : State) (q : Requester) (c : NvmCmd), s.canonical ∧ s.nvm.running = some c ∧ s.admits q 72 ∧ c.owner = NvmOwner.host ∧ s.nvm.waiting = []) ∧
    (∃ (s : State) (c : NvmCmd), s.canonical ∧ s.nvm.running = some c ∧ c.owner = NvmOwner.host ∧ s.rd PWR.STAT.saving = 0 ∧ s.nvm.waiting = [] ∧ c.op = 2) ∧
    (∃ (s : State) (c : NvmCmd), s.canonical ∧ s.nvm.running = some c ∧ c.owner = NvmOwner.host ∧ s.rd PWR.STAT.saving = 0 ∧ s.nvm.waiting = [] ∧ c.op = 3 ∧ s.nvm.bad = []) ∧
    (∃ (s : State) (c : NvmCmd), s.canonical ∧ s.nvm.running = some c ∧ c.owner = NvmOwner.host ∧ s.rd PWR.STAT.saving = 0 ∧ s.nvm.waiting = [] ∧ c.op = 1 ∧ s.sramBad = []) :=
  ⟨⟨node [], node_canonical _, by decide +kernel⟩,
    ⟨node [(MEM.INFO.init_done, 0)], node_canonical _, by decide +kernel⟩,
    ⟨node [], node_canonical _, by decide +kernel⟩,
    ⟨{ node [(DMA.SCFG.enable 63, 1), (DMA.SHEAD.desc 63, 0x80000)] with sram := Memory.storeAll 0 [] 0x1000000 (bytesLE 32 (0x1000400 * 2 ^ 32 + 16 * 2 ^ 64 + 8 * 2 ^ 96)) }, .host, 63, by delta State.canonical State.wordsCanonical State.memoryCanonical State.admits; decide +kernel⟩,
    ⟨node [(DMA.SCFG.enable 63, 1), (DMA.SCTL.state 63, 3)], .host, 63, node_canonical _, by delta State.admits; decide +kernel⟩,
    ⟨node [(DMA.SCFG.enable 63, 1), (DMA.SCTL.state 63, 2)], .host, 63, node_canonical _, by delta State.admits; decide +kernel⟩,
    ⟨{ node [(DMA.ACTIVE.busy, 1), (DMA.ACTIVE.stream, 63)] with dma := { ctx := [(63, { dst := 0x1000400, len := 4096, ctl := 8 })] } }, 63, canonical_with_dma (s := node [(DMA.ACTIVE.busy, 1), (DMA.ACTIVE.stream, 63)]) _ (node_canonical [(DMA.ACTIVE.busy, 1), (DMA.ACTIVE.stream, 63)]), by decide +kernel⟩,
    ⟨node [], .host, 2 ^ 32 - 1, node_canonical _, by delta State.admits; decide +kernel⟩,
    ⟨node [(SYS.CFGOWNER.owner, 1), (NVM.SRCADDR.addr, 0x1000000), (NVM.LEN.bytes, 256)], .host, node_canonical _, by delta State.admits; decide +kernel⟩,
    ⟨node [(SYS.CFGOWNER.owner, 1), (NVM.SRCADDR.addr, 0x1000000), (NVM.LEN.bytes, 256)], .host, node_canonical _, by delta State.admits; decide +kernel⟩,
    ⟨node [(SYS.CFGOWNER.owner, 1), (NVM.SRCADDR.addr, 0x1000000), (NVM.LEN.bytes, 256)], .host, node_canonical _, by delta State.admits; decide +kernel⟩,
    ⟨{ node [] with nvm := { running := some ⟨.host, 3, 0x1000000, 0, 256⟩ } }, .host, ⟨.host, 3, 0x1000000, 0, 256⟩, canonical_with_nvm (s := node []) _ (node_canonical []), by delta State.admits; decide +kernel⟩,
    ⟨{ node [] with nvm := { running := some ⟨.host, 2, 0x1000000, 0, 256⟩ } }, ⟨.host, 2, 0x1000000, 0, 256⟩, canonical_with_nvm (s := node []) _ (node_canonical []), by decide +kernel⟩,
    ⟨{ node [] with nvm := { running := some ⟨.host, 3, 0x1000000, 0, 256⟩ } }, ⟨.host, 3, 0x1000000, 0, 256⟩, canonical_with_nvm (s := node []) _ (node_canonical []), by decide +kernel⟩,
    ⟨{ node [] with nvm := { running := some ⟨.host, 1, 0x1000000, 0, 256⟩ } }, ⟨.host, 1, 0x1000000, 0, 256⟩, canonical_with_nvm (s := node []) _ (node_canonical []), by decide +kernel⟩⟩

/-- The hypotheses of each clause of RecorderCommandsWaitAndAct are met. -/
theorem test_met_RecorderCommandsWaitAndAct :
    (∃ (s : State) (q : Requester), s.canonical ∧ s.admits q 73 ∧ s.variant = Variant.lm160 ∧ s.recHolds = false ∧ s.recorder.waiting = []) ∧
    (∃ (s : State) (q : Requester) (n : Nat), s.canonical ∧ s.admits q 73 ∧ s.variant = Variant.lm160 ∧ s.recHolds = false ∧ s.recorder.waiting = [] ∧ (n = 1023 ∨ n < s.variant.channels)) ∧
    (∃ (s : State) (q : Requester), s.canonical ∧ s.admits q 73 ∧ s.variant = Variant.lm160 ∧ s.recHolds = false ∧ s.recorder.waiting = []) ∧
    (∃ (s : State) (q : Requester), s.canonical ∧ s.admits q 73 ∧ s.variant = Variant.lm160 ∧ s.recHolds = false ∧ s.recorder.waiting = [] ∧ s.rd REC.STAT.clearing = 0) ∧
    (∃ (s : State) (q : Requester), s.canonical ∧ s.admits q 73 ∧ s.variant = Variant.lm160 ∧ s.recHolds = false ∧ s.recorder.waiting = [] ∧ 32768 ≤ s.rd REC.WRCTL.code) ∧
    (∃ (s : State) (q : Requester), s.canonical ∧ s.admits q 73 ∧ s.variant = Variant.lm160 ∧ s.recHolds = false ∧ s.recorder.waiting = [] ∧ s.rd REC.STAT.archived = 1 ∧ s.rd REC.STAT.clearing = 0) ∧
    (∃ (s : State) (q : Requester), s.canonical ∧ s.admits q 73 ∧ s.rd REC.STAT.archived = 0 ∧ s.variant = Variant.lm160) ∧
    (∃ (s : State) (q : Requester) (ch : Nat), s.canonical ∧ s.admits q 73 ∧ ch < 1024) ∧
    (∃ (s : State) (w : Nat × Nat × List Byte), s.canonical ∧ s.recorder.writing = some w ∧ s.working 73 = true ∧ s.storeRuns NvmOwner.recBase = true ∧ ((∀ (i : Nat),   i ∈ List.range w.snd.snd.length → s.storeByte (snapSector w.fst + i) &&& w.snd.snd.getD i 0 = w.snd.snd.getD i 0))) ∧
    (∃ (s : State) (w : Nat × Nat × List Byte), s.canonical ∧ s.recorder.writing = some w ∧ s.working 73 = true ∧ s.storeRuns NvmOwner.recBase = true ∧ (¬(∀ (i : Nat),   i ∈ List.range w.snd.snd.length → s.storeByte (snapSector w.fst + i) &&& w.snd.snd.getD i 0 = w.snd.snd.getD i 0))) ∧
    (∃ (s : State) (w : Nat × Nat × List Byte), s.canonical ∧ s.recorder.writing = some w ∧ s.working 73 = true ∧ s.storeRuns NvmOwner.recBase = true) ∧
    (∃ (s : State) (r : List Byte), s.canonical ∧ s.working 73 = true ∧ s.working 72 = true ∧ s.rd PWR.STAT.saving = 0 ∧ (s.rd NVM.CFG.defer = 0 ∨ s.level = 0) ∧ s.recorder.staged ≠ [] ∧ s.nvm.running = none ∧ s.recorder.staged = [r] ∧ r.length ≤ 256 ∧ s.recorder.untold = 0) ∧
    (∃ (s : State), s.canonical ∧ s.working 73 = true ∧ s.working 72 = true ∧ s.rd PWR.STAT.saving = 0 ∧ (s.rd NVM.CFG.defer = 0 ∨ s.level = 0) ∧ s.recorder.staged ≠ [] ∧ s.nvm.running = none) ∧
    (∃ (s : State), s.canonical ∧ s.working 73 = true ∧ s.working 72 = true ∧ s.rd PWR.STAT.saving = 0 ∧ (s.rd NVM.CFG.defer = 0 ∨ s.level = 0) ∧ s.recorder.staged ≠ [] ∧ s.nvm.running ≠ none ∧ s.nvmHas NvmOwner.recRecords = false) ∧
    (∃ (s : State) (k : Nat), s.canonical ∧ k < 64 ∧ s.alive 73 = true ∧ s.rd (REC.CLS.enable k) = 1 ∧ s.rd (REC.CLS.tokens k) + 1 < s.rd (REC.CLS.burst k)) ∧
    (∃ (s : State) (k : Nat), s.canonical ∧ k < 64 ∧ s.alive 73 = true ∧ s.rd (REC.CLS.enable k) = 1 ∧ s.rd (REC.CLS.burst k) ≤ s.rd (REC.CLS.tokens k) + 1) ∧
    (∃ (s : State) (k : Nat), s.canonical ∧ k < 64 ∧ s.alive 73 = true ∧ s.recorder.suppressed.get? k = none) ∧
    (∃ (s : State) (k : Nat) (e : Suppressed), s.canonical ∧ k < 64 ∧ s.alive 73 = true ∧ s.recorder.suppressed.get? k = some e) :=
  ⟨⟨{ node [] with recorder := { resume := false } }, .host, canonical_with_recorder (s := node []) _ (node_canonical []), by delta State.admits; decide +kernel⟩,
    ⟨{ node [] with recorder := { resume := false } }, .host, 159, canonical_with_recorder (s := node []) _ (node_canonical []), by delta State.admits; decide +kernel⟩,
    ⟨{ node [] with recorder := { resume := false } }, .host, canonical_with_recorder (s := node []) _ (node_canonical []), by delta State.admits; decide +kernel⟩,
    ⟨{ node [] with recorder := { resume := false } }, .host, canonical_with_recorder (s := node []) _ (node_canonical []), by delta State.admits; decide +kernel⟩,
    ⟨{ node [(REC.WRCTL.code, 32768)] with recorder := { resume := false } }, .host, canonical_with_recorder (s := node [(REC.WRCTL.code, 32768)]) _ (node_canonical [(REC.WRCTL.code, 32768)]), by delta State.admits; decide +kernel⟩,
    ⟨{ node [(REC.STAT.archived, 1)] with recorder := { resume := false } }, .host, canonical_with_recorder (s := node [(REC.STAT.archived, 1)]) _ (node_canonical [(REC.STAT.archived, 1)]), by delta State.admits; decide +kernel⟩,
    ⟨node [], .host, node_canonical _, by delta State.admits; decide +kernel⟩,
    ⟨node [], .host, 159, node_canonical _, by delta State.admits; decide +kernel⟩,
    ⟨{ node [] with recorder := { writing := some (31, 8, [1#8]) }, nvm := { running := some ⟨.recBase, 1, 0, 0, 0⟩ } }, (31, 8, [1#8]), canonical_with_recorder_nvm (s := node []) _ _ (node_canonical []), by decide +kernel⟩,
    ⟨{ node [] with recorder := { writing := some (31, 8, [1#8]) }, nvm := { running := some ⟨.recBase, 1, 0, 0, 0⟩ }, store := [(snapSector 31, 0#8)] }, (31, 8, [1#8]), by delta State.canonical State.wordsCanonical State.memoryCanonical; decide +kernel⟩,
    ⟨{ node [] with recorder := { writing := some (31, 8, [1#8]) }, nvm := { running := some ⟨.recBase, 1, 0, 0, 0⟩ } }, (31, 8, [1#8]), canonical_with_recorder_nvm (s := node []) _ _ (node_canonical []), by decide +kernel⟩,
    ⟨{ node [(NVM.CFG.defer, 0)] with recorder := { staged := [List.replicate 256 0] } }, List.replicate 256 0, canonical_with_recorder (s := node [(NVM.CFG.defer, 0)]) _ (node_canonical [(NVM.CFG.defer, 0)]), by decide +kernel⟩,
    ⟨{ node [(NVM.CFG.defer, 0)] with recorder := { staged := [[1], [2]] } }, canonical_with_recorder (s := node [(NVM.CFG.defer, 0)]) _ (node_canonical [(NVM.CFG.defer, 0)]), by decide +kernel⟩,
    ⟨{ node [(NVM.CFG.defer, 0)] with recorder := { staged := [[1], [2]] }, nvm := { running := some ⟨.host, 2, 0, 0, 4096⟩ } }, canonical_with_recorder_nvm (s := node [(NVM.CFG.defer, 0)]) _ _ (node_canonical [(NVM.CFG.defer, 0)]), by decide +kernel⟩,
    ⟨node [(REC.CLS.enable 63, 1), (REC.CLS.burst 63, 2)], 63, node_canonical _, by decide +kernel⟩,
    ⟨node [(REC.CLS.enable 63, 1), (REC.CLS.burst 63, 2), (REC.CLS.tokens 63, 1)], 63, node_canonical _, by decide +kernel⟩,
    ⟨node [], 63, node_canonical _, by decide +kernel⟩,
    ⟨{ node [] with recorder := { suppressed := [(63, ⟨1, 2, 0xFC00⟩)] } }, 63, ⟨1, 2, 0xFC00⟩, canonical_with_recorder (s := node []) _ (node_canonical []), by decide +kernel⟩⟩

/-- The hypotheses of each clause of TheCalendarClockKeepsTime are met. -/
theorem test_met_TheCalendarClockKeepsTime :
    (∃ (s : State), s.canonical ∧ s.alive 80 = true ∧ s.rtc.pendingCmd = none ∧ s.rtc.subsec < 32768 ∧ s.rtc.trimTick < 2 ^ 20 ∧ s.rtc.trim.natAbs ≤ 537 ∧ (s.rdInt RTC.TRIM.n).natAbs ≤ 537) ∧
    (∃ (s : State) (i : Nat), s.canonical ∧ s.alive 80 = true ∧ i ≤ 8) ∧
    (∃ (s : State) (q : Requester), s.canonical ∧ (s.rtc.freezes.get? (mptuClass q)).isSome = true) ∧
    (∃ (s : State) (q : Requester), s.canonical ∧ s.admits q 80 ∧ s.rtc.pendingCmd = none ∧ s.setField = none) ∧
    (∃ (s : State) (q : Requester) (f : Nat), s.canonical ∧ s.admits q 80 ∧ s.rtc.pendingCmd = none ∧ s.setField = some f) ∧
    (∃ (s : State) (q : Requester), s.canonical ∧ s.admits q 80 ∧ s.rtc.pendingCmd = none ∧ s.rtc.trim = 0 ∧ s.rtcTicks + 3601 * 32768 < calendarEnd * 32768 ∧ s.rd RTC.STAT.dst = 0) ∧
    (∃ (s : State) (q : Requester), s.canonical ∧ s.admits q 80 ∧ s.rtc.pendingCmd = none ∧ s.rtc.trim = 0 ∧ s.rtcTicks + 3601 * 32768 < calendarEnd * 32768 ∧ s.rd RTC.STAT.dst = 1) ∧
    (∃ (s : State) (q : Requester), s.canonical ∧ s.admits q 80 ∧ s.rtc.pendingCmd = none ∧ s.rtc.trim = 0 ∧ s.rtcTicks + 3601 * 32768 < calendarEnd * 32768 ∧ s.rd RTC.STAT.dst = 1 ∧ 3600 * 32768 ≤ s.rtcTicks + 1) ∧
    (∃ (s : State) (q : Requester) (n : Nat), s.canonical ∧ s.admits q 80 ∧ s.rtc.pendingCmd = none ∧ s.rtc.trim = 0 ∧ s.rtcTicks + 3601 * 32768 < calendarEnd * 32768 ∧ 0 < n ∧ n < 32768) ∧
    (∃ (s : State) (q : Requester) (n : Nat), s.canonical ∧ s.admits q 80 ∧ s.rtc.pendingCmd = none ∧ s.rtc.trim = 0 ∧ s.rtcTicks + 3601 * 32768 < calendarEnd * 32768 ∧ 0 < n ∧ n < 32768 ∧ n ≤ s.rtcTicks + 1) ∧
    (∃ (s : State) (q : Requester), s.canonical ∧ s.admits q 80 ∧ s.rtc.pendingCmd = none ∧ s.rtc.trim = 0 ∧ s.rtcTicks + 3601 * 32768 < calendarEnd * 32768) ∧
    (∃ (s : State), s.canonical) ∧
    (∃ (s : State), s.canonical) :=
  ⟨⟨node [], node_canonical _, by decide +kernel⟩,
    ⟨node [], 8, node_canonical _, by decide +kernel⟩,
    ⟨{ node [] with rtc := { freezes := [(0, ⟨[]⟩)] } }, .host, canonical_with_rtc (s := node []) _ (node_canonical []), by decide +kernel⟩,
    ⟨node [(RTC.SET.set_ 4, 0x29), (RTC.SET.set_ 5, 2), (RTC.SET.set_ 6, 0), (RTC.SET.set_ 7, 0x20)], .host, node_canonical _, by delta State.admits; decide +kernel⟩,
    ⟨node [(RTC.SET.set_ 4, 0x30), (RTC.SET.set_ 5, 2), (RTC.SET.set_ 6, 0), (RTC.SET.set_ 7, 0x20)], .host, 8, node_canonical _, by delta State.admits; decide +kernel⟩,
    ⟨{ node [] with rtc := { seconds := calendarEnd - 3602, subsec := 32767 } }, .host, canonical_with_rtc (s := node []) _ (node_canonical []), by delta State.admits; decide +kernel⟩,
    ⟨{ node [(RTC.STAT.dst, 1)] with rtc := { seconds := calendarEnd - 3602, subsec := 32767 } }, .host, canonical_with_rtc (s := node [(RTC.STAT.dst, 1)]) _ (node_canonical [(RTC.STAT.dst, 1)]), by delta State.admits; decide +kernel⟩,
    ⟨{ node [(RTC.STAT.dst, 1)] with rtc := { seconds := 3599, subsec := 32767 } }, .host, canonical_with_rtc (s := node [(RTC.STAT.dst, 1)]) _ (node_canonical [(RTC.STAT.dst, 1)]), by delta State.admits; decide +kernel⟩,
    ⟨node [], .host, 1, node_canonical _, by delta State.admits; decide +kernel⟩,
    ⟨{ node [] with rtc := { subsec := 32766 } }, .host, 32767, canonical_with_rtc (s := node []) _ (node_canonical []), by delta State.admits; decide +kernel⟩,
    ⟨node [], .host, node_canonical _, by delta State.admits; decide +kernel⟩,
    ⟨node [], node_canonical _⟩,
    ⟨node [], node_canonical _⟩⟩

/-- The hypotheses of each clause of KeysImagesTamperAndBackupAct are met. -/
theorem test_met_KeysImagesTamperAndBackupAct :
    (∃ (s : State) (q : Requester) (n : Nat), s.canonical ∧ s.admits q 89 ∧ n < 8 ∧ s.sec.erasing = 0 ∧ s.rd KEYV.CMDEN.load_en = 1 ∧ n ≠ 6 ∧ (∀ (i : Nat), i ∈ List.range 8 → (s.sec.keyData.get? i).isSome = true)) ∧
    (∃ (s : State) (q : Requester) (n : Nat), s.canonical ∧ s.admits q 89 ∧ n < 8 ∧ s.sec.erasing = 0 ∧ s.rd KEYV.CMDEN.load_en = 1) ∧
    (∃ (s : State) (q : Requester), s.canonical ∧ s.admits q 89 ∧ s.sec.erasing = 0) ∧
    (∃ (s : State) (q : Requester), s.canonical ∧ s.admits q 88 ∧ s.sec.running = none ∧ s.quiesced 88 = false ∧ s.rst.bootPending = false ∧ s.factoryHold = true) ∧
    (∃ (s : State) (q : Requester), s.canonical ∧ s.admits q 88 ∧ s.sec.running = none ∧ s.quiesced 88 = false ∧ s.rst.bootPending = false ∧ s.rd SEC.STAT.id_valid = 1) ∧
    (∃ (s : State) (q : Requester), s.canonical ∧ s.admits q 88 ∧ s.sec.running = none ∧ s.quiesced 88 = false ∧ s.rst.bootPending = false) ∧
    (∃ (s : State) (q : Requester), s.canonical ∧ s.admits q 88 ∧ s.sec.running = none ∧ s.quiesced 88 = false ∧ s.rst.bootPending = false) ∧
    (∃ (s : State), s.canonical ∧ s.sec.running = some 2) ∧
    (∃ (s : State) (i : Nat), s.canonical ∧ i < 2 ∧ s.alive 88 = true ∧ s.rst.bootPending = false ∧ s.sec.running = some (3 + i)) ∧
    (∃ (s : State) (n : Nat), s.canonical ∧ s.tamperSensed n = true) ∧
    (∃ (s : State) (n : Nat), s.canonical ∧ s.tamperSensed n = true) ∧
    (∃ (s : State) (q : Requester), s.canonical ∧ s.admits q 90) ∧
    (∃ (s : State), s.canonical) ∧
    (∃ (s : State), s.canonical) :=
  ⟨⟨{ node [] with sec := { keyData := (List.range 8).map (fun i => (i, 0#32)) } }, .host, 7, canonical_with_sec (s := node []) _ (node_canonical []), by delta State.admits; decide +kernel⟩,
    ⟨node [], .host, 6, node_canonical _, by delta State.admits; decide +kernel⟩,
    ⟨node [], .host, node_canonical _, by delta State.admits; decide +kernel⟩,
    ⟨{ node [] with straps := { boot := 3 } }, .host, canonical_with_straps (s := node []) _ (node_canonical []), by delta State.admits; decide +kernel⟩,
    ⟨node [(SEC.STAT.id_valid, 1)], .host, node_canonical _, by delta State.admits; decide +kernel⟩,
    ⟨node [], .host, node_canonical _, by delta State.admits; decide +kernel⟩,
    ⟨node [], .host, node_canonical _, by delta State.admits; decide +kernel⟩,
    ⟨{ node [] with sec := { running := some 2 } }, canonical_with_sec (s := node []) _ (node_canonical []), by decide +kernel⟩,
    ⟨{ node [] with sec := { running := some 4 } }, 1, canonical_with_sec (s := node []) _ (node_canonical []), by decide +kernel⟩,
    ⟨node [], 5, node_canonical _, by decide +kernel⟩,
    ⟨node [], 0, node_canonical _, by decide +kernel⟩,
    ⟨node [], .host, node_canonical _, by delta State.admits; decide +kernel⟩,
    ⟨node [], node_canonical _⟩,
    ⟨node [], node_canonical _⟩⟩


end Sys2Proof.Tests
end

/-!
PROOFS. Register writes, the configuration owner, and the count of laps. First the facts about the operations involved: the end of Doze,
commands of a requester, the address space of the pages, and the write of one register word; then the statements.
-/

namespace Sys2Proof.Machine

section
variable {s : State} {r : Ref} {p : Nat} {q : Requester}

/-! ### The end of Doze -/

/-- The end of Doze leaves every field of one word that is not in PWR.STAT. -/
theorem State.awake_rd (hw : r.lo + r.w ≤ 32) (ha : r.addr ≠ PWR.STAT.state.addr) : s.awake.rd r = s.rd r := by
  unfold State.awake
  split
  · exact State.rd_wr_other hw ha (.inl (by decide))
  · rfl

/-- The end of Doze leaves the configuration. -/
theorem State.awake_rd_cfg (hc : r.cfg = true) : s.awake.rd r = s.rd r := by
  unfold State.awake
  split
  · exact State.rd_wr_cfg hc
  · rfl

/-- Doze ends in Run; every other power state stays. -/
theorem State.awake_powerState (c : s.canonical) :
    s.awake.rd PWR.STAT.state = if s.rd PWR.STAT.state = 1 then 0 else s.rd PWR.STAT.state := by
  unfold State.awake
  split
  · exact State.rd_wr c (by decide) rfl
  · rfl

@[simp] theorem State.awake_variant : s.awake.variant = s.variant := by simp [State.variant]

@[simp] theorem State.awake_present : s.awake.present p = s.present p := by simp [State.present]

@[simp] theorem State.awake_powered : s.awake.powered p = s.powered p := by simp [State.powered, State.domainOn]

/-- Only Nap stops the clock of a powered block, so the end of Doze changes nothing for it. -/
theorem State.awake_alive (c : s.canonical) : s.awake.alive p = s.alive p := by
  unfold State.alive
  rw [State.awake_powered, State.awake_powerState c]
  split
  · next h => rw [h]; rfl
  · rfl

theorem State.awake_writeStatus (c : s.canonical) : s.awake.writeStatus q p = s.writeStatus q p := by
  unfold State.writeStatus
  rw [State.awake_present, State.awake_alive c]

theorem State.awake_isOwner : s.awake.isOwner q = s.isOwner q := by
  have owner : s.awake.rd SYS.CFGOWNER.owner = s.rd SYS.CFGOWNER.owner := State.awake_rd (by decide) (by decide)
  have enable : s.awake.flag PAIR.CFG.enable = s.flag PAIR.CFG.enable := congrArg (· != 0) (State.awake_rd_cfg rfl)
  have partner : s.awake.rd PAIR.CFG.partner = s.rd PAIR.CFG.partner := State.awake_rd_cfg rfl
  unfold State.isOwner
  rw [owner, enable, partner, State.awake_pair]

theorem State.awake_committing : s.awake.committing p = s.committing p := by
  have state : s.awake.rd (HDR.COMMIT.state p) = s.rd (HDR.COMMIT.state p) :=
    State.awake_rd (Nat.le_of_ble_eq_true rfl) (by simp only [HDR.COMMIT.state, PWR.STAT.state]; omega)
  unfold State.committing
  rw [state]

/-! ### Commands -/

@[simp] theorem State.rd_status {n : Nat} : ({ s with status := n } : State).rd r = s.rd r := rfl

/-- A command that is admitted answers OK; its effect is that on the node awake. -/
theorem answers_of_command {i : Instr} {f : State → State} {post : State → Prop} (e : exec i s = s.command q p f) (h : s.admits q p)
    (k : post { f s.awake with status := 0 }) : answers i s post :=
  ⟨_, e.trans (State.command_ok h.1 h.2), k⟩

end

/-! ### The configuration owner (R15) -/

theorem State.handOwner_owner {s : State} {q : Requester} {n : Nat} (c : s.canonical) :
    (s.handOwner q n).rd SYS.CFGOWNER.owner = if s.isOwner q then n % 4 else s.rd SYS.CFGOWNER.owner := by
  unfold State.handOwner
  split
  · exact State.rd_wr c (by decide) rfl
  · rfl

/-- The record of a change of ownership leaves the owner. -/
theorem State.recEvent_owner {s : State} {code sev : Nat} {data : List Byte} :
    (s.recEvent code sev data).rd SYS.CFGOWNER.owner = s.rd SYS.CFGOWNER.owner :=
  (State.recEvent_kept (Kept.refl _ s) fun _ h => Part.among_self h).rd rfl (by decide) (.inl (by decide))

theorem State.reclaimOwner_owner {s : State} {n : Nat} (c : s.canonical) : (s.reclaimOwner n).rd SYS.CFGOWNER.owner = n % 4 := by
  have owner : (s.wr SYS.CFGOWNER.owner n).rd SYS.CFGOWNER.owner = n % 4 := State.rd_wr c (by decide) rfl
  simp only [State.reclaimOwner]
  split
  · exact owner
  · exact State.recEvent_owner.trans owner

/-! ### Register addresses -/

section
variable {p off : Nat}

theorem pageListed_lt (h : pageListed p = true) : p < 0x80 := by
  obtain ⟨i, hi, e⟩ := List.find?_isSome.mp h
  have bound : ∀ j ∈ pageTable .lm160, j.number < 0x80 := by decide
  exact eq_of_beq e ▸ bound i hi

/-- The register tables describe no word of the page header. -/
theorem rowAt?_header (ho : off < 0x40) : rowAt? p off = none := by
  have below : ∀ r ∈ pageRows p, 0x40 ≤ r.first := by
    unfold pageRows
    split <;> decide
  refine List.find?_eq_none.mpr fun r hr k => ?_
  have := below r hr
  simp only [RegRow.covers, Bool.and_eq_true, decide_eq_true_eq] at k
  omega

theorem placeOf_register (hp : pageListed p = true) (ho : off < 0x800) : placeOf (0x1000 * p + off) = .reg p off := by
  have := pageListed_lt hp
  have page : (0x1000 * p + off) / 0x1000 = p := by omega
  have offset : (0x1000 * p + off) % 0x1000 = off := by omega
  unfold placeOf
  rw [if_pos (by omega), page, if_pos hp, offset, if_pos ho]

theorem cfgMask_register (hp : pageListed p = true) (ho : off < 0x1000) :
    cfgMask (0x1000 * p + off) = ((rowAt? p off).map RegRow.rws).getD 0 := by
  have := pageListed_lt hp
  unfold cfgMask
  rw [if_pos (by omega), show (0x1000 * p + off) / 0x1000 = p by omega, show (0x1000 * p + off) % 0x1000 = off by omega]

/-- No word of a page header belongs to a bank. -/
theorem wordAbsent_header {v : Variant} (hp : pageListed p = true) (ho : off < 0x40) : wordAbsent v (0x1000 * p + off) = false := by
  have := pageListed_lt hp
  have offset : (0x1000 * p + off) % 0x1000 = off := by omega
  unfold wordAbsent
  rw [if_pos (by omega)]
  simp only [bankRegAbsent, offset, Bool.and_eq_false_iff, Bool.or_eq_false_iff, decide_eq_false_iff_not]
  omega

/-- A write of one register word has the form that R69 and R70 ask for. -/
theorem burstForm_register (hp : pageListed p = true) (ho : off < 0x1000) (h4 : off % 4 = 0) : burstForm (0x1000 * p + off) 4 = none := by
  have := pageListed_lt hp
  have inPage : crosses (0x1000 * p + off) 4 = false := by
    unfold crosses
    rw [if_pos (by omega)]
    simp only [bne_eq_false_iff_eq]
    omega
  unfold burstForm
  rw [if_neg (by omega), inPage]
  rfl

end

theorem wordsOfBytes_wordBytes (v : Word) : wordsOfBytes (wordBytes v) = [v] := by
  have bytes : wordBytes v = [BitVec.ofNat 8 (v.toNat / 2 ^ 0), BitVec.ofNat 8 (v.toNat / 2 ^ 8), BitVec.ofNat 8 (v.toNat / 2 ^ 16),
    BitVec.ofNat 8 (v.toNat / 2 ^ 24)] := rfl
  have := v.isLt
  rw [bytes, wordsOfBytes, wordsOfBytes]
  refine congrArg (· :: []) (BitVec.eq_of_toNat_eq ?_)
  simp only [BitVec.toNat_ofNat]
  omega

theorem Status.rank_le_ok (st : Status) : st.rank ≤ Status.ok.rank := by
  cases st <;> decide

section
variable {s : State} {q : Requester} {p off a : Nat} {v : Word}

theorem State.pageListed_of_writeStatus (h : s.writeStatus q p = .ok) : pageListed p = true := by
  unfold State.writeStatus at h
  split at h
  · cases h
  · split at h
    · cases h
    · next k => simpa using k

/-! ### The status of a register write (R71, R73) -/

/-- Where the word exists and its page can be written, SCRATCH takes a write of any requester. -/
theorem State.writeWordStatus_scratch (h : s.writeStatus q p = .ok) : s.writeWordStatus q (0x1000 * p + 0x3C) v = .ok := by
  have hp := State.pageListed_of_writeStatus h
  have row : rowAt? p 0x3C = none := rowAt?_header (by decide)
  have mask : cfgMask (0x1000 * p + 0x3C) = 0 := by rw [cfgMask_register hp (by decide), row]; rfl
  have := pageListed_lt hp
  have addr : 0x1000 * p + 0x3C < 0x100000 := by omega
  have imgsw : 0x1000 * p + 0x3C ≠ 0x48 := by omega
  have fcalctl : 0x1000 * p + 0x3C ≠ 0x100BC := by omega
  simp [State.writeWordStatus, placeOf_register hp, Place.page?, Place.inner, wordAbsent_header hp, h, row, mask, addr, imgsw, fcalctl]

/-- A configuration word asks for the owner, then for a page whose commit is neither checking nor pending. -/
theorem State.writeWordStatus_config (h : s.writeStatus q p = .ok) (h40 : 0x40 ≤ off) (ho : off < 0x800)
    (mask : cfgMask (0x1000 * p + off) ≠ 0) (present : wordAbsent s.variant (0x1000 * p + off) = false)
    (rwl : ((rowAt? p off).map RegRow.rwl).getD 0 = 0) (keyv : p ≠ 0x59) (fcalctl : 0x1000 * p + off ≠ 0x100BC) :
    s.writeWordStatus q (0x1000 * p + off) v = if !s.isOwner q then .notOwner else if s.committing p then .busy else .ok := by
  have hp := State.pageListed_of_writeStatus h
  have shcrc : off ≠ 0x028 := by omega
  have commit : off ≠ 0x02C := by omega
  have ctl : off ≠ 0x00C := by omega
  simp only [State.writeWordStatus, placeOf_register hp ho, Place.page?, Place.inner, present, h, shcrc, commit, ctl, keyv, fcalctl, mask, rwl]
  cases s.isOwner q <;> simp

/-! ### A write of one register word -/

/-- It is answered with the status of the word, and has its effect where that is OK. -/
theorem State.writeAccess_register (hp : pageListed p = true) (ho : off < 0x800) (h4 : off % 4 = 0) {st : Status}
    (e : s.writeWordStatus q (0x1000 * p + off) v = st) :
    s.writeAccess q (0x1000 * p + off) (wordBytes v) =
      (refusal st (0x1000 * p + off), if st = .ok then s.writeWord q (0x1000 * p + off) v else s) := by
  have length : (wordBytes v).length = 4 := rfl
  have first : worst [(st, 0x1000 * p + off)] = (st, 0x1000 * p + off) := if_neg (Nat.not_lt.mpr st.rank_le_ok)
  unfold State.writeAccess
  rw [length, burstForm_register hp (by omega) h4, placeOf_register hp ho, wordsOfBytes_wordBytes]
  simp only [show wordsFrom (0x1000 * p + off) 4 = [0x1000 * p + off] from rfl, List.zip_cons_cons, List.zip_nil_left, List.map_cons, List.map_nil, e, first]
  cases st <;> rfl

/-- The state that a register write leaves: its status, no data, and the effect of the word that is written. -/
theorem answers_registerWrite {post : State → Prop} {st : Status} (h : s.admits q p) (ho : off < 0x800) (h4 : off % 4 = 0)
    (e : s.awake.writeWordStatus q (0x1000 * p + off) v = st)
    (k : post (answered (refusal st (0x1000 * p + off), if st = .ok then s.awake.writeWord q (0x1000 * p + off) v else s.awake))) :
    answers (.registerWrite q (0x1000 * p + off) v) s post := by
  have access := State.writeAccess_register (State.pageListed_of_writeStatus h.2) ho h4 e
  refine ⟨_, ?_, k⟩
  show execRegisterWrite q (0x1000 * p + off) v s = _
  unfold execRegisterWrite
  rw [h.1, access]
  rfl

/-- A refused write leaves nothing but its answer, on the node awake. -/
theorem refused_kept {st : Status} : Kept [.status, .response, .responseCrc, .page 0x01] s (answered (refusal st a, s.awake)) :=
  answered_kept (State.awake_kept (Kept.refl _ s) (Part.within_of_check (by decide))) (Part.within_of_check (by decide))

/-! ### The words written -/

theorem State.writeWord_scratch (hp : pageListed p = true) : s.writeWord q (0x1000 * p + 0x3C) v = s.wr (HDR.SCRATCH p) v.toNat := by
  unfold State.writeWord
  rw [placeOf_register hp (by decide)]
  rfl

theorem State.writeWord_config (hp : pageListed p = true) (h40 : 0x40 ≤ off) (ho : off < 0x800) (mask : cfgMask (0x1000 * p + off) ≠ 0) :
    s.writeWord q (0x1000 * p + off) v = s.storeShadow p (0x1000 * p + off) v := by
  unfold State.writeWord
  rw [placeOf_register hp ho]
  simp only [if_neg (Nat.not_lt.mpr h40), if_pos mask]

theorem mem_addTo {l : List Nat} {k : Nat} : k ∈ addTo l k := by
  unfold addTo
  split
  · next h => exact List.contains_iff_mem.mp h
  · exact List.mem_cons_self

/-- The word of the copy takes its RWS bits (R45, R46), every other word stays, and the page is dirty (R54). -/
theorem State.storeShadow_word (c : s.canonical) (mask : cfgMask a ≠ 0) (present : wordAbsent s.variant a = false) :
    p ∈ (s.storeShadow p a v).dirty ∧
      Sparse.get resetWord (s.storeShadow p a v).shadow a = v &&& BitVec.ofNat 32 (cfgMask a &&& variantMask s.variant a) ∧
      ∀ b, b ≠ a → Sparse.get resetWord (s.storeShadow p a v).shadow b = Sparse.get resetWord s.shadow b := by
  obtain ⟨⟨-, -, shadow, -⟩, -⟩ := c
  unfold State.storeShadow State.putCfg
  rw [if_neg mask, present]
  exact ⟨mem_addTo, Sparse.get_set_same shadow, fun _ hb => Sparse.get_set_other hb⟩

end

end Sys2Proof.Machine

namespace Sys2Proof.Proofs

open Sys2Proof.Machine

/-! ### The configuration owner (R15) -/

/-- Settles O12: the register takes the owner that its rule gives (R15), and the lists of what either command can change do not reach
further. A handover by another than the owner is answered with OK (notes/assumptions/26.md). -/
theorem ownershipMovesByItsOwnerOrTheHost : Obligations.OwnershipMovesByItsOwnerOrTheHost := by
  intro s q n c
  have ca := State.canonical_awake c
  refine ⟨fun h => answers_of_command (f := fun s => s.handOwner q n) rfl h ⟨rfl, ?_, ?_⟩,
    fun h => answers_of_command (f := fun s => s.reclaimOwner n) rfl h ⟨rfl, ?_, ?_⟩⟩
  · rw [State.rd_status, State.handOwner_owner ca, State.awake_isOwner, State.awake_rd (by decide) (by decide)]
  · have kept : KeptR [.status, .page 0x00, .page 0x01] s (execCfgOwnerHandover q n s) :=
      execCfgOwnerHandover_kept (Kept.refl _ s) (Part.within_of_check (by decide))
    exact (kept _ (State.command_ok h.1 h.2)).only
  · rw [State.rd_status, State.reclaimOwner_owner ca]
  · have kept := (execCfgOwnerReclaim_kept (x0 := n) (Kept.refl _ s) fun _ m => Part.among_self m) _ (State.command_ok h.1 h.2)
    exact ⟨kept.only.1 .live (by decide), kept.only.1 .shadow (by decide), kept.only.1 .mirror (by decide)⟩

/-! ### Register writes (R14, R45, R54, R73) -/

/-- SCRATCH takes a write of any requester that is admitted (R41, R45). -/
theorem registerWrite_scratch {s : State} {q : Requester} {p : Nat} {v : Word} (c : s.canonical) (h : s.admits q p) :
    answers (.registerWrite q (0x1000 * p + 0x3C) v) s fun t =>
      t.status = 0 ∧ t.rd (HDR.SCRATCH p) = v.toNat ∧ onlyChanges [.status, .response, .responseCrc, .page 0x01, .head 0x3C] s t := by
  have ca := State.canonical_awake c
  have status := State.writeWordStatus_scratch (v := v) ((State.awake_writeStatus c).trans h.2)
  refine answers_registerWrite h (by decide) (by decide) status ?_
  rw [if_pos rfl, State.writeWord_scratch (State.pageListed_of_writeStatus h.2)]
  have kept : Kept [.status, .response, .responseCrc, .page 0x01, .head 0x3C] s (s.awake.wr (HDR.SCRATCH p) v.toNat) :=
    State.wr_kept (State.awake_kept (Kept.refl _ s) (Part.within_of_check (by decide))) (HDR.SCRATCH_zoned ⟨.head 0x3C, by decide, rfl⟩)
  refine ⟨rfl, ?_, (answered_kept kept (Part.within_of_check (by decide))).only⟩
  exact (State.rd_wr ca (Nat.le_of_ble_eq_true rfl) rfl).trans (Nat.mod_eq_of_lt v.isLt)

/-- Settles O8: the status of the word says which of the three answers a configuration word has (R14, R73), and the node awake has the
same owner and the same commits. -/
theorem registerWriteStoresTheWord : Obligations.RegisterWriteStoresTheWord := by
  intro s q p off v c h
  refine ⟨registerWrite_scratch c h, fun h40 ho h4 mask present rwl keyv fcalctl => ?_⟩
  have hp := State.pageListed_of_writeStatus h.2
  have present' : wordAbsent s.awake.variant (0x1000 * p + off) = false := by rwa [State.awake_variant]
  have status := State.writeWordStatus_config (v := v) ((State.awake_writeStatus c).trans h.2) h40 ho mask present' rwl keyv fcalctl
  rw [State.awake_isOwner, State.awake_committing] at status
  refine answers_registerWrite h ho h4 status ?_
  cases owner : s.isOwner q with
  | false => exact ⟨fun _ => ⟨rfl, refused_kept.only⟩, nofun, nofun⟩
  | true =>
    cases committing : s.committing p with
    | true => exact ⟨nofun, fun _ _ => ⟨rfl, refused_kept.only⟩, nofun⟩
    | false =>
      refine ⟨nofun, nofun, fun _ _ => ?_⟩
      simp only [Bool.not_true, Bool.false_eq_true, if_false, if_true, State.writeWord_config hp h40 ho mask]
      obtain ⟨dirty, word, others⟩ := State.storeShadow_word (p := p) (v := v) (State.canonical_awake c) mask present'
      have kept : Kept [.status, .response, .responseCrc, .page 0x01, .shadow, .dirty] s (s.awake.storeShadow p (0x1000 * p + off) v) :=
        State.storeShadow_kept (State.awake_kept (Kept.refl _ s) (Part.within_of_check (by decide))) (Part.within_of_check (by decide))
      rw [State.awake_variant] at word
      simp only [State.awake_shadow] at others
      exact ⟨rfl, dirty, word, others, (answered_kept kept (Part.within_of_check (by decide))).only⟩

/-! ### Laps (R29, R333, R538) -/

/-- A standby of a pair, its link up, whose laps were enabled a moment ago: boundary 0 of its grid is still to come, and it has the holder's
LAPMARK of lap 7 already (R333). -/
def markedStandby : State :=
  { ((State.reset.wr (HDR.CTL.enable 4) 1).wr PAIR.STAT.role 2).wr PAIR.STAT.link 1 with
    live := [(PAIR.CFG.enable.addr, 0x80000000)]
    lap := { fresh := true, zero := true }
    pair := { lapMark := some (7, 100000, 0) } }

theorem markedStandby_canonical : markedStandby.canonical := by
  refine ⟨⟨?_, ?_, ?_, ?_⟩, ?_, ?_⟩ <;> decide +kernel

theorem markedStandby_mayTakeLap : markedStandby.skipEvaluation.mayTakeLap = true := by decide +kernel

/-- Its boundary 0 takes the count of the LAPMARK. -/
theorem markedStandby_boundary_count : (markedStandby.skipEvaluation.takeLap none 0).rd LAP.COUNT.count = 7 := by decide +kernel

/-- Refutes O28: where boundary 0 of a standby's grid comes with the holder's LAPMARK, the lap count becomes the holder's (R333,
notes/assumptions/20.md), while the statement has it become 0. -/
theorem not_boundariesCountTheLaps : ¬ Obligations.BoundariesCountTheLaps := by
  intro h
  obtain ⟨t, e, count, -⟩ := (h markedStandby none 0 markedStandby_canonical).1 markedStandby_mayTakeLap
  have taken : t = markedStandby.skipEvaluation.takeLap none 0 := by
    have := e.symm.trans (congrArg Host.Outcome.next (if_pos markedStandby_mayTakeLap))
    injection this
  have zero : t.rd LAP.COUNT.count = 0 := count
  rw [taken, markedStandby_boundary_count] at zero
  exact absurd zero (by decide)

end Sys2Proof.Proofs

/-!
PROOFS. The sensor front end: the phases of a slot, wires that are open, changes of the excitation, and the faults of a bank. First the facts
about the operations involved: bits of registers, fields that a write does not reach, the running slots of a bank, and the end of a conversion
without a result; then the statements.
-/

namespace Sys2Proof.Machine

section
variable {s t : State} {l : List Part} {q r : Ref} {b k : Nat}

/-! ### Bits -/

theorem bit_eq_testBit (v i : Nat) : bit v i = v.testBit i := by
  rw [Nat.testBit_eq_decide_div_mod_eq]
  rfl

/-- A mark that is set shows. -/
theorem bit_or_two_pow (v i : Nat) : bit (v ||| 2 ^ i) i = true := by
  rw [bit_eq_testBit, Nat.testBit_or, Nat.testBit_two_pow_self, Bool.or_true]

/-- A bit of a register is the field of one bit at its place. -/
theorem State.bit_rd {i : Nat} (hlo : r.lo = 0) (hw : r.w ≤ 32) (hi : i < r.w) : bit (s.rd r) i = (s.rd { r with lo := i, w := 1 } == 1) := by
  have narrow : r.lo + r.w ≤ 32 := by omega
  have one : i + 1 ≤ 32 := by omega
  rw [bit_eq_testBit, State.rd, if_pos narrow, getBits, hlo, Nat.testBit_mod_two_pow, Nat.pow_zero, Nat.div_one, decide_eq_true hi, Bool.true_and,
    ← bit_eq_testBit]
  simp only [State.rd, if_pos one]
  rfl

theorem State.rd_lt (hw : r.lo + r.w ≤ 32) : s.rd r < 2 ^ r.w := by
  rw [State.rd, if_pos hw]
  exact Nat.mod_lt _ (Nat.two_pow_pos _)

/-! ### Fields that a write does not reach -/

/-- Two fields of one word each that share no bit. -/
def Ref.disjoint (q r : Ref) : Prop :=
  q.lo + q.w ≤ 32 ∧ r.lo + r.w ≤ 32 ∧ (q.addr ≠ r.addr ∨ q.lo + q.w ≤ r.lo ∨ r.lo + r.w ≤ q.lo)

theorem Ref.disjoint_of_page (hq : q.lo + q.w ≤ 32) (hr : r.lo + r.w ≤ 32) (h : q.addr / 0x1000 ≠ r.addr / 0x1000) : q.disjoint r :=
  ⟨hq, hr, .inl fun e => h (congrArg (· / 0x1000) e)⟩

theorem State.rd_wr_disjoint {v : Nat} (c : s.canonical) (d : q.disjoint r) : (s.wr r v).rd q = s.rd q := by
  obtain ⟨hq, hr, apart⟩ := d
  cases hc : q.cfg with
  | true => exact State.rd_wr_cfg hc
  | false =>
    by_cases ha : q.addr = r.addr
    · exact State.rd_wr_bits c hr ha hq hc (apart.resolve_left fun n => n ha)
    · exact State.rd_wr_other hq ha (.inl hr)

theorem State.rd_irq_disjoint (c : s.canonical) (d : q.disjoint r) : (s.irq r).rd q = s.rd q := State.rd_wr_disjoint c d

/-- A field of one bit that is set reads 1. -/
theorem State.rd_wr_one (c : s.canonical) (hw : r.lo + r.w ≤ 32) (one : r.w = 1) (hc : r.cfg = false) : (s.wr r 1).rd r = 1 :=
  (State.rd_wr c hw hc).trans (Nat.mod_eq_of_lt (Nat.one_lt_two_pow (by omega)))

/-- An event bit that is raised reads 1. -/
theorem State.rd_irq (c : s.canonical) (hw : r.lo + r.w ≤ 32) (one : r.w = 1) (hc : r.cfg = false) : (s.irq r).rd r = 1 :=
  State.rd_wr_one c hw one hc

theorem State.canonical_irq (c : s.canonical) : (s.irq r).canonical := State.canonical_wr c

theorem State.canonical_modBank {f : AfeBank → AfeBank} (c : s.canonical) : (s.modBank b f).canonical :=
  (State.modBank_kept (Kept.refl _ s) fun _ h => Part.among_self h).canon c

/-! ### Saturating counters -/

section
variable {count ovf : Ref} {event : Option Ref}

/-- To a field that shares no bit with the overflow bit and the event, a counter only counts. -/
theorem State.rd_stick (c : s.canonical) (ho : q.disjoint ovf) (he : ∀ e, event = some e → q.disjoint e) :
    (s.stick count ovf event).rd q = (if s.rd count < 2 ^ count.w - 1 then s.wr count (s.rd count + 1) else s).rd q := by
  have c1 : (if s.rd count < 2 ^ count.w - 1 then s.wr count (s.rd count + 1) else s).canonical := by
    split
    · exact State.canonical_wr c
    · exact c
  unfold State.stick
  dsimp only
  generalize (if s.rd count < 2 ^ count.w - 1 then s.wr count (s.rd count + 1) else s) = s1 at c1 ⊢
  have flagged : (s1.wr ovf 1).rd q = s1.rd q := State.rd_wr_disjoint c1 ho
  split
  · rfl
  · split
    · next e =>
      split
      · rw [State.rd_irq_disjoint (State.canonical_wr c1) (he e rfl), flagged]
      · exact flagged
    · exact flagged

theorem State.rd_stick_disjoint (c : s.canonical) (hc : q.disjoint count) (ho : q.disjoint ovf) (he : ∀ e, event = some e → q.disjoint e) :
    (s.stick count ovf event).rd q = s.rd q := by
  rw [State.rd_stick c ho he]
  split
  · exact State.rd_wr_disjoint c hc
  · rfl

/-- A counter counts and stays at all ones (R61). -/
theorem State.rd_stick_count (c : s.canonical) (hw : count.lo + count.w ≤ 32) (hc : count.cfg = false) (ho : count.disjoint ovf)
    (he : ∀ e, event = some e → count.disjoint e) : (s.stick count ovf event).rd count = min (s.rd count + 1) (2 ^ count.w - 1) := by
  have bound := State.rd_lt (s := s) hw
  rw [State.rd_stick c ho he]
  split
  · rw [State.rd_wr c hw hc, Nat.mod_eq_of_lt (by omega)]
    omega
  · omega

end

/-! ### Banks -/

theorem Keyed.get_put {α : Type} {d v : α} {n : Nat} : ∀ m : Keyed α, Keyed.get d (Keyed.put m n v) n = v
  | [] => if_pos rfl
  | (a, w) :: m => by
    unfold Keyed.put
    split
    · exact if_pos rfl
    · split
      · exact if_pos rfl
      · next ne => rw [Keyed.get, if_neg ne, Keyed.get_put m]

@[simp] theorem State.modBank_bank {f : AfeBank → AfeBank} : (s.modBank b f).bank b = f (s.bank b) := Keyed.get_put _

theorem State.bank_congr (h : t.afe = s.afe) : t.bank b = s.bank b := by
  unfold State.bank
  rw [h]

theorem Kept.bank (h : Kept l s t) (hl : Part.afe ∉ l) : t.bank b = s.bank b := State.bank_congr (h.only.1 .afe hl)

@[simp] theorem State.wr_bank {v : Nat} : (s.wr r v).bank b = s.bank b := State.bank_congr State.wr_afe

@[simp] theorem State.irq_bank : (s.irq r).bank b = s.bank b := State.wr_bank

section
variable {count ovf : Ref} {event : Option Ref}

/-- A counter is in the registers. -/
theorem State.stick_regs : Kept [.regs] s (s.stick count ovf event) :=
  have all {x : Ref} : Zoned [.regs] x := Zoned.all (Part.among_self (by decide))
  State.stick_kept (Kept.refl _ s) all all fun _ _ => all

@[simp] theorem State.stick_bank : (s.stick count ovf event).bank b = s.bank b := State.stick_regs.bank (by decide)

theorem State.canonical_stick (c : s.canonical) : (s.stick count ovf event).canonical := State.stick_regs.canon c

end

section
variable {code detail : Nat}

/-- So is a fault. -/
theorem State.fault_regs : Kept [.regs] s (s.fault r code detail) :=
  State.fault_kept (Kept.refl _ s) (Zoned.all (Part.among_self (by decide))) (Part.within_of_check (by decide))

@[simp] theorem State.fault_bank : (s.fault r code detail).bank b = s.bank b := State.fault_regs.bank (by decide)

theorem State.canonical_fault (c : s.canonical) : (s.fault r code detail).canonical := State.fault_regs.canon c

end

@[simp] theorem State.passEntry_bank {n : Nat} {e : ConvEntry} : (s.passEntry n e).bank b = s.bank b :=
  (State.passEntry_kept (Kept.refl _ s) fun _ h => Part.among_self h).bank (by decide)

@[simp] theorem State.compareSpare_bank {n g m : Nat} {live : ModTerm} {x y : Int} : (s.compareSpare n g m live x y).bank b = s.bank b :=
  (State.compareSpare_kept (Kept.refl _ s) fun _ h => Part.among_self h).bank (by decide)

@[simp] theorem State.scanEnd_running : ((s.scanEnd b).bank b).running = (s.bank b).running := by
  unfold State.scanEnd
  dsimp only
  split
  · rfl
  · simp

@[simp] theorem State.handoverWait_bank {n : Nat} : (s.handoverWait n).bank b = s.bank b :=
  (State.handoverWait_kept (Kept.refl _ s) fun _ h => Part.among_self h).bank (by decide)

/-! ### Passing an entry to ARITH (R151, R154) -/

/-- An entry that joins ARITH's queue, or does not, leaves the registers of other pages. -/
theorem State.arithQueue_rd {e : ConvEntry} (c : s.canonical) (hq : q.lo + q.w ≤ 32) (hp : q.addr / 0x1000 ≠ 0x11) :
    (s.arithQueue e).rd q = s.rd q := by
  have apart : ∀ {r : Ref}, r.lo + r.w ≤ 32 → r.addr / 0x1000 = 0x11 → q.disjoint r := fun hr e => Ref.disjoint_of_page hq hr (e ▸ hp)
  unfold State.arithQueue
  split
  · rfl
  · split
    · refine (State.rd_irq_disjoint (State.canonical_stick c) (apart (by decide) rfl)).trans ?_
      refine State.rd_stick_disjoint c (apart (by decide) rfl) (apart (by decide) rfl) fun e he => ?_
      cases he
      exact apart (by decide) rfl
    · dsimp only
      split
      · exact State.rd_wr_other hq (fun e => hp (e ▸ rfl)) (.inl (by decide))
      · rfl

theorem State.passEntry_rd {n : Nat} {e : ConvEntry} (c : s.canonical) (hq : q.lo + q.w ≤ 32) (hp : q.addr / 0x1000 ≠ 0x11) :
    (s.passEntry n e).rd q = s.rd q := by
  unfold State.passEntry
  dsimp only
  split
  · exact State.arithQueue_rd c hq hp
  · split
    · split
      · exact State.arithQueue_rd c hq hp
      · rfl
    · rfl

end

/-! ### The running slots of a bank -/

section
variable {s t : State} {b k : Nat} {r x : SlotRun}

theorem State.slotRun_lt (h : s.slotRun b k = some r) : b < 8 := by
  unfold State.slotRun at h
  split at h
  · assumption
  · cases h

theorem State.slotRun_eq (hb : b < 8) : s.slotRun b k = (s.bank b).running.find? fun r => r.ctx == k := if_pos hb

theorem State.slotRun_ctx (h : s.slotRun b k = some r) : r.ctx = k := by
  rw [State.slotRun_eq (State.slotRun_lt h)] at h
  simpa using List.find?_some h

theorem State.slotRun_congr (h : (t.bank b).running = (s.bank b).running) : t.slotRun b k = s.slotRun b k := by
  unfold State.slotRun
  rw [h]

/-- A change of slots that leaves their contexts does not change which slot is a context's. -/
theorem find?_ctx_map {f : SlotRun → SlotRun} (hf : ∀ y, (f y).ctx = y.ctx) (runs : List SlotRun) :
    (runs.map f).find? (fun y => y.ctx == k) = (runs.find? fun y => y.ctx == k).map f := by
  rw [List.find?_map]
  congr 2
  funext y
  exact congrArg (· == k) (hf y)

/-- The slot that replaces a context's is the context's. -/
theorem State.slotRun_setRun (h : s.slotRun b k = some r) (hx : x.ctx = k) : (s.setRun b x).slotRun b k = some x := by
  have hb := State.slotRun_lt h
  have ctx : ∀ y : SlotRun, (if y.ctx = x.ctx then x else y).ctx = y.ctx := fun y => by
    split
    · next e => exact e.symm
    · rfl
  have same : r.ctx = x.ctx := (State.slotRun_ctx h).trans hx.symm
  rw [State.slotRun_eq hb] at h ⊢
  rw [State.setRun, State.modBank_bank, find?_ctx_map ctx, h, Option.map_some, if_pos same]

/-! ### The main phase begins (R131, R152) -/

/-- The context's slot is replaced by one in its main phase, with its configuration fixed, after a note in CAL. -/
theorem State.beginMain_eq : ∃ (t : State) (x : SlotRun), s.beginMain b r = t.setRun b x ∧ t.bank b = s.bank b ∧ x.ctx = r.ctx ∧ x.phase = .main ∧
    x.entry.map ConvEntry.words = some (s.ctxWords b r.ctx) :=
  ⟨_, _, rfl, by split <;> rfl, rfl, rfl, rfl⟩

theorem State.beginMain_slotRun (h : s.slotRun b k = some r) :
    ((s.beginMain b r).slotRun b k).map SlotRun.phase = some .main ∧
      (((s.beginMain b r).slotRun b k).bind SlotRun.entry).map ConvEntry.words = some (s.ctxWords b k) := by
  obtain ⟨t, x, e, same, ctx, phase, words⟩ := State.beginMain_eq (s := s) (b := b) (r := r)
  have own := State.slotRun_ctx h
  rw [← State.slotRun_congr (congrArg AfeBank.running same)] at h
  rw [e, State.slotRun_setRun h (ctx.trans own)]
  exact ⟨congrArg some phase, words.trans (by rw [own])⟩

theorem State.beginMain_todo : ((s.beginMain b r).bank b).todo = (s.bank b).todo := by
  obtain ⟨t, x, e, same, -⟩ := State.beginMain_eq (s := s) (b := b) (r := r)
  rw [e, State.setRun, State.modBank_bank, same]

/-! ### A conversion ends without a result (R102, R110) -/

/-- A slot that is cut short keeps its phase. -/
theorem AfeBank.cutShort_phase {a : AfeBank} {ctx now : Nat} :
    (((a.cutShort ctx now).running.find? fun y => y.ctx == k).map SlotRun.phase) = (a.running.find? fun y => y.ctx == k).map SlotRun.phase := by
  unfold AfeBank.cutShort
  split
  · rfl
  · dsimp only
    rw [find?_ctx_map fun y => by split <;> rfl, Option.map_map]
    congr 1
    funext y
    dsimp only [Function.comp]
    split <;> rfl

/-- Cutting a slot short changes only the delay and the running slots of its bank. -/
theorem AfeBank.cutShort_eq {a : AfeBank} {ctx now : Nat} : ∃ d runs, a.cutShort ctx now = { a with delay := d, running := runs } := by
  unfold AfeBank.cutShort
  split
  · exact ⟨a.delay, a.running, rfl⟩
  · exact ⟨_, _, rfl⟩

section
variable {kind : EntryKind}

theorem State.endRun_phase (h : s.slotRun b k = some r) (hx : x.ctx = k) :
    ((s.endRun b x kind).slotRun b k).map SlotRun.phase = some .ended := by
  have hb := State.slotRun_lt h
  have ended := State.slotRun_setRun (x := { x with phase := .ended, source := 0, entry := none, sense := 0 }) h hx
  rw [State.slotRun_eq hb] at ended ⊢
  rw [State.endRun, State.passEntry_bank, State.modBank_bank, AfeBank.cutShort_phase, ended]
  rfl

/-- The end of a conversion changes only the delay and the running slots of its bank. -/
theorem State.endRun_bank : ∃ d runs, (s.endRun b r kind).bank b = { s.bank b with delay := d, running := runs } := by
  rw [State.endRun, State.passEntry_bank, State.modBank_bank, State.setRun, State.modBank_bank]
  exact AfeBank.cutShort_eq

@[simp] theorem State.endRun_openNow : ((s.endRun b r kind).bank b).openNow = (s.bank b).openNow := by
  obtain ⟨d, runs, e⟩ := State.endRun_bank (s := s) (b := b) (r := r) (kind := kind)
  rw [e]

@[simp] theorem State.endRun_abortNow : ((s.endRun b r kind).bank b).abortNow = (s.bank b).abortNow := by
  obtain ⟨d, runs, e⟩ := State.endRun_bank (s := s) (b := b) (r := r) (kind := kind)
  rw [e]

@[simp] theorem State.endRun_bridgeTripped : ((s.endRun b r kind).bank b).bridgeTripped = (s.bank b).bridgeTripped := by
  obtain ⟨d, runs, e⟩ := State.endRun_bank (s := s) (b := b) (r := r) (kind := kind)
  rw [e]

theorem State.endRun_rd {q : Ref} (c : s.canonical) (hq : q.lo + q.w ≤ 32) (hp : q.addr / 0x1000 ≠ 0x11) : (s.endRun b r kind).rd q = s.rd q :=
  State.passEntry_rd (State.canonical_modBank (State.canonical_modBank c)) hq hp

theorem State.canonical_endRun (c : s.canonical) : (s.endRun b r kind).canonical :=
  (State.endRun_kept (Kept.refl _ s) fun _ h => Part.among_self h).canon c

end

end

/-! ### The start of a slot (R100, R101) -/

section
variable {s : State} {b k : Nat} {o : Slot}

theorem mem_dropFrom {l : List Nat} {x y : Nat} : x ∈ dropFrom l y ↔ x ∈ l ∧ x ≠ y := by simp [dropFrom]

/-- Slots that run late are charged; which lane and context they are of stays. -/
theorem AfeBank.charge_running {a : AfeBank} {t : Nat} {r : SlotRun} (h : r ∈ (a.charge t).running) :
    ∃ x ∈ a.running, r.lane = x.lane ∧ r.ctx = x.ctx := by
  simp only [AfeBank.charge, List.mem_map] at h
  obtain ⟨x, hx, rfl⟩ := h
  exact ⟨x, hx, by split <;> exact ⟨rfl, rfl⟩⟩

/-- The bank when a slot is to start, its late slots charged (R109). -/
def State.charged (s : State) (b : Nat) (o : Slot) : AfeBank := (s.bank b).charge (o.start + (s.bank b).delay)

/-- The slot that starts, in its first phase (R101). -/
def State.newSlot (s : State) (b k : Nat) (o : Slot) : SlotRun :=
  let lead := s.rd (AFE.CTX.lead_mode b k) == 3 && s.leadLap b k
  { ctx := k, lane := o.lane, source := o.source, leadLap := lead, words := s.ctxWords b k
    phase := if s.rd (AFE.CTX.type_ b k) = 1 then .burnout else if lead then .lead else if s.rd (AFE.CTX.lead_mode b k) = 3 then .waiting else .main
    began := o.start + (s.charged b o).delay }

/-- The type of the context asks for a burn-out check first, and its lead mode for a lead interval. -/
theorem State.newSlot_phase : (s.newSlot b k o).phase = if s.rd (AFE.CTX.type_ b k) = 1 then .burnout else
    if s.rd (AFE.CTX.lead_mode b k) = 3 then (if s.leadLap b k then .lead else .waiting) else .main := by
  unfold State.newSlot
  by_cases lead : s.rd (AFE.CTX.lead_mode b k) = 3 <;> simp [lead]

theorem State.bank_ite_pair {p : Prop} [Decidable p] {x : PairState} : (if p then { s with pair := x } else s).bank b = s.bank b := by
  split <;> rfl

/-- A slot starts: the context is no longer to be scanned, and the slot is the last of the running ones. -/
theorem execSlotStart_starts (found : (s.bank b).sched.find? (fun o => o.ctx == k) = some o) (hb : b < 8) (working : s.working (8 + b) = true)
    (due : k ∈ (s.bank b).todo) (free : ∀ r ∈ (s.bank b).running, r.lane ≠ o.lane ∧ r.ctx ≠ k) (enabled : s.flag (AFE.CTX.enable b k) = true)
    (spare : s.hasSpare b = true) (bridge : (s.bank b).bridgeTripped = false)
    (excitation : o.source = 0 ∨ s.flag (AFE.MODE.listen b) = true ∨ s.flag (AFE.MODE.excown b) = true) :
    ∃ t : State, execSlotStart b k s = (if (s.newSlot b k o).phase = .main then .next (t.beginMain b (s.newSlot b k o)) else .next t) ∧
      (t.bank b).running = (s.charged b o).running ++ [s.newSlot b k o] ∧ (t.bank b).todo = dropFrom (s.bank b).todo k ∧ Kept [.afe, .pair] s t := by
  have runs : (!(decide (b < 8) && s.working (8 + b) && (s.charged b o).todo.contains k) || (s.charged b o).running.any (fun r => r.lane == o.lane)) =
      false := by
    have lanes : (s.charged b o).running.any (fun r => r.lane == o.lane) = false := by
      rw [List.any_eq_false]
      intro r hr
      obtain ⟨x, hx, lane, -⟩ := AfeBank.charge_running hr
      rw [lane, beq_iff_eq]
      exact (free x hx).1
    have todo : (s.charged b o).todo.contains k = true := List.contains_iff_mem.mpr due
    rw [lanes, todo, working, decide_eq_true hb]
    rfl
  have supplied : (decide (s.rd (AFE.CTX.type_ b k) = 9) && (s.charged b o).bridgeTripped) = false := by
    rw [show (s.charged b o).bridgeTripped = false from bridge, Bool.and_false]
  have driven : (decide (o.source ≠ 0) && !s.flag (AFE.MODE.listen b) && !s.flag (AFE.MODE.excown b)) = false := by
    rcases excitation with e | e | e <;> simp [e]
  unfold State.charged at runs supplied
  unfold execSlotStart
  dsimp only
  rw [found]
  dsimp only
  rw [State.modBank_bank, runs, if_neg Bool.false_ne_true, enabled, if_neg (by decide), spare, if_neg (by simp), supplied, if_neg Bool.false_ne_true,
    driven, if_neg Bool.false_ne_true]
  refine ⟨_, rfl, ?_, ?_, ?_⟩
  · rw [State.bank_ite_pair, State.modBank_bank, State.modBank_bank]
    rfl
  · rw [State.bank_ite_pair, State.modBank_bank, State.modBank_bank]
    rfl
  · refine Kept.ite (Kept.pair ?_ (Part.among_self (by decide))) ?_ <;>
      exact State.modBank_kept (State.modBank_kept (Kept.refl _ s) (Part.within_of_check (by decide))) (Part.within_of_check (by decide))

/-- Of the running slots the new one is its context's. -/
theorem State.slotRun_newSlot {t : State} (free : ∀ r ∈ (s.bank b).running, r.lane ≠ o.lane ∧ r.ctx ≠ k) (hb : b < 8)
    (running : (t.bank b).running = (s.charged b o).running ++ [s.newSlot b k o]) : t.slotRun b k = some (s.newSlot b k o) := by
  have others : (s.charged b o).running.find? (fun r => r.ctx == k) = none := by
    rw [List.find?_eq_none]
    intro r hr
    obtain ⟨x, hx, -, ctx⟩ := AfeBank.charge_running hr
    rw [ctx, beq_iff_eq]
    exact (free x hx).2
  rw [State.slotRun_eq hb, running, List.find?_append, others, Option.none_or, List.find?_cons_of_pos]
  exact beq_self_eq_true k

end

/-! ### The steps of a running slot -/

section
variable {s : State} {b k : Nat} {r : SlotRun}

theorem execMainPhaseStart_waiting (h : s.slotRun b k = some r) (phase : r.phase = .waiting) : execMainPhaseStart b k s = .next (s.beginMain b r) := by
  unfold execMainPhaseStart
  simp [h, phase]

theorem execSettleEnd_settles (h : s.slotRun b k = some r) (phase : r.phase = .lead ∨ r.phase = .main) :
    execSettleEnd b k s = .next ((s.setRun b { r with settled := true }).evidence b r 1) := by
  unfold execSettleEnd
  simp [h, phase]

section
variable {c d : Int} {x : Bool} {e : ConvEntry}

/-- The slot with one sample more. -/
def SlotRun.sampled (r : SlotRun) (c d : Int) (x : Bool) : SlotRun :=
  { r with sum := r.sum + clampSigned 24 c, spareSum := r.spareSum + clampSigned 24 d, count := r.count + 1, overload := r.overload || x }

theorem execSampleOut_counts (h : s.slotRun b k = some r) (phase : r.phase = .main) (settled : r.settled = true) (entry : r.entry = some e)
    (more : r.count + 1 < e.n) : execSampleOut b k c d x s = .next (s.setRun b (r.sampled c d x)) := by
  unfold execSampleOut
  simp [h, phase, settled, entry, more, SlotRun.sampled]

/-- The last sample ends the phase; what follows is the entry that is passed and the comparison of an overlap. -/
theorem execSampleOut_last (h : s.slotRun b k = some r) (phase : r.phase = .main) (settled : r.settled = true) (entry : r.entry = some e)
    (last : e.n ≤ r.count + 1) : ∃ t, execSampleOut b k c d x s = .next t ∧
      t.bank b = (s.setRun b { r.sampled c d x with phase := .ended, entry := none }).bank b := by
  unfold execSampleOut
  rw [h]
  dsimp only
  rw [if_neg (by rw [settled]; decide), if_neg (by rw [phase]; decide), if_neg (by rw [phase]; decide), entry]
  dsimp only
  rw [if_neg (Nat.not_lt.mpr last)]
  split
  · exact ⟨_, rfl, by rw [State.compareSpare_bank, State.passEntry_bank]; rfl⟩
  · exact ⟨_, rfl, by rw [State.passEntry_bank]; rfl⟩

end

theorem execSlotEnd_running (h : s.slotRun b k = some r) (phase : r.phase ≠ .ended) : execSlotEnd b k s = .next s := by
  unfold execSlotEnd
  simp [h, phase]

/-- The end of a slot takes its context from the running ones. -/
theorem execSlotEnd_ended (h : s.slotRun b k = some r) (phase : r.phase = .ended) :
    ∃ t, execSlotEnd b k s = .next t ∧ (t.bank b).running = (s.bank b).running.filter fun y => y.ctx != k := by
  unfold execSlotEnd
  rw [h]
  dsimp only
  rw [if_neg (not_not_intro phase)]
  exact ⟨_, rfl, by rw [State.handoverWait_bank, State.scanEnd_running, State.modBank_bank]⟩

end

section
variable {s t : State} {b k : Nat} {r : SlotRun}

/-! ### Open wires (R102 to R104) -/

/-- What the end of a conversion without a result may change with the marks, the events and the counters of its bank. -/
def openParts : List Part := [.afe, .head 0x14, .lap, .page 0x11, .arith, .pair, .pages 0x08 0x10]

/-- A conversion has ended at an open wire: its context is marked, and it is counted. -/
def State.openShown (s : State) (b k : Nat) (t : State) : Prop :=
  (t.slotRun b k).map SlotRun.phase = some .ended ∧ bit (t.bank b).openNow k = true ∧ t.rd (AFE.IRQRAW.open_ b) = 1 ∧
    t.rd (AFE.OPENCNT.count b) = min (s.rd (AFE.OPENCNT.count b) + 1) (2 ^ 32 - 1) ∧ onlyChanges openParts s t

/-- So it ends where the wire is found open, also after other parts of the bank have changed. -/
theorem State.openFound_shown (kept : Kept openParts s t) (c : t.canonical) (h : t.slotRun b k = some r)
    (same : t.rd (AFE.OPENCNT.count b) = s.rd (AFE.OPENCNT.count b)) : s.openShown b k (t.openFound b r) := by
  have ctx := State.slotRun_ctx h
  have cm : (t.modBank b fun a => { a with openNow := a.openNow ||| 2 ^ r.ctx }).canonical := State.canonical_modBank c
  have ci := State.canonical_irq (r := AFE.IRQRAW.open_ b) cm
  have cs := State.canonical_stick (count := AFE.OPENCNT.count b) (ovf := AFE.CNTOVF.open_ b) (event := some (AFE.IRQRAW.cnt_ovf b)) ci
  refine ⟨State.endRun_phase ((State.slotRun_congr ?_).trans h) ctx, ?_, ?_, ?_, (State.openFound_kept kept fun _ h => Part.among_self h).only⟩
  · simp
  · rw [State.openFound, State.endRun_openNow, State.stick_bank, State.irq_bank, State.modBank_bank, ctx]
    exact bit_or_two_pow _ _
  · rw [State.openFound, State.endRun_rd cs (Nat.le_of_ble_eq_true rfl) (by simp only [AFE.IRQRAW.open_]; omega),
      State.rd_stick_disjoint ci (by simp [Ref.disjoint, AFE.IRQRAW.open_, AFE.OPENCNT.count]) (by simp [Ref.disjoint, AFE.IRQRAW.open_, AFE.CNTOVF.open_])
        (by simp [Ref.disjoint, AFE.IRQRAW.open_, AFE.IRQRAW.cnt_ovf])]
    exact State.rd_irq cm (Nat.le_of_ble_eq_true rfl) rfl rfl
  · rw [State.openFound, State.endRun_rd cs (Nat.le_of_ble_eq_true rfl) (by simp only [AFE.OPENCNT.count]; omega),
      State.rd_stick_count ci (Nat.le_of_ble_eq_true rfl) rfl (by simp [Ref.disjoint, AFE.OPENCNT.count, AFE.CNTOVF.open_])
        (by simp [Ref.disjoint, AFE.OPENCNT.count, AFE.IRQRAW.cnt_ovf]),
      State.rd_irq_disjoint cm (by simp [Ref.disjoint, AFE.OPENCNT.count, AFE.IRQRAW.open_]), State.modBank_rd, same]
    rfl

/-! ### What the checks of a running slot do -/

theorem execBurnoutCheckEnd_open {uv : Int} (h : s.slotRun b k = some r) (phase : r.phase = .burnout) (high : 100000 < uv.natAbs)
    (listen : s.flag (AFE.MODE.listen b) = false) :
    execBurnoutCheckEnd b k uv s = .next ((s.stick (AFE.BOCNT.count b) (AFE.CNTOVF.bo b) (some (AFE.IRQRAW.cnt_ovf b))).openFound b r) := by
  unfold execBurnoutCheckEnd
  simp [h, phase, high, listen]

theorem execBurnoutCheckEnd_whole {uv : Int} (h : s.slotRun b k = some r) (phase : r.phase = .burnout) (low : uv.natAbs ≤ 100000) :
    execBurnoutCheckEnd b k uv s = .next (s.beginMain b r) := by
  unfold execBurnoutCheckEnd
  simp [h, phase, Nat.not_lt.mpr low]

theorem execSenseCheckEnd_open {neg : Bool} {uv : Int} (h : s.slotRun b k = some r) (phase : r.phase = .main) (unsettled : r.settled = false)
    (high : 100000 < uv.natAbs) (listen : s.flag (AFE.MODE.listen b) = false)
    (tested : r.ctxField (AFE.CTX.type_ 0 0) = 4 ∨ r.ctxField (AFE.CTX.type_ 0 0) = 7 ∨
      ((r.ctxField (AFE.CTX.type_ 0 0) = 3 ∨ r.ctxField (AFE.CTX.type_ 0 0) = 6) ∧ neg = false)) :
    execSenseCheckEnd b k neg uv s = .next (s.openFound b r) := by
  have tests : (r.ctxField (AFE.CTX.type_ 0 0) == 4 || r.ctxField (AFE.CTX.type_ 0 0) == 7 ||
      ((r.ctxField (AFE.CTX.type_ 0 0) == 3 || r.ctxField (AFE.CTX.type_ 0 0) == 6) && !neg)) = true := by
    simpa [or_assoc] using tested
  unfold execSenseCheckEnd
  simp [h, phase, unsettled, high, listen, tests]

theorem execSourceCompliance_open (h : s.slotRun b k = some r) (steers : (s.steering b r).source ≠ 0) (phase : r.phase ≠ .ended) :
    execSourceCompliance b k s = .next (s.openFound b r) := by
  unfold execSourceCompliance
  simp [h, phase, steers]

/-! ### Changes of the excitation (R107 to R110) -/

/-- The slot is in a phase that an excitation change discards, and has an excitation that can change. -/
def SlotRun.excited (r : SlotRun) : Prop :=
  (r.phase = .lead ∨ r.phase = .main) ∧ (r.source ≠ 0 ∨ r.ctxField (AFE.CTX.type_ 0 0) = 9)

theorem SlotRun.excited_check (h : r.excited) :
    (!((r.phase = .lead ∨ r.phase = .main) && (r.source != 0 || r.ctxField (AFE.CTX.type_ 0 0) == 9))) = false := by
  obtain ⟨phase, source⟩ := h
  rw [decide_eq_true phase]
  simpa [Decidable.or_iff_not_imp_left] using source

/-- The bank has seen the change in its sources (R111). -/
def State.changeSeen (s : State) (b : Nat) (r : SlotRun) : State :=
  s.modBank b fun a => { a with changedA := a.changedA || r.source == 1, changedB := a.changedB || r.source == 2 }

section
variable {us : Nat} {absent : Bool}

theorem excitationPresent_check (h : s.flag (AFE.MODE.listen b) = false ∨ absent = false) : ¬(s.flag (AFE.MODE.listen b) && absent) = true := by
  cases h with
  | inl e => simp [e]
  | inr e => simp [e]

theorem execExcitationChange_restart (h : s.slotRun b k = some r) (excited : r.excited)
    (there : s.flag (AFE.MODE.listen b) = false ∨ absent = false) (few : r.restarts < 2) :
    ∃ (g : AfeBank → AfeBank) (x : SlotRun), execExcitationChange b k us absent s =
        .next (((((s.changeSeen b r).modBank b g).irq (AFE.IRQRAW.restart b)).stick (AFE.RESTARTCNT.count b) (AFE.CNTOVF.restart b)
          (some (AFE.IRQRAW.cnt_ovf b))).setRun b x) ∧
      (∀ a, (g a).restartNow = a.restartNow ||| 2 ^ k ∧ (g a).running = a.running) ∧
      x.ctx = r.ctx ∧ (x.phase, x.restarts, x.count, x.settled) = (r.phase, r.restarts + 1, 0, false) := by
  unfold execExcitationChange
  rw [h]
  dsimp only
  rw [SlotRun.excited_check excited, if_neg Bool.false_ne_true, if_neg (excitationPresent_check there), if_neg (Nat.not_le.mpr few)]
  exact ⟨_, _, rfl, fun _ => ⟨rfl, rfl⟩, rfl, rfl⟩

theorem execExcitationChange_abort (h : s.slotRun b k = some r) (excited : r.excited)
    (there : s.flag (AFE.MODE.listen b) = false ∨ absent = false) (third : 2 ≤ r.restarts) :
    execExcitationChange b k us absent s =
      .next ((((s.changeSeen b r).modBank b fun a => { a with abortNow := a.abortNow ||| 2 ^ k }).irq (AFE.IRQRAW.abort b)).endRun b r .abort) := by
  unfold execExcitationChange
  rw [h]
  dsimp only
  rw [SlotRun.excited_check excited, if_neg Bool.false_ne_true, if_neg (excitationPresent_check there), if_pos third]
  rfl

theorem execExcitationChange_absent (h : s.slotRun b k = some r) (excited : r.excited) (listen : s.flag (AFE.MODE.listen b) = true) :
    ∃ x : SlotRun, execExcitationChange b k us true s = .next ((s.evidence b r 2).endRun b x .abandoned) ∧ x.ctx = r.ctx := by
  unfold execExcitationChange
  rw [h]
  dsimp only
  rw [SlotRun.excited_check excited, if_neg Bool.false_ne_true, if_pos (by rw [listen]; rfl)]
  exact ⟨_, rfl, rfl⟩

end

/-- The newest slot with a source since the newest claim tells of the partner's excitation, any other does not (R338). -/
theorem State.rd_evidence {v : Nat} (c : s.canonical) (listen : s.flag (AFE.MODE.listen b) = true) :
    (s.evidence b r v).rd PAIR.STAT.evidence = if s.pair.slot = some (20 * b + r.ctx) then v % 4 else s.rd PAIR.STAT.evidence := by
  unfold State.evidence
  rw [listen, Bool.true_and]
  by_cases newest : s.pair.slot = some (20 * b + r.ctx)
  · rw [if_pos (beq_iff_eq.mpr newest), if_pos newest]
    exact State.rd_wr c (by decide) rfl
  · rw [if_neg (mt beq_iff_eq.mp newest), if_neg newest]

@[simp] theorem State.evidence_bank {n v : Nat} : (s.evidence n r v).bank b = s.bank b :=
  (State.evidence_kept (Kept.refl _ s) fun _ h => Part.among_self h).bank (by decide)

theorem State.canonical_evidence {v : Nat} (c : s.canonical) : (s.evidence b r v).canonical :=
  (State.evidence_kept (Kept.refl _ s) fun _ h => Part.among_self h).canon c

end

/-! ### Faults of a bank (R86, R106) -/

section
variable {s : State} {b i : Nat} {r : Ref}

/-- A fault is shown by its bit (R41, R44). -/
theorem State.rd_fault {code detail : Nat} (c : s.canonical) (one : r.w = 1) (hc : r.cfg = false)
    (hi : r.disjoint (HDR.FAULTINFO (r.addr / 0x1000))) (hs : r.disjoint (HDR.IRQRAW.fault_set (r.addr / 0x1000))) :
    (s.fault r code detail).rd r = 1 := by
  unfold State.fault
  dsimp only
  generalize e : (if s.rd (HDR.FAULT (r.addr / 0x1000)) = 0 then s.wr (HDR.FAULTINFO (r.addr / 0x1000)) (detail % 65536 * 65536 + code) else s) = s1
  have told : s1.canonical ∧ s1.rd r = s.rd r := by
    rw [← e]
    split
    · exact ⟨State.canonical_wr c, State.rd_wr_disjoint c hi⟩
    · exact ⟨c, rfl⟩
  split
  · next shown =>
    have bound := State.rd_lt (s := s) hi.1
    rw [one] at bound
    rw [told.2]
    simp only [State.flag, bne_iff_ne] at shown
    omega
  · rw [State.rd_irq_disjoint (State.canonical_wr told.1) hs]
    exact State.rd_wr_one told.1 hi.1 one hc

/-- The bridge supply of a bank is off after an overcurrent, with its fault shown (R86). -/
def State.bridgeFaulted (s : State) (b : Nat) : Prop :=
  s.canonical ∧ s.rd (AFE.FAULT.bridge b) = 1 ∧ (s.bank b).bridgeTripped = true

/-- So it is from the overcurrent on. -/
theorem State.bridgeFaulted_fault (c : s.canonical) :
    ((s.modBank b fun a => { a with bridgeTripped := true }).fault (AFE.FAULT.bridge b) 0x0113).bridgeFaulted b := by
  have cm : (s.modBank b fun a => { a with bridgeTripped := true }).canonical := State.canonical_modBank c
  refine ⟨State.canonical_fault cm, State.rd_fault cm rfl rfl ?_ ?_, by simp⟩
  · simp [Ref.disjoint, AFE.FAULT.bridge, HDR.FAULTINFO]; omega
  · simp [Ref.disjoint, AFE.FAULT.bridge, HDR.IRQRAW.fault_set]

/-- So it stays when a conversion on the bridge ends as open. -/
theorem State.bridgeFaulted_endRun {x : SlotRun} (h : s.bridgeFaulted b) :
    ((s.modBank b fun a => { a with openNow := a.openNow ||| 2 ^ x.ctx }).endRun b x .openWire).bridgeFaulted b := by
  obtain ⟨c, fault, tripped⟩ := h
  have cm : (s.modBank b fun a => { a with openNow := a.openNow ||| 2 ^ x.ctx }).canonical := State.canonical_modBank c
  have page : (AFE.FAULT.bridge b).addr / 0x1000 ≠ 0x11 := by simp only [AFE.FAULT.bridge]; omega
  refine ⟨State.canonical_endRun cm, (State.endRun_rd cm (Nat.le_of_ble_eq_true rfl) page).trans fault, ?_⟩
  rw [State.endRun_bridgeTripped, State.modBank_bank]
  exact tripped

theorem State.bridgeOn_of_faulted (h : s.bridgeFaulted b) : s.bridgeOn b = false := by
  obtain ⟨-, -, tripped⟩ := h
  simp only [State.bridgeOn, tripped, Bool.not_true, Bool.and_false]

/-- A bit of a register that is written 1 shows. -/
theorem State.bit_rd_wr (c : s.canonical) (hlo : r.lo = 0) (hw : r.w ≤ 32) (hi : i < r.w) (hc : r.cfg = false) :
    bit ((s.wr { r with lo := i, w := 1 } 1).rd r) i = true := by
  have narrow : i + 1 ≤ 32 := by omega
  have one : (s.wr { r with lo := i, w := 1 } 1).rd { r with lo := i, w := 1 } = 1 := State.rd_wr c narrow hc
  rw [State.bit_rd hlo hw hi, one]
  rfl

end

end Sys2Proof.Machine

namespace Sys2Proof.Proofs

open Sys2Proof.Machine

section
variable {s : State} {b k : Nat}

/-! ### Slots (R100, R101) -/

theorem slotStart_starts {o : Slot} (found : (s.bank b).sched.find? (fun o => o.ctx == k) = some o) (hb : b < 8) (working : s.working (8 + b) = true)
    (due : k ∈ (s.bank b).todo) (free : ∀ r ∈ (s.bank b).running, r.lane ≠ o.lane ∧ r.ctx ≠ k) (enabled : s.flag (AFE.CTX.enable b k) = true)
    (spare : s.hasSpare b = true) (bridge : (s.bank b).bridgeTripped = false)
    (excitation : o.source = 0 ∨ s.flag (AFE.MODE.listen b) = true ∨ s.flag (AFE.MODE.excown b) = true) :
    answers (.slotStart b k) s fun t => (t.slotRun b k).map SlotRun.phase = some (s.newSlot b k o).phase ∧ k ∉ (t.bank b).todo ∧
      onlyChanges [.afe, .cal, .pair] s t := by
  obtain ⟨t, e, running, todo, kept⟩ := execSlotStart_starts found hb working due free enabled spare bridge excitation
  have own := State.slotRun_newSlot free hb running
  have keptAll : Kept [.afe, .cal, .pair] s t := kept.mono (Part.within_of_check (by decide))
  have scanned : k ∉ (t.bank b).todo := fun m => (mem_dropFrom.mp (todo ▸ m)).2 rfl
  by_cases main : (s.newSlot b k o).phase = .main
  · refine ⟨_, e.trans (if_pos main), ?_, ?_, (State.beginMain_kept keptAll (Part.within_of_check (by decide))).only⟩
    · exact (State.beginMain_slotRun own).1.trans (congrArg some main.symm)
    · rwa [State.beginMain_todo]
  · exact ⟨t, e.trans (if_neg main), by rw [own]; rfl, scanned, keptAll.only⟩

variable {r : SlotRun}

theorem mainPhaseStart_begins (h : s.slotRun b k = some r) (phase : r.phase = .waiting) : answers (.mainPhaseStart b k) s fun t =>
    (t.slotRun b k).map SlotRun.phase = some .main ∧ ((t.slotRun b k).bind SlotRun.entry).map ConvEntry.words = some (s.ctxWords b k) ∧
      onlyChanges [.afe, .cal] s t := by
  obtain ⟨main, words⟩ := State.beginMain_slotRun h
  exact ⟨_, execMainPhaseStart_waiting h phase, main, words, (State.beginMain_kept (Kept.refl _ s) (Part.within_of_check (by decide))).only⟩

theorem settleEnd_settles (h : s.slotRun b k = some r) (phase : r.phase = .lead ∨ r.phase = .main) : answers (.settleEnd b k) s fun t =>
    t.slotRun b k = some { r with settled := true } ∧ onlyChanges [.afe, .page 0x38] s t := by
  have step : exec (.settleEnd b k) s = .next _ := execSettleEnd_settles h phase
  refine ⟨_, step, ?_, (execSettleEnd_kept (Kept.refl _ s) (fun _ h => Part.among_self h) _ step).only⟩
  rw [State.slotRun_congr (congrArg AfeBank.running State.evidence_bank)]
  have ctx := State.slotRun_ctx h
  exact State.slotRun_setRun h ctx

theorem sampleOut_counts {c d : Int} {x : Bool} {e : ConvEntry} (h : s.slotRun b k = some r) (phase : r.phase = .main) (settled : r.settled = true)
    (entry : r.entry = some e) (more : r.count + 1 < e.n) : answers (.sampleOut b k c d x) s fun t =>
      t.slotRun b k = some (r.sampled c d x) ∧ onlyChanges [.afe] s t :=
  ⟨_, execSampleOut_counts h phase settled entry more, State.slotRun_setRun h (State.slotRun_ctx h :),
    (State.setRun_kept (Kept.refl _ s) fun _ h => Part.among_self h).only⟩

theorem sampleOut_ends {c d : Int} {x : Bool} {e : ConvEntry} (h : s.slotRun b k = some r) (phase : r.phase = .main) (settled : r.settled = true)
    (entry : r.entry = some e) (last : e.n ≤ r.count + 1) : answers (.sampleOut b k c d x) s fun t =>
      (t.slotRun b k).map SlotRun.phase = some .ended ∧
        onlyChanges [.afe, .pages 0x08 0x10, .head 0x14, .head 0x24, .head 0x20, .lap, .page 0x10, .page 0x11, .arith, .pair, .cal] s t := by
  obtain ⟨t, step, bank⟩ := execSampleOut_last (c := c) (d := d) (x := x) h phase settled entry last
  refine ⟨t, step, ?_, (execSampleOut_kept (Kept.refl _ s) (Part.within_of_check (by decide)) t step).only⟩
  have ctx := State.slotRun_ctx h
  rw [State.slotRun_congr (congrArg AfeBank.running bank), State.slotRun_setRun h (by exact ctx)]
  rfl

theorem slotEnd_takes (h : s.slotRun b k = some r) (phase : r.phase = .ended) : answers (.slotEnd b k) s fun t =>
    t.slotRun b k = none ∧ onlyChanges [.afe, .pages 0x08 0x10, .page 0x10] s t := by
  obtain ⟨t, step, running⟩ := execSlotEnd_ended h phase
  refine ⟨t, step, ?_, (execSlotEnd_kept (Kept.refl _ s) (Part.within_of_check (by decide)) t step).only⟩
  rw [State.slotRun_eq (State.slotRun_lt h), running, List.find?_eq_none]
  intro y hy
  simpa using (List.mem_filter.mp hy).2

end

/-- Settles O29: each step of a slot has its own equation above; the end of a slot whose phase still runs is an event that the state does not
admit, and changes nothing (notes/assumptions/1.md). -/
theorem slotsRunThroughTheirPhases : Obligations.SlotsRunThroughTheirPhases := by
  intro s b k _ hb
  refine ⟨fun o found working due free enabled spare bridge excitation => ?_, fun r h => ⟨mainPhaseStart_begins h, settleEnd_settles h, ?_,
    slotEnd_takes h, fun phase => ⟨s, execSlotEnd_running h phase, rfl⟩⟩⟩
  · rw [← State.newSlot_phase (o := o)]
    exact slotStart_starts found hb working due free enabled spare bridge excitation
  · exact fun c d x phase settled e entry => ⟨sampleOut_counts h phase settled entry, sampleOut_ends h phase settled entry⟩

section
variable {s : State} {b k : Nat} {r : SlotRun}

/-! ### Open wires (R102 to R104) -/

/-- What a check that finds a wire open answers. -/
theorem answers_openFound {i : Instr} (c : s.canonical) (h : s.slotRun b k = some r) (e : exec i s = .next (s.openFound b r)) :
    answers i s (s.openShown b k) :=
  ⟨_, e, State.openFound_shown (Kept.refl _ s) c h rfl⟩

/-- The burn-out check counts for itself before that (R104). -/
theorem burnoutCheckEnd_open {uv : Int} (c : s.canonical) (h : s.slotRun b k = some r) (listen : s.flag (AFE.MODE.listen b) = false)
    (phase : r.phase = .burnout) (high : 100000 < uv.natAbs) : answers (.burnoutCheckEnd b k uv) s (s.openShown b k) := by
  have counted := State.stick_kept (Kept.refl openParts s) (AFE.BOCNT.count_zoned (x0 := b) (Part.among_self (by decide)))
    (AFE.CNTOVF.bo_zoned (x0 := b) (Part.among_self (by decide))) (ZonedOpt.some (AFE.IRQRAW.cnt_ovf_zoned (x0 := b) (Part.among_self (by decide))))
  refine ⟨_, execBurnoutCheckEnd_open h phase high listen, State.openFound_shown counted (counted.canon c) ?_ ?_⟩
  · exact (State.slotRun_congr (congrArg AfeBank.running State.stick_bank)).trans h
  · exact State.rd_stick_disjoint c (by simp [Ref.disjoint, AFE.OPENCNT.count, AFE.BOCNT.count])
      (by simp [Ref.disjoint, AFE.OPENCNT.count, AFE.CNTOVF.bo]) (by simp [Ref.disjoint, AFE.OPENCNT.count, AFE.IRQRAW.cnt_ovf])

theorem burnoutCheckEnd_whole {uv : Int} (h : s.slotRun b k = some r) (phase : r.phase = .burnout) (low : uv.natAbs ≤ 100000) :
    answers (.burnoutCheckEnd b k uv) s fun t => (t.slotRun b k).map SlotRun.phase = some .main ∧
      onlyChanges [.afe, .page 0x10, .cal, .pages 0x08 0x10] s t :=
  ⟨_, execBurnoutCheckEnd_whole h phase low, (State.beginMain_slotRun h).1,
    (State.beginMain_kept (Kept.refl _ s) (Part.within_of_check (by decide))).only⟩

/-- Settles O30: each of the three checks ends the conversion in the same way, through `State.openFound`. -/
theorem openWiresEndTheConversion : Obligations.OpenWiresEndTheConversion := by
  intro s b k uv neg c r h listen
  exact ⟨burnoutCheckEnd_open c h listen, burnoutCheckEnd_whole h,
    fun phase unsettled high tested => answers_openFound c h (execSenseCheckEnd_open h phase unsettled high listen tested),
    fun steers phase => answers_openFound c h (execSourceCompliance_open h steers phase)⟩

/-! ### Changes of the excitation (R107 to R110, R338) -/

section
variable {us : Nat} {absent : Bool}

theorem excitationChange_restarts (c : s.canonical) (h : s.slotRun b k = some r) (excited : r.excited)
    (there : s.flag (AFE.MODE.listen b) = false ∨ absent = false) (few : r.restarts < 2) :
    answers (.excitationChange b k us absent) s fun t =>
      ((t.slotRun b k).map fun x => (x.phase, x.restarts, x.count, x.settled)) = some (r.phase, r.restarts + 1, 0, false) ∧
        bit (t.bank b).restartNow k = true ∧ t.rd (AFE.IRQRAW.restart b) = 1 ∧
        t.rd (AFE.RESTARTCNT.count b) = min (s.rd (AFE.RESTARTCNT.count b) + 1) (2 ^ 32 - 1) ∧
        onlyChanges [.afe, .head 0x14, .pages 0x08 0x10] s t := by
  obtain ⟨g, x, e, marks, ctx, state⟩ := execExcitationChange_restart (us := us) h excited there few
  have own := State.slotRun_ctx h
  have cg : ((s.changeSeen b r).modBank b g).canonical := State.canonical_modBank (State.canonical_modBank c)
  have ci := State.canonical_irq (r := AFE.IRQRAW.restart b) cg
  refine ⟨_, e, ?_, ?_, ?_, ?_, ?_⟩
  · rw [State.slotRun_setRun ((State.slotRun_congr ?_).trans h) (ctx.trans own), Option.map_some, state]
    simp [State.changeSeen, marks]
  · simp [State.setRun, State.changeSeen, marks, bit_or_two_pow]
  · rw [State.setRun, State.modBank_rd, State.rd_stick_disjoint ci (by simp [Ref.disjoint, AFE.IRQRAW.restart, AFE.RESTARTCNT.count])
      (by simp [Ref.disjoint, AFE.IRQRAW.restart, AFE.CNTOVF.restart]) (by simp [Ref.disjoint, AFE.IRQRAW.restart, AFE.IRQRAW.cnt_ovf])]
    exact State.rd_irq cg (Nat.le_of_ble_eq_true rfl) rfl rfl
  · rw [State.setRun, State.modBank_rd, State.rd_stick_count ci (Nat.le_of_ble_eq_true rfl) rfl
      (by simp [Ref.disjoint, AFE.RESTARTCNT.count, AFE.CNTOVF.restart]) (by simp [Ref.disjoint, AFE.RESTARTCNT.count, AFE.IRQRAW.cnt_ovf]),
      State.rd_irq_disjoint cg (by simp [Ref.disjoint, AFE.RESTARTCNT.count, AFE.IRQRAW.restart])]
    rfl
  · have seen : Kept [.afe, .head 0x14, .pages 0x08 0x10] s ((s.changeSeen b r).modBank b g) :=
      State.modBank_kept (State.modBank_kept (Kept.refl _ s) (Part.within_of_check (by decide))) (Part.within_of_check (by decide))
    have counted := State.stick_kept (State.irq_kept seen (AFE.IRQRAW.restart_zoned (x0 := b) (Part.among_self (by decide))))
      (AFE.RESTARTCNT.count_zoned (x0 := b) (Part.among_self (by decide))) (AFE.CNTOVF.restart_zoned (x0 := b) (Part.among_self (by decide)))
      (ZonedOpt.some (AFE.IRQRAW.cnt_ovf_zoned (x0 := b) (Part.among_self (by decide))))
    exact (State.setRun_kept counted (Part.within_of_check (by decide))).only

theorem excitationChange_aborts (c : s.canonical) (h : s.slotRun b k = some r) (excited : r.excited)
    (there : s.flag (AFE.MODE.listen b) = false ∨ absent = false) (third : 2 ≤ r.restarts) :
    answers (.excitationChange b k us absent) s fun t =>
      (t.slotRun b k).map SlotRun.phase = some .ended ∧ bit (t.bank b).abortNow k = true ∧ t.rd (AFE.IRQRAW.abort b) = 1 ∧
        onlyChanges openParts s t := by
  have cm : ((s.changeSeen b r).modBank b fun a => { a with abortNow := a.abortNow ||| 2 ^ k }).canonical :=
    State.canonical_modBank (State.canonical_modBank c)
  refine ⟨_, execExcitationChange_abort h excited there third, ?_, ?_, ?_, ?_⟩
  · refine State.endRun_phase ((State.slotRun_congr ?_).trans h) (State.slotRun_ctx h)
    simp [State.changeSeen]
  · rw [State.endRun_abortNow, State.irq_bank, State.modBank_bank]
    exact bit_or_two_pow _ _
  · rw [State.endRun_rd (State.canonical_irq cm) (Nat.le_of_ble_eq_true rfl) (by simp only [AFE.IRQRAW.abort]; omega)]
    exact State.rd_irq cm (Nat.le_of_ble_eq_true rfl) rfl rfl
  · have seen : Kept openParts s
        ((s.changeSeen b r).modBank b fun a => { a with abortNow := a.abortNow ||| 2 ^ k }) :=
      State.modBank_kept (State.modBank_kept (Kept.refl _ s) (Part.within_of_check (by decide))) (Part.within_of_check (by decide))
    exact (State.endRun_kept (State.irq_kept seen (AFE.IRQRAW.abort_zoned (Part.among_self (by decide)))) (Part.within_of_check (by decide))).only

theorem excitationChange_absent (c : s.canonical) (h : s.slotRun b k = some r) (excited : r.excited)
    (listen : s.flag (AFE.MODE.listen b) = true) :
    answers (.excitationChange b k us true) s fun t =>
      (t.slotRun b k).map SlotRun.phase = some .ended ∧
        t.rd PAIR.STAT.evidence = (if s.pair.slot = some (20 * b + k) then 2 else s.rd PAIR.STAT.evidence) ∧
        onlyChanges [.afe, .head 0x14, .lap, .page 0x11, .arith, .pair, .page 0x38] s t := by
  obtain ⟨x, e, ctx⟩ := execExcitationChange_absent (us := us) h excited listen
  have own := State.slotRun_ctx h
  refine ⟨_, e, State.endRun_phase ((State.slotRun_congr (congrArg AfeBank.running State.evidence_bank)).trans h) (ctx.trans own), ?_, ?_⟩
  · rw [State.endRun_rd (State.canonical_evidence c) (by decide) (by decide), State.rd_evidence c listen, own]
  · exact (State.endRun_kept (State.evidence_kept (Kept.refl _ s) (Part.within_of_check (by decide))) (Part.within_of_check (by decide))).only

end

/-- Settles O31: the first two changes restart the phase, the third ends it, and the partner's absence ends it after it is told (R338). -/
theorem excitationChangesRestartOrAbandon : Obligations.ExcitationChangesRestartOrAbandon := by
  intro s b k us absent c r h phase source
  have excited : r.excited := ⟨phase, source⟩
  refine ⟨excitationChange_restarts c h excited, excitationChange_aborts c h excited, fun listen gone => ?_⟩
  subst gone
  exact excitationChange_absent c h excited listen

end

/-! ### Faults of a bank (R86, R106) -/

theorem bridgeOvercurrent_shown {s : State} {b : Nat} (c : s.canonical) (on : s.bridgeOn b = true) :
    answers (.bridgeOvercurrent b) s fun t => t.rd (AFE.FAULT.bridge b) = 1 ∧ t.bridgeOn b = false ∧ (t.bank b).bridgeTripped = true ∧
      onlyChanges [.head 0x24, .head 0x14, .afe, .head 0x20, .lap, .page 0x11, .arith, .pair] s t := by
  have step : exec (.bridgeOvercurrent b) s = .next _ := if_neg (by simp [on])
  have faulted := List.foldlRecOn (motive := fun t : State => t.bridgeFaulted b)
    ((s.activeRuns b).filter fun r => r.ctxField (AFE.CTX.type_ 0 0) == 9) _ (State.bridgeFaulted_fault c) fun t h x _ => State.bridgeFaulted_endRun (x := x) h
  have off := State.bridgeOn_of_faulted faulted
  obtain ⟨-, fault, tripped⟩ := faulted
  exact ⟨_, step, fault, off, tripped,
    (execBridgeOvercurrent_kept (Kept.refl _ s) (fun _ h => Part.among_self h) _ step).only⟩

theorem pinWindowFault_shown {s : State} {b p : Nat} (c : s.canonical) (hb : b < 8) (alive : s.alive (8 + b) = true) (hp : p < 48) :
    answers (.pinWindowFault b p) s fun t =>
      bit (if p < 32 then t.rd (AFE.PINFLT0 b) else t.rd (AFE.PINFLT1 b)) (p % 32) = true ∧ t.rd (AFE.IRQRAW.pin_fault b) = 1 ∧
        (∀ r ∈ (t.bank b).running, r.pins.contains (48 * b + p) = true → r.overload = true) ∧
        onlyChanges [.pages 0x08 0x10, .head 0x14, .afe] s t := by
  have step : exec (.pinWindowFault b p) s = .next _ := if_neg (by simp [alive]; omega)
  refine ⟨_, step, ?_, ?_, ?_, (execPinWindowFault_kept (Kept.refl _ s) (fun _ h => Part.among_self h) _ step).only⟩
  · simp only [State.modBank_rd]
    split
    · next low =>
      rw [State.rd_irq_disjoint (State.canonical_wr c) (by simp [Ref.disjoint, AFE.PINFLT0, AFE.IRQRAW.pin_fault]), Nat.mod_eq_of_lt low]
      exact State.bit_rd_wr (r := AFE.PINFLT0 b) c rfl (Nat.le_refl _) low rfl
    · next high =>
      rw [State.rd_irq_disjoint (State.canonical_wr c) (by simp [Ref.disjoint, AFE.PINFLT1, AFE.IRQRAW.pin_fault]), show p % 32 = p - 32 by omega]
      exact State.bit_rd_wr (r := AFE.PINFLT1 b) c rfl (Nat.le_refl _) (show p - 32 < 32 by omega) rfl
  · have cw : (if p < 32 then s.wr { AFE.PINFLT0.pin b with lo := p, w := 1 } 1 else s.wr { AFE.PINFLT1.pin b with lo := p - 32, w := 1 } 1).canonical := by
      split <;> exact State.canonical_wr c
    exact State.rd_irq cw (Nat.le_of_ble_eq_true rfl) rfl rfl
  · simp only [State.modBank_bank, List.mem_map]
    rintro _ ⟨x, -, rfl⟩ uses
    split
    · rfl
    · next other =>
      rw [if_neg other] at uses
      exact absurd uses other

/-- Settles O32: the end of the conversions on the bridge leaves its fault and its supply off, and each pin has its bit in PINFLT0 or PINFLT1. -/
theorem bankFaultsAreShown : Obligations.BankFaultsAreShown := fun _ _ c =>
  ⟨bridgeOvercurrent_shown c, fun _ => pinWindowFault_shown c⟩

end Sys2Proof.Proofs

/-!
PROOFS. The arithmetic of the records: how ARITH takes the head of its queue, delivers its record, and how a test record joins the queue and is
formed. First the facts about the operations involved: values by key, the bytes of a test record, what a delivery leaves in ARITH and what an
outcome makes of a health counter; then the statements.
-/

namespace Sys2Proof.Machine

/-- No variant has more channels than eight banks have contexts. -/
theorem Variant.channels_le (v : Variant) : v.channels ≤ 160 := by cases v <;> decide

/-! ### Values by key -/

section
variable {α : Type} {v : α} {k j : Nat}

theorem Keyed.get?_put_same : ∀ m : Keyed α, Keyed.get? (Keyed.put m k v) k = some v
  | [] => if_pos rfl
  | (b, w) :: m => by
    unfold Keyed.put
    split
    · exact if_pos rfl
    · split
      · exact if_pos rfl
      · next ne => rw [Keyed.get?, if_neg ne, Keyed.get?_put_same m]

theorem Keyed.get?_put_other (h : j ≠ k) : ∀ m : Keyed α, Keyed.get? (Keyed.put m k v) j = Keyed.get? m j
  | [] => if_neg h
  | (b, w) :: m => by
    unfold Keyed.put
    split
    · exact if_neg h
    · split
      · next e => rw [Keyed.get?, if_neg h, Keyed.get?, if_neg (e ▸ h)]
      · rw [Keyed.get?, Keyed.get?_put_other h m, Keyed.get?]

end

/-! ### The bytes of a record (R147) -/

theorem ofBytesLE_lt : ∀ l : List Byte, ofBytesLE l < 256 ^ l.length
  | [] => Nat.one_pos
  | b :: bs => by
    have head := b.isLt
    have tail := ofBytesLE_lt bs
    rw [ofBytesLE, List.length_cons, Nat.pow_succ]
    omega

theorem bytesLE_ofBytesLE : ∀ l : List Byte, bytesLE l.length (ofBytesLE l) = l
  | [] => rfl
  | b :: bs => by
    have head := b.isLt
    have first : BitVec.ofNat 8 (ofBytesLE (b :: bs)) = b := BitVec.eq_of_toNat_eq (by rw [BitVec.toNat_ofNat, ofBytesLE]; omega)
    have others : ∀ i, ofBytesLE (b :: bs) / 2 ^ (8 * (i + 1)) = ofBytesLE bs / 2 ^ (8 * i) := fun i => by
      rw [Nat.mul_succ, Nat.add_comm, Nat.pow_add, ← Nat.div_div_eq_div_mul, ofBytesLE,
        show (b.toNat + 256 * ofBytesLE bs) / 2 ^ 8 = ofBytesLE bs by omega]
    have tail := bytesLE_ofBytesLE bs
    unfold bytesLE at tail ⊢
    rw [List.length_cons, List.range_succ_eq_map, List.map_cons, List.map_map, Nat.mul_zero, Nat.pow_zero, Nat.div_one, first]
    simp only [Function.comp_def, others]
    rw [tail]

/-- The parts of four bytes of a list, one after the other. -/
theorem flatMap_take_drop {α : Type} (l : List α) : ∀ n, (List.range n).flatMap (fun i => (l.drop (4 * i)).take 4) = l.take (4 * n)
  | 0 => rfl
  | n + 1 => by
    rw [List.range_succ, List.flatMap_append, flatMap_take_drop l n, List.flatMap_singleton, Nat.mul_succ, List.take_add]

theorem recordBytes_length (r : ResultRec) : (recordBytes r).length = 16 := by simp [recordBytes, bytesLE]

section
variable {s : State} {e : ConvEntry} {es : List ConvEntry} {r : ResultRec}

/-! ### What an entry becomes (R148, R151) -/

/-- ARITH with another queue. -/
def State.withQueue (s : State) (es : List ConvEntry) : State := { s with arith := { s.arith with queue := es } }

theorem State.leadUnc_withQueue : (s.withQueue es).leadUnc e = s.leadUnc e := rfl

theorem State.stage3_withQueue : (s.withQueue es).stage3 e = s.stage3 e := rfl

theorem State.coldJunction_withQueue : (s.withQueue es).coldJunction e = s.coldJunction e := rfl

theorem State.uncTerms_withQueue : (s.withQueue es).uncTerms e = s.uncTerms e := by
  funext q2 dpdq ucj ratio
  unfold State.uncTerms
  rw [State.leadUnc_withQueue]

theorem State.form_withQueue : (s.withQueue es).form e = s.form e := by
  unfold State.form
  rw [State.stage3_withQueue, State.coldJunction_withQueue, State.uncTerms_withQueue]

theorem State.isStale_withQueue {t : ModTerm} {n : Nat} : (s.withQueue es).isStale t n = s.isStale t n := rfl

/-- What an entry becomes does not depend on the entries behind it. -/
theorem State.formOwn_withQueue : (s.withQueue es).formOwn e = s.formOwn e := by
  unfold State.formOwn
  rw [State.form_withQueue, State.isStale_withQueue]
  rfl

/-- A record is its entry's channel's. -/
theorem State.formOwn_ch : (s.formOwn e).1.ch = e.ch := by
  unfold State.formOwn
  extract_lets kind stale bare fault
  cases (if e.holder = 2 then none else some kind : Option EntryKind) with
  | none => rfl
  | some k =>
    cases k with
    | abandoned | sampled | test => dsimp only; split <;> rfl
    | openWire | abort | overload | unplaced | loop => rfl

/-! ### The test record (R155) -/

section
variable {v : Nat → Nat}

/-- The first words of a test record are written. -/
def State.testRec (s : State) (v : Nat → Nat) (n : Nat) : State := s.each (List.range n) fun st i => st.wr (ARITH.TESTREC.bytes i) (v i)

theorem State.testRec_succ {n : Nat} : s.testRec v (n + 1) = (s.testRec v n).wr (ARITH.TESTREC.bytes n) (v n) := by
  simp [State.testRec, State.each, List.range_succ]

theorem State.canonical_testRec (c : s.canonical) {n : Nat} : (s.testRec v n).canonical := by
  induction n with
  | zero => exact c
  | succ n ih => exact State.testRec_succ ▸ State.canonical_wr ih

theorem State.rd_testRec (c : s.canonical) {i : Nat} : ∀ {n : Nat}, i < n → n ≤ 4 → (s.testRec v n).rd (ARITH.TESTREC.bytes i) = v i % 2 ^ 32
  | n + 1, hi, hn => by
    rw [State.testRec_succ]
    by_cases last : i = n
    · rw [last]
      exact State.rd_wr (State.canonical_testRec c) (Nat.le_of_ble_eq_true rfl) rfl
    · refine (State.rd_wr_other (Nat.le_of_ble_eq_true rfl) ?_ (.inl (Nat.le_of_ble_eq_true rfl))).trans (State.rd_testRec c (by omega) (by omega))
      simp only [ARITH.TESTREC.bytes]
      omega

end

/-- The words of a test record. -/
def State.testWord (s : State) (r : ResultRec) (i : Nat) : Nat :=
  ofBytesLE (((recordBytes { r with lap := s.lapCount, stime := s.stime }).drop (4 * i)).take 4)

theorem State.testDone_eq : s.testDone r = ((s.testRec (s.testWord r) 4).wr ARITH.TESTCTL.busy 0).irq ARITH.IRQRAW.test_done := rfl

theorem State.testDone_busy (c : s.canonical) : (s.testDone r).rd ARITH.TESTCTL.busy = 0 := by
  have cr : (s.testRec (s.testWord r) 4).canonical := State.canonical_testRec c
  rw [State.testDone_eq, State.rd_irq_disjoint (State.canonical_wr cr) (by simp [Ref.disjoint, ARITH.TESTCTL.busy, ARITH.IRQRAW.test_done])]
  exact State.rd_wr cr (by decide) rfl

theorem State.testDone_event (c : s.canonical) : (s.testDone r).rd ARITH.IRQRAW.test_done = 1 :=
  State.rd_irq (State.canonical_wr (State.canonical_testRec c)) (by decide) rfl rfl

/-- Four bytes of the record stand in each of the four words. -/
theorem State.testDone_bytes (c : s.canonical) {i : Nat} (hi : i < 4) : bytesLE 4 ((s.testDone r).rd (ARITH.TESTREC.bytes i)) =
    ((recordBytes { r with lap := s.lapCount, stime := s.stime }).drop (4 * i)).take 4 := by
  have cr : (s.testRec (s.testWord r) 4).canonical := State.canonical_testRec c
  have word : (s.testDone r).rd (ARITH.TESTREC.bytes i) = s.testWord r i % 2 ^ 32 := by
    rw [State.testDone_eq,
      State.rd_irq_disjoint (State.canonical_wr cr) (by simp only [Ref.disjoint, ARITH.TESTREC.bytes, ARITH.IRQRAW.test_done]; omega),
      State.rd_wr_disjoint cr (by simp only [Ref.disjoint, ARITH.TESTREC.bytes, ARITH.TESTCTL.busy]; omega)]
    exact State.rd_testRec c hi (Nat.le_refl 4)
  rw [word]
  unfold State.testWord
  generalize hl : ((recordBytes { r with lap := s.lapCount, stime := s.stime }).drop (4 * i)).take 4 = l
  have length : l.length = 4 := by
    rw [← hl, List.length_take, List.length_drop, recordBytes_length]
    omega
  have bound : ofBytesLE l < 2 ^ 32 := by simpa [length] using ofBytesLE_lt l
  rw [Nat.mod_eq_of_lt bound]
  exact length ▸ bytesLE_ofBytesLE l

theorem State.testDone_record (c : s.canonical) : (List.range 4).flatMap (fun i => bytesLE 4 ((s.testDone r).rd (ARITH.TESTREC.bytes i))) =
    recordBytes { r with lap := s.lapCount, stime := s.stime } := by
  have parts : ∀ i ∈ List.range 4, bytesLE 4 ((s.testDone r).rd (ARITH.TESTREC.bytes i)) =
      ((recordBytes { r with lap := s.lapCount, stime := s.stime }).drop (4 * i)).take 4 :=
    fun i hi => State.testDone_bytes c (List.mem_range.mp hi)
  rw [List.flatMap_def, List.map_congr_left parts, ← List.flatMap_def, flatMap_take_drop, List.take_of_length_le (Nat.le_of_eq (recordBytes_length _))]

theorem execRecordFormation_test (queue : s.arith.queue = e :: es) (alive : s.alive 0x11 = true) (test : e.kind = .test) :
    execRecordFormation s = .next ((s.withQueue es).testDone (s.formOwn e).1) := by
  unfold execRecordFormation
  rw [queue]
  dsimp only
  rw [if_neg (by simp [alive]), ← State.withQueue, State.formOwn_withQueue]
  exact if_pos test

/-! ### A test record joins the queue (R155) -/

theorem State.testStart_ignored {ch : Nat} (h : s.rd ARITH.TESTCTL.busy = 1 ∨ s.variant.channels ≤ ch) : s.testStart ch = s.wr ARITH.TESTCTL.ch ch := by
  have ignored : s.flag ARITH.TESTCTL.busy = true ∨ s.variant.channels ≤ ch := h.imp_left fun busy => by simp [State.flag, busy]
  unfold State.testStart
  exact if_pos ignored

/-- TESTCTL names the channel of a test record in progress. -/
def State.testBusy (s : State) (ch : Nat) : State := (s.wr ARITH.TESTCTL.ch ch).wr ARITH.TESTCTL.busy 1

theorem State.testBusy_kept {l : List Part} {s0 : State} {ch : Nat} (h : Kept l s0 s) (hp : Part.among (.page 0x11) l) : Kept l s0 (s.testBusy ch) :=
  State.wr_kept (State.wr_kept h (ARITH.TESTCTL.ch_zoned hp)) (ARITH.TESTCTL.busy_zoned hp)

theorem State.canonical_testBusy {ch : Nat} (c : s.canonical) : (s.testBusy ch).canonical := State.canonical_wr (State.canonical_wr c)

theorem State.testBusy_busy {ch : Nat} (c : s.canonical) : (s.testBusy ch).rd ARITH.TESTCTL.busy = 1 :=
  State.rd_wr (State.canonical_wr c) (by decide) rfl

theorem State.testBusy_ch {ch : Nat} (c : s.canonical) (small : ch < 1024) : (s.testBusy ch).rd ARITH.TESTCTL.ch = ch := by
  rw [State.testBusy, State.rd_wr_disjoint (State.canonical_wr c) (by simp [Ref.disjoint, ARITH.TESTCTL.ch, ARITH.TESTCTL.busy])]
  exact (State.rd_wr c (by decide) rfl).trans (Nat.mod_eq_of_lt small)

theorem State.testBusy_arith {ch : Nat} : (s.testBusy ch).arith = s.arith := State.wr_arith.trans State.wr_arith

/-- A register of a block does not tell whether the block is on. -/
theorem State.wr_alive {q : Ref} {v p : Nat} (hq : q.lo + q.w ≤ 32) (ha : q.addr ≠ PWR.STAT.state.addr) : (s.wr q v).alive p = s.alive p := by
  have state : (s.wr q v).rd PWR.STAT.state = s.rd PWR.STAT.state := State.rd_wr_other (by decide) (Ne.symm ha) (.inl hq)
  simp [State.alive, State.powered, State.present, State.variant, State.domainOn, state]

theorem State.testBusy_alive {ch p : Nat} : (s.testBusy ch).alive p = s.alive p :=
  (State.wr_alive (by decide) (by decide)).trans (State.wr_alive (by decide) (by decide))

theorem State.testStart_joins {ch : Nat} (idle : s.rd ARITH.TESTCTL.busy = 0) (present : ch < s.variant.channels) :
    ∃ e : ConvEntry, s.testStart ch = (s.testBusy ch).arithQueue e ∧
      (e.kind, e.ch, e.sum, e.n, e.words) = (.test, ch, signed 24 (s.rd ARITH.TESTCODE.code), 1, s.ctxWords (ch / 20) (ch % 20)) := by
  have starts : ¬(s.flag ARITH.TESTCTL.busy = true ∨ s.variant.channels ≤ ch) := by
    simp [State.flag, idle, Nat.not_le.mpr present]
  unfold State.testStart
  exact ⟨_, if_neg starts, rfl⟩

/-- The entry of a test record joins the queue of an ARITH that is on, whether or not it is quiesced. -/
theorem State.arithQueue_test (alive : s.alive 0x11 = true) (test : e.kind = .test) : ∃ n : Nat, s.arithQueue e = s.withQueue (s.arith.queue ++ [e]) ∨
    s.arithQueue e = (s.withQueue (s.arith.queue ++ [e])).wr ARITH.QMAX.entries n := by
  unfold State.arithQueue
  rw [if_neg (by simp [alive]), if_neg (by simp [test])]
  dsimp only
  split
  · exact ⟨_, .inr rfl⟩
  · exact ⟨0, .inl rfl⟩

theorem State.arithQueue_test_arith (alive : s.alive 0x11 = true) (test : e.kind = .test) :
    (s.arithQueue e).arith = { s.arith with queue := s.arith.queue ++ [e] } := by
  obtain ⟨n, same | counted⟩ := State.arithQueue_test alive test
  · rw [same]
    rfl
  · rw [counted, State.wr_arith]
    rfl

theorem State.arithQueue_test_rd {q : Ref} (c : s.canonical) (alive : s.alive 0x11 = true) (test : e.kind = .test)
    (apart : q.disjoint ARITH.QMAX.entries) : (s.arithQueue e).rd q = s.rd q := by
  have cq : (s.withQueue (s.arith.queue ++ [e])).canonical := c
  obtain ⟨n, same | counted⟩ := State.arithQueue_test alive test
  · rw [same]
    rfl
  · rw [counted, State.rd_wr_disjoint cq apart]
    rfl

theorem State.arithQueue_test_kept {l : List Part} {s0 : State} (h : Kept l s0 s) (alive : s.alive 0x11 = true) (test : e.kind = .test)
    (hp : Part.within [.page 0x11, .arith] l) : Kept l s0 (s.arithQueue e) := by
  have queued : Kept l s0 (s.withQueue (s.arith.queue ++ [e])) := h.arith (Part.at hp)
  obtain ⟨n, same | counted⟩ := State.arithQueue_test alive test
  · exact same ▸ queued
  · exact counted ▸ State.wr_kept queued (ARITH.QMAX.entries_zoned (Part.at hp))

theorem State.alive_of_writeStatus {q : Requester} {p : Nat} (h : s.writeStatus q p = .ok) : s.alive p = true := by
  unfold State.writeStatus at h
  split at h
  · cases h
  · split at h
    · cases h
    · split at h
      · cases h
      · split at h
        · cases h
        · next k => simpa using k

theorem State.awake_ctxWords {b k : Nat} : s.awake.ctxWords b k = s.ctxWords b k := by
  simp [State.ctxWords, State.wordAt]

end

/-! ### Health counters (R185) -/

section
variable {s t : State} {c : Nat} {r : ResultRec}

/-- What a record's outcome makes of a health counter. -/
def HealthClass.counted : HealthClass → Nat → Nat
  | .good, v => v - 1
  | .failure, v => min 255 (v + 16)
  | .neutral, v => v

theorem HealthClass.counted_lt {h : HealthClass} {v : Nat} (hv : v < 2 ^ 8) : h.counted v < 2 ^ 8 := by
  cases h <;> simp only [HealthClass.counted] <;> omega

/-- What the formation of a record may change outside the registers of CAL. -/
def besideHealth : List Part := [.arith, .page 0x11, .head 0x14, .head 0x24, .head 0x20, .afe, .pages 0x08 0x10, .cal, .lap, .dma, .page 0x42,
  .page 0x41, .page 0x40, .sram, .sramBad, .sramWeak, .alarm, .recorder, .loops, .pair, .page 0x38, .msg, .page 0x18, .terms, .page 0x49,
  .page 0x178, .nvm]

theorem healthRef_word : (healthRef c).lo + (healthRef c).w ≤ 32 := by
  simp only [healthRef]
  omega

theorem healthRef_beside : ∀ p ∈ besideHealth, p.covers (healthRef c).addr = false := by
  simp [besideHealth, Part.covers, healthRef, CAL.HEALTH.counters]
  omega

theorem Kept.rd_health (h : Kept besideHealth s t) : t.rd (healthRef c) = s.rd (healthRef c) :=
  h.rd rfl healthRef_beside (.inl healthRef_word)

/-- None of it stops CAL, or sets it to work. -/
theorem Kept.working_cal (h : Kept besideHealth s t) : t.working 0x10 = s.working 0x10 := by
  have straps : t.straps = s.straps := h.only.1 .straps (by decide)
  have pwr : t.pwr = s.pwr := h.only.1 .pwr (by decide)
  have rst : t.rst = s.rst := h.only.1 .rst (by decide)
  have state : t.rd PWR.STAT.state = s.rd PWR.STAT.state := h.rd rfl (by decide) (.inl (by decide))
  have qreq : t.rd (HDR.CTL.qreq 0x10) = s.rd (HDR.CTL.qreq 0x10) := h.rd rfl (by decide) (.inl (by decide))
  have enable : t.rd (HDR.CTL.enable 0x10) = s.rd (HDR.CTL.enable 0x10) := h.rd rfl (by decide) (.inl (by decide))
  simp only [State.working, State.alive, State.powered, State.present, State.variant, State.domainOn, State.quiesced, State.flag, straps, pwr, rst,
    state, qreq, enable]

theorem State.retireChannel_health {n : Nat} : (s.retireChannel n).rd (healthRef c) = s.rd (healthRef c) := by
  unfold State.retireChannel
  split
  · rfl
  · extract_lets terms s1
    have marked : (s1.putNth CAL.RETIRED.ch n true).rd (healthRef c) = s.rd (healthRef c) :=
      State.rd_wr_other healthRef_word (by simp only [healthRef, CAL.HEALTH.counters, CAL.RETIRED.ch]; omega)
        (.inl (by simp only [CAL.RETIRED.ch]; omega))
    rw [← marked]
    have shown := State.irq_kept (Kept.refl besideHealth (s1.putNth CAL.RETIRED.ch n true)) (CAL.IRQRAW.ch_retired_zoned (Part.among_self (by decide)))
    exact (State.calEvent_kept (State.persist_kept shown (Part.within_of_check (by decide))) (Part.within_of_check (by decide))).rd_health

/-- CAL moves the counter of the channel, also where the record retires it (R186). -/
theorem State.healthTake_counter (can : s.canonical) (working : s.working 0x10 = true) (sensor : r.ch < 160) :
    (s.healthTake r).rd (healthRef r.ch) = r.health.counted (s.rd (healthRef r.ch)) := by
  unfold State.healthTake
  rw [if_neg (by simp [working, sensor])]
  extract_lets v v' run s1 cal s2
  have counted : v' = r.health.counted v := by
    unfold v' HealthClass.counted
    cases r.health <;> rfl
  have written : (s.wr (healthRef r.ch) v').rd (healthRef r.ch) = r.health.counted v := by
    rw [State.rd_wr can healthRef_word rfl, counted]
    exact Nat.mod_eq_of_lt (HealthClass.counted_lt (State.rd_lt healthRef_word))
  have kept : Kept besideHealth (s.wr (healthRef r.ch) v') s2 :=
    (Kept.when (Kept.refl _ _) fun _ h => State.irq_kept h (CAL.IRQRAW.cnt_ovf_zoned (Part.among_self (by decide)))).cal (Part.among_self (by decide))
  rw [← written, ← kept.rd_health]
  split
  · exact State.retireChannel_health
  · rfl

end

/-! ### Delivery (R151, R187) -/

section
variable {s t : State} {r q : ResultRec} {e : ConvEntry} {es : List ConvEntry} {outcome : Nat} {exempt : Bool}

/-- What ARITH itself notes of a record that it delivers. -/
def State.noted (s : State) (r : ResultRec) : State :=
  let s := if r.lap = s.lapCount ∧ r.ch < 160 then { s with lap := { s.lap with delivered := addTo s.lap.delivered r.ch } } else s
  { s with arith := { s.arith with
      newest := Keyed.put s.arith.newest r.ch r
      kept := if bit r.status 0 then Keyed.put s.arith.kept r.ch ⟨r.y, r.u, r.lap⟩ else s.arith.kept } }

theorem State.noted_queue : (s.noted r).arith.queue = s.arith.queue := by
  unfold State.noted
  split <;> rfl

theorem State.noted_owed : (s.noted r).arith.owed = s.arith.owed := by
  unfold State.noted
  split <;> rfl

theorem State.noted_newest : (s.noted r).arith.newest = Keyed.put s.arith.newest r.ch r := by
  unfold State.noted
  split <;> rfl

theorem State.noted_awaited : (s.noted r).lap.awaited = s.lap.awaited := by
  unfold State.noted
  split <;> rfl

/-- The parts that the consumers of a record may change. -/
def consumerParts : List Part := [.alarm, .dma, .page 0x42, .head 0x14, .head 0x24, .head 0x20, .page 0x41, .page 0x40, .sram, .sramBad, .sramWeak,
  .recorder, .loops, .page 0x18, .msg, .pair, .page 0x38]

/-- The consumers of a record leave what ARITH has noted of it. -/
theorem State.deliver_kept_noted : Kept consumerParts (s.noted r) (s.deliver r outcome exempt) := by
  have ring : Kept consumerParts (s.noted r) (((s.noted r).almRecord r).ringWrite r) :=
    State.ringWrite_kept (State.almRecord_kept (Kept.refl _ _) (Part.within_of_check (by decide))) (Part.within_of_check (by decide))
  have recorded : Kept consumerParts (s.noted r)
      (if r.ch < 160 then (((s.noted r).almRecord r).ringWrite r).recResult r else (((s.noted r).almRecord r).ringWrite r).loopRecord r) :=
    Kept.ite (State.recResult_kept ring (Part.within_of_check (by decide))) (State.loopRecord_kept ring (Part.within_of_check (by decide)))
  exact State.crossCheck_kept (State.uhlizSend_kept (State.publish_kept (State.retransmit_kept recorded (Part.within_of_check (by decide)))
    (Part.within_of_check (by decide))) (Part.within_of_check (by decide))) (Part.within_of_check (by decide))

theorem State.deliver_arith : (s.deliver r outcome exempt).arith = (s.noted r).arith := State.deliver_kept_noted.only.1 .arith (by decide)

theorem State.deliver_awaited : (s.deliver r outcome exempt).lap.awaited = s.lap.awaited :=
  (congrArg LapState.awaited (State.deliver_kept_noted.only.1 .lap (by decide))).trans State.noted_awaited

/-- A record is out: it is its channel's newest, its lap does not wait for the channel, and ARITH goes on with the rest of its queue. -/
structure State.recordOut (s : State) (es : List ConvEntry) (r : ResultRec) : Prop where
  queue : s.arith.queue = es
  newest : Keyed.get? s.arith.newest r.ch = some r
  awaited : r.ch ∉ s.lap.awaited

theorem State.recordOut.congr (h : s.recordOut es r) (arith : t.arith = s.arith) (lap : t.lap = s.lap) : t.recordOut es r :=
  ⟨arith ▸ h.queue, arith ▸ h.newest, lap ▸ h.awaited⟩

theorem State.recordOut_deliver (queue : s.arith.queue = es) (awaited : r.ch ∉ s.lap.awaited) : (s.deliver r outcome exempt).recordOut es r where
  queue := by rw [State.deliver_arith, State.noted_queue, queue]
  newest := by rw [State.deliver_arith, State.noted_newest, Keyed.get?_put_same]
  awaited := by rwa [State.deliver_awaited]

/-- It stays out when a record of another channel is delivered. -/
theorem State.recordOut.deliver (h : s.recordOut es r) (ne : q.ch ≠ r.ch) : (s.deliver q outcome exempt).recordOut es r where
  queue := by rw [State.deliver_arith, State.noted_queue, h.queue]
  newest := by rw [State.deliver_arith, State.noted_newest, Keyed.get?_put_other ne.symm, h.newest]
  awaited := by rw [State.deliver_awaited]; exact h.awaited

theorem State.recordOut.deliverRetired (h : s.recordOut es r) (ne : q.ch ≠ r.ch) : (s.deliverRetired q outcome).recordOut es r := by
  have marked : Kept [.cal, .head 0x14] s (if bit (s.retiredRec q).status 5 then s.staleMark (q.ch / 20) else s) :=
    Kept.ite (State.staleMark_kept (Kept.refl _ s) fun _ h => Part.among_self h) (Kept.refl _ s)
  exact (h.congr (marked.only.1 .arith (by decide)) (marked.only.1 .lap (by decide))).deliver ne

/-- Records that other channels owe follow it. -/
theorem State.recordOut.settleOwed (h : s.recordOut es r) (others : ∀ o ∈ s.arith.owed, o.ch ≠ r.ch) : s.settleOwed.recordOut es r := by
  unfold State.settleOwed
  extract_lets due arith s1
  have start : s1.recordOut es r := ⟨h.queue, h.newest, h.awaited⟩
  exact List.foldlRecOn (motive := fun t : State => t.recordOut es r) due _ start fun t out o m =>
    out.deliverRetired (others o (List.mem_filter.mp m).1)

/-- CAL's part of a delivery changes neither ARITH nor the lap. -/
theorem State.healthTake_parts : Kept [.page 0x10, .head 0x14, .cal, .terms, .recorder, .page 0x49, .head 0x24, .page 0x42, .head 0x20, .page 0x41,
    .page 0x40, .sram, .sramBad, .sramWeak, .msg, .page 0x178, .nvm] s (s.healthTake r) :=
  State.healthTake_kept (Kept.refl _ s) fun _ h => Part.among_self h

/-- While no channel is retired no record stands for another's (R187). -/
theorem State.deliverOwn_eq (unretired : s.terms.retiredCh = []) : s.deliverOwn e r outcome = (s.deliver r outcome r.absent).healthTake r := by
  have unfed : ((List.range s.variant.channels).filter fun c =>
      s.fedBy c == some r.ch && s.lap.scanned.contains c && !s.lap.delivered.contains c && r.lap == s.lapCount) = [] :=
    List.filter_eq_nil_iff.mpr fun c _ => by simp [State.fedBy, unretired]
  unfold State.deliverOwn
  rw [if_pos (by simp [unretired]), unfed]
  rfl

/-- The head of the queue is formed, its flags are shown, and the lap no longer waits for its channel. -/
def State.formedHead (s : State) (e : ConvEntry) (es : List ConvEntry) : State :=
  let (r, f) := (s.withQueue es).formOwn e
  let t := (s.withQueue es).formedFlags e r f
  { t with lap := { t.lap with awaited := dropFrom t.lap.awaited e.ch } }

/-- What the formation of a record shows of it. -/
theorem State.formedHead_kept :
    Kept [.head 0x14, .page 0x11, .head 0x24, .head 0x20, .afe, .pages 0x08 0x10, .cal, .lap] (s.withQueue es) (s.formedHead e es) :=
  (State.formedFlags_kept (Kept.refl _ _) (Part.within_of_check (by decide))).lap (Part.among_self (by decide))

theorem State.formedHead_awaited : e.ch ∉ (s.formedHead e es).lap.awaited := fun m => (mem_dropFrom.mp m).2 rfl

theorem execRecordFormation_own (queue : s.arith.queue = e :: es) (alive : s.alive 0x11 = true) (own : e.kind ≠ .test)
    (unretired : s.terms.retiredCh = []) : ∃ outcome, execRecordFormation s =
      .next (((s.formedHead e es).deliver ((s.withQueue es).formOwn e).1 outcome ((s.withQueue es).formOwn e).1.absent).healthTake
        ((s.withQueue es).formOwn e).1).settleOwed := by
  have unretired' : (s.formedHead e es).terms.retiredCh = [] :=
    (congrArg TermTable.retiredCh (State.formedHead_kept.only.1 .terms (by decide))).trans unretired
  have step : execRecordFormation s = .next ((s.formedHead e es).deliverOwn e ((s.withQueue es).formOwn e).1
      (if e.holder = 0 then digestOutcome e ((s.withQueue es).formOwn e).2.short else e.holder)).settleOwed := by
    unfold execRecordFormation
    rw [queue]
    dsimp only
    rw [if_neg (by simp [alive]), if_neg own, unretired]
    rfl
  exact ⟨_, by rw [step, State.deliverOwn_eq unretired']⟩

/-- Until CAL takes the outcome, nothing has reached the health counters. -/
theorem State.delivered_beside : Kept besideHealth s ((s.formedHead e es).deliver r outcome exempt) := by
  have queued : Kept besideHealth s (s.withQueue es) := (Kept.refl _ s).arith (Part.among_self (by decide))
  exact State.deliver_kept (queued.trans (State.formedHead_kept.mono (Part.within_of_check (by decide)))) (Part.within_of_check (by decide))

theorem State.formedHead_queue : (s.formedHead e es).arith.queue = es :=
  congrArg ArithState.queue (State.formedHead_kept.only.1 .arith (by decide))

theorem State.delivered_owed : ((s.formedHead e es).deliver r outcome exempt).arith.owed = s.arith.owed := by
  rw [State.deliver_arith, State.noted_owed, State.formedHead_kept.only.1 .arith (by decide)]
  rfl

/-- The head of the queue leaves its record out, and its outcome counted. -/
theorem execRecordFormation_out (c : s.canonical) (queue : s.arith.queue = e :: es) (alive : s.alive 0x11 = true) (own : e.kind ≠ .test)
    (sensor : e.ch < 160) (unretired : s.terms.retiredCh = []) (others : ∀ o ∈ s.arith.owed, o.ch ≠ e.ch)
    (formed : ((s.withQueue es).formOwn e).1 = r) : ∃ t, execRecordFormation s = .next t ∧ t.recordOut es r ∧
      (s.working 0x10 = true → t.rd (healthRef r.ch) = r.health.counted (s.rd (healthRef r.ch))) := by
  have ch : r.ch = e.ch := formed ▸ State.formOwn_ch
  obtain ⟨outcome, step⟩ := execRecordFormation_own queue alive own unretired
  rw [formed] at step
  have beside : Kept besideHealth s ((s.formedHead e es).deliver r outcome r.absent) := State.delivered_beside
  have taken := State.healthTake_parts (s := (s.formedHead e es).deliver r outcome r.absent) (r := r)
  refine ⟨_, step, State.recordOut.settleOwed ?_ ?_, fun working => ?_⟩
  · exact (State.recordOut_deliver State.formedHead_queue (ch ▸ State.formedHead_awaited)).congr (taken.only.1 .arith (by decide))
      (taken.only.1 .lap (by decide))
  · rw [taken.only.1 .arith (by decide), State.delivered_owed, ch]
    exact others
  · rw [(State.settleOwed_kept (Kept.refl besideHealth _) (Part.within_of_check (by decide))).rd_health,
      State.healthTake_counter (beside.canon c) (beside.working_cal.trans working) (ch ▸ sensor), beside.rd_health]

end

end Sys2Proof.Machine

namespace Sys2Proof.Proofs

open Sys2Proof.Machine

/-! ### Records of the queue (R151, R155, R185) -/

section
variable {s : State} {e : ConvEntry} {es : List ConvEntry}

theorem recordFormation_test (c : s.canonical) (alive : s.alive 0x11 = true) (queue : s.arith.queue = e :: es) (test : e.kind = .test) :
    answers .recordFormation s fun t =>
      (List.range 4).flatMap (fun i => bytesLE 4 (t.rd (ARITH.TESTREC.bytes i))) =
        recordBytes { (s.formOwn e).1 with lap := s.lapCount, stime := s.stime } ∧
        t.rd ARITH.TESTCTL.busy = 0 ∧ t.rd ARITH.IRQRAW.test_done = 1 ∧ t.arith = { s.arith with queue := es } ∧
        onlyChanges [.arith, .page 0x11, .head 0x14] s t := by
  have cq : (s.withQueue es).canonical := c
  have done := State.testDone_kept (x1 := (s.formOwn e).1) (Kept.refl [.page 0x11, .head 0x14] (s.withQueue es)) fun _ h => Part.among_self h
  have queued : Kept [.arith, .page 0x11, .head 0x14] s (s.withQueue es) := (Kept.refl _ s).arith (Part.among_self (by decide))
  exact ⟨_, execRecordFormation_test queue alive test, State.testDone_record cq, State.testDone_busy cq, State.testDone_event cq,
    done.only.1 .arith (by decide), (queued.trans (done.mono (Part.within_of_check (by decide)))).only⟩

end

/-- Settles O33: the test record is written as its own bytes (R155); any other record is out once it is delivered, and stays so while CAL takes
its outcome (R185) and the records that other channels owe follow it (R187). -/
theorem recordsAreFormedFromTheQueue : Obligations.RecordsAreFormedFromTheQueue := by
  intro s c alive e es queue
  refine ⟨recordFormation_test c alive queue, fun own present unretired others => ?_⟩
  have sensor : e.ch < 160 := Nat.lt_of_lt_of_le present (Variant.channels_le _)
  rw [← State.withQueue]
  generalize formed : ((s.withQueue es).formOwn e).1 = r
  have ch : r.ch = e.ch := formed ▸ State.formOwn_ch
  obtain ⟨t, step, out, counter⟩ := execRecordFormation_out c queue alive own sensor unretired others formed
  refine ⟨t, step, out.queue, ch ▸ out.newest, ch ▸ out.awaited, fun working => ?_,
    (execRecordFormation_kept (Kept.refl _ s) (Part.within_of_check (by decide)) t step).only⟩
  rw [← ch, counter working]
  cases r.health <;> rfl

/-! ### Test records (R155) -/

section
variable {s : State} {q : Requester} {ch : Nat}

theorem testRecordStart_joins (c : s.canonical) (h : s.admits q 0x11) (idle : s.rd ARITH.TESTCTL.busy = 0) (present : ch < s.variant.channels) :
    answers (.testRecordStart q ch) s fun t =>
      t.status = 0 ∧ t.rd ARITH.TESTCTL.busy = 1 ∧ t.rd ARITH.TESTCTL.ch = ch ∧
        t.arith.queue.dropLast = s.arith.queue ∧ (t.arith.queue.getLast?.map fun e => (e.kind, e.ch, e.sum, e.n, e.words)) =
          some (.test, ch, signed 24 (s.rd ARITH.TESTCODE.code), 1, s.ctxWords (ch / 20) (ch % 20)) ∧
        onlyChanges [.status, .page 0x01, .page 0x11, .arith] s t := by
  have small : ch < 1024 := Nat.lt_of_lt_of_le present (Nat.le_trans (Variant.channels_le _) (by decide))
  have ca := State.canonical_awake c
  have cb : (s.awake.testBusy ch).canonical := State.canonical_testBusy ca
  have idle' : s.awake.rd ARITH.TESTCTL.busy = 0 := (State.awake_rd (by decide) (by decide)).trans idle
  have present' : ch < s.awake.variant.channels := by rwa [State.awake_variant]
  obtain ⟨e, start, entry⟩ := State.testStart_joins idle' present'
  rw [State.awake_rd (by decide) (by decide), State.awake_ctxWords] at entry
  have test : e.kind = .test := congrArg Prod.fst entry
  have alive : (s.awake.testBusy ch).alive 0x11 = true := by
    rw [State.testBusy_alive, State.awake_alive c]
    exact State.alive_of_writeStatus h.2
  have queue := State.arithQueue_test_arith alive test
  rw [State.testBusy_arith, State.awake_arith] at queue
  refine answers_of_command (f := fun s => s.testStart (ch % 1024)) rfl h ?_
  rw [Nat.mod_eq_of_lt small, start]
  refine ⟨rfl, ?_, ?_, ?_, ?_, ?_⟩
  · rw [State.rd_status, State.arithQueue_test_rd cb alive test (by simp [Ref.disjoint, ARITH.TESTCTL.busy, ARITH.QMAX.entries])]
    exact State.testBusy_busy ca
  · rw [State.rd_status, State.arithQueue_test_rd cb alive test (by simp [Ref.disjoint, ARITH.TESTCTL.ch, ARITH.QMAX.entries])]
    exact State.testBusy_ch ca small
  · rw [queue]
    exact List.dropLast_concat
  · rw [queue, List.getLast?_concat, Option.map_some, entry]
  · have busy : Kept [.status, .page 0x01, .page 0x11, .arith] s (s.awake.testBusy ch) :=
      State.testBusy_kept (State.awake_kept (Kept.refl _ s) (Part.within_of_check (by decide))) (Part.among_self (by decide))
    exact ((State.arithQueue_test_kept busy alive test (Part.within_of_check (by decide))).status (Part.among_self (by decide))).only

theorem testRecordStart_ignored (c : s.canonical) (h : s.admits q 0x11) (ignored : s.rd ARITH.TESTCTL.busy = 1 ∨ s.variant.channels ≤ ch)
    (small : ch < 1024) : answers (.testRecordStart q ch) s fun t =>
      t.status = 0 ∧ t.rd ARITH.TESTCTL.busy = s.rd ARITH.TESTCTL.busy ∧ t.rd ARITH.TESTCTL.ch = ch ∧ t.arith = s.arith ∧
        (∀ r : Ref, r ∈ [ARITH.TESTCODE.code, ARITH.TESTREC.bytes 0, ARITH.TESTREC.bytes 1, ARITH.TESTREC.bytes 2, ARITH.TESTREC.bytes 3,
          ARITH.QMAX.entries] → t.rd r = s.rd r) ∧
        onlyChanges [.status, .page 0x01, .page 0x11] s t := by
  have ca := State.canonical_awake c
  have ignored' : s.awake.rd ARITH.TESTCTL.busy = 1 ∨ s.awake.variant.channels ≤ ch := by
    rwa [State.awake_variant, State.awake_rd (by decide) (by decide)]
  have others : ∀ r : Ref, r.disjoint ARITH.TESTCTL.ch → r.addr ≠ PWR.STAT.state.addr →
      (s.awake.wr ARITH.TESTCTL.ch ch).rd r = s.rd r := fun r apart ne =>
    (State.rd_wr_disjoint ca apart).trans (State.awake_rd apart.1 ne)
  refine answers_of_command (f := fun s => s.testStart (ch % 1024)) rfl h ?_
  rw [Nat.mod_eq_of_lt small, State.testStart_ignored ignored']
  refine ⟨rfl, others ARITH.TESTCTL.busy (by simp [Ref.disjoint, ARITH.TESTCTL.busy, ARITH.TESTCTL.ch]) (by decide), ?_,
    State.wr_arith.trans State.awake_arith, fun r m => ?_, ?_⟩
  · exact (State.rd_wr ca (by decide) rfl).trans (Nat.mod_eq_of_lt small)
  · have places : ∀ r ∈ [ARITH.TESTCODE.code, ARITH.TESTREC.bytes 0, ARITH.TESTREC.bytes 1, ARITH.TESTREC.bytes 2, ARITH.TESTREC.bytes 3,
        ARITH.QMAX.entries], r.disjoint ARITH.TESTCTL.ch ∧ r.addr ≠ PWR.STAT.state.addr := by
      unfold Ref.disjoint
      decide
    exact others r (places r m).1 (places r m).2
  · have awake : Kept [.status, .page 0x01, .page 0x11] s s.awake := State.awake_kept (Kept.refl _ s) (Part.within_of_check (by decide))
    exact ((State.wr_kept awake (ARITH.TESTCTL.ch_zoned (Part.among_self (by decide)))).status (Part.among_self (by decide))).only

end

/-- Settles O34: a start writes the channel, and where it is not ignored its entry is the last of the queue, since the quiesce of ARITH holds
back no test entry. -/
theorem testRecordsJoinTheQueue : Obligations.TestRecordsJoinTheQueue := fun _ _ _ c h =>
  ⟨testRecordStart_joins c h, testRecordStart_ignored c h⟩

end Sys2Proof.Proofs

/-!
PROOFS. The duty-engineer call: the commands of CALL, its pins and its events. First the facts about the operations involved: that an evaluation does
not look at the status byte, which fields and times an evaluation writes, what it makes of an offer and of the personnel alarm, what each command
changes between its two evaluations, and what sending a message counts; then the statements.
-/

namespace Sys2Proof.Machine

/-! ### The status byte -/

/-- The state with a status byte. -/
def State.statused (s : State) (n : Nat) : State := { s with status := n }

section
variable {s : State} {n te : Nat} {r : Ref}

@[simp] theorem State.statused_rd : (s.statused n).rd r = s.rd r := by rw [State.statused, State.rd_status]
@[simp] theorem State.statused_flag : (s.statused n).flag r = s.flag r := congrArg (· != 0) State.statused_rd
@[simp] theorem State.statused_call : (s.statused n).call = s.call := by rw [State.statused]
@[simp] theorem State.statused_alarm : (s.statused n).alarm = s.alarm := rfl
@[simp] theorem State.statused_stime : (s.statused n).stime = s.stime := rfl
@[simp] theorem State.statused_working {p : Nat} : (s.statused n).working p = s.working p := rfl
@[simp] theorem State.statused_drivenBy {stage : Nat} : (s.statused n).drivenBy stage = s.drivenBy stage := rfl
@[simp] theorem State.statused_allLost {mask : Nat} : (s.statused n).allLost mask = s.allLost mask := rfl
@[simp] theorem State.statused_cpsOf {e : Nat} : (s.statused n).cpsOf e = s.cpsOf e := rfl
@[simp] theorem State.statused_onRoster {e : Nat} : (s.statused n).onRoster e = s.onRoster e := rfl
@[simp] theorem State.statused_dioInput {p : Nat} : (s.statused n).dioInput p = s.dioInput p := by rw [State.statused]; rfl
@[simp] theorem State.statused_demandNow : (s.statused n).demandNow = s.demandNow := rfl
@[simp] theorem State.statused_counts {k : Nat} : (s.statused n).counts k = s.counts k := rfl
@[simp] theorem State.statused_modCall {f : CallState → CallState} : (s.statused n).modCall f = (s.modCall f).statused n := rfl
@[simp] theorem State.statused_modAlm {f : AlmState → AlmState} : (s.statused n).modAlm f = (s.modAlm f).statused n := rfl

/-- The status byte may be set after a choice between two states. -/
theorem State.statused_ite {p : Prop} [Decidable p] {x y : State} :
    (if p then x.statused n else y.statused n) = (if p then x else y).statused n := (apply_ite (State.statused · n) p x y).symm

@[simp] theorem State.statused_wr {v : Nat} : (s.statused n).wr r v = (s.wr r v).statused n := by
  unfold State.wr
  split <;> rfl

@[simp] theorem State.statused_irq : (s.statused n).irq r = (s.irq r).statused n := State.statused_wr
@[simp] theorem State.statused_put {b : Bool} : (s.statused n).put r b = (s.put r b).statused n := State.statused_wr

@[simp] theorem State.statused_stick {count ovf : Ref} {event : Option Ref} :
    (s.statused n).stick count ovf event = (s.stick count ovf event).statused n := by
  unfold State.stick
  cases event <;> simp [State.statused_ite]

@[simp] theorem State.statused_fault {code : Nat} : (s.statused n).fault r code = (s.fault r code).statused n := by
  simp [State.fault, State.statused_ite]

@[simp] theorem State.statused_toStage {stage : Nat} : (s.statused n).toStage stage te = (s.toStage stage te).statused n := by
  unfold State.toStage
  simp only [State.statused_wr, State.statused_modCall, State.statused_ite]
  split <;> simp [State.statused_ite]

@[simp] theorem State.statused_offerFail : (s.statused n).offerFail = s.offerFail.statused n := by simp [State.offerFail]

/-- arm_pin is looked at only while a look is due (R268). -/
theorem State.armLook_idle (idle : s.call.armDue = false) : s.armLook te = s := by
  unfold State.armLook
  rw [idle]
  rfl

@[simp] theorem State.statused_armLook : (s.statused n).armLook te = (s.armLook te).statused n := by
  cases due : s.call.armDue with
  | false => rw [State.armLook_idle due, State.armLook_idle (State.statused_call ▸ due)]
  | true =>
    unfold State.armLook
    simp only [State.statused_call, due, State.statused_rd, State.statused_dioInput]
    generalize (if s.rd CALL.PERS.arm_pin < 48 then (s.dioInput (s.rd CALL.PERS.arm_pin)).map Prod.fst else some false) = seen
    cases seen <;> simp

@[simp] theorem State.statused_persRun : (s.statused n).persRun te = (s.persRun te).statused n := by
  unfold State.persRun
  simp [State.statused_ite]

@[simp] theorem State.statused_stageRun {news : Bool} : (s.statused n).stageRun te news = (s.stageRun te news).statused n := by
  unfold State.stageRun
  simp only [State.statused_rd, State.statused_flag, State.statused_call, State.statused_toStage, State.statused_cpsOf, State.statused_allLost,
    State.statused_drivenBy, State.statused_ite]

/-- An evaluation does not look at the status byte. -/
theorem State.statused_callEvaluate : (s.statused n).callEvaluate = s.callEvaluate.statused n := by
  unfold State.callEvaluate
  simp [State.statused_ite, State.when]

end

/-! ### What CALL writes -/

/-- Two fields that share no bit; the second may go on in the next word. -/
def Ref.apart (q r : Ref) : Bool :=
  decide (q.addr ≠ r.addr ∧ q.addr ≠ r.addr + 4) || decide (r.lo + r.w ≤ 32 ∧ (q.lo + q.w ≤ r.lo ∨ r.lo + r.w ≤ q.lo))

/-- A field of one word below the header of its page, apart from each of a list. -/
def Ref.clearOf (q : Ref) (l : List Ref) : Bool := decide (q.lo + q.w ≤ 32 ∧ 0x40 ≤ q.addr % 0x1000) && l.all q.apart

/-- A bit of IRQRAW of CALL. -/
def Ref.callEvent (q : Ref) : Bool := decide (q.addr = 0x28014 ∧ q.w = 1 ∧ q.lo + q.w ≤ 32 ∧ q.cfg = false)

/-- The times of CALL after a step at the time te: a time is as it was or te, and no look at arm_pin has come due. -/
structure CallState.ran (te : Nat) (c d : CallState) : Prop where
  offer : d.tOffer = c.tOffer
  answer : d.tAns = c.tAns ∨ d.tAns = te
  reset : d.tReset = c.tReset ∨ d.tReset = te
  look : c.armDue = false → d.armDue = false

/-- What a step of CALL leaves: every field below the header but those listed, the events raised, and the times. -/
structure State.ran (l : List Ref) (s t : State) : Prop where
  canon : t.canonical
  stime : t.stime = s.stime
  same : ∀ q : Ref, q.clearOf l = true → t.rd q = s.rd q
  raised : ∀ q : Ref, q.callEvent = true → s.rd q = 1 → t.rd q = 1
  times : s.call.ran (s.stime % 2 ^ 48) t.call

/-- The fields that a change of stage writes. -/
def stageRefs : List Ref :=
  [CALL.STATE.stage, CALL.TCALL.t_call, CALL.STATE.officer, CALL.CALLCNT.count, CALL.CNTOVF.call, CALL.OFFCNT.count, CALL.CNTOVF.off]

section
variable {s t v : State} {q r : Ref} {l : List Ref} {n : Nat}

theorem CallState.ran.refl {te : Nat} {c : CallState} : c.ran te c := ⟨rfl, .inl rfl, .inl rfl, id⟩

theorem CallState.ran.trans {te : Nat} {c d e : CallState} (h : c.ran te d) (k : d.ran te e) : c.ran te e where
  offer := k.offer.trans h.offer
  answer := k.answer.elim (fun e => h.answer.imp e.trans e.trans) .inr
  reset := k.reset.elim (fun e => h.reset.imp e.trans e.trans) .inr
  look := k.look ∘ h.look

theorem Ref.clearOf_iff : q.clearOf l = true ↔ (q.lo + q.w ≤ 32 ∧ 0x40 ≤ q.addr % 0x1000) ∧ ∀ r ∈ l, q.apart r = true := by
  simp only [Ref.clearOf, Bool.and_eq_true, decide_eq_true_eq, List.all_eq_true]

theorem Ref.callEvent_iff : q.callEvent = true ↔ q.addr = 0x28014 ∧ q.w = 1 ∧ q.lo + q.w ≤ 32 ∧ q.cfg = false := decide_eq_true_iff

theorem State.rd_wr_apart (c : s.canonical) (hq : q.lo + q.w ≤ 32) (h : q.apart r = true) : (s.wr r n).rd q = s.rd q := by
  simp only [Ref.apart, Bool.or_eq_true, decide_eq_true_eq] at h
  obtain ⟨here, next⟩ | ⟨hr, bits⟩ := h
  · exact State.rd_wr_other hq here (.inr next)
  · exact State.rd_wr_disjoint c ⟨hq, hr, .inr bits⟩

/-- A write of another word leaves the events. -/
theorem State.event_wr_other (hq : q.callEvent = true) (here : r.addr ≠ 0x28014) (next : r.lo + r.w ≤ 32 ∨ r.addr + 4 ≠ 0x28014) :
    (s.wr r n).rd q = s.rd q := by
  obtain ⟨qa, -, q32, -⟩ := Ref.callEvent_iff.mp hq
  exact State.rd_wr_other q32 (qa ▸ here.symm) (next.imp_right fun k => qa ▸ k.symm)

/-- An event stays raised when an event is raised. -/
theorem State.irq_raised (c : s.canonical) (hq : q.callEvent = true) (hr : r.callEvent = true) (h : s.rd q = 1) : (s.irq r).rd q = 1 := by
  obtain ⟨qa, qw, q32, qc⟩ := Ref.callEvent_iff.mp hq
  obtain ⟨ra, rw_, r32, rc⟩ := Ref.callEvent_iff.mp hr
  by_cases lo : q.lo = r.lo
  · have same : q = r := by
      cases q
      cases r
      simp_all
    rw [same]
    exact State.rd_irq c r32 rw_ rc
  · rw [State.rd_irq_disjoint c ⟨q32, r32, .inr (by omega)⟩, h]

namespace State.ran

theorem refl (c : s.canonical) : s.ran l s := ⟨c, rfl, fun _ _ => rfl, fun _ _ => id, .refl⟩

theorem trans (h : s.ran l t) (k : t.ran l v) : s.ran l v where
  canon := k.canon
  stime := k.stime.trans h.stime
  same q hq := (k.same q hq).trans (h.same q hq)
  raised q hq := k.raised q hq ∘ h.raised q hq
  times := h.times.trans (h.stime ▸ k.times)

theorem mono {m : List Ref} (h : s.ran l t) (sub : l ⊆ m) : s.ran m t where
  canon := h.canon
  stime := h.stime
  same q hq := h.same q (Ref.clearOf_iff.mpr ((Ref.clearOf_iff.mp hq).imp_right fun k r hr => k r (sub hr)))
  raised := h.raised
  times := h.times

theorem wr (h : s.ran l t) (hr : r ∈ l) (below : 0x40 ≤ r.addr % 0x1000 := by decide) : s.ran l (t.wr r n) :=
  h.trans {
    canon := State.canonical_wr h.canon
    stime := State.wr_stime
    same := fun q hq => by
      obtain ⟨⟨narrow, -⟩, clear⟩ := Ref.clearOf_iff.mp hq
      exact State.rd_wr_apart h.canon narrow (clear r hr)
    raised := fun q hq => (State.event_wr_other hq (by omega) (.inr (by omega))).trans
    times := by rw [State.wr_call]; exact .refl }

/-- A word of the header is clear of every field below it. -/
theorem wrHeader (h : s.ran l t) (head : r.addr % 0x1000 < 0x40) (hw : r.lo + r.w ≤ 32)
    (raised : ∀ q : Ref, q.callEvent = true → t.rd q = 1 → (t.wr r n).rd q = 1) : s.ran l (t.wr r n) :=
  h.trans {
    canon := State.canonical_wr h.canon
    stime := State.wr_stime
    same := fun q hq => by
      obtain ⟨⟨narrow, low⟩, -⟩ := Ref.clearOf_iff.mp hq
      exact State.rd_wr_other narrow (by omega) (.inl hw)
    raised := raised
    times := by rw [State.wr_call]; exact .refl }

/-- So are the events, which stay raised. -/
theorem irq (h : s.ran l t) (hr : r.callEvent = true := by decide) : s.ran l (t.irq r) := by
  obtain ⟨addr, -, narrow, -⟩ := Ref.callEvent_iff.mp hr
  exact h.wrHeader (by omega) narrow fun q hq => State.irq_raised h.canon hq hr

theorem ite {p : Prop} [Decidable p] (ht : s.ran l t) (hv : s.ran l v) : s.ran l (if p then t else v) := by
  split
  · exact ht
  · exact hv

theorem stick {count ovf event : Ref} (h : s.ran l t) (hc : count ∈ l) (ho : ovf ∈ l) (below : 0x40 ≤ count.addr % 0x1000 := by decide)
    (below' : 0x40 ≤ ovf.addr % 0x1000 := by decide) (he : event.callEvent = true := by decide) : s.ran l (t.stick count ovf (some event)) := by
  unfold State.stick
  have counted : s.ran l (if t.rd count < 2 ^ count.w - 1 then t.wr count (t.rd count + 1) else t) := (h.wr hc below).ite h
  exact counted.ite (((counted.wr ho below').irq he).ite (counted.wr ho below'))

/-- The words of a fault are in the header. -/
theorem faultNocp (h : s.ran l t) {code : Nat} : s.ran l (t.fault CALL.FAULT.nocp code) := by
  have beside {u : State} {r : Ref} {n : Nat} (h : s.ran l u) (head : r.addr % 0x1000 < 0x40) (hw : r.lo + r.w ≤ 32) (ha : r.addr ≠ 0x28014) :
      s.ran l (u.wr r n) := h.wrHeader head hw fun _ hq => (State.event_wr_other hq ha (.inl hw)).trans
  unfold State.fault
  have informed : s.ran l (if t.rd (HDR.FAULT 0x28) = 0 then t.wr (HDR.FAULTINFO 0x28) (0xFFFF % 65536 * 65536 + code) else t) :=
    (beside h (by decide) (by decide) (by decide)).ite h
  exact informed.ite ((beside informed (by decide) (by decide) (by decide)).irq (by decide))

theorem modCall {f : CallState → CallState} (h : s.ran l t) (hf : t.call.ran (s.stime % 2 ^ 48) (f t.call)) : s.ran l (t.modCall f) :=
  h.trans ⟨h.canon, rfl, fun _ _ => rfl, fun _ _ => id, h.stime ▸ hf⟩

theorem modAlm {f : AlmState → AlmState} (h : s.ran l t) : s.ran l (t.modAlm f) :=
  h.trans ⟨h.canon, rfl, fun _ _ => rfl, fun _ _ => id, .refl⟩

theorem toStage (h : s.ran l t) (hl : stageRefs ⊆ l) : s.ran l (t.toStage n (s.stime % 2 ^ 48)) := by
  unfold State.toStage
  extract_lets s1 s2
  have h1 : s.ran l s1 := h.wr (hl (by decide))
  have h2 : s.ran l s2 := (h1.modCall ⟨rfl, .inl rfl, .inl rfl, id⟩).ite h1
  clear_value s1 s2
  split
  · exact h2
  · exact (((h2.wr (hl (by decide))).wr (hl (by decide))).irq).stick (hl (by decide)) (hl (by decide))
  · exact h2.irq
  · next s3 _ =>
    have h3 : s.ran l s3 := (h2.irq.wr (hl (by decide))).stick (hl (by decide)) (hl (by decide))
    clear_value s3
    exact h3.faultNocp.ite h3
  · exact h2.irq.modCall ⟨rfl, .inr rfl, .inl rfl, id⟩

theorem offerFail (h : s.ran l t) (hl : CALL.STATE.relay_pend ∈ l) : s.ran l t.offerFail := (h.wr hl).irq

theorem persRun (h : s.ran l t) (hl : stageRefs ⊆ l) (hp : CALL.STATE.pers ∈ l) : s.ran l (t.persRun (s.stime % 2 ^ 48)) := by
  unfold State.persRun
  extract_lets ran interval s1 s2 stage s3
  have h1 : s.ran l s1 := (h.wr hp).irq.ite h
  clear_value s1
  have h2 : s.ran l s2 := (h1.wr hp).irq
  clear_value s2
  have h3 : s.ran l s3 := ((h2.wr (hl (by decide))).stick (hl (by decide)) (hl (by decide))).ite h2
  clear_value s3
  exact (((h3.toStage hl).wr (hl (by decide))).ite h2).ite h1

theorem stageRun {news : Bool} (h : s.ran l t) (hl : stageRefs ⊆ l) : s.ran l (t.stageRun (s.stime % 2 ^ 48) news) := by
  unfold State.stageRun
  extract_lets demand stage ran s1 s2 s3 s4 s5
  have h1 : s.ran l s1 := (h.toStage hl).ite h
  clear_value s1
  have h2 : s.ran l s2 := (h1.toStage hl).ite h1
  clear_value s2
  have h3 : s.ran l s3 := (h2.toStage hl).ite h2
  clear_value s3
  have h4 : s.ran l s4 := (h3.toStage hl).ite h3
  clear_value s4
  have h5 : s.ran l s5 := (h4.toStage hl).ite h4
  clear_value s5
  exact (h5.toStage hl).ite h5

theorem armLook (h : s.ran l t) (hp : CALL.STATE.pers ∈ l) : s.ran l (t.armLook (s.stime % 2 ^ 48)) := by
  unfold State.armLook
  refine h.ite ?_
  extract_lets p seen
  cases seen
  · exact h
  · exact (h.wr hp).modCall ⟨rfl, .inl rfl, .inr rfl, fun _ => rfl⟩

end State.ran
end

/-! ### The parts of an evaluation (R255) -/

/-- The timers restart where that is due, and arm_pin is looked at (R266, R268). -/
def State.callStart (s : State) (te : Nat) : State :=
  (if s.call.restart then (s.wr CALL.TCALL.t_call te).modCall fun c => { c with tAns := te, tReset := te, restart := false } else s).armLook te

/-- Then the personnel alarm runs (R263). -/
def State.callPers (s : State) (te : Nat) : State :=
  if (s.callStart te).flag CALL.PERS.enable then (s.callStart te).persRun te else (s.callStart te).wr CALL.STATE.pers 0

/-- Then the demand is formed and the stage runs on the system master (R253, R254, R260). -/
def State.callStages (s : State) (te : Nat) (news : Bool) : State :=
  let s1 := (s.put CALL.STATE.demand s.demandNow).modAlm fun a => { a with news := [] }
  if s1.flag CALL.CFG.master then s1.stageRun te news else if s1.rd CALL.STATE.stage = 0 then s1 else s1.toStage 0 te

/-- Then an offer that is not confirmed in time is withdrawn (R264). -/
def State.callOffer (s : State) (te : Nat) : State :=
  if s.flag CALL.STATE.relay_pend && decide (s.rd CALL.TIMES2.relay_to * 1000000 ≤ since48 te s.call.tOffer) then s.offerFail else s

/-- Last the call points of the stage are driven (R259, R271). -/
def State.callDrive (s : State) (te : Nat) (lost : Bool) : State :=
  ((s.wr CALL.CPDRIVE.cp (s.drivenBy (s.rd CALL.STATE.stage))).when lost fun t => t.fault CALL.FAULT.nocp 0x0110).modCall
    fun c => { c with lastTe := te }

section
variable {s t : State} {l : List Ref} {te : Nat}

theorem State.callEvaluate_idle (h : s.working 0x28 = false) : s.callEvaluate = s := by
  unfold State.callEvaluate
  rw [h]
  rfl

theorem State.callEvaluate_eq (h : s.working 0x28 = true) : ∃ news lost, s.callEvaluate =
    ((((s.callPers (s.stime % 2 ^ 48)).callStages (s.stime % 2 ^ 48) news).callOffer (s.stime % 2 ^ 48)).callDrive (s.stime % 2 ^ 48) lost) := by
  unfold State.callEvaluate
  rw [h]
  exact ⟨_, _, rfl⟩

/-- The fields that an evaluation writes. -/
def callRefs : List Ref :=
  stageRefs ++ [CALL.STATE.pers, CALL.STATE.demand, CALL.STATE.relay_pend, CALL.CPDRIVE.cp]

/-- The fields that it writes after the personnel alarm has run. -/
def callRefsAfterPers : List Ref := stageRefs ++ [CALL.STATE.demand, CALL.STATE.relay_pend, CALL.CPDRIVE.cp]

/-- The fields that it writes before it looks at an offer. -/
def callRefsBeforeOffer : List Ref := stageRefs ++ [CALL.STATE.pers, CALL.STATE.demand]

namespace State.ran

theorem callStart (h : s.ran l t) (hl : stageRefs ⊆ l) (hp : CALL.STATE.pers ∈ l) : s.ran l (t.callStart (s.stime % 2 ^ 48)) :=
  (((h.wr (hl (by decide))).modCall ⟨rfl, .inr rfl, .inr rfl, id⟩).ite h).armLook hp

theorem callPers (h : s.ran l t) (hl : stageRefs ⊆ l) (hp : CALL.STATE.pers ∈ l) : s.ran l (t.callPers (s.stime % 2 ^ 48)) :=
  ((h.callStart hl hp).persRun hl hp).ite ((h.callStart hl hp).wr hp)

theorem callStages {news : Bool} (h : s.ran l t) (hl : stageRefs ⊆ l) (hd : CALL.STATE.demand ∈ l) :
    s.ran l (t.callStages (s.stime % 2 ^ 48) news) := by
  unfold State.callStages
  extract_lets s1
  have h1 : s.ran l s1 := (h.wr hd).modAlm
  exact (h1.stageRun hl).ite (h1.ite (h1.toStage hl))

theorem callOffer (h : s.ran l t) (hp : CALL.STATE.relay_pend ∈ l) : s.ran l (t.callOffer te) := (h.offerFail hp).ite h

theorem callDrive {lost : Bool} (h : s.ran l t) (hc : CALL.CPDRIVE.cp ∈ l) : s.ran l (t.callDrive te lost) :=
  ((h.wr hc).faultNocp.ite (h.wr hc)).modCall ⟨rfl, .inl rfl, .inl rfl, id⟩

end State.ran

theorem State.callEvaluate_ran (c : s.canonical) : s.ran callRefs s.callEvaluate := by
  cases working : s.working 0x28 with
  | false => rw [State.callEvaluate_idle working]; exact .refl c
  | true =>
    obtain ⟨news, lost, eq⟩ := State.callEvaluate_eq working
    rw [eq]
    have stages : stageRefs ⊆ callRefs := by decide
    exact ((((State.ran.refl c).callPers stages (by decide)).callStages stages (by decide)).callOffer (by decide)).callDrive (by decide)

/-! ### An offer in an evaluation (R264) -/

theorem since48_self {now : Nat} : since48 (now % 2 ^ 48) (now % 2 ^ 48) = 0 := by
  unfold since48
  omega

theorem State.callOffer_closed (closed : s.rd CALL.STATE.relay_pend = 0) : (s.callOffer te).rd CALL.STATE.relay_pend = 0 := by
  unfold State.callOffer
  simp [State.flag, closed]

/-- An offer made at the time of the evaluation stays open. -/
theorem State.callOffer_fresh (made : since48 te s.call.tOffer = 0) (time : 0 < s.rd CALL.TIMES2.relay_to) : s.callOffer te = s := by
  unfold State.callOffer
  rw [made]
  exact if_neg (by simp; omega)

/-- relay_pend after an evaluation is as the look at the offer leaves it. -/
theorem State.callEvaluate_pend (c : s.canonical) (working : s.working 0x28 = true) : ∃ t : State, s.ran callRefsBeforeOffer t ∧
    s.callEvaluate.rd CALL.STATE.relay_pend = (t.callOffer (s.stime % 2 ^ 48)).rd CALL.STATE.relay_pend := by
  obtain ⟨news, lost, eq⟩ := State.callEvaluate_eq working
  have stages : stageRefs ⊆ callRefsBeforeOffer := by decide
  have before : s.ran callRefsBeforeOffer ((s.callPers (s.stime % 2 ^ 48)).callStages (s.stime % 2 ^ 48) news) :=
    ((State.ran.refl c).callPers stages (by decide)).callStages stages (by decide)
  refine ⟨_, before, ?_⟩
  rw [eq]
  have offered := State.ran.callOffer (te := s.stime % 2 ^ 48) (.refl (l := [CALL.STATE.relay_pend]) before.canon) (by decide)
  exact (State.ran.callDrive (l := [CALL.CPDRIVE.cp]) (.refl offered.canon) (by decide)).same _ (by decide)

theorem State.callEvaluate_closed (c : s.canonical) (closed : s.rd CALL.STATE.relay_pend = 0) : s.callEvaluate.rd CALL.STATE.relay_pend = 0 := by
  cases working : s.working 0x28 with
  | false => rwa [State.callEvaluate_idle working]
  | true =>
    obtain ⟨t, before, eq⟩ := State.callEvaluate_pend c working
    rw [eq, State.callOffer_closed ((before.same _ (by decide)).trans closed)]

theorem State.callEvaluate_offered (c : s.canonical) (made : s.call.tOffer = s.stime % 2 ^ 48) (time : 0 < s.rd CALL.TIMES2.relay_to) :
    s.callEvaluate.rd CALL.STATE.relay_pend = s.rd CALL.STATE.relay_pend := by
  cases working : s.working 0x28 with
  | false => rw [State.callEvaluate_idle working]
  | true =>
    obtain ⟨t, before, eq⟩ := State.callEvaluate_pend c working
    have fresh : since48 (s.stime % 2 ^ 48) t.call.tOffer = 0 := by rw [before.times.offer, made, since48_self]
    rw [eq, State.callOffer_fresh fresh (by rwa [before.same _ (by decide)]), before.same _ (by decide)]

/-! ### The personnel alarm in an evaluation (R263) -/

theorem State.persRun_off (off : s.rd CALL.STATE.pers = 0) : s.persRun te = s := by
  unfold State.persRun
  simp [off]

/-- Reset at the time of the evaluation, it stays armed. -/
theorem State.persRun_armed (armed : s.rd CALL.STATE.pers = 1) (now : since48 te s.call.tReset = 0) (time : 0 < s.rd CALL.PERS.interval) :
    s.persRun te = s := by
  unfold State.persRun
  have early : ¬s.rd CALL.PERS.interval * 1000000 ≤ 0 := by omega
  simp only [armed, now, early, and_false, if_false, show (1 : Nat) ≠ 2 by decide, false_and]

/-- No start of an evaluation changes the personnel alarm while no look at arm_pin is due. -/
theorem State.callStart_ran (c : s.canonical) (idle : s.call.armDue = false) :
    s.ran stageRefs (s.callStart (s.stime % 2 ^ 48)) := by
  unfold State.callStart
  have restarted : s.ran stageRefs (if s.call.restart then
      (s.wr CALL.TCALL.t_call (s.stime % 2 ^ 48)).modCall fun c => { c with tAns := s.stime % 2 ^ 48, tReset := s.stime % 2 ^ 48, restart := false }
      else s) := (((State.ran.refl c).wr (by decide)).modCall ⟨rfl, .inr rfl, .inr rfl, id⟩).ite (.refl c)
  rwa [State.armLook_idle (restarted.times.look idle)]

theorem State.callEvaluate_pers (c : s.canonical) (working : s.working 0x28 = true) :
    s.callEvaluate.rd CALL.STATE.pers = (s.callPers (s.stime % 2 ^ 48)).rd CALL.STATE.pers := by
  obtain ⟨news, lost, eq⟩ := State.callEvaluate_eq working
  have pers : s.ran callRefs (s.callPers (s.stime % 2 ^ 48)) := (State.ran.refl c).callPers (by decide) (by decide)
  have stages : stageRefs ⊆ callRefsAfterPers := by decide
  have after := (((State.ran.refl (l := callRefsAfterPers) pers.canon).callStages (news := news) stages (by decide)).callOffer
    (te := s.stime % 2 ^ 48) (by decide)).callDrive (te := s.stime % 2 ^ 48) (lost := lost) (by decide)
  rw [pers.stime] at after
  rw [eq, after.same _ (by decide)]

theorem State.callEvaluate_off (c : s.canonical) (idle : s.call.armDue = false) (off : s.rd CALL.STATE.pers = 0) :
    s.callEvaluate.rd CALL.STATE.pers = 0 := by
  cases working : s.working 0x28 with
  | false => rwa [State.callEvaluate_idle working]
  | true =>
    have start := State.callStart_ran c idle
    have off' : (s.callStart (s.stime % 2 ^ 48)).rd CALL.STATE.pers = 0 := (start.same _ (by decide)).trans off
    rw [State.callEvaluate_pers c working, State.callPers, State.persRun_off off']
    split
    · exact off'
    · exact State.rd_wr start.canon (by decide) rfl

theorem State.callEvaluate_armed (c : s.canonical) (idle : s.call.armDue = false) (armed : s.rd CALL.STATE.pers = 1)
    (reset : s.call.tReset = s.stime % 2 ^ 48) (time : 0 < s.rd CALL.PERS.interval) (enabled : s.rd CALL.PERS.enable = 1) :
    s.callEvaluate.rd CALL.STATE.pers = 1 := by
  cases working : s.working 0x28 with
  | false => rwa [State.callEvaluate_idle working]
  | true =>
    have start := State.callStart_ran c idle
    have armed' : (s.callStart (s.stime % 2 ^ 48)).rd CALL.STATE.pers = 1 := (start.same _ (by decide)).trans armed
    have reset' : since48 (s.stime % 2 ^ 48) (s.callStart (s.stime % 2 ^ 48)).call.tReset = 0 := by
      rw [start.times.reset.elim (·.trans reset) id, since48_self]
    have time' : 0 < (s.callStart (s.stime % 2 ^ 48)).rd CALL.PERS.interval := by rwa [start.same _ (by decide)]
    have enabled' : (s.callStart (s.stime % 2 ^ 48)).flag CALL.PERS.enable = true := by
      rw [State.flag, start.same _ (by decide), enabled]
      rfl
    rw [State.callEvaluate_pers c working, State.callPers, if_pos enabled', State.persRun_armed armed' reset' time', armed']

end

/-! ### What a command changes between its two evaluations (R260, R263, R264) -/

/-- A command that arms or disarms the personnel alarm stands for the look at arm_pin (R268). -/
def State.armLooked (s : State) : State := s.modCall fun c => { c with armDue := false }

/-- The personnel alarm is armed anew (R263). -/
def State.persReset (s : State) (te : Nat) : State := (s.armLooked.wr CALL.STATE.pers 1).modCall fun c => { c with tReset := te }

/-- An offer of duty stands open (R264). -/
def State.dutyOffered (s : State) (e te : Nat) : State :=
  ((s.wr CALL.STATE.relay_pend 1).wr CALL.STATE.relay_tgt e).modCall fun c => { c with tOffer := te }

/-- The engineer that the offer names has duty (R264). -/
def State.dutyMoved (s : State) : State :=
  ((s.wr CALL.STATE.duty (s.rd CALL.STATE.relay_tgt)).wr CALL.STATE.relay_pend 0).irq CALL.IRQRAW.relay_done

section
variable {s : State} {e te : Nat}

/-- An acknowledgement is raised as an event, at its time. -/
theorem State.toStage_answered (can : s.canonical) : (s.toStage 4 te).rd CALL.IRQRAW.answered = 1 ∧ (s.toStage 4 te).call.tAns = te := by
  have staged : ((s.wr CALL.STATE.stage 4).modCall fun c => { c with oldDuty := [] }).canonical := State.canonical_wr can
  have answer : s.toStage 4 te = (((s.wr CALL.STATE.stage 4).modCall fun c => { c with oldDuty := [] }).irq CALL.IRQRAW.answered).modCall
      fun c => { c with tAns := te } := by simp [State.toStage]
  rw [answer, State.modCall_rd, State.modCall_call]
  exact ⟨State.rd_irq staged (by decide) rfl rfl, rfl⟩

theorem State.modCall_id : s.modCall id = s := rfl

theorem State.armLooked_canonical (can : s.canonical) : s.armLooked.canonical := can

theorem State.persReset_armed (can : s.canonical) : (s.persReset te).rd CALL.STATE.pers = 1 :=
  State.rd_wr (State.armLooked_canonical can) (by decide) rfl

theorem State.persReset_call : (s.persReset te).call = { s.call with armDue := false, tReset := te } := by
  rw [State.persReset, State.modCall_call, State.wr_call, State.armLooked, State.modCall_call]

theorem State.persReset_cfg {r : Ref} (hc : r.cfg = true) : (s.persReset te).rd r = s.rd r := by
  rw [State.persReset, State.modCall_rd, State.rd_wr_cfg hc, State.armLooked, State.modCall_rd]

theorem State.dutyOffered_open (can : s.canonical) (small : e < 16) :
    (s.dutyOffered e te).rd CALL.STATE.relay_pend = 1 ∧ (s.dutyOffered e te).rd CALL.STATE.relay_tgt = e := by
  have pended : (s.wr CALL.STATE.relay_pend 1).canonical := State.canonical_wr can
  rw [State.dutyOffered, State.modCall_rd, State.modCall_rd]
  exact ⟨by rw [State.rd_wr_apart pended (by decide) (by decide), State.rd_wr_one can (by decide) rfl rfl],
    (State.rd_wr pended (by decide) rfl).trans (Nat.mod_eq_of_lt small)⟩

theorem State.dutyOffered_time : (s.dutyOffered e te).call.tOffer = te := by
  rw [State.dutyOffered, State.modCall_call]

theorem State.dutyOffered_cfg {r : Ref} (hc : r.cfg = true) : (s.dutyOffered e te).rd r = s.rd r := by
  rw [State.dutyOffered, State.modCall_rd, State.rd_wr_cfg hc, State.rd_wr_cfg hc]

theorem State.dutyMoved_rd (can : s.canonical) : s.dutyMoved.rd CALL.STATE.duty = s.rd CALL.STATE.relay_tgt ∧
    s.dutyMoved.rd CALL.STATE.relay_pend = 0 ∧ s.dutyMoved.rd CALL.IRQRAW.relay_done = 1 := by
  have duty : (s.wr CALL.STATE.duty (s.rd CALL.STATE.relay_tgt)).canonical := State.canonical_wr can
  have closed : ((s.wr CALL.STATE.duty (s.rd CALL.STATE.relay_tgt)).wr CALL.STATE.relay_pend 0).canonical := State.canonical_wr duty
  refine ⟨?_, ?_, State.rd_irq closed (by decide) rfl rfl⟩
  · rw [State.dutyMoved, State.irq, State.rd_wr_apart closed (by decide) (by decide), State.rd_wr_apart duty (by decide) (by decide),
      State.rd_wr can (by decide) rfl]
    exact Nat.mod_eq_of_lt (State.rd_lt (by decide))
  · rw [State.dutyMoved, State.irq, State.rd_wr_apart closed (by decide) (by decide), State.rd_wr duty (by decide) rfl]
    rfl

/-- A withdrawn offer is no longer open, and its failure is raised. -/
theorem State.offerFail_closed (can : s.canonical) : s.offerFail.rd CALL.STATE.relay_pend = 0 ∧ s.offerFail.rd CALL.IRQRAW.relay_fail = 1 := by
  refine ⟨?_, State.rd_irq (State.canonical_wr can) (by decide) rfl rfl⟩
  rw [State.offerFail, State.irq, State.rd_wr_apart (State.canonical_wr can) (by decide) (by decide), State.rd_wr can (by decide) rfl]
  rfl

end

section
variable {s t : State} {c : QueuedCmd} {a : CmdAnswer} {cp e : Nat}

theorem State.callAct_acknowledge (op : c.op = 1) (point : getBits c.target 5 5 = cp) (driven : bit (s.rd CALL.CPDRIVE.cp) cp = true)
    (low : 1 ≤ s.rd CALL.STATE.stage) (high : s.rd CALL.STATE.stage ≤ 3) : s.callAct c = (⟨2, 0⟩, s.toStage 4 (s.stime % 2 ^ 48)) := by
  unfold State.callAct
  simp [op, point, driven, low, high]

theorem State.callAct_offer (op : c.op = 2) (command : c.arg = 0) (engineer : getBits c.target 0 4 = e) (may : s.onRoster e = true)
    (other : s.rd CALL.STATE.duty ≠ e) (closed : s.rd CALL.STATE.relay_pend = 0) :
    s.callAct c = (⟨2, 0⟩, s.dutyOffered e (s.stime % 2 ^ 48)) := by
  unfold State.callAct State.dutyOffered
  simp [op, command, engineer, may, other, closed, State.flag]

/-- A call in stage duty goes on at the call points of the old engineer (R265). -/
theorem State.callAct_confirm (op : c.op = 3) (point : getBits c.target 5 5 = cp) (open_ : s.rd CALL.STATE.relay_pend = 1)
    (own : cp ∈ s.cpsOf (s.rd CALL.STATE.relay_tgt)) : ∃ f : CallState → CallState, s.callAct c = (⟨2, 0⟩, s.dutyMoved.modCall f) := by
  have moved : s.callAct c = (⟨2, 0⟩, if s.rd CALL.STATE.stage = 1 then s.dutyMoved.modCall fun x =>
      { x with oldDuty := addTo (dropFrom x.oldDuty (s.rd CALL.STATE.relay_tgt)) (s.rd CALL.STATE.duty) } else s.dutyMoved) := by
    unfold State.callAct State.dutyMoved
    simp [op, point, open_, own, State.flag]
  rw [moved]
  split
  · exact ⟨_, rfl⟩
  · exact ⟨id, by rw [State.modCall_id]⟩

theorem State.callAct_cancel (op : c.op = 4) (open_ : s.rd CALL.STATE.relay_pend = 1) : s.callAct c = (⟨2, 0⟩, s.offerFail) := by
  unfold State.callAct
  simp [op, open_, State.flag]

theorem State.callAct_arm (op : c.op = 5) (enabled : s.rd CALL.PERS.enable = 1) (off : s.rd CALL.STATE.pers = 0) :
    s.callAct c = (⟨2, 0⟩, s.persReset (s.stime % 2 ^ 48)) := by
  unfold State.callAct State.persReset State.armLooked
  simp [op, enabled, off, State.flag, State.modCall_rd]

theorem State.callAct_disarm (op : c.op = 6) (on : s.rd CALL.STATE.pers ≠ 0) :
    s.callAct c = (⟨2, 0⟩, s.armLooked.wr CALL.STATE.pers 0) := by
  unfold State.callAct State.armLooked
  simp [op, on]

theorem State.callAct_disarmed (op : c.op = 6) (off : s.rd CALL.STATE.pers = 0) : s.callAct c = (⟨3, 0⟩, s.armLooked) := by
  unfold State.callAct State.armLooked
  simp [op, off]

theorem State.callAct_reset (op : c.op = 7) (on : s.rd CALL.STATE.pers ≠ 0) :
    s.callAct c = (⟨2, 0⟩, s.persReset (s.stime % 2 ^ 48)) := by
  unfold State.callAct State.persReset State.armLooked
  simp [op, on]

/-! ### A command applied (R255) -/

/-- CALL evaluates, the command acts and is answered in CMDSTAT, and CALL evaluates again. -/
def State.callDone (s : State) (c : QueuedCmd) : State :=
  ((s.callEvaluate.callAct c).2.callStat (s.callEvaluate.callAct c).1.state (s.callEvaluate.callAct c).1.reason).callEvaluate

/-- So is a command of a requester or a pin applied while CALL works. -/
theorem State.callEnqueue_eq (alive : s.alive 0x28 = true) (released : s.quiesced 0x28 = false) (own : c.forwarded = false)
    (untold : c.reply = none) : s.callEnqueue c = s.callDone c := by
  unfold State.callEnqueue State.callApply State.callDone State.replyTo
  simp [alive, released, own, untold]

theorem State.callDone_kept {l : List Part} {s0 : State} (h : Kept l s0 s)
    (hp : Part.within [.page 0x28, .call, .head 0x14, .head 0x24, .head 0x20, .alarm] l) : Kept l s0 (s.callDone c) :=
  State.callEvaluate_kept (State.callStat_kept (State.callAct_kept (State.callEvaluate_kept h (Part.sub hp)) (Part.sub hp)) (Part.sub hp))
    (Part.sub hp)

theorem State.callDone_eq (act : s.callEvaluate.callAct c = (a, t)) : s.callDone c = (t.callStat a.state a.reason).callEvaluate := by
  unfold State.callDone
  rw [act]

/-- The first evaluation and the command take no time. -/
theorem State.callActed (can : s.canonical) (act : s.callEvaluate.callAct c = (a, t)) : t.canonical ∧ t.stime = s.stime := by
  have before := State.callEvaluate_ran can
  have acted : Kept [.call, .page 0x28, .head 0x14, .head 0x24, .head 0x20] s.callEvaluate (s.callEvaluate.callAct c).2 :=
    State.callAct_kept (Kept.refl _ _) fun _ h => Part.among_self h
  rw [act] at acted
  exact ⟨acted.canon before.canon, (acted.only.1 .stime (by decide)).trans before.stime⟩

/-- The answer to a command writes CMDSTAT alone. -/
theorem State.callStat_ran {st rs : Nat} (can : s.canonical) : s.ran [CALL.CMDSTAT.state, CALL.CMDSTAT.reason] (s.callStat st rs) :=
  State.ran.wr (r := CALL.CMDSTAT.reason) (State.ran.wr (r := CALL.CMDSTAT.state) (.refl can) (by decide)) (by decide)

theorem State.callStat_state {st rs : Nat} (can : s.canonical) (small : st < 8) : (s.callStat st rs).rd CALL.CMDSTAT.state = st := by
  unfold State.callStat State.cmdStat
  rw [State.rd_wr_apart (State.canonical_wr can) (by decide) (by decide), State.rd_wr can (by decide) rfl]
  exact Nat.mod_eq_of_lt small

/-- The fields that an answer and an evaluation write. -/
def answerRefs : List Ref := [CALL.CMDSTAT.state, CALL.CMDSTAT.reason] ++ callRefs

/-- What follows the command leaves what it changed. -/
theorem State.callDone_ran (can : s.canonical) (act : s.callEvaluate.callAct c = (a, t)) : t.ran answerRefs (s.callDone c) := by
  obtain ⟨ct, -⟩ := State.callActed can act
  have stat : t.ran _ (t.callStat a.state a.reason) := State.callStat_ran ct
  rw [State.callDone_eq act]
  exact (stat.mono (by decide)).trans ((State.callEvaluate_ran stat.canon).mono (by decide))

/-- A command that has its effect says so. -/
theorem State.callDone_state (can : s.canonical) (act : s.callEvaluate.callAct c = (⟨2, 0⟩, t)) : (s.callDone c).rd CALL.CMDSTAT.state = 2 := by
  obtain ⟨ct, -⟩ := State.callActed can act
  rw [State.callDone_eq act, (State.callEvaluate_ran (State.callStat_ran ct).canon).same _ (by decide), State.callStat_state ct (by decide)]

/-- An offer that the command closes stays closed. -/
theorem State.callDone_closed (can : s.canonical) (act : s.callEvaluate.callAct c = (a, t)) (closed : t.rd CALL.STATE.relay_pend = 0) :
    (s.callDone c).rd CALL.STATE.relay_pend = 0 := by
  obtain ⟨ct, -⟩ := State.callActed can act
  have stat : t.ran _ (t.callStat a.state a.reason) := State.callStat_ran ct
  rw [State.callDone_eq act, State.callEvaluate_closed stat.canon ((stat.same _ (by decide)).trans closed)]

/-- An offer that the command makes stands open where offers have time. -/
theorem State.callDone_offered (can : s.canonical) (act : s.callEvaluate.callAct c = (a, t)) (made : t.call.tOffer = s.stime % 2 ^ 48)
    (time : 0 < t.rd CALL.TIMES2.relay_to) : (s.callDone c).rd CALL.STATE.relay_pend = t.rd CALL.STATE.relay_pend := by
  obtain ⟨ct, stime⟩ := State.callActed can act
  have stat : t.ran _ (t.callStat a.state a.reason) := State.callStat_ran ct
  have made' : (t.callStat a.state a.reason).call.tOffer = (t.callStat a.state a.reason).stime % 2 ^ 48 := by
    rw [stat.times.offer, made, stat.stime, stime]
  have time' : 0 < (t.callStat a.state a.reason).rd CALL.TIMES2.relay_to := by rwa [stat.same _ (by decide)]
  rw [State.callDone_eq act, State.callEvaluate_offered stat.canon made' time', stat.same _ (by decide)]

/-- A personnel alarm that the command leaves off stays off. -/
theorem State.callDone_off (can : s.canonical) (act : s.callEvaluate.callAct c = (a, t)) (off : t.rd CALL.STATE.pers = 0)
    (idle : t.call.armDue = false) : (s.callDone c).rd CALL.STATE.pers = 0 := by
  obtain ⟨ct, -⟩ := State.callActed can act
  have stat : t.ran _ (t.callStat a.state a.reason) := State.callStat_ran ct
  rw [State.callDone_eq act, State.callEvaluate_off stat.canon (stat.times.look idle) ((stat.same _ (by decide)).trans off)]

/-- One that it arms stays armed where the interval has time. -/
theorem State.callDone_armed (can : s.canonical) (act : s.callEvaluate.callAct c = (a, t)) (armed : t.rd CALL.STATE.pers = 1)
    (idle : t.call.armDue = false) (reset : t.call.tReset = s.stime % 2 ^ 48) (time : 0 < t.rd CALL.PERS.interval)
    (enabled : t.rd CALL.PERS.enable = 1) : (s.callDone c).rd CALL.STATE.pers = 1 := by
  obtain ⟨ct, stime⟩ := State.callActed can act
  have stat : t.ran _ (t.callStat a.state a.reason) := State.callStat_ran ct
  have reset' : (t.callStat a.state a.reason).call.tReset = (t.callStat a.state a.reason).stime % 2 ^ 48 := by
    have times := stat.times.reset
    rw [stime] at times
    rw [stat.stime, stime]
    exact times.elim (·.trans reset) id
  rw [State.callDone_eq act]
  exact State.callEvaluate_armed stat.canon (stat.times.look idle) ((stat.same _ (by decide)).trans armed) reset'
    (by rwa [stat.same _ (by decide)]) (by rwa [stat.same _ (by decide)])

/-- The times after a command are those that it leaves, or its own. -/
theorem State.callDone_times (can : s.canonical) (act : s.callEvaluate.callAct c = (a, t)) : t.call.ran (s.stime % 2 ^ 48) (s.callDone c).call := by
  obtain ⟨-, stime⟩ := State.callActed can act
  exact stime ▸ (State.callDone_ran can act).times

end

/-! ### The commands of CALL (R260, R263, R264) -/

section
variable {s : State} {c : QueuedCmd} {cp e : Nat}

theorem State.callDone_acknowledge (can : s.canonical) (op : c.op = 1) (point : getBits c.target 5 5 = cp)
    (driven : bit (s.callEvaluate.rd CALL.CPDRIVE.cp) cp = true) (low : 1 ≤ s.callEvaluate.rd CALL.STATE.stage)
    (high : s.callEvaluate.rd CALL.STATE.stage ≤ 3) :
    (s.callDone c).rd CALL.CMDSTAT.state = 2 ∧ (s.callDone c).rd CALL.IRQRAW.answered = 1 ∧ (s.callDone c).call.tAns = s.stime % 2 ^ 48 := by
  have before := State.callEvaluate_ran can
  have act := State.callAct_acknowledge op point driven low high
  rw [before.stime] at act
  obtain ⟨answered, time⟩ := State.toStage_answered (te := s.stime % 2 ^ 48) before.canon
  exact ⟨State.callDone_state can act, (State.callDone_ran can act).raised _ (by decide) answered,
    (State.callDone_times can act).answer.elim (·.trans time) id⟩

theorem State.callDone_offer (can : s.canonical) (op : c.op = 2) (command : c.arg = 0) (engineer : getBits c.target 0 4 = e) (small : e < 16)
    (may : s.callEvaluate.onRoster e = true) (other : s.callEvaluate.rd CALL.STATE.duty ≠ e)
    (closed : s.callEvaluate.rd CALL.STATE.relay_pend = 0) :
    (s.callDone c).rd CALL.CMDSTAT.state = 2 ∧ (0 < s.rd CALL.TIMES2.relay_to → (s.callDone c).rd CALL.STATE.relay_pend = 1 ∧
      (s.callDone c).rd CALL.STATE.relay_tgt = e ∧ (s.callDone c).call.tOffer = s.stime % 2 ^ 48) := by
  have before := State.callEvaluate_ran can
  have act := State.callAct_offer op command engineer may other closed
  rw [before.stime] at act
  obtain ⟨open_, target⟩ := State.dutyOffered_open (te := s.stime % 2 ^ 48) before.canon small
  refine ⟨State.callDone_state can act, fun time => ⟨?_, ?_, ?_⟩⟩
  · rw [State.callDone_offered can act State.dutyOffered_time, open_]
    rwa [State.dutyOffered_cfg rfl, before.same _ (by decide)]
  · rw [(State.callDone_ran can act).same _ (by decide), target]
  · rw [(State.callDone_times can act).offer, State.dutyOffered_time]

theorem State.callDone_confirm (can : s.canonical) (op : c.op = 3) (point : getBits c.target 5 5 = cp)
    (open_ : s.callEvaluate.rd CALL.STATE.relay_pend = 1) (own : cp ∈ s.callEvaluate.cpsOf (s.callEvaluate.rd CALL.STATE.relay_tgt)) :
    (s.callDone c).rd CALL.CMDSTAT.state = 2 ∧ (s.callDone c).rd CALL.STATE.duty = s.callEvaluate.rd CALL.STATE.relay_tgt ∧
      (s.callDone c).rd CALL.STATE.relay_pend = 0 ∧ (s.callDone c).rd CALL.IRQRAW.relay_done = 1 := by
  obtain ⟨f, act⟩ := State.callAct_confirm op point open_ own
  obtain ⟨duty, closed, done⟩ := State.dutyMoved_rd (State.callEvaluate_ran can).canon
  rw [← State.modCall_rd (f := f)] at duty closed done
  have after := State.callDone_ran can act
  exact ⟨State.callDone_state can act, (after.same _ (by decide)).trans duty, State.callDone_closed can act closed,
    after.raised _ (by decide) done⟩

theorem State.callDone_cancel (can : s.canonical) (op : c.op = 4) (open_ : s.callEvaluate.rd CALL.STATE.relay_pend = 1) :
    (s.callDone c).rd CALL.CMDSTAT.state = 2 ∧ (s.callDone c).rd CALL.STATE.relay_pend = 0 ∧ (s.callDone c).rd CALL.IRQRAW.relay_fail = 1 := by
  have act := State.callAct_cancel op open_
  obtain ⟨closed, failed⟩ := State.offerFail_closed (State.callEvaluate_ran can).canon
  exact ⟨State.callDone_state can act, State.callDone_closed can act closed, (State.callDone_ran can act).raised _ (by decide) failed⟩

/-- A command has armed the personnel alarm: its time runs anew, and where the alarm is in use and the interval has time it stands armed. -/
def State.armedAnew (s t : State) : Prop :=
  t.rd CALL.CMDSTAT.state = 2 ∧ t.call.tReset = s.stime % 2 ^ 48 ∧
    (0 < s.rd CALL.PERS.interval → s.rd CALL.PERS.enable = 1 → t.rd CALL.STATE.pers = 1)

theorem State.callDone_persReset (can : s.canonical)
    (act : s.callEvaluate.callAct c = (⟨2, 0⟩, s.callEvaluate.persReset (s.callEvaluate.stime % 2 ^ 48))) :
    s.armedAnew (s.callDone c) := by
  have before := State.callEvaluate_ran can
  rw [before.stime] at act
  have reset : (s.callEvaluate.persReset (s.stime % 2 ^ 48)).call.tReset = s.stime % 2 ^ 48 := by rw [State.persReset_call]
  refine ⟨State.callDone_state can act, (State.callDone_times can act).reset.elim (·.trans reset) id, fun time enabled => ?_⟩
  refine State.callDone_armed can act (State.persReset_armed before.canon) (by rw [State.persReset_call]) reset ?_ ?_
  · rwa [State.persReset_cfg rfl, before.same _ (by decide)]
  · rwa [State.persReset_cfg rfl, before.same _ (by decide)]

theorem State.callDone_arm (can : s.canonical) (op : c.op = 5) (enabled : s.callEvaluate.rd CALL.PERS.enable = 1)
    (off : s.callEvaluate.rd CALL.STATE.pers = 0) :
    s.armedAnew (s.callDone c) :=
  State.callDone_persReset can (State.callAct_arm op enabled off)

theorem State.callDone_reset (can : s.canonical) (op : c.op = 7) (on : s.callEvaluate.rd CALL.STATE.pers ≠ 0) :
    s.armedAnew (s.callDone c) :=
  State.callDone_persReset can (State.callAct_reset op on)

theorem State.callDone_disarm (can : s.canonical) (op : c.op = 6) : (s.callDone c).rd CALL.STATE.pers = 0 ∧
    (s.callEvaluate.rd CALL.STATE.pers ≠ 0 → (s.callDone c).rd CALL.CMDSTAT.state = 2) := by
  have looked := State.armLooked_canonical (State.callEvaluate_ran can).canon
  by_cases off : s.callEvaluate.rd CALL.STATE.pers = 0
  · exact ⟨State.callDone_off can (State.callAct_disarmed op off) off rfl, fun on => absurd off on⟩
  · have act := State.callAct_disarm op off
    have idle : (s.callEvaluate.armLooked.wr CALL.STATE.pers 0).call.armDue = false := by rw [State.wr_call]; rfl
    exact ⟨State.callDone_off can act (State.rd_wr looked (by decide) rfl) idle, fun _ => State.callDone_state can act⟩

end

/-! ### Commands of requesters and of pins (R261) -/

section
variable {s : State} {q : Requester} {p : Nat}

theorem State.awake_quiesced : s.awake.quiesced p = s.quiesced p := by
  have request : s.awake.rd (HDR.CTL.qreq p) = s.rd (HDR.CTL.qreq p) :=
    State.awake_rd (Nat.le_of_ble_eq_true rfl) (by simp only [HDR.CTL.qreq, PWR.STAT.state]; omega)
  have enable : s.awake.rd (HDR.CTL.enable p) = s.rd (HDR.CTL.enable p) :=
    State.awake_rd (Nat.le_of_ble_eq_true rfl) (by simp only [HDR.CTL.enable, PWR.STAT.state]; omega)
  unfold State.quiesced State.flag
  rw [request, enable]

theorem State.awake_role : s.awake.role = s.role := by
  have enable : s.awake.rd PAIR.CFG.enable = s.rd PAIR.CFG.enable := State.awake_rd_cfg rfl
  have role : s.awake.rd PAIR.STAT.role = s.rd PAIR.STAT.role := State.awake_rd (by decide) (by decide)
  unfold State.role State.flag
  rw [State.awake_present, enable, role]

/-- A command of a requester, as CALL takes it. -/
def requested (op cp e : Nat) : QueuedCmd := { op := op, target := cp % 32 * 32 + e % 16, arg := 0 }

theorem requested_point {op cp e : Nat} (hp : cp < 32) : getBits (requested op cp e).target 5 5 = cp := by
  unfold getBits requested
  dsimp only
  omega

theorem requested_engineer {op cp e : Nat} (he : e < 16) : getBits (requested op cp e).target 0 4 = e := by
  unfold getBits requested
  dsimp only
  omega

/-- A command of a requester that CALL admits is applied to the node awake, unless the node is the standby of its pair. -/
theorem answers_callCommand {i : Instr} {op cp e : Nat} {post : State → Prop} (c : s.canonical) (h : s.admits q 0x28) (role : s.role ≠ 3)
    (released : s.quiesced 0x28 = false) (command : exec i s = s.command q 0x28 fun s => s.callCommand q op cp e)
    (k : post ((s.awake.callDone (requested op cp e)).statused 0)) : answers i s post := by
  have alive : s.awake.alive 0x28 = true := (State.awake_alive c).trans (State.alive_of_writeStatus h.2)
  have released' : s.awake.quiesced 0x28 = false := State.awake_quiesced.trans released
  have applied : s.awake.callCommand q op cp e = s.awake.callDone (requested op cp e) := by
    unfold State.callCommand
    rw [State.awake_role, if_neg role]
    exact State.callEnqueue_eq alive released' rfl rfl
  refine answers_of_command command h ?_
  rw [applied]
  exact k

theorem callCommand_only {c : QueuedCmd} {n : Nat} : onlyChanges callParts s ((s.awake.callDone c).statused n) :=
  ((State.callDone_kept (State.awake_kept (Kept.refl _ s) (Part.within_of_check (by decide))) (Part.within_of_check (by decide))).status
    (Part.among_self (by decide))).only

end

end Sys2Proof.Machine

namespace Sys2Proof.Proofs

open Sys2Proof.Machine

/-- Settles O42: what each command does between its two evaluations is told by the state that the first one leaves, and the second one takes none of
it back (R255): an event raised stays raised, and no time has passed for the offer and the personnel alarm. -/
theorem callCommandsFollowTheCall : Obligations.CallCommandsFollowTheCall := by
  intro s q cp e c h role released
  have evaluated : ({ s.awake with status := 0 } : State).callEvaluate = s.awake.callEvaluate.statused 0 := State.statused_callEvaluate
  have ca := State.canonical_awake c
  have config {r : Ref} (hc : r.cfg = true) : s.awake.rd r = s.rd r := State.awake_rd_cfg hc
  rw [evaluated]
  simp only [State.statused_rd, State.statused_onRoster, State.statused_cpsOf]
  refine ⟨fun point driven low high => ?_, fun point engineer may other closed => ?_, fun point open_ own => ?_, fun open_ => ?_,
    fun enabled off => ?_, fun on => ?_, fun on => ?_⟩
  · obtain ⟨state, answered, time⟩ := State.callDone_acknowledge ca (c := requested 1 cp 0) rfl
      (requested_point point) driven low high
    refine answers_callCommand c h role released rfl ⟨rfl, ?_⟩
    simp only [State.statused_rd, State.statused_call]
    exact ⟨state, answered, State.awake_stime ▸ time, callCommand_only⟩
  · obtain ⟨state, made⟩ := State.callDone_offer ca (c := requested 2 cp e) rfl rfl
      (requested_engineer engineer) engineer may other closed
    rw [config rfl, State.awake_stime] at made
    refine answers_callCommand c h role released rfl ⟨rfl, ?_⟩
    simp only [State.statused_rd, State.statused_call]
    exact ⟨state, made, callCommand_only⟩
  · obtain ⟨state, duty, closed, done⟩ := State.callDone_confirm ca (c := requested 3 cp 0) rfl
      (requested_point point) open_ own
    refine answers_callCommand c h role released rfl ⟨rfl, ?_⟩
    simp only [State.statused_rd]
    exact ⟨state, duty, closed, done, callCommand_only⟩
  · obtain ⟨state, closed, failed⟩ := State.callDone_cancel ca (c := requested 4 0 0) rfl open_
    refine answers_callCommand c h role released rfl ⟨rfl, ?_⟩
    simp only [State.statused_rd]
    exact ⟨state, closed, failed, callCommand_only⟩
  · obtain ⟨state, reset, armed⟩ := State.callDone_arm ca (c := requested 5 0 0) rfl enabled off
    rw [(State.callEvaluate_ran ca).same _ (by decide), config rfl] at enabled
    rw [config rfl, config rfl] at armed
    refine answers_callCommand c h role released rfl ⟨rfl, ?_⟩
    simp only [State.statused_rd, State.statused_call]
    exact ⟨state, State.awake_stime ▸ reset, (armed · enabled), callCommand_only⟩
  · obtain ⟨off, state⟩ := State.callDone_disarm ca (c := requested 6 0 0) rfl
    refine answers_callCommand c h role released rfl ⟨rfl, ?_⟩
    simp only [State.statused_rd]
    exact ⟨state on, off, callCommand_only⟩
  · obtain ⟨state, reset, armed⟩ := State.callDone_reset ca (c := requested 7 0 0) rfl on
    rw [config rfl, config rfl] at armed
    refine answers_callCommand c h role released rfl ⟨rfl, ?_⟩
    simp only [State.statused_rd, State.statused_call]
    exact ⟨state, State.awake_stime ▸ reset, armed, callCommand_only⟩

end Sys2Proof.Proofs

namespace Sys2Proof.Machine

/-! ### Inputs of CALL (R261, R263) -/

section
variable {s : State} {cp : Nat}

theorem State.flag_of_one {r : Ref} (h : s.rd r = 1) : s.flag r = true := by
  rw [State.flag, h]
  rfl

theorem State.flag_of_zero {r : Ref} (h : s.rd r = 0) : s.flag r = false := by
  rw [State.flag, h]
  rfl

theorem execCallPointAckInput_acts (alive : s.alive 0x28 = true) (released : s.quiesced 0x28 = false) (point : cp < 32)
    (enabled : s.rd (CALL.CP.enable cp) = 1) (plain : s.rd (CALL.CP.watch cp) = 0) (pin : s.pinReads (s.rd (CALL.CP.ack_pin cp)) true = true) :
    execCallPointAckInput cp s = .next (s.callDone { op := 1, target := cp * 32, arg := 0, input := true }) := by
  unfold execCallPointAckInput
  rw [if_neg (by simp [point, State.flag_of_one enabled, pin]), if_neg (by simp [State.flag_of_zero plain])]
  dsimp only
  rw [State.callEnqueue_eq alive released rfl rfl]

theorem execArmPinChange_acts {up : Bool} (alive : s.alive 0x28 = true) (released : s.quiesced 0x28 = false) (enabled : s.rd CALL.PERS.enable = 1)
    (pin : s.pinReads (s.rd CALL.PERS.arm_pin) up = true) :
    execArmPinChange up s = .next (s.callDone { op := if up then 5 else 6, target := 0, arg := 0, input := true }) := by
  unfold execArmPinChange
  rw [if_neg (by simp [State.flag_of_one enabled, pin]), State.callEnqueue_eq alive released rfl rfl]

theorem execResetPinEdge_pin (alive : s.alive 0x28 = true) (released : s.quiesced 0x28 = false)
    (pin : s.pinReads (s.rd CALL.PERS.reset_pin) true = true) :
    execResetPinEdge none s = .next (s.callDone { op := 7, target := 0, arg := 0, input := true }) := by
  unfold execResetPinEdge
  exact (if_pos pin).trans (by rw [State.callEnqueue_eq alive released rfl rfl])

theorem execResetPinEdge_watch (alive : s.alive 0x28 = true) (released : s.quiesced 0x28 = false) (point : cp < 32)
    (enabled : s.rd (CALL.CP.enable cp) = 1) (watch : s.rd (CALL.CP.watch cp) = 1) (pin : s.pinReads (s.rd (CALL.CP.ack_pin cp)) true = true) :
    execResetPinEdge (some cp) s = .next (s.callDone { op := 7, target := 0, arg := 0, input := true }) := by
  unfold execResetPinEdge
  refine (if_pos ?_).trans (by rw [State.callEnqueue_eq alive released rfl rfl])
  simp [point, State.flag_of_one enabled, State.flag_of_one watch, pin]

/-- What an input of CALL may change. -/
def inputParts : List Part := [.page 0x28, .call, .head 0x14, .head 0x24, .head 0x20, .alarm]

theorem callInput_only {c : QueuedCmd} : onlyChanges inputParts s (s.callDone c) :=
  (State.callDone_kept (Kept.refl _ s) fun _ h => Part.among_self h).only

/-! ### Call points that are lost (R258) -/

theorem bit_eq_getBits (v i : Nat) : bit v i = (getBits v i 1 == 1) := by
  rw [bit, getBits, Nat.pow_one]

theorem bit_putBits_same (v i : Nat) : bit (putBits v i 1 1) i = true := by
  rw [bit_eq_getBits, getBits_putBits]
  rfl

theorem bit_putBits_other {v i j : Nat} (ne : j ≠ i) : bit (putBits v i 1 1) j = bit v j := by
  rw [bit_eq_getBits, bit_eq_getBits]
  obtain below | above := Nat.lt_or_gt_of_ne ne
  · rw [getBits_putBits_below (by omega)]
  · rw [getBits_putBits_above (by omega)]

/-- A call point is shown as lost, with its event. -/
def State.pointLost (s : State) (cp : Nat) : State :=
  (s.wr CALL.CPLOST.cp (putBits (s.rd CALL.CPLOST.cp) cp 1 1)).irq CALL.IRQRAW.cp_lost

theorem State.pointLost_rd (c : s.canonical) (point : cp < 32) :
    (s.pointLost cp).rd CALL.CPLOST.cp = putBits (s.rd CALL.CPLOST.cp) cp 1 1 ∧ (s.pointLost cp).rd CALL.IRQRAW.cp_lost = 1 := by
  refine ⟨?_, State.rd_irq (State.canonical_wr c) (by decide) rfl rfl⟩
  rw [State.pointLost, State.irq, State.rd_wr_apart (State.canonical_wr c) (by decide) (by decide), State.rd_wr c (by decide) rfl]
  exact Nat.mod_eq_of_lt (putBits_lt (State.rd_lt (by decide)) (show cp + 1 ≤ 32 by omega))

/-- In stage officer a fault may follow, which leaves both. -/
theorem execCallPointLost_shown (c : s.canonical) (alive : s.alive 0x28 = true) (point : cp < 32) (enabled : s.rd (CALL.CP.enable cp) = 1)
    (panel : s.rd (CALL.CP.kind cp) = 1 ∨ s.rd (CALL.CP.kind cp) = 3 ∨ (s.rd (CALL.CP.kind cp) = 2 ∧ s.rd (CALL.CP.out_pin cp) = 0x3F)) :
    ∃ t, execCallPointLost cp s = .next t ∧ (s.pointLost cp).ran [] t := by
  have shown : (s.pointLost cp).ran [] (s.pointLost cp) := .refl (State.canonical_irq (State.canonical_wr c))
  have reached : ¬(!s.alive 0x28 ∨ cp ≥ 32 ∨ !s.flag (CALL.CP.enable cp) ∨ s.rd (CALL.CP.kind cp) = 0) := by
    have kind : s.rd (CALL.CP.kind cp) ≠ 0 := by omega
    simp [alive, point, State.flag_of_one enabled, kind]
  have alone : ¬(s.rd (CALL.CP.kind cp) = 2 ∧ s.rd (CALL.CP.out_pin cp) ≠ 0x3F) := by omega
  unfold execCallPointLost
  rw [if_neg reached, if_neg alone]
  exact ⟨_, rfl, shown.faultNocp.ite shown⟩

end

/-! ### A message formed (R389, R398) -/

/-- What MSG counts of its messages besides queues and buffers: those formed, those that wait, the sequence numbers, and the records to send. -/
def MsgState.ledger (m : MsgState) : Nat × List Outgoing × Keyed Nat × List (List Byte) := (m.formed, m.waiting, m.seqs, m.records)

section
variable {s t : State} {n : Nat} {f : TmlFrame} {o : Outgoing}

theorem State.each_ledger {α : Type} {g : State → α → State} (h : ∀ t a, (g t a).msg.ledger = t.msg.ledger) :
    ∀ (l : List α) {s : State}, (s.each l g).msg.ledger = s.msg.ledger
  | [], _ => rfl
  | a :: l, s => (State.each_ledger h l (s := g s a)).trans (h s a)

theorem Kept.msg_eq {l : List Part} (h : Kept l s t) (out : Part.msg ∉ l) : t.msg = s.msg := h.only.1 .msg out

theorem State.setQueue_ledger {q : List TmlFrame} : (s.setQueue n q).msg.ledger = s.msg.ledger := rfl

/-- A frame enters or misses the queues of its ports. -/
theorem State.enqueue_ledger {ports : List Nat} : (s.enqueue ports f).msg.ledger = s.msg.ledger := by
  refine State.each_ledger (fun t n => ?_) ports
  split
  · have dropped : Kept [.head 0x24, .head 0x14, .page 0x34, .head 0x20] t (t.txDrop.fault MSG.FAULT.qfull 0x0112) :=
      State.fault_kept (State.txDrop_kept (Kept.refl _ t) (Part.within_of_check (by decide)))
        (MSG.FAULT.qfull_zoned (Part.among_self (by decide))) (Part.within_of_check (by decide))
    rw [dropped.msg_eq (by decide)]
  · exact State.setQueue_ledger

theorem State.loadFrame_ledger {k : Nat} : (s.loadFrame n k f).msg.ledger = s.msg.ledger := by
  have cancel {t : State} {m j : Nat} {g : MsgState → MsgState} (h : ∀ m, (g m).ledger = m.ledger) :
      ((t.txCancel m j).modMsg g).msg.ledger = t.msg.ledger :=
    (h _).trans (congrArg _ ((State.txCancel_kept (Kept.refl _ t) fun _ h => Part.among_self h).msg_eq (by decide)))
  have filled : Kept [.pages 0x30 0x34] s ((((s.wr (BUS.TXID n k) (2 ^ 29 + f.id % 2 ^ 29)).wr (BUS.TXCTL n k)
      (ofBool (s.usesBrs n) * 64 + 32 + dlcFor f.data.length)).each (List.range 16) fun st i =>
        st.wr (BUS.TXDATA.data n k i) (ofBytesLE ((f.data.drop (4 * i)).take 4)))) :=
    Kept.each (State.wr_kept (State.wr_kept (Kept.refl _ s) (BUS.TXID_zoned (Part.among_self (by decide))))
      (BUS.TXCTL_zoned (Part.among_self (by decide)))) fun _ _ h => State.wr_kept h (BUS.TXDATA.data_zoned (Part.among_self (by decide)))
  have request {t : State} : (t.txRequest n k).msg = t.msg := (State.txRequest_kept (Kept.refl _ t) fun _ h => Part.among_self h).msg_eq (by decide)
  unfold State.loadFrame
  extract_lets s1 s2 s3
  have loaded : s3.msg.ledger = s.msg.ledger :=
    Eq.trans (b := (s2.txRequest n k).msg.ledger) rfl (congrArg MsgState.ledger (request.trans (filled.msg_eq (by decide))))
  clear_value s3
  split
  · exact loaded
  · split
    · refine (State.each_ledger (fun t j => ?_) _).trans loaded
      split
      · exact cancel fun _ => rfl
      · rfl
    · exact loaded

theorem State.pumpPort_ledger : (s.pumpPort n).msg.ledger = s.msg.ledger := by
  unfold State.pumpPort
  extract_lets free q ready
  split
  · rfl
  · cases free with
    | none => rfl
    | some k =>
      cases ready with
      | none => rfl
      | some e => exact State.loadFrame_ledger.trans State.setQueue_ledger

/-- While no record is to be sent, loading buffers forms nothing. -/
theorem State.pump_ledger (none : s.msg.records = []) : s.pump.msg.ledger = s.msg.ledger := by
  have unformed : s.formRecords = s := by
    unfold State.formRecords
    rw [none]
    rfl
  unfold State.pump
  rw [unformed]
  dsimp only
  split
  · rfl
  · exact State.each_ledger (fun t _ => State.each_ledger (fun u n => State.pumpPort_ledger) t.portList) _

/-- A message that needs no key is formed, or waits. -/
theorem State.formOrWait_ledger (keyless : unauthTypes.contains o.type = true) : ∃ formed waiting,
    (s.formOrWait o).msg.ledger = (formed, waiting, s.msg.seqs, s.msg.records) ∧
      formed + waiting.length = s.msg.formed + s.msg.waiting.length + 1 := by
  unfold State.formOrWait
  split
  · exact ⟨s.msg.formed, s.msg.waiting ++ [o], rfl, by rw [List.length_append]; rfl⟩
  · refine ⟨s.msg.formed + 1, s.msg.waiting, ?_, by omega⟩
    unfold State.formTml
    extract_lets stamp s1 id
    split
    · rw [if_pos keyless, State.enqueue_ledger]
      rfl
    · dsimp only
      rw [State.enqueue_ledger]
      rfl

/-- A message of a type takes the type's next sequence number. -/
theorem State.sendTml_ledger {cls type : Nat} {dest : Option Nat} {body : List Byte} (may : s.maySend type = true)
    (keyless : unauthTypes.contains type = true) : ∃ formed waiting,
    (s.sendTml cls type dest body).msg.ledger =
        (formed, waiting, Keyed.put s.msg.seqs type ((Keyed.get 0 s.msg.seqs type + 1) % 256), s.msg.records) ∧
      formed + waiting.length = s.msg.formed + s.msg.waiting.length + 1 := by
  unfold State.sendTml State.sendOn
  rw [if_neg (by simp [may])]
  exact State.formOrWait_ledger (s := s.modMsg _) keyless

end

/-! ### A demand sent (R254) -/

section
variable {s : State}

/-- What the sending of a message may change, apart from MSG itself. -/
def sendParts : List Part := [.msg, .head 0x24, .head 0x14, .page 0x34, .head 0x20, .pages 0x30 0x34, .ports]

theorem execDemandSend_sends (alive : s.alive 0x28 = true) (slave : s.rd CALL.CFG.master = 0) (may : s.maySend 3 = true) : ∃ m,
    execDemandSend s = .next m.pump ∧ m.call = { s.call with sentDemand := some (s.flag CALL.STATE.demand) } ∧ Kept (.call :: sendParts) s m ∧
      ∃ formed waiting, m.msg.ledger = (formed, waiting, Keyed.put s.msg.seqs 3 ((Keyed.get 0 s.msg.seqs 3 + 1) % 256), s.msg.records) ∧
        formed + waiting.length = s.msg.formed + s.msg.waiting.length + 1 := by
  have sent (dest : Option Nat) (body : List Byte) : Kept sendParts s (s.sendTml 1 3 dest body) :=
    State.sendTml_kept (Kept.refl _ s) (Part.within_of_check (by decide))
  refine ⟨_, by unfold execDemandSend; rw [if_neg (by simp [alive, State.flag_of_zero slave, may])], ?_, ?_, ?_⟩
  · rw [State.modCall_call, (sent _ _).only.1 .call (by decide)]
  · exact State.modCall_kept ((sent _ _).mono (Part.within_of_check (by decide))) (Part.within_of_check (by decide))
  · exact State.sendTml_ledger may (by decide)

end

end Sys2Proof.Machine

namespace Sys2Proof.Proofs

open Sys2Proof.Machine

section
variable {s : State}

/-! ### Inputs (R261, R263) -/

theorem callPointAckInput_answers (c : s.canonical) (alive : s.alive 0x28 = true) (released : s.quiesced 0x28 = false) {cp : Nat} (point : cp < 32)
    (enabled : s.rd (CALL.CP.enable cp) = 1) (plain : s.rd (CALL.CP.watch cp) = 0) (pin : s.pinReads (s.rd (CALL.CP.ack_pin cp)) true = true)
    (driven : bit (s.callEvaluate.rd CALL.CPDRIVE.cp) cp = true) (low : 1 ≤ s.callEvaluate.rd CALL.STATE.stage)
    (high : s.callEvaluate.rd CALL.STATE.stage ≤ 3) : answers (.callPointAckInput cp) s fun t =>
      t.rd CALL.CMDSTAT.state = 2 ∧ t.rd CALL.IRQRAW.answered = 1 ∧ t.call.tAns = s.stime % 2 ^ 48 ∧
        onlyChanges inputParts s t := by
  have target : getBits (cp * 32) 5 5 = cp := by unfold getBits; omega
  obtain ⟨state, answered, time⟩ := State.callDone_acknowledge c (c := { op := 1, target := cp * 32, arg := 0, input := true }) rfl target driven
    low high
  exact ⟨_, execCallPointAckInput_acts alive released point enabled plain pin, state, answered, time, callInput_only⟩

theorem armPinChange_acts (c : s.canonical) (alive : s.alive 0x28 = true) (released : s.quiesced 0x28 = false) {up : Bool}
    (enabled : s.rd CALL.PERS.enable = 1) (pin : s.pinReads (s.rd CALL.PERS.arm_pin) up = true) (time : 0 < s.rd CALL.PERS.interval) :
    answers (.armPinChange up) s fun t =>
      (if up then (s.callEvaluate.rd CALL.STATE.pers = 0 → t.rd CALL.STATE.pers = 1 ∧ t.call.tReset = s.stime % 2 ^ 48)
        else t.rd CALL.STATE.pers = 0) ∧ onlyChanges inputParts s t := by
  refine ⟨_, execArmPinChange_acts alive released enabled pin, ?_, callInput_only⟩
  cases up with
  | true =>
    intro off
    have enabled' := ((State.callEvaluate_ran c).same CALL.PERS.enable (by decide)).trans enabled
    obtain ⟨-, reset, armed⟩ := State.callDone_arm c (c := { op := 5, target := 0, arg := 0, input := true }) rfl enabled' off
    exact ⟨armed time enabled, reset⟩
  | false => exact (State.callDone_disarm c rfl).1

theorem resetPinEdge_arms (c : s.canonical) (enabled : s.rd CALL.PERS.enable = 1) (time : 0 < s.rd CALL.PERS.interval)
    (on : s.callEvaluate.rd CALL.STATE.pers ≠ 0) {watch : Option Nat}
    (acts : execResetPinEdge watch s = .next (s.callDone { op := 7, target := 0, arg := 0, input := true })) :
    answers (.resetPinEdge watch) s fun t => t.rd CALL.STATE.pers = 1 ∧ t.call.tReset = s.stime % 2 ^ 48 ∧
      onlyChanges inputParts s t := by
  obtain ⟨-, reset, armed⟩ := State.callDone_reset c (c := { op := 7, target := 0, arg := 0, input := true }) rfl on
  exact ⟨_, acts, armed time enabled, reset, callInput_only⟩

/-! ### Offers, call points and demands (R254, R258, R264) -/

theorem offerTimeout_fails (c : s.canonical) (working : s.working 0x28 = true) (open_ : s.rd CALL.STATE.relay_pend = 1) :
    answers .offerTimeout s fun t =>
      t.rd CALL.STATE.relay_pend = 0 ∧ t.rd CALL.IRQRAW.relay_fail = 1 ∧ onlyChanges [.page 0x28, .head 0x14] s t := by
  have step : execOfferTimeout s = .next s.offerFail := by
    unfold execOfferTimeout
    rw [if_pos (by simp [working, State.flag_of_one open_])]
  obtain ⟨closed, failed⟩ := State.offerFail_closed c
  exact ⟨_, step, closed, failed, (State.offerFail_kept (Kept.refl _ s) fun _ h => Part.among_self h).only⟩

theorem callPointLost_shown (c : s.canonical) {cp : Nat} (alive : s.alive 0x28 = true) (point : cp < 32) (enabled : s.rd (CALL.CP.enable cp) = 1)
    (panel : s.rd (CALL.CP.kind cp) = 1 ∨ s.rd (CALL.CP.kind cp) = 3 ∨ (s.rd (CALL.CP.kind cp) = 2 ∧ s.rd (CALL.CP.out_pin cp) = 0x3F)) :
    answers (.callPointLost cp) s fun t =>
      bit (t.rd CALL.CPLOST.cp) cp = true ∧ t.rd CALL.IRQRAW.cp_lost = 1 ∧
        (∀ j, j ∈ List.range 32 → j ≠ cp → bit (t.rd CALL.CPLOST.cp) j = bit (s.rd CALL.CPLOST.cp) j) ∧
        onlyChanges [.page 0x28, .head 0x14, .head 0x24, .head 0x20] s t := by
  obtain ⟨t, step, ran⟩ := execCallPointLost_shown c alive point enabled panel
  obtain ⟨lost, event⟩ := State.pointLost_rd c point
  have shown : t.rd CALL.CPLOST.cp = putBits (s.rd CALL.CPLOST.cp) cp 1 1 := (ran.same _ (by decide)).trans lost
  refine ⟨t, step, ?_, ran.raised _ (by decide) event, fun j _ ne => ?_,
    (execCallPointLost_kept (Kept.refl _ s) (fun _ h => Part.among_self h) t step).only⟩
  · rw [shown, bit_putBits_same]
  · rw [shown, bit_putBits_other ne]

theorem demandStale_raised (c : s.canonical) {n : Nat} (alive : s.alive 0x28 = true) (master : s.rd CALL.CFG.master = 1)
    (received : (Keyed.get? s.call.demands n).isSome = true) : answers (.demandStale n) s fun t =>
      t.rd CALL.IRQRAW.demand_stale = 1 ∧ t.call = s.call ∧ onlyChanges [.head 0x14] s t := by
  have step : execDemandStale n s = .next (s.irq CALL.IRQRAW.demand_stale) := by
    unfold execDemandStale
    rw [if_pos (by simp [alive, State.flag_of_one master, received])]
  exact ⟨_, step, State.rd_irq c (by decide) rfl rfl, State.irq_call,
    (execDemandStale_kept (Kept.refl _ s) (fun _ h => Part.among_self h) _ step).only⟩

theorem demandSend_sends (alive : s.alive 0x28 = true) (slave : s.rd CALL.CFG.master = 0) (may : s.maySend 3 = true) :
    answers .demandSend s fun t =>
      t.call = { s.call with sentDemand := some (s.flag CALL.STATE.demand) } ∧ t.rd CALL.STATE.demand = s.rd CALL.STATE.demand ∧ t.live = s.live ∧
      (s.msg.records = [] → t.msg.formed + t.msg.waiting.length = s.msg.formed + s.msg.waiting.length + 1 ∧
        Keyed.get 0 t.msg.seqs 3 = (Keyed.get 0 s.msg.seqs 3 + 1) % 256) := by
  obtain ⟨m, step, call, sent, formed, waiting, ledger, counted⟩ := execDemandSend_sends alive slave may
  have pumped : Kept sendParts m m.pump := State.pump_kept (Kept.refl _ m) (Part.within_of_check (by decide))
  have kept : Kept (.call :: sendParts) s m.pump := sent.trans (pumped.mono (Part.within_of_check (by decide)))
  refine ⟨_, step, (pumped.only.1 .call (by decide)).trans call, kept.rd rfl (by decide) (.inl (by decide)), kept.only.1 .live (by decide),
    fun none => ?_⟩
  have records : m.msg.records = [] := (congrArg (·.2.2.2) ledger).trans none
  have after := (State.pump_ledger records).trans ledger
  have formed' : m.pump.msg.formed = formed := congrArg (·.1) after
  have waiting' : m.pump.msg.waiting = waiting := congrArg (·.2.1) after
  have seqs' : m.pump.msg.seqs = _ := congrArg (·.2.2.1) after
  rw [formed', waiting', seqs']
  exact ⟨counted, Keyed.get_put _⟩

end

/-- Settles O43: an input is applied as the command that it stands for, and the events change the registers that show them; a demand that is sent is
formed, or waits for a freshness value (R398). -/
theorem callPinsAndEventsAct : Obligations.CallPinsAndEventsAct := by
  intro s c
  refine ⟨fun alive released => ⟨fun _ point enabled plain pin driven low high => ?_, fun _ enabled pin time => ?_,
    fun enabled pin time on => ?_, fun _ enabled point used watch pin time on => ?_⟩, offerTimeout_fails c, fun _ => callPointLost_shown c,
    fun _ => demandStale_raised c, demandSend_sends⟩
  · exact callPointAckInput_answers c alive released point enabled plain pin driven low high
  · exact armPinChange_acts c alive released enabled pin time
  · exact resetPinEdge_arms c enabled time on (execResetPinEdge_pin alive released pin)
  · exact resetPinEdge_arms c enabled time on (execResetPinEdge_watch alive released point used watch pin)

end Sys2Proof.Proofs

/-!
PROOFS. The universal loop channels: a readback sample, the end of a window, the host's value, and the temperature of a stage. First the facts
about the operations involved: the fields of a channel, its state, what it drives, and its flags; then the statements.
-/

namespace Sys2Proof.Machine

/-! ### The fields of a loop channel (R293) -/

/-- A field of a word that each channel has: SET, OUT, RB, TV or STAT. -/
def Ref.ofChannel (q : Ref) : Prop := q.cfg = false ∧ q.lo + q.w ≤ 32 ∧ 0x18080 ≤ q.addr ∧ q.addr < 0x18120

/-- A field of another word. -/
def Ref.beside (r : Ref) : Bool := decide (r.lo + r.w ≤ 32 ∧ (r.addr < 0x18080 ∨ 0x18120 ≤ r.addr))

section
variable {s t : State} {q r : Ref} {u p a b lo w lo' w' n : Nat} {l : List Part} {v : Int}

/-- Word `u` of an array of the page belongs to channel `u`. -/
theorem Ref.ofChannel_word (h : 0x18080 ≤ a ∧ a + 32 ≤ 0x18120 ∧ lo + w ≤ 32) : Ref.ofChannel ⟨a + 4 * (u % 8), lo, w, false⟩ :=
  ⟨rfl, h.2.2, by dsimp only; omega, by dsimp only; omega⟩

/-- Two fields of one channel are told apart by their arrays or their bits. -/
theorem Ref.disjoint_word (h : lo + w ≤ 32 ∧ lo' + w' ≤ 32 ∧ (a ≠ b ∨ lo + w ≤ lo' ∨ lo' + w' ≤ lo)) :
    Ref.disjoint ⟨a + 4 * (u % 8), lo, w, false⟩ ⟨b + 4 * (u % 8), lo', w', false⟩ :=
  ⟨h.1, h.2.1, h.2.2.imp_left fun ne e => ne (Nat.add_right_cancel e)⟩

theorem Ref.ofChannel.disjoint (hq : q.ofChannel) (hr : r.beside = true) : q.disjoint r := by
  obtain ⟨-, narrow, low, high⟩ := hq
  obtain ⟨one, beside⟩ := of_decide_eq_true hr
  exact ⟨narrow, one, .inl (by omega)⟩

theorem Ref.disjoint_of_beside (hr : r.beside = true) (hq : q.ofChannel) : r.disjoint q := by
  obtain ⟨-, narrow, low, high⟩ := hq
  obtain ⟨one, beside⟩ := of_decide_eq_true hr
  exact ⟨one, narrow, .inl (by omega)⟩

/-- A header is beside the channels. -/
theorem Ref.ofChannel.head {k : Nat} (hq : q.ofChannel) (hk : k < 0x40) : (Part.head k).covers q.addr = false := by
  obtain ⟨-, -, low, high⟩ := hq
  simp only [Part.covers, beq_eq_false_iff_ne]
  omega

theorem unsigned_lt : unsigned w v < 2 ^ w := by
  have pos : (0 : Int) < (2 ^ w : Nat) := Int.natCast_pos.mpr (Nat.two_pow_pos w)
  have low := Int.emod_nonneg v (Int.ne_of_gt pos)
  have high := Int.emod_lt_of_pos v pos
  unfold unsigned
  omega

/-- A field holds an integer by its bits in two's complement. -/
theorem State.rd_wrInt (c : s.canonical) (hw : r.lo + r.w ≤ 32) (hc : r.cfg = false) : (s.wrInt r v).rd r = unsigned r.w v :=
  (State.rd_wr c hw hc).trans (Nat.mod_eq_of_lt unsigned_lt)

/-- Where neither the power nor the reset of a block is touched, it stays on or off. -/
theorem Kept.alive (h : Kept l s t) (straps : Part.straps ∉ l) (pwr : Part.pwr ∉ l) (rst : Part.rst ∉ l)
    (state : ∀ z ∈ l, z.covers PWR.STAT.state.addr = false) : t.alive p = s.alive p := by
  have straps' : t.straps = s.straps := h.only.1 .straps straps
  have pwr' : t.pwr = s.pwr := h.only.1 .pwr pwr
  have rst' : t.rst = s.rst := h.only.1 .rst rst
  have state' : t.rd PWR.STAT.state = s.rd PWR.STAT.state := h.rd rfl state (.inl (by decide))
  simp only [State.alive, State.powered, State.present, State.variant, State.domainOn, straps', pwr', rst', state']

/-! ### The state of a channel -/

section
variable {f : LoopState → LoopState}

@[simp] theorem State.modLoop_loop : (s.modLoop u f).loop u = f (s.loop u) := Keyed.get_put _

@[simp] theorem State.modLoop_rd : (s.modLoop u f).rd q = s.rd q := rfl

theorem State.canonical_modLoop (c : s.canonical) : (s.modLoop u f).canonical := c

theorem State.loop_congr (h : t.loops = s.loops) : t.loop u = s.loop u := by
  unfold State.loop
  rw [h]

end

@[simp] theorem State.wr_loop {m : Nat} : (s.wr r m).loop u = s.loop u := State.loop_congr State.wr_loops

/-- What a channel counts of its samples: the runs that its flags follow, and the window. -/
def LoopState.runs (l : LoopState) : (Nat × Nat × Nat × Nat × Nat × Nat) × Int × Nat :=
  ((l.satRun, l.clearRun, l.lowRun, l.highRun, l.mismatch, l.matchRun), l.winSum, l.winCount)

theorem State.noteLoop_rd : (s.noteLoop u n).rd q = s.rd q := by
  unfold State.noteLoop
  dsimp only
  split <;> rfl

theorem State.noteLoop_runs : ((s.noteLoop u n).loop u).runs = (s.loop u).runs := by
  unfold State.noteLoop
  dsimp only
  split
  · rfl
  · rw [State.modLoop_loop]
    rfl

/-! ### What a channel drives (R284) -/

/-- The row of R284 in force is shown. -/
def State.rowShown (s : State) (u : Nat) : State :=
  (s.wr (UIO.STAT.row u) (s.loopRow u).1).modLoop u fun l => { l with driving := (s.loopRow u).2.isSome }

/-- Driving shows the row, and may change the DAC code and with it the settling time. -/
theorem State.driveLoop_cases (s : State) (u : Nat) : s.driveLoop u = s.rowShown u ∨
    ∃ code time, s.driveLoop u = ((s.rowShown u).wr (UIO.STAT.code u) code).modLoop u fun l => { l with settleLeft := time } := by
  unfold State.driveLoop State.rowShown
  generalize s.loopRow u = decided
  obtain ⟨row, value⟩ := decided
  cases value with
  | none => exact .inl rfl
  | some x =>
    dsimp -zeta only
    extract_lets s1 mode code
    clear_value mode
    split
    · exact .inl rfl
    · split
      · exact .inl rfl
      · exact .inr ⟨_, _, rfl⟩

theorem State.canonical_rowShown (c : s.canonical) : (s.rowShown u).canonical := State.canonical_modLoop (State.canonical_wr c)

/-- A field apart from the code keeps what showing the row leaves in it. -/
theorem State.driveLoop_shown (c : s.canonical) (code : q.disjoint (UIO.STAT.code u)) : (s.driveLoop u).rd q = (s.rowShown u).rd q := by
  obtain shown | ⟨_, _, coded⟩ := s.driveLoop_cases u
  · rw [shown]
  · rw [coded, State.modLoop_rd, State.rd_wr_disjoint (State.canonical_rowShown c) code]

theorem State.driveLoop_rd (c : s.canonical) (row : q.disjoint (UIO.STAT.row u)) (code : q.disjoint (UIO.STAT.code u)) :
    (s.driveLoop u).rd q = s.rd q := by
  rw [State.driveLoop_shown c code, State.rowShown, State.modLoop_rd, State.rd_wr_disjoint c row]

/-- The change stamp of a status input is no register. -/
theorem State.driveLoop_noteLoop_rd (c : s.canonical) (row : q.disjoint (UIO.STAT.row u)) (code : q.disjoint (UIO.STAT.code u)) :
    ((s.driveLoop u).noteLoop u n).rd q = s.rd q := State.noteLoop_rd.trans (State.driveLoop_rd c row code)

theorem State.driveLoop_row (c : s.canonical) : (s.driveLoop u).rd (UIO.STAT.row u) = (s.loopRow u).1 % 16 := by
  have apart : (UIO.STAT.row u).disjoint (UIO.STAT.code u) := Ref.disjoint_word (by decide)
  rw [State.driveLoop_shown c apart, State.rowShown, State.modLoop_rd]
  exact State.rd_wr c (Nat.le_of_ble_eq_true rfl) rfl

theorem State.driveLoop_runs : ((s.driveLoop u).loop u).runs = (s.loop u).runs := by
  have shown : ((s.rowShown u).loop u).runs = (s.loop u).runs := by
    rw [State.rowShown, State.modLoop_loop, State.wr_loop]
    rfl
  obtain row | ⟨_, _, coded⟩ := s.driveLoop_cases u
  · rw [row, shown]
  · rw [coded, State.modLoop_loop, State.wr_loop]
    exact shown

/-- A stage that is too hot is off by row 3 once its channel has begun to drive and while the field has its supply. -/
theorem State.loopRow_thermal (alive : s.alive 0x18 = true) (started : (s.loop u).started = true) (supply : s.jkt.vstate ≠ 2)
    (hot : s.rd (UIO.STAT.thermal u) = 1) : s.loopRow u = (3, none) := by
  unfold State.loopRow
  dsimp only
  rw [if_neg (by simp [alive, started]), if_neg supply, if_pos (State.flag_of_one hot)]

/-! ### The flags of a channel (R279, R280) -/

section
variable {flag irq count ovf fault : Ref} {code detail : Nat} {set : Bool} {clear : Prop}

theorem State.canonical_loopSet (c : s.canonical) : (s.loopSet flag irq count ovf).canonical :=
  State.canonical_stick (State.canonical_irq (State.canonical_wr c))

theorem State.loopSet_loops : (s.loopSet flag irq count ovf).loops = s.loops :=
  ((State.stick_regs.only.1 .loops (by decide)).trans State.irq_loops).trans State.wr_loops

/-- Of the fields of the channels only the flag is set: the event and the counter are elsewhere. -/
theorem State.loopSet_rd (c : s.canonical) (hq : q.ofChannel) (hi : irq.beside = true) (hc : count.beside = true) (ho : ovf.beside = true) :
    (s.loopSet flag irq count ovf).rd q = (s.wr flag 1).rd q := by
  have overflow : ∀ e, some UIO.IRQRAW.cnt_ovf = some e → q.disjoint e := fun e he => by
    cases he
    exact hq.disjoint (by decide)
  rw [State.loopSet, State.rd_stick_disjoint (State.canonical_irq (State.canonical_wr c)) (hq.disjoint hc) (hq.disjoint ho) overflow,
    State.rd_irq_disjoint (State.canonical_wr c) (hq.disjoint hi)]

theorem State.fault_loops : (s.fault fault code detail).loops = s.loops := State.fault_regs.only.1 .loops (by decide)

/-- A fault is shown in the header alone. -/
theorem State.fault_head (z : Zoned [.head 0x24, .head 0x14, .head 0x20] fault) :
    Kept [.head 0x24, .head 0x14, .head 0x20] s (s.fault fault code detail) :=
  State.fault_kept (Kept.refl _ s) z (Part.within_of_check (by decide))

theorem State.fault_channel (z : Zoned [.head 0x24, .head 0x14, .head 0x20] fault) (hq : q.ofChannel) :
    (s.fault fault code detail).rd q = s.rd q := by
  have ⟨reg, narrow, _⟩ := hq
  refine (State.fault_head z).rd reg (fun p hp => ?_) (.inl narrow)
  simp only [List.mem_cons, List.not_mem_nil, or_false] at hp
  obtain rfl | rfl | rfl := hp <;> exact hq.head (by decide)

/-- From `s` to `t` one flag of the channels may have changed: set where `set` holds, cleared where `clear` does. -/
structure State.flagStep (flag : Ref) (set clear : Prop) (s t : State) : Prop where
  canon : t.canonical
  loops : t.loops = s.loops
  same : ∀ q : Ref, q.ofChannel → q.disjoint flag → t.rd q = s.rd q
  raised : set → ¬clear → t.rd flag = 1
  cleared : clear → ¬set → t.rd flag = 0

/-- A flag that is not set is raised by a step that shows in no other field of the channels. -/
theorem State.flagStep_ite {x : State} {raise drop : Prop} [Decidable clear] (c : s.canonical) (one : flag.w = 1) (hf : flag.ofChannel)
    (hset : set = true ↔ raise) (hclear : clear ↔ drop)
    (canon : x.canonical) (loops : x.loops = s.loops) (shown : ∀ q : Ref, q.ofChannel → x.rd q = (s.wr flag 1).rd q) :
    s.flagStep flag raise drop (if set && !s.flag flag then x else if clear then s.wr flag 0 else s) := by
  have ⟨reg, narrow, _⟩ := hf
  rw [← hclear, ← hset]
  split
  · next raise =>
    exact ⟨canon, loops, fun q hq apart => (shown q hq).trans (State.rd_wr_disjoint c apart),
      fun _ _ => (shown flag hf).trans (State.rd_wr_one c narrow one reg), fun _ unset => absurd (Bool.and_eq_true_iff.mp raise).1 unset⟩
  · next stays =>
    split
    · next clears =>
      exact ⟨State.canonical_wr c, State.wr_loops, fun _ _ => State.rd_wr_disjoint c, fun _ unclear => absurd clears unclear,
        fun _ _ => (State.rd_wr c narrow reg).trans (Nat.zero_mod _)⟩
    · next unclear =>
      refine ⟨c, rfl, fun _ _ _ => rfl, fun set _ => ?_, fun clears => absurd clears unclear⟩
      have bound := State.rd_lt (s := s) narrow
      have already : s.flag flag = true := by simpa [set] using stays
      simp only [State.flag, bne_iff_ne] at already
      rw [one] at bound
      omega

end

end

/-! ### A readback sample (R276, R279) -/

/-- A sample is shown, with the new state of its channel. -/
def State.sampleShown (s : State) (u : Nat) (rb tv : Int) (l : LoopState) : State :=
  ((s.modLoop u fun _ => l).wrInt (UIO.RB.rb u) rb).wrInt (UIO.TV.tv u) tv

/-- COMPLIANCE follows the samples that are saturated. -/
def State.complianceStep (s : State) (u : Nat) (l : LoopState) : State :=
  if l.satRun = 2 && !s.flag (UIO.STAT.compliance u) then
    s.loopSet (UIO.STAT.compliance u) UIO.IRQRAW.compliance UIO.COMPCNT.count UIO.CNTOVF.comp
  else if l.clearRun ≥ 10 then s.wr (UIO.STAT.compliance u) 0 else s

/-- LOOP_LOW follows the samples whose terminal voltage is low, and clears while the output value is 0. -/
def State.lowStep (s : State) (u : Nat) (l : LoopState) (out : Int) : State :=
  if l.lowRun ≥ 10 && !s.flag (UIO.STAT.loop_low u) then
    s.loopSet (UIO.STAT.loop_low u) UIO.IRQRAW.loop_low UIO.LOWCNT.count UIO.CNTOVF.low
  else if l.highRun ≥ 10 || out = 0 then s.wr (UIO.STAT.loop_low u) 0 else s

/-- OUTFLT follows the time of mismatch. -/
def State.outfltStep (s : State) (u : Nat) (l : LoopState) (mis : Bool) (time : Nat) : State :=
  if mis && decide (time ≤ l.mismatch) && !s.flag (UIO.STAT.outflt u) then
    (s.loopSet (UIO.STAT.outflt u) UIO.IRQRAW.outflt UIO.OUTFLTCNT.count UIO.CNTOVF.outflt).fault UIO.FAULT.outflt 0x0110 u
  else if l.matchRun ≥ time then s.wr (UIO.STAT.outflt u) 0 else s

/-- The state that a sample leaves before its channel drives, with the new state of the channel and whether the sample counts as a mismatch. -/
def State.sampleTested (s : State) (u : Nat) (rb tv : Int) (l : LoopState) (mis : Bool) : State :=
  (((s.sampleShown u rb tv l).complianceStep u l).lowStep u l (s.rdInt (UIO.OUT.out u))).outfltStep u l mis (s.rd UIO.CFG.fault_ms)

/-- The state that it leaves. -/
def State.sampleTaken (s : State) (u : Nat) (rb tv : Int) (l : LoopState) (mis : Bool) : State :=
  ((s.sampleTested u rb tv l mis).driveLoop u).noteLoop u s.stime

/-- What a sample makes of its channel: the conditions of R279 exclude each other, so that no flag has both to set and to clear. -/
structure State.sampleRuns (s : State) (u : Nat) (rb : Int) (saturated mis : Bool) (l : LoopState) : Prop where
  satRun : l.satRun = if saturated = true ∧ s.loopOff u = false ∧
      (s.loopMode u = 1 ∨ s.loopMode u = 3 ∨ s.loopMode u = 4 ∨ s.loopMode u = 5) then (s.loop u).satRun + 1 else 0
  compliance : l.satRun = 0 ∨ l.clearRun = 0
  low : l.lowRun = 0 ∨ l.highRun = 0 ∧ s.rdInt (UIO.OUT.out u) ≠ 0
  mismatch : l.matchRun = 0 ↔ mis = true
  window : (s.loop u).winOpen = true → l.winSum = (s.loop u).winSum + rb ∧ l.winCount = (s.loop u).winCount + 1

section
variable {s : State} {u : Nat} {rb tv out : Int} {saturated mis : Bool} {l : LoopState} {time : Nat}

/-- A sample of a channel in use is shown, moves its flags, and lets it drive. -/
theorem execReadbackSample_steps (alive : s.alive 0x18 = true) (present : u < s.variant.loops) (mode : s.loopMode u ≠ 0) :
    ∃ l mis, s.sampleRuns u rb saturated mis l ∧
      execReadbackSample u rb tv saturated s = .next (s.sampleTaken u rb tv l mis) := by
  unfold execReadbackSample
  rw [if_neg (by simp [alive, mode, present])]
  extract_lets m lp off more counts sat low code away mis faultMs l1 s1 s2 s3 s4
  have saturates : sat = true ↔ saturated = true ∧ s.loopOff u = false ∧ (m = 1 ∨ m = 3 ∨ m = 4 ∨ m = 5) := by
    simp only [sat, off, Bool.and_eq_true, Bool.not_eq_true', Bool.or_eq_true, beq_iff_eq, and_assoc, or_assoc]
  have lows : low = true → tv < 4000 ∧ s.rdInt (UIO.OUT.out u) ≠ 0 := by
    simp only [low, Bool.and_eq_true, decide_eq_true_eq]
    omega
  clear_value sat low mis
  refine ⟨l1, mis, ⟨ite_congr (propext saturates) (fun _ => rfl) fun _ => rfl, ?_, ?_, ?_, fun opened => ⟨if_pos opened, if_pos opened⟩⟩, rfl⟩
  · cases sat with
    | true => exact .inr rfl
    | false => exact .inl rfl
  · cases low with
    | true => exact .inr ⟨if_pos (lows rfl).1, (lows rfl).2⟩
    | false => exact .inl rfl
  · cases mis with
    | true => exact iff_of_true rfl rfl
    | false => exact iff_of_false (Nat.succ_ne_zero _) Bool.false_ne_true

theorem State.sampleShown_loop : (s.sampleShown u rb tv l).loop u = l := by
  rw [State.sampleShown, State.wrInt, State.wr_loop, State.wrInt, State.wr_loop, State.modLoop_loop]

theorem State.canonical_sampleShown (c : s.canonical) : (s.sampleShown u rb tv l).canonical :=
  State.canonical_wr (State.canonical_wr (State.canonical_modLoop c))

theorem State.sampleShown_rb (c : s.canonical) : (s.sampleShown u rb tv l).rd (UIO.RB.rb u) = unsigned 32 rb := by
  have apart : (UIO.RB.rb u).disjoint (UIO.TV.tv u) := Ref.disjoint_word (by decide)
  have shown : (s.modLoop u fun _ => l).canonical := c
  refine (State.rd_wr_disjoint (State.canonical_wr shown) apart).trans ?_
  exact State.rd_wrInt shown (Nat.le_of_ble_eq_true rfl) rfl

theorem State.sampleShown_tv (c : s.canonical) : (s.sampleShown u rb tv l).rd (UIO.TV.tv u) = unsigned 32 tv :=
  State.rd_wrInt (State.canonical_wr (State.canonical_modLoop c)) (Nat.le_of_ble_eq_true rfl) rfl

theorem State.complianceStep_flag (c : s.canonical) :
    s.flagStep (UIO.STAT.compliance u) (l.satRun = 2) (10 ≤ l.clearRun) (s.complianceStep u l) :=
  State.flagStep_ite c rfl (Ref.ofChannel_word (by decide)) decide_eq_true_iff Iff.rfl (State.canonical_loopSet c) State.loopSet_loops
    fun _ hq => State.loopSet_rd c hq (by decide) (by decide) (by decide)

theorem State.lowStep_flag (c : s.canonical) :
    s.flagStep (UIO.STAT.loop_low u) (10 ≤ l.lowRun) (10 ≤ l.highRun ∨ out = 0) (s.lowStep u l out) :=
  State.flagStep_ite c rfl (Ref.ofChannel_word (by decide)) decide_eq_true_iff
    (by rw [Bool.or_eq_true, decide_eq_true_iff, decide_eq_true_iff]) (State.canonical_loopSet c) State.loopSet_loops
    fun _ hq => State.loopSet_rd c hq (by decide) (by decide) (by decide)

theorem State.outfltStep_flag (c : s.canonical) :
    s.flagStep (UIO.STAT.outflt u) (mis = true ∧ time ≤ l.mismatch) (time ≤ l.matchRun) (s.outfltStep u l mis time) :=
  State.flagStep_ite c rfl (Ref.ofChannel_word (by decide)) (by rw [Bool.and_eq_true, decide_eq_true_iff]) Iff.rfl
    (State.canonical_fault (State.canonical_loopSet c)) (State.fault_loops.trans State.loopSet_loops) fun _ hq =>
    (State.fault_channel (UIO.FAULT.outflt_zoned (Part.among_self (by decide))) hq).trans
      (State.loopSet_rd c hq (by decide) (by decide) (by decide))

/-- What a sample changes of its channel's words and counts. -/
structure State.sampleEffect (s : State) (u : Nat) (rb tv : Int) (l : LoopState) (mis : Bool) (t : State) : Prop where
  rb : t.rd (UIO.RB.rb u) = unsigned 32 rb
  tv : t.rd (UIO.TV.tv u) = unsigned 32 tv
  runs : (t.loop u).runs = l.runs
  compliance : l.satRun = 2 → ¬10 ≤ l.clearRun → t.rd (UIO.STAT.compliance u) = 1
  complied : 10 ≤ l.clearRun → ¬l.satRun = 2 → t.rd (UIO.STAT.compliance u) = 0
  low : 10 ≤ l.lowRun → ¬(10 ≤ l.highRun ∨ s.rdInt (UIO.OUT.out u) = 0) → t.rd (UIO.STAT.loop_low u) = 1
  risen : 10 ≤ l.highRun → ¬10 ≤ l.lowRun → t.rd (UIO.STAT.loop_low u) = 0
  outflt : mis = true → s.rd UIO.CFG.fault_ms ≤ l.mismatch → ¬s.rd UIO.CFG.fault_ms ≤ l.matchRun → t.rd (UIO.STAT.outflt u) = 1
  matched : s.rd UIO.CFG.fault_ms ≤ l.matchRun → ¬mis = true → t.rd (UIO.STAT.outflt u) = 0

/-- Each flag is changed by its own step: no other step, and not the driving of the channel, reaches it. -/
theorem State.sampleTaken_effect (c : s.canonical) : s.sampleEffect u rb tv l mis (s.sampleTaken u rb tv l mis) := by
  have c1 := State.canonical_sampleShown (u := u) (rb := rb) (tv := tv) (l := l) c
  have comp := State.complianceStep_flag (u := u) (l := l) c1
  have low := State.lowStep_flag (u := u) (l := l) (out := s.rdInt (UIO.OUT.out u)) comp.canon
  have out : State.flagStep _ _ _ _ (s.sampleTested u rb tv l mis) := State.outfltStep_flag low.canon
  have driven {q : Ref} (row : q.disjoint (UIO.STAT.row u)) (code : q.disjoint (UIO.STAT.code u)) :
      (s.sampleTaken u rb tv l mis).rd q = (s.sampleTested u rb tv l mis).rd q :=
    State.driveLoop_noteLoop_rd out.canon row code
  have outShown : (s.sampleTaken u rb tv l mis).rd (UIO.STAT.outflt u) = _ := driven (Ref.disjoint_word (by decide)) (Ref.disjoint_word (by decide))
  have lowShown : (s.sampleTaken u rb tv l mis).rd (UIO.STAT.loop_low u) = _ :=
    (driven (Ref.disjoint_word (by decide)) (Ref.disjoint_word (by decide))).trans
      (out.same _ (Ref.ofChannel_word (by decide)) (Ref.disjoint_word (by decide)))
  have compShown : (s.sampleTaken u rb tv l mis).rd (UIO.STAT.compliance u) = _ :=
    (driven (Ref.disjoint_word (by decide)) (Ref.disjoint_word (by decide))).trans
      ((out.same _ (Ref.ofChannel_word (by decide)) (Ref.disjoint_word (by decide))).trans
        (low.same _ (Ref.ofChannel_word (by decide)) (Ref.disjoint_word (by decide))))
  have shown {q : Ref} (hq : q.ofChannel) (other : q.addr ≠ (UIO.STAT u).addr) :
      (s.sampleTaken u rb tv l mis).rd q = (s.sampleShown u rb tv l).rd q := by
    have ⟨_, narrow, _⟩ := hq
    have apart {lo w : Nat} (h : lo + w ≤ 32) : q.disjoint ⟨(UIO.STAT u).addr, lo, w, false⟩ := ⟨narrow, h, .inl other⟩
    rw [driven (apart (by decide)) (apart (by decide)), out.same q hq (apart (by decide)), low.same q hq (apart (by decide)),
      comp.same q hq (apart (by decide))]
  exact {
    rb := (shown (Ref.ofChannel_word (by decide)) (by simp [UIO.STAT])).trans (State.sampleShown_rb c)
    tv := (shown (Ref.ofChannel_word (by decide)) (by simp [UIO.STAT])).trans (State.sampleShown_tv c)
    runs := by
      rw [State.sampleTaken, State.noteLoop_runs, State.driveLoop_runs, State.loop_congr (out.loops.trans (low.loops.trans comp.loops)),
        State.sampleShown_loop]
    compliance := fun seen unclear => compShown.trans (comp.raised seen unclear)
    complied := fun clear unseen => compShown.trans (comp.cleared clear unseen)
    low := fun seen unclear => lowShown.trans (low.raised seen unclear)
    risen := fun clear unseen => lowShown.trans (low.cleared (.inl clear) unseen)
    outflt := fun mis seen unclear => outShown.trans (out.raised ⟨mis, seen⟩ unclear)
    matched := fun clear agrees => outShown.trans (out.cleared clear fun seen => agrees seen.1) }

end

/-! ### The end of a window (R277) -/

section
variable {s t : State} {u : Nat} {e : ConvEntry}

/-- An entry joins the queue of an ARITH that takes up work. -/
theorem State.arithQueue_arith (alive : s.alive 0x11 = true) (released : s.quiesced 0x11 = false) :
    (s.arithQueue e).arith = { s.arith with queue := s.arith.queue ++ [e] } := by
  unfold State.arithQueue
  rw [if_neg (by simp [alive]), if_neg (by simp [released])]
  dsimp only
  split
  · exact State.wr_arith
  · rfl

/-- The entry of a loop record names its channel and the lap in which its window began, and holds the sum and number of the samples; a window
without samples has an entry of one, its sum open. -/
theorem execLoopWindowEnd_queues (alive : s.alive 0x18 = true) (channel : u < 8) (opened : (s.loop u).winOpen = true) : ∃ n e,
    execLoopWindowEnd u s = .next ((({ s with freeCount := n } : State).modLoop u fun l => { l with winOpen := false }).arithQueue e) ∧
      (e.kind, e.ch, e.lap, e.n) = (.loop, 512 + u, (s.loop u).winLap, max 1 (s.loop u).winCount) ∧
      (0 < (s.loop u).winCount → e.sum = (s.loop u).winSum) := by
  unfold execLoopWindowEnd
  dsimp only
  rw [if_neg (by simp [alive, channel, opened])]
  by_cases empty : (s.loop u).winCount = 0
  · simp only [if_pos empty]
    exact ⟨_, _, rfl, rfl, fun some => absurd empty (Nat.ne_of_gt some)⟩
  · simp only [if_neg empty]
    exact ⟨s.freeCount, _, rfl, rfl, fun _ => rfl⟩

end

/-! ### The host's value (R283) -/

section
variable {s : State} {u : Nat} {v : Int}

theorem State.wr_loopMode {r : Ref} {n : Nat} : (s.wr r n).loopMode u = s.loopMode u := State.rd_wr_cfg rfl

/-- The mode and the source of a channel are configuration. -/
theorem State.wr_loopFrom {r : Ref} {n src : Nat} : (s.wr r n).loopFrom u src = s.loopFrom u src := by
  have source : (s.wr r n).rd (UIO.ENT.src u) = s.rd (UIO.ENT.src u) := State.rd_wr_cfg rfl
  rw [State.loopFrom, State.wr_loopMode, source, State.loopFrom]

theorem State.loopOut_rd {q : Ref} (c : s.canonical) (out : q.disjoint (UIO.OUT.out u)) (row : q.disjoint (UIO.STAT.row u))
    (code : q.disjoint (UIO.STAT.code u)) : (s.loopOut u v).rd q = s.rd q :=
  (State.driveLoop_rd (State.canonical_wr c) row code).trans (State.rd_wr_disjoint c out)

theorem State.loopOut_out (c : s.canonical) : (s.loopOut u v).rd (UIO.OUT.out u) = unsigned 32 (clampSet (s.loopMode u) v) :=
  (State.driveLoop_rd (State.canonical_wr c) (Ref.disjoint_word (by decide)) (Ref.disjoint_word (by decide))).trans
    (State.rd_wrInt c (Nat.le_of_ble_eq_true rfl) rfl)

theorem State.loopSetTo_set (c : s.canonical) : (s.loopSetTo u v).rd (UIO.SET.set_ u) = unsigned 32 v := by
  have kept : (s.wrInt (UIO.SET.set_ u) v).rd (UIO.SET.set_ u) = unsigned 32 v := State.rd_wrInt c (Nat.le_of_ble_eq_true rfl) rfl
  unfold State.loopSetTo
  dsimp only
  split
  · exact (State.loopOut_rd (State.canonical_wr c) (Ref.disjoint_word (by decide)) (Ref.disjoint_word (by decide))
      (Ref.disjoint_word (by decide))).trans kept
  · exact kept

theorem State.loopSetTo_out (c : s.canonical) : (s.loopSetTo u v).rd (UIO.OUT.out u) =
    if s.loopFrom u 0 then unsigned 32 (clampSet (s.loopMode u) v) else s.rd (UIO.OUT.out u) := by
  have set : (UIO.OUT.out u).disjoint (UIO.SET.set_ u) := Ref.disjoint_word (by decide)
  unfold State.loopSetTo State.wrInt
  dsimp only
  rw [State.wr_loopFrom]
  split
  · rw [State.loopOut_out (State.canonical_wr c), State.wr_loopMode]
  · exact State.rd_wr_disjoint c set

theorem State.awake_loopMode : s.awake.loopMode u = s.loopMode u := State.awake_rd_cfg rfl

theorem State.awake_loopFrom {src : Nat} : s.awake.loopFrom u src = s.loopFrom u src := by
  have source : s.awake.rd (UIO.ENT.src u) = s.rd (UIO.ENT.src u) := State.awake_rd_cfg rfl
  rw [State.loopFrom, State.awake_loopMode, source, State.loopFrom]

end

/-! ### The temperature of a stage (R284) -/

section
variable {s : State} {u : Nat}

/-- A stage is shown as too hot, with its fault. -/
def State.hotShown (s : State) (u : Nat) : State := (s.wr (UIO.STAT.thermal u) 1).fault UIO.FAULT.thermal 0x0112 u

theorem State.canonical_hotShown (c : s.canonical) : (s.hotShown u).canonical := State.canonical_fault (State.canonical_wr c)

theorem State.hotShown_thermal (c : s.canonical) : (s.hotShown u).rd (UIO.STAT.thermal u) = 1 :=
  (State.fault_channel (UIO.FAULT.thermal_zoned (Part.among_self (by decide))) (Ref.ofChannel_word (by decide))).trans
    (State.rd_wr_one c (Nat.le_of_ble_eq_true rfl) rfl rfl)

theorem State.hotShown_fault (c : s.canonical) : (s.hotShown u).rd UIO.FAULT.thermal = 1 :=
  State.rd_fault (State.canonical_wr c) rfl rfl (by unfold Ref.disjoint; decide) (by unfold Ref.disjoint; decide)

theorem State.hotShown_row (c : s.canonical) (alive : s.alive 0x18 = true) (started : (s.loop u).started = true) (supply : s.jkt.vstate ≠ 2) :
    (s.hotShown u).loopRow u = (3, none) := by
  have stat : (UIO.STAT.thermal u).addr ≠ PWR.STAT.state.addr := by simp only [UIO.STAT.thermal, PWR.STAT.state]; omega
  have head : Kept [.head 0x24, .head 0x14, .head 0x20] (s.wr (UIO.STAT.thermal u) 1) (s.hotShown u) :=
    State.fault_head (UIO.FAULT.thermal_zoned (Part.among_self (by decide)))
  have jkt : (s.hotShown u).jkt = s.jkt := (head.only.1 .jkt (by decide)).trans State.wr_jkt
  have loop : (s.hotShown u).loop u = s.loop u := (State.loop_congr State.fault_loops).trans State.wr_loop
  have alive' : (s.hotShown u).alive 0x18 = s.alive 0x18 :=
    (head.alive (by decide) (by decide) (by decide) (by decide)).trans (State.wr_alive (Nat.le_of_ble_eq_true rfl) stat)
  exact State.loopRow_thermal (alive'.trans alive) (by rw [loop, started]) (by rw [jkt]; exact supply) (State.hotShown_thermal c)

end

end Sys2Proof.Machine

namespace Sys2Proof.Proofs

open Sys2Proof.Machine

section
variable {s : State} {u : Nat}

/-! ### Samples and windows (R277, R279) -/

theorem readbackSample_taken {rb tv : Int} {saturated : Bool} (c : s.canonical) (alive : s.alive 0x18 = true) (present : u < s.variant.loops)
    (mode : s.loopMode u ≠ 0) : answers (.readbackSample u rb tv saturated) s fun t => ∃ l mis,
      s.sampleRuns u rb saturated mis l ∧ s.sampleEffect u rb tv l mis t ∧
        onlyChanges [.loops, .page 0x18, .head 0x14, .head 0x24, .head 0x20] s t := by
  obtain ⟨l, mis, runs, step⟩ := execReadbackSample_steps (rb := rb) (tv := tv) (saturated := saturated) alive present mode
  exact ⟨_, step, l, mis, runs, State.sampleTaken_effect c,
    (execReadbackSample_kept (Kept.refl _ s) (fun _ h => Part.among_self h) _ step).only⟩

theorem loopWindowEnd_passes (alive : s.alive 0x18 = true) (arith : s.alive 0x11 = true) (released : s.quiesced 0x11 = false) (channel : u < 8)
    (opened : (s.loop u).winOpen = true) : answers (.loopWindowEnd u) s fun t =>
      (t.loop u).winOpen = false ∧ t.arith.queue.dropLast = s.arith.queue ∧
        (t.arith.queue.getLast?.map fun e => (e.kind, e.ch, e.lap, e.n)) = some (.loop, 512 + u, (s.loop u).winLap, max 1 (s.loop u).winCount) ∧
        (0 < (s.loop u).winCount → (t.arith.queue.getLast?.map ConvEntry.sum) = some (s.loop u).winSum) ∧
        onlyChanges [.freeCount, .loops, .lap, .page 0x11, .head 0x14, .arith] s t := by
  obtain ⟨n, e, step, entry, sum⟩ := execLoopWindowEnd_queues alive channel opened
  let closed := ({ s with freeCount := n } : State).modLoop u fun l => { l with winOpen := false }
  have queue : (closed.arithQueue e).arith = { s.arith with queue := s.arith.queue ++ [e] } := State.arithQueue_arith arith released
  have loops : (closed.arithQueue e).loops = closed.loops :=
    (State.arithQueue_kept (Kept.refl _ closed) fun _ h => Part.among_self h).only.1 .loops (by decide)
  refine ⟨_, step, ?_, ?_, ?_, fun some => ?_, (execLoopWindowEnd_kept (Kept.refl _ s) (fun _ h => Part.among_self h) _ step).only⟩
  · rw [State.loop_congr loops, State.modLoop_loop]
  · rw [queue, List.dropLast_concat]
  · rw [queue, List.getLast?_concat, Option.map_some, entry]
  · rw [queue, List.getLast?_concat, Option.map_some, sum some]

/-! ### The host's value and the temperature (R283, R284) -/

theorem loopSetWrite_keeps {q : Requester} {v : Int} (c : s.canonical) (channel : u < 8) (h : s.admits q 0x18) :
    answers (.loopSetWrite q u v) s fun t =>
      t.status = 0 ∧ t.rd (UIO.SET.set_ u) = unsigned 32 v ∧
        t.rd (UIO.OUT.out u) = (if s.loopFrom u 0 then unsigned 32 (clampSet (s.loopMode u) v) else s.rd (UIO.OUT.out u)) ∧
        onlyChanges [.status, .page 0x01, .page 0x18, .loops] s t := by
  have command : execLoopSetWrite q u v s = s.command q 0x18 fun s => s.loopSetTo u v := if_neg (by omega)
  have ca := State.canonical_awake c
  have out : s.awake.rd (UIO.OUT.out u) = s.rd (UIO.OUT.out u) :=
    State.awake_rd (Nat.le_of_ble_eq_true rfl) (by simp only [UIO.OUT.out, PWR.STAT.state]; omega)
  refine answers_of_command command h ⟨rfl, State.loopSetTo_set ca, ?_, ?_⟩
  · rw [State.rd_status, State.loopSetTo_out ca, State.awake_loopFrom, State.awake_loopMode, out]
  · exact (execLoopSetWrite_kept (Kept.refl _ s) (fun _ m => Part.among_self m) _ (command.trans (State.command_ok h.1 h.2))).only

theorem stageThermal_protects {celsius : Int} (c : s.canonical) (alive : s.alive 0x18 = true) (present : u < s.variant.loops) :
    answers (.stageThermal u celsius) s fun t =>
      (150 < celsius → t.rd (UIO.STAT.thermal u) = 1 ∧ t.rd UIO.FAULT.thermal = 1 ∧
        ((s.loop u).started = true → s.jkt.vstate ≠ 2 → t.rd (UIO.STAT.row u) = 3)) ∧
      (celsius < 130 → t.rd (UIO.STAT.thermal u) = 0) ∧ (130 ≤ celsius → celsius ≤ 150 → t = s) ∧
      onlyChanges [.loops, .page 0x18, .head 0x24, .head 0x14, .head 0x20] s t := by
  have only {t : State} (step : execStageThermal u celsius s = .next t) :=
    (execStageThermal_kept (Kept.refl [.loops, .page 0x18, .head 0x24, .head 0x14, .head 0x20] s) (fun _ h => Part.among_self h) t step).only
  have reached : ¬((!s.alive 0x18) = true ∨ u ≥ s.variant.loops) := by simp [alive, present]
  by_cases hot : 150 < celsius
  · have step : execStageThermal u celsius s = .next (((s.hotShown u).driveLoop u).noteLoop u s.stime) := by
      unfold execStageThermal
      rw [if_neg reached, if_pos hot]
      rfl
    refine ⟨_, step, fun _ => ⟨?_, ?_, fun started supply => ?_⟩, fun _ => by omega, fun _ _ => by omega, only step⟩
    · exact (State.driveLoop_noteLoop_rd (State.canonical_hotShown c) (Ref.disjoint_word (by decide)) (Ref.disjoint_word (by decide))).trans
        (State.hotShown_thermal c)
    · have head : UIO.FAULT.thermal.beside = true := by decide
      exact (State.driveLoop_noteLoop_rd (State.canonical_hotShown c) (Ref.disjoint_of_beside head (Ref.ofChannel_word (by decide)))
        (Ref.disjoint_of_beside head (Ref.ofChannel_word (by decide)))).trans (State.hotShown_fault c)
    · rw [State.noteLoop_rd, State.driveLoop_row (State.canonical_hotShown c), State.hotShown_row c alive started supply]
      rfl
  · by_cases cold : celsius < 130
    · have step : execStageThermal u celsius s = .next (((s.wr (UIO.STAT.thermal u) 0).driveLoop u).noteLoop u s.stime) := by
        unfold execStageThermal
        rw [if_neg reached, if_neg hot, if_pos cold]
      refine ⟨_, step, fun _ => by omega, fun _ => ?_, fun _ _ => by omega, only step⟩
      exact (State.driveLoop_noteLoop_rd (State.canonical_wr c) (Ref.disjoint_word (by decide)) (Ref.disjoint_word (by decide))).trans
        (State.rd_wr c (Nat.le_of_ble_eq_true rfl) rfl)
    · have step : execStageThermal u celsius s = .next s := by
        unfold execStageThermal
        rw [if_neg reached, if_neg hot, if_neg cold]
      exact ⟨_, step, fun _ => by omega, fun _ => by omega, fun _ _ => rfl, only step⟩

end

/-- Settles O44: the conditions of R279 exclude each other, so each flag follows its own run; the host's value is kept as written and clamped where
it drives (notes/assumptions/37.md). -/
theorem loopChannelsSampleDriveAndProtect : Obligations.LoopChannelsSampleDriveAndProtect := by
  intro s u c channel
  refine ⟨fun rb tv saturated alive present mode => ?_, fun alive arith released opened => loopWindowEnd_passes alive arith released channel opened,
    fun _ _ => loopSetWrite_keeps c channel, fun _ => stageThermal_protects c⟩
  obtain ⟨t, step, l, mis, runs, effect, only⟩ := readbackSample_taken (rb := rb) (tv := tv) (saturated := saturated) c alive present mode
  have counts : (t.loop u).runs = l.runs := effect.runs
  simp only [LoopState.runs, Prod.mk.injEq] at counts
  obtain ⟨⟨satRun, clearRun, lowRun, highRun, mismatch, matchRun⟩, winSum, winCount⟩ := counts
  have clear := runs.compliance
  have high := runs.low
  have mismatches := runs.mismatch
  refine ⟨t, step, ?_⟩
  dsimp only
  rw [satRun, clearRun, lowRun, highRun, mismatch, matchRun, winSum, winCount]
  refine ⟨effect.rb, effect.tv, runs.satRun, fun seen => effect.compliance seen (by omega), fun seen => effect.complied seen (by omega),
    fun seen => effect.low seen (by omega), fun seen => effect.risen seen (by omega),
    fun time => ⟨fun none seen => effect.outflt (mismatches.mp none) seen (by omega), fun seen => effect.matched seen fun mis => ?_⟩,
    runs.window, only⟩
  have none := mismatches.mpr mis
  omega

end Sys2Proof.Proofs
